-- ==== Sys2Proof/Word.lean ====
section
/-!
DEFINITION. The word types of the GV-9640 model and the time unit.

A register is 32 bits (R8). Times inside the model are natural numbers in units of 2^-16 ns, the
resolution of the FRAC field of station time (R84).
-/

namespace Sys2Proof

/-- A register word (R8). -/
abbrev Word := BitVec 32

/-- A byte of a record, a section body or a frame. -/
abbrev Byte := BitVec 8

/-- A sparse table: keys strictly rising, no entry equal to the table's default value. -/
abbrev Tbl (α : Type) := List (Nat × α)

/-- 1 ns in units of 2^-16 ns. -/
def nsUnit : Nat := 65536

/-- 1 µs in units of 2^-16 ns. -/
def usUnit : Nat := 65536000

/-- 1 ms in units of 2^-16 ns. -/
def msUnit : Nat := 65536000000

/-- 1 s in units of 2^-16 ns. -/
def secUnit : Nat := 65536000000000

end Sys2Proof
end

