-- ==== Sys2Proof/Machine/StPln.lean ====
section
/-!
DEFINITION. State of the sample plane (R220 to R238).
-/

namespace Sys2Proof.Machine

open Sys2Proof

/-- A channel slot's per-channel state and the outputs written but not yet visible (R211, R224, R228).
`pendG` holds pairs of lattice count and visibility tick, `pendI` pairs of input count and visibility tick,
oldest first. DEDUCED, log entry 64. -/
structure Chan where
  stream : Nat := 0xFFFF
  chan : Nat := 0
  grid : Nat := 0
  table : Nat := 0
  inputAges : Nat := 0
  inUse : Bool := false
  subst : Bool := false
  filled : Bool := false
  headG : Nat := 0
  headI : Nat := 0
  marksOr : Nat := 0
  settleLeft : Nat := 0
  pendG : List (Nat × Nat) := []
  pendI : List (Nat × Nat) := []
deriving DecidableEq, Repr

/-- Every signal at quality NOT_RECEIVED (R229). -/
def binQualReset : BitVec 32768 := BitVec.ofNat 32768 ((2 ^ 32768 - 1) / 3)

/-- The sample plane. -/
structure PlnUnit where
  mem : List Host.Cell := []
  chans : Tbl Chan := []
  headFrame : Nat := 0
  binVal : BitVec 16384 := 0
  binQual : BitVec 32768 := binQualReset
  work : BitVec 4096 := 0
  committed : BitVec 4096 := 0
  late : BitVec 4096 := 0
  open_ : Bool := false
  banks : Tbl Nat := []
  poison : List Nat := []
  scrub : Bool := false
  frameNum : Nat := 0
  hist : Nat := 0
  eccAddr : Nat := 0
deriving DecidableEq, Repr

end Sys2Proof.Machine
end

