-- ==== Sys2Proof/Machine/StSvi.lean ====
section
/-!
DEFINITION. State of the sampled-value intake (R156 to R189) and of the conditioning chain (R190 to
R219, R505).
-/

namespace Sys2Proof.Machine

open Sys2Proof

/-- A sample that waits behind an earlier one (R176): its place in the stream, its instant and its
channels' values and marks. -/
structure Wait where
  pos : Nat
  time : Nat
  data : List (Nat × Nat)
deriving DecidableEq, Repr

/-- The interval of a substitution (R182, R183): the instants from which the slots take the partner's
samples and from which they return. -/
structure Subst where
  start : Nat
  stop : Option Nat
deriving DecidableEq, Repr

/-- One stream (R179). `state` 0 UNUSED, 1 NO_TIME, 2 WAITING, 3 OK, 4 IMPAIRED, 5 LOST. `next` is the
place of the next sample to pass, `missed` the ranges of places passed as missing, latest first. -/
structure Stream where
  state : Nat := 0
  forced : Bool := false
  sim : Bool := false
  arrival : Bool := false
  placed : Bool := false
  anchor : Nat := 0
  next : Nat := 0
  first : Nat := 0
  lastTime : Nat := 0
  waits : List Wait := []
  missed : List (Nat × Nat) := []
  lastPos : Nat := 0
  smpSynch : Nat := 0
  smpCnt : Nat := 0
  vals : List Nat := []
  missRun : Nat := 0
  missFirst : Nat := 0
  goodRun : Nat := 0
  okTime : Nat := 0
  count : Nat := 0
  gap : Bool := false
  resync : Bool := false
  subst : Option Subst := none
  confSeen : Bool := false
deriving DecidableEq, Repr

/-- A subscription of a stream to forced substitution that waits for its tick (R187). -/
structure SviPend where
  force : Bool
  stream : Nat
  target : Nat
deriving DecidableEq, Repr

/-- The intake. `incomplete` holds pairs of frame tick and stream (R185). -/
structure SviUnit where
  streams : Tbl Stream := []
  lastNoMatch : Nat := 0
  complete : Nat := 0
  completeFrame : Nat := 0
  incomplete : List (Nat × Nat) := []
  pend : Option SviPend := none
deriving DecidableEq, Repr

/-- The delay line of one section, in binary64 (R191). -/
structure SecState where
  x1 : Nat := 0
  x2 : Nat := 0
  y1 : Nat := 0
  y2 : Nat := 0
deriving DecidableEq, Repr

/-- One output of a slot: full lattice count, instant, value, mark, phasor, phasor mark and the tick of
its visibility frame (R199, R207, R211). -/
structure GridOut where
  n : Nat
  tau : Nat
  value : Nat
  mark : Nat
  re : Nat
  im : Nat
  pmark : Nat
  vis : Nat
deriving DecidableEq, Repr

/-- One conditioning slot (R190). `kept` holds instant and binary64 value of the kept samples since the
restart, `ins` instant and mark of the inputs, `outs` the outputs, all latest first. DESIGN CHOICE, log
entry 115. -/
structure Slot where
  run : Bool := false
  syncAt : Option Nat := none
  s0 : Nat := 0
  secs : List SecState := []
  kept : List (Nat × Nat) := []
  ins : List (Nat × Nat) := []
  restart : Nat := 0
  next : Nat := 0
  outs : List GridOut := []
deriving DecidableEq, Repr

/-- One instant of a lattice (R202): its count L, its index k since the sync, the instant and the
deadline on which its frequency estimate depends (R211). -/
structure LatPt where
  n : Nat
  k : Nat
  tau : Nat
  due : Nat
deriving DecidableEq, Repr

/-- A lattice (R202), its instants latest first. DESIGN CHOICE, log entry 115. -/
structure Lattice where
  pts : List LatPt := []
deriving DecidableEq, Repr

/-- One source's estimator (R204): th and fr of the unbroken run, latest first, and f. -/
structure EstSrc where
  th : List Nat := []
  fr : List Nat := []
  f : Option Nat := none
  run : Nat := 0
deriving DecidableEq, Repr

/-- One estimate of a group: its number m, F in 2^-24 Hz and the deadline of its last input. -/
structure Est where
  m : Nat
  freq : Nat
  due : Nat
deriving DecidableEq, Repr

/-- A frequency reference group (R203 to R205). -/
structure Group where
  src0 : EstSrc := {}
  src1 : EstSrc := {}
  m : Nat := 0
  hist : List Est := []
  freq : Nat := 0
  valid : Bool := false
  was : Bool := false
  held : Bool := false
  limit : Bool := false
  slewing : Bool := false
  source : Nat := 0
  heldAt : Nat := 0
deriving DecidableEq, Repr

/-- A sync that waits for its S0 (R213), and whether a command started it. -/
structure SyncPend where
  s0 : Nat
  byCmd : Bool
  local_ : Bool
deriving DecidableEq, Repr

/-- The chain. -/
structure CndUnit where
  slots : Tbl Slot := []
  lats : Tbl Lattice := []
  groups : Tbl Group := []
  s0 : Option Nat := none
  lastS0 : Nat := 0
  pend : List SyncPend := []
  armed : Option Nat := none
  line : Bool := false
  drive : Bool := false
  aligned : Bool := false
  lastLocal : Bool := false
  afterStep : Bool := false
  lastIn : Nat := 0
deriving DecidableEq, Repr

end Sys2Proof.Machine
end

