-- ==== Sys2Proof/Machine/StAlign.lean ====
section
/-!
DEFINITION. The state items that an alignment moves (R330), in the model's own layout.
-/

namespace Sys2Proof.Machine

open Sys2Proof

/-- A state item of R330: a conditioning slot with its channel state and the eight rings of its channel and
instants, a lattice with its instants, a frequency estimator, a function's state block, or the decision
history. The item's state is in the layout of the stepping, which the spec does not give: it is the model's
(DESIGN CHOICE, log entry 21). -/
inductive AlignItem where
  | slot (x : Slot) (c : Chan) (rings : List (List Byte))
  | lattice (l : Lattice) (ring : List Byte)
  | estimator (g : Group)
  | function (copyA copyB : List Byte) (sel consec : Nat)
  | decisions (work : BitVec 4096) (history : List Byte)
deriving DecidableEq, Repr

end Sys2Proof.Machine
end

