-- ==== Sys2Proof/Syntax.lean ====
section
/-!
DEFINITION. The syntax of the model: who accesses a register, frames and messages as the module's own receivers decode
them, what the module sends, and the commands, one constructor per row of spec/opcode_table.json.
-/

namespace Sys2Proof

/-- Who makes a register access (R86, R384): PF0, a host core, or a virtual function. -/
inductive Requester where
  | pf0
  | core (h : Fin 4)
  | vf (v : Fin 256)
deriving DecidableEq, Repr

/-- A PRP trailer or HSR tag of a frame (R145, R146): LAN or path identifier and sequence number. -/
structure RedTag where
  hsr : Bool
  lan : Nat
  seq : Nat
deriving DecidableEq, Repr

/-- An Ethernet frame without its FCS: the VLAN tags, the EtherType and the octets that follow. -/
structure Frame where
  dst : Nat
  src : Nat
  vlans : List Nat
  etherType : Nat
  payload : List Byte
  red : Option RedTag
deriving DecidableEq, Repr

/-- A verification tag of a received message: its key identifier, its algorithm (1 HMAC-SHA256-128,
2 AES-GMAC) and whether it verifies under that key (R165). -/
structure AuthTag where
  keyId : Nat
  alg : Nat
  valid : Bool
deriving DecidableEq, Repr

/-- One ASDU of a sampled-value frame (R162): `data` holds its pairs of INT32 and quality. -/
structure SvAsdu where
  svId : List Byte
  smpCnt : Nat
  confRev : Nat
  smpSynch : Nat
  smpRate : Option Nat
  data : List Byte
deriving DecidableEq, Repr

/-- A sampled-value frame as intake decodes it (R162 to R165). `red` is the redundancy group and
sequence number with which it arrived, `ago` the time since its receive timestamp. -/
structure SvFrame where
  dst : Nat
  src : Nat
  appid : Nat
  sim : Bool
  wellFormed : Bool
  unsupported : Bool
  tag : Option AuthTag
  red : Option (Nat × Nat)
  asdus : List SvAsdu
  ago : Nat
deriving DecidableEq, Repr

/-- One member of a received GOOSE's allData, as far as a subscription can use it (R297, R298): a boolean, a
bit-string with bit 0 of its value the first bit sent last as in R168, or a value of another type. -/
inductive GVal where
  | boolean (b : Bool)
  | bits (size value : Nat)
  | other
deriving DecidableEq, Repr

/-- A received GOOSE message (R298). `sim` is the edition 2 Simulate bit, `ttl` its timeAllowedToLive in ms,
`red` the redundancy group and sequence number with which it arrived, `ago` the time since its receive
timestamp. -/
structure GooseMsg where
  dst : Nat
  src : Nat
  appid : Nat
  routable : Bool
  destIp : Nat
  edition : Nat
  sim : Bool
  wellFormed : Bool
  tag : Option AuthTag
  red : Option (Nat × Nat)
  gocbRef : List Byte
  ttl : Nat
  stNum : Nat
  sqNum : Nat
  test : Bool
  confRev : Nat
  ndsCom : Bool
  entries : Nat
  data : List GVal
  ago : Nat
deriving DecidableEq, Repr

/-- A received lantern (R294, R296). `members` holds its members 1 to 3: identifier, mode, takeover count. -/
structure LanternMsg where
  dst : Nat
  appid : Nat
  wellFormed : Bool
  suffix : Nat
  tag : Option AuthTag
  ttl : Nat
  mode : Nat
  count : Nat
deriving DecidableEq, Repr

/-- What is wrong with a received frame apart from its length (R115). -/
inductive RxBad where
  | none
  | fcs
  | align
  | symbol
  | unsupported
deriving DecidableEq, Repr

/-- What the module sends out. -/
inductive OutMsg where
  | msi (fn vec : Nat)
  | guestInt (vec : Nat)
  | dma (fn addr : Nat) (bytes : List Byte)
  | ptp (domain port kind cls seq time : Nat)
  | pps (level : Bool)
  | syncLine (level : Bool)
  | coil (k : Nat) (drive free : Bool)
  | frame (port : Nat) (f : Frame) (stomped : Bool)
  | pfc (port cls quanta : Nat)
  | deliver (endpoint : Nat) (f : Frame)
  | canFrame (c : Nat) (id : Word) (dlc : Nat) (data : List Byte)
  | breg (path : Nat) (bytes : List Byte)
  | align (kind id x : Nat) (item : Machine.AlignItem)
  | hotPlug
  | indicator
deriving DecidableEq, Repr

/-- A command: one happening at the module. Every command carries `dt`, the span of the module's own clock since the
command before it, in 2^-16 ns; 0 puts it in the same clock. Other operands: `rsv` and `arg`, bits [15:8] and [31:16]
of a write to a command register (R37); `buf`, the bytes that a command reads from its argument buffer; `q`, who
makes the access; `p`, a port (0 to 31, and 32 for SP); `k`, a keeper, a coil channel or a slot; `v`, a function; `d`, a
PTP domain; `m`, a received message; `ago`, the time since the happening's timestamp. What a sensor, an estimator or
another device supplies is an operand too. -/
inductive Instr where
  /-- REGISTER_WRITE (R11). -/
  | registerWrite (dt : Nat) (q : Requester) (a : Nat) (value hwSet : Word) (buf : List Byte)
  /-- PARTIAL_WRITE (R9). -/
  | partialWrite (dt : Nat) (q : Requester) (a : Nat) (be : BitVec 4)
  /-- RC_COUNTER_READ (R11). -/
  | rcCounterRead (dt : Nat) (q : Requester) (a : Nat)
  /-- BCN_TIME_NS_READ (R86). -/
  | bcnTimeNsRead (dt : Nat) (q : Requester)
  /-- BCN_RATE_LO_READ (R108). -/
  | bcnRateLoRead (dt : Nat)
  /-- VF_TIME_NS_READ (R418). -/
  | vfTimeNsRead (dt : Nat) (v : Fin 256)
  /-- PRF_VALUE_LO_READ (R462). -/
  | prfValueLoRead (dt : Nat) (q : Requester) (g : Fin 232)
  /-- BIN_IN_TS32_READ (R446). -/
  | binInTs32Read (dt : Nat) (q : Requester) (i : Fin 16)
  /-- LOG_WINDOW_LAST_READ (R384). -/
  | logWindowLastRead (dt : Nat) (q : Requester)
  /-- PLN_WINDOW_WRITE (R232). -/
  | plnWindowWrite (dt : Nat) (q : Fin 5) (off : Fin 16777216)
  /-- MBX_STATE_READ (R413). -/
  | mbxStateRead (dt : Nat) (q : Requester) (m : Fin 4096)
  /-- MBX_STATE_WRITE (R413). -/
  | mbxStateWrite (dt : Nat) (q : Requester) (m : Fin 4096) (value : Word)
  /-- CDV_FALL_SH_WRITE (R433). -/
  | cdvFallShWrite (dt : Nat) (k : Fin 8) (v : Word)
  /-- CDV_PERIOD_SH_WRITE (R433). -/
  | cdvPeriodShWrite (dt : Nat) (k : Fin 8) (v : Word)
  /-- BCN_TS_ARM_WRITE (R108). -/
  | bcnTsArmWrite (dt : Nat) (value : Word)
  /-- CAN_TX_REQ_WRITE (R452). -/
  | canTxReqWrite (dt : Nat) (c : Fin 2) (b : Fin 64)
  /-- TX_TAIL_WRITE (R402). -/
  | txTailWrite (dt : Nat) (q : Fin 1024) (value : Word)
  /-- RX_TAIL_WRITE (R402). -/
  | rxTailWrite (dt : Nat) (q : Fin 1024) (value : Word)
  /-- LATCH_CLOSED (R44). -/
  | latchClosed (dt : Nat)
  /-- SUPPLY_ON (R32). -/
  | supplyOn (dt : Nat)
  /-- PRECHARGE_COMPLETE (R44). -/
  | prechargeComplete (dt : Nat)
  /-- PRECHARGE_FAIL (R45). -/
  | prechargeFail (dt : Nat)
  /-- PRECHARGE_RETRY (R45). -/
  | prechargeRetry (dt : Nat) (ok : Bool)
  /-- BOOT_STAGE_COMPLETE (R42). -/
  | bootStageComplete (dt : Nat) (pass : Bool)
  /-- IMAGE_LOADED (R80). -/
  | imageLoaded (dt : Nat)
  /-- COMMISSION_COMPLETE (R33). -/
  | commissionComplete (dt : Nat)
  /-- COMMISSION_TIMEOUT (R32). -/
  | commissionTimeout (dt : Nat)
  /-- ENTER_TEST (R41). -/
  | enterTest (dt : Nat) (rsv : BitVec 8) (arg : BitVec 16)
  /-- EXIT_TEST (R41). -/
  | exitTest (dt : Nat) (rsv : BitVec 8) (arg : BitVec 16)
  /-- ENTER_MAINTENANCE (R41). -/
  | enterMaintenance (dt : Nat) (rsv : BitVec 8) (arg : BitVec 16)
  /-- EXIT_MAINTENANCE (R41). -/
  | exitMaintenance (dt : Nat) (rsv : BitVec 8) (arg : BitVec 16)
  /-- LEAVE_COMMISSION (R41). -/
  | leaveCommission (dt : Nat) (rsv : BitVec 8) (arg : BitVec 16)
  /-- HANDOVER (R41). -/
  | handover (dt : Nat) (rsv : BitVec 8) (arg : BitVec 16)
  /-- LEAVE_SERVICE (R41). -/
  | leaveService (dt : Nat) (rsv : BitVec 8) (arg : BitVec 16)
  /-- RESTART (R41). -/
  | restart (dt : Nat) (rsv : BitVec 8) (arg : BitVec 16)
  /-- LATCH_OPENED (R46). -/
  | latchOpened (dt : Nat)
  /-- REMOVAL_QUIESCED (R46). -/
  | removalQuiesced (dt : Nat)
  /-- SAFE_TO_REMOVE (R46). -/
  | safeToRemove (dt : Nat)
  /-- REMOVAL_DORMANT (R46). -/
  | removalDormant (dt : Nat)
  /-- BLOCK_RESET (R48). -/
  | blockReset (dt : Nat) (rsv : BitVec 8) (arg : BitVec 16)
  /-- BLOCK_RESET_DONE (R50). -/
  | blockResetDone (dt : Nat)
  /-- PCIE_RESET (R53). -/
  | pcieReset (dt : Nat)
  /-- SUPPLY_LOSS (R486). -/
  | supplyLoss (dt : Nat)
  /-- POWER_FAIL_WARN (R486). -/
  | powerFailWarn (dt : Nat)
  /-- HOLDUP_EXPIRY (R486). -/
  | holdupExpiry (dt : Nat)
  /-- SUPPLY_RESTORED (R487). -/
  | supplyRestored (dt : Nat)
  /-- TAMPER (R339). -/
  | tamper (dt : Nat) (sensor : Fin 7)
  /-- THERMAL_READING (R495). -/
  | thermalReading (dt : Nat) (die railA railB : Int)
  /-- LOAD_CANDIDATE (R68). -/
  | loadCandidate (dt : Nat) (rsv : BitVec 8) (arg : BitVec 16) (buf : List Byte)
  /-- LOAD_DONE (R68). -/
  | loadDone (dt : Nat) (err : Fin 3)
  /-- RELOAD (R70). -/
  | reload (dt : Nat) (rsv : BitVec 8) (arg : BitVec 16)
  /-- RELOAD_APPLY (R72). -/
  | reloadApply (dt : Nat)
  /-- ABANDON (R73). -/
  | abandon (dt : Nat) (rsv : BitVec 8) (arg : BitVec 16)
  /-- INVALIDATE_BANK (R81). -/
  | invalidateBank (dt : Nat) (rsv : BitVec 8) (arg : BitVec 16)
  /-- SET_MIN_GEN (R67). -/
  | setMinGen (dt : Nat) (rsv : BitVec 8) (arg : BitVec 16)
  /-- NVM_STORE (R78). -/
  | nvmStore (dt : Nat) (rsv : BitVec 8) (arg : BitVec 16)
  /-- NVM_STORE_DONE (R78). -/
  | nvmStoreDone (dt : Nat) (fail : Option (Fin 64))
  /-- SETTINGS_WRITE (R75). -/
  | settingsWrite (dt : Nat) (rsv : BitVec 8) (arg : BitVec 16)
  /-- SETTINGS_REVERT (R75). -/
  | settingsRevert (dt : Nat) (rsv : BitVec 8) (arg : BitVec 16)
  /-- SETTINGS_READ (R75). -/
  | settingsRead (dt : Nat) (rsv : BitVec 8) (arg : BitVec 16)
  /-- SETTINGS_APPLY (R75). -/
  | settingsApply (dt : Nat)
  /-- FRAME_TICK (R241). -/
  | frameTick (dt : Nat)
  /-- KEEPER_WAKE (R27). -/
  | keeperWake (dt : Nat) (k : Fin 16)
  /-- COMMIT (R284). -/
  | commit (dt : Nat)
  /-- KGV (R275). -/
  | kgv (dt : Nat) (k : Fin 16) (ecc : Bool)
  /-- KGM (R275). -/
  | kgm (dt : Nat) (k : Fin 16) (ecc : Bool)
  /-- KIV (R275). -/
  | kiv (dt : Nat) (k : Fin 16) (ecc : Bool)
  /-- KIM (R275). -/
  | kim (dt : Nat) (k : Fin 16) (ecc : Bool)
  /-- KPHR (R275). -/
  | kphr (dt : Nat) (k : Fin 16) (ecc : Bool)
  /-- KPHI (R275). -/
  | kphi (dt : Nat) (k : Fin 16) (ecc : Bool)
  /-- KPHM (R275). -/
  | kphm (dt : Nat) (k : Fin 16) (ecc : Bool)
  /-- KGT (R275). -/
  | kgt (dt : Nat) (k : Fin 16) (ecc : Bool)
  /-- KBIN (R275). -/
  | kbin (dt : Nat) (k : Fin 16) (ecc : Bool)
  /-- KBINW (R275). -/
  | kbinw (dt : Nat) (k : Fin 16) (ecc : Bool)
  /-- KBINQ (R275). -/
  | kbinq (dt : Nat) (k : Fin 16) (ecc : Bool)
  /-- KDEC (R275). -/
  | kdec (dt : Nat) (k : Fin 16) (ecc : Bool)
  /-- KDSET (R277). -/
  | kdset (dt : Nat) (k : Fin 16) (ecc : Bool)
  /-- KDCLR (R277). -/
  | kdclr (dt : Nat) (k : Fin 16) (ecc : Bool)
  /-- KDPUT (R277). -/
  | kdput (dt : Nat) (k : Fin 16) (ecc : Bool)
  /-- KSLW (R278). -/
  | kslw (dt : Nat) (k : Fin 16) (ecc : Bool)
  /-- KSSW (R278). -/
  | kssw (dt : Nat) (k : Fin 16) (ecc : Bool)
  /-- KSLF (R278). -/
  | kslf (dt : Nat) (k : Fin 16) (ecc : Bool)
  /-- KSSF (R278). -/
  | kssf (dt : Nat) (k : Fin 16) (ecc : Bool)
  /-- KEVT (R283). -/
  | kevt (dt : Nat) (k : Fin 16) (ecc : Bool)
  /-- KYIELD (R249). -/
  | kyield (dt : Nat) (k : Fin 16) (ecc : Bool)
  /-- KBUDG (R275). -/
  | kbudg (dt : Nat) (k : Fin 16) (ecc : Bool)
  /-- KFTIME (R275). -/
  | kftime (dt : Nat) (k : Fin 16) (ecc : Bool)
  /-- KEEPER_CSR_READ (R279). -/
  | keeperCsrRead (dt : Nat) (k : Fin 16) (ecc : Bool)
  /-- KEEPER_BASE_INSTRUCTION (R266). -/
  | keeperBaseInstruction (dt : Nat) (k : Fin 16) (ecc : Bool)
  /-- BUDGET_EXPIRY (R249). -/
  | budgetExpiry (dt : Nat) (k : Fin 16)
  /-- RESULT_MERGE_RELEASE (R251). -/
  | resultMergeRelease (dt : Nat) (k : Fin 16)
  /-- LOCKSTEP_MISCOMPARE (R256). -/
  | lockstepMiscompare (dt : Nat) (k : Fin 16)
  /-- KEEPER_SRAM_ECC (R256). -/
  | keeperSramEcc (dt : Nat) (k : Fin 16) (data : Bool) (bad : Option (Fin 512))
  /-- KEEPER_REPLACE_APPLY (R257). -/
  | keeperReplaceApply (dt : Nat)
  /-- MOVE (R260). -/
  | move (dt : Nat) (rsv : BitVec 8) (arg : BitVec 16)
  /-- MOVE_APPLY (R261). -/
  | moveApply (dt : Nat)
  /-- FUNC_RESTART (R263). -/
  | funcRestart (dt : Nat) (rsv : BitVec 8) (arg : BitVec 16)
  /-- FUNC_RESTART_APPLY (R253). -/
  | funcRestartApply (dt : Nat)
  /-- KEEPER_RETURN (R263). -/
  | keeperReturn (dt : Nat) (rsv : BitVec 8) (arg : BitVec 16)
  /-- KEEPER_SELFTEST_DONE (R263). -/
  | keeperSelftestDone (dt : Nat) (pass : Bool)
  /-- MAC_FRAME_RX (R115). -/
  | macFrameRx (dt : Nat) (p : Fin 33) (f : Frame) (len : BitVec 16) (bad : RxBad) (ago : Nat)
  /-- EGRESS_TRANSMIT (R143). -/
  | egressTransmit (dt : Nat) (x : Fin 65) (pick : Nat) (busy : Bool)
  /-- PFC_FRAME_RX (R125). -/
  | pfcFrameRx (dt : Nat) (p : Fin 33) (enables : Option (BitVec 8)) (quanta : List Nat)
  /-- PFC_PAUSE_EXPIRY (R125). -/
  | pfcPauseExpiry (dt : Nat) (p : Fin 33) (c : Fin 6)
  /-- PFC_XOFF_REPEAT (R126). -/
  | pfcXoffRepeat (dt : Nat) (p : Fin 33) (c : Fin 6)
  /-- PFC_WATCHDOG (R126). -/
  | pfcWatchdog (dt : Nat) (p : Fin 33) (c : Fin 6)
  /-- PFC_WATCHDOG_RELEASE_END (R126). -/
  | pfcWatchdogReleaseEnd (dt : Nat) (p : Fin 33) (c : Fin 6)
  /-- LINK_DOWN (R141). -/
  | linkDown (dt : Nat) (p : Fin 33) (part : Option Frame)
  /-- LINK_UP (R142). -/
  | linkUp (dt : Nat) (p : Fin 33) (speed : Fin 6) (fec : Bool)
  /-- HOLD_DOWN_EXPIRY (R141). -/
  | holdDownExpiry (dt : Nat) (p : Fin 33)
  /-- TRANSCEIVER_CHANGE (R131). -/
  | transceiverChange (dt : Nat) (p : Fin 33) (present mismatch txFault los : Bool)
  /-- PCS_FAULT_CHANGE (R131). -/
  | pcsFaultChange (dt : Nat) (p : Fin 33) (loc rem : Bool)
  /-- UTIL_SAMPLE_1S (R127). -/
  | utilSample1s (dt : Nat) (p : Fin 33) (util : Fin 10001)
  /-- UTIL_SAMPLE_10MS (R127). -/
  | utilSample10ms (dt : Nat) (p : Fin 33) (util : Fin 10001)
  /-- SPEED_CHANGE_TIMEOUT (R127). -/
  | speedChangeTimeout (dt : Nat) (p : Fin 33)
  /-- T1S_COLLISION (R129). -/
  | t1sCollision (dt : Nat) (p : Fin 33) (late : Bool) (r pick : Nat)
  /-- T1S_BACKOFF_EXPIRY (R129). -/
  | t1sBackoffExpiry (dt : Nat) (p : Fin 33)
  /-- ADMIN_DOWN (R130). -/
  | adminDown (dt : Nat) (p : Fin 33) (rsv : BitVec 8) (arg : BitVec 16)
  /-- ADMIN_UP (R130). -/
  | adminUp (dt : Nat) (p : Fin 33) (rsv : BitVec 8) (arg : BitVec 16)
  /-- SPEED_PIN (R130). -/
  | speedPin (dt : Nat) (p : Fin 33) (rsv : BitVec 8) (arg : BitVec 16)
  /-- RESEQ_TIMEOUT (R137). -/
  | reseqTimeout (dt : Nat) (out ingress : Fin 65) (cls : Fin 8)
  /-- PLANE_FAULT (R138). -/
  | planeFault (dt : Nat) (k : Fin 2) (ecc : Bool)
  /-- NT_ENTRY_EXPIRY (R146). -/
  | ntEntryExpiry (dt : Nat) (mac : BitVec 48) (g : Fin 12)
  /-- SUPERVISION_TX (R149). -/
  | supervisionTx (dt : Nat) (g : Fin 12)
  /-- NT_FLUSH (R153). -/
  | ntFlush (dt : Nat) (rsv : BitVec 8) (arg : BitVec 16)
  /-- PLANE_SELECT (R153). -/
  | planeSelect (dt : Nat) (rsv : BitVec 8) (arg : BitVec 16)
  /-- HOLDDOWN_END (R153). -/
  | holddownEnd (dt : Nat) (rsv : BitVec 8) (arg : BitVec 16)
  /-- PTP_SYNC_RX (R92). -/
  | ptpSyncRx (dt : Nat) (d : Fin 2) (p : Fin 24) (complete : Bool) (offset residual demand refRate : Int)
  /-- PTP_ANNOUNCE_RX (R91). -/
  | ptpAnnounceRx (dt : Nat) (d : Fin 2) (cls : BitVec 8) (utc : BitVec 16) (utcValid leap59 leap61 : Bool)
  /-- PTP_DELAY_MSG_RX (R89). -/
  | ptpDelayMsgRx (dt : Nat) (d : Fin 2) (p : Fin 24) (kind : Fin 3) (delay : Int)
  /-- PTP_OTHER_MSG_RX (R89). -/
  | ptpOtherMsgRx (dt : Nat) (p : Fin 24) (unsupported : Bool)
  /-- ANNOUNCE_RECEIPT_TIMEOUT (R91). -/
  | announceReceiptTimeout (dt : Nat) (d : Fin 2)
  /-- SYNC_MISSED (R91). -/
  | syncMissed (dt : Nat) (d : Fin 2)
  /-- PTP_SYNC_TX (R90). -/
  | ptpSyncTx (dt : Nat) (d : Fin 2) (p : Fin 24)
  /-- PTP_ANNOUNCE_TX (R90). -/
  | ptpAnnounceTx (dt : Nat) (d : Fin 2) (p : Fin 24)
  /-- PTP_PDELAY_REQ_TX (R89). -/
  | ptpPdelayReqTx (dt : Nat) (d : Fin 2) (p : Fin 24)
  /-- TIME_LOST (R97). -/
  | timeLost (dt : Nat)
  /-- REVERT_HOLD_EXPIRY (R95). -/
  | revertHoldExpiry (dt : Nat) (d : Fin 2)
  /-- IRIG_FRAME_RX (R101). -/
  | irigFrameRx (dt : Nat) (offset demand refRate : Int) (quality : BitVec 8)
  /-- IRIG_ERROR (R101). -/
  | irigError (dt : Nat)
  /-- STEP (R93). -/
  | step (dt : Nat) (rsv : BitVec 8) (arg : BitVec 16)
  /-- STEP_APPLY (R93). -/
  | stepApply (dt : Nat)
  /-- SELECT_DOMAIN (R107). -/
  | selectDomain (dt : Nat) (rsv : BitVec 8) (arg : BitVec 16)
  /-- ASYM_MEASURE (R99). -/
  | asymMeasure (dt : Nat) (rsv : BitVec 8) (arg : BitVec 16)
  /-- ASYM_DONE (R100). -/
  | asymDone (dt : Nat) (p : Fin 24) (mean : Int)
  /-- ASYM_APPLY (R107). -/
  | asymApply (dt : Nat) (rsv : BitVec 8) (arg : BitVec 16)
  /-- ASYM_KEEP (R107). -/
  | asymKeep (dt : Nat) (rsv : BitVec 8) (arg : BitVec 16)
  /-- SECOND_BOUNDARY (R503). -/
  | secondBoundary (dt : Nat)
  /-- PPS_RISE (R102). -/
  | ppsRise (dt : Nat)
  /-- PPS_FALL (R102). -/
  | ppsFall (dt : Nat)
  /-- TS_CAPTURED (R108). -/
  | tsCaptured (dt : Nat) (src : Fin 5)
  /-- SV_FRAME_RX (R162). -/
  | svFrameRx (dt : Nat) (f : SvFrame)
  /-- SAMPLE_DEADLINE (R177). -/
  | sampleDeadline (dt : Nat) (i : Fin 2048)
  /-- SUBST_FORCE (R187). -/
  | substForce (dt : Nat) (rsv : BitVec 8) (arg : BitVec 16)
  /-- SUBST_FORCE_APPLY (R184). -/
  | substForceApply (dt : Nat)
  /-- SUBST_RELEASE (R187). -/
  | substRelease (dt : Nat) (rsv : BitVec 8) (arg : BitVec 16)
  /-- SUBST_RELEASE_APPLY (R187). -/
  | substReleaseApply (dt : Nat)
  /-- GRID_SAMPLE_COMPUTE (R199). -/
  | gridSampleCompute (dt : Nat) (k : Fin 16384)
  /-- FREQ_ESTIMATE (R204). -/
  | freqEstimate (dt : Nat) (g : Fin 64)
  /-- CHAIN_SYNC (R213). -/
  | chainSync (dt : Nat) (rsv : BitVec 8) (arg : BitVec 16)
  /-- SYNC_DONE (R212). -/
  | syncDone (dt : Nat)
  /-- SYNC_LINE_RISE (R213). -/
  | syncLineRise (dt : Nat)
  /-- SYNC_LINE_FALL (R213). -/
  | syncLineFall (dt : Nat)
  /-- CHAIN_FAULT (R216). -/
  | chainFault (dt : Nat) (ecc : Bool)
  /-- ECC_UNCORR (R234). -/
  | eccUncorr (dt : Nat) (a : Fin 67108864)
  /-- SCRUB (R236). -/
  | scrub (dt : Nat) (rsv : BitVec 8) (arg : BitVec 16)
  /-- SCRUB_DONE (R236). -/
  | scrubDone (dt : Nat)
  /-- PUB_REPEAT_DUE (R288). -/
  | pubRepeatDue (dt : Nat) (p : Fin 1024)
  /-- LANTERN_TIMER (R295). -/
  | lanternTimer (dt : Nat)
  /-- PEER_LANTERN_RX (R296). -/
  | peerLanternRx (dt : Nat) (m : LanternMsg)
  /-- PEER_LANTERN_LOST (R296). -/
  | peerLanternLost (dt : Nat)
  /-- GOOSE_RX (R298). -/
  | gooseRx (dt : Nat) (m : GooseMsg)
  /-- SUB_TIMEOUT (R299). -/
  | subTimeout (dt : Nat) (i : Fin 4096)
  /-- SUB_RESTART (R303). -/
  | subRestart (dt : Nat) (rsv : BitVec 8) (arg : BitVec 16)
  /-- SUB_RESTART_APPLY (R303). -/
  | subRestartApply (dt : Nat)
  /-- FOG_TX (R312). -/
  | fogTx (dt : Nat)
  /-- FOG_RX (R313). -/
  | fogRx (dt : Nat) (p : Fin 2) (m : List Byte)
  /-- FOG_SLOT_MISS (R314). -/
  | fogSlotMiss (dt : Nat) (p : Fin 2)
  /-- BREG_LANE_CHANGE (R309). -/
  | bregLaneChange (dt : Nat) (p lane : Fin 2) (trained : Bool)
  /-- PARTNER_ABSENT_TIMEOUT (R308). -/
  | partnerAbsentTimeout (dt : Nat)
  /-- YIELD_RX (R321). -/
  | yieldRx (dt : Nat) (m : List Byte)
  /-- TAKEOVER (R322). -/
  | takeover (dt : Nat)
  /-- DIGEST_RX (R318). -/
  | digestRx (dt : Nat) (m : List Byte)
  /-- PUB_MIRROR_RX (R292). -/
  | pubMirrorRx (dt : Nat) (m : List Byte)
  /-- CTRL_REQ_RX (R326). -/
  | ctrlReqRx (dt : Nat) (m : List Byte)
  /-- CTRL_GRANT_RX (R326). -/
  | ctrlGrantRx (dt : Nat) (m : List Byte)
  /-- CTRL_CONFIRM_RX (R326). -/
  | ctrlConfirmRx (dt : Nat) (m : List Byte)
  /-- CTRL_ABORT_RX (R326). -/
  | ctrlAbortRx (dt : Nat) (m : List Byte)
  /-- CTRL_DEADLINE (R326). -/
  | ctrlDeadline (dt : Nat)
  /-- HANDBACK_HOLD_EXPIRY (R327). -/
  | handbackHoldExpiry (dt : Nat)
  /-- PAIR_START_INITIATE (R327). -/
  | pairStartInitiate (dt : Nat)
  /-- SOLO_WAIT_EXPIRY (R328). -/
  | soloWaitExpiry (dt : Nat)
  /-- ALIGN_INITIATE (R329). -/
  | alignInitiate (dt : Nat)
  /-- ALIGN_REQ_RX (R329). -/
  | alignReqRx (dt : Nat) (m : List Byte) (lead : Nat) (span : Fin 4801)
  /-- ALIGN_PLAN_RX (R330). -/
  | alignPlanRx (dt : Nat) (m : List Byte) (s0 : Nat)
  /-- ALIGN_DATA_RX (R330). -/
  | alignDataRx (dt : Nat) (m : List Byte) (item : Machine.AlignItem)
  /-- ALIGN_FRAME_REACHED (R330). -/
  | alignFrameReached (dt : Nat)
  /-- BULK_RX (R311). -/
  | bulkRx (dt : Nat) (m : List Byte) (f : Frame)
  /-- ALIGN (R333). -/
  | align (dt : Nat) (rsv : BitVec 8) (arg : BitVec 16)
  /-- HANDBACK_NOW (R333). -/
  | handbackNow (dt : Nat) (rsv : BitVec 8) (arg : BitVec 16)
  /-- HB_INHIBIT (R333). -/
  | hbInhibit (dt : Nat) (rsv : BitVec 8) (arg : BitVec 16)
  /-- DIVERGE_CLEAR (R333). -/
  | divergeClear (dt : Nat) (rsv : BitVec 8) (arg : BitVec 16)
  /-- GENERATE (R346). -/
  | generate (dt : Nat) (rsv : BitVec 8) (arg : BitVec 16)
  /-- IMPORT (R346). -/
  | lmpImport (dt : Nat) (rsv : BitVec 8) (arg : BitVec 16) (buf : List Byte)
  /-- LMP_UPDATE (R349). -/
  | lmpUpdate (dt : Nat) (rsv : BitVec 8) (arg : BitVec 16) (buf : List Byte)
  /-- LMP_CLEAR (R347). -/
  | lmpClear (dt : Nat) (rsv : BitVec 8) (arg : BitVec 16)
  /-- KEY_REPLACE_DONE (R347). -/
  | keyReplaceDone (dt : Nat) (readback journal : Bool)
  /-- ATTEST (R353). -/
  | attest (dt : Nat) (rsv : BitVec 8) (arg : BitVec 16) (buf : List Byte)
  /-- READ_PUBLIC (R354). -/
  | readPublic (dt : Nat) (rsv : BitVec 8) (arg : BitVec 16)
  /-- READ_CERT (R354). -/
  | readCert (dt : Nat) (rsv : BitVec 8) (arg : BitVec 16)
  /-- STORE_CERT (R352). -/
  | storeCert (dt : Nat) (rsv : BitVec 8) (arg : BitVec 16) (buf : List Byte)
  /-- OPERATE (R355). -/
  | operate (dt : Nat) (rsv : BitVec 8) (arg : BitVec 16) (buf : List Byte)
  /-- LMP_OPERATION_DONE (R354). -/
  | lmpOperationDone (dt : Nat)
  /-- PROVISION (R337). -/
  | provision (dt : Nat) (rsv : BitVec 8) (arg : BitVec 16) (buf : List Byte)
  /-- DEPLOY (R337). -/
  | deploy (dt : Nat) (rsv : BitVec 8) (arg : BitVec 16)
  /-- SLOT_INTEGRITY_PASS (R342). -/
  | slotIntegrityPass (dt : Nat) (fails : List (Fin 1024))
  /-- FACTORY_MANUFACTURE (R337). -/
  | factoryManufacture (dt : Nat) (fw factory cert0 cert1 : List Byte)
  /-- ARM (R376). -/
  | arm (dt : Nat) (rsv : BitVec 8) (arg : BitVec 16)
  /-- DISARM (R376). -/
  | disarm (dt : Nat) (rsv : BitVec 8) (arg : BitVec 16)
  /-- TRIGGER (R365). -/
  | trigger (dt : Nat) (rsv : BitVec 8) (arg : BitVec 16)
  /-- TRIGGER_APPLY (R365). -/
  | triggerApply (dt : Nat)
  /-- RELEASE (R376). -/
  | release (dt : Nat) (rsv : BitVec 8) (arg : BitVec 16)
  /-- COPY (R376). -/
  | copy (dt : Nat) (rsv : BitVec 8) (arg : BitVec 16)
  /-- COPY_DONE (R376). -/
  | copyDone (dt : Nat) (v : Fin 256)
  /-- PRE_TRIGGER_FILLED (R366). -/
  | preTriggerFilled (dt : Nat) (p : Fin 16)
  /-- CAPTURE_END (R366). -/
  | captureEnd (dt : Nat) (p : Fin 16)
  /-- HOLDOFF_EXPIRY (R366). -/
  | holdoffExpiry (dt : Nat) (p : Fin 16)
  /-- ARCHIVE_DONE (R374). -/
  | archiveDone (dt : Nat)
  /-- LOG_RECORD_ACCEPT (R383). -/
  | logRecordAccept (dt : Nat)
  /-- CRITICAL_NVM_WRITE (R382). -/
  | criticalNvmWrite (dt : Nat) (ok : Bool)
  /-- LOG_FREEZE (R387). -/
  | logFreeze (dt : Nat) (rsv : BitVec 8) (arg : BitVec 16)
  /-- LOG_UNFREEZE (R387). -/
  | logUnfreeze (dt : Nat) (rsv : BitVec 8) (arg : BitVec 16)
  /-- FREEZE_TIMEOUT (R387). -/
  | freezeTimeout (dt : Nat)
  /-- HOLD_DRAIN_DONE (R387). -/
  | holdDrainDone (dt : Nat)
  /-- CLEAR_ARM (R390). -/
  | clearArm (dt : Nat) (q : Requester) (rsv : BitVec 8) (arg : BitVec 16)
  /-- CLEAR_CONFIRM (R390). -/
  | clearConfirm (dt : Nat) (q : Requester) (rsv : BitVec 8) (arg : BitVec 16)
  /-- CLEAR_ARM_EXPIRY (R390). -/
  | clearArmExpiry (dt : Nat)
  /-- PCIE_LINK_DOWN (R397). -/
  | pcieLinkDown (dt : Nat)
  /-- PCIE_LINK_UP (R395). -/
  | pcieLinkUp (dt : Nat) (gen : Fin 3) (width : Fin 4)
  /-- VF_ENABLE_CHANGE (R396). -/
  | vfEnableChange (dt : Nat) (enable : Bool) (numVfs : Fin 256)
  /-- PCIE_FLR (R421). -/
  | pcieFlr (dt : Nat) (v : Fin 256)
  /-- FLR_DONE (R421). -/
  | flrDone (dt : Nat) (v : Fin 256)
  /-- HOST_TX_FRAME (R404). -/
  | hostTxFrame (dt : Nat) (q : Fin 1024) (descs : List (BitVec 16 × BitVec 8)) (f : Frame)
  /-- HOST_RX_FRAME (R406). -/
  | hostRxFrame (dt : Nat) (q : Fin 1024) (f : Frame) (ingress : Fin 32) (cls : Fin 6) (ts : Fin 3) (ago : Nat) (bufs : List (BitVec 64))
  /-- ITR_EXPIRY (R408). -/
  | itrExpiry (dt : Nat) (n : Fin 2048)
  /-- DMA_FAULT (R420). -/
  | dmaFault (dt : Nat) (q : Fin 1024)
  /-- QUEUE_ASSIGN (R425). -/
  | queueAssign (dt : Nat) (rsv : BitVec 8) (arg : BitVec 16)
  /-- VECTOR_ASSIGN (R425). -/
  | vectorAssign (dt : Nat) (rsv : BitVec 8) (arg : BitVec 16)
  /-- WINDOW_SET (R411). -/
  | windowSet (dt : Nat) (rsv : BitVec 8) (arg : BitVec 16)
  /-- WINDOW_SET_APPLY (R411). -/
  | windowSetApply (dt : Nat)
  /-- SHARE_SET (R417). -/
  | shareSet (dt : Nat) (rsv : BitVec 8) (arg : BitVec 16)
  /-- SHARE_SET_APPLY (R417). -/
  | shareSetApply (dt : Nat)
  /-- MBX_BIND (R425). -/
  | mbxBind (dt : Nat) (rsv : BitVec 8) (arg : BitVec 16)
  /-- CLASSIFIER_SET (R425). -/
  | classifierSet (dt : Nat) (rsv : BitVec 8) (arg : BitVec 16) (buf : List Byte)
  /-- GRANT_SET (R425). -/
  | grantSet (dt : Nat) (rsv : BitVec 8) (arg : BitVec 16)
  /-- ATTACH_SET (R422). -/
  | attachSet (dt : Nat) (rsv : BitVec 8) (arg : BitVec 16)
  /-- VF_RESET (R421). -/
  | vfReset (dt : Nat) (rsv : BitVec 8) (arg : BitVec 16)
  /-- QUEUE_ENABLE (R409). -/
  | queueEnable (dt : Nat) (v : Fin 256) (rsv : BitVec 8) (arg : BitVec 16)
  /-- QUEUE_DISABLE (R409). -/
  | queueDisable (dt : Nat) (v : Fin 256) (rsv : BitVec 8) (arg : BitVec 16)
  /-- QUEUE_IDLE (R409). -/
  | queueIdle (dt : Nat) (q : Fin 1024)
  /-- GUEST_LOAD (R414). -/
  | guestLoad (dt : Nat) (v : Fin 256) (rsv : BitVec 8) (arg : BitVec 16) (buf : List Byte)
  /-- GUEST_PLACE (R414). -/
  | guestPlace (dt : Nat)
  /-- GUEST_UNLOAD (R427). -/
  | guestUnload (dt : Nat) (v : Fin 256) (rsv : BitVec 8) (arg : BitVec 16)
  /-- GUEST_RESTART (R416). -/
  | guestRestart (dt : Nat) (v : Fin 256) (rsv : BitVec 8) (arg : BitVec 16)
  /-- GAL_COPY (R418). -/
  | galCopy (dt : Nat) (v : Fin 256) (rsv : BitVec 8) (arg : BitVec 16)
  /-- CARRIER_PERIOD_BOUNDARY (R433). -/
  | carrierPeriodBoundary (dt : Nat) (k : Fin 8)
  /-- RISE_COMPARE (R431). -/
  | riseCompare (dt : Nat) (k : Fin 8)
  /-- FALL_COMPARE (R431). -/
  | fallCompare (dt : Nat) (k : Fin 8)
  /-- DEAD_TIME_EXPIRY (R431). -/
  | deadTimeExpiry (dt : Nat) (k : Fin 8)
  /-- BLANK_EXPIRY (R436). -/
  | blankExpiry (dt : Nat) (k : Fin 8)
  /-- PULLIN_EXPIRY (R434). -/
  | pullinExpiry (dt : Nat) (k : Fin 8)
  /-- OC_TRIP (R435). -/
  | ocTrip (dt : Nat) (k : Fin 8) (withFall : Bool)
  /-- SUP_MEASURE (R437). -/
  | supMeasure (dt : Nat) (k : Fin 8) (ohm : Nat) (compliance : Bool)
  /-- SUP_RESUME (R434). -/
  | supResume (dt : Nat) (k : Fin 8)
  /-- OC_CLEAR (R443). -/
  | ocClear (dt : Nat) (rsv : BitVec 8) (arg : BitVec 16)
  /-- INPUT_CHANGE_ACCEPTED (R439). -/
  | inputChangeAccepted (dt : Nat) (i : Fin 16)
  /-- CAN_FRAME_RX (R450). -/
  | canFrameRx (dt : Nat) (c : Fin 2) (id : Word) (esi : Bool) (dlc : Fin 16) (data : List Byte) (ago : Nat)
  /-- CAN_TX_COMPLETE (R452). -/
  | canTxComplete (dt : Nat) (c : Fin 2) (ok ack : Bool) (ago : Nat)
  /-- CAN_BUS_ERROR (R453). -/
  | canBusError (dt : Nat) (c : Fin 2) (tx ack heavy : Bool)
  /-- BUS_OFF_RECOVERED (R453). -/
  | busOffRecovered (dt : Nat) (c : Fin 2)
  /-- CAN_MAP_TIMEOUT (R451). -/
  | canMapTimeout (dt : Nat) (c : Fin 2) (m : Fin 16)
  /-- ABD_CANDIDATE_TIMEOUT (R455). -/
  | abdCandidateTimeout (dt : Nat) (c : Fin 2)
  /-- RECOVER (R457). -/
  | recover (dt : Nat) (c : Fin 2) (rsv : BitVec 8) (arg : BitVec 16)
  /-- ABORT_TX (R456). -/
  | abortTx (dt : Nat) (c : Fin 2) (rsv : BitVec 8) (arg : BitVec 16)
  /-- ABD_START (R455). -/
  | abdStart (dt : Nat) (c : Fin 2) (rsv : BitVec 8) (arg : BitVec 16)
  /-- LISTEN (R457). -/
  | listen (dt : Nat) (c : Fin 2) (rsv : BitVec 8) (arg : BitVec 16)
  /-- LISTEN_APPLY (R457). -/
  | listenApply (dt : Nat) (c : Fin 2)
  /-- SNAPSHOT (R464). -/
  | snapshot (dt : Nat) (rsv : BitVec 8) (arg : BitVec 16)
  /-- SNAPSHOT_DONE (R464). -/
  | snapshotDone (dt : Nat)
  /-- PRF_FREEZE (R463). -/
  | prfFreeze (dt : Nat) (rsv : BitVec 8) (arg : BitVec 16)
  /-- PRF_UNFREEZE (R463). -/
  | prfUnfreeze (dt : Nat) (rsv : BitVec 8) (arg : BitVec 16)
  /-- PRF_CLEAR (R468). -/
  | prfClear (dt : Nat) (rsv : BitVec 8) (arg : BitVec 16)
  /-- MSI_MESSAGE_SEND (R476). -/
  | msiMessageSend (dt : Nat)
  /-- MSIX_UNMASK (R477). -/
  | msixUnmask (dt : Nat) (n : Fin 2048) (masked fmask enable : Bool)
  /-- RESEND (R480). -/
  | resend (dt : Nat) (rsv : BitVec 8) (arg : BitVec 16)
  /-- INPUT_LEVEL_CHANGE (R439). -/
  | inputLevelChange (dt : Nat) (i : Fin 16) (level : Bool)
  /-- BACKGROUND_SCRUB (R234). -/
  | backgroundScrub (dt n : Nat)
deriving DecidableEq, Repr

end Sys2Proof
end

