-- ==== Sys2Proof/Decode.lean ====
section
/-!
DEFINITION. The command that a word of the table spells. The model is a block: its commands come from outside, and
spec/opcode_table.json gives none of its rows any bits, so no word spells a command.
-/

namespace Sys2Proof

/-- The command that an `nbits`-bit word spells by the table's bits: no row has bits. -/
def decodeTableWord (nbits w : Nat) : Option Instr :=
  match nbits, w with
  | _, _ => none

end Sys2Proof
end

