-- ==== Sys2Proof/Config.lean ====
section
/-!
DEFINITION. What the spec leaves to an implementation or leaves open: free values without a body.
-/

namespace Sys2Proof.Config

open Sys2Proof

/-- The crystal's error over a span that begins at an oscillator count, in units of 2^-16 ns
(R503 bounds it at 20 ppm; DESIGN CHOICE, log entry 23). -/
opaque crystalError : Nat → Nat → Int

/-- The value of the free-running LFSR at a draw of the instruction tagger (R466). DESIGN CHOICE, log entry
24. -/
opaque tagDraw : Nat → Nat

/-- The payload and sign of a binary32 NaN that the chain computes. DESIGN CHOICE, log entry 14. -/
opaque nan32 : BitVec 32

/-- The payload and sign of a binary64 NaN that the chain computes. DESIGN CHOICE, log entry 14. -/
opaque nan64 : BitVec 64

/-! ### Cryptography whose standards the spec only names (log entry 15) -/

/-- The physical random source: byte by draw (R338, R346). DESIGN CHOICE, log entry 15. -/
opaque random : Nat → Byte

/-- A byte of the AES-GCM key stream of a key and an IV (R346, R348, R355). DESIGN CHOICE, log entry 15. -/
opaque aesStream : List Byte → List Byte → Nat → Byte

/-- A byte of the AES-GCM tag of a key, an IV, the AAD and the ciphertext. DESIGN CHOICE, log entry 15. -/
opaque aesTag : List Byte → List Byte → List Byte → List Byte → Nat → Byte

/-- A byte of the public point of a curve's scalar: curve 256 or 384. -/
opaque ecPoint : Nat → Nat → Nat → Byte

/-- A point lies on its curve. -/
opaque onCurve : Nat → List Byte → Bool

/-- A byte of an ECDSA signature of a curve, a scalar and a digest. -/
opaque ecdsaSign : Nat → Nat → List Byte → Nat → Byte

/-- An ECDSA signature over a digest verifies under a public point. -/
opaque ecdsaVerify : Nat → List Byte → List Byte → List Byte → Bool

/-- A byte of the shared x of ECDH P-256 (R355). -/
opaque ecdh : Nat → List Byte → Nat → Byte

/-- A byte of SHA-384 (R348, R353). -/
opaque sha384 : List Byte → Nat → Byte

/-- A byte of the subjectPublicKey of a DER certificate (R352). -/
opaque certKey : List Byte → Nat → Byte

/-- A byte of the IV under which a message is signed with AES-GMAC (R289, log entry 15). -/
opaque gmacIv : List Byte → Nat → Byte

/-- KEY_ID of a key that GENERATE makes: the spec gives none (R346, DESIGN CHOICE, log entry 16). -/
opaque generatedKeyId : Nat → BitVec 32

/-- The module's own MAC address on a port: the spec gives none (DESIGN CHOICE, log entry 17). -/
opaque portMac : Nat → BitVec 48

/-- Where the module places a program in a keeper's instruction SRAM: keeper, function (R274, log entry
18). -/
opaque keeperProg : Nat → Nat → Nat

/-- Where the module places a constant area in a keeper's data SRAM (R274, log entry 18). -/
opaque keeperCons : Nat → Nat → Nat

/-- Where the module places a settings copy in a keeper's data SRAM (R274, log entry 18). -/
opaque keeperSet : Nat → Nat → Nat

end Sys2Proof.Config
end

