-- ==== Sys2Proof/Machine/Bits.lean ====
section
/-!
DEFINITION. Bit fields, byte order, sparse tables, checksums and SHA-256: the helpers that the
operations of every block share.
-/

namespace Sys2Proof.Machine

open Sys2Proof

/-- The value at a key of a sparse table, or the table's default. -/
def tget {α : Type} (t : Tbl α) (k : Nat) (d : α) : α :=
  match t with
  | [] => d
  | (k', v) :: r => if k' = k then v else tget r k d

/-- A sparse table with an entry put at its place, over an entry of the same key. -/
def tins {α : Type} (t : Tbl α) (k : Nat) (v : α) : Tbl α :=
  match t with
  | [] => [(k, v)]
  | (k', v') :: r => if k < k' then (k, v) :: (k', v') :: r else if k = k' then (k, v) :: r else (k', v') :: tins r k v

/-- A sparse table with one entry set. The entry is removed when it equals the default. -/
def tset {α : Type} [DecidableEq α] (t : Tbl α) (k : Nat) (v d : α) : Tbl α :=
  if v = d then t.filter (fun (e : Nat × α) => decide (e.1 ≠ k)) else tins t k v

/-- A sparse table with one entry changed by a function. -/
def tmod {α : Type} [DecidableEq α] (t : Tbl α) (k : Nat) (d : α) (f : α → α) : Tbl α :=
  tset t k (f (tget t k d)) d

/-- The keys of a sparse table are strictly rising from a bound. -/
def tsortedFrom {α : Type} (lo : Nat) (t : Tbl α) : Bool :=
  match t with
  | [] => true
  | (k, _) :: r => decide (lo ≤ k) && tsortedFrom (k + 1) r

/-- Canonical form of a sparse table: keys strictly rising and no entry equal to the default. -/
def twf {α : Type} [DecidableEq α] (t : Tbl α) (d : Nat → α) : Bool :=
  tsortedFrom 0 t && t.all (fun e => decide (e.2 ≠ d e.1))

/-- The field of `n` bits that begins at bit `lo`, as a number. -/
def fld (w : Word) (lo n : Nat) : Nat := w.toNat / 2 ^ lo % 2 ^ n

/-- A field value in its place in a register word. -/
def put (v lo n : Nat) : Word := BitVec.ofNat 32 (v % 2 ^ n * 2 ^ lo)

/-- A single bit in its place in a register word. -/
def putB (b : Bool) (lo : Nat) : Word := if b then BitVec.ofNat 32 (2 ^ lo) else 0

/-- 1 for true, 0 for false. -/
def b2n (b : Bool) : Nat := if b then 1 else 0

/-- One bit of a word, as a word. -/
def bit (n : Nat) : Word := BitVec.ofNat 32 (2 ^ n)

/-- Adding one to a counter that saturates at 0xFFFF_FFFF. -/
def satInc (w : Word) : Word := if w = 0xFFFFFFFF#32 then w else w + 1

/-- Adding to a counter that saturates at 0xFFFF_FFFF. -/
def satAdd (w : Word) (n : Nat) : Word :=
  if w.toNat + n ≥ 2 ^ 32 then 0xFFFFFFFF#32 else BitVec.ofNat 32 (w.toNat + n)

/-- A number clamped to a signed range. -/
def clampInt (lo hi x : Int) : Int := if x < lo then lo else if hi < x then hi else x

/-- Two's complement of width `n` of an integer. -/
def toTwos (n : Nat) (x : Int) : Nat := (x % (2 ^ n : Nat)).toNat

/-- The integer that a two's complement field of width `n` holds. -/
def ofTwos (n : Nat) (x : Nat) : Int :=
  if x % 2 ^ n < 2 ^ (n - 1) then (x % 2 ^ n : Nat) else (x % 2 ^ n : Nat) - (2 ^ n : Nat)

/-- The byte at an offset of a byte string, 0 beyond its end. -/
def byteAt (b : List Byte) (off : Nat) : Nat := (b.getD off 0).toNat

/-- The little-endian number of `n` bytes at an offset (R13). -/
def leAt (b : List Byte) (off n : Nat) : Nat :=
  match n with
  | 0 => 0
  | n + 1 => byteAt b off + 256 * leAt b (off + 1) n

/-- The signed little-endian number of `n` bytes at an offset. -/
def leIntAt (b : List Byte) (off n : Nat) : Int := ofTwos (8 * n) (leAt b off n)

/-- The big-endian number of `n` bytes at an offset (network order, R13). -/
def beAt (b : List Byte) (off n : Nat) : Nat :=
  match n with
  | 0 => 0
  | n + 1 => byteAt b off * 256 ^ n + beAt b (off + 1) n

/-- The `n` little-endian bytes of a number. -/
def leBytes (v n : Nat) : List Byte :=
  match n with
  | 0 => []
  | n + 1 => BitVec.ofNat 8 v :: leBytes (v / 256) n

/-- The `n` big-endian bytes of a number. -/
def beBytes (v n : Nat) : List Byte := (leBytes v n).reverse

/-- The part of a byte string from an offset. -/
def slice (b : List Byte) (off n : Nat) : List Byte := (b.drop off).take n

/-- A byte string filled up with zeros to a length. -/
def padTo (b : List Byte) (n : Nat) : List Byte := b.take n ++ List.replicate (n - b.length) 0

/-- A byte string with `v` written over it at an offset. -/
def overlay (b : List Byte) (off : Nat) (v : List Byte) : List Byte :=
  padTo b off ++ v ++ b.drop (off + v.length)

/-- A list with one element replaced. -/
def listSet {α : Type} (l : List α) (i : Nat) (v : α) : List α := l.set i v

/-- The bits of a bit-string of bytes, bit 0 of byte 0 first. -/
def bitAt (b : List Byte) (i : Nat) : Bool := (b.getD (i / 8) 0).getLsbD (i % 8)

/-- Insertion into an ascending list of numbers without repeats. -/
def insNat (l : List Nat) (x : Nat) : List Nat :=
  match l with
  | [] => [x]
  | y :: r => if x < y then x :: y :: r else if x = y then y :: r else y :: insNat r x

/-! ### Checksums -/

/-- One bit of the CRC-8 of R379: polynomial 0x07, no reflection. -/
def crc8Bit (c : Byte) : Byte := if c.getLsbD 7 then (c <<< 1) ^^^ 7#8 else c <<< 1

/-- One byte of the CRC-8 of R379. -/
def crc8Byte (c b : Byte) : Byte :=
  crc8Bit (crc8Bit (crc8Bit (crc8Bit (crc8Bit (crc8Bit (crc8Bit (crc8Bit (c ^^^ b))))))))

/-- The CRC-8 of a record (R379). -/
def crc8 (b : List Byte) : Byte := b.foldl crc8Byte 0

/-- One bit of the CRC-32 of IEEE 802.3 in reflected form. -/
def crc32Bit (c : Word) : Word :=
  if c.getLsbD 0 then (c >>> 1) ^^^ 0xEDB88320#32 else c >>> 1

/-- One byte of the CRC-32 of IEEE 802.3. -/
def crc32Byte (c : Word) (b : Byte) : Word :=
  crc32Bit (crc32Bit (crc32Bit (crc32Bit (crc32Bit (crc32Bit (crc32Bit (crc32Bit
    (c ^^^ b.setWidth 32))))))))

/-- The CRC-32 of IEEE 802.3 (R59, R77, R310). -/
def crc32 (b : List Byte) : Word := (b.foldl crc32Byte 0xFFFFFFFF#32) ^^^ 0xFFFFFFFF#32

/-! ### SHA-256 and HMAC -/

/-- The round constants of SHA-256 (FIPS 180-4). -/
def shaK : List Word :=
  [0x428a2f98, 0x71374491, 0xb5c0fbcf, 0xe9b5dba5, 0x3956c25b, 0x59f111f1, 0x923f82a4, 0xab1c5ed5,
   0xd807aa98, 0x12835b01, 0x243185be, 0x550c7dc3, 0x72be5d74, 0x80deb1fe, 0x9bdc06a7, 0xc19bf174,
   0xe49b69c1, 0xefbe4786, 0x0fc19dc6, 0x240ca1cc, 0x2de92c6f, 0x4a7484aa, 0x5cb0a9dc, 0x76f988da,
   0x983e5152, 0xa831c66d, 0xb00327c8, 0xbf597fc7, 0xc6e00bf3, 0xd5a79147, 0x06ca6351, 0x14292967]
  ++ [0x27b70a85, 0x2e1b2138, 0x4d2c6dfc, 0x53380d13, 0x650a7354, 0x766a0abb, 0x81c2c92e, 0x92722c85,
   0xa2bfe8a1, 0xa81a664b, 0xc24b8b70, 0xc76c51a3, 0xd192e819, 0xd6990624, 0xf40e3585, 0x106aa070,
   0x19a4c116, 0x1e376c08, 0x2748774c, 0x34b0bcb5, 0x391c0cb3, 0x4ed8aa4a, 0x5b9cca4f, 0x682e6ff3,
   0x748f82ee, 0x78a5636f, 0x84c87814, 0x8cc70208, 0x90befffa, 0xa4506ceb, 0xbef9a3f7, 0xc67178f2]

/-- Rotation of a word to the right. -/
def rotr (w : Word) (n : Nat) : Word := w.rotateRight n

/-- The message schedule of one SHA-256 block, newest word first. -/
def shaSched (n : Nat) (w : List Word) : List Word :=
  match n with
  | 0 => w
  | n + 1 =>
    have a := w.getD 1 0
    have b := w.getD 6 0
    have c := w.getD 14 0
    have d := w.getD 15 0
    have s1 := rotr a 17 ^^^ rotr a 19 ^^^ (a >>> 10)
    have s0 := rotr c 7 ^^^ rotr c 18 ^^^ (c >>> 3)
    shaSched n ((s1 + b + s0 + d) :: w)

/-- The eight working words of SHA-256. -/
structure Sha where
  a : Word
  b : Word
  c : Word
  d : Word
  e : Word
  f : Word
  g : Word
  h : Word
deriving DecidableEq, Repr

/-- The initial hash value of SHA-256. -/
def shaInit : Sha :=
  ⟨0x6a09e667, 0xbb67ae85, 0x3c6ef372, 0xa54ff53a, 0x510e527f, 0x9b05688c, 0x1f83d9ab, 0x5be0cd19⟩

/-- One round of SHA-256. -/
def shaRound (s : Sha) (kw : Word × Word) : Sha :=
  have s1 := rotr s.e 6 ^^^ rotr s.e 11 ^^^ rotr s.e 25
  have ch := (s.e &&& s.f) ^^^ ((~~~ s.e) &&& s.g)
  have t1 := s.h + s1 + ch + kw.1 + kw.2
  have s0 := rotr s.a 2 ^^^ rotr s.a 13 ^^^ rotr s.a 22
  have mj := (s.a &&& s.b) ^^^ (s.a &&& s.c) ^^^ (s.b &&& s.c)
  ⟨t1 + (s0 + mj), s.a, s.b, s.c, s.d + t1, s.e, s.f, s.g⟩

/-- One 64-byte block of SHA-256. -/
def shaBlock (h : Sha) (blk : List Byte) : Sha :=
  have w0 := (List.range 16).map (fun i => BitVec.ofNat 32 (beAt blk (4 * i) 4))
  have w := (shaSched 48 w0.reverse).reverse
  have r := (shaK.zip w).foldl shaRound h
  ⟨h.a + r.a, h.b + r.b, h.c + r.c, h.d + r.d, h.e + r.e, h.f + r.f, h.g + r.g, h.h + r.h⟩

/-- SHA-256 over a padded message of `n` blocks. -/
def shaBlocks (n : Nat) (h : Sha) (m : List Byte) : Sha :=
  match n with
  | 0 => h
  | n + 1 => shaBlocks n (shaBlock h (m.take 64)) (m.drop 64)

/-- SHA-256 of a byte string (FIPS 180-4). -/
def sha256 (m : List Byte) : List Byte :=
  have z := (119 - m.length % 64) % 64
  have p := m ++ [0x80#8] ++ List.replicate z 0 ++ beBytes (8 * m.length) 8
  have h := shaBlocks (p.length / 64) shaInit p
  [h.a, h.b, h.c, h.d, h.e, h.f, h.g, h.h].flatMap (fun w => beBytes w.toNat 4)

/-- HMAC-SHA-256 (RFC 2104). -/
def hmacSha256 (key msg : List Byte) : List Byte :=
  have k := padTo (if key.length > 64 then sha256 key else key) 64
  sha256 (k.map (· ^^^ 0x5c#8) ++ sha256 (k.map (· ^^^ 0x36#8) ++ msg))

end Sys2Proof.Machine
end

