-- ==== Sys2Proof/Machine/Num.lean ====
section
/-!
DEFINITION. IEEE 754 arithmetic on bit patterns, and sines, arctangents and Bessel sums in fixed
point (R166, R191, R193, R198, R199, R204, R207, R268).
-/

namespace Sys2Proof.Machine

open Sys2Proof

/-! ### Formats -/

/-- Rounding modes, in the order of the RISC-V encoding (R269). -/
inductive Rm where
  | rne
  | rtz
  | rdn
  | rup
  | rmm
deriving DecidableEq, Repr

/-- A binary format: significand bits, exponent bits and the quiet NaN of its results. -/
structure Fmt where
  p : Nat
  eb : Nat
  nan : Nat
deriving DecidableEq, Repr

/-- A datum of a format. A finite value is m × 2^e. -/
inductive Fl where
  | nan (signalling : Bool)
  | inf (neg : Bool)
  | fin (neg : Bool) (m : Nat) (e : Int)
deriving DecidableEq, Repr

/-- binary32 of the keepers: results that are NaN are the canonical NaN of RISC-V (R268). -/
def kf32 : Fmt := { p := 24, eb := 8, nan := 0x7FC00000 }

/-- binary32 of the chain. The payload of a NaN result is a free value (DESIGN CHOICE, log entry 14). -/
def f32 : Fmt :=
  { p := 24, eb := 8,
    nan := 0x7FC00000 ||| (Config.nan32.toNat % 2 ^ 22) ||| (Config.nan32.toNat / 2 ^ 31 * 2 ^ 31) }

/-- binary64 of the chain. The payload of a NaN result is a free value (log entry 14). -/
def f64 : Fmt :=
  { p := 53, eb := 11,
    nan := 0x7FF8000000000000 ||| (Config.nan64.toNat % 2 ^ 51) |||
      (Config.nan64.toNat / 2 ^ 63 * 2 ^ 63) }

/-- The weight of the sign bit. -/
def Fmt.signBit (F : Fmt) : Nat := 2 ^ (F.p - 1 + F.eb)

/-- The bits of positive infinity. -/
def Fmt.infBits (F : Fmt) : Nat := (2 ^ F.eb - 1) * 2 ^ (F.p - 1)

/-- The exponent of the least bit of a subnormal. -/
def Fmt.emin (F : Fmt) : Int := 2 - (2 ^ (F.eb - 1) : Nat) - ((F.p - 1 : Nat) : Int)

/-- The datum that bits hold. -/
def Fmt.unpack (F : Fmt) (b : Nat) : Fl :=
  have neg := decide (b / F.signBit % 2 = 1)
  have ex := b / 2 ^ (F.p - 1) % 2 ^ F.eb
  have fr := b % 2 ^ (F.p - 1)
  if ex = 2 ^ F.eb - 1 then
    if fr = 0 then .inf neg else .nan (decide (fr < 2 ^ (F.p - 2)))
  else if ex = 0 then .fin neg fr F.emin
  else .fin neg (2 ^ (F.p - 1) + fr) (F.emin + ((ex - 1 : Nat) : Int))

/-- The bits of a signed zero. -/
def Fmt.zero (F : Fmt) (neg : Bool) : Nat := if neg then F.signBit else 0

/-- The bits of a signed infinity. -/
def Fmt.inf (F : Fmt) (neg : Bool) : Nat := F.infBits + F.zero neg

/-- A power of two times a number. -/
def shl2 (n : Nat) (e : Int) : Nat := n * 2 ^ e.toNat

/-- Whether a rounding mode rounds a magnitude up, from the quotient and the remainder. -/
def roundUp (rm : Rm) (neg : Bool) (q r d : Nat) : Bool :=
  match rm with
  | .rne => decide (2 * r > d) || (decide (2 * r = d) && decide (q % 2 = 1))
  | .rtz => false
  | .rdn => neg && decide (r ≠ 0)
  | .rup => (!neg) && decide (r ≠ 0)
  | .rmm => decide (2 * r ≥ d)

/-- n / d × 2^e in units of 2^x, rounded: the quotient and whether it is inexact. -/
def quantise (rm : Rm) (neg : Bool) (n d : Nat) (e x : Int) : Nat × Bool :=
  have num := shl2 n (e - x)
  have den := shl2 d (x - e)
  have q := num / den
  have r := num % den
  (if roundUp rm neg q r den then q + 1 else q, decide (r ≠ 0))

/-- The floor of log2 of n / d × 2^e, for positive n and d. -/
def floorLog (n d : Nat) (e : Int) : Int :=
  have k : Int := (n.log2 : Int) - (d.log2 : Int)
  if shl2 n (-k) ≥ shl2 d k then k + e else k + e - 1

/-- The exception flags of RISC-V: NX 1, UF 2, OF 4, DZ 8, NV 16. -/
abbrev FFlags := Nat

/-- n / d × 2^e rounded to a format: bits and flags (underflow is detected after rounding). -/
def Fmt.round (F : Fmt) (rm : Rm) (neg : Bool) (n d : Nat) (e : Int) : Nat × FFlags :=
  if n = 0 then (F.zero neg, 0)
  else
    have l := floorLog n d e
    have x0 := l - ((F.p - 1 : Nat) : Int)
    have x := if x0 < F.emin then F.emin else x0
    let (q, ix) := quantise rm neg n d e x
    have bits := (x - F.emin).toNat * 2 ^ (F.p - 1) + q
    if bits ≥ F.infBits then
      have toInf := match rm with
        | .rne => true
        | .rmm => true
        | .rtz => false
        | .rdn => neg
        | .rup => !neg
      ((if toInf then F.infBits else F.infBits - 1) + F.zero neg, 5)
    else
      have tiny := decide (x0 < F.emin) &&
        !(decide (x0 + 1 = F.emin) && decide ((quantise rm neg n d e x0).1 = 2 ^ F.p))
      (bits + F.zero neg, (if ix then 1 else 0) + (if ix && tiny then 2 else 0))

/-- An integer times 2^e, rounded. A zero takes the given sign. -/
def Fmt.roundInt (F : Fmt) (rm : Rm) (v : Int) (e : Int) (zneg : Bool) : Nat × FFlags :=
  if v = 0 then (F.zero zneg, 0) else F.round rm (decide (v < 0)) v.natAbs 1 e

/-- The signed integer significand of a finite datum. -/
def signed (neg : Bool) (m : Nat) : Int := if neg then -(m : Int) else m

/-- NV for a signalling operand. -/
def snan (x : Fl) : FFlags :=
  match x with
  | .nan true => 16
  | _ => 0

/-- The invalid flag of an operation on two data. -/
def snan2 (x y : Fl) : FFlags := if snan x = 0 then snan y else 16

/-- The sum of two data. -/
def Fmt.addFl (F : Fmt) (rm : Rm) (x y : Fl) : Nat × FFlags :=
  match x, y with
  | .nan _, _ => (F.nan, snan2 x y)
  | _, .nan _ => (F.nan, snan2 x y)
  | .inf a, .inf b => if a = b then (F.inf a, 0) else (F.nan, 16)
  | .inf a, .fin _ _ _ => (F.inf a, 0)
  | .fin _ _ _, .inf b => (F.inf b, 0)
  | .fin a m e, .fin b n f =>
    have z := if a = b then a else decide (rm = .rdn)
    have g := if e < f then e else f
    F.roundInt rm (signed a (shl2 m (e - g)) + signed b (shl2 n (f - g))) g z

/-- The product of two data before rounding, or the bits where it is no number. -/
def mulFl (x y : Fl) : Fl × FFlags :=
  match x, y with
  | .nan _, _ => (.nan false, snan2 x y)
  | _, .nan _ => (.nan false, snan2 x y)
  | .inf a, .inf b => (.inf (a != b), 0)
  | .inf a, .fin b n _ => if n = 0 then (.nan false, 16) else (.inf (a != b), 0)
  | .fin a m _, .inf b => if m = 0 then (.nan false, 16) else (.inf (a != b), 0)
  | .fin a m e, .fin b n f => (.fin (a != b) (m * n) (e + f), 0)

/-- A datum with its sign changed. -/
def Fl.neg (x : Fl) : Fl :=
  match x with
  | .nan q => .nan q
  | .inf a => .inf (!a)
  | .fin a m e => .fin (!a) m e

/-- A datum rounded to a format. -/
def Fmt.pack (F : Fmt) (rm : Rm) (x : Fl) : Nat × FFlags :=
  match x with
  | .nan q => (F.nan, if q then 16 else 0)
  | .inf a => (F.inf a, 0)
  | .fin a m e => F.round rm a m 1 e

/-- Addition. -/
def Fmt.add (F : Fmt) (rm : Rm) (a b : Nat) : Nat × FFlags := F.addFl rm (F.unpack a) (F.unpack b)

/-- Subtraction. -/
def Fmt.sub (F : Fmt) (rm : Rm) (a b : Nat) : Nat × FFlags :=
  F.addFl rm (F.unpack a) (F.unpack b).neg

/-- Multiplication. -/
def Fmt.mul (F : Fmt) (rm : Rm) (a b : Nat) : Nat × FFlags :=
  let (x, f) := mulFl (F.unpack a) (F.unpack b)
  let (r, g) := F.pack rm x
  (r, f ||| g)

/-- Fused multiplication and addition of data: x × y + z rounded once. -/
def Fmt.fma (F : Fmt) (rm : Rm) (x y z : Fl) : Nat × FFlags :=
  let (p, f) := mulFl x y
  let (r, g) := F.addFl rm p z
  (r, f ||| g)

/-- Division. -/
def Fmt.div (F : Fmt) (rm : Rm) (a b : Nat) : Nat × FFlags :=
  match F.unpack a, F.unpack b with
  | .nan q, y => (F.nan, snan2 (.nan q) y)
  | x, .nan q => (F.nan, snan2 x (.nan q))
  | .inf _, .inf _ => (F.nan, 16)
  | .inf s, .fin t _ _ => (F.inf (s != t), 0)
  | .fin s _ _, .inf t => (F.zero (s != t), 0)
  | .fin s m e, .fin t n f =>
    if n = 0 then (if m = 0 then (F.nan, 16) else (F.inf (s != t), 8))
    else F.round rm (s != t) m n (e - f)

/-- One bit of an integer square root: `r` the root so far, `b` the bit's weight. -/
def isqrtAux (k : Nat) (n r : Nat) : Nat :=
  match k with
  | 0 => r
  | k + 1 => have t := r + 2 ^ k; isqrtAux k n (if t * t ≤ n then t else r)

/-- The integer square root. -/
def isqrt (n : Nat) : Nat := isqrtAux (n.log2 / 2 + 1) n 0

/-- Square root. -/
def Fmt.sqrt (F : Fmt) (rm : Rm) (a : Nat) : Nat × FFlags :=
  match F.unpack a with
  | .nan q => (F.nan, if q then 16 else 0)
  | .inf true => (F.nan, 16)
  | .inf false => (F.inf false, 0)
  | .fin s m e =>
    if m = 0 then (F.zero s, 0)
    else if s then (F.nan, 16)
    else
      have k : Nat := 2 * F.p + 4
      have odd := decide (e % 2 ≠ 0)
      have n := m * 2 ^ (2 * k + (if odd then 1 else 0))
      have h : Int := ((e - (if odd then 1 else 0)) / 2) - (k : Int)
      have q := isqrt n
      if q * q = n then F.round rm false q 1 h else F.round rm false (2 * q + 1) 1 (h - 1)

/-- Conversion between formats. -/
def Fmt.conv (F G : Fmt) (rm : Rm) (a : Nat) : Nat × FFlags := G.pack rm (F.unpack a)

/-- Whether bits hold a NaN. -/
def Fmt.isNan (F : Fmt) (a : Nat) : Bool :=
  match F.unpack a with
  | .nan _ => true
  | _ => false

/-- a < b for data that are no NaN. -/
def ltFl (x y : Fl) : Bool :=
  match x, y with
  | .inf a, .inf b => a && !b
  | .inf a, .fin _ _ _ => a
  | .fin _ _ _, .inf b => !b
  | .fin a m e, .fin b n f =>
    have g := if e < f then e else f
    decide (signed a (shl2 m (e - g)) < signed b (shl2 n (f - g)))
  | _, _ => false

/-- a < b, false where either is a NaN. -/
def Fmt.lt (F : Fmt) (a b : Nat) : Bool := ltFl (F.unpack a) (F.unpack b)

/-- Equality of numbers: both zeros are equal. -/
def Fmt.eq (F : Fmt) (a b : Nat) : Bool :=
  !(F.isNan a || F.isNan b || F.lt a b || F.lt b a)

/-- a ≤ b. -/
def Fmt.le (F : Fmt) (a b : Nat) : Bool := F.lt a b || F.eq a b

/-- The change of sign of a bit pattern. -/
def Fmt.flip (F : Fmt) (a : Nat) : Nat :=
  if a / F.signBit % 2 = 1 then a - F.signBit else a + F.signBit

/-! ### binary64 of the chain, rounding to nearest even (R191) -/

/-- Sum in binary64. -/
def dAdd (a b : Nat) : Nat := (f64.add .rne a b).1

/-- Difference in binary64. -/
def dSub (a b : Nat) : Nat := (f64.sub .rne a b).1

/-- Product in binary64. -/
def dMul (a b : Nat) : Nat := (f64.mul .rne a b).1

/-- Quotient in binary64. -/
def dDiv (a b : Nat) : Nat := (f64.div .rne a b).1

/-- The binary64 of an integer times 2^e. -/
def dInt (v e : Int) : Nat := (f64.roundInt .rne v e false).1

/-- The binary64 nearest to n / d. -/
def dRat (n : Int) (d : Nat) : Nat := (f64.round .rne (decide (n < 0)) n.natAbs d 0).1

/-- binary32 to binary64, exact. -/
def sToD (a : Nat) : Nat := (f32.conv f64 .rne a).1

/-- binary64 to binary32. -/
def dToS (a : Nat) : Nat := (f64.conv f32 .rne a).1

/-- floor(x × 2^k + 1/2) of a finite binary64. -/
def dScaleRound (a : Nat) (k : Int) : Int :=
  match f64.unpack a with
  | .fin s m e =>
    have g := e + k
    if g ≥ 0 then signed s (shl2 m g)
    else (2 * signed s m + (2 ^ (-g).toNat : Nat)) / ((2 * 2 ^ (-g).toNat : Nat) : Int)
  | _ => 0

/-! ### Fixed point with 160 fraction bits -/

/-- 2^160. -/
def one160 : Int := ((2 ^ 160 : Nat) : Int)

/-- π × 2^160, rounded down. -/
def pi160 : Int := 4591442807048218921384805199743311128454155024418

/-- Terms of the sine's series: `t` the present term, `k` its order. -/
def sinSum (fuel : Nat) (x2 t : Int) (k : Nat) : Int :=
  match fuel with
  | 0 => 0
  | fuel + 1 => t + sinSum fuel x2 (-(t * x2 / one160) / (((k + 1) * (k + 2) : Nat) : Int)) (k + 2)

/-- The sine of a fixed-point angle up to π/4. -/
def sinFix (x : Int) : Int := sinSum 28 (x * x / one160) x 1

/-- The cosine of a fixed-point angle up to π/4. -/
def cosFix (x : Int) : Int := sinSum 28 (x * x / one160) one160 0

/-- sin(π a / b) in fixed point, for 0 ≤ a ≤ b/2. -/
def sinQuad (a b : Nat) : Int :=
  if 4 * a ≤ b then sinFix (pi160 * a / b) else cosFix (pi160 * ((b - 2 * a : Nat) : Int) / ((2 * b : Nat) : Int))

/-- sin(π a / b) in fixed point. DEDUCED, log entry 62. -/
def sinPi (a : Int) (b : Nat) : Int :=
  have r := (a % ((2 * b : Nat) : Int)).toNat
  let (neg, r) := if r ≥ b then (true, r - b) else (false, r)
  have v := sinQuad (if 2 * r ≤ b then r else b - r) b
  if neg then -v else v

/-- cos(π a / b) in fixed point. -/
def cosPi (a : Int) (b : Nat) : Int := sinPi ((b : Int) + 2 * a) (2 * b)

/-- A quotient of integers rounded to the nearest integer, ties away from zero. -/
def divAway (n d : Int) : Int :=
  let (n, d) := if d < 0 then (-n, -d) else (n, d)
  have q := (2 * (n.natAbs : Int) + d) / (2 * d)
  if n < 0 then -q else q

/-- The binary64 nearest to a fixed-point number. -/
def fixToD (v : Int) : Nat := dInt v (-160)

/-- π in binary64. -/
def dPi : Nat := fixToD pi160

/-- sqrt(2) in binary64. -/
def dSqrt2 : Nat := (f64.sqrt .rne (dInt 2 0)).1

/-- Euler's series of atan(t)/t with t² = u/(1 − u): `t` the present term, `k` its index. -/
def atanSum (fuel : Nat) (u t : Int) (k : Nat) : Int :=
  match fuel with
  | 0 => 0
  | fuel + 1 =>
    t + atanSum fuel u (t * u / one160 * ((2 * k + 2 : Nat) : Int) / ((2 * k + 3 : Nat) : Int)) (k + 1)

/-- atan(n/d)/(n/d) in fixed point, for n ≤ d. The last unit is dropped, so that it lies below. DEDUCED, log
entry 62. -/
def atanQ (n d : Nat) : Int :=
  have s := n * n + d * d
  atanSum 170 (((n * n : Nat) : Int) * one160 / (s : Int)) (((d * d : Nat) : Int) * one160 / (s : Int)) 0 - 1

/-- arg of x + j y in binary64, rounded to nearest (R204). DEDUCED, log entry 62. -/
def dArg (y x : Nat) : Nat :=
  match f64.unpack y, f64.unpack x with
  | .fin sy m e, .fin sx n f =>
    have g := if e < f then e else f
    have a := shl2 m (e - g)
    have b := shl2 n (f - g)
    if a = 0 then (if sx then (if sy then f64.flip dPi else dPi) else f64.zero sy)
    else
      have v : Nat :=
        if a ≤ b then
          if sx then fixToD (pi160 - atanQ a b * a / b)
          else (f64.round .rne false ((atanQ a b).toNat * a) b (-160)).1
        else
          have h := atanQ b a * b / a
          fixToD (if sx then pi160 / 2 + h else pi160 / 2 - h)
      if sy then f64.flip v else v
  | _, _ => f64.nan

/-- The series of I0: the sum of q^k / (k!)² in fixed point. -/
def besselSum (fuel : Nat) (q t : Int) (k : Nat) : Int :=
  match fuel with
  | 0 => 0
  | fuel + 1 => t + besselSum fuel q (t * q / one160 / ((k * k : Nat) : Int)) (k + 1)

/-- I0(z) in fixed point, from z²/4 in fixed point. -/
def bessel0 (q : Int) : Int := besselSum 60 q one160 1

end Sys2Proof.Machine
end

