-- ==== Sys2Proof/Machine/StBcn.lean ====
section
/-!
DEFINITION. State of the beacon (R84 to R109).
-/

namespace Sys2Proof.Machine

open Sys2Proof

/-- The five beacon states (R92). -/
inductive BcnState where
  | unlocked
  | acquiring
  | locked
  | converging
  | holdover
deriving DecidableEq, Repr

/-- One reference: 0 domain A, 1 domain B, 2 IRIG-B (R91). `near` is the oscillator count since which it has
been qualified within ±1 µs (R95). -/
structure Ref where
  present : Bool := false
  qual : Bool := false
  diverged : Bool := false
  cls : Nat := 255
  path : Nat := 255
  offset : Int := 0
  goodRun : Nat := 0
  missed : Nat := 0
  timedOut : Bool := false
  utc : Int := 37
  utcValid : Bool := false
  leap61 : Bool := false
  leap59 : Bool := false
  near : Option Nat := none
deriving DecidableEq, Repr

/-- A port's asymmetry (R99, R100). -/
structure Asym where
  active : Tbl Int := []
  stored : Tbl Int := []
  meas : Int := 0
  measDone : Bool := false
  state : Nat := 0
  before : Nat := 0
  auto : Bool := false
  recovery : Bool := false
  measuring : Bool := false
  since : Nat := 0
deriving DecidableEq, Repr

/-- A latched time (R86, R418). -/
structure TimeLatch where
  sec : Nat := 0
  frac : Nat := 0
  ts32 : Nat := 0
deriving DecidableEq, Repr

/-- The beacon. `selAt` is the oscillator count of the last change of the selected reference. -/
structure BcnUnit where
  state : BcnState := .unlocked
  selected : Nat := 3
  selAt : Nat := 0
  lastSel : Nat := 3
  stepCount : Nat := 0
  timeLost : Bool := false
  clamped : Bool := false
  divergedSel : Bool := false
  rate : Int := 0
  rateHiLatch : Nat := 0
  refA : Ref := {}
  refB : Ref := {}
  refI : Ref := {}
  acqCount : Nat := 0
  convCount : Nat := 0
  holdSince : Nat := 0
  pendStep : Option Nat := none
  autoStep : Option Nat := none
  newlyDiverged : Bool := false
  latches : Tbl TimeLatch := []
  utc : Int := 37
  utcValid : Bool := false
  leap59 : Bool := false
  leap61 : Bool := false
  asym : Tbl Asym := []
  pps : Bool := false
  ppsLast : Option Nat := none
  capNs : Nat := 0
  capSec : Nat := 0
  capFrac : Nat := 0
  tsCtrl : Word := 0
  tsDone : Bool := false
  tsArm : Bool := false
  tickNo : Nat := 0
  tickLast : Option Nat := none
  noTickBefore : Nat := 0
  irigRun : Nat := 0
  txSeq : Tbl Nat := []
  selectCmd : Bool := false
deriving DecidableEq, Repr

end Sys2Proof.Machine
end

