-- ==== Sys2Proof/Machine/StCore.lean ====
section
/-!
DEFINITION. State of the station view: modes, time base, commands, logbook, event delivery and
supply. Field values given here are the values at reset.
-/

namespace Sys2Proof.Machine

open Sys2Proof

/-- The eight operating modes (R30). -/
inductive Mode where
  | dormant
  | boot
  | commission
  | standby
  | active
  | test
  | maintenance
  | degraded
deriving DecidableEq, Repr

/-- One block's command status (R37) and the command that is running. -/
structure CmdStat where
  code : Nat := 0
  pending : Bool := false
  status : Nat := 0
  runCode : Nat := 0
  runArg : Nat := 0
deriving DecidableEq, Repr

/-- Time base: oscillator count, station time and backup counter, in 2^-16 ns (R84, R94, R503). -/
structure TimeBase where
  mono : Nat := 0
  station : Nat := 0
  sub : Nat := 0
  stepped : Bool := false
  backup : Nat := 0
deriving DecidableEq, Repr

/-- One logbook record before its checksum (R379). -/
structure LogRec where
  code : Nat
  block : Nat
  inst : Nat
  seq : Nat
  sec : Nat
  ns : Nat
  p0 : Nat
  p1 : Nat
  p2 : Nat
  moduleId : Nat
  cls : Nat
  timeValid : Bool
  fromHold : Bool
  stepFollows : Bool
deriving DecidableEq, Repr

/-- A reader's cursor and controls (R384, R393). -/
structure LogReader where
  cursor : Nat := 0
  ring : Bool := false
  skipped : Bool := false
deriving DecidableEq, Repr

/-- The logbook (R379 to R394). Rings hold the oldest record first. DEDUCED, log entry 38. -/
structure LogUnit where
  queue : List LogRec := []
  mark : Nat := 0
  dram : List LogRec := []
  nvm : List LogRec := []
  nvmWait : List LogRec := []
  nvmOk : Bool := true
  nextSeq : Nat := 0
  hold : List LogRec := []
  frozen : Bool := false
  frozenAt : Nat := 0
  draining : Bool := false
  holdLoss : Bool := false
  armed : Nat := 0
  lostCrit : Nat := 0
  lostAlarm : Nat := 0
  lostNotice : Nat := 0
  lostTrace : Nat := 0
  lostFirst : Nat := 0xFFFFFFFF
  lostAny : Bool := false
  cursorBase : Nat := 0
  readers : Tbl LogReader := []
  winLast : Tbl Nat := []
deriving DecidableEq, Repr

/-- Event delivery (R476): sources whose message is held, oldest first. `resend` counts the messages that a
running RESEND still waits for (R480). -/
structure EvtUnit where
  held : List Nat := []
  resend : Nat := 0
deriving DecidableEq, Repr

/-- What waits at the global block for a commit or an agreed frame (R36, R41): a command, or `commission`,
the transition of R33 without one. -/
inductive GlbWait where
  | commission
  | enterTest
  | exitTest
  | leaveCommission
  | handover
deriving DecidableEq, Repr

/-- The global block: mode, boot, hot plug and block resets (R30 to R56). `since` is the oscillator count of
the last transition, `leaveStep` the last step of the removal sequence that has run (R46), and `setAside`
holds the count, rank and code of the cause that acted on the mode last (R35). DESIGN CHOICE, log entry 4;
DEDUCED, log entry 25. -/
structure GlbUnit where
  mode : Mode := .boot
  since : Nat := 0
  prev : Mode := .dormant
  lastCause : Nat := 0
  changes : Nat := 0
  inTransition : Bool := false
  faultBlock : Nat := 0
  faultInst : Nat := 0
  faultCause : Nat := 0
  wakeCause : Word := 0
  bootStage : Nat := 1
  stagePass : Nat := 0
  failStage : Nat := 0
  latchClosed : Bool := true
  present : Bool := true
  leaving : Bool := false
  leaveStep : Nat := 0
  safe : Bool := false
  latchOpened : Bool := false
  slot : Bool := false
  variant : Nat := 1
  waiting : Option GlbWait := none
  idValid : Bool := false
  moduleId : Nat := 0
  blockReset : Option (Nat × Nat) := none
  setAside : List Nat := []
deriving DecidableEq, Repr

/-- Supply, precharge, tamper latch and temperature (R44, R45, R339, R486, R495). `waitPre` says that the
wake logic waits for precharge, `wakeBits` the causes of the wake to come and `wakeAt` the oscillator count
of the last of them. `above` and `under` are the numbers of shed levels whose entry and whose release value
the last die reading reached. DEDUCED, log entry 29. -/
structure PwrUnit where
  supply : Bool := true
  below : Bool := false
  warned : Bool := false
  waitPre : Bool := false
  wakeBits : Word := 0
  wakeAt : Nat := 0
  preFail : Bool := false
  retries : Nat := 0
  retryStopped : Bool := false
  tamperDormant : Bool := false
  above : Nat := 0
  under : Nat := 0
  overLimit : Bool := false
  limit : Bool := false
deriving DecidableEq, Repr

end Sys2Proof.Machine
end

