-- ==== Sys2Proof/Machine/StDev.lean ====
section
/-!
DEFINITION. State of the coil drivers, binary inputs, CAN controllers and performance counters
(R429 to R470).
-/

namespace Sys2Proof.Machine

open Sys2Proof

/-- The four states of a coil channel (R434). -/
inductive CoilState where
  | idle
  | pullIn
  | hold
  | latched
deriving DecidableEq, Repr

/-- What a running dead time waits for (R431, R434). -/
inductive DeadWait where
  | none
  | drive
  | freewheel
  | quiet
deriving DecidableEq, Repr

/-- One coil channel (R429 to R437). -/
structure Coil where
  periodSh : Nat := 0
  riseSh : Nat := 0
  fallSh : Nat := 0
  period : Nat := 0
  rise : Nat := 0
  fall : Nat := 0
  state : CoilState := .idle
  armed : Bool := false
  periodPending : Bool := false
  stale : Nat := 0
  pairStale : Bool := false
  writeErr : Bool := false
  ocConsec : Nat := 0
  driveOn : Bool := false
  freeOn : Bool := false
  dead : DeadWait := .none
  blanking : Bool := false
  skipping : Bool := false
  govern : Bool := false
  conducted : Bool := false
  tripped : Bool := false
  sup : Nat := 0
  supCand : Nat := 0
  supRun : Nat := 0
  supPaused : Bool := false
  ohm : Nat := 0
deriving DecidableEq, Repr

/-- One binary input (R438 to R440). -/
structure BinIn where
  raw : Bool := false
  pendLevel : Option Bool := none
  pendSince : Nat := 0
  pendSec : Nat := 0
  pendNs : Nat := 0
  value : Bool := false
  known : Bool := false
  ts32 : Nat := 0
  sec : Nat := 0
  inSecond : Nat := 0
  chatter : Bool := false
  secLatch : Tbl Nat := []
deriving DecidableEq, Repr

/-- The error state of a CAN controller (R453). -/
inductive CanErr where
  | errorActive
  | errorPassive
  | busOff
deriving DecidableEq, Repr

/-- One CAN message buffer (R450, R458). -/
structure CanBuf where
  id : Word := 0
  dlc : Nat := 0
  msgLost : Bool := false
  txDoneFail : Bool := false
  txReq : Bool := false
  newData : Bool := false
  ts32 : Nat := 0
  data : List Byte := []
  esi : Bool := false
deriving DecidableEq, Repr

/-- One bit timing (R449). -/
structure CanTiming where
  nomBrp : Nat := 0
  nomTseg1 : Nat := 0
  nomTseg2 : Nat := 0
  nomSjw : Nat := 0
  dataBrp : Nat := 0
  dataTseg1 : Nat := 0
  dataTseg2 : Nat := 0
  dataSjw : Nat := 0
  tdcOffset : Nat := 0
deriving DecidableEq, Repr

/-- One CAN controller (R448 to R459). -/
structure CanCtl where
  bufs : Tbl CanBuf := []
  txErr : Nat := 0
  rxErr : Nat := 0
  err : CanErr := .errorActive
  alone : Bool := false
  ackRun : Nat := 0
  ackBuf : Nat := 64
  listen : Bool := false
  listenPend : Option Bool := none
  recovering : Bool := false
  abort : Option Nat := none
  sending : Option Nat := none
  abdRun : Bool := false
  abdFound : Bool := false
  abdIndex : Nat := 0
  abdGood : Nat := 0
  timing : CanTiming := {}
deriving DecidableEq, Repr

/-- One performance counter (R460, R462). -/
structure PrfCtr where
  value : Nat := 0
  ovf : Bool := false
  sampleRun : Nat := 0
deriving DecidableEq, Repr

/-- One entry of a tag ring (R466). -/
structure TagRec where
  pcOff : Nat := 0
  function : Nat := 0
  stall : Nat := 0
  latency : Nat := 0
  flags : Nat := 0
  frame : Nat := 0
deriving DecidableEq, Repr

/-- The performance counters (R460 to R470). -/
structure PrfUnit where
  running : Bool := false
  ctrs : Tbl PrfCtr := []
  latches : Tbl Nat := []
  frozen : Bool := false
  snapBusy : Bool := false
  snap : Tbl Word := []
  snapFrame : Nat := 0
  snapTs : Nat := 0
  head : Nat := 0
  tags : Tbl TagRec := []
  tagCount : Tbl Nat := []
  tagWait : Tbl Nat := []
  tagDraws : Nat := 0
deriving DecidableEq, Repr

end Sys2Proof.Machine
end

