-- ==== Sys2Proof/Machine/StGal.lean ====
section
/-!
DEFINITION. State of the gallery (R358 to R378).
-/

namespace Sys2Proof.Machine

open Sys2Proof

/-- An entry stream of a program with its unfinished block (R360, R372). `kind` 0 RAW, 1 GRID, 2 MINMAX,
3 RMS, 4 PHASOR, 5 BINARY, 6 INSTANTS. `acc` holds the input values and marks of a MINMAX window so far. -/
structure GStream where
  first : Nat := 0
  firstInst : Nat := 0
  lastInst : Nat := 0
  last : Option Nat := none
  restart : Bool := false
  gap : Bool := false
  shedGap : Bool := false
  vals : List (List Byte) := []
  marks : List Nat := []
  acc : List (Nat × Nat) := []
deriving DecidableEq, Repr

/-- A block in a program's ring with the instant of its last entry. -/
structure GBlock where
  bytes : List Byte := []
  lastInst : Nat := 0
deriving DecidableEq, Repr

/-- A record directory entry (R373). `state` 0 FREE, 1 OPEN, 2 CLOSED, 3 ABORTED. `trig` and `end_` are
the instants T and the end. -/
structure GRec where
  seq : Nat := 0
  state : Nat := 0
  cause : Nat := 0
  preShort : Bool := false
  extended : Bool := false
  violated : Bool := false
  shed : Bool := false
  manual : Bool := false
  released : Bool := false
  archived : Bool := false
  planGen : Nat := 0
  trig : Nat := 0
  primary : Nat := 0x1FF
  firstBlock : Nat := 0
  blocks : Nat := 0
  end_ : Nat := 0
  later : Nat := 0
  moduleId : Nat := 0
  envFirst : Nat := 0xFF
  shedMask : Nat := 0
  violTs : Nat := 0
  mask : Nat := 0
deriving DecidableEq, Repr

/-- A comparator of a program: a previous pattern match, or SET with the last usable value (R362, R363). -/
structure GCmp where
  seen : Bool := false
  set : Bool := false
  last : Option (Nat × Nat) := none
deriving DecidableEq, Repr

/-- A capture program (R366): state 0 DISARMED, 1 ARMING, 2 ARMED, 3 CAPTURING, 4 HOLDOFF, 5 HELD. -/
structure Prog where
  state : Nat := 0
  start : Nat := 0
  seq : Nat := 0
  blockSeq : Nat := 0
  next : Nat := 0
  streams : Tbl GStream := []
  ring : Tbl GBlock := []
  dir : Tbl GRec := []
  entry : Nat := 0
  cmps : Tbl GCmp := []
  envs : Tbl Nat := []
  envDone : List Nat := []
  trigger : Bool := false
  closed : Nat := 0
  since : Nat := 0
  resetWait : Bool := false
deriving DecidableEq, Repr

/-- A COPY in progress: the units to write and where they go (R376). -/
structure GCopy where
  addr : Nat
  prog : Nat
  entry : Nat
  arch : Option Nat
deriving DecidableEq, Repr

/-- A record of the flash archive (R374). -/
structure GArch where
  num : Nat
  dir : List Byte
  blocks : List (List Byte)
deriving DecidableEq, Repr

/-- The gallery. -/
structure GalUnit where
  progs : Tbl Prog := []
  shed : Nat := 0
  copies : List (Nat × GCopy) := []
  used : Nat := 0
  archive : List GArch := []
  archNext : Nat := 0
  archWait : List (Nat × Nat) := []
  autoDue : Bool := false
deriving DecidableEq, Repr

end Sys2Proof.Machine
end

