-- ==== Sys2Proof/Machine/StHst.lean ====
section
/-!
DEFINITION. State of the lamp room (R336 to R357) and of the host link (R395 to R428).
-/

namespace Sys2Proof.Machine

open Sys2Proof

/-- One copy of a key with its integrity tag (R342). -/
structure KeyCopy where
  mat : List Byte := []
  tag : List Byte := []
deriving DecidableEq, Repr

/-- A key slot (R342). TYPE 0 is an empty slot. `usage` is the class it was written under. -/
structure KeySlot where
  a : KeyCopy := {}
  b : KeyCopy := {}
  sel : Nat := 0
  keyId : Nat := 0
  typ : Nat := 0
  usage : Nat := 0
  origin : Nat := 0
  applied : Nat := 0
  bad : Bool := false
  mismatch : Bool := false
deriving DecidableEq, Repr

/-- A certificate entry (R352). -/
structure Cert where
  der : List Byte := []
  slot : Nat := 0xFFFF
deriving DecidableEq, Repr

/-- The command that runs in the lamp room: a replacement with its new key, or any other with its result
and output. `code` is the command code; `kind` the journal KIND (R349). -/
structure LmpJob where
  code : Nat
  slot : Nat
  kind : Nat := 0
  life : Nat := 0
  keyId : Nat := 0
  typ : Nat := 0
  origin : Nat := 0
  counter : Nat := 0
  mat : List Byte := []
  result : Nat := 1
  out : List Byte := []
  cert : Option (Nat × Cert) := none
  provision : Option (List Byte) := none
deriving DecidableEq, Repr

/-- The lamp room. LAMP_MODE: 0 MASKED, 1 NORMAL, 2 ZEROED. `life` is LIFECYCLE, from the array. DESIGN
CHOICE, log entry 5. -/
structure LmpUnit where
  life : Nat := 2
  mode : Nat := 0
  integFail : Bool := false
  sensors : Nat := 0
  tampers : Nat := 0
  zeroed : Bool := false
  factoryRoot : List Byte := []
  ownerRoot : List Byte := []
  returnRoot : List Byte := []
  integKey : List Byte := []
  idevScalar : Nat := 0
  fwKey : List Byte := []
  factoryKey : List Byte := []
  ownerKey : List Byte := []
  authKey : List Byte := []
  boundId : Nat := 0
  slots : Tbl KeySlot := []
  counters : Tbl Nat := []
  journal : List (List Byte) := []
  journalSeq : Nat := 0
  certs : Tbl Cert := []
  job : Option LmpJob := none
  result : Nat := 0
  resultSlot : Nat := 0
  used : Nat := 0
  draws : Nat := 0
deriving DecidableEq, Repr

/-- A host transmit frame from its fetch to its write-back (R403): its first descriptor, the number of
descriptors, the copies not yet sent, the lowest egress so far with its timestamp, and STATUS once it is
known. DEDUCED, log entry 97. -/
structure TxJob where
  id : Nat
  first : Nat
  count : Nat
  intr : Bool
  octets : Nat
  left : Nat
  port : Nat := 99
  time : Option Nat := none
  held : Bool := false
  lost : Bool := false
  sent : Bool := false
  status : Nat := 0
deriving DecidableEq, Repr

/-- A host queue pair (R402, R427): its registers, the configuration taken at the last enable, and its
indices. `stopping` is a QUEUE_DISABLE that runs; `txClass` holds the classes whose fetch is stopped. -/
structure Queue where
  owner : Nat := 0
  loc : Nat := 0
  owned : Bool := false
  rxLo : Word := 0
  rxHi : Word := 0
  txLo : Word := 0
  txHi : Word := 0
  qcfg : Word := 0x66
  itr : Word := 0
  rxBase : Nat := 0
  txBase : Nat := 0
  cfg : Word := 0x66
  enabled : Bool := false
  faulted : Bool := false
  stopping : Bool := false
  rxHead : Nat := 0
  rxTail : Nat := 0
  txHead : Nat := 0
  txTail : Nat := 0
  txClass : List Nat := []
  txJobs : List TxJob := []
deriving DecidableEq, Repr

/-- An MSI-X vector (R399, R408, R477). `fired` is the instant of the last message; `due` says that a
completion waits for the ITR interval, and `src` is the event source whose message is pending. -/
structure Vec where
  owner : Nat := 0
  loc : Nat := 0
  owned : Bool := false
  masked : Bool := true
  pend : Bool := false
  fired : Option Nat := none
  due : Bool := false
  src : Option Nat := none
deriving DecidableEq, Repr

/-- A result mailbox (R412, R413). -/
structure Mbox where
  kind : Nat := 0
  arg : Nat := 0
  value : Nat := 0
  seq : Nat := 0
  ready : Bool := false
  latches : Tbl Nat := []
deriving DecidableEq, Repr

/-- A function's resources (R399, R400). Function 0 is PF0. -/
structure Func where
  enable : Bool := false
  internal : Bool := false
  classFirst : Nat := 0
  classCount : Nat := 0
  mbxFirst : Nat := 0
  mbxCount : Nat := 0
  eventFirst : Nat := 0
  eventCount : Nat := 0
  grants : Nat := 0
  ranges : List (Nat × Nat) := []
  ownedFirst : Nat := 0
  ownedCount : Nat := 0
  cntFirst : Nat := 0
  cntCount : Nat := 0
  resetting : Bool := false
  msixEnable : Bool := false
  msixMask : Bool := false
deriving DecidableEq, Repr

/-- A keeper budget share (R399, R417). -/
structure Share where
  cycles : Nat := 0
  imem : Nat := 0
  dmem : Nat := 0
deriving DecidableEq, Repr

/-- A change that waits for a target tick (R411, R417): none in `target` waits for the epoch. -/
structure HstPend where
  key : Nat
  first : Nat
  count : Nat
  dmem : Nat := 0
  target : Option Nat
  epoch : Nat := 0
deriving DecidableEq, Repr

/-- The host link. -/
structure HstUnit where
  gen : Nat := 0
  width : Nat := 0
  vfEnable : Bool := false
  numVfs : Nat := 0
  fns : Tbl Func := []
  queues : Tbl Queue := []
  vecs : Tbl Vec := []
  mboxes : Tbl Mbox := []
  shares : Tbl Share := []
  window : Option HstPend := none
  share : Option HstPend := none
  bind : Option HstPend := none
  txId : Nat := 0
  stopped : List Nat := []
  flrCount : Nat := 0
  lastVf : Nat := 0
  flrCmd : Option Nat := none
  classes : Tbl (List Byte) := []
deriving DecidableEq, Repr

end Sys2Proof.Machine
end

