-- ==== Sys2Proof/Machine/StImg.lean ====
section
/-!
DEFINITION. State of the station image, its banks and the settings (R57 to R83).
-/

namespace Sys2Proof.Machine

open Sys2Proof

/-- One flash bank (R65, R66): state 0 EMPTY, 1 WRITING, 2 PENDING, 3 VALID, 4 INVALID. -/
structure Bank where
  state : Nat := 0
  failReason : Nat := 0
  bytes : List Byte := []
deriving DecidableEq, Repr

/-- One section of an image (R60 to R62). -/
structure Section where
  typ : Nat
  inst : Nat
  flags : Nat
  cver : Nat
  gen : Nat
  digest : List Byte
  body : List Byte
deriving DecidableEq, Repr

/-- A verified image (R58). -/
structure Image where
  fmt : Nat
  flags : Nat
  gen : Nat
  sections : List Section
deriving DecidableEq, Repr

/-- A store of settings areas in progress (R78). -/
structure Store where
  mask : Nat
  was : Nat
  snapped : Bool
  copies : List (Nat × List Byte)
deriving DecidableEq, Repr

/-- A SETTINGS_WRITE or SETTINGS_REVERT that waits for its target tick (R75). -/
structure SetPend where
  revert : Bool
  area : Nat
  offset : Nat
  bytes : List Byte
  target : Nat
deriving DecidableEq, Repr

/-- The image block: banks, running image, candidate and settings. DESIGN CHOICE, log entry 5. -/
structure ImgUnit where
  bank0 : Bank := {}
  bank1 : Bank := {}
  runBank : Nat := 0
  run : Option Image := none
  loaded : Bool := false
  minGen : Nat := 0
  loading : Option (List Byte) := none
  cand : Option Image := none
  candBank : Nat := 0
  changedSecs : List (Nat × Nat) := []
  changed : Nat := 0
  result : Nat := 0
  rejIndex : Nat := 0
  rejType : Nat := 0
  reload : Option Nat := none
  reloadAtGap : Bool := false
  oldGen : Nat := 0
  areas : Tbl (List Byte) := []
  nvm : Tbl (List Byte) := []
  journal : List (List Byte) := []
  sel : Nat := 0
  storeSeq : Nat := 0
  dirty : Nat := 0
  unstored : Nat := 0
  store : Option Store := none
  pend : Option SetPend := none
  lastResult : Nat := 0
  failArea : Nat := 0
  settingsDone : Bool := false
deriving DecidableEq, Repr

end Sys2Proof.Machine
end

