-- ==== Sys2Proof/Machine/StKpr.lean ====
section
/-!
DEFINITION. State of frame execution and of the keepers (R239 to R283), and of the guests (R414 to R416).
-/

namespace Sys2Proof.Machine

open Sys2Proof

/-- A function, or a guest of a virtual function (R255, R264, R278, R414). For a function `state` is 0
ABSENT, 1 PLACED, 2 DISPLACED, 3 FAULTED; for a guest 0 EMPTY, 1 LOADED, 2 FAULTED, 3 LOST. `sel` and the
written lines of a run are bit masks over the lines of the state block. `moved` says that a re-placement put it there, `stateBad` that its
selected copy holds an uncorrectable error. `obj`, `budget` and `mask` belong
to a guest, `placeAt` is the tick from which a loaded guest is placed. -/
structure KFunc where
  state : Nat := 0
  policy : Nat := 0
  keeper : Nat := 0
  order : Nat := 0
  divisor : Nat := 1
  phase : Nat := 0
  reserve : Nat := 0
  unplaced : Bool := false
  notOwned : Bool := false
  consec : Nat := 0
  reinit : Bool := false
  stateBad : Bool := false
  moved : Bool := false
  movePending : Bool := false
  epoch : Nat := 0
  cycles : Nat := 0
  copyA : List Byte := []
  copyB : List Byte := []
  sel : Nat := 0
  first : Bool := false
  setNew : Bool := false
  settings : List Byte := []
  obj : List Byte := []
  budget : Nat := 0
  mask : Nat := 0
  placeAt : Option Nat := none
deriving DecidableEq, Repr

/-- A keeper: its condition (0 in service, 3 FAULTED, 4 RESET, 5 TESTING), its core state and the run in
progress (R256, R264, R271). `ready` holds the cycle at which a register's result can be used: 0 to 31 x,
32 to 63 f. `run` and `due` hold functions by index, guest g of VF v as 512 + 16 v + g. -/
structure Keeper where
  cond : Nat := 0
  cause : Nat := 0
  spare : Bool := false
  awake : Bool := false
  load : Nat := 0
  used : Nat := 0
  due : List Nat := []
  run : Option Nat := none
  x : Tbl Word := []
  f : Tbl Word := []
  pc : Nat := 0
  fcsr : Nat := 0
  cycle : Nat := 0
  instret : Nat := 0
  ready : Tbl Nat := []
  code : List Byte := []
  cons : List Byte := []
  scratch : List Host.Cell := []
  written : Nat := 0
  writes : List (Nat × Bool) := []
  events : List (Nat × Nat) := []
  notOwned : Bool := false
deriving DecidableEq, Repr

/-- A run's results in the result merge (R251). `late` marks one that missed its commit. -/
structure Merge where
  id : Nat
  keeper : Nat
  epoch : Nat
  frame : Nat
  writes : List (Nat × Bool)
  events : List (Nat × Nat)
  notOwned : Bool
  written : Nat
  released : Bool
  late : Bool
deriving DecidableEq, Repr

/-- A faulted keeper whose placements leave it at tick `target` (R257). `failed` says that re-placement has
failed already (R258). -/
structure Replace where
  keeper : Nat
  target : Nat
  failed : Bool
deriving DecidableEq, Repr

/-- A KPR command that waits for its target tick or for a self-test (R263). -/
inductive KprWait where
  | move (entries : List (Nat × Nat)) (target : Nat)
  | restart (f k : Nat) (target : Nat)
  | test (k : Nat)
deriving DecidableEq, Repr

/-- Frame execution. `frames` says that protection frames run, `tick` is the tick of the present frame and
`open_` that its commit has not come. `changed` says that a placement has changed since the
latest tick, `replacedNow` holds the keepers whose re-placement takes effect at the next tick, `commitDone`
that the KPR command is DONE at the commit and `placeDone` the functions whose GUEST_LOAD is. -/
structure KprUnit where
  funcs : Tbl KFunc := []
  keepers : Tbl Keeper := []
  merge : List Merge := []
  frames : Bool := false
  synced : Bool := false
  tick : Nat := 0
  open_ : Bool := false
  replace : List Replace := []
  changed : Bool := false
  wait : Option KprWait := none
  commitDone : Bool := false
  placeDone : List Nat := []
  replacedNow : List Nat := []
deriving DecidableEq, Repr

end Sys2Proof.Machine
end

