-- ==== Sys2Proof/Machine/StNet.lean ====
section
/-!
DEFINITION. State of the Ethernet ports and the ridge (R110 to R155).
-/

namespace Sys2Proof.Machine

open Sys2Proof

/-- One Ethernet port (R110 to R132). -/
structure Port where
  speed : Nat := 0
  lastSpeed : Nat := 0
  trained : Bool := false
  linkUp : Bool := false
  holdDown : Bool := false
  holdAtUp : Bool := false
  recoverAtUp : Bool := false
  adminDown : Bool := false
  fecActive : Bool := false
  modMismatch : Bool := false
  modTxFault : Bool := false
  modLos : Bool := false
  modPresent : Bool := false
  remoteFault : Bool := false
  localFault : Bool := false
  rxPtp : Nat := 0
  rxHost : Nat := 0
  txPtp : Nat := 0
  txHost : Nat := 0
  paused : List Nat := []
  wdogReleased : List Nat := []
  xoffSent : List Nat := []
  quiet : Nat := 0
  util : Nat := 0
  hot10 : Nat := 0
  low : Bool := false
  reneg : Option Nat := none
  pinned : Bool := false
  suspended : Bool := false
  t1sTries : Nat := 0
  t1sWait : Option Nat := none
  sendEnd : Nat := 0
  linkDelay : Int := 0
deriving DecidableEq, Repr

/-- A frame in a virtual output queue (R136). `ingress` and `out` are a port index 0 to 32, or 33 plus
an internal endpoint index. `tc` is the domain of transparent-clock traffic, `host` the queue and the
frame identifier of a host transmit frame, and `ts` says that it asks for a timestamp. -/
structure QFrame where
  ingress : Nat
  out : Nat
  cls : Nat
  cells : Nat
  epoch : Nat
  frame : Frame
  rxTime : Nat
  ipSum : Bool
  l4Sum : Bool
  tc : Option Nat
  host : Option (Nat × Nat)
  ts : Bool
deriving DecidableEq, Repr

/-- A node table entry (R146): last sequence number and the seen window, bit i for L − i. DEDUCED, log entry
53. -/
structure Node where
  mac : Nat
  group : Nat
  last : Nat
  seen : BitVec 256
  static : Bool
  heard : Bool
deriving DecidableEq, Repr

/-- A first copy whose verification is awaited, and its parked duplicates (R148). -/
structure Park where
  mac : Nat
  group : Nat
  seq : Nat
  frame : Option Frame
  ingress : Nat
deriving DecidableEq, Repr

/-- A Sync residence that waits for its Follow_Up (R150). -/
structure Residence where
  out : Nat
  seqId : Nat
  portId : Nat
  time : Int
deriving DecidableEq, Repr

/-- The ridge (R133 to R155). `flows` holds each flow's 12-bit cell sequence number, `t1s` the frame that a
10BASE-T1S port attempts. -/
structure RdgUnit where
  plane0 : Bool := true
  plane1 : Bool := true
  fault0 : Bool := false
  fault1 : Bool := false
  select : Nat := 0
  queues : List QFrame := []
  epochs : Tbl Nat := []
  seqs : Tbl Nat := []
  flows : Tbl Nat := []
  t1s : List QFrame := []
  nodes : List Node := []
  parks : List Park := []
  res : List Residence := []
  credits : Tbl Int := []
  creditAt : Tbl Nat := []
deriving DecidableEq, Repr

end Sys2Proof.Machine
end

