-- ==== Sys2Proof/Machine/StPair.lean ====
section
/-!
DEFINITION. State of the publication unit (R284 to R305) and of the pair unit (R306 to R335).
-/

namespace Sys2Proof.Machine

open Sys2Proof

/-- One publication's counters after its last message (R287, R292). `last` is the content of that message that
PUB_CRC covers, where this module built it, and `crc` its PUB_CRC. `cur` is PUB_CRC after the latest commit,
`chg` the instant of the last stNum change, `due` the oscillator count at which the next message is due and
`rep` the number of the interval that ends then. -/
structure PubSt where
  stNum : Nat := 0
  sqNum : Nat := 0
  last : Option (List Byte) := none
  crc : Option Nat := none
  cur : Nat := 0
  flags : Nat := 0
  chg : Nat := 0
  due : Option Nat := none
  rep : Nat := 0
  spdu : Nat := 0
  restart : Bool := false
deriving DecidableEq, Repr

/-- A mirrored entry (R331). -/
structure Mirror where
  flags : Nat := 0
  stNum : Nat := 0
  sqNum : Nat := 0
  crc : Nat := 0
  next : Nat := 0
  sec : Nat := 0
  ns : Nat := 0
deriving DecidableEq, Repr

/-- One mapped value of the last accepted message: its value, and whether the message makes it INVALID or gives
it a test mark (R299). -/
structure SubVal where
  value : Bool
  invalid : Bool
  test : Bool
deriving DecidableEq, Repr

/-- One subscription (R298, R299). `pair` is stNum and sqNum of the last accepted message, `until_` the
oscillator count at which its timeAllowedToLive ends. -/
structure SubSt where
  pair : Option (Nat × Nat) := none
  vals : List SubVal := []
  test : Bool := false
  until_ : Nat := 0
  timedOut : Bool := false
  sim : Bool := false
  confSeen : Bool := false
deriving DecidableEq, Repr

/-- The publication unit. -/
structure PubUnit where
  pubs : Tbl PubSt := []
  mirrors : Tbl Mirror := []
  touched : List Nat := []
  subs : Tbl SubSt := []
  active : Bool := false
  armed : Bool := false
  publishing : Bool := false
  testMark : Bool := false
  simMark : Bool := false
  lantern : Bool := false
  lanternStop : Bool := false
  lanKey : List Nat := []
  demand : Nat := 0
  frame : Nat := 0
  digest : List Byte := []
  digestFrame : Option Nat := none
  wait : Option (Nat × Nat) := none
deriving DecidableEq, Repr

/-- One Bregrari path (R309, R314, R315): trained lanes, consecutive valid and consecutive missing FOGs,
consecutive FOGs in frame lock and the SEQ of the last message sent. -/
structure PathSt where
  lane1 : Bool := false
  lane2 : Bool := false
  good : Nat := 0
  miss : Nat := 0
  up : Bool := false
  lock : Nat := 0
  seq : Nat := 0
deriving DecidableEq, Repr

/-- The content of a FOG (R313). -/
structure Fog where
  frame : Nat := 0
  slot : Nat := 0xFF
  mode : Nat := 0
  flags : Nat := 0
  count : Nat := 0
  lastCommit : Nat := 0
  syncSec : Nat := 0
deriving DecidableEq, Repr

/-- The content of a DIGEST (R317). DEDUCED, log entry 87. -/
structure Digest where
  frame : Nat := 0
  digest : List Byte := []
  binHash : List Byte := []
  late : Nat := 0
  flags : Nat := 0
  gen : Nat := 0
  complete : List Byte := []
deriving DecidableEq, Repr

/-- The pair unit. `heard` is the oscillator count of the last valid FOG or partner lantern, `take` that a
takeover point is due, `irr` the latest frame with an explanation (R318). The exchange of R326 has `ex` 0 IDLE,
1 REQUESTED, 2 GRANTED, 3 CONFIRMED. The alignment of R330 has `al` 0 IDLE, 1 PLANNED, 2 RUNNING, 3 DONE,
4 FAILED; `alWait` says that an ALIGN_REQ has no answer yet, `alS0` is the S0
that it moves and `items` are those that wait for their cut-over point. -/
structure PairUnit where
  count : Nat := 0
  rxCount : Nat := 0
  fogStart : Option Nat := none
  heard : Nat := 0
  absent : Bool := false
  alive : Bool := false
  pathA : PathSt := {}
  pathB : PathSt := {}
  fog : Fog := {}
  lastCommit : Nat := 0
  lanPresent : Bool := false
  lanId : Nat := 0
  lanMode : Nat := 0
  lanCount : Nat := 0
  lanAge : Nat := 255
  lanUntil : Nat := 0
  stand : Option Nat := none
  take : Bool := false
  own : List Digest := []
  peer : List Digest := []
  irr : Option Nat := none
  consec : Nat := 0
  diverged : Bool := false
  matchRun : Nat := 0
  cmpFrame : Nat := 0
  cmpOwn : List Byte := []
  cmpPeer : List Byte := []
  peerGen : Option Nat := none
  ex : Nat := 0
  exKind : Nat := 0
  exIni : Bool := false
  exH : Nat := 0
  exLeave : Bool := false
  exNow : Bool := false
  hold : Option Nat := none
  inhibit : Bool := false
  solo : Option Nat := none
  soloAbsent : Bool := false
  soloDue : Bool := false
  al : Nat := 0
  alSource : Bool := false
  alStart : Nat := 0
  alFrame : Nat := 0
  alLeft : Nat := 0
  alS0 : Nat := 0
  alWait : Bool := false
  items : List (Nat × Nat × Nat × AlignItem) := []
deriving DecidableEq, Repr

end Sys2Proof.Machine
end

