-- ==== Sys2Proof/Machine/State.lean ====
section
/-!
DEFINITION. The state of the module, the reasons a step can stop, and the state after reset.
-/

namespace Sys2Proof.Machine

open Sys2Proof

/-- Faults. No rule of the spec stops the module on a command it gives an effect. -/
inductive Fault where
deriving DecidableEq, Repr

/-- Refusals. -/
inductive Refusal where
  /-- Raised by an arm of `exec` whose command has no meaning yet. Safe: the model stops. -/
  | notModelled (mnemonic : String)
deriving DecidableEq, Repr

/-- The whole module. -/
structure State where
  pending : List Instr := []
  out : List OutMsg := []
  readData : Word := 0
  regs : Tbl Word := []
  cmds : Tbl CmdStat := []
  once : List Nat := []
  time : TimeBase := {}
  glb : GlbUnit := {}
  pwr : PwrUnit := {}
  log : LogUnit := {}
  evt : EvtUnit := {}
  img : ImgUnit := {}
  bcn : BcnUnit := {}
  ports : Tbl Port := []
  rdg : RdgUnit := {}
  cdv : Tbl Coil := []
  bin : Tbl BinIn := []
  can : Tbl CanCtl := []
  prf : PrfUnit := {}
  pln : PlnUnit := {}
  svi : SviUnit := {}
  cnd : CndUnit := {}
  lmp : LmpUnit := {}
  hst : HstUnit := {}
  kpr : KprUnit := {}
  gal : GalUnit := {}
  pub : PubUnit := {}
  pair : PairUnit := {}
deriving DecidableEq, Repr

/-- The module right after a module reset: BOOT, stage 1 running (R42, R54). DESIGN CHOICE, log entry 5. -/
def State.reset : State := {}

end Sys2Proof.Machine
end

