-- ==== Sys2Proof/Machine/Ops.lean ====
section
/-!
DEFINITION. Operations that every block shares: time, registers, events, logbook records, commands
and the running image's sections.
-/

namespace Sys2Proof.Machine

open Sys2Proof

/-! ### Time -/

/-- The bound of the crystal's error over a span: 20 ppm (R503). DESIGN CHOICE, log entry 23. -/
def crystalBound (dt : Nat) : Int := (dt * 20 / 1000000 : Nat)

/-- The span that the crystal counts while the oscillator counts `dt`. Its error is a free value
within 20 ppm (R503; DESIGN CHOICE, log entry 23). -/
def crystalSpan (mono dt : Nat) : Nat :=
  if dt = 0 then 0
  else ((dt : Int) + clampInt (-(crystalBound dt)) (crystalBound dt)
    (Config.crystalError mono dt)).toNat

/-- The module's own clock counts `dt` units of 2^-16 ns (R94, R503). After the first step, station time
advances at the oscillator rate corrected by BCN_RATE. DESIGN CHOICE, log entry 1; DESIGN CHOICE, log entry
106. -/
def State.elapse (s : State) (dt : Nat) : State :=
  have t := s.time
  have adv : Int := (dt : Int) * ((2 : Int) ^ 48 + s.bcn.rate) + t.sub
  have bk := t.backup + crystalSpan t.mono dt
  have s := if dt = 0 then s else { s with log := { s.log with mark := s.log.queue.length } }
  if t.stepped then
    { s with time := { t with mono := t.mono + dt, backup := bk,
                              station := t.station + (adv / (2 : Int) ^ 48).toNat,
                              sub := (adv % (2 : Int) ^ 48).toNat } }
  else { s with time := { t with mono := t.mono + dt, backup := bk } }

/-- Station time in units of 2^-16 ns. Before the first step it is the backup counter (R503). DESIGN CHOICE,
log entry 1. -/
def State.now (s : State) : Nat := if s.time.stepped then s.time.station else s.time.backup

/-- SEC of an instant (R84). -/
def secOf (t : Nat) : Nat := t / secUnit % 2 ^ 48

/-- NS of an instant (R84). -/
def nsOf (t : Nat) : Nat := t % secUnit / nsUnit

/-- FRAC of an instant (R84). -/
def fracOf (t : Nat) : Nat := t % nsUnit

/-- TS32 of an instant (R85). -/
def ts32Of (t : Nat) : Nat := t / nsUnit % 2 ^ 32

/-! ### The running image -/

/-- A section of the running image. -/
def State.sect (s : State) (typ inst : Nat) : Option Section :=
  match s.img.run with
  | none => none
  | some im => im.sections.find? (fun x => decide (x.typ = typ) && decide (x.inst = inst))

/-- The body of a section of the running image, empty when there is none. -/
def State.cfg (s : State) (typ inst : Nat) : List Byte :=
  match s.sect typ inst with
  | none => []
  | some x => x.body

/-- The frame rate of the SCHEDULE section (R239), 4,800 while no image is loaded. -/
def State.frameRate (s : State) : Nat :=
  have b := s.cfg 7 0
  if b.isEmpty then 4800 else leAt b 0 2

/-! ### Registers -/

/-- The reset value of a stored register. Every register that the spec does not list here resets to
0; IMG_TARGET_SEC and its like reset to all ones (R82, R188, R264, R304, R426), PRF_SAMPLE_PERIOD to
1, PRF_SAMPLE_CFG to 6, PRF_TAG_CFG to TAG_LOG2 12, PRF_SEL to ARG 0xFF (R469), and MIN_MARGIN to
0xFFFF_FFFF (R186). -/
def regReset (a : Nat) : Word :=
  if [0x20038, 0x300020, 0x600014, 0x70001C, 0xC00014].contains a then 0xFFFFFFFF#32
  else if a = 0x40000C then 3#32
  else if a = 0xF00020 then 1#32
  else if a = 0xF0001C then 6#32
  else if a = 0xF00030 then 0x000C0000#32
  else if 0xF00400 ≤ a ∧ a < 0xF01280 ∧ a % 16 = 8 then 0x0000FF00#32
  else if 0x320000 ≤ a ∧ a < 0x340000 ∧ a % 64 = 56 then 0xFFFFFFFF#32
  else if 0x104000000 ≤ a ∧ 0x4000 ≤ a % 65536 ∧ a % 65536 < 0x7000 ∧ a % 64 = 56 then 0xFFFFFFFF#32
  else 0#32

/-- The stored value of a register. DEDUCED, log entry 110. -/
def State.rd (s : State) (a : Nat) : Word := tget s.regs a (regReset a)

/-- A register with a new stored value. DEDUCED, log entry 110. -/
def State.wr (s : State) (a : Nat) (v : Word) : State :=
  { s with regs := tset s.regs a v (regReset a) }

/-- A saturating counter counts one. -/
def State.count (s : State) (a : Nat) : State := s.wr a (satInc (s.rd a))

/-- A saturating counter counts `n`. -/
def State.countBy (s : State) (a n : Nat) : State := s.wr a (satAdd (s.rd a) n)

/-- A wrapping 32-bit counter counts `n` (R120). -/
def State.wrapBy (s : State) (a n : Nat) : State := s.wr a (s.rd a + BitVec.ofNat 32 n)

/-! ### Event sources (R473) -/

/-- Address of the status register, bit in it and address of the enable register of a source. -/
def evLoc (src : Nat) : Option (Nat × Nat × Nat) :=
  if src < 10 then some (0x40, src, 0x44)
  else if 16 ≤ src ∧ src < 22 then some (0x20060, src - 16, 0x20064)
  else if 24 ≤ src ∧ src < 28 then some (0x50002C, src - 24, 0x500030)
  else if 28 ≤ src ∧ src < 31 then some (0x10014, src - 28, 0x10018)
  else if 64 ≤ src ∧ src < 80 then some (0x40060, src - 64, 0x40064)
  else if 128 ≤ src ∧ src < 256 then
    some (0x100018 + 0x1000 * ((src - 128) / 4), (src - 128) % 4, 0x10001C + 0x1000 * ((src - 128) / 4))
  else if 256 ≤ src ∧ src < 265 then some (0x200018, src - 256, 0x20001C)
  else if 320 ≤ src ∧ src < 329 then some (0x300028, src - 320, 0x30002C)
  else if 384 ≤ src ∧ src < 392 then some (0x40001C, src - 384, 0x400020)
  else if 448 ≤ src ∧ src < 455 then some (0x600020, src - 448, 0x600024)
  else if 512 ≤ src ∧ src < 521 then some (0x700030, src - 512, 0x700034)
  else if 576 ≤ src ∧ src < 590 then some (0x800054, src - 576, 0x800058)
  else if 608 ≤ src ∧ src < 616 then some (0x90002C, src - 608, 0x900030)
  else if 640 ≤ src ∧ src < 647 then some (0xA0002C, src - 640, 0xA00030)
  else if 704 ≤ src ∧ src < 710 then some (0xB00038, src - 704, 0xB0003C)
  else if 720 ≤ src ∧ src < 730 then some (0xC00020, src - 720, 0xC00024)
  else if 784 ≤ src ∧ src < 816 then some (0xD0000C, src - 784, 0xD00010)
  else if 816 ≤ src ∧ src < 832 then some (0xD80004, src - 816, 0xD80008)
  else if 832 ≤ src ∧ src < 842 then some (0xE00010, src - 832, 0xE00014)
  else if 848 ≤ src ∧ src < 858 then some (0xE10010, src - 848, 0xE10014)
  else if 864 ≤ src ∧ src < 869 then some (0xF00034, src - 864, 0xF00038)
  else if 896 ≤ src ∧ src < 1024 then
    some (0x10200 + 4 * ((src - 896) / 32), (src - 896) % 32, 0x10210 + 4 * ((src - 896) / 32))
  else none

/-- The block of a source (R49, R473). -/
def evBlock (src : Nat) : Nat :=
  if src < 10 then 0x00
  else if src < 24 then 0x02
  else if src < 28 then 0x08
  else if src < 64 then 0x01
  else if src < 128 then 0x03
  else if src < 256 then 0x04
  else if src < 320 then 0x05
  else if src < 384 then 0x06
  else if src < 448 then 0x07
  else if src < 512 then 0x09
  else if src < 576 then 0x0A
  else if src < 608 then 0x0B
  else if src < 640 then 0x0C
  else if src < 704 then 0x0D
  else if src < 720 then 0x0E
  else if src < 784 then 0x0F
  else if src < 816 then 0x10
  else if src < 832 then 0x11
  else if src < 864 then 0x12
  else if src < 896 then 0x13
  else 0x01

/-- The line of a source: status bit and enable bit both 1 (R473). -/
def State.line (s : State) (src : Nat) : Bool :=
  match evLoc src with
  | none => false
  | some (a, b, e) => (s.rd a).getLsbD b && (s.rd e).getLsbD b

/-- TARGET of a source's route (R482): 0 NONE, 1 VECTOR, 2 CORE. -/
def State.routeTarget (s : State) (src : Nat) : Nat := fld (s.rd (0x11000 + 4 * src)) 30 2

/-- INDEX of a source's route. -/
def State.routeIndex (s : State) (src : Nat) : Nat := fld (s.rd (0x11000 + 4 * src)) 0 11

/-- CORE of a source's route. -/
def State.routeCore (s : State) (src : Nat) : Nat := fld (s.rd (0x11000 + 4 * src)) 28 2

/-- Delivery of one edge of a source (R476, R478). A route to a core sets the line's pending bit; a
route to a vector holds one message, merged with one already held for the source or the vector. -/
def State.deliver (s : State) (src : Nat) : State :=
  if s.routeTarget src = 1 then
    if s.evt.held.any (fun x => decide (x = src) ||
        (decide (s.routeTarget x = 1) && decide (s.routeIndex x = s.routeIndex src))) then s
    else { s with evt := { s.evt with held := s.evt.held ++ [src] } }
  else if s.routeTarget src = 2 then
    have l := s.routeIndex src % 64
    have a := 0x12000 + 8 * s.routeCore src + 4 * (l / 32)
    s.wr a (s.rd a ||| bit (l % 32))
  else s

/-- A block sets a source's status bit (R473). A rising edge of the line is delivered. -/
def State.setEvent (s : State) (src : Nat) : State :=
  match evLoc src with
  | none => s
  | some (a, b, e) =>
    if (s.rd a).getLsbD b then s
    else
      have s := s.wr a (s.rd a ||| bit b)
      if (s.rd e).getLsbD b then s.deliver src else s

/-! ### Logbook records (R379 to R389) -/

/-- The default class of a record code (R389). -/
def classDefault (code : Nat) : Nat :=
  if code ≥ 0x4000 then
    if [5, 6, 7, 8, 69, 70, 256, 389, 450, 452, 577, 578, 580, 586, 608, 609].contains (code - 0x4000)
    then 0 else 1
  else if [0x01, 0x02, 0x06, 0x07, 0x08, 0x0B, 0x0D, 0x20, 0x21].contains code then 0
  else if [0x03, 0x09, 0x0C, 0x0E, 0x0F, 0x10, 0x13, 0x18].contains code then 1
  else 2

/-- The class override of LOG_POLICY for a code, from override `i` on (R388). -/
def overrideFor (b : List Byte) (code n i : Nat) : Option Nat :=
  match n with
  | 0 => none
  | n + 1 =>
    if leAt b (16 + 4 * i) 2 = code then some (byteAt b (18 + 4 * i) % 4)
    else overrideFor b code n (i + 1)

/-- The class of a record code under the policy in force (R381, R388). -/
def State.classOf (s : State) (code : Nat) : Nat :=
  have b := s.cfg 0xD 0
  match overrideFor b code (leAt b 2 2) 0 with
  | some c => c
  | none => classDefault code

/-- TRACE_ENABLE of LOG_POLICY (R388). -/
def State.traceEnabled (s : State) : Bool := byteAt (s.cfg 0xD 0) 6 % 2 = 1

/-- GLB_MODULE_ID.MODULE_ID as a record carries it (R379). -/
def State.recId (s : State) : Nat := if s.glb.idValid then s.glb.moduleId else 0

/-- The register address of LOG_LOST_CNT of a class (R393). -/
def lostCntAddr (cls : Nat) : Nat := 0xB00028 + 4 * cls

/-- SOURCE of a record (R379). DEDUCED, log entry 111. -/
def sourceOf (r : LogRec) : Nat := r.block * 1024 + r.inst

/-- A loss of a record of a class (R383, R387). `seq` is the SEQ it had taken, or 0xFFFF_FFFF. -/
def State.logLose (s : State) (cls seq : Nat) : State :=
  have l := s.log
  have l := if cls = 0 then { l with lostCrit := min 65535 (l.lostCrit + 1) }
    else if cls = 1 then { l with lostAlarm := min 65535 (l.lostAlarm + 1) }
    else if cls = 2 then { l with lostNotice := min 65535 (l.lostNotice + 1) }
    else { l with lostTrace := min 65535 (l.lostTrace + 1) }
  have l := if l.lostAny then l else { l with lostFirst := seq }
  have s := { s with log := { l with lostAny := true } }
  (s.count (lostCntAddr cls)).setEvent 706

/-- A ring with a record appended, the oldest overwritten when it is full (R382). -/
def ringPut (ring : List LogRec) (r : LogRec) (size : Nat) : List LogRec :=
  if ring.length ≥ size then ring.drop (ring.length + 1 - size) ++ [r] else ring ++ [r]

/-- A record is accepted: it takes SEQ and goes to the DRAM ring, or to the hold buffer while the
ring is frozen or drains (R380, R382, R387). A CRITICAL record also waits for the NVM ring. -/
def State.logAccept (s : State) (r : LogRec) : State :=
  have r := { r with seq := s.log.nextSeq }
  have s := { s with log := { s.log with nextSeq := (s.log.nextSeq + 1) % 2 ^ 32 } }
  have s := if r.cls = 0 then
      ({ s with log := { s.log with nvmWait := s.log.nvmWait ++ [r] } }).setEvent 704
    else s
  if s.log.frozen || s.log.draining then
    if s.log.hold.length ≥ 4096 then
      ({ s with log := { s.log with holdLoss := true } }).logLose r.cls r.seq
    else { s with log := { s.log with hold := s.log.hold ++ [{ r with fromHold := true }] } }
  else { s with log := { s.log with dram := ringPut s.log.dram r 262144 } }

/-- A record enters a list after every record of its own clock whose SOURCE is not above its own
(R383). -/
def insBySource (q : List LogRec) (r : LogRec) : List LogRec :=
  match q with
  | [] => [r]
  | x :: rest => if sourceOf r < sourceOf x then r :: x :: rest else x :: insBySource rest r

/-- A source offers a record to the logbook (R381, R383). -/
def State.logOffer (s : State) (r : LogRec) : State :=
  if r.cls = 3 ∧ s.traceEnabled = false then s
  else if s.log.queue.length ≥ 64 then
    if r.cls = 0 then s.logAccept r else s.logLose r.cls 0xFFFFFFFF
  else
    { s with
        log := { s.log with
        queue := s.log.queue.take s.log.mark ++ insBySource (s.log.queue.drop s.log.mark) r } }

/-- A record of a block instance at the present instant (R379). Instance 0x3FF is the block as a whole.
DEDUCED, log entry 111. -/
def State.mkRec (s : State) (code block inst p0 p1 p2 : Nat) : LogRec :=
  { code := code, block := block, inst := inst % 1024, seq := 0, sec := secOf s.now % 2 ^ 32,
    ns := nsOf s.now, p0 := p0 % 2 ^ 32, p1 := p1 % 2 ^ 32, p2 := p2 % 2 ^ 32, moduleId := s.recId,
    cls := s.classOf code, timeValid := s.time.stepped, fromHold := false, stepFollows := false }

/-- A block writes a record. DEDUCED, log entry 111. -/
def State.logPut (s : State) (code block inst p0 p1 p2 : Nat) : State :=
  s.logOffer (s.mkRec code block inst p0 p1 p2)

/-- The frame number of the latest frame tick (R103). -/
def State.frameNum (s : State) : Nat := s.bcn.tickNo % 2 ^ 32

/-- The record of event source `src` (R389): P0 the instance index, P1 the frame number, P2 the block's
event status. DEDUCED, log entry 31. -/
def State.eventRec (s : State) (src inst p0 : Nat) : State :=
  have st := match evLoc src with
    | none => 0
    | some (a, _, _) => (s.rd a).toNat
  s.logPut (0x4000 + src) (evBlock src) inst p0 s.frameNum st

/-- Raise a source and write its record. -/
def State.raiseRec (s : State) (src inst : Nat) : State := (s.setEvent src).eventRec src inst inst

/-- Raise a GLB source. GLB events always write a record (R389). -/
def State.raiseGlb (s : State) (src : Nat) : State := (s.setEvent src).eventRec src 0x3FF 0x3FF

/-! ### At most once per second (R501) -/

/-- The mark of one kind of happening at one instance. -/
def onceKey (kind inst : Nat) : Nat := kind * 2 ^ 32 + inst

/-- The first occurrence of a kind in this second: run `f` and mark it. DEDUCED, log entry 32. -/
def State.oncePer (s : State) (kind inst : Nat) (f : State → State) : State :=
  if s.once.contains (onceKey kind inst) then s
  else f { s with once := insNat s.once (onceKey kind inst) }

/-- Raise a source at most once per second for an instance. DEDUCED, log entry 32. -/
def State.raiseOnce (s : State) (src inst : Nat) : State := s.oncePer src inst (·.setEvent src)

/-- Raise a source and write its record at most once per second for an instance. -/
def State.raiseRecOnce (s : State) (src inst : Nat) : State :=
  s.oncePer src inst (·.raiseRec src inst)

/-! ### Commands (R37 to R40) -/

/-- The number of a mode (R30). -/
def modeNum (m : Mode) : Nat :=
  match m with
  | .dormant => 0
  | .boot => 1
  | .commission => 2
  | .standby => 3
  | .active => 4
  | .test => 5
  | .maintenance => 6
  | .degraded => 7

/-- What checking a command gives. -/
inductive Verdict where
  | arg
  | state
  | ok
deriving DecidableEq, Repr

/-- The command status behind a command register. -/
def State.cmd (s : State) (reg : Nat) : CmdStat := tget s.cmds reg {}

/-- A command status with a new value. -/
def State.setCmd (s : State) (reg : Nat) (c : CmdStat) : State :=
  { s with cmds := tset s.cmds reg c {} }

/-- The block whose command register lies at an address (R49). -/
def cmdBlock (reg : Nat) : Nat :=
  if reg = 0x14 ∨ reg = 0x30 then 0x00
  else if reg = 0x10000 then 0x01
  else if reg = 0x20000 then 0x02
  else if reg = 0x40000 then 0x03
  else if 0x100000 ≤ reg ∧ reg < 0x121000 then 0x04
  else if reg = 0x200000 then 0x05
  else if reg = 0x300000 then 0x06
  else if reg = 0x400000 then 0x07
  else if reg = 0x500000 then 0x08
  else if reg = 0x600000 then 0x09
  else if reg = 0x700000 then 0x0A
  else if reg = 0x800000 then 0x0B
  else if reg = 0x900000 then 0x0C
  else if reg = 0xA00000 then 0x0D
  else if reg = 0xB00000 then 0x0E
  else if reg = 0xD00000 then 0x10
  else if reg = 0xE00000 ∨ reg = 0xE10000 then 0x12
  else if reg = 0xF00000 then 0x13
  else 0x0F

/-- The instance of a command register: the port, the controller or the function (R389). -/
def cmdInst (reg : Nat) : Nat :=
  if 0x100000 ≤ reg ∧ reg < 0x121000 then (reg - 0x100000) / 0x1000
  else if reg = 0xE10000 then 1
  else if reg = 0xE00000 then 0
  else if reg ≥ 0x104000000 then (reg - 0x104000000) / 0x10000
  else 0x3FF

/-- The command-done source of a command register, where its block has one. -/
def cmdDoneSrc (reg : Nat) : Option Nat :=
  if reg = 0x14 then some 1
  else if reg = 0x30 then some 2
  else if reg = 0x10000 then some 30
  else if reg = 0x40000 then some 79
  else if reg = 0x200000 then some 264
  else if reg = 0x300000 then some 328
  else if reg = 0x400000 then some 390
  else if reg = 0x500000 then some 27
  else if reg = 0x600000 then some 454
  else if reg = 0x700000 then some 520
  else if reg = 0x800000 then some 589
  else if reg = 0x900000 then some 615
  else if reg = 0xA00000 then some 646
  else if reg = 0xB00000 then some 709
  else if reg = 0xC00000 then some 729
  else if reg = 0xE00000 then some 841
  else if reg = 0xE10000 then some 857
  else if reg = 0xF00000 then some 868
  else none

/-- The running command of a register completes (R39): status DONE with its own code. -/
def State.cmdDone (s : State) (reg : Nat) : State :=
  have c := s.cmd reg
  have s := s.setCmd reg { c with code := c.runCode, pending := false, status := 2 }
  match cmdDoneSrc reg with
  | none => s
  | some src => if src < 10 then s.raiseGlb src else s.setEvent src

/-- Record of a REFUSED_STATE outcome (R40) and the GLB event (R56). -/
def State.refusedRec (s : State) (reg code : Nat) : State :=
  (s.logPut 0x0004 (cmdBlock reg) (cmdInst reg) (cmdBlock reg) code (modeNum s.glb.mode)).raiseGlb 9

/-- The running command of a register ends REFUSED_STATE (R40). -/
def State.cmdEndRefused (s : State) (reg : Nat) : State :=
  have c := s.cmd reg
  (s.setCmd reg { c with code := c.runCode, pending := false, status := 3 }).refusedRec reg c.runCode

/-- One command written to a command register (R37 to R40). BUSY comes before every check; then the reserved
bits and the argument; then the state. DEDUCED, log entry 8. -/
def State.runCmd (s : State) (reg code rsv arg : Nat) (v : Verdict) (act : State → State) : State :=
  have c := s.cmd reg
  if c.pending || ((reg = 0x14 || reg = 0x30) && s.glb.inTransition) then
    s.setCmd reg { c with code := code, status := 5 }
  else if rsv ≠ 0 then s.setCmd reg { c with code := code, status := 4 }
  else
    match v with
    | .arg => s.setCmd reg { c with code := code, status := 4 }
    | .state => (s.setCmd reg { c with code := code, status := 3 }).refusedRec reg code
    | .ok => act (s.setCmd reg { code := code, pending := true, status := 1, runCode := code,
                                 runArg := arg })

/-- A verdict that joins an argument check and a state check. DEDUCED, log entry 8. -/
def verdict (argOk stateOk : Bool) : Verdict :=
  if argOk then (if stateOk then .ok else .state) else .arg

/-- Every mode after BOOT (R502). -/
def State.afterBoot (s : State) : Bool :=
  decide (s.glb.mode ≠ .dormant) && decide (s.glb.mode ≠ .boot)

/-- After BOOT stage `n`, the rest of BOOT included (R502). -/
def State.afterStage (s : State) (n : Nat) : Bool :=
  s.afterBoot || (decide (s.glb.mode = .boot) && decide (s.glb.bootStage > n))

/-- An unknown command code returns REFUSED_ARG (R38). DEDUCED, log entry 8. -/
def State.badCode (s : State) (reg code rsv arg : Nat) : State := s.runCmd reg code rsv arg .arg id

/-- The outcome of a command of the table. -/
abbrev Result := Host.Outcome State Fault Refusal

/-- The number of a reader or requester: PF0, the four host cores, then the virtual functions. DESIGN
CHOICE, log entry 108. -/
def readerId (q : Requester) : Nat :=
  match q with
  | .pf0 => 0
  | .core h => 1 + h.val
  | .vf v => 5 + v.val

/-- A module output. DESIGN CHOICE, log entry 10. -/
def State.emit (s : State) (m : OutMsg) : State := { s with out := s.out ++ [m] }

/-! ### Frame ticks and target frames (R70, R103) -/

/-- The number of the first tick at or after an instant: S × rate + k. DEDUCED, log entry 13. -/
def tickAtOrAfter (t rate : Nat) : Nat := (t * rate + secUnit - 1) / secUnit

/-- The instant of a tick. DEDUCED, log entry 13. -/
def tickTime (n rate : Nat) : Nat := n * secUnit / rate

/-- The full second nearest to the present one whose low 32 bits are `sec32`. -/
def extendSec (now32 full sec32 : Nat) : Nat :=
  have d := (sec32 + 2 ^ 32 - now32) % 2 ^ 32
  if d < 2 ^ 31 then full + d else full + d - 2 ^ 32

/-- The target tick of a command (R70), or none where the target is refused. DEDUCED, log entry 13. -/
def State.targetTick (s : State) (secReg frameReg : Nat) : Option Nat :=
  have rate := s.frameRate
  have sec := (s.rd secReg).toNat
  have k := fld (s.rd frameReg) 0 14
  if sec = 0xFFFFFFFF then some (tickAtOrAfter (s.now + 2 * secUnit / rate) rate)
  else if k ≥ rate then none
  else
    have full := s.now / secUnit
    have n := extendSec (full % 2 ^ 32) full sec * rate + k
    if n * secUnit < s.now * rate + 2 * secUnit then none
    else if n * secUnit > s.now * rate + 60 * secUnit * rate then none
    else some n

/-! ### Binary signals (R229) -/

/-- The value of a binary signal as its source last wrote it. DEDUCED, log entry 66. -/
def State.sigVal (s : State) (b : Nat) : Bool := s.pln.binVal.getLsbD b

/-- The quality code of a binary signal. -/
def State.sigQual (s : State) (b : Nat) : Nat := s.pln.binQual.toNat / 4 ^ b % 4

/-- A binary vector with one bit set to a value. -/
def setBit {w : Nat} (v : BitVec w) (i : Nat) (x : Bool) : BitVec w :=
  have m := BitVec.ofNat w (2 ^ i)
  if x then v ||| m else v &&& ~~~ m

/-- A source writes only the quality of a signal: 0 GOOD, 1 NOT_RECEIVED, 2 INVALID, 3 TEST. -/
def State.setSigQual (s : State) (b q : Nat) : State :=
  if b < 16384 then
    { s with
        pln := { s.pln with
        binQual := setBit (setBit s.pln.binQual (2 * b) (decide (q % 2 = 1))) (2 * b + 1)
          (decide (q / 2 % 2 = 1)) } }
  else s

/-- A source writes the value and quality of a signal. -/
def State.setSig (s : State) (b : Nat) (v : Bool) (q : Nat) : State :=
  if b < 16384 then
    { s with pln := { s.pln with binVal := setBit s.pln.binVal b v } }.setSigQual b q
  else s

/-- Apply an operation for every number below `n`, in ascending order. -/
def forN (n : Nat) (f : Nat → State → State) (s : State) : State :=
  (List.range n).foldl (fun s i => f i s) s

end Sys2Proof.Machine
end

