-- ==== Sys2Proof/Machine/Pln.lean ====
section
/-!
DEFINITION. Family: the sample plane (R220 to R238), and the stream and channel tables of the image
that lay it out (R156 to R161, R200, R203).
-/

namespace Sys2Proof.Machine

open Sys2Proof

/-! ### Plane memory (R220) -/

/-- What a plane byte that nothing has written reads as: 0, and in the binary quality history the
quality NOT_RECEIVED (R220, R229, log entry 6). -/
def plnDefault (a : Nat) : Byte := if 0x31E0000 ≤ a ∧ a < 0x3220000 then 0x55#8 else 0#8

/-- A byte of a byte memory. DESIGN CHOICE, log entry 6. -/
def memGet (m : List Host.Cell) (a : Nat) (d : Byte) : Byte :=
  match m with
  | [] => d
  | (k, v) :: r => if k = a then v else memGet r a d

/-- The cells of bytes written from an address, those that equal the default left out. -/
def memCells (a : Nat) (bs : List Byte) : List Host.Cell :=
  match bs with
  | [] => []
  | b :: r => if b = plnDefault a then memCells (a + 1) r else (a, b) :: memCells (a + 1) r

/-- A byte memory with bytes written from an address. DESIGN CHOICE, log entry 6. -/
def memPut (m : List Host.Cell) (a : Nat) (bs : List Byte) : List Host.Cell :=
  m.filter (fun (c : Host.Cell) => decide (c.1 < a)) ++ memCells a bs
    ++ m.filter (fun (c : Host.Cell) => decide (a + bs.length ≤ c.1))

/-- Cells are in strictly rising order from an address on. -/
def memSorted (lo : Nat) (m : List Host.Cell) : Bool :=
  match m with
  | [] => true
  | (k, _) :: r => decide (lo ≤ k) && memSorted (k + 1) r

/-- The canonical form of the plane memory. DESIGN CHOICE, log entry 6. -/
def memWf (m : List Host.Cell) : Bool :=
  memSorted 0 m && m.all (fun (c : Host.Cell) => decide (c.2 ≠ plnDefault c.1))

/-- A write into the plane. It clears an uncorrectable error in what it writes (R234). -/
def State.plnPut (s : State) (a : Nat) (bs : List Byte) : State :=
  { s with
      pln := { s.pln with
      mem := memPut s.pln.mem a bs
      poison := s.pln.poison.filter (fun x => decide (x < a) || decide (a + bs.length ≤ x)) } }

/-- Address of a grid value (R220). -/
def gridValAddr (c i : Nat) : Nat := c * 1024 + i % 256 * 4

/-- Address of a grid mark (R220). -/
def gridMarkAddr (c i : Nat) : Nat := 0x1000000 + c * 512 + i % 256 * 2

/-- Address of an input value (R220). -/
def inValAddr (c j : Nat) : Nat := 0x1800000 + c * 512 + j % 128 * 4

/-- Address of an input mark (R220). -/
def inMarkAddr (c j : Nat) : Nat := 0x2000000 + c * 256 + j % 128 * 2

/-- Address of a phasor (R220). -/
def phasorAddr (c p : Nat) : Nat := 0x2400000 + c * 512 + p % 64 * 8

/-- Address of a phasor mark (R220). -/
def phasorMarkAddr (c p : Nat) : Nat := 0x2C00000 + c * 128 + p % 64 * 2

/-- Address of a grid instant (R220). -/
def gridInstAddr (t i : Nat) : Nat := 0x2E00000 + t * 2048 + i % 256 * 8

/-- Address of an input instant (R220). -/
def inInstAddr (s j : Nat) : Nat := 0x2F00000 + s * 1024 + j % 128 * 8

/-- A channel of the plane. -/
def State.chan (s : State) (c : Nat) : Chan := tget s.pln.chans c {}

/-- A channel with a new value. -/
def State.setChan (s : State) (c : Nat) (x : Chan) : State :=
  { s with pln := { s.pln with chans := tset s.pln.chans c x {} } }

/-- The 48 bytes of a channel's state (R228). A channel that no stream owns reads STREAM 0xFFFF and
zeros. -/
def State.chanBytes (s : State) (c : Nat) : List Byte :=
  have x := s.chan c
  if x.inUse then
    leBytes x.stream 2 ++ leBytes x.chan 1 ++ leBytes x.grid 1 ++ leBytes x.table 2
    ++ leBytes x.inputAges 1 ++ leBytes (1 + 2 * b2n x.subst + 4 * b2n x.filled) 1
    ++ leBytes x.headG 4 ++ leBytes x.headI 4 ++ leBytes s.pln.headFrame 4 ++ leBytes x.marksOr 2
    ++ leBytes x.settleLeft 2
  else [0xFF#8, 0xFF#8]

/-- The entry whose poisoned word an address lies in: whether the error hits a value (R234). -/
def ringOfAddr (a : Nat) : Nat :=
  if a < 0x1000000 then 1
  else if a < 0x1800000 then 2
  else if a < 0x2000000 then 3
  else if a < 0x2400000 then 4
  else if a < 0x2C00000 then 5
  else if a < 0x2E00000 then 6
  else 0

/-- The channel and index of the ring entry that an address lies in. -/
def ringEntry (a : Nat) : Nat × Nat :=
  match ringOfAddr a with
  | 1 => (a / 1024, a % 1024 / 4)
  | 2 => ((a - 0x1000000) / 512, a % 512 / 2)
  | 3 => ((a - 0x1800000) / 512, a % 512 / 4)
  | 4 => ((a - 0x2000000) / 256, a % 256 / 2)
  | 5 => ((a - 0x2400000) / 512, a % 512 / 8)
  | _ => ((a - 0x2C00000) / 128, a % 128 / 2)

/-- Whether the ring entry at an address has an uncorrectable error in its value or its mark. DESIGN CHOICE,
log entry 113. -/
def State.poisoned (s : State) (a : Nat) : Bool :=
  decide (ringOfAddr a ≠ 0) &&
    s.pln.poison.any (fun x => decide ((ringOfAddr x + 1) / 2 = (ringOfAddr a + 1) / 2) &&
      decide (ringEntry x = ringEntry a))

/-- A byte of the plane as a reader sees it: the per-channel state, NOT_SETTLED added to grid and
phasor marks after a step (R505), and 0.0 with mark INVALID at an uncorrectable error (R234). -/
def State.plnByte (s : State) (a : Nat) : Byte :=
  if 0x3100000 ≤ a ∧ a < 0x31C0000 then
    (s.chanBytes ((a - 0x3100000) / 48)).getD ((a - 0x3100000) % 48) 0
  else
    have r := ringOfAddr a
    have isMark := decide (r = 2) || decide (r = 6)
    have v := if s.poisoned a then (if r % 2 = 0 ∧ a % 2 = 0 then 1#8 else 0#8)
      else memGet s.pln.mem a (plnDefault a)
    if isMark && decide (a % 2 = 0) && s.cnd.afterStep then v ||| 0x20#8 else v

/-- `n` bytes of the plane. -/
def State.plnBytes (s : State) (a n : Nat) : List Byte :=
  (List.range n).map (fun i => s.plnByte (a + i))

/-- A little-endian number in the plane. -/
def State.plnNum (s : State) (a n : Nat) : Nat := leAt (s.plnBytes a n) 0 n

/-- The 8 bytes of an instant entry (R223). -/
def instBytes (t : Nat) : List Byte := leBytes (ts32Of t) 4 ++ leBytes (fracOf t) 2 ++ [0, 0]

/-! ### The stream table (R157 to R160) -/

/-- A rate code's input rate in Hz (R160). -/
def rateHz (code : Nat) : Nat :=
  match code with
  | 1 => 4000
  | 2 => 4800
  | 3 => 12800
  | 4 => 15360
  | 5 => 14400
  | _ => 96000

/-- The number of SmpCnt values of a rate code (R160). -/
def smpRange (code : Nat) : Nat := if code = 6 then 48000 else rateHz code

/-- A stream's entry in the running image: the body of its STREAM_GROUP and the entry's offset. -/
structure StreamCfg where
  body : List Byte
  off : Nat
deriving DecidableEq, Repr

/-- The offsets of a STREAM_GROUP body's entries. -/
def groupOffsets (b : List Byte) : List Nat :=
  if b.isEmpty then [] else (List.range (leAt b 0 2)).map (fun i => 16 + 256 * i)

/-- The entries of an image's stream tables, in section order. -/
def imageStreams (im : Image) : List StreamCfg :=
  (im.sections.filter (fun x => decide (x.typ = 5))).flatMap
    (fun x => (groupOffsets x.body).map (fun o => ⟨x.body, o⟩))

/-- A field of the entry (R158). -/
def StreamCfg.fieldAt (c : StreamCfg) (o n : Nat) : Nat := leAt c.body (c.off + o) n

/-- STREAM_INDEX. -/
def StreamCfg.index (c : StreamCfg) : Nat := c.fieldAt 0x08 2

/-- CHANNELS. -/
def StreamCfg.channels (c : StreamCfg) : Nat := c.fieldAt 0x0B 1

/-- The input rate. -/
def StreamCfg.rate (c : StreamCfg) : Nat := rateHz (c.fieldAt 0x0C 1)

/-- SLOT_BASE. -/
def StreamCfg.slotBase (c : StreamCfg) : Nat := c.fieldAt 0x10 2

/-- PARTNER, or none. -/
def StreamCfg.partner (c : StreamCfg) : Option Nat := if c.fieldAt 0x12 2 = 0xFFFF then none else some (c.fieldAt 0x12 2)

/-- A channel descriptor's field (R159). -/
def StreamCfg.chanField (c : StreamCfg) (i o n : Nat) : Nat := leAt c.body (c.off + 0x80 + 8 * i + o) n

/-- RESPONSE of a channel. -/
def StreamCfg.response (c : StreamCfg) (i : Nat) : Nat := c.chanField i 4 1

/-- GRID of a channel. -/
def StreamCfg.grid (c : StreamCfg) (i : Nat) : Nat := c.chanField i 6 1

/-- FREQ_GROUP. -/
def StreamCfg.group (c : StreamCfg) : Nat := c.fieldAt 0x0E 1


/-- The streams of the running image. -/
def State.streamCfgs (s : State) : List StreamCfg :=
  match s.img.run with
  | none => []
  | some im => imageStreams im

/-- The entry of a stream index. -/
def State.streamCfg (s : State) (i : Nat) : Option StreamCfg :=
  s.streamCfgs.find? (fun c => decide (c.index = i))

/-- The entry and channel index of a channel slot. -/
def State.slotCfg (s : State) (c : Nat) : Option (StreamCfg × Nat) :=
  (s.streamCfgs.find? (fun x => decide (x.slotBase ≤ c) && decide (c < x.slotBase + x.channels))).map
    (fun x => (x, c - x.slotBase))

/-- The channel slots that the running image uses. -/
def State.slotsUsed (s : State) : List Nat :=
  s.streamCfgs.flatMap (fun x => (List.range x.channels).map (fun i => x.slotBase + i))

/-- An instant of a sequence with `rate` instants a second, rounded to 2^-16 ns (R170, R201). -/
def rateInstant (n rate : Nat) : Nat := (2 * n * secUnit + rate) / (2 * rate)

/-! ### Frequency groups and grids (R200, R203) -/

/-- A field of a group's descriptor (R203). -/
def State.fgField (s : State) (g o n : Nat) : Nat := leAt (s.cfg 4 0) (16 + 32 * g + o) n

/-- NOMINAL of a group. -/
def State.nominal (s : State) (g : Nat) : Nat := s.fgField g 0 1

/-- A group is enabled. -/
def State.groupOn (s : State) (g : Nat) : Bool := decide (s.fgField g 1 1 % 2 = 1)

/-- Samples per cycle of a cycle grid (R200). -/
def cycleSize (v : Nat) : Nat :=
  match v with
  | 0 => 24
  | 1 => 32
  | 2 => 48
  | 3 => 64
  | 4 => 80
  | _ => 96

/-- The rate of a time grid (R200). -/
def timeRate (v : Nat) : Nat :=
  match v with
  | 0x10 => 1200
  | 0x11 => 2400
  | 0x12 => 4000
  | 0x13 => 4800
  | 0x14 => 8000
  | _ => 9600

/-- The grid instant table of a channel (R223). -/
def gridTable (g v : Nat) : Nat := if v < 0x10 then 6 * g + v else 384 + v - 0x10

/-- The phasor window of a channel (R200). -/
def State.gridN (s : State) (g v : Nat) : Nat :=
  if v < 0x10 then cycleSize v else timeRate v / (if s.nominal g = 0 then 50 else s.nominal g)

/-! ### Deadlines (R175). A deadline is held in units of 2^-16 ns divided by the frame rate. -/

/-- LATE_WINDOW of a stream times the frame rate, its default included (R158). -/
def lateWindow (c : StreamCfg) (rate : Nat) : Nat :=
  have w := c.fieldAt 0x22 2
  if w = 0 then min (150 * usUnit * rate) secUnit else w * usUnit * rate

/-- MU_DELAY of a stream in 2^-16 ns. -/
def muDelay (c : StreamCfg) : Nat := c.fieldAt 0x14 4 * nsUnit

/-- The deadline of a stream's sample at an instant (R175). -/
def deadline (c : StreamCfg) (rate t : Nat) : Nat :=
  tickAtOrAfter (t + muDelay c) rate * secUnit + lateWindow c rate

/-- The tick at which what is due at a deadline becomes visible (R211, R224). -/
def visibleTick (rate due : Nat) : Nat := (due + 6 * usUnit * rate + secUnit - 1) / secUnit

/-- INPUT_AGES of a channel (R224). -/
def inputAges (c : StreamCfg) (rate : Nat) : Nat :=
  have num := muDelay c * rate + lateWindow c rate + 2 * secUnit + 6 * usUnit * rate
  min 126 (127 - (num * c.rate + secUnit * rate - 1) / (secUnit * rate))

/-! ### Fills and heads (R224, R226) -/

/-- A mark word repeated. -/
def markRun (n : Nat) : List Byte := (List.replicate n [0x20#8, 0#8]).flatten

/-- A fill of a channel (R226). -/
def State.fill (s : State) (c headG headI : Nat) : State :=
  have s := (s.plnPut (gridValAddr c 0) (List.replicate 1024 0)).plnPut (gridMarkAddr c 0) (markRun 256)
  have s := (s.plnPut (inValAddr c 0) (List.replicate 512 0)).plnPut (inMarkAddr c 0) (markRun 128)
  have s := (s.plnPut (phasorAddr c 0) (List.replicate 512 0)).plnPut (phasorMarkAddr c 0) (markRun 64)
  s.setChan c { s.chan c with
      pendG := [], pendI := [], filled := true, headG := headG % 2 ^ 32, headI := headI % 2 ^ 32 }

/-- The newest of the entries that are visible at a tick, and those that stay. -/
def visibleBy (tick : Nat) (l : List (Nat × Nat)) : List (Nat × Nat) × List (Nat × Nat) :=
  l.partition (fun (e : Nat × Nat) => decide (e.2 ≤ tick))

/-- The mark words of grid entries of a channel, combined. -/
def State.marksOf (s : State) (c : Nat) (l : List (Nat × Nat)) : Nat :=
  l.foldl (fun m (e : Nat × Nat) => m ||| s.plnNum (gridMarkAddr c e.1) 2) 0

/-- The head moves to the newest visible entry (R224). Heads never move back. -/
def headMove (head : Nat) (l : List (Nat × Nat)) : Nat :=
  l.foldl (fun h (e : Nat × Nat) =>
    if (e.1 + 2 ^ 32 - h) % 2 ^ 32 < 2 ^ 31 then e.1 % 2 ^ 32 else h) head

/-- A channel's heads at a frame tick (R224, R228). -/
def State.headAdvance (s : State) (tick settleLeft c : Nat) : State :=
  have x := s.chan c
  let (vg, rg) := visibleBy tick x.pendG
  let (vi, ri) := visibleBy tick x.pendI
  s.setChan c { x with
      headG := headMove x.headG vg, headI := headMove x.headI vi, pendG := rg, pendI := ri,
      marksOr := s.marksOf c vg, settleLeft := settleLeft }

/-- A grid output in a channel's rings and its place among the outputs that wait for visibility (R221,
R227). -/
def State.plnGrid (s : State) (c : Nat) (o : GridOut) (extra : Nat) : State :=
  have s := (s.plnPut (gridValAddr c o.n) (leBytes o.value 4)).plnPut (gridMarkAddr c o.n)
    (leBytes (o.mark ||| extra) 2)
  have s := (s.plnPut (phasorAddr c o.n) (leBytes o.re 4 ++ leBytes o.im 4)).plnPut
    (phasorMarkAddr c o.n) (leBytes (o.pmark ||| extra) 2)
  have x := s.chan c
  have l := o.n % 2 ^ 32
  s.setChan c { x with
      filled := false,
      pendG := x.pendG.filter (fun (e : Nat × Nat) => decide (e.1 ≠ l)) ++ [(l, o.vis)] }

/-- The frame index table and binary histories at a frame tick (R229, R231). -/
def State.plnFreeze (s : State) (frame tick : Nat) : State :=
  have h := frame % 64
  have s := s.plnPut (0x31C0000 + h * 2048) (leBytes s.pln.binVal.toNat 2048)
  have s := s.plnPut (0x31E0000 + h * 4096) (leBytes s.pln.binQual.toNat 4096)
  have s := s.plnPut (0x3230000 + h * 16)
    (leBytes frame 4 ++ leBytes (ts32Of tick) 4 ++ leBytes (secOf tick % 2 ^ 32) 4 ++ leBytes 1 4)
  { s with pln := { s.pln with frameNum := frame, headFrame := frame, hist := h, work := s.pln.committed, open_ := true } }

/-- FLAGS of a frame's index entry at its commit (R231). DEDUCED, log entry 114. -/
def State.plnFlags (s : State) (frame : Nat) : State :=
  have a := 0x3230000 + frame % 64 * 16 + 12
  s.plnPut a (leBytes (s.plnNum a 4 % 2 + 2 + 4 * b2n (decide (s.glb.mode = .active)) +
    8 * b2n (decide (s.glb.mode = .test))) 4)

/-- The decisions of a frame at its commit (R230, R231). DEDUCED, log entry 114. -/
def State.plnCommit (s : State) (frame : Nat) (late : BitVec 4096) : State :=
  have h := frame % 64
  have s := { s with pln := { s.pln with committed := s.pln.work, late := late, open_ := false } }
  have s := s.plnPut (0x3220000 + h * 512) (leBytes s.pln.committed.toNat 512)
  have s := s.plnPut (0x3228000 + h * 512) (leBytes late.toNat 512)
  s.plnFlags frame

/-- A step clears BIN_VALID and DEC_VALID of every entry (R231). -/
def State.plnStep (s : State) : State :=
  forN 64 (fun h s =>
    have a := 0x3230000 + h * 16 + 12
    s.plnPut a (leBytes (s.plnNum a 4 / 4 * 4) 4)) s

/-! ### Commands and events (R232, R234, R236) -/

/-- The bank that a reader's window shows: PF0 is reader 0, host core h reader 1 + h (R232). -/
def State.plnBank (s : State) (q : Nat) : Nat := tget s.pln.banks q 0

/-- A write into the host plane window (R232). -/
def windowWrite (q off : Nat) (s : State) : State :=
  have a := s.plnBank q * 2 ^ 24 + off
  (s.count 0x500020).oncePer 25 0 (fun s => (s.setEvent 25).eventRec 25 0x3FF a)

/-- PLN_WINDOW_WRITE (R232). -/
def execPlnWindowWrite (dt : Nat) (q : Fin 5) (off : Fin 16777216) (s : State) : Result :=
  .next (windowWrite q.val off.val (s.elapse dt))

/-- The PLN command register. -/
def plnCmdReg : Nat := 0x500000

/-- SCRUB (R236). -/
def scrub (rsv arg : Nat) (s : State) : State :=
  s.runCmd plnCmdReg 0x01 rsv arg (verdict (decide (arg = 0)) s.afterBoot)
    (fun s => { s with pln := { s.pln with scrub := true } })

/-- SCRUB (R236). -/
def execScrub (dt : Nat) (rsv : BitVec 8) (arg : BitVec 16) (s : State) : Result :=
  .next (scrub rsv.toNat arg.toNat (s.elapse dt))

/-- A write to PLN_CMD. -/
def plnCommand (code rsv arg : Nat) (s : State) : State :=
  if code = 1 then scrub rsv arg s else s.badCode plnCmdReg code rsv arg

/-- The end of a commanded scrub pass (R236). -/
def scrubDone (s : State) : State :=
  if s.pln.scrub then ({ s with pln := { s.pln with scrub := false } }).cmdDone plnCmdReg else s

/-- SCRUB_DONE (R236). -/
def execScrubDone (dt : Nat) (s : State) : Result := .next (scrubDone (s.elapse dt))

/-- BACKGROUND_SCRUB: a pass that has corrected `n` single-bit errors (R234). -/
def execBackgroundScrub (dt n : Nat) (s : State) : Result :=
  .next ((s.elapse dt).countBy 0x500014 n)

/-- An uncorrectable error in a value or mark ring entry (R234). DESIGN CHOICE, log entry 113. -/
def State.ringEcc (s : State) (a : Nat) : State :=
  have s := { s with pln := { s.pln with eccAddr := a, poison := insNat s.pln.poison a } }
  (s.count 0x500018).raiseRec 24 0x3FF

end Sys2Proof.Machine
end

