-- ==== Sys2Proof/Machine/Prf.lean ====
section
/-!
DEFINITION. Family: the performance counters (R460 to R470).
-/

namespace Sys2Proof.Machine

open Sys2Proof

/-- PRF_SEL of counter `g` (R469). -/
def State.prfSel (s : State) (g : Nat) : Word := s.rd (0xF00408 + 0x10 * g)

/-- A counter. -/
def State.prfCtr (s : State) (g : Nat) : PrfCtr := tget s.prf.ctrs g {}

/-- A counter with a new value. -/
def State.setPrf (s : State) (g : Nat) (c : PrfCtr) : State :=
  { s with prf := { s.prf with ctrs := tset s.prf.ctrs g c {} } }

/-- What a precise sample of the ridge records (R465). -/
structure SampleInfo where
  addr : Nat
  latency : Nat
  aux : Nat
deriving DecidableEq, Repr

/-- The sample ring size (R465, R469). DEDUCED, log entry 104. -/
def State.sampleSize (s : State) : Nat := 2 ^ fld (s.rd 0xF0001C) 0 5

/-- Records in the sample ring. DEDUCED, log entry 104. -/
def State.sampleFill (s : State) : Nat :=
  (s.prf.head + s.sampleSize - (s.rd 0xF00028).toNat % s.sampleSize) % s.sampleSize

/-- One sample record goes to the ring in PF0 memory, or is dropped when the ring is full (R465). DEDUCED,
log entry 104. -/
def State.writeSample (s : State) (g kind : Nat) (i : SampleInfo) : State :=
  if s.sampleFill + 1 ≥ s.sampleSize then
    (s.count 0xF0002C).raiseOnce 867 0
  else
    have base := (s.rd 0xF00014).toNat + 2 ^ 32 * (s.rd 0xF00018).toNat
    have r := leBytes (ts32Of s.now) 4 ++ leBytes g 2 ++ leBytes kind 1 ++
      leBytes (fld (s.prfSel g) 0 8) 1 ++ leBytes i.addr 8 ++ leBytes i.latency 4 ++ leBytes i.aux 2 ++
      List.replicate 10 0
    have s := s.emit (.dma 0 (base + 32 * s.prf.head) r)
    have s := { s with prf := { s.prf with head := (s.prf.head + 1) % s.sampleSize } }
    if s.sampleFill = s.sampleSize / 2 then s.setEvent 866 else s

/-- A counter counts `n` events (R462, R463, R465). -/
def State.prfAdd (s : State) (g n : Nat) (kind : Nat) (smp : Option SampleInfo) : State :=
  have c := s.prfCtr g
  have v := c.value + n
  have s := s.setPrf g { c with value := v % 2 ^ 48, ovf := c.ovf || decide (v ≥ 2 ^ 48) }
  have s := if v ≥ 2 ^ 48 ∧ c.ovf = false then s.setEvent 865 else s
  match smp with
  | none => s
  | some i =>
    if (s.prfSel g).getLsbD 30 then
      have p := max 1 (s.rd 0xF00020).toNat
      have r := c.sampleRun + n
      have s := s.setPrf g { s.prfCtr g with sampleRun := r % p }
      if r ≥ p then s.writeSample g kind i else s
    else s

/-- Counter `g` counts event `ev` for an ARG test (R460, R461). DESIGN CHOICE, log entry 107. -/
def State.prfCounts (s : State) (g ev : Nat) (argOk : Nat → Bool) : Bool :=
  s.prf.running && !s.prf.frozen && (s.prfSel g).getLsbD 31 && decide (fld (s.prfSel g) 0 8 = ev) &&
    argOk (fld (s.prfSel g) 8 8)

/-- A bank of counters sees `n` events. -/
def State.prfBank (s : State) (lo cnt ev : Nat) (argOk : Nat → Bool) (n kind : Nat)
    (smp : Option SampleInfo) : State :=
  if n = 0 ∨ s.prf.running = false then s
  else forN cnt (fun i s => if s.prfCounts (lo + i) ev argOk then s.prfAdd (lo + i) n kind smp else s) s

/-- A keeper's bank sees `n` events. -/
def State.prfKeeper (s : State) (k ev n : Nat) : State :=
  s.prfBank (8 * k) 8 ev (fun _ => true) n 0 none

/-- The ridge's bank sees `n` events at an endpoint (R461). DESIGN CHOICE, log entry 107. -/
def State.prfRidge (s : State) (ev e n : Nat) (smp : Option SampleInfo) : State :=
  s.prfBank 152 32 ev (fun a => decide (a = 0xFF) || decide (a = e)) n 2 smp

/-- The chain's bank sees `n` events. -/
def State.prfChain (s : State) (ev n : Nat) : State :=
  s.prfBank 184 16 ev (fun _ => true) n 0 none

/-- The memory bank sees `n` events. DESIGN CHOICE, log entry 107. -/
def State.prfMem (s : State) (ev n : Nat) : State := s.prfBank 200 16 ev (fun _ => true) n 0 none

/-- The intake bank sees `n` events. -/
def State.prfIntake (s : State) (ev n : Nat) : State := s.prfBank 216 16 ev (fun _ => true) n 0 none

/-- PRF_VALUE_HI of a counter at this instant (R462, R469). -/
def prfHi (c : PrfCtr) : Nat := c.value / 2 ^ 32 % 2 ^ 16 + 2 ^ 31 * b2n c.ovf

/-- A read of PRF_VALUE_LO (R462). -/
def prfLoRead (q : Requester) (g : Nat) (s : State) : State :=
  have c := s.prfCtr g
  { s with readData := BitVec.ofNat 32 c.value,
           prf := { s.prf with latches := tset s.prf.latches (readerId q * 256 + g) (prfHi c) 0 } }

/-- PRF_VALUE_LO_READ (R462). -/
def execPrfValueLoRead (dt : Nat) (q : Requester) (g : Fin 232) (s : State) : Result :=
  .next (prfLoRead q g.val (s.elapse dt))

/-- A write of 1 to OVF (R462). In the clock of a wrap OVF stays 1. -/
def prfHiWrite (q : Requester) (g : Nat) (v : Word) (wraps : Bool) (s : State) : State :=
  if v.getLsbD 31 then
    have s := s.setPrf g { s.prfCtr g with ovf := wraps }
    { s with
        prf := { s.prf with
        latches :=
        tmod s.prf.latches (readerId q * 256 + g) 0 (fun x => x % 2 ^ 31 + 2 ^ 31 * b2n wraps) } }
  else s

/-- Address of PRF_CMD. -/
def prfCmdReg : Nat := 0xF00000

/-- The two words of snapshot entry `g` (R464). -/
def State.snapWords (s : State) (g : Nat) : Word × Word :=
  have c := s.prfCtr g
  have sel := s.prfSel g
  (BitVec.ofNat 32 c.value,
   BitVec.ofNat 32 (c.value / 2 ^ 32 % 2 ^ 16 + 2 ^ 16 * (b2n c.ovf + 2 * b2n (sel.getLsbD 31)) +
     2 ^ 24 * fld sel 0 8))

/-- SNAPSHOT (R464, R468): all counters are copied at one instant. -/
def snapshot (rsv arg : Nat) (s : State) : State :=
  s.runCmd prfCmdReg 1 rsv arg (verdict (arg = 0) s.afterBoot) fun s =>
    have snap := (List.range 232).foldl (fun t g =>
      have w := s.snapWords g
      tset (tset t (2 * g) w.1 0) (2 * g + 1) w.2 0) s.prf.snap
    { s with
        prf := { s.prf with
        snap := snap, snapBusy := true, snapFrame := s.frameNum, snapTs := ts32Of s.now } }

/-- SNAPSHOT (R464). -/
def execSnapshot (dt : Nat) (rsv : BitVec 8) (arg : BitVec 16) (s : State) : Result :=
  .next (snapshot rsv.toNat arg.toNat (s.elapse dt))

/-- The snapshot completes (R464). -/
def snapshotDone (s : State) : State :=
  if s.prf.snapBusy then
    (({ s with prf := { s.prf with snapBusy := false } }).setEvent 864).cmdDone prfCmdReg
  else s

/-- SNAPSHOT_DONE (R464). -/
def execSnapshotDone (dt : Nat) (s : State) : Result := .next (snapshotDone (s.elapse dt))

/-- FREEZE (R463, R468). -/
def prfFreeze (rsv arg : Nat) (s : State) : State :=
  s.runCmd prfCmdReg 2 rsv arg (verdict (arg = 0) (s.afterBoot && !s.prf.frozen)) fun s =>
    ({ s with prf := { s.prf with frozen := true } }).cmdDone prfCmdReg

/-- PRF_FREEZE (R463). -/
def execPrfFreeze (dt : Nat) (rsv : BitVec 8) (arg : BitVec 16) (s : State) : Result :=
  .next (prfFreeze rsv.toNat arg.toNat (s.elapse dt))

/-- UNFREEZE (R463, R468). -/
def prfUnfreeze (rsv arg : Nat) (s : State) : State :=
  s.runCmd prfCmdReg 3 rsv arg (verdict (arg = 0) (s.afterBoot && s.prf.frozen)) fun s =>
    ({ s with prf := { s.prf with frozen := false } }).cmdDone prfCmdReg

/-- PRF_UNFREEZE (R463). -/
def execPrfUnfreeze (dt : Nat) (rsv : BitVec 8) (arg : BitVec 16) (s : State) : Result :=
  .next (prfUnfreeze rsv.toNat arg.toNat (s.elapse dt))

/-- CLEAR (R468): VALUE and OVF become 0. -/
def prfClear (rsv arg : Nat) (s : State) : State :=
  s.runCmd prfCmdReg 4 rsv arg (verdict (arg < 232 || arg = 255) s.afterBoot) fun s =>
    (if arg = 255 then { s with prf := { s.prf with ctrs := [] } } else s.setPrf arg {}).cmdDone prfCmdReg

/-- PRF_CLEAR (R468). -/
def execPrfClear (dt : Nat) (rsv : BitVec 8) (arg : BitVec 16) (s : State) : Result :=
  .next (prfClear rsv.toNat arg.toNat (s.elapse dt))

/-- A command written to PRF_CMD (R468). -/
def prfCommand (code rsv arg : Nat) (s : State) : State :=
  if code = 1 then snapshot rsv arg s
  else if code = 2 then prfFreeze rsv arg s
  else if code = 3 then prfUnfreeze rsv arg s
  else if code = 4 then prfClear rsv arg s
  else s.badCode prfCmdReg code rsv arg

/-- A keeper reset clears its counters and their PRF_SEL (R50, R460). -/
def State.prfKeeperReset (s : State) (k : Nat) : State :=
  forN 8 (fun i s => (s.setPrf (8 * k + i) {}).wr (0xF00408 + 0x10 * (8 * k + i))
    (regReset (0xF00408 + 0x10 * (8 * k + i)))) s

/-- The uniform distance to the next tagged instruction (R466), from a free value of the LFSR. DESIGN
CHOICE, log entry 24. -/
def tagDistance (log2 draw : Nat) : Nat := 1 + Config.tagDraw draw % (2 ^ (log2 + 1) - 1)

/-- A keeper tags instructions (R466). -/
def State.tagging (s : State) (k : Nat) : Bool :=
  (s.rd 0xF00030).getLsbD 31 && (s.rd 0xF00030).getLsbD k && !s.prf.frozen

/-- An instruction of a keeper issues: the distance to the tagged one counts down, and the tagged one writes
its record (R466). DESIGN CHOICE, log entry 24. -/
def State.tagStep (s : State) (k : Nat) (r : TagRec) : State :=
  if s.tagging k then
    have w := tget s.prf.tagWait k 0
    have s := if w = 0 then { s with prf := { s.prf with tagDraws := s.prf.tagDraws + 1 } } else s
    have w := if w = 0 then tagDistance (fld (s.rd 0xF00030) 16 5) s.prf.tagDraws else w
    if w ≤ 1 then
      have n := tget s.prf.tagCount k 0
      { s with
          prf := { s.prf with
          tags := tset s.prf.tags (64 * k + n % 64) r {},
          tagCount := tset s.prf.tagCount k (min (n + 1) 0xFFFFFFFF) 0,
          tagWait := tset s.prf.tagWait k 0 0 } }
    else { s with prf := { s.prf with tagWait := tset s.prf.tagWait k (w - 1) 0 } }
  else s

/-- The four words of a tag record (R466). -/
def tagWords (r : TagRec) : List Byte :=
  leBytes r.pcOff 4 ++ leBytes r.function 2 ++ leBytes r.stall 2 ++ leBytes r.latency 2 ++
  leBytes r.flags 1 ++ [0] ++ leBytes r.frame 4

end Sys2Proof.Machine
end

