-- ==== Sys2Proof/Machine/Cnd.lean ====
section
/-!
DEFINITION. Family: the sample conditioning chain (R190 to R219, R505).
-/

namespace Sys2Proof.Machine

open Sys2Proof

/-! ### Responses (R193 to R196) -/

/-- A row of the response table (R194): input rate, decimation M, sections n, cutoff, G_f, G and the settle
count. DEDUCED, log entry 61. -/
structure Resp where
  fs : Nat
  m : Nat
  n : Nat
  fc : Nat
  gf : Nat
  g : Nat
  settle : Nat
deriving DecidableEq, Repr

/-- The response table (R194). DEDUCED, log entry 61. -/
def respTable : List Resp :=
  [⟨4000, 1, 1, 1000, 176777, 2176777, 32⟩, ⟨4000, 1, 2, 1000, 326641, 2326641, 51⟩,
   ⟨4000, 1, 4, 1000, 640729, 2640729, 87⟩, ⟨4000, 1, 2, 600, 641069, 2641069, 60⟩,
   ⟨4800, 1, 1, 1200, 147314, 1813981, 32⟩, ⟨4800, 1, 2, 1200, 272201, 1938867, 51⟩,
   ⟨4800, 1, 4, 1200, 533941, 2200607, 87⟩, ⟨4800, 1, 2, 720, 534224, 2200890, 60⟩,
   ⟨12800, 2, 2, 1600, 246431, 1496431, 82⟩, ⟨12800, 2, 4, 1600, 483393, 1733393, 132⟩,
   ⟨12800, 4, 2, 800, 513167, 3013167, 160⟩, ⟨12800, 1, 1, 3200, 55243, 680243, 32⟩]
  ++ [⟨15360, 1, 1, 3840, 46036, 566869, 32⟩, ⟨15360, 2, 2, 1920, 205360, 1247026, 82⟩,
   ⟨15360, 2, 4, 1920, 402827, 1444494, 132⟩, ⟨15360, 4, 2, 960, 427639, 2510972, 160⟩,
   ⟨14400, 1, 1, 3600, 49106, 604662, 32⟩, ⟨14400, 3, 2, 1800, 219050, 1885717, 99⟩,
   ⟨14400, 3, 4, 1800, 429682, 2096349, 150⟩, ⟨14400, 2, 2, 1800, 219050, 1330161, 82⟩,
   ⟨96000, 4, 2, 12000, 32858, 366191, 116⟩, ⟨96000, 8, 4, 6000, 134215, 800882, 320⟩,
   ⟨96000, 16, 2, 2400, 172932, 1506265, 496⟩, ⟨96000, 8, 2, 4800, 85930, 752597, 248⟩]

/-- A response. DEDUCED, log entry 61. -/
def resp (r : Nat) : Resp := respTable.getD r ⟨4000, 1, 1, 1000, 176777, 2176777, 32⟩

/-- The quantised coefficients b0, b1, a1, a2 of a section (R193). b2 equals b0. -/
structure Coef where
  b0 : Int
  b1 : Int
  a1 : Int
  a2 : Int
deriving DecidableEq, Repr

/-- A product in fixed point. -/
def fixMul (a b : Int) : Int := a * b / one160

/-- round(c × 2^30) of a quotient, ties away from zero. -/
def quant30 (n d : Int) : Int := divAway (n * 1073741824) d

/-- Section `k` (from 1) of a response (R193). -/
def coef (r : Resp) (k : Nat) : Coef :=
  have kk := sinPi r.fc r.fs * one160 / cosPi r.fc r.fs
  have k2 := fixMul kk kk
  have dk := fixMul (2 * cosPi ((2 * k - 1 : Nat) : Int) (4 * r.n)) kk
  have den := one160 + dk + k2
  { b0 := quant30 k2 den, b1 := quant30 (2 * k2) den, a1 := quant30 (2 * (k2 - one160)) den,
    a2 := quant30 (one160 - dk + k2) den }

/-- The sections of a response, in table order. -/
def coefs (r : Resp) : List Coef := (List.range r.n).map (fun k => coef r (k + 1))

/-- One section in direct form I (R191). -/
def section1 (c : Coef) (z : SecState) (x : Nat) : SecState × Nat :=
  let q (v : Int) := dInt v (-30)
  have acc := dMul (q c.b0) x
  have acc := dAdd acc (dMul (q c.b1) z.x1)
  have acc := dAdd acc (dMul (q c.b0) z.x2)
  have acc := dSub acc (dMul (q c.a1) z.y1)
  have acc := dSub acc (dMul (q c.a2) z.y2)
  ({ x1 := x, x2 := z.x1, y1 := acc, y2 := z.y1 }, acc)

/-- All sections in order (R191). -/
def sections (cs : List Coef) (zs : List SecState) (x : Nat) : List SecState × Nat :=
  match cs with
  | [] => ([], x)
  | c :: r =>
    let (z, y) := section1 c (zs.headD {}) x
    let (t, v) := sections r zs.tail y
    (z :: t, v)

/-! ### Resampler (R198, R199) -/

/-- The prototype at x = a/1024 without the factors 0.9 and 1/I0(8), which the division by the sum of
a phase's 16 values removes (R198). -/
def proto (a : Int) : Int :=
  if a.natAbs ≥ 8192 then 0
  else
    have w := bessel0 ((((16 * 2 ^ 22 : Nat) : Int) - a * a) * one160 / ((2 ^ 22 : Nat) : Int))
    have s := if a = 0 then one160
      else sinPi (9 * a) 10240 * one160 / (pi160 * 9 * a / 10240)
    fixMul s w

/-- H(j, i) of a phase for i = −7 to 8, in units of 2^-22 (R198). -/
def phaseTaps (j : Nat) : List Int :=
  have g := (List.range 16).map (fun (i : Nat) => proto ((j : Int) - 1024 * ((i : Int) - 7)))
  have sum := g.foldl (· + ·) 0
  g.map (fun v => divAway (v * 4194304) sum)

/-- The interpolation at phase `j` and weight `al` over the 16 samples s(n − 7) to s(n + 8), in
binary64 (R199). -/
def interpolate (j al : Nat) (xs : List Nat) : Nat :=
  have h0 := phaseTaps j
  have h1 := phaseTaps (j + 1)
  (List.range 16).foldl (fun y i =>
    have a := h0.getD i 0
    have c := a * 65536 + (al : Int) * (h1.getD i 0 - a)
    dAdd y (dMul (dInt c (-38)) (xs.getD i 0))) 0

/-- A kept sample by its index since the restart, 0.0 before it (R199). `kept` is oldest first. -/
def keptAt (kept : List (Nat × Nat)) (i : Int) : Nat :=
  if i < 0 then 0 else (kept.getD i.toNat (0, 0)).2

/-- The number of leading entries of a list with instant at or before `u`. -/
def countUpTo (kept : List (Nat × Nat)) (u : Nat) : Nat :=
  (kept.takeWhile (fun (e : Nat × Nat) => decide (e.1 ≤ u))).length

/-- The nominal instant of a kept sample before or after a list's ends. -/
def keptTime (kept : List (Nat × Nat)) (mp rate : Nat) (i : Int) : Nat :=
  have t0 := (kept.headD (0, 0)).1
  if i < 0 then ((t0 : Int) - (2 * (-i) * mp + rate) / (2 * rate)).toNat
  else
    match kept[i.toNat]? with
    | some e => e.1
    | none =>
      have l := kept.length - 1
      (kept.getD l (0, 0)).1 + (2 * (i.toNat - l) * mp + rate) / (2 * rate)

/-- The index n of R199 for u: the newest kept sample at or before it, the nominal instants before the
first one and after the last one included. `mp / rate` is M × P. -/
def keptIndex (kept : List (Nat × Nat)) (mp rate u : Nat) : Int :=
  have c := countUpTo kept u
  if c = 0 then
    have d := (kept.headD (0, 0)).1 - u
    Int.negOfNat ((d * rate + mp - 1) / mp)
  else if c = kept.length then
    have l := kept.getD (c - 1) (0, 0)
    ((c - 1 + (u - l.1) * rate / mp : Nat) : Int)
  else ((c - 1 : Nat) : Int)

/-- The resampler's value at a grid instant and the instant of s(n + 8), or none while that sample
does not exist (R199). -/
def resample (r : Resp) (slot : Slot) (tau : Nat) : Option (Nat × Nat) :=
  have kept := slot.kept.reverse
  if kept.isEmpty then none
  else
    have mp := r.m * secUnit
    have u := tau + r.gf * nsUnit
    have n := keptIndex kept mp r.fs u
    if n + 8 ≥ (kept.length : Int) then none
    else
      have frac : Nat :=
        if n < 0 then
          ((((u : Int) - ((kept.headD (0, 0)).1 : Int)) * r.fs - n * mp) * 2 ^ 26 / mp).toNat
        else ((u - keptTime kept mp r.fs n) * r.fs * 2 ^ 26) / mp
      have ph := min frac (2 ^ 26 - 1)
      have xs := (List.range 16).map (fun (i : Nat) => keptAt kept (n - 7 + (i : Int)))
      some (dToS (interpolate (ph / 65536) (ph % 65536) xs), keptTime kept mp r.fs (n + 8))

/-! ### Slots and groups -/

/-- A slot. -/
def State.slot (s : State) (c : Nat) : Slot := tget s.cnd.slots c {}

/-- A slot with a new value. -/
def State.setSlot (s : State) (c : Nat) (x : Slot) : State :=
  { s with cnd := { s.cnd with slots := tset s.cnd.slots c x {} } }

/-- A stream. -/
def State.stream (s : State) (i : Nat) : Stream := tget s.svi.streams i {}

/-- A stream with a new value. -/
def State.setStream (s : State) (i : Nat) (x : Stream) : State :=
  { s with svi := { s.svi with streams := tset s.svi.streams i x {} } }

/-- A group. -/
def State.group (s : State) (g : Nat) : Group := tget s.cnd.groups g {}

/-- A group with a new value. -/
def State.setGroup (s : State) (g : Nat) (x : Group) : State :=
  { s with cnd := { s.cnd with groups := tset s.cnd.groups g x {} } }

/-- A lattice's instants, latest first. -/
def State.latPts (s : State) (t : Nat) : List LatPt := (tget s.cnd.lats t {}).pts

/-- A lattice takes one more instant; 1,024 are kept. -/
def State.latPush (s : State) (t : Nat) (p : LatPt) : State :=
  { s with cnd := { s.cnd with lats := tset s.cnd.lats t { pts := (p :: s.latPts t).take 1024 } {} } }

/-- The OR of the marks of the last `n` inputs up to an instant (R209). -/
def inputMarks (ins : List (Nat × Nat)) (n t : Nat) : Nat :=
  ((ins.filter (fun (e : Nat × Nat) => decide (e.1 ≤ t))).take n).foldl
    (fun m (e : Nat × Nat) => m ||| e.2) 0

/-- Inputs with instants from the restart up to an instant (R210). -/
def inputsSince (x : Slot) (t : Nat) : Nat :=
  (x.ins.filter (fun (e : Nat × Nat) => decide (x.restart ≤ e.1) && decide (e.1 ≤ t))).length

/-- The mark word of a grid sample (R209, R210). -/
def gridMark (r : Resp) (x : Slot) (tLast : Nat) : Nat :=
  inputMarks x.ins r.settle tLast ||| (if inputsSince x tLast < r.settle then 0x20 else 0)

/-- SETTLE_LEFT of a slot (R218). DEDUCED, log entry 64. -/
def settleLeft (r : Resp) (x : Slot) : Nat :=
  r.settle - (x.ins.filter (fun (e : Nat × Nat) => decide (x.restart ≤ e.1))).length

/-- The slot's latest grid sample is free of NOT_SETTLED. -/
def slotSettled (x : Slot) : Bool :=
  match x.outs with
  | [] => false
  | o :: _ => decide (o.mark / 32 % 2 = 0)

/-- A restart of a slot from an instant on (R210). DEDUCED, log entry 64. -/
def slotRestart (x : Slot) (t : Nat) : Slot := { x with secs := [], kept := [], restart := t }

/-- The input sample with instant `t` is kept (R197): round((t − S0) / P) mod M = 0. -/
def keeps (r : Resp) (s0 t : Nat) : Bool :=
  decide (((2 * ((t : Int) - s0) * r.fs + secUnit) / ((2 * secUnit : Nat) : Int)) % (r.m : Int) = 0)

/-! ### Substitution of a channel's outputs (R182, R227) -/

/-- The group delay G of a channel's response, in 2^-16 ns. -/
def StreamCfg.delay (c : StreamCfg) (i : Nat) : Nat := (resp (c.response i)).g * nsUnit

/-- An instant of a channel lies in its stream's substitution (R182, R183). -/
def substCovers (x : Option Subst) (d tau : Nat) : Bool :=
  match x with
  | none => false
  | some v => decide (v.start ≤ tau + d) && (match v.stop with
    | none => true
    | some e => decide (tau < e + d))

/-- A stream counter counts `n`, in PF0's copy and in the copy of every virtual function that is granted
the stream (R186, R418). -/
def State.svCount (s : State) (i c n : Nat) : State :=
  s.hst.fns.foldl (fun s e =>
    if e.1 ≠ 0 ∧ e.2.cntFirst ≤ i ∧ i < e.2.cntFirst + e.2.cntCount then
      s.countBy (0x104000000 + 0x10000 * e.1 + 0x4000 + 0x40 * (i - e.2.cntFirst) + 4 * c) n
    else s) (s.countBy (0x320000 + 0x40 * i + 4 * c) n)

/-- A grid sample of a slot goes to its own rings and to those of a stream that it stands in for (R182,
R227). DESIGN CHOICE, log entry 115. -/
def State.putGrid (s : State) (c : Nat) (o : GridOut) : State :=
  match s.slotCfg c with
  | none => s
  | some (cfg, i) =>
    have own := substCovers (s.stream cfg.index).subst (cfg.delay i) o.tau
    have s := if own then s else s.plnGrid c o 0
    match cfg.partner with
    | none => s
    | some p =>
      match s.streamCfg p with
      | none => s
      | some pc =>
        if i < pc.channels ∧ substCovers (s.stream p).subst (pc.delay i) o.tau = true then
          ((s.plnGrid (pc.slotBase + i) o 0x10).svCount p 11 1).prfIntake 5 1
        else s

/-! ### Syncs at a slot (R210, R212) -/

/-- The next grid index of a slot at a restarted lattice or time grid: the lattice's count at S0, or
the number of the first time-grid instant at or after S0. -/
def State.gridAt (s : State) (g v s0 : Nat) : Nat :=
  if v < 0x10 then
    match (s.latPts (gridTable g v)).find? (fun p => decide (p.tau = s0) && decide (p.k = 0)) with
    | some p => p.n
    | none => 0
  else
    have n := s0 * timeRate v / secUnit
    if rateInstant n (timeRate v) < s0 then n + 1 else n

/-- The instant of a grid index. -/
def State.gridInstant (s : State) (g v n : Nat) : Option LatPt :=
  if v < 0x10 then (s.latPts (gridTable g v)).find? (fun p => decide (p.n = n))
  else some { n := n, k := n % timeRate v, tau := rateInstant n (timeRate v), due := 0 }

/-- The rewriting of one old grid sample (R212 step 4): 0.0 and NOT_SETTLED, visible as the sample it
replaces would have been. -/
def State.rewrite (s : State) (c : Nat) (cfg : StreamCfg) (i : Nat) (x : Slot) (p : LatPt) : State :=
  have r := resp (cfg.response i)
  have rate := s.frameRate
  have kept := x.kept.reverse
  have u := p.tau + r.gf * nsUnit
  have tl := if kept.isEmpty then u + 8 * r.m * secUnit / r.fs
    else keptTime kept (r.m * secUnit) r.fs (keptIndex kept (r.m * secUnit) r.fs u + 8)
  have due := max (deadline cfg rate tl) p.due
  s.putGrid c { n := p.n, tau := p.tau, value := 0, mark := 0x20, re := 0, im := 0, pmark := 0x20,
                vis := visibleTick rate due }

/-- The old grid samples of a slot that a sync rewrites, from an index on (R212 step 4). -/
def State.rewriteFrom (s : State) (c : Nat) (cfg : StreamCfg) (i : Nat) (x : Slot) (s0 : Nat)
    (fuel n : Nat) : State :=
  match fuel with
  | 0 => s
  | fuel + 1 =>
    match s.gridInstant cfg.group (cfg.grid i) n with
    | none => s
    | some p =>
      if p.tau ≥ s0 then s
      else
        have s := if p.tau + cfg.delay i ≥ s0 then s.rewrite c cfg i x p else s
        s.rewriteFrom c cfg i x s0 fuel (n + 1)

/-- The first grid index that a sync rewrites: G before S0, or the slot's next sample if that is
earlier. -/
def rewriteStart (cfg : StreamCfg) (i : Nat) (x : Slot) (s0 : Nat) : Nat :=
  have old := (x.outs.takeWhile (fun o => decide (o.tau + cfg.delay i ≥ s0))).length
  x.next - old

/-- A sync is applied to a slot before its first input at or after S0 (R190, R212). -/
def State.slotSync (s : State) (c : Nat) (cfg : StreamCfg) (i s0 : Nat) : State :=
  have x := s.slot c
  have s := if x.run then s.rewriteFrom c cfg i x s0 1024 (rewriteStart cfg i x s0) else s
  (s.setSlot c { slotRestart x s0 with
      run := true, syncAt := none, s0 := s0, outs := [],
      next := s.gridAt cfg.group (cfg.grid i) s0 }).prfChain 6 1

/-! ### The input stage (R190, R222) -/

/-- An input sample runs through a slot (R190, R191, R197). -/
def State.slotInput (s : State) (c : Nat) (cfg : StreamCfg) (i t value mark : Nat) : State :=
  have s := match (s.slot c).syncAt with
    | some s0 => if s0 ≤ t then s.slotSync c cfg i s0 else s
    | none => s
  have r := resp (cfg.response i)
  have x := s.slot c
  have ins := ((t, mark) :: x.ins).take 4096
  if x.run then
    let (zs, y) := sections (coefs r) x.secs (sToD value)
    have kept := if keeps r x.s0 t then ((t, y) :: x.kept).take 1024 else x.kept
    ((s.setSlot c { x with ins := ins, secs := zs, kept := kept }).prfChain 0 1).prfChain 1 r.n
  else (s.setSlot c { x with ins := ins }).prfChain 0 1

/-- The restart of a stream's slots from an instant on (R210). -/
def State.streamRestart (s : State) (cfg : StreamCfg) (t : Nat) : State :=
  forN cfg.channels (fun i s =>
    have c := cfg.slotBase + i
    if (s.slot c).run then (s.setSlot c (slotRestart (s.slot c) t)).prfChain 6 1 else s) s

/-- Intake passes a sample to the chain: the input rings, then each channel's slot (R190, R222,
R224). -/
def State.chainInput (s : State) (cfg : StreamCfg) (n t : Nat) (data : List (Nat × Nat)) : State :=
  have rate := s.frameRate
  have vis := visibleTick rate (deadline cfg rate t)
  have s := s.plnPut (inInstAddr cfg.index n) (instBytes t)
  have s := { s with cnd := { s.cnd with lastIn := max s.cnd.lastIn t } }
  forN cfg.channels (fun i s =>
    have c := cfg.slotBase + i
    let (v, m) := data.getD i (0, 0)
    have s := (s.plnPut (inValAddr c n) (leBytes v 4)).plnPut (inMarkAddr c n) (leBytes m 2)
    have x := s.chan c
    have s := s.setChan c { x with pendI := x.pendI ++ [(n % 2 ^ 32, vis)] }
    s.slotInput c cfg i t v m) s

/-! ### Lattices (R202) -/

/-- The source slots of a group's source (R203). -/
def State.srcSlots (s : State) (g k : Nat) : List Nat :=
  ((List.range 3).map (fun p => s.fgField g (0x04 + 6 * k + 2 * p) 2)).filter (fun c => decide (c ≠ 0xFFFF))

/-- SOURCE_COUNT of a group. -/
def State.sourceCount (s : State) (g : Nat) : Nat := s.fgField g 2 1

/-- The source slots of all of a group's sources. -/
def State.groupSlots (s : State) (g : Nat) : List Nat :=
  (List.range (s.sourceCount g)).flatMap (fun k => s.srcSlots g k)

/-- Eg: the largest G among a group's source channels, in 2^-16 ns (R202). -/
def State.groupDelay (s : State) (g : Nat) : Nat :=
  (s.groupSlots g).foldl (fun d c =>
    match s.slotCfg c with
    | some (cfg, i) => max d (cfg.delay i)
    | none => d) 0

/-- NOMINAL in units of 2^-24 Hz. -/
def State.nominalF (s : State) (g : Nat) : Nat := s.nominal g * 2 ^ 24

/-- The estimate instant e(m) (R204). -/
def State.estInstant (s : State) (g m : Nat) : Nat :=
  s.cnd.lastS0 + (2 * m * secUnit + 4 * s.nominal g) / (8 * s.nominal g)

/-- The frequency and its deadline for the step from a lattice instant: none while the estimate has not
been computed (R202). With `old` the lattice takes what has been computed. -/
def State.stepFreq (s : State) (g tau : Nat) (old : Bool) : Option (Nat × Nat) :=
  if s.sourceCount g = 0 ∨ tau < s.groupDelay g + s.cnd.lastS0 then some (s.nominalF g, 0)
  else
    have lim := tau - s.groupDelay g
    have m := ((lim - s.cnd.lastS0) * 4 * s.nominal g) / secUnit
    match (s.group g).hist.find? (fun e => decide (e.m ≤ m)) with
    | some e => if old || decide (e.m = m) then some (e.freq, e.due) else none
    | none => if old then some (s.nominalF g, 0) else none

/-- The step of a lattice at a frequency, in 2^-16 ns (R202). -/
def latticeStep (n f : Nat) : Nat := (2 * secUnit * 2 ^ 24 + n * f) / (2 * (n * f))

/-- A lattice emits instants until its count reaches `n` or an estimate is missing (R202). -/
def State.latTo (s : State) (g v n fuel : Nat) : State :=
  match fuel with
  | 0 => s
  | fuel + 1 =>
    match s.latPts (gridTable g v) with
    | [] => s
    | p :: _ =>
      if p.n ≥ n then s
      else
        match s.stepFreq g p.tau false with
        | none => s
        | some (f, due) =>
          (s.latPush (gridTable g v)
            { n := p.n + 1, k := p.k + 1, tau := p.tau + latticeStep (cycleSize v) f, due := due }).latTo
            g v n fuel

/-- A lattice runs up to S0 with the estimates computed by then, and restarts there (R202, R212). -/
def State.latSync (s : State) (g v s0 fuel : Nat) : State :=
  have t := gridTable g v
  match s.latPts t with
  | [] => s.latPush t { n := 0, k := 0, tau := s0, due := 0 }
  | p :: _ =>
    have restart := s.latPush t { n := p.n + 1, k := 0, tau := s0, due := 0 }
    if p.k = 0 ∧ p.tau = s0 then s
    else
      match fuel with
      | 0 => restart
      | fuel + 1 =>
        if s.cnd.afterStep then restart
        else
          match s.stepFreq g p.tau true with
          | none => restart
          | some (f, due) =>
            have tau := p.tau + latticeStep (cycleSize v) f
            if tau ≥ s0 then restart
            else (s.latPush t { n := p.n + 1, k := p.k + 1, tau := tau, due := due }).latSync g v s0 fuel

/-- The lattices of the running image: pairs of group and GRID value. -/
def State.lattices (s : State) : List (Nat × Nat) :=
  (s.streamCfgs.flatMap (fun c => (List.range c.channels).map (fun i => (c.group, c.grid i)))).foldl
    (fun l e => if e.2 < 0x10 ∧ l.contains e = false then l ++ [e] else l) []

/-! ### Grid samples and phasors (R199, R207 to R211) -/

/-- The twiddle cos(2π r/N) or sin(2π r/N) in binary64 (R207). -/
def cosD (r n : Nat) : Nat := fixToD (cosPi ((2 * r : Nat) : Int) n)

/-- sin(2π r/N) in binary64. -/
def sinD (r n : Nat) : Nat := fixToD (sinPi ((2 * r : Nat) : Int) n)

/-- A complex number in binary64. -/
abbrev Cplx := Nat × Nat

/-- The full-cycle DFT: `xs` holds x(k − m) for m = 0 up in binary32 (R207). -/
def phasor (n k : Nat) (xs : List Nat) : Cplx :=
  have sum := (List.range n).foldl (fun (a : Cplx) m =>
    have x := sToD (xs.getD m 0)
    have r := (k + n - m % n) % n
    (dAdd a.1 (dMul x (cosD r n)), dSub a.2 (dMul x (sinD r n)))) (0, 0)
  have sc := dDiv dSqrt2 (dInt n 0)
  (dMul sc sum.1, dMul sc sum.2)

/-- One grid sample of a slot and its phasor, once s(n + 8) exists (R199, R207, R211). -/
def State.gridSample (s : State) (c : Nat) (cfg : StreamCfg) (i : Nat) (p : LatPt) : State :=
  have r := resp (cfg.response i)
  have x := s.slot c
  match resample r x p.tau with
  | none => s
  | some (v, tl) =>
    have rate := s.frameRate
    have n := s.gridN cfg.group (cfg.grid i)
    have mark := gridMark r x tl
    let (re, im) := phasor n p.k (v :: x.outs.map GridOut.value)
    have o : GridOut :=
      { n := p.n, tau := p.tau, value := v, mark := mark, re := dToS re, im := dToS im,
        pmark := (x.outs.take (n - 1)).foldl (fun m o => m ||| o.mark) mark,
        vis := visibleTick rate (max (deadline cfg rate tl) p.due) }
    have s := s.setSlot c { x with next := p.n + 1, outs := (o :: x.outs).take 256 }
    have s := s.plnPut (gridInstAddr (gridTable cfg.group (cfg.grid i)) p.n) (instBytes p.tau)
    ((s.putGrid c o).prfChain 2 1).prfChain 3 1

/-- The next grid sample of a slot, when its instant is known and its inputs exist. DESIGN CHOICE, log entry
67. -/
def State.gridCompute (s : State) (c : Nat) : State :=
  match s.slotCfg c with
  | none => s
  | some (cfg, i) =>
    if (s.slot c).run then
      have n := (s.slot c).next
      have v := cfg.grid i
      have s := if v < 0x10 then s.latTo cfg.group v n 1024 else s
      match s.gridInstant cfg.group v n with
      | none => s
      | some p => s.gridSample c cfg i p
    else s

/-! ### Frequency estimators (R204, R205) -/

/-- The 64 samples of a slot that end at an estimate instant, with the OR of their marks and the
deadline of the last input: none while an input is missing (R204). -/
def State.estWindow (s : State) (g m c : Nat) : Option (List Nat × Nat × Nat) :=
  match s.slotCfg c with
  | none => none
  | some (cfg, i) =>
    have r := resp (cfg.response i)
    have x := s.slot c
    have e := s.estInstant g m
    (List.range 64).foldl (fun (acc : Option (List Nat × Nat × Nat)) k =>
      match acc with
      | none => none
      | some (vs, marks, _) =>
        have back := (2 * (63 - k) * secUnit + 64 * s.nominal g) / (128 * s.nominal g)
        if x.run then
          if e < s.cnd.lastS0 + back then some (vs ++ [0], marks ||| 0x20, 0)
          else
            match resample r x (e - back) with
            | none => none
            | some (v, tl) => some (vs ++ [v], marks ||| gridMark r x tl, deadline cfg s.frameRate tl)
        else none) (some ([], 0, 0))

/-- The one-cycle DFT of R204 over 64 samples. -/
def estDft (vs : List Nat) : Cplx :=
  have sum := (List.range 64).foldl (fun (a : Cplx) i =>
    have x := sToD (vs.getD i 0)
    (dAdd a.1 (dMul x (cosD i 64)), dSub a.2 (dMul x (sinD i 64)))) (0, 0)
  have sc := dDiv dSqrt2 (dInt 64 0)
  (dMul sc sum.1, dMul sc sum.2)

/-- A product of complex numbers. -/
def cMul (a b : Cplx) : Cplx :=
  (dSub (dMul a.1 b.1) (dMul a.2 b.2), dAdd (dMul a.1 b.2) (dMul a.2 b.1))

/-- A sum of complex numbers. -/
def cAdd (a b : Cplx) : Cplx := (dAdd a.1 b.1, dAdd a.2 b.2)

/-- The operator A = exp(j 2π/3) to a power (R204). -/
def opA (k : Nat) : Cplx := (cosD k 3, sinD k 3)

/-- V1 of a source (R204). -/
def posSeq (ys : List Cplx) : Cplx :=
  match ys with
  | [a, b, c] =>
    have v := cAdd (cAdd a (cMul (opA 1) b)) (cMul (opA 2) c)
    (dDiv v.1 (dInt 3 0), dDiv v.2 (dInt 3 0))
  | a :: _ => a
  | [] => (0, 0)

/-- wrap to (−π, π] (R204). -/
def wrapPi (d : Nat) : Nat :=
  if f64.lt dPi d then dSub d (dMul (dInt 2 0) dPi)
  else if f64.le d (f64.flip dPi) then dAdd d (dMul (dInt 2 0) dPi)
  else d

/-- A binary64 clamped to a range. -/
def dClamp (lo hi x : Nat) : Nat := if f64.lt x lo then lo else if f64.lt hi x then hi else x

/-- The mean of the fr values of a run, latest first (R204). -/
def meanFr (fr : List Nat) : Nat := dDiv (fr.reverse.foldl dAdd 0) (dInt fr.length 0)

/-- What one update of a source gives: the estimator, and whether the slew limit and the clamp acted. -/
structure EstStep where
  est : EstSrc
  slew : Bool
  clamp : Bool
deriving DecidableEq, Repr

/-- A usable update of a source at a phase angle (R204). DEDUCED, log entry 63; DEDUCED, log entry 66. -/
def estUse (nominal slew : Nat) (x : EstSrc) (th : Nat) : EstStep :=
  have fr := match x.th[3]? with
    | none => x.fr
    | some t4 =>
      have d := dDiv (wrapPi (dSub th t4)) (dMul (dInt 2 0) dPi)
      (dMul (dInt nominal 0) (dAdd (dInt 1 0) d) :: x.fr).take 8
  have y := { x with th := (th :: x.th).take 4, fr := fr, run := x.run + 1 }
  if x.th.length < 4 then { est := y, slew := false, clamp := false }
  else
    have last := x.f.getD (dInt nominal 0)
    have lim := dDiv (dMul (dInt slew 0) (dRat 1 10)) (dInt (4 * nominal) 0)
    have step := dSub (meanFr fr) last
    have lstep := dClamp (f64.flip lim) lim step
    have raw := dAdd last lstep
    have f := dClamp (dInt 40 0) (dInt 72 0) raw
    { est := { y with f := some f }, slew := decide (lstep ≠ step), clamp := decide (f ≠ raw) }

/-- An unusable update (R204). DEDUCED, log entry 63. -/
def estLose (x : EstSrc) : EstSrc := { x with th := [], fr := [], run := 0 }

/-- One source at e(m): its estimator and the deadline of its inputs, or none while they are missing.
DEDUCED, log entry 63. -/
def State.estSource (s : State) (g m k : Nat) (x : EstSrc) : Option (EstStep × Nat) :=
  have ws := (s.srcSlots g k).map (fun c => s.estWindow g m c)
  if ws.any (fun w => w.isNone) then none
  else
    have ws := ws.filterMap id
    have due : Nat := ws.foldl (fun (d : Nat) w => max d w.2.2) 0
    have marks : Nat := ws.foldl (fun (a : Nat) w => a ||| w.2.1) 0
    have v1 := posSeq (ws.map (fun w => estDft w.1))
    have mag := (f64.sqrt .rne (dAdd (dMul v1.1 v1.1) (dMul v1.2 v1.2))).1
    have usable := decide ((marks &&& 0x25) = 0) && f64.le (sToD (s.fgField g 0x10 4)) mag
    if usable then some (estUse (s.nominal g) (s.fgField g 0x14 2) x (dArg v1.2 v1.1), due)
    else some ({ est := estLose x, slew := false, clamp := false }, due)

/-- The group takes its frequency from the first valid source (R205). -/
def groupTake (nominalF : Nat) (x : Group) (a b : EstStep) (n now : Nat) : Group :=
  have x := { x with src0 := a.est, src1 := b.est }
  let use (e : EstStep) (k : Nat) : Group :=
    { x with freq := (dScaleRound (e.est.f.getD 0) 24).toNat, valid := true, was := true,
             held := false, limit := e.clamp, slewing := e.slew, source := k }
  if n ≥ 1 ∧ a.est.run ≥ 12 then use a 1
  else if n ≥ 2 ∧ b.est.run ≥ 12 then use b 2
  else if x.was then
    { x with valid := false, held := true, slewing := false, source := 0,
             heldAt := if x.held then x.heldAt else now }
  else { x with freq := nominalF, valid := false, held := false, limit := false, slewing := false, source := 0 }

/-- The events of a group's change (R205, R219). -/
def State.groupEvents (s : State) (g : Nat) (old new : Group) : State :=
  have s := if new.held ∧ old.held = false then s.raiseRec 386 g else s
  have s := if old.held ∧ new.held = false then s.raiseRec 387 g else s
  if new.limit ∧ old.limit = false then s.raiseRec 388 g else s

/-- The next estimate of a group, when its inputs are in (R204, R205). -/
def freqEstimate (g : Nat) (s : State) : State :=
  if s.cnd.s0.isSome ∧ s.groupOn g = true then
    have x := s.group g
    have n := s.sourceCount g
    have idle : EstStep := { est := {}, slew := false, clamp := false }
    match (if n ≥ 1 then s.estSource g x.m 0 x.src0 else some (idle, 0)),
        (if n ≥ 2 then s.estSource g x.m 1 x.src1 else some (idle, 0)) with
    | some (a, da), some (b, db) =>
      if n = 0 then s
      else
        have y := groupTake (s.nominalF g) x a b n s.now
        have y := { y with
            m := x.m + 1
            hist := ({ m := x.m, freq := y.freq, due := max da db } :: x.hist).take 1024 }
        (s.setGroup g y).groupEvents g x y
    | _, _ => s
  else s

/-- FREQ_ESTIMATE (R204, R205). -/
def execFreqEstimate (dt : Nat) (g : Fin 64) (s : State) : Result :=
  .next (freqEstimate g.val (s.elapse dt))

/-! ### CHAIN_SYNC (R212 to R214) -/

/-- The L of the newest instant of a grid before an instant (R226). After a step the lattice's own newest. -/
def State.headBefore (s : State) (g v t : Nat) : Nat :=
  if v < 0x10 then
    match (s.latPts (gridTable g v)).find? (fun p => s.cnd.afterStep || decide (p.tau < t)) with
    | none => 2 ^ 32 - 1
    | some p => p.n
  else (t * timeRate v + secUnit - 1) / secUnit + 2 ^ 32 - 1

/-- The fill of a stream's channels for a restart at an instant (R226). DESIGN CHOICE, log entry 67. -/
def State.fillStream (s : State) (cfg : StreamCfg) (t : Nat) : State :=
  forN cfg.channels (fun i s =>
    s.fill (cfg.slotBase + i) (s.headBefore cfg.group (cfg.grid i) t)
      ((s.stream cfg.index).count + 2 ^ 32 - 1)) s

/-- The fill of every channel in use. -/
def State.fillAll (s : State) (t : Nat) : State := s.streamCfgs.foldl (fun s c => s.fillStream c t) s

/-- A sync at S0 (R212): lattices and estimators restart, every slot restarts before its first input at
or after S0. The first sync after a step fills every channel in use (R505). -/
def State.chainSync (s : State) (s0 : Nat) : State :=
  have s := if s.cnd.afterStep then s.fillAll s0 else s
  have s := s.lattices.foldl (fun s e => s.latSync e.1 e.2 s0 4096) s
  have s := forN 64 (fun g s =>
    if s.groupOn g then s.setGroup g { freq := s.nominalF g } else s) s
  have s := s.slotsUsed.foldl (fun s c => s.setSlot c { s.slot c with syncAt := some s0 }) s
  have s := { s with cnd := { s.cnd with s0 := some s0, lastS0 := s0, afterStep := false, aligned := false } }
  have s := if s.kpr.synced then s else { s with kpr := { s.kpr with synced := true, frames := true } }
  s.raiseRec 384 0x3FF

/-- The first frame tick after an instant. -/
def tickAfter (t rate : Nat) : Nat := t * rate / secUnit + 1

/-- The CND command register. -/
def cndCmdReg : Nat := 0x400000

/-- The mode allows a sync to be applied (R214). DEDUCED, log entry 65. -/
def State.syncMode (s : State) : Bool :=
  decide (s.glb.mode = .commission) || decide (s.glb.mode = .test)

/-- Release of the SYNC line at S0 (R104, R213). DEDUCED, log entry 65. -/
def State.syncRelease (s : State) : State :=
  if s.cnd.drive then ({ s with cnd := { s.cnd with drive := false } }).emit (.syncLine false) else s

/-- A sync that waits no longer is applied, or cancelled where the mode forbids it (R214). -/
def State.syncApply (s : State) (p : SyncPend) (same : List SyncPend) : State :=
  have byCmd := (p :: same).any (fun x => x.byCmd)
  have s := if (p :: same).any (fun x => !x.local_) then s.syncRelease else s
  if s.syncMode then
    have s := s.chainSync p.s0
    have s := { s with cnd := { s.cnd with lastLocal := (p :: same).all (fun x => x.local_) } }
    if byCmd then s.cmdDone cndCmdReg else s
  else if byCmd then s.cmdEndRefused cndCmdReg else s

/-- The pending sync with the earliest S0. -/
def earliestSync (l : List SyncPend) : Option SyncPend :=
  l.foldl (fun (a : Option SyncPend) p =>
    match a with
    | none => some p
    | some q => if p.s0 < q.s0 then some p else some q) none

/-- The earliest pending sync comes to its S0; pending syncs of the same second are one (R213, R214). -/
def State.syncDue (s : State) : State :=
  match earliestSync s.cnd.pend with
  | none => s
  | some p =>
    have same := s.cnd.pend.filter (fun x => decide (x.s0 = p.s0))
    have s := { s with cnd := { s.cnd with pend := s.cnd.pend.filter (fun x => decide (x.s0 ≠ p.s0)) } }
    s.syncApply p same

/-- A sync becomes pending. Without LOCAL and with SYNC_OUT the SYNC line rises (R104, R213). -/
def State.syncAdd (s : State) (s0 : Nat) (byCmd local_ : Bool) : State :=
  have s := { s with
      cnd := { s.cnd with pend := s.cnd.pend ++ [{ s0 := s0, byCmd := byCmd, local_ := local_ }] } }
  if !local_ && (s.rd 0x40000C).getLsbD 0 then
    ({ s with cnd := { s.cnd with drive := true } }).emit (.syncLine true)
  else s

/-- The first second boundary at least 500 ms after an instant (R213). -/
def syncSecond (t : Nat) : Nat := (t + 500 * msUnit + secUnit - 1) / secUnit * secUnit

/-- The beacon's request for a sync after a step (R93, R213). -/
def State.syncRequest (s : State) : State := s.syncAdd (syncSecond s.now) false false

/-- A step cancels every pending sync (R214). -/
def State.syncCancel (s : State) : State :=
  have had := s.cnd.pend.any (fun x => x.byCmd)
  have s := s.syncRelease
  have s := { s with cnd := { s.cnd with pend := [] } }
  if had then s.cmdEndRefused cndCmdReg else s

/-- A step stops the chain (R505). -/
def State.chainStep (s : State) : State :=
  have s := s.syncCancel
  have s := s.slotsUsed.foldl (fun s c =>
    s.setSlot c { slotRestart (s.slot c) 0 with run := false, syncAt := none, outs := [], ins := [] }) s
  have s := forN 64 (fun g s => if s.groupOn g then s.setGroup g { freq := (s.group g).freq } else s) s
  { s with cnd := { s.cnd with s0 := none, afterStep := true, lastIn := 0 } }

/-- SYNC_LINE_RISE (R213, R214). DEDUCED, log entry 65. -/
def syncLineRise (s : State) : State :=
  have s := { s with cnd := { s.cnd with line := true } }
  if (s.rd 0x40000C).getLsbD 1 && s.syncMode then
    ({ s with cnd := { s.cnd with armed := some s.time.mono } }).raiseRec 385 0x3FF
  else s

/-- SYNC_LINE_RISE (R213). -/
def execSyncLineRise (dt : Nat) (s : State) : Result := .next (syncLineRise (s.elapse dt))

/-- The SYNC_REJECTED record (R213, R389). -/
def State.syncReject (s : State) : State := s.logPut 0x0010 0x07 0x3FF (nsOf s.now) 0 0

/-- SYNC_LINE_FALL (R213, R214). -/
def syncLineFall (s : State) : State :=
  have s := { s with cnd := { s.cnd with line := false } }
  match s.cnd.armed with
  | none => s
  | some t0 =>
    have s := { s with cnd := { s.cnd with armed := none } }
    have before := s.now / secUnit * secUnit
    have after := before + secUnit
    if s.time.mono < t0 + 100 * msUnit then s.syncReject
    else if s.now - before ≤ msUnit then
      if s.cnd.s0 = some before then s
      else if s.cnd.lastIn ≥ before then s.syncReject
      else
        have p : SyncPend := { s0 := before, byCmd := false, local_ := true }
        have same := s.cnd.pend.filter (fun x => decide (x.s0 = before))
        have s := { s with cnd := { s.cnd with pend := s.cnd.pend.filter (fun x => decide (x.s0 ≠ before)) } }
        s.syncApply p same
    else if after - s.now ≤ msUnit then s.syncAdd after false true
    else s.syncReject

/-- SYNC_LINE_FALL (R213). -/
def execSyncLineFall (dt : Nat) (s : State) : Result := .next (syncLineFall (s.elapse dt))

/-- CHAIN_SYNC (R213, R214, R217). -/
def chainSyncCmd (rsv arg : Nat) (s : State) : State :=
  s.runCmd cndCmdReg 1 rsv arg (verdict (decide (arg < 2)) (s.syncMode && s.img.loaded)) fun s =>
    if arg = 0 then s.syncAdd (syncSecond s.now) true false
    else if s.kpr.frames then s.syncAdd (tickTime (tickAfter s.now s.frameRate) s.frameRate) true true
    else (s.syncAdd s.now true true).syncDue

/-- CHAIN_SYNC (R213). -/
def execChainSync (dt : Nat) (rsv : BitVec 8) (arg : BitVec 16) (s : State) : Result :=
  .next (chainSyncCmd rsv.toNat arg.toNat (s.elapse dt))

/-- SYNC_DONE: a pending sync comes to its S0 (R212, R214). Before that instant it has no effect. -/
def syncDone (s : State) : State :=
  match earliestSync s.cnd.pend with
  | none => s
  | some p => if p.s0 ≤ s.now then s.syncDue else s

/-- SYNC_DONE (R212). -/
def execSyncDone (dt : Nat) (s : State) : Result := .next (syncDone (s.elapse dt))

/-- A write to CND_CMD. -/
def cndCommand (code rsv arg : Nat) (s : State) : State :=
  if code = 1 then chainSyncCmd rsv arg s else s.badCode cndCmdReg code rsv arg

/-- CND_LOAD: the image's conditioning charge in units of 1,000 channel-samples per second, rounded up
(R23, R218). -/
def State.cndLoad (s : State) : Nat :=
  (s.streamCfgs.foldl (fun n c => n + c.channels * c.rate) 0 + 999) / 1000

end Sys2Proof.Machine
end

