-- ==== Sys2Proof/Machine/Bcn.lean ====
section
/-!
DEFINITION. The beacon's own operations (R84 to R109): references, servo, states, asymmetry, 1PPS and
time capture. Steps, which reach into other blocks, follow in BcnStep.
-/

namespace Sys2Proof.Machine

open Sys2Proof

/-! ### TIME_POLICY (R106) -/

/-- The TIME_POLICY body. -/
def State.tp (s : State) : List Byte := s.cfg 0x11 0

/-- A port mask of a domain's descriptor (R106). -/
def State.domMask (s : State) (d off : Nat) : Nat := leAt s.tp (0x20 * d + off) 4

/-- A port is in a mask. -/
def inMask (m p : Nat) : Bool := decide (m / 2 ^ p % 2 = 1)

/-- ENABLE of a domain. -/
def State.domOn (s : State) (d : Nat) : Bool := decide (byteAt s.tp (0x20 * d) = 1)

/-- PROFILE of a domain (R89). -/
def State.domProfile (s : State) (d : Nat) : Nat := byteAt s.tp (0x20 * d + 2)

/-- The preferred domain (R106). -/
def State.preferred (s : State) : Nat := byteAt s.tp 0x40 % 2

/-- IRIG_USE (R106). -/
def State.irigUse (s : State) : Nat := byteAt s.tp 0x44

/-- The domain that has a port as slave port, if any. -/
def State.slaveDomain (s : State) (p : Nat) : Option Nat :=
  if s.domOn 0 && inMask (s.domMask 0 4) p then some 0
  else if s.domOn 1 && inMask (s.domMask 1 4) p then some 1
  else none

/-! ### References -/

/-- A reference: 0 A, 1 B, 2 IRIG-B. -/
def State.refOf (s : State) (r : Nat) : Ref :=
  if r = 0 then s.bcn.refA else if r = 1 then s.bcn.refB else s.bcn.refI

/-- 1 µs in units of 2^-8 ns. -/
def usOff : Int := 256000

/-- A reference is qualified with offset within ±1 µs (R95). -/
def refNear (x : Ref) : Bool := x.qual && decide (-usOff ≤ x.offset) && decide (x.offset ≤ usOff)

/-- A reference with a new value. -/
def State.setRef (s : State) (r : Nat) (x : Ref) : State :=
  have x := { x with near := if refNear x then (if x.near.isSome then x.near else some s.time.mono) else none }
  if r = 0 then { s with bcn := { s.bcn with refA := x } }
  else if r = 1 then { s with bcn := { s.bcn with refB := x } }
  else { s with bcn := { s.bcn with refI := x } }

/-- The class limit of a reference: MAX_CLASS, or IRIG_MAX_QUALITY (R91, R101). -/
def State.classLimit (s : State) (r : Nat) : Nat :=
  if r = 2 then byteAt s.tp 0x46 else byteAt s.tp (0x20 * r + 0x10)

/-- A reference's conditions of R91 hold. IRIG-B needs 10 s of valid frames (R101), and a code
without quality has class 255. -/
def State.qualifies (s : State) (r : Nat) (x : Ref) : Bool :=
  x.present && !x.diverged && !x.timedOut && decide (x.missed ≤ 3) &&
    (decide (x.cls ≤ s.classLimit r) || (decide (r = 2) && decide (x.cls = 255))) &&
    decide (x.goodRun ≥ if r = 2 then 10 else 8)

/-- An offset is within ±1 ms (R96). -/
def within1ms (o : Int) : Bool := decide (-256000000 ≤ o) && decide (o ≤ 256000000)

/-- An offset is within ±20 ns (R92). -/
def within20ns (o : Int) : Bool := decide (-5120 ≤ o) && decide (o ≤ 5120)

/-- The order of switching (R95), without one reference. -/
def State.switchOrder (s : State) (without : Nat) : List Nat :=
  ([s.preferred, 1 - s.preferred] ++ if s.irigUse = 1 ∨ s.irigUse = 2 then [2] else []).filter
    (fun r => !decide (r = without))

/-- The reference that a switch takes (R95). DEDUCED, log entry 46. -/
def State.switchTarget (s : State) (without : Nat) : Option Nat :=
  (s.switchOrder without).find? (fun r => refNear (s.refOf r))

/-- The order of acquisition (R92). DEDUCED, log entry 46. -/
def State.acquireTarget (s : State) : Option Nat :=
  ([s.preferred, 1 - s.preferred] ++ if s.irigUse = 2 then [2] else []).find?
    (fun r => (s.refOf r).qual)

/-- The UTC offset and leap indicators follow the selected domain (R105). -/
def State.utcFrom (s : State) (r : Nat) : State :=
  have x := s.refOf r
  if r = s.bcn.selected ∧ x.utcValid = true then
    have new := (x.leap59 && !s.bcn.leap59) || (x.leap61 && !s.bcn.leap61)
    have s := { s with
      bcn := { s.bcn with
      utc := x.utc, utcValid := true, leap59 := x.leap59, leap61 := x.leap61 } }
    if new then s.setEvent 77 else s
  else s

/-- Select a reference and converge towards it (R92). -/
def State.converge (s : State) (r : Nat) : State :=
  (({ s with
      bcn := { s.bcn with
      state := .converging, selected := r, lastSel := r, selAt := s.time.mono, convCount := 0, timeLost := false,
      divergedSel := false } }).raiseRec 66 r).utcFrom r

/-- Enter HOLDOVER (R92): the rate freezes and the 60 s count starts. -/
def State.holdover (s : State) : State :=
  have r := s.bcn.selected
  ({ s with
      bcn := { s.bcn with
      state := .holdover, lastSel := r, selected := r, holdSince := s.time.mono } }).raiseRec 68 r

/-- The selected reference stops being qualified in LOCKED or CONVERGING (R92, R95). DEDUCED, log entry 46.
-/
def State.loseSelected (s : State) : State :=
  match s.switchTarget s.bcn.selected with
  | some r => s.converge r
  | none =>
    have refused := (s.switchOrder s.bcn.selected).find? (fun r => (s.refOf r).qual)
    have s := match refused with
      | some r => s.raiseRec 67 r
      | none => s
    s.holdover

/-- The beacon takes the state LOCKED and raises LOCKED (R92, R109). A running SELECT_DOMAIN is done
(R107). -/
def State.becomeLocked (s : State) : State :=
  have s := ({ s with bcn := { s.bcn with state := .locked } }).setEvent 64
  if s.bcn.selectCmd then
    ({ s with bcn := { s.bcn with selectCmd := false } }).cmdDone 0x40000
  else s

/-- The transitions of R92 that the present references cause. `fresh` names the reference whose Sync
interval (or IRIG-B second) has just passed. -/
def State.bcnEval (s : State) (fresh : Option Nat) : State :=
  match s.bcn.state with
  | .unlocked =>
    if s.glb.mode = .commission then
      match s.acquireTarget with
      | some r => { s with bcn := { s.bcn with state := .acquiring, selected := r, acqCount := 0 } }
      | none => s
    else s
  | .acquiring =>
    have r := s.bcn.selected
    if (s.refOf r).qual then
      if fresh = some r then
        have n := s.bcn.acqCount + 1
        have s := { s with bcn := { s.bcn with acqCount := n } }
        if n ≥ 8 then { s with bcn := { s.bcn with autoStep := some r } } else s
      else s
    else { s with bcn := { s.bcn with state := .unlocked, selected := 3, acqCount := 0 } }
  | .locked => if (s.refOf s.bcn.selected).qual then s else s.loseSelected
  | .converging =>
    have r := s.bcn.selected
    if (s.refOf r).qual then
      if fresh = some r then
        if within20ns (s.refOf r).offset then
          have n := s.bcn.convCount + 1
          have s := { s with bcn := { s.bcn with convCount := n } }
          if n ≥ 8 then s.becomeLocked else s
        else { s with bcn := { s.bcn with convCount := 0 } }
      else s
    else s.loseSelected
  | .holdover =>
    have l := s.bcn.lastSel
    if (s.refOf l).qual && within1ms (s.refOf l).offset then s.converge l
    else
      match s.switchTarget l with
      | some r => s.converge r
      | none => s

/-- The qualification of a reference follows its conditions, with its events (R91, R109). -/
def State.requalify (s : State) (r : Nat) : State :=
  have x := s.refOf r
  have q := s.qualifies r x
  if q = x.qual then s
  else if q then (s.setRef r { x with qual := true }).raiseRec 73 r
  else (s.setRef r { x with qual := false }).raiseRec 72 r

/-- The beacon steers on its selected reference: LOCKED or CONVERGING. -/
def State.steering (s : State) : Bool :=
  match s.bcn.state with
  | .locked | .converging => true
  | _ => false

/-- The offset of the last selected reference exceeds 1 ms after the first step (R96, R92). -/
def State.divergeCheck (s : State) (r : Nat) : State :=
  have x := s.refOf r
  if s.time.stepped && decide (r = s.bcn.lastSel) && !x.diverged && x.present && !within1ms x.offset then
    have s := s.setRef r { x with diverged := true, qual := false }
    have s := ({ s with bcn := { s.bcn with divergedSel := true, newlyDiverged := true } }).raiseRec 70 r
    if s.steering then s.holdover else s
  else s

/-- The limit of the rate correction: ±200 ppm (R94). DESIGN CHOICE, log entry 45. -/
def rateLimit : Int := 56294995342

/-- 10 ppm in units of 2^-48 (R94). DESIGN CHOICE, log entry 45. -/
def slewLimit : Int := 2814749767

/-- The servo's demand sets the rate (R94). In CONVERGING the rate stays within 10 ppm of the reference's
own rate. DESIGN CHOICE, log entry 45. -/
def State.servo (s : State) (demand refRate : Int) : State :=
  match s.bcn.state with
  | .locked | .converging =>
    have d := if s.bcn.state = .converging then
        clampInt (refRate - slewLimit) (refRate + slewLimit) demand else demand
    have c := decide (d < -rateLimit) || decide (rateLimit < d)
    have s := { s with bcn := { s.bcn with rate := clampInt (-rateLimit) rateLimit d, clamped := c } }
    if c then s.raiseRec 71 s.bcn.selected else s
  | _ => s

/-! ### Asymmetry (R99, R100) -/

/-- A port's asymmetry record. -/
def State.asymOf (s : State) (p : Nat) : Asym := tget s.bcn.asym p {}

/-- A port's asymmetry record with a new value. -/
def State.setAsym (s : State) (p : Nat) (a : Asym) : State :=
  { s with bcn := { s.bcn with asym := tset s.bcn.asym p a {} } }

/-- A port. -/
def State.port (s : State) (p : Nat) : Port := tget s.ports p {}

/-- A port with a new value. -/
def State.setPort (s : State) (p : Nat) (x : Port) : State := { s with ports := tset s.ports p x {} }

/-- A, the active asymmetry of a port at its current speed. -/
def State.asymNow (s : State) (p : Nat) : Int := tget (s.asymOf p).active (s.port p).speed 0

/-- ASTATE of a port. A process port that is a slave port of neither domain counts as VALID (R99). -/
def State.asymState (s : State) (p : Nat) : Nat :=
  if p < 16 ∧ s.slaveDomain p = none ∧ s.tp ≠ [] then 1 else (s.asymOf p).state

/-- A port may carry a servo path (R91, R100). -/
def State.servoEligible (s : State) (d p : Nat) : Bool :=
  inMask (s.domMask d 4) p && (s.port p).linkUp && !(s.asymOf p).recovery &&
    !decide ((s.asymOf p).state = 3) && !((s.asymOf p).measuring)

/-- The port carries the servo path for a message of a domain: no lower port does (R91). -/
def State.pathFor (s : State) (d p : Nat) : Nat :=
  have q := (s.refOf d).path
  if q < p ∧ s.servoEligible d q = true then q else p

/-- A Sync interval's measurement of a domain or IRIG-B (R91, R92, R94, R96). -/
def State.refMeasure (s : State) (r path : Nat) (offset residual demand refRate : Int) : State :=
  have x := s.refOf r
  have good := decide (-25600 < residual) && decide (residual < 25600)
  have x := { x with
    present := true, path := path, offset := offset, missed := 0,
    diverged := x.diverged && !within1ms offset,
    goodRun := if good then min (x.goodRun + 1) 16 else 0 }
  have s := s.setRef r x
  have s := s.divergeCheck r
  have s := s.requalify r
  have s := if r = s.bcn.selected then s.servo demand refRate else s
  s.bcnEval (some r)

/-- A Sync, or the Follow_Up that completes a two-step Sync, on a slave port of a domain (R89, R91,
R92). The offset is measured in 2^-8 ns before the asymmetry correction (R99). -/
def ptpSyncMeasure (d p : Nat) (complete : Bool) (offset residual demand refRate : Int) (s : State) :
    State :=
  have s := s.setPort p { s.port p with rxPtp := (s.port p).rxPtp - 1 }
  if s.domOn d = false ∨ inMask (s.domMask d 4) p = false then s
  else if complete = false then s.setRef d { s.refOf d with missed := 0 }
  else if s.servoEligible d p = true ∧ s.pathFor d p = p then
    s.refMeasure d p (offset - s.asymNow p / 2) residual demand refRate
  else s

/-- An Announce of a domain (R91, R105). PRESUMED, log entry 44. -/
def ptpAnnounce (d cls : Nat) (utc : Int) (utcValid leap59 leap61 : Bool) (s : State) : State :=
  if s.domOn d then
    have x := s.refOf d
    have s := s.setRef d { x with
      present := true, cls := cls, timedOut := false, utc := utc, utcValid := utcValid,
      leap59 := leap59, leap61 := leap61 }
    (((s.utcFrom d).requalify d)).bcnEval none
  else s

/-- A domain's announce receipt timeout runs out (R91). -/
def announceTimeout (d : Nat) (s : State) : State :=
  have x := s.refOf d
  ((s.setRef d { x with timedOut := true, present := false, path := 255 }).requalify d).bcnEval none

/-- A Sync interval passes without a Sync (R91). -/
def syncMissed (d : Nat) (s : State) : State :=
  have x := s.refOf d
  ((s.setRef d { x with missed := min (x.missed + 1) 255 }).requalify d).bcnEval none

/-- The servo path of a port is gone when its link goes down (R91). -/
def State.pathLost (s : State) (p : Nat) : State :=
  let f (d : Nat) (s : State) : State :=
    if (s.refOf d).path = p then s.setRef d { s.refOf d with path := 255 } else s
  f 1 (f 0 s)

/-- The clockClass that master ports announce (R90); none while they stay passive. -/
def State.announceClass (s : State) : Option Nat :=
  match s.bcn.state with
  | .unlocked | .acquiring => none
  | .locked | .converging => some (if s.bcn.selected = 2 then 187 else 6)
  | .holdover =>
    some (if s.bcn.selected = 2 then 187
      else if s.time.mono - s.bcn.holdSince < 60 * secUnit then 7 else 187)

/-- A port is a master port of a domain (R90). -/
def State.masterPort (s : State) (d p : Nat) : Bool := s.domOn d && inMask (s.domMask d 8) p

/-- The ports run (R28). -/
def State.portsRun (s : State) : Bool := s.afterBoot

/-- The beacon sends a PTP message on a port with its next sequenceId: kind 0 Sync, 1 Announce, 2
Pdelay_Req, 3 Pdelay_Resp, 4 Delay_Resp, 5 Delay_Req. PRESUMED, log entry 44. -/
def State.sendPtp (s : State) (d p kind cls : Nat) : State :=
  have n := tget s.bcn.txSeq (8 * p + kind) 0
  have s := { s with bcn := { s.bcn with txSeq := tset s.bcn.txSeq (8 * p + kind) ((n + 1) % 65536) 0 } }
  s.emit (.ptp d p kind cls n s.now)

/-- A master port sends a one-step Sync at its interval (R89, R90). -/
def ptpSyncTx (d p : Nat) (s : State) : State :=
  if s.portsRun && s.masterPort d p && s.announceClass.isSome && !decide (s.bcn.selected = 2) then
    s.sendPtp d p 0 (s.announceClass.getD 187)
  else s

/-- A master port sends an Announce (R90). PRESUMED, log entry 44. -/
def ptpAnnounceTx (d p : Nat) (s : State) : State :=
  match s.announceClass with
  | none => s
  | some c => if s.portsRun && s.masterPort d p then s.sendPtp d p 1 c else s

/-- The delay mechanism of a profile is peer to peer (R89). -/
def peerDelay (profile : Nat) : Bool := decide (profile ≠ 4)

/-- A port sends its periodic delay request (R89). -/
def ptpDelayReqTx (d p : Nat) (s : State) : State :=
  have prof := s.domProfile d
  have slave := inMask (s.domMask d 4) p
  if s.portsRun && s.domOn d && (slave || (peerDelay prof &&
      (inMask (s.domMask d 8) p || inMask (s.domMask d 0xC) p))) then
    s.sendPtp d p (if peerDelay prof then 2 else 5) 0
  else s

/-- A delay message arrives (R89): kind 0 Pdelay_Req, which is answered; 1 Delay_Req, answered on a
master port of an end-to-end profile; 2 a response that gives the link delay in 2^-16 ns. -/
def ptpDelayMsg (d p kind : Nat) (delay : Int) (s : State) : State :=
  have s := s.setPort p { s.port p with rxPtp := (s.port p).rxPtp - 1 }
  if s.portsRun && s.domOn d then
    if kind = 0 then (if peerDelay (s.domProfile d) then s.sendPtp d p 3 0 else s)
    else if kind = 1 then
      (if !peerDelay (s.domProfile d) && s.masterPort d p then s.sendPtp d p 4 0 else s)
    else s.setPort p { s.port p with linkDelay := delay }
  else s

/-- A statistics counter of a port counts `n` (R120, R121): when bit 31 becomes 1, STAT_HALF is set. -/
def State.stat (s : State) (p n by_ : Nat) : State :=
  have a := 0x100000 + 0x1000 * p + 0x400 + 4 * n
  have o := s.rd a
  have s := s.wrapBy a by_
  have v := s.rd a
  if v.getLsbD 31 && !o.getLsbD 31 then
    have h := 0x100000 + 0x1000 * p + 0x20 + 4 * (n / 32)
    have s := s.wr h (s.rd h ||| bit (n % 32))
    if p < 32 then s.setEvent (129 + 4 * p)
    else
      have e := 0x100000 + 0x1000 * p + 0x18
      s.wr e (s.rd e ||| 2#32)
  else s

/-- Another PTP message arrives (R89): management and signalling messages are ignored; one that needs
an unsupported option is discarded and counted (R7). -/
def ptpOther (p : Nat) (unsupported : Bool) (s : State) : State :=
  if unsupported then s.stat p 41 1 else s

/-- The instant from which a reference has stayed qualified within ±1 µs while another one is selected has
REVERT_HOLD behind it (R95). -/
def State.heldNear (s : State) (d : Nat) : Bool :=
  match (s.refOf d).near with
  | none => false
  | some t => decide (s.time.mono ≥ max t s.bcn.selAt + leAt s.tp 0x42 2 * secUnit)

/-- The preferred domain, or any domain while IRIG-B is selected, has stayed qualified within ±1 µs
for REVERT_HOLD (R95). -/
def revertHold (d : Nat) (s : State) : State :=
  have st := s.bcn.state
  if (st = .locked ∨ st = .converging) ∧ s.bcn.selected ≠ d ∧ s.heldNear d = true ∧
      (s.bcn.selected = 2 ∨ (d = s.preferred ∧ byteAt s.tp 0x41 = 1)) then
    s.converge d
  else s

/-! ### IRIG-B (R101) -/

/-- A valid IRIG-B frame with its on-time edge (R101). Quality 255 stands for a code without the 1344
extension. -/
def irigFrame (offset demand refRate : Int) (quality : Nat) (s : State) : State :=
  if s.irigUse = 0 ∧ s.tp ≠ [] then s
  else
    have s := s.setRef 2 { s.bcn.refI with cls := quality }
    s.refMeasure 2 0xFE offset 0 demand refRate

/-- Three consecutive IRIG-B frames are missing or invalid (R101). -/
def irigError (s : State) : State :=
  have x := s.bcn.refI
  have s := s.setRef 2 { x with present := false, goodRun := 0, path := 255 }
  ((s.raiseRec 76 2).requalify 2).bcnEval none

/-! ### Asymmetry measurements -/

/-- The stored asymmetry of a port at its current speed. -/
def State.asymStored (s : State) (p : Nat) : Int := tget (s.asymOf p).stored (s.port p).speed 0

/-- A value becomes active and stored at the current speed (R100, R107). -/
def State.asymAdopt (s : State) (p : Nat) (v : Int) : State :=
  have a := s.asymOf p
  have sp := (s.port p).speed
  s.setAsym p { a with
    active := tset a.active sp v 0, stored := tset a.stored sp v 0, state := 1, recovery := false,
    measuring := false, auto := false }

/-- A measurement window ends with the mean difference of offsets in 2^-8 ns (R99, R100). DEDUCED, log entry
48. -/
def asymDone (p : Nat) (mean : Int) (s : State) : State :=
  have a := s.asymOf p
  if (a.measuring ∧ s.time.mono ≥ a.since + leAt s.tp 0x4C 2 * secUnit) ∨
      (a.measuring = false ∧ a.recovery = true ∧ s.bcn.state = .locked) then
    have m := 2 * mean
    have lim : Int := (leAt s.tp 0x4E 2 * 256 : Nat)
    have cmd := a.measuring && !a.auto
    have s := s.setAsym p { a with
      meas := m, measDone := true, measuring := false, auto := false,
      state := if a.measuring then a.before else a.state }
    have s :=
      if a.recovery then
        have d := m - s.asymStored p
        if -lim ≤ d ∧ d ≤ lim then (s.asymAdopt p m).raiseRec 74 p
        else (s.setAsym p { s.asymOf p with state := 3, recovery := false }).raiseRec 75 p
      else s.raiseRec 74 p
    if cmd && (s.cmd 0x40000).pending && decide ((s.cmd 0x40000).runCode = 3) then s.cmdDone 0x40000
    else s
  else s

/-- Address of BCN_CMD. -/
def bcnCmdReg : Nat := 0x40000

/-- COMMISSION or TEST. -/
def State.inCommTest (s : State) : Bool :=
  decide (s.glb.mode = .commission) || decide (s.glb.mode = .test)

/-- COMMISSION, STANDBY, ACTIVE or TEST. -/
def State.inOperating (s : State) : Bool :=
  s.inCommTest || decide (s.glb.mode = .standby) || decide (s.glb.mode = .active)

/-- The port is the only qualified path of the selected reference (R99). -/
def State.onlyPath (s : State) (p : Nat) : Bool :=
  have r := s.bcn.selected
  decide (r < 2) && decide ((s.refOf r).path = p) && (s.refOf r).qual &&
    !((List.range 24).any (fun q => !decide (q = p) && s.servoEligible r q))

/-- ASYM_MEASURE (R99, R107). DEDUCED, log entry 48. -/
def asymMeasure (rsv arg : Nat) (s : State) : State :=
  s.runCmd bcnCmdReg 3 rsv arg
    (verdict (arg < 24) ((s.inCommTest || (s.asymOf arg).recovery) && !s.onlyPath arg)) fun s =>
    have a := s.asymOf arg
    s.setAsym arg { a with
      before := a.state, state := 2, measuring := true, auto := false, since := s.time.mono }

/-- ASYM_APPLY (R107). DEDUCED, log entry 48. -/
def asymApply (rsv arg : Nat) (s : State) : State :=
  s.runCmd bcnCmdReg 4 rsv arg (verdict (arg < 24) (s.inCommTest && (s.asymOf arg).measDone)) fun s =>
    (s.asymAdopt arg (s.asymOf arg).meas).cmdDone bcnCmdReg

/-- ASYM_KEEP (R107): the stored value stays and RECOVERY ends. -/
def asymKeep (rsv arg : Nat) (s : State) : State :=
  have a := s.asymOf arg
  s.runCmd bcnCmdReg 5 rsv arg
    (verdict (arg < 24) (s.inOperating && (a.recovery || decide (a.state = 3)))) fun s =>
    (s.setAsym arg { a with
      recovery := false, measuring := false,
      state := if a.stored = [] then 0 else 1 }).cmdDone bcnCmdReg

/-- A port enters RECOVERY (R100). When every slave path of every qualified reference is in RECOVERY,
the beacon ends RECOVERY on those ports without measuring them and writes ASYM_UNVERIFIED. -/
def State.enterRecovery (s : State) (p : Nat) : State :=
  if p < 24 ∧ (s.slaveDomain p ≠ none) then
    have s := s.setAsym p { s.asymOf p with recovery := true }
    let inRec (s : State) (d : Nat) : List Nat :=
      if d < 2 ∧ (s.refOf d).qual = true then
        (List.range 24).filter (fun q => inMask (s.domMask d 4) q)
      else []
    have l := inRec s 0 ++ inRec s 1
    if !l.isEmpty && l.all (fun q => (s.asymOf q).recovery) && !s.bcn.refI.qual then
      have s := l.foldl (fun s q => s.setAsym q { s.asymOf q with
        recovery := false, state := if (s.asymOf q).stored = [] then 0 else 1 }) s
      s.logPut 0x000F 0x03 0x3FF (l.foldl (fun m q => m ||| 2 ^ q) 0) 0 0
    else s
  else s

/-- SELECT_DOMAIN (R95, R107). Naming the reference already selected while LOCKED is done at once. -/
def selectDomain (rsv arg : Nat) (s : State) : State :=
  s.runCmd bcnCmdReg 2 rsv arg
    (verdict (arg < 3) (s.inOperating &&
      (decide (s.bcn.state = .locked) || decide (s.bcn.state = .holdover)) &&
      refNear (s.refOf arg) && !(decide (arg = 2) && decide (s.irigUse = 0)))) fun s =>
    if s.bcn.state = .locked ∧ s.bcn.selected = arg then s.cmdDone bcnCmdReg
    else
      have s := if s.bcn.selected = arg then
          { s with
            bcn := { s.bcn with
            state := .converging, convCount := 0, timeLost := false } }
        else s.converge arg
      { s with bcn := { s.bcn with selectCmd := true } }

/-! ### Latches, capture and 1PPS -/

/-- A read of BCN_TIME_NS latches the same instant into the requester's set (R86). -/
def bcnTimeNsRead (q : Requester) (s : State) : State :=
  have t := s.now
  have l : TimeLatch := { sec := secOf t, frac := fracOf t, ts32 := ts32Of t }
  { s with
    readData := BitVec.ofNat 32 (nsOf t)
    bcn := { s.bcn with latches := tset s.bcn.latches (readerId q) l {} } }

/-- A read of BCN_RATE_LO latches BCN_RATE_HI (R108). -/
def bcnRateLoRead (s : State) : State :=
  have v := toTwos 64 s.bcn.rate
  { s with readData := BitVec.ofNat 32 v, bcn := { s.bcn with rateHiLatch := v / 2 ^ 32 } }

/-- A write to BCN_TS_CTRL (R108): SRC is stored, a 1 in ARM arms one capture, a 1 in DONE clears it. -/
def bcnTsCtrlWrite (v : Word) (s : State) : State :=
  have src := fld v 0 3
  { s with
      bcn := { s.bcn with
      tsCtrl := if src ≥ 5 then 0 else put src 0 3
      tsArm := s.bcn.tsArm || v.getLsbD 8
      tsDone := s.bcn.tsDone && !v.getLsbD 9 } }

/-- The armed capture edge occurs (R108). -/
def tsCaptured (src : Nat) (s : State) : State :=
  if s.bcn.tsArm && decide (src = s.bcn.tsCtrl.toNat) && !decide (src = 0) then
    have t := s.now
    ({ s with
      bcn := { s.bcn with
      tsArm := false, tsDone := true, capNs := nsOf t, capSec := secOf t,
      capFrac := fracOf t } }).setEvent 78
  else s

/-- The 1PPS output rises PPS_ADVANCE before a second boundary, from the first step on, and never
less than 500 ms after the last rise (R102). -/
def ppsRise (s : State) : State :=
  have near := match s.bcn.ppsLast with
    | none => false
    | some t => decide (s.time.mono < t + 500 * msUnit)
  if s.time.stepped && s.afterBoot && !near then
    ({ s with bcn := { s.bcn with pps := true, ppsLast := some s.time.mono } }).emit (.pps true)
  else s

/-- The 1PPS output falls after PPS_WIDTH (R102). -/
def ppsFall (s : State) : State :=
  if s.bcn.pps then ({ s with bcn := { s.bcn with pps := false } }).emit (.pps false) else s

/-- While LOCKED, CONVERGING or HOLDOVER the backup counter takes station time (R503). -/
def State.setBackup (s : State) : State :=
  match s.bcn.state with
  | .locked | .converging | .holdover =>
    { s with time := { s.time with backup := s.time.station } }
  | _ => s

/-- Seconds in HOLDOVER (R108). -/
def State.holdSeconds (s : State) : Nat :=
  if s.bcn.state = .holdover then (s.time.mono - s.bcn.holdSince) / secUnit else 0

end Sys2Proof.Machine
end

