-- ==== Sys2Proof/Machine/HstQ.lean ====
section
/-!
DEFINITION. Host functions, vectors and queues (R395 to R409, R419): the operations that the ridge and the
host commands share.
-/

namespace Sys2Proof.Machine

open Sys2Proof

/-! ### Functions and vectors -/

/-- A function's resources. -/
def State.func (s : State) (v : Nat) : Func := tget s.hst.fns v {}

/-- A function's resources with a new value. -/
def State.setFunc (s : State) (v : Nat) (x : Func) : State :=
  { s with hst := { s.hst with fns := tset s.hst.fns v x {} } }

/-- Base of a virtual function's BAR (R396). -/
def vfBase (v : Nat) : Nat := 0x104000000 + 0x10000 * v

/-- A function's attachment is present (R396). -/
def State.present (s : State) (v : Nat) : Bool :=
  if v = 0 then decide (s.hst.gen ≠ 0)
  else if (s.func v).internal then true
  else decide (s.hst.gen ≠ 0) && s.hst.vfEnable && decide (v ≤ s.hst.numVfs)

/-- A function counter counts in both copies (R419). -/
def State.fnCount (s : State) (v c n : Nat) : State :=
  have s := s.countBy (0xC02000 + 0x40 * v + 4 * c) n
  if v = 0 then s else s.countBy (vfBase v + 0x100 + 4 * c) n

/-- An MSI-X vector. -/
def State.vec (s : State) (n : Nat) : Vec := tget s.hst.vecs n {}

/-- A vector with a new value. -/
def State.setVec (s : State) (n : Nat) (x : Vec) : State :=
  { s with hst := { s.hst with vecs := tset s.hst.vecs n x {} } }

/-- The vector that is a function's local vector. -/
def State.localVec (s : State) (v l : Nat) : Option Nat :=
  (s.hst.vecs.find? (fun e => e.2.owned && decide (e.2.owner = v) && decide (e.2.loc = l))).map (·.1)

/-- A vector's message: to the host cores for an INTERNAL function; held as pending while masked;
dropped where the function is absent or MSI-X is disabled (R408, R477). -/
def State.fireVec (s : State) (n : Nat) : State :=
  have x := s.vec n
  have f := s.func x.owner
  if f.internal then s.emit (.guestInt n)
  else if !s.present x.owner || !f.msixEnable then s
  else if x.masked || f.msixMask then
    s.setVec n { x with pend := true, src := if x.pend then x.src else none }
  else s.emit (.msi x.owner n)

/-- A completion on a vector with an ITR interval in µs (R408): the vector fires no sooner than the
interval after it last fired. -/
def State.completionInt (s : State) (n itr : Nat) : State :=
  have x := s.vec n
  have wait := match x.fired with
    | none => false
    | some t => decide (s.time.mono < t + itr * 1000 * nsUnit)
  if wait then s.setVec n { x with due := true }
  else (s.setVec n { x with fired := some s.time.mono, due := false }).fireVec n

/-- ITR_EXPIRY (R408): the vector fires for the completions that wait. -/
def execItrExpiry (dt : Nat) (n : Fin 2048) (s : State) : Result :=
  have s := s.elapse dt
  have x := s.vec n.val
  .next (if x.due then
      (s.setVec n.val { x with fired := some s.time.mono, due := false }).fireVec n.val
    else s)

/-- An own interrupt of a virtual function (R427): its status bit becomes 1, and with its enable bit 1
the function's event vector fires. -/
def State.vfEvent (s : State) (v b : Nat) : State :=
  if v = 0 then s
  else
    have a := vfBase v + 0x18
    if (s.rd a).getLsbD b then s
    else
      have s := s.wr a (s.rd a ||| bit b)
      if (s.rd (a + 4)).getLsbD b then
        match s.localVec v (fld (s.rd (a + 8)) 0 6) with
        | none => s
        | some n => s.fireVec n
      else s

/-- An HST event and its record, which names the function (R428). -/
def State.hstRec (s : State) (b v : Nat) : State := (s.setEvent (720 + b)).eventRec (720 + b) v v

/-! ### Queues (R402 to R409) -/

/-- A queue pair. -/
def State.queue (s : State) (n : Nat) : Queue := tget s.hst.queues n {}

/-- A queue pair with a new value. -/
def State.setQueue (s : State) (n : Nat) (q : Queue) : State :=
  { s with hst := { s.hst with queues := tset s.hst.queues n q {} } }

/-- The queue pair that is a function's local queue. -/
def State.localQueue (s : State) (v l : Nat) : Option Nat :=
  (s.hst.queues.find? (fun e => e.2.owned && decide (e.2.owner = v) && decide (e.2.loc = l))).map (·.1)

/-- Descriptors of the receive ring, as enabled. -/
def Queue.rxSize (q : Queue) : Nat := 2 ^ fld q.cfg 0 4

/-- Descriptors of the transmit ring, as enabled. -/
def Queue.txSize (q : Queue) : Nat := 2 ^ fld q.cfg 4 4

/-- Bytes of a receive buffer. -/
def Queue.bufSize (q : Queue) : Nat :=
  match fld q.cfg 8 2 with
  | 0 => 2048
  | 1 => 4096
  | _ => 9216

/-- Posted receive descriptors. -/
def Queue.rxPosted (q : Queue) : Nat := (q.rxTail + q.rxSize - q.rxHead) % q.rxSize

/-- Descriptors of the frames in flight. -/
def Queue.inFlight (q : Queue) : Nat := q.txJobs.foldl (fun n j => n + j.count) 0

/-- Posted transmit descriptors that are not fetched. -/
def Queue.txPosted (q : Queue) : Nat :=
  (q.txTail + q.txSize - q.txHead) % q.txSize - q.inFlight

/-- A queue's completion interrupt: transmit or receive (R408). -/
def State.queueInt (s : State) (n : Nat) (tx : Bool) : State :=
  have q := s.queue n
  match s.localVec q.owner (if tx then fld q.cfg 24 6 else fld q.cfg 16 6) with
  | none => s
  | some v => s.completionInt v (if tx then fld q.itr 16 10 else fld q.itr 0 10)

/-- The oldest frame of a queue is written back (R403): DD on every descriptor, and timestamp, STATUS
and DD on the last. Its transmit timestamp entry is freed (R122). -/
def State.writeBack (s : State) (n : Nat) (q : Queue) (j : TxJob) (rest : List TxJob) : State :=
  let addr (i : Nat) : Nat := q.txBase + 32 * ((j.first + i) % q.txSize)
  have t := j.time.getD 0
  have s := (List.range (j.count - 1)).foldl (fun s i => s.emit (.dma q.owner (addr i + 0x17) [1#8])) s
  have s := s.emit (.dma q.owner (addr (j.count - 1) + 0x10)
    ((if j.time.isSome then leBytes (ts32Of t) 4 ++ leBytes (fracOf t) 2 else [0, 0, 0, 0, 0, 0])
      ++ leBytes j.status 1 ++ [1#8]))
  have s := if j.held then
      s.setPort j.port { s.port j.port with txHost := (s.port j.port).txHost - 1 } else s
  have s := if j.sent then (s.fnCount q.owner 4 1).fnCount q.owner 5 j.octets else s
  have s := s.setQueue n { q with txHead := (q.txHead + j.count) % q.txSize, txJobs := rest }
  if j.intr then s.queueInt n true else s

/-- The descriptors of a queue complete in ring order (R404): every finished frame at its front is
written back. -/
def State.drain (s : State) (n fuel : Nat) : State :=
  match fuel with
  | 0 => s
  | fuel + 1 =>
    have q := s.queue n
    match q.txJobs with
    | [] => s
    | j :: rest => if j.status = 0 then s else (s.writeBack n q j rest).drain n fuel

/-- A job of a queue is changed; finished jobs are written back. A job that turns DROPPED counts in
TX_DROPPED (R404). -/
def State.onJob (s : State) (n id : Nat) (f : TxJob → TxJob) : State :=
  have q := s.queue n
  have jobs := q.txJobs.map (fun j => if j.id = id then f j else j)
  let lost (l : List TxJob) : Nat := (l.filter (fun j => decide (j.status = 4))).length
  have s := s.fnCount q.owner 6 (lost jobs - lost q.txJobs)
  (s.setQueue n { q with txJobs := jobs }).drain n (jobs.length + 1)

/-- STATUS of a job none of whose copies is outstanding: SENT, SENT_TS_LOST or DROPPED. -/
def jobStatus (j : TxJob) : TxJob :=
  if j.left = 0 ∧ j.status = 0 then
    { j with status := if j.sent then (if j.lost then 2 else 1) else 4 }
  else j

/-- A copy of a host frame leaves on an egress, with its timestamp where it was asked for (R403). -/
def State.copySent (s : State) (h : Nat × Nat) (port : Nat) (time : Option Nat) (held lost : Bool) : State :=
  s.onJob h.1 h.2 (fun j =>
    have j := { j with left := j.left - 1, sent := true, lost := j.lost || lost }
    jobStatus (if time.isSome then { j with port := port, time := time, held := held } else j))

/-- A copy of a host frame is lost inside the ridge. -/
def State.copyGone (s : State) (h : Option (Nat × Nat)) : State :=
  match h with
  | none => s
  | some (n, id) => s.onJob n id (fun j => jobStatus { j with left := j.left - 1 })

/-- The frames of a queue complete as ABORTED, without write-back (R421). -/
def State.abortQueue (s : State) (n : Nat) : State :=
  have q := s.queue n
  have s := q.txJobs.foldl (fun s j => if j.held then
      s.setPort j.port { s.port j.port with txHost := (s.port j.port).txHost - 1 } else s) s
  s.setQueue n { q with txJobs := [], txClass := [], enabled := false, stopping := false }

/-! ### Result mailboxes (R412, R413) -/

/-- A mailbox. -/
def State.mbox (s : State) (m : Nat) : Mbox := tget s.hst.mboxes m {}

/-- A mailbox with a new value. -/
def State.setMbox (s : State) (m : Nat) (x : Mbox) : State :=
  { s with hst := { s.hst with mboxes := tset s.hst.mboxes m x {} } }

/-- The function in whose range a mailbox lies. -/
def State.mboxOwner (s : State) (m : Nat) : Option Nat :=
  (s.hst.fns.find? (fun (e : Nat × Func) =>
    decide (e.2.mbxFirst ≤ m) && decide (m < e.2.mbxFirst + e.2.mbxCount))).map (fun (e : Nat × Func) => e.1)

/-- A new result reaches a mailbox. -/
def State.mboxResult (s : State) (m v : Nat) : State :=
  have x := s.mbox m
  have o := (s.mboxOwner m).getD 0
  have s := if x.ready then s.fnCount o 9 1 else s
  (s.setMbox m { x with value := v, seq := if x.seq = 255 then 1 else x.seq + 1, ready := true }).vfEvent o 0

/-- A result of a source reaches every mailbox that is bound to it. -/
def State.mboxSource (s : State) (kind arg v : Nat) : State :=
  (s.hst.mboxes.filter (fun (e : Nat × Mbox) => decide (e.2.kind = kind) && decide (e.2.arg = arg))).foldl
    (fun s e => s.mboxResult e.1 v) s

end Sys2Proof.Machine
end

