-- ==== Sys2Proof/Machine/Gal.lean ====
section
/-!
DEFINITION. Family: the gallery (R358 to R378).
-/

namespace Sys2Proof.Machine

open Sys2Proof

/-! ### Plans (R359, R362, R363, R370) -/

/-- A program. -/
def State.prog (s : State) (p : Nat) : Prog := tget s.gal.progs p {}

/-- A program with a new value. -/
def State.setProg (s : State) (p : Nat) (x : Prog) : State :=
  { s with gal := { s.gal with progs := tset s.gal.progs p x {} } }

/-- The body of a program's CAPTURE_PLAN. -/
def State.plan (s : State) (p : Nat) : List Byte := s.cfg 0xC p

/-- A part of a plan: each starts at a multiple of 8. -/
structure PlanParts where
  chans : Nat
  bins : Nat
  reds : Nat
  pats : Nat
  anas : Nat
  envs : Nat
deriving DecidableEq, Repr

/-- The next multiple of 8. -/
def up8 (n : Nat) : Nat := (n + 7) / 8 * 8

/-- The offsets of a plan's parts (R359). -/
def planParts (b : List Byte) : PlanParts :=
  have bins := up8 (0x40 + 2 * leAt b 2 2)
  have reds := up8 (bins + 2 * leAt b 4 2)
  have pats := reds + 8 * byteAt b 6
  have anas := pats + 160 * byteAt b 7
  have envs := anas + 24 * leAt b 8 2
  { chans := 0x40, bins := bins, reds := reds, pats := pats, anas := anas, envs := envs }

/-- A flag of a plan: 0 AUTO_ARM, 1 EXTEND, 2 KEEP, 3 ARCHIVE, 4 HOLDOFF_BY_COUNT. -/
def planFlag (b : List Byte) (i : Nat) : Bool := decide (byteAt b 1 / 2 ^ i % 2 = 1)

/-- A channel of the channel list. -/
def planChan (b : List Byte) (i : Nat) : Nat := leAt b (0x40 + 2 * i) 2

/-- A reduction (R359). -/
structure Red where
  kind : Nat
  shed : Nat
  param : Nat
  first : Nat
  count : Nat
deriving DecidableEq, Repr

/-- Reduction `r` of a plan. -/
def planRed (b : List Byte) (r : Nat) : Red :=
  have o := (planParts b).reds + 8 * r
  ⟨byteAt b o, byteAt b (o + 1), leAt b (o + 2) 2, leAt b (o + 4) 2, leAt b (o + 6) 2⟩

/-- The reductions of a plan with their numbers. -/
def planReds (b : List Byte) : List (Nat × Red) := (List.range (byteAt b 6)).map (fun r => (r, planRed b r))

/-- The channels of a reduction. -/
def redChans (b : List Byte) (r : Red) : List Nat := (List.range r.count).map (fun i => planChan b (r.first + i))

/-- PRE_MS, POST_MS and MAX_POST_MS in 2^-16 ns. -/
def planMs (b : List Byte) (off : Nat) : Nat := leAt b off 4 * msUnit

/-- The stream and channel index of a slot, and W of its grid. -/
def State.slotW (s : State) (c : Nat) : Nat :=
  match s.slotCfg c with
  | none => 1
  | some (cfg, i) => max 1 (s.gridN cfg.group (cfg.grid i))

/-- The input rate of a slot. -/
def State.slotRate (s : State) (c : Nat) : Nat :=
  match s.slotCfg c with
  | none => 0
  | some (cfg, _) => cfg.rate

/-- The grid rate of a slot for the charge: a cycle grid counts at 72 Hz (R368). -/
def State.slotGridRate (s : State) (c : Nat) : Nat :=
  match s.slotCfg c with
  | none => 0
  | some (cfg, i) => if cfg.grid i < 0x10 then 72 * cycleSize (cfg.grid i) else timeRate (cfg.grid i)

/-- The grid instant table of a slot (R223). -/
def State.slotTable (s : State) (c : Nat) : Nat :=
  match s.slotCfg c with
  | none => 511
  | some (cfg, i) => gridTable cfg.group (cfg.grid i)

/-- The stream of a slot. -/
def State.slotStream (s : State) (c : Nat) : Nat :=
  match s.slotCfg c with
  | none => 0xFFFF
  | some (cfg, _) => cfg.index

/-- Numbers without repeats. -/
def distinct (l : List Nat) : List Nat := l.foldl (fun a x => insNat a x) []

/-- The grid instant tables that a program records (R360). -/
def State.planTables (s : State) (b : List Byte) : List Nat :=
  distinct (((planReds b).filter (fun r => r.2.kind = 1 || r.2.kind ≥ 3)).flatMap
    (fun r => (redChans b r.2).map s.slotTable))

/-- The streams whose input instants a program records (R360). -/
def State.planStreams (s : State) (b : List Byte) : List Nat :=
  distinct (((planReds b).filter (fun r => r.2.kind = 0 || r.2.kind = 2)).flatMap
    (fun r => (redChans b r.2).map s.slotStream))

/-- Bytes of a binary entry (R372). -/
def binEntry (n : Nat) : Nat := 4 * ((n + 31) / 32) + 4 * ((n + 15) / 16)

/-- E of a kind (R372). -/
def blockCap (b : List Byte) (kind : Nat) : Nat :=
  if kind = 2 ∨ kind = 4 then 403
  else if kind = 5 then 4032 / max 1 (binEntry (leAt b 4 2))
  else if kind = 6 then 504
  else 672

/-- V of a kind (R372). -/
def valSize (b : List Byte) (kind : Nat) : Nat :=
  if kind = 2 ∨ kind = 4 ∨ kind = 6 then 8 else if kind = 5 then binEntry (leAt b 4 2) else 4

/-- The charge of a stream in units of 1/72 byte per second, so that it stays exact over the kinds' block
capacities and windows (R368): here as the pair numerator and denominator. -/
abbrev Ratio := Nat × Nat

/-- The sum of two ratios. -/
def Ratio.plus (a b : Ratio) : Ratio := (a.1 * b.2 + b.1 * a.2, a.2 * b.2)

/-- The charge of one channel of a reduction. -/
def State.redCharge (s : State) (r : Red) (c : Nat) : Ratio :=
  match r.kind with
  | 0 => (4096 * s.slotRate c, 672)
  | 1 => (4096 * s.slotGridRate c, 672)
  | 2 => (4096 * s.slotRate c, 403 * max 1 r.param)
  | 3 => (4096 * s.slotGridRate c, 672 * s.slotW c)
  | _ => (4096 * s.slotGridRate c, 403 * s.slotW c)

/-- The grid rate of a grid instant table for the charge. -/
def tableRate (t : Nat) : Nat := if t < 384 then 72 * cycleSize (t % 6) else timeRate (t - 384 + 0x10)

/-- The charge of a plan (R368). -/
def State.planCharge (s : State) (b : List Byte) : Ratio :=
  have reds := (planReds b).foldl (fun (a : Ratio) r =>
    (redChans b r.2).foldl (fun (a : Ratio) c => a.plus (s.redCharge r.2 c)) a) (0, 1)
  have tabs := (s.planTables b).foldl (fun (a : Ratio) t => a.plus (4096 * tableRate t, 504)) reds
  have ins := (s.planStreams b).foldl (fun (a : Ratio) i =>
    a.plus (4096 * ((s.streamCfg i).map StreamCfg.rate).getD 0, 504)) tabs
  if leAt b 4 2 = 0 then ins else ins.plus (4096 * s.frameRate, blockCap b 5)

/-- The capture plans of the running image. -/
def State.planIds (s : State) : List Nat := (List.range 16).filter (fun p => !(s.plan p).isEmpty)

/-- The charge of all plans in bytes per second. -/
def State.galCharge (s : State) : Ratio :=
  s.planIds.foldl (fun (a : Ratio) p => a.plus (s.planCharge (s.plan p))) (0, 1)

/-- GAL_CHARGE (R377): units of 1,000 B/s, rounded up. -/
def State.galChargeReg (s : State) : Nat :=
  have c := s.galCharge
  (c.1 + 1000 * c.2 - 1) / (1000 * c.2)

/-- Blocks in a program's ring (R367, R373). -/
def ringBlocks (b : List Byte) : Nat := (leAt b 0x0C 4 * 1048576 - 65536) / 4096

/-! ### Events -/

/-- A gallery event with its record: program, RECORD_SEQ and PRIMARY (R378). DEDUCED, log entry 31. -/
def State.galEvent (s : State) (bit p seq primary : Nat) : State :=
  (s.setEvent (640 + bit)).logPut (0x4000 + 640 + bit) 0x0D p p seq primary

/-- The directory entry of a program. -/
def Prog.rec_ (x : Prog) (e : Nat) : GRec := tget x.dir e {}

/-- A directory entry with a new value. -/
def Prog.setRec (x : Prog) (e : Nat) (r : GRec) : Prog := { x with dir := tset x.dir e r {} }

/-- The record that a program's capture writes, or its latest one. -/
def Prog.cur (x : Prog) : GRec := x.rec_ x.entry

/-! ### Blocks (R366, R369, R372) -/

/-- A record whose blocks may not be overwritten (R369): under KEEP until it is released, and while COPY
reads it. -/
def State.protects (s : State) (p e : Nat) (r : GRec) : Bool :=
  (planFlag (s.plan p) 2 && decide (r.state ≥ 2) && !r.released) ||
    s.gal.copies.any (fun c => decide (c.2.prog = p) && decide (c.2.entry = e) && c.2.arch.isNone) ||
    decide (r.state = 1)

/-- A ring index lies in a record. -/
def inRecord (n : Nat) (r : GRec) (i : Nat) : Bool :=
  decide (r.state ≠ 0) && decide ((i + n - r.firstBlock % n) % n < r.blocks)

/-- The program enters HELD (R366): writing stops. -/
def State.hold (s : State) (p : Nat) : State :=
  have x := s.prog p
  (s.setProg p { x with state := 5, streams := [] }).galEvent 3 p x.seq 0x1FF

/-- A finished block goes to the ring. A closed record that it overwrites becomes FREE, one that is kept
stops the writing (R366, R369). -/
def State.ringPutBlock (s : State) (p : Nat) (bytes : List Byte) (lastInst : Nat) : State :=
  have x := s.prog p
  have n := max 1 (ringBlocks (s.plan p))
  have i := x.next % n
  have hit := (x.dir.filter (fun e => inRecord n e.2 i))
  if hit.any (fun e => s.protects p e.1 e.2) then
    (if x.state = 1 ∨ x.state = 2 ∨ x.state = 4 then s.hold p else s)
  else
    have x := hit.foldl (fun x e => x.setRec e.1 {}) x
    have x := if x.state = 3 ∧ x.cur.state = 1 then
        (have r := x.cur
         x.setRec x.entry { r with blocks := r.blocks + 1 })
      else x
    s.setProg p { x with
        next := (i + 1) % n, blockSeq := (x.blockSeq + 1) % 2 ^ 32,
        ring := tset x.ring i { bytes := bytes, lastInst := lastInst } {} }

/-- The bytes of a block (R372). -/
def blockBytes (b : List Byte) (p kind red source step seq : Nat) (g : GStream) : List Byte :=
  have pay := padTo (padTo g.vals.flatten (blockCap b kind * valSize b kind) ++
    (if kind = 5 ∨ kind = 6 then [] else g.marks.flatMap (fun m => leBytes m 2))) 4032
  have hdr := [0x47#8, 0x42#8, 0x4C#8, 0x4B#8] ++ leBytes seq 4 ++ leBytes p 1 ++ leBytes kind 1 ++
    leBytes red 1 ++ leBytes (b2n g.gap + 2 * b2n g.restart) 1 ++ leBytes source 2 ++
    leBytes g.vals.length 2 ++ leBytes g.first 4 ++ leBytes (ts32Of g.firstInst) 4 ++
    leBytes (fracOf g.firstInst) 2 ++ leBytes step 2 ++ leBytes (secOf g.firstInst % 2 ^ 32) 4 ++
    List.replicate 28 0
  hdr ++ leBytes (crc32 (hdr ++ pay)).toNat 4 ++ pay

/-- An entry stream of a program: its key, kind, reduction, source and step. -/
structure GKey where
  kind : Nat
  red : Nat
  source : Nat
  step : Nat
deriving DecidableEq, Repr

/-- The key of a stream in the program's table. -/
def GKey.idx (k : GKey) : Nat := (k.kind * 256 + k.red) * 65536 + k.source

/-- The unfinished block of a stream is written. -/
def State.flushStream (s : State) (p : Nat) (k : GKey) : State :=
  have x := s.prog p
  have g := tget x.streams k.idx {}
  if g.vals.isEmpty then s
  else
    have bytes := blockBytes (s.plan p) p k.kind k.red k.source k.step x.blockSeq g
    have s := s.ringPutBlock p bytes g.lastInst
    have x := s.prog p
    if x.state = 5 then s
    else
      s.setProg p { x with
          streams := tset x.streams k.idx { g with vals := [], marks := [], restart := false, gap := false } {} }

/-- One entry of a stream (R360, R372). A break in the count ends the block; a full block is written. -/
def State.putEntry (s : State) (p : Nat) (k : GKey) (count inst : Nat) (val : List Byte) (mark : Nat) :
    State :=
  have x := s.prog p
  if x.state = 0 ∨ x.state = 5 then s
  else
    have g := tget x.streams k.idx {}
    have brk := match g.last with
      | none => false
      | some l => decide ((l + k.step) % 2 ^ 32 ≠ count % 2 ^ 32)
    have s := if brk then s.flushStream p k else s
    have x := s.prog p
    if x.state = 5 then s
    else
      have g := tget x.streams k.idx {}
      have g := if g.vals.isEmpty then
          { g with
              first := count % 2 ^ 32, firstInst := inst, restart := g.restart || brk, gap := g.shedGap,
              shedGap := false }
        else g
      have g := { g with
          vals := g.vals ++ [val], marks := g.marks ++ [mark], last := some (count % 2 ^ 32), lastInst := inst }
      have s := s.setProg p { x with streams := tset x.streams k.idx g {} }
      if g.vals.length ≥ blockCap (s.plan p) k.kind then s.flushStream p k else s

/-! ### What becomes visible at a tick -/

/-- What became visible at a tick: per channel the lattice counts and the input counts, oldest first. -/
structure GSeen where
  chan : Nat
  grid : List Nat
  ins : List Nat
deriving DecidableEq, Repr

/-- What becomes visible at a tick, from the state before the heads advance (R224). -/
def State.seenAt (s : State) (tick : Nat) : List GSeen :=
  s.slotsUsed.map (fun c =>
    have x := s.chan c
    { chan := c, grid := (visibleBy tick x.pendG).1.map (·.1), ins := (visibleBy tick x.pendI).1.map (·.1) })

/-- What became visible of a channel. -/
def seenOf (l : List GSeen) (c : Nat) : GSeen :=
  (l.find? (fun x => decide (x.chan = c))).getD { chan := c, grid := [], ins := [] }

/-- The instant that an instant entry of the plane holds, extended with the present second (R87, R223). -/
def State.instAt (s : State) (a : Nat) : Nat :=
  have w := s.plnNum a 4 * 65536 + s.plnNum (a + 4) 2
  have m := 2 ^ 48
  have d := (s.now + m - w) % m
  if d ≤ s.now then s.now - d else w

/-- The instant of a grid sample. -/
def State.gridInst (s : State) (c n : Nat) : Nat := s.instAt (gridInstAddr (s.chan c).table n)

/-- The instant of an input sample. -/
def State.inInst (s : State) (c n : Nat) : Nat := s.instAt (inInstAddr (s.chan c).stream n)

/-- RMS of the last W grid values, and the OR of their marks (R360). DEDUCED, log entry 92. -/
def State.rmsAt (s : State) (c n w : Nat) : Nat × Nat :=
  have ks := (List.range w).map (fun i => n + 2 ^ 32 + 1 + i - w)
  have sum := ks.foldl (fun a i => let v := sToD (s.plnNum (gridValAddr c i) 4); dAdd a (dMul v v)) (f64.zero false)
  have m := ks.foldl (fun a i => a ||| s.plnNum (gridMarkAddr c i) 2) 0
  (dToS (f64.sqrt .rne (dDiv sum (dInt w 0))).1, m)

/-- One channel of a MINMAX reduction takes an input value. DEDUCED, log entry 92. -/
def State.minMaxIn (s : State) (p : Nat) (k : GKey) (c n : Nat) : State :=
  have x := s.prog p
  have g := tget x.streams k.idx {}
  have acc := g.acc ++ [(s.plnNum (inValAddr c n) 4, s.plnNum (inMarkAddr c n) 2)]
  if n % k.step = k.step - 1 then
    have s := s.setProg p { x with streams := tset x.streams k.idx { g with acc := [] } {} }
    if acc.length = k.step then
      have vs := acc.map (·.1)
      have h := vs.headD 0
      have lo := vs.foldl (fun a v => if f32.lt v a then v else a) h
      have hi := vs.foldl (fun a v => if f32.lt a v then v else a) h
      s.putEntry p k n (s.inInst c n) (leBytes lo 4 ++ leBytes hi 4) (acc.foldl (fun a e => a ||| e.2) 0)
    else s
  else s.setProg p { x with streams := tset x.streams k.idx { g with acc := acc } {} }

/-- The entries of one channel of a reduction (R360). -/
def State.redWrite (s : State) (p r : Nat) (d : Red) (v : GSeen) : State :=
  have c := v.chan
  have w := s.slotW c
  have last := v.grid.filter (fun n => decide (n % w = w - 1))
  match d.kind with
  | 0 =>
    v.ins.foldl (fun s n =>
      s.putEntry p ⟨0, r, c, 1⟩ n (s.inInst c n) (leBytes (s.plnNum (inValAddr c n) 4) 4)
        (s.plnNum (inMarkAddr c n) 2)) s
  | 1 =>
    v.grid.foldl (fun s n =>
      s.putEntry p ⟨1, r, c, 1⟩ n (s.gridInst c n) (leBytes (s.plnNum (gridValAddr c n) 4) 4)
        (s.plnNum (gridMarkAddr c n) 2)) s
  | 2 => v.ins.foldl (fun s n => s.minMaxIn p ⟨2, r, c, max 1 d.param⟩ c n) s
  | 3 =>
    last.foldl (fun s n =>
      let (q, m) := s.rmsAt c n w
      s.putEntry p ⟨3, r, c, w⟩ n (s.gridInst c n) (leBytes q 4) m) s
  | _ =>
    last.foldl (fun s n =>
      s.putEntry p ⟨4, r, c, w⟩ n (s.gridInst c n) (leBytes (s.plnNum (phasorAddr c n) 8) 8)
        (s.plnNum (phasorMarkAddr c n) 2)) s

/-- A reduction is shed (R371). -/
def State.shedRed (s : State) (d : Red) : Bool := decide (d.shed ≠ 0) && decide (d.shed ≤ s.gal.shed)

/-- A reduction that is shed drops its unfinished window and marks the gap; a capture notes it. -/
def State.shedMark (s : State) (p r : Nat) (d : Red) : State :=
  have x := s.prog p
  have x := (redChans (s.plan p) d).foldl (fun x c =>
    have w := if d.kind = 2 then max 1 d.param else if d.kind ≥ 3 then s.slotW c else 1
    have k : GKey := ⟨d.kind, r, c, w⟩
    { x with streams := tmod x.streams k.idx {} (fun g => { g with shedGap := true, acc := [] }) }) x
  have x := if x.state = 3 then
      (have q := x.cur
       x.setRec x.entry { q with shed := true, shedMask := q.shedMask ||| 2 ^ r })
    else x
  s.setProg p x

/-- A binary list entry at a tick: value and quality (R360). -/
def State.binAt (s : State) (frame e : Nat) : Nat × Nat :=
  if e < 2 ^ 15 then
    have h := frame % 64
    (s.plnNum (0x31C0000 + h * 2048 + e / 8) 1 / 2 ^ (e % 8) % 2,
     s.plnNum (0x31E0000 + h * 4096 + e / 4) 1 / 4 ^ (e % 4) % 4)
  else
    have h := (frame + 63) % 64
    have d := e % 4096
    (s.plnNum (0x3220000 + h * 512 + d / 8) 1 / 2 ^ (d % 8) % 2,
     2 * (s.plnNum (0x3228000 + h * 512 + d / 8) 1 / 2 ^ (d % 8) % 2))

/-- The binary stream's entry of a frame (R360, R372). -/
def State.binWrite (s : State) (p frame tick : Nat) : State :=
  have b := s.plan p
  have n := leAt b 4 2
  if n = 0 then s
  else
    have es := (List.range n).map (fun i => s.binAt frame (leAt b ((planParts b).bins + 2 * i) 2))
    have v := es.foldr (fun e a => e.1 + 2 * a) 0
    have q := es.foldr (fun e a => e.2 + 4 * a) 0
    s.putEntry p ⟨5, 0xFF, 0, 1⟩ frame tick
      (leBytes v (4 * ((n + 31) / 32)) ++ leBytes q (4 * ((n + 15) / 16))) 0

/-- The instant streams of a program (R360). -/
def State.instWrite (s : State) (p : Nat) (seen : List GSeen) : State :=
  have b := s.plan p
  have s := (s.planTables b).foldl (fun s t =>
    match seen.find? (fun v => decide ((s.chan v.chan).table = t) && !v.grid.isEmpty) with
    | none => s
    | some v =>
      v.grid.foldl (fun s n =>
        have a := gridInstAddr t n
        s.putEntry p ⟨6, 0xFF, t, 1⟩ n (s.instAt a) (leBytes (s.plnNum a 8) 8) 0) s) s
  (s.planStreams b).foldl (fun s i =>
    match seen.find? (fun v => decide ((s.chan v.chan).stream = i) && !v.ins.isEmpty) with
    | none => s
    | some v =>
      v.ins.foldl (fun s n =>
        have a := inInstAddr i n
        s.putEntry p ⟨6, 0xFF, 0x8000 + i, 1⟩ n (s.instAt a) (leBytes (s.plnNum a 8) 8) 0) s) s

/-- A program writes what became visible at a tick (R360). -/
def State.progWrite (s : State) (p frame tick : Nat) (seen : List GSeen) : State :=
  have b := s.plan p
  have s := (planReds b).foldl (fun s r =>
    if s.shedRed r.2 then s.shedMark p r.1 r.2
    else (redChans b r.2).foldl (fun s c => s.redWrite p r.1 r.2 (seenOf seen c)) s) s
  (s.binWrite p frame tick).instWrite p seen

/-! ### Comparators (R361 to R364) -/

/-- A pattern comparator's match at a tick. -/
def State.patMatch (s : State) (b : List Byte) (o frame : Nat) : Bool :=
  (List.range (byteAt b (o + 2))).all (fun i =>
    if leAt b (o + 0x10) 8 / 2 ^ i % 2 = 0 then true
    else
      have v := s.binAt frame (leAt b (o + 0x18 + 2 * i) 2)
      decide (v.2 = 0) && decide (v.1 = leAt b (o + 8) 8 / 2 ^ i % 2))

/-- The values of a quantity that became visible: instant, binary64 value and marks (R360, R363). 0 grid
value, 1 input value, 2 RMS, 3 phasor magnitude. DEDUCED, log entry 66. -/
def State.quantities (s : State) (v : GSeen) (q : Nat) : List (Nat × Nat × Nat) :=
  have c := v.chan
  have w := s.slotW c
  have last := v.grid.filter (fun n => decide (n % w = w - 1))
  match q with
  | 0 =>
    v.grid.map (fun n => (s.gridInst c n, sToD (s.plnNum (gridValAddr c n) 4), s.plnNum (gridMarkAddr c n) 2))
  | 1 => v.ins.map (fun n => (s.inInst c n, sToD (s.plnNum (inValAddr c n) 4), s.plnNum (inMarkAddr c n) 2))
  | 2 => last.map (fun n => have r := s.rmsAt c n w; (s.gridInst c n, sToD r.1, r.2))
  | _ =>
    last.map (fun n =>
      have re := sToD (s.plnNum (phasorAddr c n) 4)
      have im := sToD (s.plnNum (phasorAddr c n + 4) 4)
      (s.gridInst c n, (f64.sqrt .rne (dAdd (dMul re re) (dMul im im))).1,
       s.plnNum (phasorMarkAddr c n) 2))

/-- The magnitude of a binary64. -/
def dAbs (a : Nat) : Nat := a % f64.signBit

/-- Marks that make a value unusable: INVALID, MISSING or NOT_SETTLED (R363). -/
def unusable (m : Nat) : Bool := decide (m &&& 0x25 ≠ 0)

/-- One usable value at an analogue comparator: its new state, and whether it is met (R363). -/
def anaStep (kind th hy : Nat) (x : GCmp) (inst val : Nat) : GCmp × Bool :=
  have q : Option Nat :=
    if kind = 2 then
      match x.last with
      | none => none
      | some (i, l) =>
        some (dDiv (dAbs (dSub val l)) (dDiv (dInt ((inst : Int) - i) 0) (dInt secUnit 0)))
    else some (dAbs val)
  have y := { x with last := some (inst, val) }
  match q with
  | none => (y, false)
  | some q =>
    have up := if kind = 1 then f64.lt q th else f64.lt th q
    have down := if kind = 1 then f64.le (dAdd th hy) q else f64.le q (dSub th hy)
    have set := if x.set then !down else up
    ({ y with set := set, seen := true }, x.seen && !x.set && set)

/-- An analogue comparator over what became visible: its state and the instants at which it is met. -/
def State.anaRun (s : State) (b : List Byte) (o : Nat) (x : GCmp) (seen : List GSeen) : GCmp × List Nat :=
  have kind := byteAt b (o + 5)
  have th := sToD (leAt b (o + 8) 4)
  have hy := sToD (leAt b (o + 0x0C) 4)
  (s.quantities (seenOf seen (planChan b (leAt b (o + 2) 2))) (byteAt b (o + 4))).foldl
    (fun (a : GCmp × List Nat) v =>
      if unusable v.2.2 then a
      else let (y, met) := anaStep kind th hy a.1 v.1 v.2.1; (y, if met then a.2 ++ [v.1] else a.2)) (x, [])

/-- A program's comparators at a tick: their new states and the conditions met, comparator and instant. -/
def State.conditions (s : State) (p frame tick : Nat) (seen : List GSeen) : Tbl GCmp × List (Nat × Nat) :=
  have b := s.plan p
  have o := planParts b
  have x := s.prog p
  have pats := (List.range (byteAt b 7)).foldl (fun (a : Tbl GCmp × List (Nat × Nat)) i =>
    have e := o.pats + 160 * i
    have idx := byteAt b e
    have c := tget a.1 idx {}
    have m := s.patMatch b e frame
    have met := m && (decide (byteAt b (e + 1) = 0) || (c.seen && !c.set))
    (tset a.1 idx { c with seen := true, set := m } {}, if met then a.2 ++ [(idx, tick)] else a.2)) (x.cmps, [])
  (List.range (leAt b 8 2)).foldl (fun (a : Tbl GCmp × List (Nat × Nat)) i =>
    have e := o.anas + 24 * i
    have idx := leAt b e 2
    let (y, ms) := s.anaRun b e (tget a.1 idx {}) seen
    (tset a.1 idx y {}, a.2 ++ ms.map (fun t => (idx, t)))) pats

/-! ### Captures (R364 to R370) -/

/-- The oldest block of the ring with an entry at or after an instant, and the number of blocks from it. -/
def Prog.blocksFrom (x : Prog) (n t : Nat) : Nat × Nat :=
  have old := (List.range n).map (fun i => (x.next + i) % n)
  match old.find? (fun i => match tget x.ring i {} with
      | g => decide (g.bytes ≠ []) && decide (t ≤ g.lastInst)) with
  | none => (x.next, 0)
  | some i => (i, (x.next + n - i) % n)

/-- A stream's data reach back to an instant. -/
def Prog.reaches (x : Prog) (n t : Nat) : Bool :=
  (List.range n).any (fun i => match tget x.ring i {} with
    | g => decide (g.bytes ≠ []) && decide (g.lastInst < t)) ||
    x.streams.any (fun e => decide (e.2.vals ≠ []) && decide (e.2.firstInst ≤ t))

/-- The directory entry of a new record: the lowest FREE one, or without KEEP the oldest record's. DEDUCED,
log entry 92. -/
def Prog.freeEntry (x : Prog) (keep : Bool) : Option Nat :=
  match (List.range 64).find? (fun e => decide ((x.rec_ e).state = 0)) with
  | some e => some e
  | none =>
    if keep then (List.range 64).find? (fun e => (x.rec_ e).released)
    else
      (List.range 64).foldl (fun (a : Option Nat) e =>
        match a with
        | none => some e
        | some f => if (x.rec_ e).seq < (x.rec_ f).seq then some e else some f) none

/-- The record of a capture that starts at the trigger time `t` (R364 to R367). -/
def State.captureRec (s : State) (p t mask primary later : Nat) (manual : Bool) : GRec :=
  have b := s.plan p
  have x := s.prog p
  have n := max 1 (ringBlocks b)
  have start := t - planMs b 0x10
  have shed := ((planReds b).filter (fun r => s.shedRed r.2)).foldl (fun m r => m ||| 2 ^ r.1) 0
  { seq := (x.seq + 1) % 2 ^ 32, state := 1, preShort := decide (x.state = 1) || !x.reaches n start, manual := manual,
    planGen := ((s.sect 0xC p).map (·.gen)).getD 0, trig := t, primary := primary,
    firstBlock := (x.blocksFrom n start).1, blocks := (x.blocksFrom n start).2,
    end_ := t + planMs b 0x14, later := min 65535 later, moduleId := s.recId, mask := mask,
    shed := decide (shed ≠ 0), shedMask := shed }

/-- A capture's record opens in the entry `e` (R369). -/
def State.captureOpen (s : State) (p e : Nat) (r : GRec) : State :=
  (s.setProg p { (s.prog p).setRec e r with state := 3, seq := r.seq, entry := e, envs := [], envDone := [] }).galEvent
    0 p r.seq r.primary

/-- A capture starts (R364 to R367, R369). -/
def State.captureStart (s : State) (p t : Nat) (mask primary later : Nat) (manual : Bool) : State :=
  match (s.prog p).freeEntry (planFlag (s.plan p) 2) with
  | none => s.hold p
  | some e => s.captureOpen p e (s.captureRec p t mask primary later manual)

/-- Every unfinished block of a program is written, in the order of the streams' keys. -/
def State.flushAll (s : State) (p : Nat) : State :=
  (s.prog p).streams.foldl (fun s e =>
    have kind := e.1 / 16777216
    have red := e.1 / 65536 % 256
    have src := e.1 % 65536
    have d := planRed (s.plan p) red
    have step := if kind = 2 then max 1 d.param else if kind = 3 ∨ kind = 4 then s.slotW src else 1
    s.flushStream p ⟨kind, red, src, step⟩) s

/-- An open record closes (R366, R374): cause, state 2 CLOSED or 3 ABORTED, and its end. -/
def State.closeRec (s : State) (p cause st end_ : Nat) : State :=
  have x := s.prog p
  if x.state = 3 ∧ x.cur.state = 1 then
    have s := s.flushAll p
    have x := s.prog p
    have r := { x.cur with state := st, cause := cause, end_ := end_ }
    have s := s.setProg p { x.setRec x.entry r with closed := s.time.mono, since := 0 }
    have s := (s.galEvent 1 p r.seq r.primary).mboxSource 3 p r.seq
    have s := if planFlag (s.plan p) 3 ∧ st = 2 then
        { s with gal := { s.gal with archWait := s.gal.archWait ++ [(p, x.entry)] } }
      else s
    s
  else s

/-- A program goes to HOLDOFF after a close. A HOLDOFF of 0 re-arms at once (R366). -/
def State.toHoldoff (s : State) (p : Nat) : State :=
  have x := s.prog p
  s.setProg p { x with state := if leAt (s.plan p) 0x1C 4 = 0 then 2 else 4 }

/-- A program enters ARMING (R366). DEDUCED, log entry 94. -/
def State.arming (s : State) (p : Nat) : State :=
  have x := s.prog p
  s.setProg p { x with
      state := 1, start := s.time.mono, streams := [], cmps := [], trigger := false, resetWait := false }

/-- The segment of an envelope test that covers an instant (R370). -/
def envSegment (b : List Byte) (o t inst n s : Nat) : Option Nat :=
  match n with
  | 0 => none
  | n + 1 =>
    have d := leAt b (o + 0x10 + 12 * s) 4 * msUnit
    if inst < t then none
    else if inst < t + d then some (o + 0x10 + 12 * s)
    else envSegment b o (t + d) inst n (s + 1)

/-- The values of an envelope test at a tick: the run of outside values and the instant of a violation. -/
def envRun (b : List Byte) (o t confirm : Nat) (run : Nat) (vs : List (Nat × Nat × Nat)) :
    Nat × Option Nat :=
  match vs with
  | [] => (run, none)
  | v :: r =>
    match envSegment b o t v.1 (byteAt b (o + 5)) 0 with
    | none => envRun b o t confirm run r
    | some g =>
      have lo := sToD (leAt b (g + 4) 4)
      have hi := sToD (leAt b (g + 8) 4)
      have out := !unusable v.2.2 && (f64.lt v.2.1 lo || f64.lt hi v.2.1)
      have n := if out then run + 1 else 0
      if n ≥ confirm then (n, some v.1) else envRun b o t confirm n r

/-- One envelope test of a capturing program (R370). -/
def State.envTest (s : State) (p i : Nat) (seen : List GSeen) : State :=
  have b := s.plan p
  have o := (planParts b).envs + 112 * i
  have x := s.prog p
  if x.state ≠ 3 ∨ x.envDone.contains i then s
  else
    have vs := s.quantities (seenOf seen (planChan b (leAt b o 2))) (byteAt b (o + 2))
    have r := x.cur
    let (n, hit) := envRun b o r.trig (max 1 (byteAt b (o + 4))) (tget x.envs i 0) (vs.filter (fun v => decide (v.1 ≤ r.end_)))
    have s := s.setProg p { x with envs := tset x.envs i n 0 }
    match hit with
    | none => s
    | some t =>
      have x := s.prog p
      have r := if r.violated then r else { r with violated := true, envFirst := i, violTs := ts32Of t }
      have s := s.setProg p { x.setRec x.entry r with envDone := x.envDone ++ [i] }
      have s := s.galEvent 2 p r.seq r.primary
      have a := byteAt b (o + 3)
      if a = 0 then s
      else
        have s := s.closeRec p 3 2 t
        if a = 2 then s.setProg p { s.prog p with state := 0 } else s.toHoldoff p

/-- The GAL command register. -/
def galCmdReg : Nat := 0xA00000

/-- A manual trigger that waits is done (R365). -/
def State.triggerDone (s : State) (p : Nat) : State :=
  if (s.prog p).trigger then
    (s.setProg p { s.prog p with trigger := false }).cmdDone galCmdReg
  else s

/-- The conditions met at a tick act on a program (R364, R366). -/
def State.progConditions (s : State) (p : Nat) (met : List (Nat × Nat)) : State :=
  have b := s.plan p
  have x := s.prog p
  match met with
  | [] => s
  | m :: _ =>
    have t := met.foldl (fun a e => min a e.2) m.2
    have first := met.filter (fun e => decide (e.2 = t))
    have mask := first.foldl (fun a e => a ||| 2 ^ e.1) 0
    have primary := first.foldl (fun a e => min a e.1) 0x1FF
    match x.state with
    | 1 => (s.captureStart p t mask primary (met.length - first.length) x.trigger).triggerDone p
    | 2 => (s.captureStart p t mask primary (met.length - first.length) x.trigger).triggerDone p
    | 3 =>
      have r := x.cur
      have lim := r.trig + planMs b 0x18
      have e := if planFlag b 1 then met.foldl (fun a c => max a (min lim (c.2 + planMs b 0x14))) r.end_ else r.end_
      s.setProg p (x.setRec x.entry { r with
          later := min 65535 (r.later + met.length), end_ := e,
          extended := r.extended || decide (r.end_ < e) })
    | 4 =>
      have s := s.countBy (0xA01008 + 0x10 * p) met.length
      have n := x.since + met.length
      if planFlag b 4 ∧ leAt b 0x1C 4 ≤ n then s.setProg p { x with state := 2, since := n }
      else s.setProg p { x with since := n }
    | 5 => s.countBy (0xA0100C + 0x10 * p) met.length
    | _ => s

/-- A program at a frame tick (R364, R366, R375). -/
def State.progTick (s : State) (p frame tick : Nat) (seen : List GSeen) : State :=
  have b := s.plan p
  have s := if (s.prog p).state = 0 ∧ s.gal.autoDue ∧ planFlag b 0 then s.arming p else s
  if (s.prog p).state = 0 then s
  else
    have s := if (s.prog p).state = 5 then s else s.progWrite p frame tick seen
    let (cs, met) := s.conditions p frame tick seen
    have s := s.setProg p { s.prog p with cmps := cs }
    have s := s.progConditions p met
    forN (byteAt b 0x0A) (fun i s => s.envTest p i seen) s

/-- The gallery at a frame tick (R364): `seen` is what became visible at it. -/
def State.galTick (s : State) (frame tick : Nat) (seen : List GSeen) : State :=
  have s := s.planIds.foldl (fun s p => s.progTick p frame tick seen) s
  { s with gal := { s.gal with autoDue := false } }

/-! ### Loads, stops, steps and resets (R366, R375) -/

/-- The gallery takes the plans of the running image (R366). DEDUCED, log entry 94. -/
def State.galLoad (s : State) : State :=
  have s := { s with gal := { s.gal with progs := [], copies := [], archWait := [], autoDue := false } }
  s.planIds.foldl (fun s p => if planFlag (s.plan p) 0 then s.arming p else s) s

/-- Frames stop (R375). -/
def State.galFramesStop (s : State) : State :=
  have s := forN 16 (fun p s =>
    have s := s.closeRec p 8 2 s.now
    have x := s.prog p
    if x.state = 0 then s
    else
      have s := if x.trigger then (s.setProg p { x with trigger := false }).cmdEndRefused galCmdReg else s
      s.setProg p { s.prog p with state := 0, streams := [] }) s
  { s with gal := { s.gal with autoDue := true } }

/-- A step (R375). -/
def State.galStep (s : State) : State :=
  forN 16 (fun p s =>
    have x := s.prog p
    if x.state = 0 ∨ x.state = 5 then s else (s.closeRec p 7 2 s.now).arming p) s

/-- A reload of a program's plan (R72, R375): the record closes under the plan that it was made under. -/
def State.galAbort (s : State) (p cause : Nat) : State := s.closeRec p cause 3 s.now

/-- The program goes on under a new plan at F (R366, R375). -/
def State.galReload (s : State) (p : Nat) : State :=
  if (s.plan p).isEmpty then s.setProg p { s.prog p with state := 0, streams := [] } else s.arming p

/-- A block-instance reset of a program (R50, R375): it is re-armed at the end of HOLDOFF. -/
def State.galReset (s : State) (p : Nat) : State :=
  have s := s.galAbort p 5
  have x := s.prog p
  have s := if x.trigger then (s.setProg p { x with trigger := false }).cmdEndRefused galCmdReg else s
  if x.state = 0 then s
  else
    (s.setProg p { s.prog p with
        state := 4, streams := [], cmps := [], envs := [], envDone := [], closed := s.time.mono, since := 0,
        resetWait := true })

/-- A shed level takes effect (R371, R495). -/
def State.setShed (s : State) (l : Nat) : State :=
  if s.gal.shed = l then s
  else
    have s := { s with gal := { s.gal with shed := l } }
    (s.setEvent 644).logPut (0x4000 + 644) 0x0D 0x3FF 0x3FF s.frameNum (s.rd 0xA0002C).toNat

/-! ### Commands (R376) -/

/-- A program number of the running image. -/
def State.progUsed (s : State) (p : Nat) : Bool := decide (p < 16) && !(s.plan p).isEmpty

/-- ARM (R376). -/
def galArm (rsv arg : Nat) (s : State) : State :=
  s.runCmd galCmdReg 1 rsv arg
    (verdict (s.progUsed arg) (s.kpr.frames && decide ((s.prog arg).state = 0))) fun s =>
    (s.arming arg).cmdDone galCmdReg

/-- ARM (R376). -/
def execArm (dt : Nat) (rsv : BitVec 8) (arg : BitVec 16) (s : State) : Result :=
  .next (galArm rsv.toNat arg.toNat (s.elapse dt))

/-- DISARM (R366, R376). -/
def galDisarm (rsv arg : Nat) (s : State) : State :=
  s.runCmd galCmdReg 2 rsv arg
    (verdict (s.progUsed arg) (s.kpr.frames && decide ((s.prog arg).state ≠ 0))) fun s =>
    have s := s.closeRec arg 4 2 s.now
    (s.setProg arg { s.prog arg with state := 0, streams := [] }).cmdDone galCmdReg

/-- DISARM (R376). -/
def execDisarm (dt : Nat) (rsv : BitVec 8) (arg : BitVec 16) (s : State) : Result :=
  .next (galDisarm rsv.toNat arg.toNat (s.elapse dt))

/-- TRIGGER (R365, R376). -/
def galTrigger (rsv arg : Nat) (s : State) : State :=
  s.runCmd galCmdReg 3 rsv arg
    (verdict (s.progUsed arg)
      (s.kpr.frames && (decide ((s.prog arg).state = 1) || decide ((s.prog arg).state = 2)))) fun s =>
    s.setProg arg { s.prog arg with trigger := true }

/-- TRIGGER (R376). -/
def execTrigger (dt : Nat) (rsv : BitVec 8) (arg : BitVec 16) (s : State) : Result :=
  .next (galTrigger rsv.toNat arg.toNat (s.elapse dt))

/-- TRIGGER_APPLY: the waiting manual captures start at the latest tick (R365). -/
def triggerApply (s : State) : State :=
  forN 16 (fun p s =>
    have x := s.prog p
    if x.trigger then
      have t := tickTime s.bcn.tickNo s.frameRate
      have s := if x.state = 1 ∨ x.state = 2 then s.captureStart p t 0 0x1FF 0 true
        else if x.state = 5 then s.count (0xA0100C + 0x10 * p) else s
      s.triggerDone p
    else s) s

/-- TRIGGER_APPLY (R365). -/
def execTriggerApply (dt : Nat) (s : State) : Result := .next (triggerApply (s.elapse dt))

/-- RELEASE (R366, R376). -/
def galRelease (rsv arg : Nat) (s : State) : State :=
  have p := arg % 16
  have e := arg / 16 % 64
  s.runCmd galCmdReg 4 rsv arg
    (verdict (decide (arg < 1024) && s.progUsed p) (s.afterBoot && decide (((s.prog p).rec_ e).state ≥ 2))) fun s =>
    have x := s.prog p
    have s := s.setProg p (x.setRec e { x.rec_ e with released := true })
    have s := if x.state = 5 then s.arming p else s
    s.cmdDone galCmdReg

/-- RELEASE (R376). -/
def execRelease (dt : Nat) (rsv : BitVec 8) (arg : BitVec 16) (s : State) : Result :=
  .next (galRelease rsv.toNat arg.toNat (s.elapse dt))

/-- The 256 bytes of a directory entry (R373). -/
def recEntry (p : Nat) (r : GRec) : List Byte :=
  have fl := b2n r.preShort + 2 * b2n r.extended + 4 * b2n r.violated + 8 * b2n r.shed + 16 * b2n r.manual +
    32 * b2n r.released + 64 * b2n r.archived
  have body := [0x47#8, 0x52#8, 0x45#8, 0x43#8] ++ leBytes r.seq 4 ++ leBytes r.state 1 ++ leBytes r.cause 1 ++
    leBytes p 1 ++ leBytes fl 1 ++ leBytes r.planGen 4 ++ leBytes (ts32Of r.trig) 4 ++
    leBytes (fracOf r.trig) 2 ++ leBytes r.primary 2 ++ leBytes (secOf r.trig) 8 ++
    leBytes r.firstBlock 4 ++ leBytes r.blocks 4 ++ leBytes (ts32Of r.end_) 4 ++ leBytes r.later 2 ++
    leBytes r.moduleId 2 ++ leBytes (secOf r.end_) 8 ++ leBytes r.envFirst 1 ++ leBytes r.shedMask 1 ++ [0, 0] ++
    leBytes r.violTs 4 ++ leBytes r.mask 40 ++ List.replicate 148 0
  body ++ leBytes (crc32 body).toNat 4

/-- The blocks of a record, in ring order. -/
def State.recBlocks (s : State) (p : Nat) (r : GRec) : List (List Byte) :=
  have n := max 1 (ringBlocks (s.plan p))
  (List.range r.blocks).map (fun i => (tget (s.prog p).ring ((r.firstBlock + i) % n) {}).bytes)

/-- What COPY writes: the directory entry and the blocks, none where there is no such archived record. -/
def State.copyOf (s : State) (p e : Nat) (arch : Option Nat) : Option (List Byte × List (List Byte)) :=
  match arch with
  | none => some (recEntry p ((s.prog p).rec_ e), s.recBlocks p ((s.prog p).rec_ e))
  | some n => (s.gal.archive.find? (fun a => decide (a.num = n))).map (fun a => (a.dir, a.blocks))

/-- What a COPY command names. -/
def State.copyArch (s : State) (arg : Nat) : Option Nat :=
  if arg / 2 ^ 15 = 1 then some (s.rd 0xA00020).toNat else none

/-- The argument checks of COPY: address alignment and capacity in 4 KiB units (R376, R377). DEDUCED, log
entry 93. -/
def State.copyArg (s : State) (arg addr cap : Nat) : Bool :=
  match s.copyOf (arg % 16) (arg / 16 % 64) (s.copyArch arg) with
  | none => false
  | some (_, bs) =>
    decide (arg / 1024 % 32 = 0) && decide (addr % 4096 = 0) && decide (bs.length + 1 ≤ cap) &&
      (s.progUsed (arg % 16) || (s.copyArch arg).isSome)

/-- The state check of COPY. -/
def State.copyState (s : State) (arg : Nat) : Bool :=
  s.afterBoot && ((s.copyArch arg).isSome || decide (((s.prog (arg % 16)).rec_ (arg / 16 % 64)).state ≠ 1))

/-- A COPY starts for a function. DEDUCED, log entry 93. -/
def State.copyBegin (s : State) (v arg addr : Nat) : State :=
  { s with
      gal := { s.gal with
      copies := s.gal.copies.filter (fun c => decide (c.1 ≠ v)) ++
        [(v, { addr := addr, prog := arg % 16, entry := arg / 16 % 64, arch := s.copyArch arg })] } }

/-- COPY (R376). -/
def galCopy (rsv arg : Nat) (s : State) : State :=
  have addr := (s.rd 0xA00010).toNat + 2 ^ 32 * (s.rd 0xA00014).toNat
  s.runCmd galCmdReg 5 rsv arg
    (verdict (s.copyArg arg addr (s.rd 0xA00018).toNat) (s.copyState arg)) fun s =>
    s.copyBegin 0 arg addr

/-- COPY (R376). -/
def execCopy (dt : Nat) (rsv : BitVec 8) (arg : BitVec 16) (s : State) : Result :=
  .next (galCopy rsv.toNat arg.toNat (s.elapse dt))

/-- A COPY of a function is DONE with a number of units written (R376, R398, R418). -/
def State.copyEnd (s : State) (v used : Nat) : State :=
  if v = 0 then ({ s with gal := { s.gal with used := used } }).cmdDone galCmdReg
  else (s.cmdDone (vfBase v + 4)).vfEvent v 5

/-- The DMA of a function stops: its COPY ends with nothing used (R398). -/
def State.copyStop (s : State) (v : Nat) : State :=
  if s.gal.copies.any (fun c => decide (c.1 = v)) then
    ({ s with gal := { s.gal with copies := s.gal.copies.filter (fun c => decide (c.1 ≠ v)) } }).copyEnd v 0
  else s

/-- The end of a COPY: the units are in the function's memory (R376, R418). DEDUCED, log entry 93. -/
def copyDone (v : Nat) (s : State) : State :=
  match s.gal.copies.find? (fun c => decide (c.1 = v)) with
  | none => s
  | some (_, c) =>
    have s := { s with gal := { s.gal with copies := s.gal.copies.filter (fun c => decide (c.1 ≠ v)) } }
    match (if s.present v then s.copyOf c.prog c.entry c.arch else none) with
    | none => s.copyEnd v 0
    | some (d, bs) => (s.emit (.dma v c.addr (padTo d 4096 ++ bs.flatten))).copyEnd v (bs.length + 1)

/-- COPY_DONE (R376). -/
def execCopyDone (dt : Nat) (v : Fin 256) (s : State) : Result := .next (copyDone v.val (s.elapse dt))

/-- A write to GAL_CMD. -/
def galCommand (code rsv arg : Nat) (s : State) : State :=
  if code = 1 then galArm rsv arg s
  else if code = 2 then galDisarm rsv arg s
  else if code = 3 then galTrigger rsv arg s
  else if code = 4 then galRelease rsv arg s
  else if code = 5 then galCopy rsv arg s
  else s.badCode galCmdReg code rsv arg

/-! ### Timed events (R366, R374) -/

/-- PRE_TRIGGER_FILLED: PRE_MS has passed since writing started (R366). DEDUCED, log entry 94. -/
def preTriggerFilled (p : Nat) (s : State) : State :=
  have x := s.prog p
  if x.state = 1 ∧ x.start + planMs (s.plan p) 0x10 ≤ s.time.mono then s.setProg p { x with state := 2 } else s

/-- PRE_TRIGGER_FILLED (R366). -/
def execPreTriggerFilled (dt : Nat) (p : Fin 16) (s : State) : Result :=
  .next (preTriggerFilled p.val (s.elapse dt))

/-- CAPTURE_END: every sample up to the end is visible (R366). Before the end has come it has no
effect. -/
def captureEnd (p : Nat) (s : State) : State :=
  have x := s.prog p
  have b := s.plan p
  have r := x.cur
  if x.state = 3 ∧ r.end_ ≤ s.now then
    have mx := planFlag b 1 && r.extended && decide (r.end_ = r.trig + planMs b 0x18)
    (s.closeRec p (if mx then 2 else 1) 2 r.end_).toHoldoff p
  else s

/-- HOLDOFF_EXPIRY: the hold-off time or count has ended (R366, R375). -/
def holdoffExpiry (p : Nat) (s : State) : State :=
  have x := s.prog p
  have b := s.plan p
  have h := leAt b 0x1C 4
  have done := if planFlag b 4 then decide (h ≤ x.since) else decide (x.closed + h * msUnit ≤ s.time.mono)
  if x.state = 4 ∧ done then (if x.resetWait then s.arming p else s.setProg p { x with state := 2 }) else s

/-- HOLDOFF_EXPIRY (R366). -/
def execHoldoffExpiry (dt : Nat) (p : Fin 16) (s : State) : Result :=
  .next (holdoffExpiry p.val (s.elapse dt))

/-- The bytes of the flash archive: what two image banks of 256 MiB leave of 512 GiB. -/
def archiveBytes : Nat := 512 * 1073741824 - 2 * 268435456

/-- The archive without its oldest records beyond its size. -/
def archTrim (fuel : Nat) (l : List GArch) : List GArch :=
  match fuel with
  | 0 => l
  | fuel + 1 =>
    if (l.map (fun a => 4096 * (a.blocks.length + 1))).sum ≤ archiveBytes then l else archTrim fuel (l.drop 1)

/-- ARCHIVE_DONE: the oldest closed record that waits is in the archive (R374). -/
def archiveDone (s : State) : State :=
  match s.gal.archWait with
  | [] => s
  | (p, e) :: rest =>
    have s := { s with gal := { s.gal with archWait := rest } }
    have x := s.prog p
    have r := x.rec_ e
    if r.state = 2 then
      have r := { r with archived := true }
      have s := s.setProg p (x.setRec e r)
      have a : GArch := { num := s.gal.archNext, dir := recEntry p r, blocks := s.recBlocks p r }
      have l := s.gal.archive ++ [a]
      have s := { s with
          gal := { s.gal with archive := archTrim l.length l, archNext := (s.gal.archNext + 1) % 2 ^ 32 } }
      s.galEvent 5 p r.seq r.primary
    else s

/-- ARCHIVE_DONE (R374). -/
def execArchiveDone (dt : Nat) (s : State) : Result := .next (archiveDone (s.elapse dt))

end Sys2Proof.Machine
end

