-- ==== Sys2Proof/Machine/Isa.lean ====
section
/-!
DEFINITION. The keepers' instruction set: RV32IMFC with Zicsr and the Milcon extension (R266 to R268,
R275, R279). Decoding of one instruction, its sources and destination, and its cost.
-/

namespace Sys2Proof.Machine

open Sys2Proof

/-- A decoded keeper instruction. Register operands are 5-bit numbers, immediates signed. -/
inductive KOp where
  | illegal
  | lui (rd : Nat) (v : Int)
  | auipc (rd : Nat) (v : Int)
  | jal (rd : Nat) (off : Int)
  | jalr (rd rs1 : Nat) (off : Int)
  | branch (c rs1 rs2 : Nat) (off : Int)
  | load (w rd rs1 : Nat) (off : Int)
  | store (w rs1 rs2 : Nat) (off : Int)
  | aluI (op rd rs1 : Nat) (v : Int)
  | alu (op rd rs1 rs2 : Nat)
  | mul (op rd rs1 rs2 : Nat)
  | fence
  | csr (op rd src addr : Nat)
  | flw (rd rs1 : Nat) (off : Int)
  | fsw (rs1 rs2 : Nat) (off : Int)
  | fma (k rm rd rs1 rs2 rs3 : Nat)
  | fop (k rm rd rs1 rs2 : Nat)
  | plane (k rd rs1 rs2 : Nat)
  | vec (k rd rs1 rs2 : Nat)
  | dput (k rs1 rs2 : Nat)
  | kload (toF : Bool) (rd rs1 : Nat) (off : Int)
  | kstore (fromF : Bool) (rs1 rs2 : Nat) (off : Int)
  | evt (rs1 n : Nat)
  | yield
  | budg (rd : Nat)
  | ftime (rd k : Nat)
deriving DecidableEq, Repr

/-- Bits `lo` to `lo + n − 1` of an instruction word. -/
def bits (w lo n : Nat) : Nat := w / 2 ^ lo % 2 ^ n

/-- The I-type immediate. -/
def immI (w : Nat) : Int := ofTwos 12 (bits w 20 12)

/-- The S-type immediate. -/
def immS (w : Nat) : Int := ofTwos 12 (bits w 25 7 * 32 + bits w 7 5)

/-- The B-type immediate. -/
def immB (w : Nat) : Int :=
  ofTwos 13 (bits w 31 1 * 4096 + bits w 7 1 * 2048 + bits w 25 6 * 32 + bits w 8 4 * 2)

/-- The U-type immediate. -/
def immU (w : Nat) : Int := ofTwos 32 (bits w 12 20 * 4096)

/-- The J-type immediate. -/
def immJ (w : Nat) : Int :=
  ofTwos 21 (bits w 31 1 * 1048576 + bits w 12 8 * 4096 + bits w 20 1 * 2048 + bits w 21 10 * 2)

/-- The floating-point operations of opcode 0x53. The operation numbers are the model's own: 0 FADD,
1 FSUB, 2 FMUL, 3 FDIV, 4 FSQRT, 5 to 7 FSGNJ, 8 FMIN, 9 FMAX, 10 FCVT.W, 11 FCVT.WU, 12 FMV.X.W,
13 FCLASS, 14 FLE, 15 FLT, 16 FEQ, 17 FCVT.S.W, 18 FCVT.S.WU, 19 FMV.W.X. -/
def decodeFop (w : Nat) : KOp :=
  have rd := bits w 7 5
  have f3 := bits w 12 3
  have a := bits w 15 5
  have b := bits w 20 5
  match bits w 25 7 with
  | 0x00 => .fop 0 f3 rd a b
  | 0x04 => .fop 1 f3 rd a b
  | 0x08 => .fop 2 f3 rd a b
  | 0x0C => .fop 3 f3 rd a b
  | 0x2C => if b = 0 then .fop 4 f3 rd a 0 else .illegal
  | 0x10 => if f3 < 3 then .fop (5 + f3) 0 rd a b else .illegal
  | 0x14 => if f3 < 2 then .fop (8 + f3) 0 rd a b else .illegal
  | 0x60 => if b < 2 then .fop (10 + b) f3 rd a 0 else .illegal
  | 0x70 => if b = 0 ∧ f3 < 2 then .fop (12 + f3) 0 rd a 0 else .illegal
  | 0x50 => if f3 < 3 then .fop (14 + f3) 0 rd a b else .illegal
  | 0x68 => if b < 2 then .fop (17 + b) f3 rd a 0 else .illegal
  | 0x78 => if b = 0 ∧ f3 = 0 then .fop 19 0 rd a 0 else .illegal
  | _ => .illegal

/-- The Milcon instructions (R275). -/
def decodeMilcon (w : Nat) : KOp :=
  have rd := bits w 7 5
  have f3 := bits w 12 3
  have a := bits w 15 5
  have b := bits w 20 5
  have f7 := bits w 25 7
  match bits w 0 7 with
  | 0x0B => if f7 = 0 then .plane f3 rd a b else .illegal
  | 0x2B => if f7 = 0 ∧ f3 < 4 then .vec f3 rd a b else .illegal
  | 0x5B =>
    match f3 with
    | 0 => if f7 = 0 ∧ rd = 0 ∧ b = 0 then .dput 0 a 0 else .illegal
    | 1 => if f7 = 0 ∧ rd = 0 ∧ b = 0 then .dput 1 a 0 else .illegal
    | 2 => if f7 = 0 ∧ rd = 0 then .dput 2 a b else .illegal
    | 3 => .kload false rd a (immI w)
    | 4 => .kstore false a b (immS w)
    | 5 => .kload true rd a (immI w)
    | 6 => .kstore true a b (immS w)
    | _ => if rd = 0 ∧ bits w 20 12 < 128 then .evt a (bits w 20 12) else .illegal
  | _ =>
    match f3 with
    | 0 => if w = 0x7B then .yield else .illegal
    | 1 => if f7 = 0 ∧ a = 0 ∧ b = 0 then .budg rd else .illegal
    | 2 => if a = 0 ∧ bits w 20 12 < 4 then .ftime rd (bits w 20 12) else .illegal
    | _ => .illegal

/-- The uncompressed instructions. Branch conditions, load widths, ALU and multiply operations keep the
funct3 of RISC-V; ALU operations 8 and 13 are SUB and SRA. DESIGN CHOICE, log entry 20; DEDUCED, log entry
73. -/
def decode32 (w : Nat) : KOp :=
  have rd := bits w 7 5
  have f3 := bits w 12 3
  have a := bits w 15 5
  have b := bits w 20 5
  have f7 := bits w 25 7
  match bits w 0 7 with
  | 0x37 => .lui rd (immU w)
  | 0x17 => .auipc rd (immU w)
  | 0x6F => .jal rd (immJ w)
  | 0x67 => if f3 = 0 then .jalr rd a (immI w) else .illegal
  | 0x63 => if f3 = 2 ∨ f3 = 3 then .illegal else .branch f3 a b (immB w)
  | 0x03 => if f3 = 3 ∨ f3 > 5 then .illegal else .load f3 rd a (immI w)
  | 0x23 => if f3 < 3 then .store f3 a b (immS w) else .illegal
  | 0x13 =>
    if f3 = 1 then (if f7 = 0 then .aluI 1 rd a b else .illegal)
    else if f3 = 5 then
      (if f7 = 0 then .aluI 5 rd a b else if f7 = 0x20 then .aluI 13 rd a b else .illegal)
    else .aluI f3 rd a (immI w)
  | 0x33 =>
    if f7 = 0 then .alu f3 rd a b
    else if f7 = 1 then .mul f3 rd a b
    else if f7 = 0x20 ∧ (f3 = 0 ∨ f3 = 5) then .alu (8 + f3) rd a b
    else .illegal
  | 0x0F => if f3 = 0 then .fence else .illegal
  | 0x73 => if f3 = 0 ∨ f3 = 4 then .illegal else .csr f3 rd a (bits w 20 12)
  | 0x07 => if f3 = 2 then .flw rd a (immI w) else .illegal
  | 0x27 => if f3 = 2 then .fsw a b (immS w) else .illegal
  | 0x43 => if bits w 25 2 = 0 then .fma 0 f3 rd a b (bits w 27 5) else .illegal
  | 0x47 => if bits w 25 2 = 0 then .fma 1 f3 rd a b (bits w 27 5) else .illegal
  | 0x4B => if bits w 25 2 = 0 then .fma 2 f3 rd a b (bits w 27 5) else .illegal
  | 0x4F => if bits w 25 2 = 0 then .fma 3 f3 rd a b (bits w 27 5) else .illegal
  | 0x53 => decodeFop w
  | 0x0B => decodeMilcon w
  | 0x2B => decodeMilcon w
  | 0x5B => decodeMilcon w
  | 0x7B => decodeMilcon w
  | _ => .illegal

/-- The compressed jump offset. -/
def immCJ (w : Nat) : Int :=
  ofTwos 12 (bits w 12 1 * 2048 + bits w 8 1 * 1024 + bits w 9 2 * 256 + bits w 6 1 * 128 + bits w 7 1 * 64 +
    bits w 2 1 * 32 + bits w 11 1 * 16 + bits w 3 3 * 2)

/-- The compressed branch offset. -/
def immCB (w : Nat) : Int :=
  ofTwos 9 (bits w 12 1 * 256 + bits w 5 2 * 64 + bits w 2 1 * 32 + bits w 10 2 * 8 + bits w 3 2 * 2)

/-- The compressed signed 6-bit immediate. -/
def immCI (w : Nat) : Int := ofTwos 6 (bits w 12 1 * 32 + bits w 2 5)

/-- The offset of the compressed word loads and stores. -/
def immCL (w : Nat) : Int := ((bits w 5 1 * 64 + bits w 10 3 * 8 + bits w 6 1 * 4 : Nat) : Int)

/-- The offset of the compressed stack loads. -/
def immCLSP (w : Nat) : Int := ((bits w 2 2 * 64 + bits w 12 1 * 32 + bits w 4 3 * 4 : Nat) : Int)

/-- The offset of the compressed stack stores. -/
def immCSSP (w : Nat) : Int := ((bits w 7 2 * 64 + bits w 9 4 * 4 : Nat) : Int)

/-- Quadrant 0 of the compressed instructions. DEDUCED, log entry 73. -/
def decodeC0 (w : Nat) : KOp :=
  have rd := 8 + bits w 2 3
  have rs := 8 + bits w 7 3
  match bits w 13 3 with
  | 0 =>
    have v := bits w 7 4 * 64 + bits w 11 2 * 16 + bits w 5 1 * 8 + bits w 6 1 * 4
    if v = 0 then .illegal else .aluI 0 rd 2 v
  | 2 => .load 2 rd rs (immCL w)
  | 3 => .flw rd rs (immCL w)
  | 6 => .store 2 rs rd (immCL w)
  | 7 => .fsw rs rd (immCL w)
  | _ => .illegal

/-- The arithmetic row of quadrant 1. Bit 5 of a shift amount is reserved in RV32. -/
def decodeCAlu (w : Nat) : KOp :=
  have rd := 8 + bits w 7 3
  have rs := 8 + bits w 2 3
  match bits w 10 2 with
  | 0 => if bits w 12 1 = 1 then .illegal else .aluI 5 rd rd (bits w 2 5)
  | 1 => if bits w 12 1 = 1 then .illegal else .aluI 13 rd rd (bits w 2 5)
  | 2 => .aluI 7 rd rd (immCI w)
  | _ =>
    if bits w 12 1 = 1 then .illegal
    else
      match bits w 5 2 with
      | 0 => .alu 8 rd rd rs
      | 1 => .alu 4 rd rd rs
      | 2 => .alu 6 rd rd rs
      | _ => .alu 7 rd rd rs

/-- Quadrant 1 of the compressed instructions. DEDUCED, log entry 73. -/
def decodeC1 (w : Nat) : KOp :=
  have rd := bits w 7 5
  match bits w 13 3 with
  | 0 => .aluI 0 rd rd (immCI w)
  | 1 => .jal 1 (immCJ w)
  | 2 => .aluI 0 rd 0 (immCI w)
  | 3 =>
    if bits w 12 1 = 0 ∧ bits w 2 5 = 0 then .illegal
    else if rd = 2 then
      .aluI 0 2 2 (ofTwos 10 (bits w 12 1 * 512 + bits w 3 2 * 128 + bits w 5 1 * 64 + bits w 2 1 * 32 +
        bits w 6 1 * 16))
    else .lui rd (immCI w * 4096)
  | 4 => decodeCAlu w
  | 5 => .jal 0 (immCJ w)
  | 6 => .branch 0 (8 + bits w 7 3) 0 (immCB w)
  | _ => .branch 1 (8 + bits w 7 3) 0 (immCB w)

/-- Quadrant 2 of the compressed instructions. C.EBREAK is illegal (R266). -/
def decodeC2 (w : Nat) : KOp :=
  have rd := bits w 7 5
  have rs := bits w 2 5
  match bits w 13 3 with
  | 0 => if bits w 12 1 = 1 then .illegal else .aluI 1 rd rd rs
  | 2 => if rd = 0 then .illegal else .load 2 rd 2 (immCLSP w)
  | 3 => .flw rd 2 (immCLSP w)
  | 4 =>
    if bits w 12 1 = 0 then
      (if rs = 0 then (if rd = 0 then .illegal else .jalr 0 rd 0) else .alu 0 rd 0 rs)
    else if rs = 0 then (if rd = 0 then .illegal else .jalr 1 rd 0)
    else .alu 0 rd rd rs
  | 6 => .store 2 2 rs (immCSSP w)
  | 7 => .fsw 2 rs (immCSSP w)
  | _ => .illegal

/-- One instruction from the halfword at its address and the one that follows: its meaning and its
length. -/
def decodeK (lo hi : Nat) : KOp × Nat :=
  match lo % 4 with
  | 0 => (decodeC0 lo, 2)
  | 1 => (decodeC1 lo, 2)
  | 2 => (decodeC2 lo, 2)
  | _ => (decode32 (hi * 65536 + lo), 4)

/-- The CSRs that a run can read (R279). -/
def csrReadable (a : Nat) : Bool :=
  [1, 2, 3, 0xC00, 0xC80, 0xC02, 0xC82, 0xCC0, 0xCC1, 0xCC2, 0xCC3, 0xCC4, 0xCC5, 0xCC6, 0xCC7, 0xCC8,
   0xCC9, 0xCCA].contains a

/-- A CSR instruction writes its CSR: CSRRS, CSRRC and their immediate forms with source 0 do not. -/
def csrWrites (op src : Nat) : Bool := decide (op % 4 = 1) || decide (src ≠ 0)

/-- The row of the opcode table, by its place, to which an instruction belongs: 64 to 86 the Milcon
instructions in the order of R275, 87 a read of a permitted CSR, 88 every other instruction. -/
def kRow (o : KOp) : Nat :=
  match o with
  | .plane k _ _ _ => 64 + k
  | .vec k _ _ _ => 72 + k
  | .dput k _ _ => 76 + k
  | .kload false _ _ _ => 79
  | .kstore false _ _ _ => 80
  | .kload true _ _ _ => 81
  | .kstore true _ _ _ => 82
  | .evt _ _ => 83
  | .yield => 84
  | .budg _ => 85
  | .ftime _ _ => 86
  | .csr op _ src a => if csrReadable a && !csrWrites op src then 87 else 88
  | _ => 88

/-- The plane loads that write an f register: KGV, KIV, KPHR and KPHI. -/
def planeToF (k : Nat) : Bool := [0, 2, 4, 5].contains k

/-- The registers that an instruction reads: 0 to 31 x, 32 to 63 f. -/
def kSrcs (o : KOp) : List Nat :=
  match o with
  | .jalr _ a _ => [a]
  | .branch _ a b _ => [a, b]
  | .load _ _ a _ => [a]
  | .store _ a b _ => [a, b]
  | .aluI _ _ a _ => [a]
  | .alu _ _ a b => [a, b]
  | .mul _ _ a b => [a, b]
  | .csr op _ src _ => if op < 4 then [src] else []
  | .flw _ a _ => [a]
  | .fsw a b _ => [a, 32 + b]
  | .fma _ _ _ a b c => [32 + a, 32 + b, 32 + c]
  | .fop k _ _ a b =>
    if k ≥ 17 then [a]
    else if k = 4 ∨ (10 ≤ k ∧ k ≤ 13) then [32 + a]
    else [32 + a, 32 + b]
  | .plane _ _ a b => [a, b]
  | .vec _ _ a b => [a, b]
  | .dput k a b => if k = 2 then [a, b] else [a]
  | .kload _ _ a _ => [a]
  | .kstore fromF a b _ => [a, if fromF then 32 + b else b]
  | .evt a _ => [a]
  | _ => []

/-- The register that an instruction writes, 0 for none: 0 to 31 x, 32 to 63 f. -/
def kDst (o : KOp) : Nat :=
  match o with
  | .lui rd _ => rd
  | .auipc rd _ => rd
  | .jal rd _ => rd
  | .jalr rd _ _ => rd
  | .load _ rd _ _ => rd
  | .aluI _ rd _ _ => rd
  | .alu _ rd _ _ => rd
  | .mul _ rd _ _ => rd
  | .csr _ rd _ _ => rd
  | .flw rd _ _ => 32 + rd
  | .fma _ _ rd _ _ _ => 32 + rd
  | .fop k _ rd _ _ => if 10 ≤ k ∧ k ≤ 16 then rd else 32 + rd
  | .plane k rd _ _ => if planeToF k then 32 + rd else rd
  | .vec _ rd _ _ => rd
  | .kload toF rd _ _ => if toF then 32 + rd else rd
  | .budg rd => rd
  | .ftime rd _ => rd
  | _ => 0

/-- Issue cycles and latency of an instruction (R268, R275). `taken` is a taken branch, `copied` a state
store that copies its line. -/
def kCost (o : KOp) (taken copied : Bool) : Nat × Nat :=
  match o with
  | .jal _ _ => (2, 1)
  | .jalr _ _ _ => (2, 1)
  | .branch _ _ _ _ => (if taken then 2 else 1, 1)
  | .load _ _ _ _ => (1, 2)
  | .flw _ _ _ => (1, 2)
  | .mul op _ _ _ => if op < 4 then (1, 3) else (34, 34)
  | .fma _ _ _ _ _ _ => (1, 4)
  | .fop k _ _ _ _ =>
    if k = 3 then (16, 16)
    else if k = 4 then (20, 20)
    else if (12 ≤ k ∧ k ≤ 16) ∨ k = 19 then (1, 2)
    else (1, 4)
  | .plane _ _ _ _ => (1, 6)
  | .vec _ _ _ _ => (1, 4)
  | .kload _ _ _ _ => (1, 2)
  | .kstore _ _ _ _ => (if copied then 2 else 1, 1)
  | _ => (1, 1)

/-- An integer operation of two words. -/
def kAlu (op : Nat) (a b : Word) : Word :=
  match op with
  | 0 => a + b
  | 1 => a <<< (b.toNat % 32)
  | 2 => if a.toInt < b.toInt then 1 else 0
  | 3 => if a.toNat < b.toNat then 1 else 0
  | 4 => a ^^^ b
  | 5 => a >>> (b.toNat % 32)
  | 6 => a ||| b
  | 7 => a &&& b
  | 8 => a - b
  | _ => a.sshiftRight (b.toNat % 32)

/-- A multiply or divide operation. Division by 0 and overflow give the results of RISC-V. -/
def kMul (op : Nat) (a b : Word) : Word :=
  match op with
  | 0 => a * b
  | 1 => BitVec.ofInt 32 (a.toInt * b.toInt / 4294967296)
  | 2 => BitVec.ofInt 32 (a.toInt * (b.toNat : Int) / 4294967296)
  | 3 => BitVec.ofNat 32 (a.toNat * b.toNat / 4294967296)
  | 4 => if b = 0 then 0xFFFFFFFF#32 else BitVec.ofInt 32 (a.toInt.tdiv b.toInt)
  | 5 => if b = 0 then 0xFFFFFFFF#32 else BitVec.ofNat 32 (a.toNat / b.toNat)
  | 6 => if b = 0 then a else BitVec.ofInt 32 (a.toInt.tmod b.toInt)
  | _ => if b = 0 then a else BitVec.ofNat 32 (a.toNat % b.toNat)

/-- A branch condition. -/
def kTaken (c : Nat) (a b : Word) : Bool :=
  match c with
  | 0 => decide (a = b)
  | 1 => decide (a ≠ b)
  | 4 => decide (a.toInt < b.toInt)
  | 5 => decide (b.toInt ≤ a.toInt)
  | 6 => decide (a.toNat < b.toNat)
  | _ => decide (b.toNat ≤ a.toNat)

/-- The rounding mode of an instruction, none where it is illegal (R267). -/
def kRm (rm fcsr : Nat) : Option Rm :=
  match (if rm = 7 then fcsr / 32 % 8 else rm) with
  | 0 => some .rne
  | 1 => some .rtz
  | 2 => some .rdn
  | 3 => some .rup
  | 4 => some .rmm
  | _ => none

/-- Conversion to an integer between bounds, with flags. -/
def kToInt (rm : Rm) (lo hi : Int) (a : Nat) : Int × FFlags :=
  match kf32.unpack a with
  | .nan _ => (hi, 16)
  | .inf neg => (if neg then lo else hi, 16)
  | .fin neg m e =>
    let (q, ix) := quantise rm neg m 1 e 0
    have v := signed neg q
    if v < lo then (lo, 16) else if hi < v then (hi, 16) else (v, if ix then 1 else 0)

/-- FCLASS.S. -/
def kClass (a : Nat) : Nat :=
  have neg := decide (a / 2 ^ 31 = 1)
  match kf32.unpack a with
  | .nan true => 256
  | .nan false => 512
  | .inf n => if n then 1 else 128
  | .fin _ m _ =>
    if m = 0 then (if neg then 8 else 16)
    else if m < 2 ^ 23 then (if neg then 4 else 32)
    else if neg then 2 else 64

/-- FMIN.S and FMAX.S: −0.0 lies below +0.0, and a NaN gives way to a number. -/
def kMinMax (mx : Bool) (a b : Nat) : Nat × FFlags :=
  have nv := snan2 (kf32.unpack a) (kf32.unpack b)
  if kf32.isNan a then (if kf32.isNan b then kf32.nan else b, nv)
  else if kf32.isNan b then (a, nv)
  else
    have less := kf32.lt a b || (kf32.eq a b && decide (a / 2 ^ 31 = 1))
    (if less != mx then a else b, nv)

/-- A comparison: 0 FLE, 1 FLT, 2 FEQ. -/
def kCmp (k a b : Nat) : Nat × FFlags :=
  have nan := kf32.isNan a || kf32.isNan b
  if k = 2 then (b2n (kf32.eq a b), snan2 (kf32.unpack a) (kf32.unpack b))
  else (b2n (!nan && (if k = 1 then kf32.lt a b else kf32.le a b)), if nan then 16 else 0)

/-- An operation of opcode 0x53: its result and flags. `a` and `b` are the bits of its sources. -/
def kFop (k : Nat) (rm : Rm) (a b : Nat) : Nat × FFlags :=
  have sa := a / 2 ^ 31 * 2 ^ 31
  have sb := b / 2 ^ 31 * 2 ^ 31
  have m := a % 2 ^ 31
  match k with
  | 0 => kf32.add rm a b
  | 1 => kf32.sub rm a b
  | 2 => kf32.mul rm a b
  | 3 => kf32.div rm a b
  | 4 => kf32.sqrt rm a
  | 5 => (sb + m, 0)
  | 6 => (2 ^ 31 - sb + m, 0)
  | 7 => ((if sa = sb then 0 else 2 ^ 31) + m, 0)
  | 8 => kMinMax false a b
  | 9 => kMinMax true a b
  | 10 => let (v, f) := kToInt rm (-2147483648) 2147483647 a; (toTwos 32 v, f)
  | 11 => let (v, f) := kToInt rm 0 4294967295 a; (toTwos 32 v, f)
  | 12 => (a, 0)
  | 13 => (kClass a, 0)
  | 14 => kCmp 0 a b
  | 15 => kCmp 1 a b
  | 16 => kCmp 2 a b
  | 17 => kf32.roundInt rm (ofTwos 32 a) 0 false
  | 18 => kf32.roundInt rm a 0 false
  | _ => (a, 0)

/-- The fused operations: 0 FMADD, 1 FMSUB, 2 FNMSUB, 3 FNMADD. -/
def kFma (k : Nat) (rm : Rm) (a b c : Nat) : Nat × FFlags :=
  have x := kf32.unpack a
  have x := if k ≥ 2 then x.neg else x
  have z := kf32.unpack c
  have z := if k = 1 ∨ k = 3 then z.neg else z
  kf32.fma rm x (kf32.unpack b) z

end Sys2Proof.Machine
end

