-- ==== Sys2Proof/Machine/Kpr.lean ====
section
/-!
DEFINITION. Functions, placements and keepers: the program object, relocation, dispatch and the
instruction rows (R239 to R283).
-/

namespace Sys2Proof.Machine

open Sys2Proof

/-! ### Functions and their programs (R245, R246, R280) -/

/-- A function, or the guest 512 + 16 v + g. -/
def State.fn (s : State) (id : Nat) : KFunc := tget s.kpr.funcs id {}

/-- A function with a new value. -/
def State.setFn (s : State) (id : Nat) (x : KFunc) : State :=
  { s with kpr := { s.kpr with funcs := tset s.kpr.funcs id x {} } }

/-- A keeper. -/
def State.keeper (s : State) (k : Nat) : Keeper := tget s.kpr.keepers k {}

/-- A keeper with a new value. -/
def State.setKeeper (s : State) (k : Nat) (x : Keeper) : State :=
  { s with kpr := { s.kpr with keepers := tset s.kpr.keepers k x {} } }

/-- An index names a guest. -/
def isGuest (id : Nat) : Bool := decide (512 ≤ id)

/-- The virtual function of a guest. -/
def guestVf (id : Nat) : Nat := (id - 512) / 16

/-- A field of a function's FUNCTION header (R280). -/
def State.fnField (s : State) (f o n : Nat) : Nat := leAt (s.cfg 8 f) o n

/-- The program object of a function or guest. -/
def State.fnObj (s : State) (id : Nat) : List Byte :=
  if isGuest id then (s.fn id).obj else slice (s.cfg 8 id) (s.fnField id 0x18 4) (s.fnField id 0x1C 4)

/-- BUDGET of a function or guest. -/
def State.fnBudget (s : State) (id : Nat) : Nat :=
  if isGuest id then (s.fn id).budget else s.fnField id 0x04 4

/-- EVENT_MASK of a function or guest. -/
def State.fnMask (s : State) (id : Nat) : Nat :=
  if isGuest id then (s.fn id).mask else s.fnField id 0x28 16

/-- SET_LEN of a function, 0 where no region is bound and for a guest (R272, R415). -/
def State.fnSetLen (s : State) (id : Nat) : Nat :=
  if isGuest id ∨ s.fnField id 0x08 1 = 0xFF then 0 else s.fnField id 0x10 4

/-- CODE_SIZE of a program object. -/
def objCode (o : List Byte) : Nat := leAt o 0x08 4

/-- CONST_SIZE of a program object. -/
def objCons (o : List Byte) : Nat := leAt o 0x0C 4

/-- STATE_SIZE of a program object. -/
def objState (o : List Byte) : Nat := leAt o 0x14 4

/-- The next multiple of `a` at or above `n`. -/
def alignUp (n a : Nat) : Nat := (n + a - 1) / a * a

/-- The initial state block of a function (R280). -/
def State.initState (s : State) (f : Nat) : List Byte :=
  slice (s.cfg 8 f) (s.fnField f 0x20 4) (objState (s.fnObj f))

/-- The program base of a placement: free within the instruction SRAM (R269, R274, DESIGN CHOICE, log entry
18). -/
def progBase (k id size : Nat) : Nat :=
  0x40 + 64 * (Config.keeperProg k id % ((0x1FFC0 - alignUp size 64) / 64 + 1))

/-- The base of a constant area (R269, R274). DESIGN CHOICE, log entry 18. -/
def consBase (k id size : Nat) : Nat :=
  0x10000000 + 32 * (Config.keeperCons k id % ((0x28000 - alignUp size 32) / 32 + 1))

/-- The base of a settings copy, 0 where there is none (R272, R274). DESIGN CHOICE, log entry 18. -/
def setBase (k id size : Nat) : Nat :=
  if size = 0 then 0
  else 0x10028000 + 32 * (Config.keeperSet k id % ((0x14000 - alignUp size 32) / 32 + 1))

/-- The instruction word of `lui` with a new upper immediate. -/
def patchU (w hi : Nat) : Nat := w % 4096 + hi % 2 ^ 20 * 4096

/-- An I-type word with a new immediate. -/
def patchI (w lo : Nat) : Nat := w % 2 ^ 20 + lo % 4096 * 2 ^ 20

/-- An S-type word with a new immediate. -/
def patchS (w lo : Nat) : Nat :=
  bits w 12 13 * 4096 + bits w 0 7 + lo % 32 * 128 + lo / 32 % 128 * 2 ^ 25

/-- One relocation in its area (R281). -/
def relocate (area : List Byte) (off kind base : Nat) : List Byte :=
  have w := leAt area off 4
  if kind = 1 then overlay area off (leBytes ((w + base) % 2 ^ 32) 4)
  else
    have w2 := leAt area (off + 4) 4
    have imm : Int := if kind = 2 then immI w2 else immS w2
    have v := toTwos 32 (immU w + imm + (base : Int))
    have hi := (v + 0x800) / 4096
    have lo := toTwos 12 ((v : Int) - ((hi * 4096 : Nat) : Int))
    overlay area off (leBytes (patchU w hi) 4 ++
      leBytes (if kind = 2 then patchI w2 lo else patchS w2 lo) 4)

/-- The code and constants of a program object, relocated to its bases (R281). -/
def relocated (o : List Byte) (prog cons sett : Nat) : List Byte × List Byte :=
  have c0 := slice o 64 (objCode o)
  have k0 := 64 + alignUp (objCode o) 4
  have r0 := k0 + objCons o
  (List.range (leAt o 0x20 4)).foldl (fun (a : List Byte × List Byte) i =>
    have e := leAt o (r0 + 8 * i) 4
    have base := match byteAt o (r0 + 8 * i + 4) with
      | 0 => prog
      | 1 => cons
      | _ => sett
    have kind := byteAt o (r0 + 8 * i + 5)
    if e < 2 ^ 31 then (relocate a.1 (e % 2 ^ 24) kind base, a.2)
    else (a.1, relocate a.2 (e % 2 ^ 24) kind base)) (c0, slice o k0 (objCons o))

/-! ### Placements and loads (R247, R260, R270) -/

/-- Every function that the image has. -/
def State.fnIds (s : State) : List Nat :=
  (s.kpr.funcs.map (fun (e : Nat × KFunc) => e.1)).filter (fun i => decide (i < 512))

/-- The functions that hold a placement on a keeper, in ORDER. -/
def State.placedOn (s : State) (k : Nat) : List Nat :=
  have l := s.fnIds.filter (fun f =>
    have x := s.fn f
    decide (x.keeper = k) && !x.unplaced && decide (x.reserve ≠ 0))
  l.foldl (fun acc f =>
    acc.filter (fun g => decide ((s.fn g).order ≤ (s.fn f).order)) ++ [f] ++
      acc.filter (fun g => decide ((s.fn f).order < (s.fn g).order))) []

/-- EXEC_WINDOW of the running SCHEDULE (R245). -/
def State.execWindow (s : State) : Nat :=
  have b := s.cfg 7 0
  if b.isEmpty then 48 else byteAt b 2

/-- The window in keeper cycles (R239). -/
def State.windowCycles (s : State) : Nat := 1200000000 * s.execWindow / (s.frameRate * 64)

/-- GUEST_CYCLES of a keeper. -/
def State.guestCycles (s : State) (k : Nat) : Nat := leAt (s.cfg 7 0) (0x20 + 16 * k + 4) 4

/-- FALLBACK of a keeper. 0xFF where there is none. -/
def State.fallback (s : State) (k : Nat) : Nat :=
  have b := s.cfg 7 0
  if b.isEmpty then 0xFF else byteAt b (0x20 + 16 * k)

/-- The load of functions in the frames with number r mod 8 (R247). -/
def State.loadOf (s : State) (fs : List Nat) (r : Nat) : Nat :=
  fs.foldl (fun n f => if r % (s.fn f).divisor = (s.fn f).phase then n + (s.fn f).reserve + 64 else n) 0

/-- The first rule of R247 with some functions on a keeper. -/
def State.loadFits (s : State) (k : Nat) (fs : List Nat) : Bool :=
  (List.range 8).all (fun r => decide (s.loadOf fs r + s.guestCycles k + 1000 ≤ s.windowCycles))

/-- KPR_KEEPER_FREE (R264). It reads 0 where no image is loaded. -/
def State.keeperFree (s : State) (k : Nat) : Nat :=
  if s.img.run.isNone then 0
  else
    (List.range 8).foldl (fun m r =>
      min m (s.windowCycles - s.loadOf (s.placedOn k) r - s.guestCycles k - 1000)) s.windowCycles

/-- Instruction SRAM of a placement (R270). -/
def State.imemOf (s : State) (id : Nat) : Nat := alignUp (objCode (s.fnObj id)) 64

/-- Data SRAM of a placement (R270). -/
def State.dmemOf (s : State) (id : Nat) : Nat :=
  have o := s.fnObj id
  2 * objState o + alignUp (objCons o) 32 + alignUp (s.fnSetLen id) 32

/-- The placements fit a keeper's memories and number at most 48 (R247, R270). -/
def State.roomFits (s : State) (k : Nat) (fs : List Nat) : Bool :=
  decide (64 + leAt (s.cfg 7 0) (0x20 + 16 * k + 8) 4 + (fs.map s.imemOf).sum ≤ 131072) &&
    decide ((fs.map s.dmemOf).sum ≤ 245760) && decide (fs.length ≤ 48)

/-- KPR_KEEPER_STATUS.STATE (R264). -/
def State.keeperState (s : State) (k : Nat) : Nat :=
  have x := s.keeper k
  if x.cond ≠ 0 then x.cond
  else if x.run.isSome || !x.due.isEmpty then 1
  else if x.spare && (s.placedOn k).isEmpty then 2
  else 0

/-- Functions in FAULTED (R264). -/
def State.faultedFuncs (s : State) : Nat := (s.fnIds.filter (fun f => decide ((s.fn f).state = 3))).length

/-- The next ORDER on a keeper: after its last placement (R258, R260). -/
def State.nextOrder (s : State) (k : Nat) : Nat :=
  (s.placedOn k).foldl (fun m f => max m ((s.fn f).order + 1)) 0

/-- The owner entry of a decision (R245). -/
def State.ownerEntry (s : State) (d : Nat) : Nat :=
  have b := s.cfg 7 0
  if b.isEmpty then 0x3FF else leAt b (0x2120 + 2 * d) 2

/-- The owner of a decision, 0x3FF for none. -/
def State.owner (s : State) (d : Nat) : Nat := s.ownerEntry d % 1024

/-- The settings region of a function in the working copy (R272). -/
def State.fnSettings (s : State) (f : Nat) : List Byte :=
  if s.fnSetLen f = 0 then []
  else padTo (slice (tget s.img.areas (s.fnField f 0x08 1) []) (s.fnField f 0x0C 4) (s.fnSetLen f)) (s.fnSetLen f)

/-! ### Dispatch (R248, R271) -/

/-- A run starts: 64 cycles of dispatch, then the register state of R271. -/
def State.dispatch (s : State) (k id : Nat) : State :=
  have o := s.fnObj id
  have n := s.fnSetLen id
  have pb := progBase k id (objCode o)
  have cb := consBase k id (objCons o)
  have sb := setBase k id n
  let (code, cons) := relocated o pb cb sb
  have xs : List (Nat × Word) :=
    [(2, 0x10040000#32), (3, BitVec.ofNat 32 cb), (10, BitVec.ofNat 32 sb), (11, BitVec.ofNat 32 n),
     (12, BitVec.ofNat 32 (if isGuest id then 0x1FF else id)),
     (13, BitVec.ofNat 32 (s.kpr.tick % 2 ^ 32))]
  have x := s.keeper k
  have s := s.setKeeper k { x with
      run := some id, awake := true, used := x.used + 64, pc := pb + leAt o 0x10 4, fcsr := 0, cycle := 0,
      instret := 0, ready := [], x := xs.foldl (fun t e => tset t e.1 e.2 0) [], f := [], code := code,
      cons := cons, scratch := [], written := 0, writes := [], events := [], notOwned := false }
  have s := (s.prfKeeper k 7 1).prfKeeper k 0 64
  if isGuest id then s.prfKeeper k 9 64 else s

/-- A function is due in a frame (R243). A placeholder, a displaced or a FAULTED function is not. -/
def State.fnDue (s : State) (frame id : Nat) : Bool :=
  have x := s.fn id
  decide (x.state = 1) && decide (frame % x.divisor = x.phase) && x.placeAt.isNone

/-- The due runs of a keeper in a frame: the protection placements in ORDER, then its guests (R241, R415).
DESIGN CHOICE, log entry 72. -/
def State.dueRuns (s : State) (k frame : Nat) : List Nat :=
  (s.placedOn k).filter (s.fnDue frame) ++
    (s.kpr.funcs.map (fun (e : Nat × KFunc) => e.1)).filter
      (fun id => isGuest id && decide ((s.fn id).keeper = k) && s.fnDue frame id)

/-- The keeper goes on to its next due run, or gates its clock (R241). -/
def State.nextRun (s : State) (k : Nat) : State :=
  have x := s.keeper k
  match x.due with
  | [] => s.setKeeper k { x with run := none, awake := false }
  | id :: rest => (s.setKeeper k { x with due := rest }).dispatch k id

/-! ### The end of a run (R249 to R253, R273, R415, R416) -/

/-- The cycles of a run's end are noted (R264). -/
def State.runCycles (s : State) (k id cycles : Nat) : State :=
  have x := s.keeper k
  have s := s.setKeeper k { x with used := x.used + cycles }
  have s := s.setFn id { s.fn id with cycles := cycles }
  if isGuest id then s
  else
    have a := 0x601008 + 0x10 * id
    s.wr a (BitVec.ofNat 32 (max (s.rd a).toNat cycles))

/-- A run did not complete: the overrun counts (R252), or the guest's (R416). -/
def State.overrunCount (s : State) (k id : Nat) : State :=
  have x := s.fn id
  have n := min 3 (x.consec + 1)
  have s := s.prfKeeper k 8 1
  if isGuest id then
    have v := guestVf id
    have s := (s.setFn id { x with consec := n }).fnCount v 11 1
    if x.consec < 3 ∧ n = 3 ∧ x.state = 1 then
      ((s.setFn id { s.fn id with state := 2 }).vfEvent v 1).hstRec 4 v
    else s
  else
    have s := (s.setFn id { x with consec := n }).count (0x60100C + 0x10 * id)
    have s := s.raiseOnce 448 0
    s.oncePer 0x14 id (fun s => s.logPut 0x0014 0x09 id id k s.kpr.tick)

/-- A run ends as an overrun at a cycle: its writes, events and state changes are dropped, and the keeper
goes on (R249, R250, R273). -/
def State.runOver (s : State) (k id cycles : Nat) : State :=
  ((s.runCycles k id cycles).overrunCount k id).nextRun k

/-- A trap ends the run (R273). The record is written once per function and second. -/
def State.runTrap (s : State) (k id cause pc cycles : Nat) : State :=
  have off := (pc + 2 ^ 32 - progBase k id (objCode (s.fnObj id))) % 2 ^ 32
  have s := s.oncePer 0x13 id
    (fun s => s.logPut 0x0013 0x09 (if isGuest id then 0x1FF else id) (if isGuest id then 0x1FF else id) cause off)
  s.runOver k id cycles

/-- The frame yield retires with budget left: the run completes and its results wait in the merge
(R249, R251). -/
def State.runComplete (s : State) (k id cycles : Nat) : State :=
  have x := s.keeper k
  have m : Merge := {
                     id := id, keeper := k, epoch := (s.fn id).epoch, frame := s.kpr.tick, writes := x.writes,
                     events := x.events, notOwned := x.notOwned, written := x.written, released := false,
                     late := false }
  have s := s.runCycles k id cycles
  ({ s with kpr := { s.kpr with merge := s.kpr.merge ++ [m] } }).nextRun k

/-! ### Plane loads of a run (R224, R225, R276, R415) -/

/-- A guest may load a channel (R415). -/
def State.runSees (s : State) (id c : Nat) : Bool :=
  !isGuest id || (s.func (guestVf id)).ranges.any (fun (e : Nat × Nat) =>
    decide (e.1 ≤ c) && decide (c < e.1 + e.2))

/-- A load outside what is readable counts, and raises AGE_ERR once per second (R225, R237). -/
def State.ageErr (s : State) : State :=
  (s.count 0x500028).oncePer 26 0 (·.setEvent 26)

/-- A plane load: its value, or none where it is not readable. `k` is the funct3 of R275. -/
def State.planeLoad (s : State) (id k c a : Nat) : Option Nat :=
  have x := s.chan c
  if c ≥ 16384 ∨ x.inUse = false ∨ s.runSees id c = false then none
  else
    have g := x.headG + 2 ^ 32 - a % 2 ^ 32
    have j := x.headI + 2 ^ 32 - a % 2 ^ 32
    match k with
    | 0 => if a ≤ 191 then some (s.plnNum (gridValAddr c g) 4) else none
    | 1 => if a ≤ 191 then some (s.plnNum (gridMarkAddr c g) 2) else none
    | 2 => if a < x.inputAges then some (s.plnNum (inValAddr c j) 4) else none
    | 3 => if a < x.inputAges then some (s.plnNum (inMarkAddr c j) 2) else none
    | 4 => if a ≤ 7 then some (s.plnNum (phasorAddr c g) 4) else none
    | 5 => if a ≤ 7 then some (s.plnNum (phasorAddr c g + 4) 4) else none
    | 6 => if a ≤ 7 then some (s.plnNum (phasorMarkAddr c g) 2) else none
    | _ => if a ≤ 191 then some (s.plnNum (gridInstAddr x.table g) 4) else none

/-- What an unreadable plane load gives: 0.0, mark 0x0005, or TS32 0 (R225, R276). -/
def planeMiss (k : Nat) : Nat := if k = 1 ∨ k = 3 ∨ k = 6 then 5 else 0

/-- A vector load: its value, or none where it is not readable (R276). -/
def State.vecLoad (s : State) (k b a : Nat) : Option Nat :=
  have h := (s.kpr.tick + 2 ^ 32 - a) % 64
  if k = 3 then
    have h := (s.kpr.tick + 2 ^ 32 - 1 - a) % 64
    if b ≥ 4096 ∨ a > 62 then none
    else
      some (s.plnNum (0x3220000 + h * 512 + b / 8) 1 / 2 ^ (b % 8) % 2 +
        2 * (s.plnNum (0x3228000 + h * 512 + b / 8) 1 / 2 ^ (b % 8) % 2))
  else if b ≥ 16384 ∨ a > 63 then none
  else
    match k with
    | 0 =>
      some (s.plnNum (0x31C0000 + h * 2048 + b / 8) 1 / 2 ^ (b % 8) % 2 +
        2 * (s.plnNum (0x31E0000 + h * 4096 + b / 4) 1 / 4 ^ (b % 4) % 4))
    | 1 => some (s.plnNum (0x31C0000 + h * 2048 + b / 32 * 4) 4)
    | _ => some (s.plnNum (0x31E0000 + h * 4096 + b / 16 * 4) 4)

/-- What an unreadable vector load gives (R276). -/
def vecMiss (k : Nat) : Nat :=
  match k with
  | 0 => 2
  | 2 => 0x55555555
  | _ => 0

/-- KFTIME (R231, R276). -/
def State.frameTime (s : State) (k : Nat) : Nat :=
  have a := 0x3230000 + s.kpr.tick % 64 * 16
  match k with
  | 0 => s.plnNum (a + 4) 4
  | 1 => s.plnNum (a + 8) 4
  | 2 => s.plnNum a 4
  | _ => s.kpr.tick % s.frameRate

/-! ### Memory of a run (R269, R273) -/

/-- A region of a run's data memory at an address, from which bytes are read. -/
def State.dataByte (s : State) (k id a : Nat) : Option Nat :=
  have x := s.keeper k
  have o := s.fnObj id
  have cb := consBase k id (objCons o)
  have sb := setBase k id (s.fnSetLen id)
  if cb ≤ a ∧ a < cb + objCons o then some (byteAt x.cons (a - cb))
  else if sb ≤ a ∧ a < sb + s.fnSetLen id then some (byteAt (s.fn id).settings (a - sb))
  else if 0x10040000 - leAt o 0x1C 4 ≤ a ∧ a < 0x10040000 then some (memGet x.scratch a 0).toNat
  else none

/-- A number of `n` bytes in a run's data memory, none where a byte may not be read. DEDUCED, log entry 19.
-/
def State.dataLoad (s : State) (k id a n : Nat) : Option Nat :=
  match n with
  | 0 => some 0
  | n + 1 =>
    match s.dataByte k id a, s.dataLoad k id (a + 1) n with
    | some b, some r => some (b + 256 * r)
    | _, _ => none

/-- Bytes written into the scratch. -/
def scratchPut (m : List Host.Cell) (a : Nat) (bs : List Byte) : List Host.Cell :=
  match bs with
  | [] => m
  | b :: r =>
    scratchPut (m.filter (fun (c : Host.Cell) => decide (c.1 < a)) ++ (if b = 0 then [] else [(a, b)]) ++
      m.filter (fun (c : Host.Cell) => decide (a < c.1))) (a + 1) r

/-- A range lies within the run's stack (R269, R273). -/
def State.mayStore (s : State) (id a n : Nat) : Bool :=
  decide (0x10040000 - leAt (s.fnObj id) 0x1C 4 ≤ a) && decide (a + n ≤ 0x10040000)

/-! ### The state block (R276, R278) -/

/-- The copy that a run uses of a line: the written one where it has written the line, else the selected
one. -/
def KFunc.copyOf (x : KFunc) (written line : Nat) : List Byte :=
  have b := (x.sel / 2 ^ line % 2 = 1) != (written / 2 ^ line % 2 = 1)
  slice (if b then x.copyB else x.copyA) (32 * line) 32

/-- A word of the state block as a run sees it. -/
def KFunc.stateWord (x : KFunc) (written off : Nat) : Nat := leAt (x.copyOf written (off / 32)) (off % 32) 4

/-- A state store: the line's other copy takes the line and then the word. -/
def KFunc.stateStore (x : KFunc) (written off v : Nat) : KFunc :=
  have line := off / 32
  have data := overlay (padTo (x.copyOf written line) 32) (off % 32) (leBytes v 4)
  if x.sel / 2 ^ line % 2 = 1 then { x with copyA := overlay x.copyA (32 * line) data }
  else { x with copyB := overlay x.copyB (32 * line) data }

/-- The select bits of written lines flip (R278). -/
def KFunc.flip (x : KFunc) (written : Nat) : KFunc := { x with sel := x.sel ^^^ written }

/-- A state block in its initial form (R253, R255). -/
def KFunc.initialise (x : KFunc) (init : List Byte) : KFunc :=
  { x with copyA := init, copyB := init, sel := 0, stateBad := false, first := true }

/-! ### One keeper instruction -/

/-- An x register. x0 reads 0. -/
def Keeper.xr (x : Keeper) (r : Nat) : Word := if r = 0 then 0 else tget x.x r 0

/-- An x register takes a value. x0 keeps 0. -/
def Keeper.setX (x : Keeper) (r : Nat) (v : Word) : Keeper :=
  if r = 0 then x else { x with x := tset x.x r v 0 }

/-- An f register. -/
def Keeper.fr (x : Keeper) (r : Nat) : Nat := (tget x.f r 0).toNat

/-- An f register takes a value. -/
def Keeper.setF (x : Keeper) (r v : Nat) : Keeper := { x with f := tset x.f r (BitVec.ofNat 32 v) 0 }

/-- Register `r` of 0 to 63 takes a value. -/
def Keeper.setR (x : Keeper) (r v : Nat) : Keeper :=
  if r < 32 then x.setX r (BitVec.ofNat 32 v) else x.setF (r - 32) v

/-- Accrued exception flags (R267). -/
def Keeper.accrue (x : Keeper) (fl : Nat) : Keeper := { x with fcsr := x.fcsr ||| fl }

/-- An address from a base register and an offset. -/
def Keeper.ea (x : Keeper) (r : Nat) (off : Int) : Nat := (x.xr r + BitVec.ofInt 32 off).toNat

/-- What a fetch gives: a trap cause, or an instruction and its length. -/
inductive Fetched where
  | trap (cause : Nat)
  | inst (op : KOp) (len : Nat)
deriving DecidableEq, Repr

/-- The fetch of a run's next instruction (R269, R273). DESIGN CHOICE, log entry 20. -/
def State.kFetch (s : State) (k id : Nat) : Fetched :=
  have x := s.keeper k
  have n := x.code.length
  have pb := progBase k id n
  if x.pc < 0x40 then
    if x.pc % 4 = 0 then .inst .yield 4 else .trap 2
  else if x.pc < pb ∨ pb + n < x.pc + 2 then .trap 1
  else
    have o := x.pc - pb
    have lo := leAt x.code o 2
    if lo % 4 = 3 ∧ n < o + 4 then .trap 1
    else let (op, len) := decodeK lo (leAt x.code (o + 2) 2); .inst op len

/-- The value of a CSR at a retirement with `left` budget cycles left (R279). DEDUCED, log entry 71. -/
def State.csrRead (s : State) (k id a cycle left : Nat) : Nat :=
  have x := s.keeper k
  have f := s.fn id
  have b := s.cfg 7 0
  match a with
  | 1 => x.fcsr % 32
  | 2 => x.fcsr / 32 % 8
  | 3 => x.fcsr % 256
  | 0xC00 => cycle % 2 ^ 32
  | 0xC80 => cycle / 2 ^ 32
  | 0xC02 => x.instret % 2 ^ 32
  | 0xC82 => x.instret / 2 ^ 32
  | 0xCC0 => (if isGuest id then 0x1FF else id) + k * 2 ^ 16
  | 0xCC1 => f.epoch
  | 0xCC2 => s.kpr.tick % 2 ^ 32
  | 0xCC3 => left
  | 0xCC4 => s.frameTime 0
  | 0xCC5 => f.divisor + f.phase * 16 + byteAt b 2 * 256 + leAt b 0 2 * 2 ^ 16
  | 0xCC6 => objState (s.fnObj id)
  | 0xCC7 => b2n f.first + 2 * b2n f.setNew + 4 * b2n f.reinit
  | 0xCC8 => setBase k id (s.fnSetLen id)
  | 0xCC9 => s.fnSetLen id
  | _ => consBase k id (objCons (s.fnObj id))

/-- A floating-point CSR takes a value. -/
def Keeper.csrWrite (x : Keeper) (a v : Nat) : Keeper :=
  match a with
  | 1 => { x with fcsr := x.fcsr / 32 * 32 + v % 32 }
  | 2 => { x with fcsr := v % 8 * 32 + x.fcsr % 32 }
  | _ => { x with fcsr := v % 256 }

/-- What executing an instruction gives: a trap, or the module after it. -/
inductive Done where
  | trap (cause : Nat)
  | ok (s : State)

/-- A decision write of a run (R251, R277). -/
def State.runDecides (s : State) (k id d : Nat) (v : Bool) : State :=
  have x := s.keeper k
  have s := s.prfKeeper k 5 1
  if d < 4096 ∧ isGuest id = false ∧ s.owner d = id then
    s.setKeeper k { x with
        writes := x.writes.filter (fun (e : Nat × Bool) => decide (e.1 ≠ d)) ++ [(d, v)] }
  else s.setKeeper k { x with notOwned := true }

/-- A software event of a run (R283). -/
def State.runEvent (s : State) (k id n v : Nat) : State :=
  have x := s.keeper k
  if s.fnMask id / 2 ^ n % 2 = 1 then s.setKeeper k { x with events := x.events ++ [(n, v)] }
  else s.setKeeper k { x with notOwned := true }

/-- The keeper after a change of its registers. -/
def State.kReg (s : State) (k r v : Nat) : Done := .ok (s.setKeeper k ((s.keeper k).setR r v))

/-- A data load: alignment before access rights (log entry 19). -/
def State.kLoad (s : State) (k id a n : Nat) (cont : Nat → Done) : Done :=
  if a % n ≠ 0 then .trap 4
  else
    match s.dataLoad k id a n with
    | none => .trap 5
    | some v => cont v

/-- A data store. -/
def State.kStore (s : State) (k id a n v : Nat) : Done :=
  have x := s.keeper k
  if a % n ≠ 0 then .trap 6
  else if s.mayStore id a n then .ok (s.setKeeper k { x with scratch := scratchPut x.scratch a (leBytes v n) })
  else .trap 7

/-- A CSR instruction (R279). -/
def State.kCsr (s : State) (k id op rd src a cycle left : Nat) : Done :=
  have x := s.keeper k
  have wr := csrWrites op src
  if csrReadable a = false ∨ (wr ∧ a > 3) then .trap 2
  else
    have old := s.csrRead k id a cycle left
    have v := if op ≥ 4 then src else (x.xr src).toNat
    have new := match op % 4 with
      | 1 => v
      | 2 => old ||| v
      | _ => old &&& (v ^^^ 0xFFFFFFFF)
    .ok (s.setKeeper k ((if wr then x.csrWrite a new else x).setX rd (BitVec.ofNat 32 old)))

/-- The effect of an instruction on registers, memory and merge. The pc already points past it; `at_` is the
instruction's own address. DEDUCED, log entry 19. -/
def State.kEffect (s : State) (k id : Nat) (op : KOp) (at_ cycle left : Nat) : Done :=
  have x := s.keeper k
  match op with
  | .illegal => .trap 2
  | .lui rd v => s.kReg k rd (toTwos 32 v)
  | .auipc rd v => s.kReg k rd (toTwos 32 ((at_ : Int) + v))
  | .jal rd off =>
    .ok (s.setKeeper k { x.setX rd (BitVec.ofNat 32 x.pc) with pc := toTwos 32 ((at_ : Int) + off) })
  | .jalr rd a off =>
    .ok (s.setKeeper k { x.setX rd (BitVec.ofNat 32 x.pc) with pc := x.ea a off / 2 * 2 })
  | .branch c a b off =>
    if kTaken c (x.xr a) (x.xr b) then
      .ok (s.setKeeper k { x with pc := toTwos 32 ((at_ : Int) + off) })
    else .ok s
  | .load w rd a off =>
    s.kLoad k id (x.ea a off) (2 ^ (w % 4)) fun v =>
      s.kReg k rd (if w = 0 then toTwos 32 (ofTwos 8 v) else if w = 1 then toTwos 32 (ofTwos 16 v) else v)
  | .store w a b off => s.kStore k id (x.ea a off) (2 ^ w) (x.xr b).toNat
  | .aluI o rd a v => s.kReg k rd (kAlu o (x.xr a) (BitVec.ofInt 32 v)).toNat
  | .alu o rd a b => s.kReg k rd (kAlu o (x.xr a) (x.xr b)).toNat
  | .mul o rd a b => s.kReg k rd (kMul o (x.xr a) (x.xr b)).toNat
  | .fence => .ok s
  | .csr o rd src a => s.kCsr k id o rd src a cycle left
  | .flw rd a off => s.kLoad k id (x.ea a off) 4 fun v => s.kReg k (32 + rd) v
  | .fsw a b off => s.kStore k id (x.ea a off) 4 (x.fr b)
  | .fma o rm rd a b c =>
    match kRm rm x.fcsr with
    | none => .trap 2
    | some r =>
      let (v, fl) := kFma o r (x.fr a) (x.fr b) (x.fr c)
      .ok (s.setKeeper k ((x.accrue fl).setF rd v))
  | .fop o rm _ a b =>
    match kRm rm x.fcsr with
    | none => .trap 2
    | some r =>
      let (v, fl) := kFop o r (if o = 17 ∨ o = 18 ∨ o = 19 then (x.xr a).toNat else x.fr a) (x.fr b)
      .ok (s.setKeeper k ((x.accrue fl).setR (kDst op) v))
  | .plane o _ a b =>
    have s1 := s.prfKeeper k 3 1
    match s1.planeLoad id o (x.xr a).toNat (x.xr b).toNat with
    | none => s1.ageErr.kReg k (kDst op) (planeMiss o)
    | some v => s1.kReg k (kDst op) v
  | .vec o _ a b =>
    have s1 := s.prfKeeper k 3 1
    match s1.vecLoad o (x.xr a).toNat (x.xr b).toNat with
    | none => s1.ageErr.kReg k (kDst op) (vecMiss o)
    | some v => s1.kReg k (kDst op) v
  | .dput o a b =>
    .ok (s.runDecides k id (x.xr a).toNat
      (if o = 0 then true else if o = 1 then false else (x.xr b).getLsbD 0))
  | .kload _ _ a off =>
    have e := x.ea a off
    if e % 4 ≠ 0 ∨ objState (s.fnObj id) ≤ e then .trap 5
    else s.kReg k (kDst op) ((s.fn id).stateWord x.written e)
  | .kstore fromF a b off =>
    have e := x.ea a off
    if e % 4 ≠ 0 ∨ objState (s.fnObj id) ≤ e then .trap 7
    else
      have bit := 2 ^ (e / 32)
      have s := if x.written / bit % 2 = 1 then s else s.prfKeeper k 4 1
      have s := s.setFn id ((s.fn id).stateStore x.written e (if fromF then x.fr b else (x.xr b).toNat))
      .ok (s.setKeeper k { x with written := x.written ||| bit })
  | .evt a n => .ok (s.runEvent k id n (x.xr a).toNat)
  | .yield => .ok s
  | .budg rd => s.kReg k rd left
  | .ftime rd o => s.kReg k rd (s.frameTime o)

/-- The cycle at which every source of an instruction is ready (R268). -/
def Keeper.issueAt (x : Keeper) (op : KOp) : Nat :=
  (kSrcs op).foldl (fun m r => max m (tget x.ready r 0)) x.cycle

/-- Issue cycles and latency of an instruction in the present state. A trap costs one cycle (DEDUCED, log
entry 19). DEDUCED, log entry 71. -/
def State.kCostNow (s : State) (k : Nat) (op : KOp) : Nat × Nat :=
  have x := s.keeper k
  have taken := match op with
    | .branch c a b _ => kTaken c (x.xr a) (x.xr b)
    | _ => false
  have copied := match op with
    | .kstore _ a _ off => decide (x.written / 2 ^ (x.ea a off / 32) % 2 = 0)
    | _ => false
  kCost op taken copied

/-- A load counts as outside the readable ages (for tagging, R466). -/
def State.kAgeErr (s : State) (k id : Nat) (op : KOp) : Bool :=
  have x := s.keeper k
  match op with
  | .plane o _ a b => (s.planeLoad id o (x.xr a).toNat (x.xr b).toNat).isNone
  | .vec o _ a b => (s.vecLoad o (x.xr a).toNat (x.xr b).toNat).isNone
  | _ => false

/-- One instruction of a keeper's run, of row `row` of the opcode table. It acts only where the run's next
instruction is one of that row (DESIGN CHOICE, log entry 20). `ecc` says that one of its accesses was
corrected. DESIGN CHOICE, log entry 72. -/
def keeperInst (row k : Nat) (ecc : Bool) (s : State) : State :=
  have x := s.keeper k
  match x.run with
  | none => s
  | some id =>
    match s.kFetch k id with
    | .trap cause => if row = 88 then s.runTrap k id cause x.pc x.cycle else s
    | .inst op len =>
      if kRow op ≠ row then s
      else
        have budget := s.fnBudget id
        have at_ := x.issueAt op
        let (issue, lat) := s.kCostNow k op
        have fin := at_ + issue + (if ecc then 2 else 0)
        have s := if ecc then s.prfKeeper k 6 1 else s
        have s := ((s.prfKeeper k 0 (min fin budget - x.cycle)).prfKeeper k 2 (min at_ budget - x.cycle))
        have s := if isGuest id then s.prfKeeper k 9 (min fin budget - x.cycle) else s
        have tag : TagRec :=
          { pcOff := (x.pc + 2 ^ 32 - progBase k id x.code.length) % 2 ^ 32
            function := if isGuest id then 0x1FF else id
            stall := min 65535 (at_ - x.cycle)
            latency := lat + (if ecc then 2 else 0)
            flags := b2n ecc + 2 * b2n (s.kAgeErr k id op)
            frame := s.kpr.tick % 2 ^ 32 }
        if fin ≥ budget then (s.tagStep k { tag with flags := tag.flags + 4 }).runOver k id budget
        else
          have s1 := s.setKeeper k { x with pc := (x.pc + len) % 2 ^ 32 }
          match s1.kEffect k id op x.pc fin (budget - fin) with
          | .trap cause => (s.tagStep k { tag with flags := tag.flags + 4 }).runTrap k id cause x.pc fin
          | .ok s =>
            have s := (s.tagStep k tag).prfKeeper k 1 1
            match op with
            | .yield => s.runComplete k id fin
            | _ =>
              have y := s.keeper k
              s.setKeeper k { y with
                  cycle := fin, instret := y.instret + 1,
                  ready := if kDst op = 0 then y.ready
                    else tset y.ready (kDst op) (at_ + lat + (if ecc then 2 else 0)) 0 }

end Sys2Proof.Machine
end

