-- ==== Sys2Proof/Machine/KprFrame.lean ====
section
/-!
DEFINITION. Frame execution: the tick and the commit at the keepers, keeper faults, moves and restarts, and
the keeper rows of the table (R239 to R265, R275).
-/

namespace Sys2Proof.Machine

open Sys2Proof

/-- The KPR command register. -/
def kprCmdReg : Nat := 0x600000

/-- A placement changes: KPR_SCHED_EPOCH increases once for the tick (R242, R264). -/
def State.placeChange (s : State) : State :=
  if s.kpr.changed then s
  else
    have s := { s with kpr := { s.kpr with changed := true } }
    s.wr 0x600010 (s.rd 0x600010 + 1)

/-- A function with a placement epoch one higher (R255). -/
def KFunc.nextEpoch (x : KFunc) : KFunc := { x with epoch := (x.epoch + 1) % 65536 }

/-! ### Image load (R255, R271, R279) -/

/-- A placement descriptor's offset in SCHEDULE. -/
def placeOff (i : Nat) : Nat := 0x120 + 16 * i

/-- A function as the image's load leaves it. -/
def State.fnLoad (s : State) (b : List Byte) (i : Nat) : State :=
  have o := placeOff i
  have f := leAt b o 2
  have present := decide ((s.cfg 8 f).length ≠ 0)
  have x : KFunc :=
    { state := b2n present
      policy := byteAt b (o + 5)
      keeper := byteAt b (o + 2)
      order := leAt b (o + 6) 2
      divisor := byteAt b (o + 3)
      phase := byteAt b (o + 4)
      reserve := leAt b (o + 8) 4
      setNew := present
      settings := s.fnSettings f }
  s.setFn f (if present then x.initialise (s.initState f) else x)

/-- Frame execution takes the running image's SCHEDULE: functions, epochs and spare keepers (R245, R255). -/
def State.kprLoad (s : State) : State :=
  have b := s.cfg 7 0
  have s := { s with kpr := { funcs := [], keepers := [] } }
  have s := forN (leAt b 4 2) (fun i s => s.fnLoad b i) s
  forN 16 (fun k s =>
    if byteAt b (0x20 + 16 * k + 1) % 2 = 1 then s.setKeeper k { spare := true } else s) s

/-- The settings copies are refreshed where the working copy has changed (R272, R279). -/
def State.kprSettings (s : State) : State :=
  s.fnIds.foldl (fun s f =>
    have x := s.fn f
    have n := s.fnSettings f
    if x.state = 0 ∨ x.settings = n then s else s.setFn f { x with settings := n, setNew := true }) s

/-! ### The frame tick (R241) -/

/-- The keepers dispatch their first due runs at the tick. -/
def State.kprTick (s : State) (n : Nat) : State :=
  have done := s.kpr.replacedNow
  have s := { s with
      kpr := { s.kpr with tick := n, open_ := true, merge := [], changed := false, replacedNow := [] } }
  have s := forN 16 (fun k s =>
    have x := s.keeper k
    if x.cond ≠ 0 then s
    else (s.setKeeper k { x with used := 0, due := s.dueRuns k (n % 2 ^ 32) }).nextRun k) s
  done.foldl (fun s k => s.raiseRec 451 k) s

/-- KEEPER_WAKE (R27, R241): the keeper leaves clock gating for the frame at whose tick it has work. -/
def keeperWake (k : Nat) (s : State) : State :=
  have n := tickAtOrAfter s.now s.frameRate
  have x := s.keeper k
  if x.cond = 0 ∧ s.kpr.frames ∧ (s.dueRuns k (n % 2 ^ 32)).isEmpty = false then
    s.setKeeper k { x with awake := true }
  else s

/-- KEEPER_WAKE (R27). -/
def execKeeperWake (dt : Nat) (k : Fin 16) (s : State) : Result := .next (keeperWake k.val (s.elapse dt))

/-! ### The result merge (R251, R261, R283) -/

/-- A released result's decisions enter the working vector. -/
def State.mergeWrites (s : State) (ws : List (Nat × Bool)) : State :=
  { s with pln := { s.pln with work := ws.foldl (fun v e => setBit v e.1 e.2) s.pln.work } }

/-- The merge releases a completed run's results, or drops those of an older epoch or of a closed frame. -/
def State.mergeRelease (s : State) (m : Merge) : State :=
  have rest := s.kpr.merge.filter (fun x => decide (x ≠ m))
  have drop := { s with kpr := { s.kpr with merge := rest } }
  have x := s.fn m.id
  if m.late then drop.countBy 0x500024 m.writes.length
  else if isGuest m.id = false ∧ x.epoch ≠ m.epoch then (drop.count 0x60001C).setEvent 453
  else
    have s := { s with kpr := { s.kpr with merge := rest ++ [{ m with released := true }] } }
    (s.setFn m.id { x with consec := 0, notOwned := m.notOwned }).mergeWrites m.writes

/-- RESULT_MERGE_RELEASE: the oldest unreleased result of a keeper. -/
def mergeStep (k : Nat) (s : State) : State :=
  match s.kpr.merge.find? (fun m => decide (m.keeper = k) && !m.released) with
  | none => s
  | some m => s.mergeRelease m

/-- RESULT_MERGE_RELEASE (R251). -/
def execResultMergeRelease (dt : Nat) (k : Fin 16) (s : State) : Result :=
  .next (mergeStep k.val (s.elapse dt))

/-! ### The commit (R249 to R254, R283, R474) -/

/-- The runs that still execute at the commit are stopped as overruns (R249). -/
def State.stopRuns (s : State) : State :=
  forN 16 (fun k s =>
    have x := s.keeper k
    have s := s.setKeeper k { x with due := [] }
    match x.run with
    | none => s
    | some id => s.runOver k id (min x.cycle (s.fnBudget id))) s

/-- Results that are not yet released miss the commit: their runs count as overruns (R251). DEDUCED, log
entry 68. -/
def State.missCommit (s : State) : State :=
  have miss := s.kpr.merge.filter (fun m => !m.released)
  have s := { s with
      kpr := { s.kpr with merge := s.kpr.merge.map (fun m => if m.released then m else { m with late := true }) } }
  miss.foldl (fun s m => s.overrunCount m.keeper m.id) s

/-- The state changes of a completed run take effect (R250, R278, R279). DEDUCED, log entry 68. -/
def State.mergeCommit (s : State) (m : Merge) : State :=
  have x := s.fn m.id
  s.setFn m.id { x.flip m.written with first := false, setNew := false }

/-- A software event is released (R283, R474). DEDUCED, log entry 74. -/
def State.swEvent (s : State) (before : Word) (id n v : Nat) : State :=
  have a := 0x10200 + 4 * (n / 32)
  have lost := before.getLsbD (n % 32)
  have s := s.wr (0x10400 + 4 * n) (BitVec.ofNat 32 v)
  have s := if lost then (s.count 0x10010).raiseOnce 29 0 else s
  have s := s.oncePer 0x16 n (fun s =>
    s.logPut 0x0016 0x09 (if isGuest id then 0x1FF else id) (if isGuest id then 0x1FF else id) n v)
  if (s.rd a).getLsbD (n % 32) then s else s.setEvent (896 + n)

/-- The software events of the frame's completed runs, in order of release. DEDUCED, log entry 74. -/
def State.swEvents (s : State) : State :=
  have old := s
  have evs := s.kpr.merge.flatMap (fun m => if m.released then m.events.map (fun e => (m.id, e.1, e.2)) else [])
  evs.foldl (fun (a : State × List Nat) e =>
    have before := if a.2.contains e.2.1 then 0#32 else old.rd (0x10200 + 4 * (e.2.1 / 32))
    (a.1.swEvent before e.1 e.2.1 e.2.2, e.2.1 :: a.2)) (s, []) |>.1

/-- The functions that become FAULTED at this commit (R253). -/
def State.faultDue (s : State) : List Nat :=
  s.fnIds.filter (fun f => decide ((s.fn f).state = 1) && decide ((s.fn f).consec ≥ 3))

/-- A function becomes FAULTED, with its record (R253, R255). -/
def State.fnFault (s : State) (f : Nat) : State :=
  (s.setFn f { s.fn f with state := 3 }).raiseRec 449 f

/-- The decisions of functions under policy SAFE take their SAFE values (R253). -/
def State.safeValues (s : State) : State :=
  have fs := s.fnIds.filter (fun f => decide ((s.fn f).state = 3) && decide ((s.fn f).policy = 1))
  if fs.isEmpty then s
  else
    { s with
        pln := { s.pln with
        work := (List.range 4096).foldl (fun v d =>
          have e := s.ownerEntry d
          if fs.contains (e % 1024) then setBit v d (decide (e / 2 ^ 15 = 1)) else v) s.pln.work } }

/-- The owners whose decisions are LATE at the commit of the present frame (R254). -/
def State.lateOwners (s : State) : List Nat :=
  s.fnIds.filter (fun f =>
    have x := s.fn f
    decide (x.state ≥ 2) ||
      (decide (x.state = 1) && decide (s.kpr.tick % 2 ^ 32 % x.divisor = x.phase) &&
        !(s.kpr.merge.any (fun m => decide (m.id = f) && m.released))))

/-- The LATE bits of the present frame (R254). -/
def State.lateBits (s : State) : BitVec 4096 :=
  have fs := s.lateOwners
  if fs.isEmpty then 0
  else (List.range 4096).foldl (fun v d => if fs.contains (s.owner d) then setBit v d true else v) 0

/-- The keepers close the frame: loads, and clock gating (R241, R264). DEDUCED, log entry 68; DESIGN CHOICE,
log entry 72. -/
def State.keepersClose (s : State) : State :=
  forN 16 (fun k s =>
    have x := s.keeper k
    have s := s.setKeeper k { x with load := x.used, used := 0, awake := false }
    have a := 0x600108 + 0x10 * k
    s.wr a (BitVec.ofNat 32 (max (s.rd a).toNat x.used))) s

/-- The KPR command that takes effect with this frame is DONE. -/
def State.kprCommitDone (s : State) : State :=
  if s.kpr.commitDone then ({ s with kpr := { s.kpr with commitDone := false } }).cmdDone kprCmdReg else s

/-- The commit of the present frame at the keepers and the plane (R230, R241, R250 to R254). -/
def State.kprCommit (s : State) : State :=
  have s := s.stopRuns.missCommit
  have s := (s.kpr.merge.filter (fun m => m.released)).foldl (fun s m => s.mergeCommit m) s
  have s := s.faultDue.foldl (fun s f => s.fnFault f) s
  have s := s.safeValues
  have s := s.plnCommit (s.kpr.tick % 2 ^ 32) s.lateBits
  have s := s.swEvents.keepersClose.kprCommitDone
  { s with kpr := { s.kpr with open_ := false, merge := s.kpr.merge.filter (fun m => m.late) } }

/-! ### Keeper faults and re-placement (R256 to R259) -/

/-- A pending MOVE or FUNC_RESTART is dropped: REFUSED_STATE (R71, R262). -/
def State.kprDrop (s : State) : State :=
  match s.kpr.wait with
  | none => s
  | some (.test _) => s
  | some (.restart _ _ _) =>
    ({ s with kpr := { s.kpr with wait := none } }).cmdEndRefused kprCmdReg
  | some (.move es _) =>
    have s := es.foldl (fun s e => s.setFn e.1 { s.fn e.1 with movePending := false }) s
    ({ s with kpr := { s.kpr with wait := none } }).cmdEndRefused kprCmdReg

/-- A MOVE that names a keeper as source or target (R262). -/
def State.moveTouches (s : State) (k : Nat) : Bool :=
  match s.kpr.wait with
  | some (.move es _) => es.any (fun e => decide (e.2 = k) || decide ((s.fn e.1).keeper = k))
  | _ => false

/-- Re-placement of a keeper's functions on its fallback is possible (R258). DEDUCED, log entry 69. -/
def State.canReplace (s : State) (k : Nat) : Bool :=
  have f := s.fallback k
  have own := s.placedOn f
  decide (f < 16) && decide (f ≠ k) && decide ((s.keeper f).cond = 0) &&
    own.all (fun g => !(s.fn g).moved) && s.loadFits f (own ++ s.placedOn k)

/-- The guests of a keeper are LOST (R51, R416). -/
def State.guestsLost (s : State) (k : Nat) : State :=
  have ids := (s.kpr.funcs.map (fun (e : Nat × KFunc) => e.1)).filter
    (fun i => isGuest i && decide ((s.fn i).keeper = k) && decide ((s.fn i).state = 1 ∨ (s.fn i).state = 2))
  ids.foldl (fun s i =>
    ((s.setFn i { s.fn i with state := 3, placeAt := none }).vfEvent (guestVf i) 2).hstRec 5 (guestVf i)) s

/-- Re-placement fails: the functions become FAULTED (R255, R258). DEDUCED, log entry 69. -/
def State.replaceFail (s : State) (k : Nat) : State :=
  have s := (s.placedOn k).foldl (fun s f => if (s.fn f).state = 3 then s else s.fnFault f) s
  s.raiseRec 452 k

/-- The functions of a keeper leave it and hold no placement (R258). -/
def State.unplaceAll (s : State) (k : Nat) : State :=
  match s.placedOn k with
  | [] => s
  | fs => fs.foldl (fun s f =>
      s.setFn f { s.fn f with unplaced := true, moved := false }) s.placeChange

/-- A keeper fault (R256, R257): 1 MISCOMPARE, 2 ECC_IMEM, 3 ECC_DMEM. Steps 1 to 3. DEDUCED, log entry 31.
-/
def State.keeperFault (s : State) (k cause : Nat) : State :=
  have x := s.keeper k
  if x.cond ≠ 0 then s
  else
    have s := s.setKeeper k { x with cond := 3, cause := cause, run := none, due := [], awake := false }
    have s := (s.setEvent 450).logPut (0x4000 + 450) 0x09 k k s.frameNum cause
    have s := if s.moveTouches k then s.kprDrop else s
    have s := (s.placedOn k).foldl (fun s f =>
      if (s.fn f).state = 1 then s.setFn f { s.fn f with state := 2 } else s) s
    have s := s.guestsLost k
    have e := tickAtOrAfter (s.now + 2 * secUnit / s.frameRate) s.frameRate
    have ok := s.canReplace k
    have s := { s with
        kpr := { s.kpr with replace := s.kpr.replace ++ [{ keeper := k, target := e, failed := !ok }] } }
    if ok then s else s.replaceFail k

/-- One function goes to the fallback keeper (R257): it resumes from its selected copy, or from the
initial state block where that copy is lost. -/
def State.replaceOne (s : State) (k f : Nat) : State :=
  have x := s.fn f
  have y := if x.stateBad then (x.initialise (s.initState f)) else x
  s.setFn f { y.nextEpoch with
      keeper := k, order := s.nextOrder k, moved := true, reinit := x.stateBad,
      state := if x.state = 2 then 1 else x.state }

/-- Steps 4 and 5 of R257 for one keeper in the gap before E, or the failure of R258. DEDUCED, log entry 69.
-/
def State.replaceNow (s : State) (r : Replace) : State :=
  have k := r.keeper
  have s := { s with kpr := { s.kpr with replace := s.kpr.replace.filter (fun x => decide (x ≠ r)) } }
  if r.failed then s.unplaceAll k
  else if s.canReplace k then
    have fs := s.placedOn k
    have s := if fs.isEmpty then s else s.placeChange
    have s := fs.foldl (fun s f => s.replaceOne (s.fallback k) f) s
    { s with kpr := { s.kpr with replacedNow := s.kpr.replacedNow ++ [k] } }
  else (s.replaceFail k).unplaceAll k

/-- KEEPER_REPLACE_APPLY: the re-placements whose tick E is the next frame tick (R242, R257). -/
def keeperReplaceApply (s : State) : State :=
  have n := tickAtOrAfter s.now s.frameRate
  (s.kpr.replace.filter (fun r => decide (r.target ≤ n))).foldl (fun s r => s.replaceNow r) s

/-! ### Commands (R260 to R263) -/

/-- Modes in which MOVE and FUNC_RESTART are legal (R263). -/
def State.kprMode (s : State) : Bool :=
  decide (s.glb.mode = .standby) || decide (s.glb.mode = .active) || decide (s.glb.mode = .test)

/-- The entries of KPR_MOVE_ENTRY: function and target keeper. -/
def State.moveEntries (s : State) (n : Nat) : List (Nat × Nat) :=
  (List.range n).map (fun m => (fld (s.rd (0x600040 + 4 * m)) 0 9, fld (s.rd (0x600040 + 4 * m)) 16 4))

/-- The argument checks of MOVE (R260). -/
def State.moveArg (s : State) (es : List (Nat × Nat)) : Bool :=
  es.all (fun e => decide ((s.fn e.1).state ≠ 0) && ((s.fn e.1).unplaced || decide ((s.fn e.1).keeper ≠ e.2)) &&
    decide ((es.filter (fun x => decide (x.1 = e.1))).length = 1))

/-- What a keeper holds once a MOVE has taken effect. -/
def State.afterMove (s : State) (es : List (Nat × Nat)) (k : Nat) : List Nat :=
  (s.placedOn k).filter (fun f => !(es.any (fun e => decide (e.1 = f)))) ++
    (es.filter (fun e => decide (e.2 = k))).map (·.1)

/-- A pending RELOAD changes a function at a tick not before the move (R73). -/
def State.reloadTouches (s : State) (f target : Nat) : Bool :=
  match s.img.reload with
  | none => false
  | some t => decide (target ≤ t) && s.img.changedSecs.contains (8, f)

/-- The conditions of MOVE (R73, R260). -/
def State.moveOk (s : State) (es : List (Nat × Nat)) (target : Nat) : Bool :=
  es.all (fun e =>
    have l := s.afterMove es e.2
    decide ((s.fn e.1).state = 1) && decide ((s.keeper e.2).cond = 0) && s.loadFits e.2 l &&
      s.roomFits e.2 l && !s.reloadTouches e.1 target)

/-- MOVE (R260). -/
def move (rsv arg : Nat) (s : State) : State :=
  have es := s.moveEntries arg
  match s.targetTick 0x600014 0x600018 with
  | none => s.runCmd kprCmdReg 1 rsv arg .arg id
  | some t =>
    s.runCmd kprCmdReg 1 rsv arg
      (verdict (decide (1 ≤ arg) && decide (arg ≤ 8) && s.moveArg es)
        (s.kprMode && s.kpr.frames && s.moveOk es t)) fun s =>
      have s := es.foldl (fun s e => s.setFn e.1 { s.fn e.1 with movePending := true }) s
      { s with kpr := { s.kpr with wait := some (.move es t) } }

/-- MOVE (R260). -/
def execMove (dt : Nat) (rsv : BitVec 8) (arg : BitVec 16) (s : State) : Result :=
  .next (move rsv.toNat arg.toNat (s.elapse dt))

/-- One function moves (R261). -/
def State.moveOne (s : State) (e : Nat × Nat) : State :=
  s.setFn e.1 { (s.fn e.1).nextEpoch with
      keeper := e.2, order := s.nextOrder e.2, movePending := false, moved := false, reinit := false }

/-- MOVE_APPLY: in the gap before the target tick (R261). -/
def moveApply (s : State) : State :=
  match s.kpr.wait with
  | some (.move es _) =>
    if es.all (fun e => decide ((s.keeper e.2).cond = 0) && decide ((s.fn e.1).state = 1)) then
      have s := es.foldl (fun s e => s.moveOne e) s.placeChange
      { s with kpr := { s.kpr with wait := none, commitDone := true } }
    else s.kprDrop
  | _ => s

/-- MOVE_APPLY (R261). -/
def execMoveApply (dt : Nat) (s : State) : Result := .next (moveApply (s.elapse dt))

/-- A keeper can take a function without a placement (R260, R263). -/
def State.canTake (s : State) (f k : Nat) : Bool :=
  have l := s.placedOn k ++ [f]
  decide ((s.keeper k).cond = 0) && s.loadFits k l && s.roomFits k l

/-- FUNC_RESTART (R263). -/
def funcRestart (rsv arg : Nat) (s : State) : State :=
  have f := arg % 512
  have k := arg / 1024 % 16
  match s.targetTick 0x600014 0x600018 with
  | none => s.runCmd kprCmdReg 2 rsv arg .arg id
  | some t =>
    s.runCmd kprCmdReg 2 rsv arg
      (verdict (decide (arg / 512 % 2 = 0) && decide (arg < 16384))
        (s.kprMode && s.kpr.frames && decide ((s.fn f).state = 3) &&
          (!(s.fn f).unplaced || s.canTake f k))) fun s =>
      { s with kpr := { s.kpr with wait := some (.restart f k t) } }

/-- FUNC_RESTART (R263). -/
def execFuncRestart (dt : Nat) (rsv : BitVec 8) (arg : BitVec 16) (s : State) : Result :=
  .next (funcRestart rsv.toNat arg.toNat (s.elapse dt))

/-- FUNC_RESTART_APPLY: in the gap before the target tick the function is initialised and PLACED (R253,
R258, R263). -/
def funcRestartApply (s : State) : State :=
  match s.kpr.wait with
  | some (.restart f k t) =>
    have x := s.fn f
    if x.unplaced ∧ (s.keeper k).cond ≠ 0 then s.kprDrop
    else
      have s := if x.unplaced then s.placeChange else s
      have y := x.initialise (s.initState f)
      have y := if x.unplaced then { y with unplaced := false, keeper := k, order := s.nextOrder k } else y
      have s := s.setFn f { y with state := 1, consec := 0 }
      have s := s.logPut 0x0015 0x09 f f (s.fn f).epoch t
      { s with kpr := { s.kpr with wait := none, commitDone := true } }
  | _ => s

/-- FUNC_RESTART_APPLY (R253). -/
def execFuncRestartApply (dt : Nat) (s : State) : Result := .next (funcRestartApply (s.elapse dt))

/-- KEEPER_RETURN (R263). DEDUCED, log entry 70. -/
def keeperReturn (rsv arg : Nat) (s : State) : State :=
  s.runCmd kprCmdReg 3 rsv arg
    (verdict (decide (arg < 16)) (s.kpr.frames && decide ((s.keeper arg).cond = 4))) fun s =>
    have s := s.setKeeper arg { s.keeper arg with cond := 5 }
    { s with kpr := { s.kpr with wait := some (.test arg) } }

/-- KEEPER_RETURN (R263). -/
def execKeeperReturn (dt : Nat) (rsv : BitVec 8) (arg : BitVec 16) (s : State) : Result :=
  .next (keeperReturn rsv.toNat arg.toNat (s.elapse dt))

/-- The self-test of a keeper ends (R259, R263). -/
def keeperSelftestDone (pass : Bool) (s : State) : State :=
  match s.kpr.wait with
  | some (.test k) =>
    have x := s.keeper k
    have s := s.setKeeper k (if pass then { x with cond := 0, cause := 0, spare := true }
      else { x with cond := 3, cause := 4 })
    ({ s with kpr := { s.kpr with wait := none } }).cmdDone kprCmdReg
  | _ => s

/-- KEEPER_SELFTEST_DONE (R263). -/
def execKeeperSelftestDone (dt : Nat) (pass : Bool) (s : State) : Result :=
  .next (keeperSelftestDone pass (s.elapse dt))

/-- A write to KPR_CMD. -/
def kprCommand (code rsv arg : Nat) (s : State) : State :=
  if code = 1 then move rsv arg s
  else if code = 2 then funcRestart rsv arg s
  else if code = 3 then keeperReturn rsv arg s
  else s.badCode kprCmdReg code rsv arg

/-! ### Frames stop, steps and resets -/

/-- Protection frames stop: runs end, results are dropped and waiting commands end (R71, R240). DEDUCED, log
entry 112. -/
def State.framesStop (s : State) : State :=
  if s.kpr.frames then
    have s := forN 16 (fun k s =>
      have x := s.keeper k
      s.setKeeper k { x with run := none, due := [], awake := false }) s
    have s := { s with kpr := { s.kpr with frames := false, open_ := false, merge := [] } }
    s.kprDrop
  else s

/-- A step passes over target ticks before `n`, the first tick that runs (R71, R262). A re-placement keeps
its span from the tick `old` that would have been next. -/
def State.kprStep (s : State) (old n : Nat) : State :=
  have passed := match s.kpr.wait with
    | some (.move _ t) => decide (t < n)
    | some (.restart _ _ t) => decide (t < n)
    | _ => false
  have s := if passed then s.kprDrop else s
  { s with kpr := { s.kpr with replace := s.kpr.replace.map (fun r => { r with target := n + (r.target - old) }) } }

/-- A keeper reset (R50, R51): SRAMs zeroed, guests LOST, the keeper in RESET. -/
def State.keeperReset (s : State) (k : Nat) : State :=
  ((s.setKeeper k { cond := 4 }).guestsLost k).prfKeeperReset k

/-! ### Reload of a FUNCTION section (R72, R253, R255) -/

/-- The state layout of a program object. -/
def objLayout (o : List Byte) : Nat × Nat := (leAt o 0x18 4, objState o)

/-- A changed FUNCTION section takes effect. `old` is the program object before. -/
def State.fnReload (s : State) (f : Nat) (old : List Byte) : State :=
  have x := s.fn f
  have b := s.cfg 8 f
  if b.isEmpty then s.setFn f { x with state := 0, setNew := false, consec := 0 }
  else
    have keep := decide (x.state = 1 ∨ x.state = 2) && decide (objLayout old = objLayout (s.fnObj f))
    have y := if keep then x else x.initialise (s.initState f)
    have y := if x.state = 0 then { y with setNew := true, consec := 0 } else y
    have st := if x.state = 2 ∨ (x.state = 3 ∧ x.unplaced) then x.state else 1
    s.setFn f { y with
        state := st, consec := if x.state = 3 then 0 else y.consec }

/-! ### The keeper rows -/

/-- KGV (R275). -/
def execKgv (dt : Nat) (k : Fin 16) (ecc : Bool) (s : State) : Result := .next (keeperInst 64 k.val ecc (s.elapse dt))
/-- KGM (R275). -/
def execKgm (dt : Nat) (k : Fin 16) (ecc : Bool) (s : State) : Result := .next (keeperInst 65 k.val ecc (s.elapse dt))
/-- KIV (R275). -/
def execKiv (dt : Nat) (k : Fin 16) (ecc : Bool) (s : State) : Result := .next (keeperInst 66 k.val ecc (s.elapse dt))
/-- KIM (R275). -/
def execKim (dt : Nat) (k : Fin 16) (ecc : Bool) (s : State) : Result := .next (keeperInst 67 k.val ecc (s.elapse dt))
/-- KPHR (R275). -/
def execKphr (dt : Nat) (k : Fin 16) (ecc : Bool) (s : State) : Result := .next (keeperInst 68 k.val ecc (s.elapse dt))
/-- KPHI (R275). -/
def execKphi (dt : Nat) (k : Fin 16) (ecc : Bool) (s : State) : Result := .next (keeperInst 69 k.val ecc (s.elapse dt))
/-- KPHM (R275). -/
def execKphm (dt : Nat) (k : Fin 16) (ecc : Bool) (s : State) : Result := .next (keeperInst 70 k.val ecc (s.elapse dt))
/-- KGT (R275). -/
def execKgt (dt : Nat) (k : Fin 16) (ecc : Bool) (s : State) : Result := .next (keeperInst 71 k.val ecc (s.elapse dt))
/-- KBIN (R275). -/
def execKbin (dt : Nat) (k : Fin 16) (ecc : Bool) (s : State) : Result := .next (keeperInst 72 k.val ecc (s.elapse dt))
/-- KBINW (R275). -/
def execKbinw (dt : Nat) (k : Fin 16) (ecc : Bool) (s : State) : Result := .next (keeperInst 73 k.val ecc (s.elapse dt))
/-- KBINQ (R275). -/
def execKbinq (dt : Nat) (k : Fin 16) (ecc : Bool) (s : State) : Result := .next (keeperInst 74 k.val ecc (s.elapse dt))
/-- KDEC (R275). -/
def execKdec (dt : Nat) (k : Fin 16) (ecc : Bool) (s : State) : Result := .next (keeperInst 75 k.val ecc (s.elapse dt))
/-- KDSET (R277). -/
def execKdset (dt : Nat) (k : Fin 16) (ecc : Bool) (s : State) : Result := .next (keeperInst 76 k.val ecc (s.elapse dt))
/-- KDCLR (R277). -/
def execKdclr (dt : Nat) (k : Fin 16) (ecc : Bool) (s : State) : Result := .next (keeperInst 77 k.val ecc (s.elapse dt))
/-- KDPUT (R277). -/
def execKdput (dt : Nat) (k : Fin 16) (ecc : Bool) (s : State) : Result := .next (keeperInst 78 k.val ecc (s.elapse dt))
/-- KSLW (R278). -/
def execKslw (dt : Nat) (k : Fin 16) (ecc : Bool) (s : State) : Result := .next (keeperInst 79 k.val ecc (s.elapse dt))
/-- KSSW (R278). -/
def execKssw (dt : Nat) (k : Fin 16) (ecc : Bool) (s : State) : Result := .next (keeperInst 80 k.val ecc (s.elapse dt))
/-- KSLF (R278). -/
def execKslf (dt : Nat) (k : Fin 16) (ecc : Bool) (s : State) : Result := .next (keeperInst 81 k.val ecc (s.elapse dt))
/-- KSSF (R278). -/
def execKssf (dt : Nat) (k : Fin 16) (ecc : Bool) (s : State) : Result := .next (keeperInst 82 k.val ecc (s.elapse dt))
/-- KEVT (R283). -/
def execKevt (dt : Nat) (k : Fin 16) (ecc : Bool) (s : State) : Result := .next (keeperInst 83 k.val ecc (s.elapse dt))
/-- KYIELD (R249). -/
def execKyield (dt : Nat) (k : Fin 16) (ecc : Bool) (s : State) : Result := .next (keeperInst 84 k.val ecc (s.elapse dt))
/-- KBUDG (R275). -/
def execKbudg (dt : Nat) (k : Fin 16) (ecc : Bool) (s : State) : Result := .next (keeperInst 85 k.val ecc (s.elapse dt))
/-- KFTIME (R275). -/
def execKftime (dt : Nat) (k : Fin 16) (ecc : Bool) (s : State) : Result := .next (keeperInst 86 k.val ecc (s.elapse dt))
/-- KEEPER_CSR_READ (R279). -/
def execKeeperCsrRead (dt : Nat) (k : Fin 16) (ecc : Bool) (s : State) : Result :=
  .next (keeperInst 87 k.val ecc (s.elapse dt))
/-- KEEPER_BASE_INSTRUCTION (R266). -/
def execKeeperBaseInstruction (dt : Nat) (k : Fin 16) (ecc : Bool) (s : State) : Result :=
  .next (keeperInst 88 k.val ecc (s.elapse dt))

/-- BUDGET_EXPIRY: the run in progress is stopped as an overrun (R249). DEDUCED, log entry 71. -/
def budgetExpiry (k : Nat) (s : State) : State :=
  match (s.keeper k).run with
  | none => s
  | some id => s.runOver k id (s.fnBudget id)

/-- BUDGET_EXPIRY (R249). -/
def execBudgetExpiry (dt : Nat) (k : Fin 16) (s : State) : Result := .next (budgetExpiry k.val (s.elapse dt))

end Sys2Proof.Machine
end

