-- ==== Sys2Proof/Machine/Lmp.lean ====
section
/-!
DEFINITION. Family: the lamp room (R336 to R357).
-/

namespace Sys2Proof.Machine

open Sys2Proof

/-! ### Working keys (R338) -/

/-- The bytes of an ASCII string. -/
def ascii (t : String) : List Byte := t.toList.map (fun c => BitVec.ofNat 8 c.toNat)

/-- kdf(root, label, i) with a module identifier (R338). -/
def kdf (root : List Byte) (label : String) (id i : Nat) : List Byte :=
  hmacSha256 root (ascii label ++ [0#8] ++ leBytes id 2 ++ leBytes i 1)

/-- The order of P-384. -/
def order384 : Nat :=
  0xFFFFFFFFFFFFFFFFFFFFFFFFFFFFFFFFFFFFFFFFFFFFFFFFC7634D81F4372DDF581A0DB248B0A77AECEC196ACCC52973

/-- The order of P-256. -/
def order256 : Nat := 0xFFFFFFFF00000000FFFFFFFFFFFFFFFFBCE6FAADA7179E84F3B9CAC2FC632551

/-- idevid_d of a factory root (R338). -/
def idevScalar (root : List Byte) : Nat :=
  beAt (kdf root "GLV-IDEV" 0xFFFF 1 ++ kdf root "GLV-IDEV" 0xFFFF 2) 0 64 % (order384 - 1) + 1

/-- The root in use (R336). -/
def LmpUnit.root (l : LmpUnit) : List Byte :=
  match l.life with
  | 1 => l.factoryRoot
  | 2 => l.ownerRoot
  | 3 => l.ownerRoot
  | 4 => l.returnRoot
  | _ => []

/-- The identifier in the derivations: 0xFFFF under the factory root (R338). -/
def LmpUnit.kdfId (l : LmpUnit) : Nat := if l.life = 1 then 0xFFFF else l.boundId

/-- The public point x‖y of a curve's scalar. -/
def ecPublic (curve d : Nat) : List Byte :=
  (List.range (curve / 4)).map (fun i => Config.ecPoint curve d i)

/-- DEVICE_ID: the first 16 bytes of SHA-256 over the IDevID public key (R348). -/
def LmpUnit.deviceId (l : LmpUnit) : List Byte := (sha256 (ecPublic 384 l.idevScalar)).take 16

/-- SHA-384 of a byte string. -/
def sha384 (m : List Byte) : List Byte := (List.range 48).map (Config.sha384 m)

/-- `n` bytes of the random source, from the present draw on (R338). -/
def LmpUnit.random (l : LmpUnit) (n : Nat) : List Byte :=
  (List.range n).map (fun i => Config.random (l.draws + i))

/-- The lamp room with `n` bytes drawn. -/
def LmpUnit.drawn (l : LmpUnit) (n : Nat) : LmpUnit := { l with draws := l.draws + n }

/-! ### AES-GCM -/

/-- Bytes combined with the key stream. -/
def gcmCrypt (key iv data : List Byte) : List Byte :=
  (List.range data.length).zipWith (fun i b => b ^^^ Config.aesStream key iv i) data

/-- The 16-byte tag over the AAD and the ciphertext. -/
def gcmTag (key iv aad ct : List Byte) : List Byte :=
  (List.range 16).map (Config.aesTag key iv aad ct)

/-- Decryption, none when the tag does not verify. -/
def gcmOpen (key iv aad ct tag : List Byte) : Option (List Byte) :=
  if gcmTag key iv aad ct = tag then some (gcmCrypt key iv ct) else none

/-! ### Slots and groups (R341 to R345) -/

/-- A key slot. -/
def State.key (s : State) (i : Nat) : KeySlot := tget s.lmp.slots i {}

/-- A key slot with a new value. -/
def State.setKey (s : State) (i : Nat) (k : KeySlot) : State :=
  { s with lmp := { s.lmp with slots := tset s.lmp.slots i k {} } }

/-- A field of a group of KEY_POLICY (R344). -/
def State.kpField (s : State) (g o n : Nat) : Nat := leAt (s.cfg 0xE 0) (16 + 16 * g + o) n

/-- The group of a slot (R344). -/
def State.keyGroup (s : State) (slot : Nat) : Option Nat :=
  (List.range 64).find? (fun g => decide (s.kpField g 0 2 ≤ slot) &&
    decide (slot < s.kpField g 0 2 + s.kpField g 2 2))

/-- USAGE of a slot. -/
def State.keyUsage (s : State) (slot : Nat) : Nat :=
  match s.keyGroup slot with
  | none => 8
  | some g => s.kpField g 4 1

/-- The selected copy. -/
def KeySlot.cur (k : KeySlot) : KeyCopy := if k.sel = 0 then k.a else k.b

/-- The integrity tag of a copy (R342). -/
def keyTag (integ : List Byte) (slot copy : Nat) (k : KeySlot) (mat : List Byte) : List Byte :=
  (hmacSha256 integ (leBytes slot 2 ++ leBytes copy 1 ++ leBytes k.typ 1 ++ leBytes k.usage 1 ++
    leBytes k.keyId 4 ++ leBytes k.origin 1 ++ mat)).take 8

/-- STATE of a slot (R356). -/
def State.keyState (s : State) (slot : Nat) : Nat :=
  have k := s.key slot
  have upd := match s.lmp.job with
    | some j => decide (j.kind ≠ 0) && decide (j.slot = slot) && decide (j.kind ≠ 4)
    | none => false
  if k.bad then 2 else if upd then 4 else if k.mismatch then 3 else if k.typ = 0 then 0 else 1

/-- A slot can be used for a class: it holds a key, in a group of that class, and is neither BAD nor
MISMATCH (R341). -/
def State.keyUsable (s : State) (slot usage : Nat) : Bool :=
  have k := s.key slot
  decide (k.typ ≠ 0) && !k.bad && !k.mismatch && decide (s.keyUsage slot = usage)

/-- The slot whose KEY_ID a tag carries, among two (R165, R342). -/
def State.tagSlot (s : State) (keyId a b : Nat) : Option Nat :=
  [a, b].find? (fun x => decide (x ≠ 0xFFFF) && decide ((s.key x).typ ≠ 0) && decide ((s.key x).keyId = keyId))

/-- A tag of an algorithm (1 HMAC-SHA256-128, 2 AES-GMAC) names a usable MAC_VERIFY slot (R165). -/
def State.tagUsable (s : State) (keyId a b alg : Nat) : Bool :=
  match s.tagSlot keyId a b with
  | none => false
  | some x => s.keyUsable x 7 && decide ((alg = 1) ↔ ((s.key x).typ = 3))

/-- Erasing every certificate entry bound to a slot (R352). -/
def LmpUnit.eraseCerts (l : LmpUnit) (slot : Nat) : LmpUnit :=
  { l with certs := l.certs.filter (fun (e : Nat × Cert) => decide (e.2.slot ≠ slot)) }

/-- A slot becomes BAD (R342). -/
def State.slotBad (s : State) (slot : Nat) : State :=
  if (s.key slot).bad then s
  else (s.setKey slot { s.key slot with bad := true }).raiseRec 609 slot

/-- The check of every slot's selected copy. `fails` names the slots whose copy the array no longer
holds (R342). -/
def integrityPass (fails : List (Fin 1024)) (s : State) : State :=
  if s.lmp.mode = 1 then
    s.lmp.slots.foldl (fun s (e : Nat × KeySlot) =>
      have k := e.2
      if k.typ ≠ 0 ∧ (keyTag s.lmp.integKey e.1 k.sel k k.cur.mat ≠ k.cur.tag ∨
          fails.any (fun f => decide (f.val = e.1)) = true) then s.slotBad e.1
      else s) s
  else s

/-- SLOT_INTEGRITY_PASS (R342). -/
def execSlotIntegrityPass (dt : Nat) (fails : List (Fin 1024)) (s : State) : Result :=
  .next (integrityPass fails (s.elapse dt))

/-- MISMATCH at image load (R345). -/
def State.keyMismatches (s : State) : State :=
  s.lmp.slots.foldl (fun s (e : Nat × KeySlot) =>
    have k := e.2
    match s.keyGroup e.1 with
    | none => s
    | some g =>
      if k.typ ≠ 0 ∧ k.mismatch = false ∧ (s.kpField g 5 1 ≠ k.typ ∨ s.kpField g 4 1 ≠ k.usage) then
        ((s.setKey e.1 { k with mismatch := true }).setEvent 614).logPut 0x000E 0x0C e.1 e.1 g 0
      else s) s

/-! ### Key material (R340) -/

/-- The length of a type's material. -/
def matLen (typ usage : Nat) : Nat :=
  match typ with
  | 1 => 16
  | 2 => 32
  | 3 => 32
  | 4 => if usage = 5 then 64 else 96
  | 5 => if usage = 5 then 96 else 144
  | _ => 96

/-- The curve of a type. -/
def curveOf (typ : Nat) : Nat := if typ = 5 then 384 else 256

/-- The bytes of a scalar. -/
def scalarLen (typ usage : Nat) : Nat := if usage = 5 then 0 else curveOf typ / 8

/-- The public point of a key's material. -/
def pubOf (typ usage : Nat) (mat : List Byte) : List Byte :=
  if typ ≥ 4 then mat.drop (scalarLen typ usage) else []

/-- Key length, scalar range and point on the curve (R349). -/
def keyValid (typ usage : Nat) (mat : List Byte) : Bool :=
  decide (mat.length = matLen typ usage) &&
    (decide (typ < 4) ||
      (Config.onCurve (curveOf typ) (pubOf typ usage mat) &&
        (decide (usage = 5) ||
          (have d := beAt mat 0 (scalarLen typ usage)
           decide (1 ≤ d) && decide (d < if typ = 5 then order384 else order256)))))

/-- New key material from the random source, and the bytes drawn (R346). -/
def LmpUnit.newKey (l : LmpUnit) (typ usage : Nat) : List Byte × Nat :=
  if typ < 4 then (l.random (matLen typ usage), matLen typ usage)
  else
    have n := curveOf typ / 8
    have ord := if typ = 5 then order384 else order256
    have d := beAt (l.random n) 0 n % (ord - 1) + 1
    (beBytes d n ++ ecPublic (curveOf typ) d, n)

/-! ### Commands (R354) -/

/-- The LMP command register. -/
def lmpCmdReg : Nat := 0x900000

/-- The modes and the life cycle in which key commands are legal (R336, R354). DEDUCED, log entry 90. -/
def State.keyLegal (s : State) : Bool :=
  decide (s.lmp.mode = 1) && (decide (s.lmp.life = 2) || decide (s.lmp.life = 3)) &&
    (decide (s.glb.mode = .commission) || decide (s.glb.mode = .standby) ||
      decide (s.glb.mode = .active) || decide (s.glb.mode = .test) || decide (s.glb.mode = .maintenance))

/-- The address registers are aligned to 64 bytes (R356). -/
def State.lmpAligned (s : State) : Bool :=
  decide (fld (s.rd 0x900014) 0 6 = 0) && decide (fld (s.rd 0x900020) 0 6 = 0)

/-- LMP_ARG_LEN. -/
def State.lmpArgLen (s : State) : Nat := (s.rd 0x90001C).toNat

/-- The argument buffer as the module fetches it: ARG_LEN bytes. -/
def State.lmpArg (s : State) (buf : List Byte) : List Byte := padTo buf (min 4096 s.lmpArgLen)

/-- An output of `n` bytes fits LMP_OUT_LEN.CAP. -/
def State.lmpFits (s : State) (n : Nat) : Bool := decide (n ≤ fld (s.rd 0x900028) 0 16)

/-- A job starts. -/
def State.lmpStart (s : State) (j : LmpJob) : State := { s with lmp := { s.lmp with job := some j } }

/-- A slot lies in an ATOMIC group. -/
def State.atomic (s : State) (slot : Nat) : Bool :=
  match s.keyGroup slot with
  | none => false
  | some g => decide (s.kpField g 6 1 = 0)

/-- TYPE of a slot's group. -/
def State.groupType (s : State) (slot : Nat) : Nat :=
  match s.keyGroup slot with
  | none => 0
  | some g => s.kpField g 5 1

/-- GENERATE (R346, R347). DESIGN CHOICE, log entry 16. -/
def lmpGenerate (rsv arg : Nat) (s : State) : State :=
  s.runCmd lmpCmdReg 0x01 rsv arg
    (verdict (decide (arg < 1024) && s.lmpAligned) (s.keyLegal && s.atomic arg))
    (fun s =>
      have typ := s.groupType arg
      let (mat, n) := s.lmp.newKey typ (s.keyUsage arg)
      have id := (Config.generatedKeyId s.lmp.journalSeq).toNat
      ({ s with lmp := s.lmp.drawn n }).lmpStart
        { code := 1, slot := arg, kind := 1, keyId := id, typ := typ, origin := 1, mat := mat })

/-- GENERATE (R346). -/
def execGenerate (dt : Nat) (rsv : BitVec 8) (arg : BitVec 16) (s : State) : Result :=
  .next (lmpGenerate rsv.toNat arg.toNat (s.elapse dt))

/-- The material of an IMPORT buffer, or the failing result (R346, R349). -/
def State.importMat (s : State) (slot : Nat) (wrapped : Bool) (b : List Byte) : Nat × List Byte :=
  have len := leAt b 4 2
  have typ := s.groupType slot
  have usage := s.keyUsage slot
  have mat := slice b 0x14 len
  if b.length < 0x14 + len + (if wrapped then 16 else 0) ∨ leAt b 6 2 ≠ 0 then (0x10, [])
  else if wrapped then
    have w := match s.keyGroup slot with
      | none => 0xFFFF
      | some g => s.kpField g 0x0A 2
    if !(s.keyUsable w 2) then (0x18, [])
    else
      match gcmOpen (s.key w).cur.mat (slice b 8 12) (slice b 0 0x14) mat (slice b (0x14 + len) 16) with
      | none => (0x15, [])
      | some m => if keyValid typ usage m then (1, m) else (0x16, [])
  else if keyValid typ usage mat then (1, mat) else (0x16, [])

/-- IMPORT: `buf` is the argument buffer (R346). -/
def lmpImport (rsv arg : Nat) (buf : List Byte) (s : State) : State :=
  have slot := arg % 1024
  have wrapped := decide (arg ≥ 32768)
  have genOnly := match s.keyGroup slot with
    | none => false
    | some g => decide (s.kpField g 7 1 % 2 = 1)
  s.runCmd lmpCmdReg 0x02 rsv arg
    (verdict (decide (arg % 32768 < 1024) && s.lmpAligned)
      (s.keyLegal && s.atomic slot && !genOnly && (wrapped || decide (s.lmp.life = 2))))
    (fun s =>
      have b := s.lmpArg buf
      if s.hst.gen = 0 then s.lmpStart { code := 2, slot := slot, result := 0x1C }
      else
        match s.importMat slot wrapped b with
        | (1, m) => s.lmpStart { code := 2, slot := slot, kind := 1, keyId := leAt b 0 4,
                                 typ := s.groupType slot, origin := if wrapped then 2 else 3, mat := m }
        | (r, _) => s.lmpStart { code := 2, slot := slot, result := r })

/-- IMPORT (R346). -/
def execImport (dt : Nat) (rsv : BitVec 8) (arg : BitVec 16) (buf : List Byte) (s : State) : Result :=
  .next (lmpImport rsv.toNat arg.toNat buf (s.elapse dt))

/-- The checks of an update message in order: the first failing result, or 1 with the material (R349). -/
def State.updateCheck (s : State) (b : List Byte) : Nat × List Byte :=
  have kind := byteAt b 6
  have slot := leAt b 0x0A 2
  have g := (s.keyGroup slot).getD 64
  have keyKind := decide (kind = 1) || decide (kind = 2)
  have wrap := leAt b 0x24 2
  have len := leAt b 0x26 2
  have counter := leAt b 0x0C 4
  have cg := if keyKind then g else 64
  have cur := tget s.lmp.counters cg 0
  have auth := if keyKind then (s.key (s.kpField g 8 2)).cur.mat else s.lmp.authKey
  have authOk := !keyKind || s.keyUsable (s.kpField g 8 2) 5
  have w := s.kpField g 0x0A 2
  have formOk := decide (b.length = 264) && decide (slice b 0 4 = ascii "GKUM") &&
    decide (leAt b 4 2 = 1) && decide (1 ≤ kind) && decide (kind ≤ 4) && decide (len ≤ 96) &&
    decide (leAt b 0x34 4 = 0) && decide (wrap ≤ 1) && (decide (kind = 1) || decide (byteAt b 7 = 0)) &&
    (keyKind || decide (slot = 0xFFFF))
  if !formOk then (0x10, [])
  else if leAt b 8 2 ≠ s.lmp.boundId ∨ slice b 0x10 16 ≠ s.lmp.deviceId then (0x11, [])
  else if keyKind && (decide (g = 64) || decide (s.kpField g 6 1 ≠ 1) ||
      (decide (kind = 1) && decide (byteAt b 7 ≠ s.kpField g 5 1))) then (0x12, [])
  else if !(authOk && Config.ecdsaVerify 384 auth (sha384 (slice b 0 0xA8)) (slice b 0xA8 96)) then
    (0x13, [])
  else if cur = 0xFFFFFFFF then (0x1A, [])
  else if counter ≤ cur then (0x14, [])
  else if kind ≠ 1 then (1, [])
  else
    have usage := s.kpField g 4 1
    have raw := slice b 0x38 len
    have m := if wrap = 1 then
        (if s.keyUsable w 2 then
          gcmOpen (s.key w).cur.mat (slice b 0x28 12) (slice b 0 0x38) raw (slice b 0x98 16) else none)
      else if usage = 5 then some raw else none
    match m with
    | none => (0x15, [])
    | some m => if keyValid (byteAt b 7) usage m then (1, m) else (0x16, [])

/-- UPDATE is legal: a key command for kinds 1 and 2; for kinds 3 and 4 MAINTENANCE, or DEGRADED unless its
cause is 0x11 (R354), in the life-cycle states of R337. DEDUCED, log entry 90. -/
def State.updateLegal (s : State) (b : List Byte) : Bool :=
  have kind := byteAt b 6
  if kind = 3 ∨ kind = 4 then
    decide (s.lmp.mode ≠ 0) &&
    (decide (s.lmp.life = 2) || decide (s.lmp.life = 3) || (decide (kind = 4) && decide (s.lmp.life = 4))) &&
    (decide (s.glb.mode = .maintenance) ||
      (decide (s.glb.mode = .degraded) && decide (s.glb.faultCause ≠ 0x11)))
  else s.keyLegal

/-- UPDATE: `buf` is the argument buffer (R348, R349). DEDUCED, log entry 90. -/
def lmpUpdate (rsv arg : Nat) (buf : List Byte) (s : State) : State :=
  have b := s.lmpArg buf
  s.runCmd lmpCmdReg 0x03 rsv arg
    (verdict (decide (arg = 0) && s.lmpAligned) (s.updateLegal b))
    (fun s =>
      have kind := byteAt b 6
      have slot := leAt b 0x0A 2
      if s.hst.gen = 0 then s.lmpStart { code := 3, slot := slot, result := 0x1C }
      else
        match s.updateCheck b with
        | (1, m) =>
          if kind = 1 then
            s.lmpStart { code := 3, slot := slot, kind := 2, keyId := leAt b 0x20 4, typ := byteAt b 7,
                         origin := 4, counter := leAt b 0x0C 4, mat := m }
          else if kind = 2 then
            s.lmpStart { code := 3, slot := slot, kind := 3, counter := leAt b 0x0C 4 }
          else s.lmpStart { code := 3, slot := 0xFFFF, kind := 4, life := kind, counter := leAt b 0x0C 4 }
        | (r, _) => s.lmpStart { code := 3, slot := slot, result := r })

/-- LMP_UPDATE (R349). -/
def execLmpUpdate (dt : Nat) (rsv : BitVec 8) (arg : BitVec 16) (buf : List Byte) (s : State) : Result :=
  .next (lmpUpdate rsv.toNat arg.toNat buf (s.elapse dt))

/-- CLEAR (R346, R347). -/
def lmpClear (rsv arg : Nat) (s : State) : State :=
  s.runCmd lmpCmdReg 0x04 rsv arg
    (verdict (decide (arg < 1024) && s.lmpAligned) (s.keyLegal && s.atomic arg))
    (fun s => s.lmpStart { code := 4, slot := arg, kind := 3 })

/-- LMP_CLEAR (R347). -/
def execLmpClear (dt : Nat) (rsv : BitVec 8) (arg : BitVec 16) (s : State) : Result :=
  .next (lmpClear rsv.toNat arg.toNat (s.elapse dt))

/-- TYPE, USAGE, KEY_ID, ORIGIN and public key that ATTEST and READ_PUBLIC report (R353, R354). -/
structure KeyView where
  typ : Nat
  usage : Nat
  keyId : Nat
  origin : Nat
  pub : List Byte
  ok : Bool
deriving DecidableEq, Repr

/-- What is reported of a slot, or of the IDevID key for 0x3FF (R353). -/
def State.keyView (s : State) (slot : Nat) : KeyView :=
  if slot = 0x3FF then
    { typ := 5, usage := 4, keyId := 0, origin := 1, pub := ecPublic 384 s.lmp.idevScalar, ok := true }
  else
    have k := s.key slot
    { typ := k.typ, usage := s.keyUsage slot, keyId := k.keyId, origin := k.origin,
      pub := pubOf k.typ k.usage k.cur.mat, ok := decide (k.typ ≠ 0) && !k.bad }

/-- The attestation statement with its signature (R353). -/
def State.attestation (s : State) (slot : Nat) (nonce : List Byte) : List Byte :=
  have v := s.keyView slot
  have g := match s.keyGroup slot with
    | none => 64
    | some g => g
  have counter := if slot = 0x3FF ∨ g = 64 then 0 else tget s.lmp.counters g 0
  have ver := 0x00024300 + s.glb.variant * 2 ^ 24
  have body := ascii "GATT" ++ leBytes 1 2 ++ leBytes v.typ 1 ++ leBytes v.usage 1 ++
    leBytes s.recId 2 ++ leBytes slot 2 ++ leBytes v.origin 1 ++
    leBytes (1 + 2 * b2n v.ok + 4 * b2n (decide (s.lmp.mode = 0))) 1 ++ leBytes s.lmp.life 1 ++ [0#8] ++
    leBytes v.keyId 4 ++ leBytes counter 4 ++ padTo s.lmp.deviceId 16 ++ padTo nonce 32 ++
    leBytes (if s.time.stepped then secOf s.now else 0) 8 ++ leBytes ver 4 ++
    leBytes (match s.img.run with
      | none => 0
      | some im => im.gen) 4 ++ padTo v.pub 96
  body ++ (List.range 96).map (Config.ecdsaSign 384 s.lmp.idevScalar (sha384 body))

/-- ATTEST and READ_PUBLIC are legal: after BOOT stage 3, in MASKED for 0x3FF only (R343, R354). -/
def State.viewLegal (s : State) (slot : Nat) : Bool :=
  s.afterStage 3 && (decide (s.lmp.mode ≠ 0) || decide (slot = 0x3FF))

/-- ATTEST: `buf` is the argument buffer, whose first 32 bytes are the nonce (R353). -/
def lmpAttest (rsv arg : Nat) (buf : List Byte) (s : State) : State :=
  s.runCmd lmpCmdReg 0x05 rsv arg
    (verdict (decide (arg < 1024) && s.lmpAligned && s.lmpFits 280) (s.viewLegal arg))
    (fun s =>
      if s.hst.gen = 0 then s.lmpStart { code := 5, slot := arg, result := 0x1C }
      else if (s.keyView arg).ok then
        s.lmpStart { code := 5, slot := arg, out := s.attestation arg (s.lmpArg buf) }
      else s.lmpStart { code := 5, slot := arg, result := 0x18 })

/-- ATTEST (R353). -/
def execAttest (dt : Nat) (rsv : BitVec 8) (arg : BitVec 16) (buf : List Byte) (s : State) : Result :=
  .next (lmpAttest rsv.toNat arg.toNat buf (s.elapse dt))

/-- READ_PUBLIC (R354). -/
def lmpReadPublic (rsv arg : Nat) (s : State) : State :=
  s.runCmd lmpCmdReg 0x06 rsv arg
    (verdict (decide (arg < 1024) && s.lmpAligned && s.lmpFits 104) (s.viewLegal arg))
    (fun s =>
      have v := s.keyView arg
      if v.ok then
        s.lmpStart { code := 6, slot := arg,
                     out := leBytes v.keyId 4 ++ leBytes v.typ 1 ++ [0#8, 0#8, 0#8] ++ padTo v.pub 96 }
      else s.lmpStart { code := 6, slot := arg, result := 0x18 })

/-- READ_PUBLIC (R354). -/
def execReadPublic (dt : Nat) (rsv : BitVec 8) (arg : BitVec 16) (s : State) : Result :=
  .next (lmpReadPublic rsv.toNat arg.toNat (s.elapse dt))

/-- READ_CERT (R354). -/
def lmpReadCert (rsv arg : Nat) (s : State) : State :=
  have der := (tget s.lmp.certs arg {}).der
  s.runCmd lmpCmdReg 0x07 rsv arg
    (verdict (decide (arg < 16) && s.lmpAligned && s.lmpFits der.length) (s.afterStage 3))
    (fun s => s.lmpStart { code := 7, slot := 0, out := der })

/-- READ_CERT (R354). -/
def execReadCert (dt : Nat) (rsv : BitVec 8) (arg : BitVec 16) (s : State) : Result :=
  .next (lmpReadCert rsv.toNat arg.toNat (s.elapse dt))

/-- STORE_CERT: `buf` holds SLOT and the DER bytes. A certificate whose key is not the slot's is refused
(R352). -/
def lmpStoreCert (rsv arg : Nat) (buf : List Byte) (s : State) : State :=
  have b := s.lmpArg buf
  have slot := leAt b 0 2
  have der := b.drop 4
  have pub := pubOf (s.key slot).typ (s.key slot).usage (s.key slot).cur.mat
  have same := s.keyUsable slot 4 && decide ((List.range pub.length).map (Config.certKey der) = pub)
  s.runCmd lmpCmdReg 0x08 rsv arg
    (verdict (decide (2 ≤ arg) && decide (arg < 16) && s.lmpAligned && decide (slot < 1024) && same)
      s.keyLegal)
    (fun s =>
      if s.hst.gen = 0 then s.lmpStart { code := 8, slot := slot, result := 0x1C }
      else s.lmpStart { code := 8, slot := slot, cert := some (arg, { der := der, slot := slot }) })

/-- STORE_CERT (R352). -/
def execStoreCert (dt : Nat) (rsv : BitVec 8) (arg : BitVec 16) (buf : List Byte) (s : State) : Result :=
  .next (lmpStoreCert rsv.toNat arg.toNat buf (s.elapse dt))

/-- The usage class of an OPERATE operation (R355). -/
def opClass (op : Nat) : Nat :=
  match op with
  | 1 => 4
  | 2 => 5
  | 3 => 6
  | 4 => 7
  | 5 => 0
  | 6 => 1
  | _ => 3

/-- OPERATE on a usable key: the result and the output (R355). -/
def operateOn (op : Nat) (k : KeySlot) (input aux : List Byte) : Nat × List Byte :=
  have mat := k.cur.mat
  have iv := aux.take 12
  match op with
  | 1 =>
    if input.length ≠ 32 ∧ input.length ≠ 48 then (0x10, [])
    else
      have n := curveOf k.typ / 8
      (1, (List.range (2 * n)).map (Config.ecdsaSign (curveOf k.typ) (beAt mat 0 n) input))
  | 2 => if Config.ecdsaVerify (curveOf k.typ) (pubOf k.typ 5 mat) input aux then (1, []) else (0x1B, [])
  | 3 => if k.typ = 3 then (1, hmacSha256 mat input) else (1, gcmTag mat iv input [])
  | 4 =>
    have tag := if k.typ = 3 then aux else aux.drop 12
    have want := if k.typ = 3 then hmacSha256 mat input else gcmTag mat iv input []
    if tag ≠ [] ∧ tag = want.take tag.length then (1, []) else (0x1B, [])
  | 5 => have ct := gcmCrypt mat iv input; (1, ct ++ gcmTag mat iv (aux.drop 12) ct)
  | 6 =>
    match gcmOpen mat iv (aux.drop 12) (input.take (input.length - 16)) (input.drop (input.length - 16)) with
    | none => (0x1B, [])
    | some p => (1, p)
  | 7 =>
    if k.typ = 6 ∧ input.length = 64 then
      (1, (List.range 32).map (Config.ecdh (beAt mat 0 32) input)) else (0x18, [])
  | _ => if k.typ = 3 then (1, hmacSha256 mat input) else (0x18, [])

/-- The bytes that an OPERATE operation writes at most. -/
def operateLen (op typ n : Nat) : Nat :=
  match op with
  | 1 => curveOf typ / 4
  | 3 => if typ = 3 then 32 else 16
  | 5 => n + 16
  | 6 => n - 16
  | 7 => 32
  | 8 => 32
  | _ => 0

/-- OPERATE: `buf` is the argument buffer (R355). -/
def lmpOperate (rsv arg : Nat) (buf : List Byte) (s : State) : State :=
  have b := s.lmpArg buf
  have op := byteAt b 0
  have slot := leAt b 2 2
  have inLen := leAt b 4 4
  have auxLen := leAt b 8 2
  s.runCmd lmpCmdReg 0x09 rsv arg
    (verdict (decide (arg = 0) && s.lmpAligned && decide (slot < 1024) &&
      s.lmpFits (operateLen op (s.key slot).typ inLen)) s.keyLegal)
    (fun s =>
      if s.hst.gen = 0 then s.lmpStart { code := 9, slot := slot, result := 0x1C }
      else if op = 0 ∨ op > 8 ∨ inLen + auxLen > 4080 ∨ b.length < 16 + inLen + auxLen then
        s.lmpStart { code := 9, slot := slot, result := 0x10 }
      else if s.keyUsable slot (opClass op) then
        let (r, o) := operateOn op (s.key slot) (slice b 16 inLen) (slice b (16 + inLen) auxLen)
        s.lmpStart { code := 9, slot := slot, result := r, out := o }
      else s.lmpStart { code := 9, slot := slot, result := 0x18 })

/-- OPERATE (R355). -/
def execOperate (dt : Nat) (rsv : BitVec 8) (arg : BitVec 16) (buf : List Byte) (s : State) : Result :=
  .next (lmpOperate rsv.toNat arg.toNat buf (s.elapse dt))

/-- PROVISION: `buf` holds MODULE_ID and the owner's keys (R337, R354). -/
def lmpProvision (rsv arg : Nat) (buf : List Byte) (s : State) : State :=
  have b := s.lmpArg buf
  s.runCmd lmpCmdReg 0x0A rsv arg
    (verdict (decide (arg = 0) && s.lmpAligned)
      (decide (s.lmp.life = 1) && decide (s.lmp.mode = 1) &&
        (decide (s.glb.mode = .commission) || decide (s.glb.mode = .maintenance) || decide (s.glb.mode = .degraded))))
    (fun s =>
      if s.hst.gen = 0 then s.lmpStart { code := 10, slot := 0, result := 0x1C }
      else if b.length < 196 then s.lmpStart { code := 10, slot := 0, result := 0x10 }
      else s.lmpStart { code := 10, slot := 0, life := 2, provision := some b })

/-- PROVISION (R337). -/
def execProvision (dt : Nat) (rsv : BitVec 8) (arg : BitVec 16) (buf : List Byte) (s : State) : Result :=
  .next (lmpProvision rsv.toNat arg.toNat buf (s.elapse dt))

/-- DEPLOY (R337). -/
def lmpDeploy (rsv arg : Nat) (s : State) : State :=
  s.runCmd lmpCmdReg 0x0B rsv arg
    (verdict (decide (arg = 0) && s.lmpAligned)
      (decide (s.lmp.life = 2) && decide (s.lmp.mode = 1) && s.img.loaded))
    (fun s => s.lmpStart { code := 11, slot := 0, life := 3 })

/-- DEPLOY (R337). -/
def execDeploy (dt : Nat) (rsv : BitVec 8) (arg : BitVec 16) (s : State) : Result :=
  .next (lmpDeploy rsv.toNat arg.toNat (s.elapse dt))

/-! ### Completion (R337, R347, R354) -/

/-- RESULT and SLOT of the command that ends. -/
def State.lmpResult (s : State) (r slot : Nat) (used : Nat) : State :=
  { s with lmp := { s.lmp with result := r, resultSlot := slot % 1024, used := used, job := none } }

/-- The life cycle changes (R337). -/
def State.lifeChange (s : State) (life : Nat) : State :=
  ({ s with lmp := { s.lmp with life := life } }).raiseRec 612 0x3FF

/-- The effects of LIFECYCLE_RETURN (kind 3) and LIFECYCLE_DECOMMISSION (kind 4) (R337). -/
def State.lifeUpdate (s : State) (kind : Nat) : State :=
  have l := s.lmp
  if kind = 3 then
    ({ s with
        lmp := { (l.drawn 32) with
        ownerRoot := [], slots := [], ownerKey := [], returnRoot := l.random 32
        certs := l.certs.filter (fun (e : Nat × Cert) => decide (e.1 < 2)) } }).lifeChange 4
  else
    ({ s with
        lmp := { l with
        factoryRoot := [], ownerRoot := [], returnRoot := [], slots := [], ownerKey := [], authKey := []
        fwKey := [], factoryKey := [], idevScalar := 0, certs := [] } }).lifeChange 5

/-- A commit record of the key journal (R349). -/
def journalRec (seq slot group kind copy counter keyId : Nat) (tag : List Byte) (sec id : Nat) :
    List Byte :=
  have body := ascii "GKJR" ++ leBytes seq 4 ++ leBytes slot 2 ++ leBytes group 1 ++ leBytes kind 1 ++
    leBytes copy 1 ++ [0#8, 0#8, 0#8] ++ leBytes counter 4 ++ leBytes keyId 4 ++ padTo tag 8 ++ leBytes sec 8 ++
    leBytes id 2 ++ List.replicate 18 0
  body ++ leBytes (crc32 body).toNat 4

/-- The journal takes a record: a ring of 8,128 (R349). -/
def State.journalPut (s : State) (r : List Byte) : State :=
  have j := s.lmp.journal ++ [r]
  { s with lmp := { s.lmp with journal := j.drop (j.length - 8128), journalSeq := (s.lmp.journalSeq + 1) % 2 ^ 32 } }

/-- The slot that a replacement or a clear leaves (R347): the copy not in use takes the new material. -/
def State.keyAfter (s : State) (j : LmpJob) (copy seq : Nat) : KeySlot :=
  if j.kind = 3 then { applied := seq }
  else
    have fresh := { s.key j.slot with keyId := j.keyId, typ := j.typ, usage := s.keyUsage j.slot, origin := j.origin }
    have c : KeyCopy := { mat := j.mat, tag := keyTag s.lmp.integKey j.slot copy fresh j.mat }
    { fresh with
        sel := copy, a := if copy = 0 then c else {}, b := if copy = 1 then c else {},
        applied := seq, bad := false, mismatch := false }

/-- The journal record of a replacement, a clear or a life-cycle update (R347, R337). -/
def State.keyRecord (s : State) (j : LmpJob) (copy seq : Nat) : List Byte :=
  have g := if j.kind = 4 then 64 else (s.keyGroup j.slot).getD 64
  have fresh := { s.key j.slot with keyId := j.keyId, typ := j.typ, usage := s.keyUsage j.slot, origin := j.origin }
  journalRec seq j.slot g j.kind (if j.kind ≥ 3 then 0xFF else copy) j.counter j.keyId
    (if j.kind ≥ 3 then [] else keyTag s.lmp.integKey j.slot copy fresh j.mat) (secOf s.now) s.recId

/-- The counter of a command, where it carries one, becomes its group's counter. -/
def State.keyCounter (s : State) (j : LmpJob) : State :=
  if j.counter = 0 then s
  else
    have g := if j.kind = 4 then 64 else (s.keyGroup j.slot).getD 64
    { s with lmp := { s.lmp with counters := tset s.lmp.counters g j.counter 0 } }

/-- Steps 3 to 5 of a replacement or a clear (R347), and a life-cycle update (R337). -/
def State.keyCommit (s : State) (j : LmpJob) : State :=
  have copy := if (s.key j.slot).sel = 0 then 1 else 0
  have seq := (s.lmp.journalSeq + 1) % 2 ^ 32
  have k := s.keyAfter j copy seq
  have s := (s.journalPut (s.keyRecord j copy seq)).keyCounter j
  if j.kind = 4 then s.lifeUpdate j.life
  else (({ s with lmp := s.lmp.eraseCerts j.slot }).setKey j.slot k).raiseRec 610 j.slot

/-- A replacement or clear reaches its commit. `readback` is the check of step 2, `journal` whether the
commit record could be written (R347). DEDUCED, log entry 91. -/
def keyReplaceDone (readback journal : Bool) (s : State) : State :=
  match s.lmp.job with
  | none => s
  | some j =>
    if j.kind = 0 then s
    else if !readback ∧ j.kind < 3 then (s.lmpResult 0x17 j.slot 0).cmdDone lmpCmdReg
    else if !journal then (s.lmpResult 0x19 j.slot 0).cmdDone lmpCmdReg
    else ((s.keyCommit j).lmpResult 1 j.slot 0).cmdDone lmpCmdReg

/-- KEY_REPLACE_DONE (R347). -/
def execKeyReplaceDone (dt : Nat) (readback journal : Bool) (s : State) : Result :=
  .next (keyReplaceDone readback journal (s.elapse dt))

/-- PROVISION takes effect (R337). -/
def State.provision (s : State) (b : List Byte) : State :=
  have l := s.lmp
  ({ s with
      lmp := { (l.drawn 32) with
      ownerRoot := l.random 32, boundId := leAt b 0 2, ownerKey := slice b 4 96, authKey := slice b 100 96 } }).lifeChange 2

/-- Any other accepted command ends (R354). DEDUCED, log entry 91. -/
def lmpOperationDone (s : State) : State :=
  match s.lmp.job with
  | none => s
  | some j =>
    if j.kind ≠ 0 then s
    else
      have s := if j.code = 3 ∧ j.result ≠ 0x1C then s.raiseRec 611 j.slot else s
      have s := match j.cert with
        | some (e, c) => if j.result = 1 then { s with lmp := { s.lmp with certs := tset s.lmp.certs e c {} } } else s
        | none => s
      have s := match j.provision with
        | some b => s.provision b
        | none => if j.code = 11 then s.lifeChange 3 else s
      have send := decide (j.result = 1) && decide (s.hst.gen ≠ 0)
      have s := if send && !j.out.isEmpty then
          s.emit (.dma 0 ((s.rd 0x900020).toNat + 2 ^ 32 * (s.rd 0x900024).toNat) j.out) else s
      have r := if j.result = 1 ∧ j.out ≠ [] ∧ s.hst.gen = 0 then 0x1C else j.result
      (s.lmpResult r j.slot (if send then j.out.length else 0)).cmdDone lmpCmdReg

/-- LMP_OPERATION_DONE (R354). -/
def execLmpOperationDone (dt : Nat) (s : State) : Result := .next (lmpOperationDone (s.elapse dt))

/-- A job that reads or writes PF0 memory ends with DMA_ERROR; a replacement that no longer needs it
completes (R398). DEDUCED, log entry 91. -/
def State.lmpAbort (s : State) : State :=
  match s.lmp.job with
  | none => s
  | some j => if j.kind = 0 ∧ j.code ≠ 11 then (s.lmpResult 0x1C j.slot 0).cmdDone lmpCmdReg else s

/-- A write to LMP_CMD; `buf` is the argument buffer in PF0 memory. -/
def lmpCommand (code rsv arg : Nat) (buf : List Byte) (s : State) : State :=
  match code with
  | 1 => lmpGenerate rsv arg s
  | 2 => lmpImport rsv arg buf s
  | 3 => lmpUpdate rsv arg buf s
  | 4 => lmpClear rsv arg s
  | 5 => lmpAttest rsv arg buf s
  | 6 => lmpReadPublic rsv arg s
  | 7 => lmpReadCert rsv arg s
  | 8 => lmpStoreCert rsv arg buf s
  | 9 => lmpOperate rsv arg buf s
  | 10 => lmpProvision rsv arg buf s
  | 11 => lmpDeploy rsv arg s
  | _ => s.badCode lmpCmdReg code rsv arg

/-- FACTORY_MANUFACTURE: the keys and certificates that Dilvarus installs (R337). -/
def factoryManufacture (fw factory cert0 cert1 : List Byte) (s : State) : State :=
  have l := s.lmp
  if l.life = 0 then
    have root := l.random 32
    ({ s with
        lmp := { (l.drawn 32) with
        factoryRoot := root, idevScalar := idevScalar root, fwKey := fw, factoryKey := factory
        certs := tset (tset l.certs 0 { der := cert0 } {}) 1 { der := cert1 } {} } }).lifeChange 1
  else if l.life = 4 then
    have l := { l with returnRoot := [] }
    have l := if l.factoryRoot = [] then
        { (l.drawn 32) with factoryRoot := l.random 32, idevScalar := idevScalar (l.random 32), zeroed := false
                            fwKey := fw, factoryKey := factory
                            certs := tset (tset l.certs 0 { der := cert0 } {}) 1 { der := cert1 } {} }
      else l
    ({ s with lmp := l }).lifeChange 1
  else s

/-- FACTORY_MANUFACTURE (R337). -/
def execFactoryManufacture (dt : Nat) (fw factory cert0 cert1 : List Byte) (s : State) : Result :=
  .next (factoryManufacture fw factory cert0 cert1 (s.elapse dt))

/-! ### BOOT and tamper (R338, R339, R350) -/

/-- BOOT stage 3: derivation and the integrity engine's self-test (R338, R343). -/
def State.lampBoot (s : State) (selfTest : Bool) : State :=
  have l := s.lmp
  have l := { l with
                    integKey := kdf l.root "GLV-INTEG" l.kdfId 1, integFail := !selfTest
                    mode := if l.zeroed then 2 else if selfTest then 1 else 0 }
  have s := { s with lmp := l }
  if l.mode = 0 then s.raiseRec 613 0x3FF else s

/-- A complete record: MAGIC, CRC and MODULE_ID are correct (R350). -/
def journalComplete (id : Nat) (r : List Byte) : Bool :=
  decide (slice r 0 4 = ascii "GKJR") && decide (leAt r 0x3C 4 = (crc32 (slice r 0 0x3C)).toNat) &&
    decide (leAt r 0x28 2 = id)

/-- BOOT stage 9: the key journal (R350). -/
def State.journalResolve (s : State) : State :=
  (s.lmp.journal.filter (journalComplete s.recId)).foldl (fun s r =>
    have slot := leAt r 8 2
    have seq := leAt r 4 4
    have g := byteAt r 0x0A
    have c := max (tget s.lmp.counters g 0) (leAt r 0x10 4)
    have s := { s with lmp := { s.lmp with counters := tset s.lmp.counters g c 0 } }
    if slot < 1024 ∧ seq > (s.key slot).applied then
      have k := s.key slot
      have copy := byteAt r 0x0C
      have s := if copy = 0xFF then s.setKey slot { applied := seq }
        else s.setKey slot { k with
            sel := copy, applied := seq, keyId := leAt r 0x14 4,
            a := if copy = 0 then k.a else {}, b := if copy = 1 then k.b else {} }
      s.logPut 0x000D 0x0C slot slot seq copy
    else s) s

/-- The roots are zeroed and the sensor is latched (R339). -/
def State.tamperLatch (s : State) (sensor : Nat) : State :=
  have l := s.lmp
  { s with
      lmp := { l with
      factoryRoot := [], ownerRoot := [], returnRoot := [], zeroed := true, mode := 2
      sensors := l.sensors ||| 2 ^ sensor, tampers := min 65535 (l.tampers + 1) } }

/-- A sensor that is heeded: LID and LIGHT are ignored in BLANK and MANUFACTURED (R339). -/
def State.tamperHeeded (s : State) (sensor : Nat) : Bool :=
  !((decide (sensor = 1) || decide (sensor = 5)) && decide (s.lmp.life ≤ 1))

end Sys2Proof.Machine
end

