-- ==== Sys2Proof/Machine/Img.lean ====
section
/-!
DEFINITION. Family: the station image and the settings (R57 to R83).
-/

namespace Sys2Proof.Machine

open Sys2Proof

/-! ### Parsing (R57 to R62) -/

/-- A directory entry (R60, R61). -/
structure DirEntry where
  typ : Nat
  inst : Nat
  flags : Nat
  cver : Nat
  gen : Nat
  off : Nat
  len : Nat
  digest : List Byte
deriving DecidableEq, Repr

/-- FORMAT_VERSION of image bytes. -/
def imgFmt (b : List Byte) : Nat := leAt b 4 2

/-- IMAGE_GENERATION of image bytes. -/
def imgGen (b : List Byte) : Nat := leAt b 0x10 4

/-- The bytes of one directory entry. -/
def dirSize (b : List Byte) : Nat := if imgFmt b = 1 then 16 else 32

/-- Directory entry `i`. -/
def dirEntry (b : List Byte) (i : Nat) : DirEntry :=
  have o := 0x100 + dirSize b * i
  if imgFmt b = 1 then
    { typ := leAt b o 2, inst := leAt b (o + 2) 2, flags := 0, cver := 1, gen := imgGen b,
      off := leAt b (o + 4) 4, len := leAt b (o + 8) 4, digest := slice b (o + 12) 4 }
  else
    { typ := leAt b o 2, inst := leAt b (o + 2) 2, flags := leAt b (o + 4) 2, cver := leAt b (o + 6) 2,
      gen := leAt b (o + 8) 4, off := leAt b (o + 12) 4, len := leAt b (o + 16) 4, digest := slice b (o + 20) 12 }

/-- The directory of image bytes. -/
def imgDir (b : List Byte) : List DirEntry := (List.range (leAt b 0x0E 2)).map (dirEntry b)

/-- The image that bytes hold. -/
def imgParse (b : List Byte) : Image :=
  { fmt := imgFmt b
    flags := leAt b 0x50 4
    gen := imgGen b
    sections := (imgDir b).map (fun e =>
      { typ := e.typ, inst := e.inst, flags := e.flags, cver := e.cver, gen := e.gen, digest := e.digest,
        body := slice b (e.off + 16) (e.len - 16) }) }

/-! ### Verification (R64, R65, R282) -/

/-- The outcome of verification: the failing result code with the directory index and type of IMG_REJECT_INFO,
or the image. -/
inductive Verified where
  | bad (code idx typ : Nat)
  | ok (im : Image)
deriving DecidableEq, Repr

/-- Bytes of a range are 0. -/
def zeros (b : List Byte) (off n : Nat) : Bool := (slice b off n).all (fun x => decide (x = 0))

/-- Check 1 of R65. -/
def headerOk (b : List Byte) : Bool :=
  decide (b.take 4 = [0x47#8, 0x4C#8, 0x56#8, 0x49#8]) && decide (1 ≤ imgFmt b) && decide (imgFmt b ≤ 2) &&
    decide (leAt b 6 2 = 0x100) && decide (leAt b 0x18 4 = 0x100) && decide (leAt b 0x14 4 = b.length) &&
    decide (b.length % 64 = 0) && decide (b.length ≤ 268435456) && decide (384 ≤ b.length)

/-- Check 2 of R65: module type, variant and stepping C0. -/
def State.moduleOk (s : State) (b : List Byte) : Bool :=
  decide (leAt b 8 2 = 0x9640) && decide (leAt b 0x0A 2 / 2 ^ (s.glb.variant - 1) % 2 = 1) &&
    (decide (byteAt b 0x0C < 0x43) || (decide (byteAt b 0x0C = 0x43) && decide (byteAt b 0x0D = 0)))

/-- The key that verifies images (R59). DEDUCED, log entry 41. -/
def State.imageKey (s : State) : Option (List Byte) :=
  if s.lmp.life = 2 ∨ s.lmp.life = 3 then some s.lmp.ownerKey
  else if s.lmp.life = 1 then some s.lmp.factoryKey
  else none

/-- Check 3 of R65: the signature block and the signature (R59). DEDUCED, log entry 41. -/
def State.signatureOk (s : State) (b : List Byte) : Bool :=
  have g := b.drop (b.length - 128)
  match s.imageKey with
  | none => false
  | some k =>
    decide (g.take 4 = [0x47#8, 0x53#8, 0x49#8, 0x47#8]) && decide (leAt g 4 2 = 1) && zeros g 6 2 &&
      decide (slice g 8 8 = slice b 0x48 8) && zeros g 0x70 16 &&
      Config.ecdsaVerify 384 k (sha384 (b.take 256)) (slice g 0x10 96)

/-- Check 4 of R65: DIGEST over directory and sections. -/
def digestOk (b : List Byte) : Bool :=
  decide (sha256 ((b.drop 0x100).take (b.length - 128 - 0x100)) = slice b 0x60 32)

/-- The instances of a section type and whether it is hot-reloadable (R63). -/
def typeInstances (t : Nat) : Nat :=
  match t with
  | 5 => 256
  | 6 => 256
  | 8 => 512
  | 9 => 1024
  | 0xC => 16
  | _ => 1

/-- A section type may carry HOT_RELOAD (R63). -/
def typeHot (t : Nat) : Bool := [5, 6, 8, 9, 0xC, 0xD].contains t

/-- The single section types, of which each image holds one (R63, R64). -/
def singleTypes : List Nat := [1, 2, 3, 4, 7, 0xA, 0xB, 0xD, 0xE, 0xF, 0x10, 0x11, 0x12]

/-- One relocation entry of a program object (R280 to R282). -/
def relocOk (code cons : List Byte) (e : List Byte) : Bool :=
  have off := leAt e 0 3
  have area := if byteAt e 3 / 128 = 1 then cons else code
  have kind := byteAt e 5
  have w2 := leAt area (off + 4) 4
  decide (byteAt e 3 % 128 = 0) && decide (byteAt e 4 ≤ 2) && decide (1 ≤ kind) && decide (kind ≤ 3) &&
    decide (leAt e 6 2 = 0) &&
    (if kind = 1 then decide (off + 4 ≤ area.length)
     else
       decide (off + 8 ≤ area.length) && decide (bits (leAt area off 4) 0 7 = 0x37) &&
         (if kind = 2 then
            ([0x03, 0x13, 0x67, 0x07].contains (bits w2 0 7) ||
              (decide (bits w2 0 7 = 0x5B) && [3, 5].contains (bits w2 12 3)))
          else
            ([0x23, 0x27].contains (bits w2 0 7) ||
              (decide (bits w2 0 7 = 0x5B) && [4, 6].contains (bits w2 12 3)))))

/-- A program object is well formed for a settings length (R280, R282). -/
def objOk (o : List Byte) (setLen : Nat) : Bool :=
  have cs := objCode o
  have ks := objCons o
  have n := leAt o 0x20 4
  have code := slice o 64 cs
  have k0 := 64 + alignUp cs 4
  have cons := slice o k0 ks
  decide (o.take 4 = [0x47#8, 0x4B#8, 0x50#8, 0x4F#8]) && decide (leAt o 4 2 = 1) && decide (leAt o 6 2 < 16) &&
    decide (2 ≤ cs) && decide (cs ≤ 131008) && decide (cs % 2 = 0) && decide (ks ≤ 65536) && decide (ks % 4 = 0) &&
    decide (leAt o 0x10 4 < cs) && decide (leAt o 0x10 4 % 2 = 0) && decide (objState o ≤ 8192) &&
    decide (objState o % 32 = 0) && decide (leAt o 0x1C 4 ≤ 16384) && decide (leAt o 0x1C 4 % 16 = 0) &&
    decide (n ≤ 16384) && decide (leAt o 0x24 4 ≤ setLen) && zeros o 0x2C 20 &&
    decide (o.length = k0 + ks + 8 * n) && zeros o (64 + cs) (alignUp cs 4 - cs) &&
    decide ((crc32 code).toNat = leAt o 0x28 4) &&
    (List.range n).all (fun i => relocOk code cons (slice o (k0 + ks + 8 * i) 8))

/-- AREA_LENGTH of an area under a SETTINGS_LAYOUT body (R64). -/
def areaLen (layout : List Byte) (n : Nat) : Nat := leAt layout (16 * n) 4

/-- A FUNCTION body is well formed (R280, R282). A placeholder's is empty. -/
def functionOk (layout b : List Byte) (inst : Nat) : Bool :=
  if b.isEmpty then true
  else
    have area := byteAt b 8
    have so := leAt b 0x0C 4
    have sl := leAt b 0x10 4
    have d := leAt b 0x14 4
    have oo := leAt b 0x18 4
    have ol := leAt b 0x1C 4
    have io := leAt b 0x20 4
    have o := slice b oo ol
    decide (64 ≤ b.length) && decide (leAt b 0 2 = inst) && zeros b 2 2 && decide (256 ≤ leAt b 4 4) &&
      decide (leAt b 4 4 ≤ 262144) && (decide (area < 64) || decide (area = 0xFF)) && zeros b 9 3 &&
      decide (so % 4 = 0) && decide (sl ≤ 16384) && decide (sl % 4 = 0) &&
      (decide (area = 0xFF) || decide (so + sl ≤ areaLen layout area)) &&
      decide (d % 8 = 0) && decide (oo % 8 = 0) && decide (io % 8 = 0) && decide (d + sl ≤ b.length) &&
      decide (oo + ol ≤ b.length) && decide (io + objState o ≤ b.length) && zeros b 0x24 4 && zeros b 0x38 8 &&
      objOk o sl

/-- Framing of a section against its directory entry (R62). -/
def framingOk (b : List Byte) (e : DirEntry) : Bool :=
  decide (leAt b e.off 2 = e.typ) && decide (leAt b (e.off + 2) 2 = e.inst) && decide (leAt b (e.off + 4) 4 = e.gen) &&
    decide (leAt b (e.off + 8) 4 + 16 = e.len) && decide (leAt b (e.off + 12) 2 = e.cver) && zeros b (e.off + 14) 2

/-- One section's entry, framing, digest and FUNCTION body (R60 to R64, R282). -/
def sectionOk (b layout : List Byte) (e : DirEntry) : Bool :=
  have bytes := slice b e.off e.len
  decide (1 ≤ e.typ) && decide (e.typ ≤ 0x12) && decide (e.inst < typeInstances e.typ) && decide (e.flags < 4) &&
    (typeHot e.typ || decide (e.flags % 2 = 0)) && decide (e.gen ≤ imgGen b) && decide (1 ≤ e.gen) &&
    decide (e.off % 64 = 0) && decide (16 ≤ e.len) && decide (e.off + e.len ≤ b.length - 128) && framingOk b e &&
    (decide (e.flags / 2 = 0) || decide (e.len = 16)) &&
    (if imgFmt b = 1 then decide ((crc32 bytes).toNat = leAt e.digest 0 4)
     else decide ((sha256 bytes).take 12 = e.digest)) &&
    (decide (e.typ ≠ 8) || functionOk layout (slice b (e.off + 16) (e.len - 16)) e.inst)

/-- The first failing directory index of check 5, none where all pass: order, overlap and each section. -/
def dirFail (b layout : List Byte) (dir : List DirEntry) (i key end_ : Nat) : Option (Nat × Nat) :=
  match dir with
  | [] => none
  | e :: r =>
    have k := e.typ * 65536 + e.inst + 1
    if k ≤ key ∨ e.off < end_ ∨ sectionOk b layout e = false then some (i, e.typ)
    else dirFail b layout r (i + 1) k (e.off + e.len)

/-- A section type appears exactly once. -/
def singleOnce (dir : List DirEntry) (t : Nat) : Bool :=
  decide ((dir.filter (fun e => decide (e.typ = t))).length = 1)

/-- Header fields that are reserved or fixed by the version (R58, R61). -/
def headerZero (b : List Byte) : Bool :=
  decide (leAt b 0x0A 2 < 4) && decide (leAt b 0x50 4 < 2) && zeros b 0x54 12 && zeros b 0x80 128 &&
    decide (1 ≤ imgGen b) && decide (imgGen b ≤ 0xFFFFFFFE) && decide (1 ≤ leAt b 0x0E 2) &&
    decide (leAt b 0x0E 2 ≤ 4096) && decide (0x100 + dirSize b * leAt b 0x0E 2 ≤ b.length - 128) &&
    (decide (imgFmt b = 2) || (zeros b 0x20 40 && decide (leAt b 0x50 4 = 0)))

/-- The first failure of check 5 of R65. -/
def wellFormedFail (b : List Byte) : Option (Nat × Nat) :=
  have dir := imgDir b
  if headerZero b = false then some (0xFFFF, 0)
  else
    have layout := match dir.find? (fun e => decide (e.typ = 0x10)) with
      | none => []
      | some e => slice b (e.off + 16) (e.len - 16)
    match dirFail b layout dir 0 0 (0x100 + dirSize b * dir.length) with
    | some x => some x
    | none => if singleTypes.all (singleOnce dir) then none else some (0xFFFF, 0)

/-- The body of a section of an image. -/
def Image.body (im : Image) (typ inst : Nat) : List Byte :=
  match im.sections.find? (fun x => decide (x.typ = typ) && decide (x.inst = inst)) with
  | none => []
  | some x => x.body

/-- The directory index of a section of an image. -/
def Image.index (im : Image) (typ inst : Nat) : Nat :=
  (im.sections.findIdx? (fun x => decide (x.typ = typ) && decide (x.inst = inst))).getD 0xFFFF

/-- A PAIR_POLICY names an identifier (R21, R332). -/
def policyNames (b : List Byte) (id : Nat) : Bool :=
  decide (leAt b 0 2 = id) || (decide (byteAt b 5 / 32 % 2 = 0) && decide (leAt b 2 2 = id))

/-- RESERVE of a function's placement in a SCHEDULE body. -/
def reserveOf (b : List Byte) (f : Nat) : Option Nat :=
  ((List.range (leAt b 4 2)).find? (fun i => decide (leAt b (placeOff i) 2 = f))).map
    (fun i => leAt b (placeOff i + 8) 4)

/-- A FUNCTION section exceeds its RESERVE, or as a changed section its keeper's reload reserve (R65, R246). -/
def State.functionOver (s : State) (im : Image) (x : Section) : Bool :=
  have o := slice x.body (leAt x.body 0x18 4) (leAt x.body 0x1C 4)
  have changed := match s.img.run with
    | none => false
    | some run => (run.sections.any (fun y => decide (y.typ = 8) && decide (y.inst = x.inst) && decide (y.gen ≠ x.gen)))
  have room := leAt (s.cfg 7 0) (0x20 + 16 * (s.fn x.inst).keeper + 8) 4
  (match reserveOf (im.body 7 0) x.inst with
    | none => true
    | some r => decide (r < leAt x.body 4 4)) ||
    (changed && decide (room < alignUp (objCode o) 64))

/-- The first section over a structural limit (R22, R65, R246, R368). -/
def State.limitFail (s : State) (im : Image) : Option (Nat × Nat) :=
  have sc := { s with img := { s.img with run := some im } }
  have st := imageStreams im
  have subs := ((im.sections.filter (fun x => decide (x.typ = 6))).map (fun x => leAt x.body 0 2)).sum
  have charge := sc.galCharge
  if st.length > 2048 ∨ (st.map (fun c => c.channels * c.rate)).sum > 80000000 ∨
      (st.filter (fun c => decide (c.rate = 96000))).length > 64 ∨
      st.any (fun c => decide (c.slotBase + c.channels > 16384)) then
    some (((im.sections.findIdx? (fun x => decide (x.typ = 5))).getD 0xFFFF), 5)
  else if subs > 4096 then some (((im.sections.findIdx? (fun x => decide (x.typ = 6))).getD 0xFFFF), 6)
  else
    match im.sections.find? (fun x => decide (x.typ = 8) && !x.body.isEmpty && s.functionOver im x) with
    | some x => some (im.index 8 x.inst, 8)
    | none =>
      if charge.1 > 4000000000 * charge.2 then
        some (((im.sections.findIdx? (fun x => decide (x.typ = 0xC))).getD 0xFFFF), 0xC)
      else none

/-- Verification of image bytes: the checks of R65 in order. DEDUCED, log entry 41. -/
def State.verify (s : State) (b : List Byte) : Verified :=
  if headerOk b = false then .bad 0x10 0xFFFF 0
  else if s.moduleOk b = false then .bad 0x13 0xFFFF 0
  else if s.signatureOk b = false then .bad 0x12 0xFFFF 0
  else if digestOk b = false then .bad 0x11 0xFFFF 0
  else
    match wellFormedFail b with
    | some (i, t) => .bad 0x10 i t
    | none =>
      have im := imgParse b
      if im.gen < s.img.minGen then .bad 0x14 0xFFFF 0
      else if policyNames (im.body 0xF 0) s.lmp.boundId = false then .bad 0x13 (im.index 0xF 0) 0xF
      else
        match s.limitFail im with
        | some (i, t) => .bad 0x16 i t
        | none => .ok im

/-- The WRONG_MODULE record (R21). -/
def State.wrongModule (s : State) (b : List Byte) : State :=
  have p := (imgParse b).body 0xF 0
  s.logPut 0x000B 0x02 0x3FF s.lmp.boundId (leAt p 0 2) (leAt p 2 2)

/-! ### Boot selection (R66, R79) -/

/-- A bank. -/
def State.bank (s : State) (n : Nat) : Bank := if n = 0 then s.img.bank0 else s.img.bank1

/-- A bank with a new value. -/
def State.setBank (s : State) (n : Nat) (b : Bank) : State :=
  if n = 0 then { s with img := { s.img with bank0 := b } } else { s with img := { s.img with bank1 := b } }

/-- One bank in the selection of R66. -/
def State.tryBank (s : State) (n : Nat) : State × Bool :=
  have b := s.bank n
  match s.verify b.bytes with
  | .ok im =>
    ({ s with img := { s.img with run := some im, runBank := n } }, true)
  | .bad code i _ =>
    have s := s.setBank n { b with state := 4, failReason := code }
    have s := if code = 0x13 ∧ i ≠ 0xFFFF then s.wrongModule b.bytes else s
    (s.logPut 0x0008 0x02 n n code (imgGen b.bytes), false)

/-- Stage 8 selects a bank, and marks every bank found in WRITING or PENDING INVALID (R66). -/
def State.selectBank (s : State) : State × Bool :=
  have v0 := decide (s.img.bank0.state = 3)
  have v1 := decide (s.img.bank1.state = 3)
  have g0 := imgGen s.img.bank0.bytes
  have g1 := imgGen s.img.bank1.bytes
  have s := if v0 && v1 && decide (g0 = g1) then s.logPut 0x0009 0x02 0x3FF g0 0 0 else s
  have order := (if v0 ∧ (v1 = false ∨ g1 ≤ g0) then [0] else []) ++ (if v1 then [1] else []) ++
    (if v0 ∧ v1 ∧ g0 < g1 then [0] else [])
  let (s, ok) := order.foldl (fun (a : State × Bool) n => if a.2 then a else a.1.tryBank n) (s, false)
  have s := [0, 1].foldl (fun s n =>
    have b := s.bank n
    if b.state = 1 ∨ b.state = 2 then s.setBank n { b with state := 4 } else s) s
  ({ s with img := { s.img with cand := none } }, ok)

/-- A settings journal record is correct (R79). -/
def journalOk (r : List Byte) : Bool :=
  decide (r.take 4 = [0x47#8, 0x4A#8, 0x52#8, 0x4E#8]) && decide ((crc32 (r.take 0x3C)).toNat = leAt r 0x3C 4)

/-- Stage 9 sets the selection and zeroes copies of later stores (R79). -/
def State.settingsResolve (s : State) : State :=
  have best := s.img.journal.foldl (fun (a : Option (List Byte)) r =>
    if journalOk r then
      match a with
      | none => some r
      | some q => if leAt q 8 8 < leAt r 8 8 then some r else some q
    else a) none
  let (seq, sel) := match best with
    | none => (0, 0)
    | some r => (leAt r 8 8, leAt r 0x18 8)
  have nvm := s.img.nvm.filter (fun (e : Nat × List Byte) =>
    decide (sel / 2 ^ (e.1 / 2) % 2 = e.1 % 2) || decide (leAt e.2 8 8 ≤ seq))
  { s with img := { s.img with storeSeq := seq, sel := sel, nvm := nvm } }

/-! ### Settings (R75 to R80) -/

/-- AREA_LENGTH of an area of the running image. -/
def State.areaLength (s : State) (n : Nat) : Nat := areaLen (s.cfg 0x10 0) n

/-- The working copy of an area. -/
def State.area (s : State) (n : Nat) : List Byte := padTo (tget s.img.areas n []) (s.areaLength n)

/-- An area of the working copy with a new value. -/
def State.setArea (s : State) (n : Nat) (b : List Byte) : State :=
  { s with img := { s.img with areas := tset s.img.areas n b [] } }

/-- An area's dirty bit. -/
def State.setDirty (s : State) (n : Nat) (v : Bool) : State :=
  have d := s.img.dirty
  have on := decide (d / 2 ^ n % 2 = 1)
  { s with img := { s.img with dirty := if on = v then d else if v then d + 2 ^ n else d - 2 ^ n } }

/-- The selected NVM copy of an area. -/
def State.nvmCopy (s : State) (n : Nat) : List Byte := tget s.img.nvm (2 * n + s.img.sel / 2 ^ n % 2) []

/-- What is wrong with an NVM copy, 0 for nothing (R80, R389). -/
def State.copyFault (s : State) (n : Nat) : Nat :=
  have c := s.nvmCopy n
  have len := s.areaLength n
  if c.take 4 ≠ [0x47#8, 0x53#8, 0x45#8, 0x54#8] then 1
  else if leAt c 0x14 4 ≠ len then 2
  else if (crc32 (slice c 32 len)).toNat ≠ leAt c 0x18 4 then 3
  else if leAt c 0x10 4 ≠ leAt (s.cfg 0x10 0) (16 * n + 4) 4 then 4
  else 0

/-- The default settings of a function laid over an area. -/
def State.putDefaults (s : State) (n : Nat) (b : List Byte) (f : Nat) : List Byte :=
  have x := s.cfg 8 f
  if x.isEmpty ∨ byteAt x 8 ≠ n then b
  else overlay b (leAt x 0x0C 4) (slice x (leAt x 0x14 4) (leAt x 0x10 4))

/-- An area built from the defaults of the FUNCTION sections bound to it, ascending (R80). -/
def State.defaultArea (s : State) (n : Nat) : List Byte :=
  (List.range 512).foldl (fun b f => s.putDefaults n b f) (List.replicate (s.areaLength n) 0)

/-- One area as COMMISSION fills it (R80). -/
def State.fillArea (s : State) (n : Nat) : State :=
  if s.areaLength n = 0 then s
  else
    have r := s.copyFault n
    if r = 0 then s.setArea n (slice (s.nvmCopy n) 32 (s.areaLength n))
    else
      have s := (s.setArea n (s.defaultArea n)).setDirty n true
      have s := s.logPut 0x000C 0x02 0x3FF n r 0
      have s := s.setEvent 21
      have s := if r = 3 then s.setEvent 20 else s
      { s with img := { s.img with unstored := s.img.unstored ||| 2 ^ n } }

/-- The working copy is filled (R80). -/
def State.fillSettings (s : State) : State :=
  have s := { s with img := { s.img with areas := [], dirty := 0, unstored := 0 } }
  have s := forN 64 (fun n s => s.fillArea n) s
  { s with img := { s.img with settingsDone := true } }

/-- The settings condition of R33. -/
def State.settingsMet (s : State) : Bool :=
  have strict := match s.img.run with
    | none => false
    | some im => decide (im.flags % 2 = 1)
  s.img.settingsDone && (!strict || decide (s.img.unstored = 0))

/-! ### Candidate, reload and bank commands (R68 to R73, R81) -/

/-- The IMG command register. -/
def imgCmdReg : Nat := 0x20000

/-- One of the modes STANDBY, ACTIVE and TEST. -/
def State.computing (s : State) : Bool :=
  decide (s.glb.mode = .standby) || decide (s.glb.mode = .active) || decide (s.glb.mode = .test)

/-- A bank is PENDING. -/
def State.candPending (s : State) : Bool := decide (s.img.bank0.state = 2) || decide (s.img.bank1.state = 2)

/-- LOAD_CANDIDATE (R68, R81). `buf` is what PF0 memory holds at the candidate's address. -/
def loadCandidate (rsv arg : Nat) (buf : List Byte) (s : State) : State :=
  have len := (s.rd 0x2002C).toNat
  s.runCmd imgCmdReg 1 rsv arg
    (verdict (decide (arg = 0) && decide ((s.rd 0x20024).toNat % 4096 = 0) && decide (384 ≤ len) &&
        decide (len ≤ 268435456))
      ((s.computing || decide (s.glb.mode = .maintenance)) && !s.candPending)) fun s =>
    { s with img := { s.img with loading := some (padTo buf len) } }

/-- What R69 says of a candidate: 0 PARTIAL with the changed sections, or the result code. -/
def classify (run cand : Image) : Nat × List (Nat × Nat) :=
  if run.fmt ≠ 2 ∨ cand.fmt ≠ 2 then (0x15, [])
  else if cand.gen ≤ run.gen then (0x14, [])
  else if cand.flags ≠ run.flags then (0x15, [])
  else if cand.sections.map (fun x => (x.typ, x.inst)) ≠ run.sections.map (fun x => (x.typ, x.inst)) then (0x15, [])
  else
    (cand.sections.zip run.sections).foldl (fun (a : Nat × List (Nat × Nat)) e =>
      let (c, r) := e
      if a.1 ≠ 0 then a
      else if c.gen = r.gen then (if c.digest ≠ r.digest ∨ c.flags ≠ r.flags then (0x14, []) else a)
      else if c.gen < r.gen then (0x14, [])
      else if r.flags % 2 = 0 ∨ c.flags % 2 = 0 then (0x15, [])
      else (0, a.2 ++ [(c.typ, c.inst)])) (0, [])

/-- LOAD_CANDIDATE ends with a result (R68). -/
def State.loadEnd (s : State) (result : Nat) : State :=
  (({ s with img := { s.img with loading := none, result := result } }).setEvent 16).cmdDone imgCmdReg

/-- The bank that is not running (R68). -/
def State.otherBank (s : State) : Nat := 1 - s.img.runBank

/-- LOAD_DONE (R68, R69). `err` is 0, or 1 a DMA error, 2 a flash error. DESIGN CHOICE, log entry 105. -/
def loadDone (err : Nat) (s : State) : State :=
  match s.img.loading with
  | none => s
  | some b =>
    have o := s.otherBank
    if err = 1 ∨ s.present 0 = false then (s.setBank o { s.bank o with state := 4 }).loadEnd 0x17
    else
      match s.verify b with
      | .bad code i t =>
        have s := if code = 0x13 ∧ i ≠ 0xFFFF then s.wrongModule b else s
        ({ s with img := { s.img with rejIndex := i, rejType := t } }).loadEnd code
      | .ok im =>
        let flash (st : Nat) (s : State) : State := s.setBank o { state := st, failReason := 0, bytes := b }
        if s.glb.mode = .maintenance then
          if err = 2 then (flash 4 s).loadEnd 0x18 else (flash 3 s).loadEnd 2
        else
          match s.img.run with
          | none => s.loadEnd 0x15
          | some run =>
            let (c, l) := classify run im
            if c ≠ 0 then s.loadEnd c
            else if err = 2 then (flash 4 s).loadEnd 0x18
            else
              have s := flash 2 s
              ({ s with
                  img := { s.img with
                  cand := some im, candBank := o, changedSecs := l, changed := l.length } }).loadEnd 1

/-- LOAD_DONE (R68). -/
def execLoadDone (dt : Nat) (err : Fin 3) (s : State) : Result := .next (loadDone err.val (s.elapse dt))

/-- The DMA of PF0 stops: a fetch ends with DMA_ERROR and no bank is written (R398). -/
def State.loadStop (s : State) : State := if s.img.loading.isSome then s.loadEnd 0x17 else s

/-- A leave-service sequence stops the flash work: the bank stays INVALID, the command ends REFUSED_STATE
(R41, R68). -/
def State.loadAbort (s : State) : State :=
  if s.img.loading.isSome then
    have o := s.otherBank
    have s := s.setBank o { s.bank o with state := 4 }
    ({ s with img := { s.img with loading := none } }).cmdEndRefused imgCmdReg
  else s

/-- RELOAD is DONE with a result, and RELOAD_DONE is raised (R71, R73, R83). -/
def State.reloadEnd (s : State) (result : Nat) : State :=
  have s := { s with img := { s.img with reload := none, reloadAtGap := false, result := result } }
  (s.setEvent 17).cmdDone imgCmdReg

/-- A pending RELOAD is not applied: DEFERRED, and its candidate stays PENDING (R71, R73). -/
def State.reloadDefer (s : State) : State := if s.img.reload.isSome then s.reloadEnd 5 else s

/-- The candidate is given up and its bank INVALID (R73). -/
def State.candDrop (s : State) : State :=
  have n := s.img.candBank
  have b := s.bank n
  have s := if b.state = 2 then s.setBank n { b with state := 4 } else s
  { s with img := { s.img with cand := none, changedSecs := [], changed := 0 } }

/-- A pending RELOAD is abandoned (R73): RESULT ABANDONED and the bank INVALID. DEDUCED, log entry 43. -/
def State.reloadAbandon (s : State) : State :=
  if s.img.reload.isSome then s.candDrop.reloadEnd 4 else s

/-- A pending MOVE of a changed function at or before a tick (R73). -/
def State.moveBefore (s : State) (t : Nat) : Bool :=
  match s.kpr.wait with
  | some (.move es e) => decide (e ≤ t) && es.any (fun x => s.img.changedSecs.contains (8, x.1))
  | _ => false

/-- RELOAD (R70, R73, R81). -/
def reload (rsv arg : Nat) (s : State) : State :=
  match s.targetTick 0x20038 0x2003C with
  | none => s.runCmd imgCmdReg 2 rsv arg .arg id
  | some t =>
    s.runCmd imgCmdReg 2 rsv arg
      (verdict (decide (arg = 0))
        (s.computing && s.kpr.frames && s.candPending && s.img.cand.isSome && !s.moveBefore t)) fun s =>
      { s with img := { s.img with reload := some t } }

/-- RELOAD (R70). -/
def execReload (dt : Nat) (rsv : BitVec 8) (arg : BitVec 16) (s : State) : Result :=
  .next (reload rsv.toNat arg.toNat (s.elapse dt))

/-- ABANDON (R73, R81). It is accepted while a RELOAD waits, whose command it ends. DEDUCED, log entry 39.
-/
def abandon (rsv arg : Nat) (s : State) : State :=
  have was := s.img.reload.isSome && !s.img.reloadAtGap && decide (rsv = 0) && decide (arg = 0)
  have s := if was then s.reloadAbandon else s
  s.runCmd imgCmdReg 3 rsv arg (verdict (decide (arg = 0)) (was || (s.candPending && !s.img.reloadAtGap))) fun s =>
    have s := s.candDrop
    ({ s with img := { s.img with result := 4 } }).cmdDone imgCmdReg

/-- ABANDON (R73). -/
def execAbandon (dt : Nat) (rsv : BitVec 8) (arg : BitVec 16) (s : State) : Result :=
  .next (abandon rsv.toNat arg.toNat (s.elapse dt))

/-- INVALIDATE_BANK (R81). -/
def invalidateBank (rsv arg : Nat) (s : State) : State :=
  s.runCmd imgCmdReg 4 rsv arg (verdict (decide (arg < 2)) (decide (s.glb.mode = .maintenance))) fun s =>
    (s.setBank arg { s.bank arg with state := 4 }).cmdDone imgCmdReg

/-- INVALIDATE_BANK (R81). -/
def execInvalidateBank (dt : Nat) (rsv : BitVec 8) (arg : BitVec 16) (s : State) : Result :=
  .next (invalidateBank rsv.toNat arg.toNat (s.elapse dt))

/-- The running generation. -/
def State.runGen (s : State) : Nat := (s.img.run.map (·.gen)).getD 0

/-- SET_MIN_GEN (R67, R81). -/
def setMinGen (rsv arg : Nat) (s : State) : State :=
  s.runCmd imgCmdReg 5 rsv arg (verdict (decide (arg = 0)) (decide (s.glb.mode = .maintenance))) fun s =>
    ({ s with img := { s.img with minGen := max s.img.minGen s.runGen } }).cmdDone imgCmdReg

/-- SET_MIN_GEN (R67). -/
def execSetMinGen (dt : Nat) (rsv : BitVec 8) (arg : BitVec 16) (s : State) : Result :=
  .next (setMinGen rsv.toNat arg.toNat (s.elapse dt))

/-! ### NVM_STORE (R78, R79) -/

/-- The mask of NVM_STORE. -/
def State.nvmMask (s : State) : Nat := (s.rd 0x20048).toNat + 2 ^ 32 * (s.rd 0x2004C).toNat

/-- The store takes the working copy (R78). DEDUCED, log entry 40. -/
def State.storeSnap (s : State) : State :=
  match s.img.store with
  | none => s
  | some st =>
    if st.snapped then s
    else
      have l := (List.range 64).filter (fun n => decide (st.mask / 2 ^ n % 2 = 1))
      have was := s.img.dirty &&& st.mask
      { s with
          img := { s.img with
          dirty := s.img.dirty - was,
          store := some { st with was := was, snapped := true, copies := l.map (fun n => (n, s.area n)) } } }

/-- NVM_STORE (R78, R81). -/
def nvmStore (rsv arg : Nat) (s : State) : State :=
  have m := s.nvmMask
  s.runCmd imgCmdReg 6 rsv arg
    (verdict (decide (arg = 0) && decide (m ≠ 0) &&
        (List.range 64).all (fun n => decide (m / 2 ^ n % 2 = 0) || decide (s.areaLength n ≠ 0)))
      (s.computing || decide (s.glb.mode = .commission) || decide (s.glb.mode = .maintenance))) fun s =>
    have s := { s with img := { s.img with store := some { mask := m, was := 0, snapped := false, copies := [] } } }
    if s.glb.mode = .commission ∨ s.glb.mode = .maintenance then s.storeSnap else s

/-- NVM_STORE (R78). -/
def execNvmStore (dt : Nat) (rsv : BitVec 8) (arg : BitVec 16) (s : State) : Result :=
  .next (nvmStore rsv.toNat arg.toNat (s.elapse dt))

/-- An area copy with its header (R77). -/
def State.areaCopy (s : State) (n copy seq : Nat) (data : List Byte) : List Byte :=
  [0x47#8, 0x53#8, 0x45#8, 0x54#8] ++ leBytes n 1 ++ leBytes copy 1 ++ [0#8, 0#8] ++ leBytes seq 8 ++
    slice (s.cfg 0x10 0) (16 * n + 4) 4 ++ leBytes data.length 4 ++ leBytes (crc32 data).toNat 4 ++
    leBytes s.runGen 4 ++ data

/-- A commit record (R79). -/
def State.commitRecord (s : State) (seq mask sel : Nat) : List Byte :=
  have b := [0x47#8, 0x4A#8, 0x52#8, 0x4E#8] ++ List.replicate 4 0 ++ leBytes seq 8 ++ leBytes mask 8 ++ leBytes sel 8 ++
    leBytes (secOf s.now) 8 ++ leBytes s.lmp.boundId 2 ++ List.replicate 18 0
  b ++ leBytes (crc32 b).toNat 4

/-- The areas of a store are written to the copies that are not selected. -/
def State.storeWrite (s : State) (l : List (Nat × List Byte)) (seq : Nat) : State :=
  l.foldl (fun s e =>
    have c := 1 - s.img.sel / 2 ^ e.1 % 2
    { s with img := { s.img with nvm := tset s.img.nvm (2 * e.1 + c) (s.areaCopy e.1 c seq e.2) [] } }) s

/-- NVM_STORE_DONE (R78, R83): the journal commits, or the read-back of an area fails. DESIGN CHOICE, log
entry 105. -/
def nvmStoreDone (fail : Option Nat) (s : State) : State :=
  have s := s.storeSnap
  match s.img.store with
  | none => s
  | some st =>
    have seq := s.img.storeSeq + 1
    have bad := match fail with
      | none => none
      | some n => if st.copies.any (fun e => decide (e.1 = n)) then some n else none
    match bad with
    | some n =>
      have s := s.storeWrite (st.copies.filter (fun e => decide (e.1 ≤ n))) seq
      have s := { s with
          img := { s.img with store := none, lastResult := 2, failArea := n, dirty := s.img.dirty ||| st.was } }
      ((s.setEvent 20).setEvent 18).cmdDone imgCmdReg
    | none =>
      have s := s.storeWrite st.copies seq
      have sel := s.img.sel ^^^ st.mask
      have j := (s.img.journal ++ [s.commitRecord seq st.mask sel])
      have s := { s with
          img := { s.img with
          store := none, lastResult := 1, sel := sel, storeSeq := seq, journal := j.drop (j.length - 8192),
          unstored := s.img.unstored &&& ((2 ^ 64 - 1) ^^^ st.mask) } }
      (s.setEvent 18).cmdDone imgCmdReg

/-- NVM_STORE_DONE (R78). -/
def execNvmStoreDone (dt : Nat) (fail : Option (Fin 64)) (s : State) : Result :=
  .next (nvmStoreDone (fail.map (·.val)) (s.elapse dt))

/-! ### Settings commands (R75, R81) -/

/-- AREA, OFFSET and LEN of the settings registers. -/
def State.setRange (s : State) : Nat × Nat × Nat :=
  (fld (s.rd 0x20040) 0 6, fld (s.rd 0x20040) 8 17, fld (s.rd 0x20044) 0 13)

/-- The range lies in its area (R75, R82). -/
def State.rangeOk (s : State) : Bool :=
  let (a, o, n) := s.setRange
  decide (s.areaLength a ≠ 0) && decide (o % 4 = 0) && decide (4 ≤ n) && decide (n ≤ 4096) && decide (n % 4 = 0) &&
    decide (o + n ≤ s.areaLength a)

/-- `n` bytes of the IMG_SET_DATA window. -/
def State.setData (s : State) (n : Nat) : List Byte :=
  (List.range (n / 4)).flatMap (fun i => leBytes (s.rd (0x21000 + 4 * i)).toNat 4)

/-- The modes of SETTINGS_WRITE and SETTINGS_REVERT. -/
def State.settingsModeOk (s : State) : Bool := s.computing || (decide (s.glb.mode = .commission) && s.img.loaded)

/-- A write or revert takes effect: working copy, dirty bit, settings copies, SETTINGS_APPLIED (R75, R272).
DEDUCED, log entry 40. -/
def State.setApply (s : State) (p : SetPend) : State :=
  have s := if p.revert then
      (if s.copyFault p.area = 0 then
        (s.setArea p.area (slice (s.nvmCopy p.area) 32 (s.areaLength p.area))).setDirty p.area false
       else s)
    else (s.setArea p.area (overlay (s.area p.area) p.offset p.bytes)).setDirty p.area true
  have s := { s with img := { s.img with pend := none } }
  (s.kprSettings.setEvent 19).cmdDone imgCmdReg

/-- A settings command is accepted: at once in COMMISSION, else for its target tick. -/
def State.setAccept (s : State) (p : SetPend) : State :=
  if s.glb.mode = .commission then s.setApply p else { s with img := { s.img with pend := some p } }

/-- The target of a settings command: COMMISSION needs none. -/
def State.setTarget (s : State) : Option Nat :=
  if s.glb.mode = .commission then some 0 else s.targetTick 0x20038 0x2003C

/-- A settings command (R73, R75): with the target of a RELOAD that waits it is refused. DEDUCED, log entry
39. -/
def State.settingsCmd (s : State) (code rsv arg : Nat) (argOk : Bool) (p : Nat → SetPend) : State :=
  match s.setTarget with
  | none => s.runCmd imgCmdReg code rsv arg .arg id
  | some t =>
    if s.img.reload = some t ∧ rsv = 0 ∧ argOk then
      (have c := s.cmd imgCmdReg
       (s.setCmd imgCmdReg { c with code := code, status := 3 }).refusedRec imgCmdReg code)
    else
      s.runCmd imgCmdReg code rsv arg
        (verdict argOk (s.settingsModeOk && (decide (s.glb.mode = .commission) || s.kpr.frames))) fun s => s.setAccept (p t)

/-- SETTINGS_WRITE (R75). -/
def settingsWrite (rsv arg : Nat) (s : State) : State :=
  let (a, o, n) := s.setRange
  have data := s.setData n
  s.settingsCmd 7 rsv arg (decide (arg = 0) && s.rangeOk)
    (fun t => { revert := false, area := a, offset := o, bytes := data, target := t })

/-- SETTINGS_WRITE (R75). -/
def execSettingsWrite (dt : Nat) (rsv : BitVec 8) (arg : BitVec 16) (s : State) : Result :=
  .next (settingsWrite rsv.toNat arg.toNat (s.elapse dt))

/-- SETTINGS_REVERT (R75). DEDUCED, log entry 40. -/
def settingsRevert (rsv arg : Nat) (s : State) : State :=
  s.settingsCmd 8 rsv arg (decide (arg < 64) && decide (s.areaLength arg ≠ 0))
    (fun t => { revert := true, area := arg, offset := 0, bytes := [], target := t })

/-- SETTINGS_REVERT (R75). -/
def execSettingsRevert (dt : Nat) (rsv : BitVec 8) (arg : BitVec 16) (s : State) : Result :=
  .next (settingsRevert rsv.toNat arg.toNat (s.elapse dt))

/-- SETTINGS_READ (R75): the window takes the range. -/
def settingsRead (rsv arg : Nat) (s : State) : State :=
  s.runCmd imgCmdReg 9 rsv arg (verdict (decide (arg = 0) && s.rangeOk) s.img.loaded) fun s =>
    let (a, o, n) := s.setRange
    have b := s.area a
    (forN (n / 4) (fun i s => s.wr (0x21000 + 4 * i) (BitVec.ofNat 32 (leAt b (o + 4 * i) 4))) s).cmdDone imgCmdReg

/-- SETTINGS_READ (R75). -/
def execSettingsRead (dt : Nat) (rsv : BitVec 8) (arg : BitVec 16) (s : State) : Result :=
  .next (settingsRead rsv.toNat arg.toNat (s.elapse dt))

/-- SETTINGS_APPLY: the pending write or revert takes effect before its target tick (R75, R242). -/
def settingsApply (s : State) : State :=
  match s.img.pend with
  | none => s
  | some p => s.setApply p

/-- SETTINGS_APPLY (R75). -/
def execSettingsApply (dt : Nat) (s : State) : Result := .next (settingsApply (s.elapse dt))

/-! ### Steps, frame stops and mode changes (R71, R73) -/

/-- A settings command that waits ends REFUSED_STATE. -/
def State.setDrop (s : State) : State :=
  if s.img.pend.isSome then ({ s with img := { s.img with pend := none } }).cmdEndRefused imgCmdReg else s

/-- A step passes over target ticks before `n` (R71, R73). -/
def State.imgStep (s : State) (n : Nat) : State :=
  have s := match s.img.reload with
    | some t => if t < n then s.reloadDefer else s
    | none => s
  match s.img.pend with
  | some p => if p.target < n then s.setDrop else s
  | none => s

/-- Frames stop: settings commands end REFUSED_STATE and a reload is abandoned (R71, R73). DEDUCED, log
entry 43; DEDUCED, log entry 112. -/
def State.imgFramesStop (s : State) : State := s.setDrop.reloadAbandon

end Sys2Proof.Machine
end

