-- ==== Sys2Proof/Machine/Frames.lean ====
section
/-!
DEFINITION. What the MAC and the ridge read from a frame: its length, its protocol and its checksums
(R115, R118, R119, R134, R135).
-/

namespace Sys2Proof

open Sys2Proof.Machine

/-- Octets of a frame from the destination address through the FCS. -/
def Frame.octets (f : Frame) : Nat :=
  have n := 14 + 4 * f.vlans.length + f.payload.length + (if f.red.isSome then 6 else 0) + 4
  max n 64

/-- IPv4 header length of a frame that carries IPv4. -/
def Frame.ihl (f : Frame) : Nat := byteAt f.payload 0 % 16 * 4

/-- The frame carries an IPv4 datagram. -/
def Frame.isIp4 (f : Frame) : Bool :=
  decide (f.etherType = 0x0800) && decide (byteAt f.payload 0 / 16 = 4) && decide (f.ihl ≥ 20)

/-- The datagram is unfragmented: MF 0 and fragment offset 0 (R118). -/
def Frame.whole (f : Frame) : Bool := decide (beAt f.payload 6 2 % 0x4000 = 0)

/-- IPv4 protocol. -/
def Frame.proto (f : Frame) : Nat := byteAt f.payload 9

/-- The UDP destination port, where the frame carries an unfragmented UDP datagram over IPv4. -/
def Frame.udpPort (f : Frame) : Option Nat :=
  if f.isIp4 && f.whole && decide (f.proto = 17) then some (beAt f.payload (f.ihl + 2) 2) else none

/-- A PTP frame (R135): EtherType 0x88F7 or UDP ports 319 and 320. -/
def Frame.isPtp (f : Frame) : Bool :=
  decide (f.etherType = 0x88F7) || f.udpPort = some 319 || f.udpPort = some 320

/-- The offset of the PTP message in the octets after the EtherType. -/
def Frame.ptpOff (f : Frame) : Nat := if f.etherType = 0x88F7 then 0 else f.ihl + 8

/-- The PTP messageType. -/
def Frame.ptpType (f : Frame) : Nat := byteAt f.payload f.ptpOff % 16

/-- A PTP event message. -/
def Frame.ptpEvent (f : Frame) : Bool := f.isPtp && decide (f.ptpType < 4)

/-- Routable GOOSE: UDP port 102 with a GOOSE session identifier (R134, R298). -/
def Frame.isRGoose (f : Frame) : Bool :=
  f.udpPort = some 102 && decide (byteAt f.payload (f.ihl + 8) = 0xA1)

/-- A GOOSE frame, routable GOOSE included. -/
def Frame.isGoose (f : Frame) : Bool := decide (f.etherType = 0x88B8) || f.isRGoose

/-- A sampled-value frame. -/
def Frame.isSv (f : Frame) : Bool := decide (f.etherType = 0x88BA)

/-- The APPID of a GOOSE or sampled-value frame. -/
def Frame.appid (f : Frame) : Option Nat :=
  if f.etherType = 0x88B8 ∨ f.etherType = 0x88BA then some (beAt f.payload 0 2) else none

/-- A group address. -/
def isGroupMac (m : Nat) : Bool := decide (m / 2 ^ 40 % 2 = 1)

/-- The ones' complement sum of a byte string of 16-bit words. -/
def sum16 (b : List Byte) : Nat :=
  match b with
  | [] => 0
  | [x] => x.toNat * 256
  | x :: y :: r =>
    have t := x.toNat * 256 + y.toNat + sum16 r
    if t ≥ 65536 then t - 65535 else t

/-- The ones' complement sum of two sums. -/
def add16 (a b : Nat) : Nat := if a + b ≥ 65536 then a + b - 65535 else a + b

/-- The sum over the pseudo-header and the L4 datagram of an unfragmented IPv4 datagram. -/
def Frame.l4Sum (f : Frame) : Nat :=
  have n := beAt f.payload 2 2 - f.ihl
  add16 (add16 (sum16 (slice f.payload 12 8)) (add16 f.proto n)) (sum16 (slice f.payload f.ihl n))

/-- Offset of the checksum in the L4 header: UDP 6, TCP 16. -/
def Frame.l4Off (f : Frame) : Nat := f.ihl + (if f.proto = 17 then 6 else 16)

/-- The result code of the IPv4 header check (R119). -/
def Frame.ipCode (f : Frame) : Nat :=
  if f.isIp4 then (if sum16 (f.payload.take f.ihl) = 0xFFFF then 1 else 2) else 0

/-- The result code of the L4 check (R119). -/
def Frame.l4Code (f : Frame) : Nat :=
  if f.isIp4 && f.whole && (decide (f.proto = 17) || decide (f.proto = 6)) then
    if f.proto = 17 ∧ beAt f.payload f.l4Off 2 = 0 then 3
    else if f.l4Sum = 0xFFFF then 1 else 2
  else 0

/-- The IPv4 header checksum inserted (R118). PRESUMED, log entry 49. -/
def Frame.fillIp (f : Frame) : Frame :=
  if f.isIp4 then
    have z := overlay f.payload 10 [0, 0]
    { f with payload := overlay z 10 (beBytes (65535 - sum16 (z.take f.ihl)) 2) }
  else f

/-- The L4 checksum can be inserted (R118). -/
def Frame.canL4 (f : Frame) : Bool :=
  f.isIp4 && f.whole && (decide (f.proto = 17) || decide (f.proto = 6))

/-- The UDP or TCP checksum inserted; a computed UDP checksum of 0 is sent as 0xFFFF (R118). -/
def Frame.fillL4 (f : Frame) : Frame :=
  if f.canL4 then
    have z := { f with payload := overlay f.payload f.l4Off [0, 0] }
    have c := 65535 - z.l4Sum
    have c := if c = 0 ∧ f.proto = 17 then 65535 else c
    { f with payload := overlay f.payload f.l4Off (beBytes c 2) }
  else f

end Sys2Proof
end

