-- ==== Sys2Proof/Machine/Mac.lean ====
section
/-!
DEFINITION. Family: the Ethernet ports (R110 to R132). The operations of one port; what needs the ridge's
queues stands in Ridge.lean.
-/

namespace Sys2Proof.Machine

open Sys2Proof

/-- Register base of a port (R110). -/
def macBase (p : Nat) : Nat := 0x100000 + 0x1000 * p

/-- A field of a port's PORT_ROLES descriptor (R113). -/
def State.portField (s : State) (p off n : Nat) : Nat := leAt (s.cfg 1 0) (16 * p + off) n

/-- ROLE of a port (R113). -/
def State.role (s : State) (p : Nat) : Nat := s.portField p 0 1

/-- DOWNSHIFT of a port. -/
def State.downshiftOn (s : State) (p : Nat) : Bool := decide (s.portField p 3 1 % 2 = 1)

/-- PFC_ENABLE of a port (R124): only a station port has it. -/
def State.pfcOn (s : State) (p : Nat) : Bool :=
  decide (16 ≤ p ∧ p < 24) && decide (s.portField p 3 1 / 2 % 2 = 1)

/-- A class in PFC_CLASSES of a port (R113). -/
def State.pfcClass (s : State) (p c : Nat) : Bool :=
  decide (c < 6) && decide (s.portField p 8 1 / 2 ^ c % 2 = 1)

/-- TS_HOST of a port. -/
def State.tsHost (s : State) (p : Nat) : Bool := decide (s.portField p 3 1 / 4 % 2 = 1)

/-- HOLD_DOWN of a port in ms. -/
def State.holdMs (s : State) (p : Nat) : Nat := s.portField p 4 2

/-- A port's domain runs (R28): the service port runs in BOOT as well. -/
def State.portOn (s : State) (p : Nat) : Bool :=
  s.afterBoot || (decide (s.glb.mode = .boot) && decide (p = 32))

/-- A port that reads LINK_UP (R112): a 10BASE-T1S port does whenever its PHY is enabled. -/
def State.linkUp (s : State) (p : Nat) : Bool :=
  if 24 ≤ p ∧ p < 32 then decide (s.role p = 7) && !(s.port p).adminDown else (s.port p).linkUp

/-- Mb/s of a speed code (R131). -/
def mbps (speed : Nat) : Nat :=
  match speed with
  | 1 => 10
  | 2 => 100
  | 3 => 1000
  | 4 => 10000
  | 5 => 25000
  | _ => 0

/-- The speed of a port in Mb/s. A 10BASE-T1S port runs at 10 Mb/s. -/
def State.portMbps (s : State) (p : Nat) : Nat :=
  if 24 ≤ p ∧ p < 32 then 10 else mbps (s.port p).speed

/-- The time of a number of bits at a port's speed, in 2^-16 ns. -/
def State.bitTime (s : State) (p bits : Nat) : Nat :=
  if s.portMbps p = 0 then 0 else bits * 65536000 / s.portMbps p

/-- A bit of MAC_EVENT_STATUS becomes 1. Bits 0 to 3 are event sources, but not on SP (R132). -/
def State.macEvent (s : State) (p b : Nat) : State :=
  if p < 32 ∧ b < 4 then s.setEvent (128 + 4 * p + b)
  else s.wr (macBase p + 0x18) (s.rd (macBase p + 0x18) ||| bit b)

/-- The record of a port's LINK_CHANGE (bit 0) or PORT_NOTICE (bit 3), which names the port and whose P2
holds the NOTE bits (R132). SP has no source and writes none. -/
def State.macRec (s : State) (p b : Nat) : State :=
  if p < 32 then s.eventRec (128 + 4 * p + b) p p else s

/-- A NOTE bit is set. When it becomes 1, PORT_NOTICE is raised and written to the logbook (R131, R132). -/
def State.note (s : State) (p b : Nat) : State :=
  if (s.rd (macBase p + 0x18)).getLsbD b then s
  else ((s.macEvent p b).macEvent p 3).macRec p 3

/-- LINK_UP of a port changes (R132). -/
def State.setLink (s : State) (p : Nat) (up : Bool) : State :=
  if (s.port p).linkUp = up then s
  else ((s.setPort p { s.port p with linkUp := up }).macEvent p 0).macRec p 0

/-! ### Statistics (R120) -/

/-- The size band of a frame. -/
def sizeBand (n : Nat) : Nat :=
  if n ≤ 64 then 0 else if n ≤ 127 then 1 else if n ≤ 255 then 2 else if n ≤ 511 then 3
  else if n ≤ 1023 then 4 else if n ≤ 1518 then 5 else if n ≤ 2047 then 6 else 7

/-- The counters of a good frame: size bands from `band`, type counters from `typ`, VLAN at `vlan`. -/
def State.statFrame (s : State) (p : Nat) (f : Frame) (n band typ vlan : Nat) : State :=
  have s := s.stat p (band + sizeBand n) 1
  have s := s.stat p typ 1
  have s := s.stat p (typ + 1) n
  have s := s.stat p (if f.dst = 2 ^ 48 - 1 then typ + 4 else if isGroupMac f.dst then typ + 3 else typ + 2) 1
  have s := if f.isSv then s.stat p (typ + 5) 1 else s
  have s := if f.isGoose then s.stat p (typ + 6) 1 else s
  have s := if f.isPtp then s.stat p (typ + 7) 1 else s
  if f.vlans = [] then s else s.stat p vlan 1

/-- The frame limit of a port (R115). -/
def State.frameLimit (s : State) (p : Nat) : Nat :=
  s.portField p 6 2 + (if [1, 2, 3, 5, 6].contains (s.role p) then 6 else 0)

/-- The counter of the check that a received frame of `n` octets fails (R115), if any. -/
def State.rxCheck (s : State) (p n : Nat) (bad : RxBad) : Option Nat :=
  have badFcs := decide (bad = .fcs)
  if n < 64 then some (if badFcs then 34 else 35)
  else if n > s.frameLimit p then some (if badFcs then 37 else 36)
  else
    match bad with
    | .none => none
    | .fcs => some 32
    | .align => if s.portMbps p ≤ 100 then some 33 else some 32
    | .symbol => some 38
    | .unsupported => some 41

/-! ### Timestamp queues (R122, R123) -/

/-- A received PTP event message takes a receive entry whenever the queue is not full. DEDUCED, log entry
54. -/
def State.tsRxPtp (s : State) (p : Nat) : State :=
  have x := s.port p
  if p < 24 ∧ x.rxPtp + x.rxHost < 64 then s.setPort p { x with rxPtp := x.rxPtp + 1 } else s

/-- A frame for a host path takes a receive entry, or its timestamp is dropped. The answer says
whether it holds one. -/
def State.tsRxHost (s : State) (p : Nat) : State :=
  have x := s.port p
  if x.rxHost < 48 ∧ x.rxPtp + x.rxHost < 64 then s.setPort p { x with rxHost := x.rxHost + 1 }
  else (s.stat p 45 1).macEvent p 2

/-- A sent host frame takes a transmit entry. DEDUCED, log entry 54. -/
def State.tsTxRoom (s : State) (p : Nat) : Bool :=
  have x := s.port p
  decide (x.txHost < 48) && decide (x.txPtp + x.txHost < 64)

/-! ### Transceivers and faults -/

/-- Local or remote fault appears or ends on a port (R131). -/
def pcsFault (p : Nat) (loc rem : Bool) (s : State) : State :=
  have x := s.port p
  have s := s.setPort p { x with localFault := loc, remoteFault := rem }
  have s := if loc && !x.localFault then s.stat p 62 1 else s
  have s := if rem && !x.remoteFault then s.stat p 63 1 else s
  if (loc && !x.localFault) || (rem && !x.remoteFault) then s.note p 11 else s

/-- PCS_FAULT_CHANGE (R131). -/
def execPcsFaultChange (dt : Nat) (p : Fin 33) (loc rem : Bool) (s : State) : Result :=
  .next (pcsFault p.val loc rem (s.elapse dt))

/-! ### Commands (R130) -/

/-- MAC_CMD of a port ends DONE, with NOTE_CMD_DONE. -/
def State.macDone (s : State) (p : Nat) : State := (s.cmdDone (macBase p)).note p 14

/-- The modes in which ADMIN_DOWN is legal on a port. -/
def State.adminMode (s : State) (p : Nat) : Bool :=
  match s.glb.mode with
  | .commission | .standby | .test | .maintenance | .degraded => true
  | .active => decide (p ≥ 16)
  | _ => false

/-- ADMIN_UP (R130). -/
def adminUp (p rsv arg : Nat) (s : State) : State :=
  s.runCmd (macBase p) 2 rsv arg (verdict (arg = 0) (s.adminMode p && (s.port p).adminDown)) fun s =>
    (s.setPort p { s.port p with adminDown := false }).macDone p

/-- ADMIN_UP (R130). -/
def execAdminUp (dt : Nat) (p : Fin 33) (rsv : BitVec 8) (arg : BitVec 16) (s : State) : Result :=
  .next (adminUp p.val rsv.toNat arg.toNat (s.elapse dt))

/-- SPEED_PIN (R127, R130): a pin stops the downshift, a release restarts the 60 s count and ends a
suspension. -/
def speedPin (p rsv arg : Nat) (s : State) : State :=
  s.runCmd (macBase p) 3 rsv arg (verdict (arg < 2) (s.img.loaded && s.downshiftOn p)) fun s =>
    have x := s.port p
    have x := if arg = 1 then { x with pinned := true }
      else { x with pinned := false, suspended := false, quiet := 0, hot10 := 0 }
    (s.setPort p x).macDone p

/-- SPEED_PIN (R130). -/
def execSpeedPin (dt : Nat) (p : Fin 33) (rsv : BitVec 8) (arg : BitVec 16) (s : State) : Result :=
  .next (speedPin p.val rsv.toNat arg.toNat (s.elapse dt))

end Sys2Proof.Machine
end

