-- ==== Sys2Proof/Machine/Rdg.lean ====
section
/-!
DEFINITION. The ridge: classification, redundancy, admission to the queues, link-down and the RDG
commands (R133 to R155).
-/

namespace Sys2Proof.Machine

open Sys2Proof

/-! ### Endpoints and registers -/

/-- The endpoint of an attachment: a port index 0 to 32, or 33 plus an internal endpoint (R133). -/
def endpointOf (x : Nat) : Nat := if x < 24 then x else if x ≤ 32 then 30 else x - 33

/-- Address of RDG_EP_CNT counter `c` of an attachment (R154). -/
def epCnt (x c : Nat) : Nat := 0x201000 + 0x20 * endpointOf x + 4 * c

/-- A wrapping ridge counter counts one. -/
def State.epCount (s : State) (x c : Nat) : State := s.wrapBy (epCnt x c) 1

/-! ### Redundancy groups (R144 to R152) -/

/-- GROUP_COUNT. -/
def State.groupCount (s : State) : Nat := leAt (s.cfg 3 0) 0 2

/-- KIND, PORT_A and PORT_B of a group. -/
def State.groupPorts (s : State) (g : Nat) : Nat × Nat × Nat :=
  have b := s.cfg 3 0
  (byteAt b (0x10 + 8 * g), byteAt b (0x11 + 8 * g), byteAt b (0x12 + 8 * g))

/-- The group that a port is a member of. -/
def State.groupOf (s : State) (p : Nat) : Option Nat :=
  (List.range s.groupCount).find? (fun g =>
    decide ((s.groupPorts g).1 ≠ 0) && (decide ((s.groupPorts g).2.1 = p) || decide ((s.groupPorts g).2.2 = p)))

/-- A group is an HSR ring. -/
def State.isHsr (s : State) (g : Nat) : Bool := decide ((s.groupPorts g).1 = 2)

/-- The other member of a port's group. -/
def State.otherMember (s : State) (p : Nat) : Option Nat :=
  match s.groupOf p with
  | none => none
  | some g => some (if (s.groupPorts g).2.1 = p then (s.groupPorts g).2.2 else (s.groupPorts g).2.1)

/-! ### The node table (R146, R147) -/

/-- The entry of a source and group. -/
def State.node (s : State) (mac g : Nat) : Option Node :=
  s.rdg.nodes.find? (fun n => decide (n.mac = mac) && decide (n.group = g))

/-- An entry replaced or added. -/
def State.setNode (s : State) (x : Node) : State :=
  have l := s.rdg.nodes
  let same (n : Node) : Bool := decide (n.mac = x.mac) && decide (n.group = x.group)
  { s with
    rdg := { s.rdg with
    nodes := if l.any same then l.map (fun n => if same n then x else n) else l ++ [x] } }

/-- No entry is free (R147). -/
def State.nodesFull (s : State) : Bool := decide (s.rdg.nodes.length ≥ 4096)

/-- What the node table says of a received frame (R146). -/
inductive Seen where
  | accept
  | duplicate
  | full
deriving DecidableEq, Repr

/-- The decision of R146 on sequence number `q` of a source in a group. DEDUCED, log entry 53. -/
def State.nodeCheck (s : State) (mac g q : Nat) : State × Seen :=
  match s.node mac g with
  | none =>
    if s.nodesFull then (s, .full)
    else (s.setNode { mac := mac, group := g, last := q, seen := 1, static := false, heard := true }, .accept)
  | some n =>
    if n.heard = false then (s.setNode { n with last := q, seen := 1, heard := true }, .accept)
    else
      have d := (q + 65536 - n.last) % 65536
      if 1 ≤ d ∧ d < 32768 then
        (s.setNode { n with last := q, seen := (n.seen <<< d) ||| 1 }, .accept)
      else
        have i := (65536 - d) % 65536
        if i < 256 then
          if n.seen.getLsbD i then (s, .duplicate)
          else (s.setNode { n with seen := setBit n.seen i true }, .accept)
        else (s.wrapBy 0x20004C 1, .accept)

/-- A sequence number is marked seen or unseen again (R148). DEDUCED, log entry 53. -/
def State.markSeen (s : State) (mac g q : Nat) (x : Bool) : State :=
  match s.node mac g with
  | none => s
  | some n =>
    have i := (n.last + 65536 - q) % 65536
    if i < 256 then s.setNode { n with seen := setBit n.seen i x } else s

/-- A learned entry of the node table leaves it. -/
def ntExpire (mac g : Nat) (s : State) : State :=
  { s with
    rdg := { s.rdg with
    nodes := s.rdg.nodes.filter (fun n => !(decide (n.mac = mac) && decide (n.group = g) && !n.static)) } }

/-- NT_ENTRY_EXPIRY (R146): a dynamic entry is freed. -/
def execNtEntryExpiry (dt : Nat) (mac : BitVec 48) (g : Fin 12) (s : State) : Result :=
  .next (ntExpire mac.toNat g.val (s.elapse dt))

/-! ### Classification (R134, R135) -/

/-- Number of classifier entries. -/
def State.entryCount (s : State) : Nat := leAt (s.cfg 2 0) 0 4

/-- A field of classifier entry `i`: the image's table, or the entry that a function's CLASSIFIER_SET
holds (R151, R425). -/
def State.entry (s : State) (i : Nat) : List Byte :=
  match tget s.hst.classes i [] with
  | [] => slice (s.cfg 2 0) (16 + 32 * i) 32
  | b => b

/-- The VLAN_ID of a frame's outer tag. -/
def frameVid (f : Frame) : Nat := (f.vlans.head?.getD 0) % 4096

/-- A classifier entry matches a frame from an endpoint (R151). An empty entry matches nothing. -/
def entryMatches (b : List Byte) (e : Nat) (f : Frame) : Bool :=
  have m := byteAt b 0x15
  !b.isEmpty && decide (leAt b 0x0C 4 / 2 ^ e % 2 = 1) &&
    (decide (m % 2 = 0) || decide (beAt b 0 6 = f.dst)) &&
    (decide (m / 2 % 2 = 0) || decide (leAt b 6 2 = f.etherType)) &&
    (decide (m / 4 % 2 = 0) || decide (f.appid = some (leAt b 8 2))) &&
    (decide (m / 8 % 2 = 0) || decide (!f.vlans.isEmpty ∧ leAt b 0x0A 2 % 4096 = frameVid f))

/-- The matching entry with the lowest index among the entries `first` to `first + n − 1`. DEDUCED, log
entry 57. -/
def State.classify (s : State) (e : Nat) (f : Frame) (n first : Nat) : Option Nat :=
  match n with
  | 0 => none
  | n + 1 => if entryMatches (s.entry first) e f then some first else s.classify e f n (first + 1)

/-- The class of a frame (R134): fixed for GOOSE, PTP and sampled values, else from its entry or PCP. -/
def frameClass (f : Frame) (b : List Byte) : Nat :=
  if f.isGoose || f.ptpEvent then 7
  else if f.isSv || f.isPtp then 6
  else
    have c := byteAt b 0x14
    if c = 0xFF then min 5 ((f.vlans.head?.getD 0) / 8192) else min 5 c

/-- The attachments that an egress mask and sub-port mask name (R151). -/
def masked (mask sub : Nat) : List Nat :=
  ((List.range 24).filter (inMask mask)) ++
  (if inMask mask 30 then
    ((List.range 8).filter (inMask sub)).map (· + 24) ++ (if inMask sub 8 then [32] else [])
   else []) ++
  (([24, 25, 26, 27, 28, 29, 31].filter (inMask mask)).map (· + 33))

/-- The domain whose transparent ports forward a PTP frame from a port (R150). -/
def State.tcDomain (s : State) (p : Nat) (f : Frame) : Option Nat :=
  [0, 1].find? (fun d => s.domOn d && inMask (s.domMask d 0xC) p &&
    decide (byteAt s.tp (0x20 * d + 1) = byteAt f.payload (f.ptpOff + 4)))

/-- A PTP message that a transparent clock does not forward: the peer delay messages belong to one
link. -/
def ptpLinkLocal (f : Frame) : Bool := [2, 3, 0xA].contains f.ptpType

/-- Where a frame goes: its destinations, class and transparent-clock domain, or none where no entry
matches (R135). Hold-down is applied by the caller. -/
def State.routeFrame (s : State) (x : Nat) (f : Frame) (first n : Nat) : Option (List Nat × Nat × Option Nat) :=
  have e := endpointOf x
  if f.isPtp then
    have cls := if f.ptpEvent then 7 else 6
    match s.tcDomain x f with
    | none => some ([33 + 31], cls, none)
    | some d =>
      if ptpLinkLocal f then some ([33 + 31], cls, none)
      else some ((33 + 31) :: (List.range 24).filter (fun q => inMask (s.domMask d 0xC) q && !decide (q = x)),
        cls, some d)
  else if f.etherType = 0x88FB then some ([], 5, none)
  else
    match s.classify e f n first with
    | none => none
    | some i =>
      have b := s.entry i
      have cls := frameClass f b
      have outs := masked (leAt b 0x10 4) (leAt b 0x16 2)
      some (if cls ≥ 6 then outs.filter (fun q => !(decide (q ≤ 32) && decide (s.role q ≥ 7))) else outs,
        cls, none)

/-- Destinations in hold-down are removed and counted (R135). -/
def State.dropHeld (s : State) (outs : List Nat) : State × List Nat :=
  let held (q : Nat) : Bool := decide (q ≤ 32) && (s.port q).holdDown
  ((outs.filter held).foldl (fun s q => s.epCount q 3) s, outs.filter (fun q => !held q))

/-! ### Cells and admission (R136) -/

/-- Cells of a frame. DEDUCED, log entry 52. -/
def cellsOf (n : Nat) : Nat := (n + 255) / 256

/-- Cells of the queued frames that a test selects. -/
def State.cellsWhere (s : State) (t : QFrame → Bool) : Nat :=
  s.rdg.queues.foldl (fun n q => if t q then n + q.cells else n) 0

/-- Cells in use (R154). DEDUCED, log entry 52. -/
def State.cellsUsed (s : State) : Nat := s.cellsWhere (fun _ => true)

/-- Cells that a class takes from the shared pool: classes 6 and 7 use their 2,048 reserved cells
first. -/
def State.sharedOf (s : State) (c : Nat) : Nat :=
  have n := s.cellsWhere (fun q => decide (q.cls = c))
  if c ≥ 6 then n - 2048 else n

/-- Free cells of the shared pool. -/
def State.freeShared (s : State) : Nat :=
  28672 - (List.range 8).foldl (fun n c => n + s.sharedOf c) 0

/-- A frame is admitted to a queue (R136). -/
def State.admits (s : State) (out cls cells : Nat) : Bool :=
  if cls ≥ 6 then
    decide (cells ≤ s.freeShared + (2048 - s.cellsWhere (fun q => decide (q.cls = cls))))
  else
    decide (s.cellsWhere (fun q => decide (q.out = out) && decide (q.cls = cls)) < s.freeShared) &&
      decide (cells ≤ s.freeShared)

/-- The queued octets of an ingress port and class that drive PFC (R126, R136). -/
def State.occupancy (s : State) (x c : Nat) : Nat :=
  256 * s.cellsWhere (fun q => decide (q.ingress = x) && decide (q.cls = c))

/-- A PFC frame leaves a port. -/
def State.sendPfc (s : State) (p c quanta : Nat) : State :=
  (s.stat p 47 1).emit (.pfc p c quanta)

/-- XOFF and XON for an ingress port and class as the occupancy moves (R126). -/
def State.pfcCheck (s : State) (p c : Nat) : State :=
  if s.pfcOn p && s.pfcClass p c then
    have lim := s.portField p 0xC 2 * 1024
    have o := s.occupancy p c
    have x := s.port p
    if x.xoffSent.contains c then
      if 2 * o < lim then
        (s.setPort p { x with xoffSent := x.xoffSent.filter (· ≠ c) }).sendPfc p c 0
      else s
    else if o > lim then (s.setPort p { x with xoffSent := insNat x.xoffSent c }).sendPfc p c 0xFFFF
    else s
  else s

/-- PFC_XOFF_REPEAT (R126): half the quanta time passes with the occupancy still above half. -/
def execPfcXoffRepeat (dt : Nat) (p : Fin 33) (c : Fin 6) (s : State) : Result :=
  have s := s.elapse dt
  .next (if (s.port p.val).xoffSent.contains c.val &&
      decide (2 * s.occupancy p.val c.val > s.portField p.val 0xC 2 * 1024) then
      s.sendPfc p.val c.val 0xFFFF
    else s.pfcCheck p.val c.val)

/-! ### Shapers (R143) -/

/-- IDLE_SLOPE in kb/s of a port and class, at most 75 % of the present speed, 0 where unshaped. -/
def State.idleSlope (s : State) (p c : Nat) : Nat :=
  have b := s.cfg 2 0
  have base := 16 + 32 * s.entryCount
  match (List.range (leAt b 4 2)).find? (fun i => decide (byteAt b (base + 8 * i) = p) &&
      decide (byteAt b (base + 8 * i + 1) = c)) with
  | none => 0
  | some i => min (leAt b (base + 8 * i + 4) 4) (750 * s.portMbps p)

/-- Credit of a shaped class now, in 2^-16 × 10^-6 bit. -/
def State.credit (s : State) (p c : Nat) : Int :=
  have k := 8 * p + c
  tget s.rdg.credits k 0 + (s.idleSlope p c * (s.time.mono - tget s.rdg.creditAt k 0) : Nat)

/-- A class's credit with a new value at this instant. -/
def State.setCredit (s : State) (p c : Nat) (v : Int) : State :=
  have k := 8 * p + c
  { s with
    rdg := { s.rdg with
    credits := tset s.rdg.credits k v 0, creditAt := tset s.rdg.creditAt k s.time.mono 0 } }

/-! ### Queueing -/

/-- The cells of a frame take their flow's sequence numbers and cross the planes in turn (R137). -/
def State.spray (s : State) (x out cls cells : Nat) : State :=
  have k := (64 * x + out) * 8 + cls
  have q := tget s.rdg.flows k 0
  have s := { s with rdg := { s.rdg with flows := tset s.rdg.flows k ((q + cells) % 4096) 0 } }
  have even := (cells + 1 - q % 2) / 2
  have e := endpointOf x
  have smp : Option SampleInfo :=
    some { addr := e + 256 * endpointOf out + 65536 * cls, latency := 0, aux := 0 }
  have s := s.prfRidge 0 e cells smp
  if s.rdg.plane0 && s.rdg.plane1 then (s.prfRidge 5 e even smp).prfRidge 6 e (cells - even) smp
  else if s.rdg.plane0 then s.prfRidge 5 e cells smp
  else s.prfRidge 6 e cells smp

/-- A frame is queued for one egress, or refused and counted in BUF_DROP (R136). DEDUCED, log entry 52. -/
def State.enqueue (s : State) (q : QFrame) : State :=
  if s.admits q.out q.cls q.cells then
    have empty := !s.rdg.queues.any (fun y => decide (y.out = q.out) && decide (y.cls = q.cls))
    have s := if empty && decide (s.idleSlope q.out q.cls > 0) then
        s.setCredit q.out q.cls (min 0 (s.credit q.out q.cls)) else s
    have s := s.spray q.ingress q.out q.cls q.cells
    have s := { s with
      rdg := { s.rdg with
      queues := s.rdg.queues ++ [{ q with epoch := tget s.rdg.epochs q.out 0 }] } }
    s.pfcCheck q.ingress q.cls
  else
    have s := s.epCount q.out 4
    if q.cls ≥ 6 then
      (s.setEvent 257).eventRec 257 (endpointOf q.ingress) (endpointOf q.ingress)
    else s

/-- A frame without its queue place. -/
def mkQ (x out cls : Nat) (f : Frame) (rxTime : Nat) : QFrame :=
  { ingress := x, out := out, cls := cls, cells := cellsOf f.octets, epoch := 0, frame := f,
    rxTime := rxTime, ipSum := false, l4Sum := false, tc := none, host := none, ts := false }

/-- The next sequence number of a group (R145). -/
def State.nextSeq (s : State) (g : Nat) : State × Nat :=
  have n := tget s.rdg.seqs g 0
  ({ s with rdg := { s.rdg with seqs := tset s.rdg.seqs g ((n + 1) % 65536) 0 } }, n)

/-- The trailer or tag of a frame on a member of a group (R145): LAN A is 0xA, LAN B 0xB; the HSR path is 0
on PORT_A and 1 on PORT_B. PRESUMED, log entry 49. -/
def State.redTag (s : State) (g p q : Nat) : RedTag :=
  have isA := decide ((s.groupPorts g).2.1 = p)
  if s.isHsr g then { hsr := true, lan := if isA then 0 else 1, seq := q }
  else { hsr := false, lan := if isA then 0xA else 0xB, seq := q }

/-- A frame of the module's own is queued for its destinations: each group among them gets one copy on
each member, both with one sequence number (R145). -/
def State.sendOwn (s : State) (q : QFrame) (outs : List Nat) : State :=
  have groups := (List.range s.groupCount).filter (fun g =>
    decide ((s.groupPorts g).1 ≠ 0) && outs.any (fun p => s.groupOf p = some g))
  have plain := outs.filter (fun p => decide (p > 23) || s.groupOf p = none)
  have s := plain.foldl (fun s p => s.enqueue { q with out := p }) s
  groups.foldl (fun s g =>
    let (s, n) := s.nextSeq g
    let one (s : State) (p : Nat) : State :=
      if (s.port p).holdDown then s.epCount p 3
      else
        have f := { q.frame with red := some (s.redTag g p n) }
        s.enqueue { q with out := p, frame := f, cells := cellsOf f.octets }
    one (one s (s.groupPorts g).2.1) (s.groupPorts g).2.2) s

/-! ### Parking (R148) -/

/-- The subscriptions of the image: the bodies and offsets of their entries (R297). -/
def imageSubs (im : Image) : List StreamCfg :=
  (im.sections.filter (fun x => decide (x.typ = 6))).flatMap
    (fun x => (groupOffsets x.body).map (fun o => ⟨x.body, o⟩))

/-- The subscriptions of the running image. -/
def State.subCfgs (s : State) : List StreamCfg :=
  match s.img.run with
  | none => []
  | some im => imageSubs im

/-- The destination address of a stream or subscription entry. DEDUCED, log entry 57. -/
def StreamCfg.destMac (c : StreamCfg) : Nat := beAt c.body c.off 6

/-- A frame goes to a stream or subscription that requires authentication (R148). -/
def State.needsAuth (s : State) (f : Frame) : Bool :=
  if f.isSv then
    s.streamCfgs.any (fun c => decide (c.destMac = f.dst) && decide (f.appid = some (c.fieldAt 6 2)) &&
      decide (c.fieldAt 0x21 1 % 2 = 1))
  else if f.etherType = 0x88B8 then
    s.subCfgs.any (fun c => decide (c.destMac = f.dst) && decide (f.appid = some (c.fieldAt 6 2)) &&
      decide (c.fieldAt 0x0C 1 % 2 = 1))
  else if f.isRGoose then
    s.subCfgs.any (fun c => decide (c.fieldAt 0x0C 1 / 4 % 2 = 1) && decide (c.fieldAt 0x0C 1 % 2 = 1) &&
      decide (beAt f.payload 16 4 = leAt c.body (c.off + 0x18) 4))
  else false

/-- The first copy of a frame awaits its verification result. -/
def parkMatch (mac g q : Nat) (x : Park) : Bool :=
  decide (x.mac = mac) && decide (x.group = g) && decide (x.seq = q)

/-- A duplicate: parked while its first copy's result is awaited, else discarded (R146, R148). -/
def State.duplicate (s : State) (p g : Nat) (f : Frame) (q : Nat) : State :=
  match s.rdg.parks.find? (parkMatch f.src g q) with
  | none => s.epCount p 6
  | some x =>
    if x.frame.isSome then s.epCount p 6
    else if (s.rdg.parks.filter (fun y => y.frame.isSome)).length ≥ 64 then
      ((s.wrapBy 0x200044 1).setEvent 263).eventRec 263 (endpointOf p) (endpointOf p)
    else
      { s with
        rdg := { s.rdg with
        parks := s.rdg.parks.map (fun y =>
          if parkMatch f.src g q y then { y with frame := some f, ingress := p } else y) } }

/-- The verification result of a frame from a source in a group (R148). -/
def State.authResult (s : State) (mac g q : Nat) (ok : Bool) : State :=
  match s.rdg.parks.find? (parkMatch mac g q) with
  | none => if ok then s else s.markSeen mac g q false
  | some x =>
    have s := { s with
      rdg := { s.rdg with
      parks := s.rdg.parks.filter (fun y => !parkMatch mac g q y) } }
    if ok then (if x.frame.isSome then s.epCount x.ingress 6 else s)
    else
      have s := s.markSeen mac g q false
      match x.frame with
      | none => s
      | some f =>
        have ep := if f.isSv then 33 + 24 else 33 + 25
        s.enqueue { mkQ x.ingress ep (frameClass f []) f s.time.mono with cells := cellsOf f.octets }

/-! ### Link-down and hold-down (R141, R142) -/

/-- A port's queues are flushed, each frame counting in FLUSHED, its link epoch advances and its
credits are 0 (R141, R143). A frame that is being sent stops and counts as well (R142). -/
def State.flushPort (s : State) (p : Nat) : State :=
  let hit (q : QFrame) : Bool := decide (q.out = p)
  have n := (s.rdg.queues.filter hit).length + (s.rdg.t1s.filter hit).length +
    b2n (decide ((s.port p).sendEnd > s.time.mono))
  have gone := s.rdg.queues.filter hit
  have s := { s with
    rdg := { s.rdg with
      queues := s.rdg.queues.filter (fun q => !hit q),
      t1s := s.rdg.t1s.filter (fun q => !hit q),
      flows := s.rdg.flows.filter (fun e => !decide (e.1 / 8 % 64 = p)),
      epochs := tset s.rdg.epochs p ((tget s.rdg.epochs p 0 + 1) % 16) 0,
      credits := s.rdg.credits.filter (fun e => !decide (e.1 / 8 = p)),
      creditAt := (List.range 8).foldl (fun t c => tset t (8 * p + c) s.time.mono 0) s.rdg.creditAt } }
  have s := s.setPort p { s.port p with sendEnd := 0 }
  have s := s.wrapBy (epCnt p 2) n
  gone.foldl (fun s q => (s.pfcCheck q.ingress q.cls).copyGone q.host) s

/-- Hold-down starts (R141). DEDUCED, log entry 55. -/
def State.startHold (s : State) (p : Nat) : State :=
  have s := s.setPort p { s.port p with holdDown := true, holdAtUp := false }
  (s.setEvent 260).eventRec 260 p p

/-- A port's link is gone: LINK_UP falls, the ridge flushes and the servo path is lost. -/
def State.dropLink (s : State) (p : Nat) : State :=
  have s := s.setLink p false
  have s := s.setPort p { s.port p with trained := false, speed := 0, fecActive := false }
  (s.flushPort p).pathLost p

/-- A port declares link-down: the ridge flushes and holds it down for HOLD_DOWN (R141). -/
def State.linkDown (s : State) (p : Nat) : State :=
  have s := (s.stat p 53 1).dropLink p
  if s.holdMs p = 0 then s.setPort p { s.port p with holdDown := false } else s.startHold p

/-- A frame that was leaving in cut-through when its ingress link dropped ends with the stomped FCS
(R140). -/
def State.stomp (s : State) (p : Nat) (f : Frame) : State :=
  have s := (s.epCount p 1).emit (.frame p f true)
  (s.setEvent 259).eventRec 259 (endpointOf p) (endpointOf p)

/-- A port enters RECOVERY when its link returns after hold-down or after a block reset (R100). -/
def State.recoverPort (s : State) (p : Nat) : State :=
  (s.setPort p { s.port p with recoverAtUp := false }).enterRecovery p

/-- Hold-down of a port ends (R141). With the link up, LINK_UP becomes 1 and a PTP port enters RECOVERY.
DEDUCED, log entry 55. -/
def State.endHold (s : State) (p : Nat) : State :=
  if (s.port p).holdDown then
    have s := s.setPort p { s.port p with holdDown := false }
    have s := (s.setEvent 261).eventRec 261 p p
    if (s.port p).trained then (s.setLink p true).recoverPort p
    else s.setPort p { s.port p with recoverAtUp := true }
  else s

/-- HOLD_DOWN_EXPIRY (R141). -/
def execHoldDownExpiry (dt : Nat) (p : Fin 33) (s : State) : Result := .next ((s.elapse dt).endHold p.val)

/-- The line speed of a port that comes up (R120, R131): a change counts and sets NOTE_SPEED. -/
def State.newSpeed (s : State) (p speed : Nat) (fec : Bool) : State :=
  have x := s.port p
  have s := s.setPort p { x with trained := true, speed := speed, lastSpeed := speed, fecActive := fec }
  if x.lastSpeed ≠ 0 ∧ x.lastSpeed ≠ speed then (s.stat p 58 1).note p 9 else s

/-- The higher speed of a port with DOWNSHIFT (R127): 10 Gb/s on S1 to S4, 1,000 Mb/s on S5 to S8. -/
def higherSpeed (p : Nat) : Nat := if p < 20 then 4 else 3

/-- A shaped port writes a record when a downshift lowers its speed (R143). -/
def State.shaperRec (s : State) (p : Nat) : State :=
  if (List.range 6).any (fun c => decide (s.idleSlope p c > 0)) then s.macRec p 3 else s

/-- A port's link trains at a speed (R142, R127). DEDUCED, log entry 55. -/
def linkTrains (p speed : Nat) (fec : Bool) (s : State) : State :=
  have x := s.port p
  if x.adminDown || x.modMismatch || decide (speed = 0) || decide (s.role p = 0) then s
  else
    match x.reneg with
    | some t =>
      if speed = t then
        have s := s.setPort p { x with reneg := none, low := decide (t < higherSpeed p), quiet := 0, hot10 := 0 }
        have s := (s.newSpeed p speed fec).setLink p true
        have s := s.macRec p 3
        if t < higherSpeed p then s.shaperRec p else s
      else s
    | none =>
      have s := s.newSpeed p speed fec
      if x.holdAtUp && decide (s.holdMs p ≠ 0) then s.startHold p
      else if x.holdDown then s
      else
        have s := (s.setPort p { s.port p with holdAtUp := false }).setLink p true
        if x.recoverAtUp then s.recoverPort p else s

/-- LINK_UP (R142). -/
def execLinkUp (dt : Nat) (p : Fin 33) (speed : Fin 6) (fec : Bool) (s : State) : Result :=
  .next (linkTrains p.val speed.val fec (s.elapse dt))

/-- A transceiver is fitted or removed, or its signals change (R111, R131, R489). A port whose
transceiver leaves or does not fit loses its link. -/
def transceiver (p : Nat) (present mismatch txFault los : Bool) (s : State) : State :=
  if p < 20 then
    have x := s.port p
    have s := s.setPort p { x with
      modPresent := present, modMismatch := present && mismatch, modTxFault := present && txFault,
      modLos := present && los }
    have s := if x.modPresent ≠ present then s.note p 13 else s
    if x.trained && (!present || mismatch) then s.linkDown p else s
  else s

/-- TRANSCEIVER_CHANGE (R131). -/
def execTransceiverChange (dt : Nat) (p : Fin 33) (present mismatch txFault los : Bool) (s : State) : Result :=
  .next (transceiver p.val present mismatch txFault los (s.elapse dt))

/-- ADMIN_DOWN (R130, R142): flush and epoch advance; hold-down starts when the link comes up after
ADMIN_UP. -/
def adminDown (p rsv arg : Nat) (s : State) : State :=
  s.runCmd (macBase p) 1 rsv arg (verdict (arg = 0) (s.adminMode p)) fun s =>
    have s := s.dropLink p
    (s.setPort p { s.port p with adminDown := true, holdDown := false, holdAtUp := true, reneg := none }).macDone p

/-- ADMIN_DOWN (R130). -/
def execAdminDown (dt : Nat) (p : Fin 33) (rsv : BitVec 8) (arg : BitVec 16) (s : State) : Result :=
  .next (adminDown p.val rsv.toNat arg.toNat (s.elapse dt))

/-- MAC_CMD (R130). -/
def macCommand (p code rsv arg : Nat) (s : State) : State :=
  match code with
  | 1 => adminDown p rsv arg s
  | 2 => adminUp p rsv arg s
  | 3 => speedPin p rsv arg s
  | _ => s.badCode (macBase p) code rsv arg

/-! ### Speed changes (R127, R128) -/

/-- A speed change starts: the port is announced to the ridge as down, without hold-down (R127). -/
def State.startSpeed (s : State) (p speed : Nat) : State :=
  have s := s.dropLink p
  s.setPort p { s.port p with reneg := some speed, quiet := 0, hot10 := 0 }

/-- The other member of a downshift port is up and not renegotiating. -/
def State.otherReady (s : State) (p : Nat) : Bool :=
  match s.otherMember p with
  | none => false
  | some q => (s.port q).linkUp && (s.port q).reneg.isNone

/-- The other member is at its higher speed. -/
def State.otherHigh (s : State) (p : Nat) : Bool :=
  match s.otherMember p with
  | none => false
  | some q => !(s.port q).low

/-- The downshift machine of a port runs. -/
def State.shiftRuns (s : State) (p : Nat) : Bool :=
  have x := s.port p
  s.downshiftOn p && decide (s.role p = 5) && !x.pinned && !x.suspended && x.reneg.isNone && x.linkUp

/-- A 1 s utilisation sample, in units of 0.01 % (R127). -/
def utilSample1s (p util : Nat) (s : State) : State :=
  have x := s.port p
  have s := s.setPort p { x with util := min 100 (util / 100) }
  if s.shiftRuns p then
    have x := s.port p
    if s.otherReady p = false then s.setPort p { x with quiet := 0, hot10 := 0 }
    else if x.low then s
    else
      have q := if util < 200 then min 65535 (x.quiet + 1) else 0
      have s := s.setPort p { x with quiet := q }
      if q ≥ 60 ∧ s.otherHigh p = true then
        have s := match s.otherMember p with
          | none => s
          | some o => s.setPort o { s.port o with quiet := 0 }
        s.startSpeed p (higherSpeed p - 1)
      else s
  else s

/-- UTIL_SAMPLE_1S (R127). -/
def execUtilSample1s (dt : Nat) (p : Fin 33) (util : Fin 10001) (s : State) : Result :=
  .next (utilSample1s p.val util.val (s.elapse dt))

/-- A 10 ms utilisation sample at the lower speed, in units of 0.01 % (R127). -/
def utilSample10ms (p util : Nat) (s : State) : State :=
  if s.shiftRuns p && (s.port p).low then
    have x := s.port p
    if s.otherReady p = false then s.setPort p { x with hot10 := 0 }
    else
      have n := if util > 2000 then min 10 (x.hot10 + 1) else 0
      have s := s.setPort p { x with hot10 := n }
      if n ≥ 10 then s.startSpeed p (higherSpeed p) else s
  else s

/-- UTIL_SAMPLE_10MS (R127). -/
def execUtilSample10ms (dt : Nat) (p : Fin 33) (util : Fin 10001) (s : State) : Result :=
  .next (utilSample10ms p.val util.val (s.elapse dt))

/-- The link is not up at the new speed within 3 s (R127): the port returns to the higher speed, treated
as a link-down with hold-down, and DOWNSHIFT is suspended. -/
def speedTimeout (p : Nat) (s : State) : State :=
  if (s.port p).reneg.isSome then
    have s := s.setPort p { s.port p with reneg := none, low := false, suspended := true }
    (s.linkDown p).macRec p 3
  else s

/-- SPEED_CHANGE_TIMEOUT (R127). -/
def execSpeedChangeTimeout (dt : Nat) (p : Fin 33) (s : State) : Result :=
  .next (speedTimeout p.val (s.elapse dt))

/-! ### Pause (R124 to R126) -/

/-- A received PFC frame, or a clause 31 PAUSE frame where `enables` is none (R125). -/
def pfcRx (p : Nat) (enables : Option (BitVec 8)) (quanta : List Nat) (s : State) : State :=
  if !s.portOn p || (s.port p).adminDown || decide (s.role p = 0) then s
  else if (s.port p).holdDown then s.stat p 44 1
  else
    have en := enables.getD 0
    have ok := (List.range 6).filter (fun c => en.getLsbD c && s.pfcClass p c && s.pfcOn p &&
      !(s.port p).wdogReleased.contains c)
    if ok.isEmpty then s.stat p 43 1
    else
      have paused := (List.range 6).filter (fun c =>
        if ok.contains c then decide (quanta.getD c 0 ≠ 0) else (s.port p).paused.contains c)
      (s.setPort p { s.port p with paused := paused }).stat p 42 1

/-- PFC_FRAME_RX (R125). -/
def execPfcFrameRx (dt : Nat) (p : Fin 33) (enables : Option (BitVec 8)) (quanta : List Nat) (s : State) : Result :=
  .next (pfcRx p.val enables quanta (s.elapse dt))

/-- PFC_PAUSE_EXPIRY (R125). -/
def execPfcPauseExpiry (dt : Nat) (p : Fin 33) (c : Fin 6) (s : State) : Result :=
  have s := s.elapse dt
  .next (s.setPort p.val { s.port p.val with paused := (s.port p.val).paused.filter (· ≠ c.val) })

/-- PFC_WATCHDOG (R126): the port ignores pause for the class. -/
def pfcWatchdog (p c : Nat) (s : State) : State :=
  have x := s.port p
  if x.paused.contains c then
    have s := s.setPort p { x with
      paused := x.paused.filter (· ≠ c), wdogReleased := insNat x.wdogReleased c }
    have had := (s.rd (macBase p + 0x18)).getLsbD 10
    have s := (s.stat p 59 1).note p 10
    if had then s.macRec p 3 else s
  else s

/-- PFC_WATCHDOG (R126). -/
def execPfcWatchdog (dt : Nat) (p : Fin 33) (c : Fin 6) (s : State) : Result :=
  .next (pfcWatchdog p.val c.val (s.elapse dt))

/-- PFC_WATCHDOG_RELEASE_END (R126). -/
def execPfcWatchdogReleaseEnd (dt : Nat) (p : Fin 33) (c : Fin 6) (s : State) : Result :=
  have s := s.elapse dt
  .next (s.setPort p.val { s.port p.val with
    wdogReleased := (s.port p.val).wdogReleased.filter (· ≠ c.val) })

/-! ### Planes and the RDG commands (R137, R138, R153) -/

/-- Address of RDG_CMD. -/
def rdgCmdReg : Nat := 0x200000

/-- The planes that carry traffic follow the selection and the faults. -/
def State.planesNow (s : State) : State :=
  have r := s.rdg
  { s with rdg := { r with plane0 := decide (r.select ≠ 2) && !r.fault0, plane1 := decide (r.select ≠ 1) && !r.fault1 } }

/-- A plane leaves service (R138): the traffic runs on the other one. -/
def State.planeOut (s : State) (k : Nat) : State :=
  have r := s.rdg
  have r := if k = 0 then { r with fault0 := true, plane0 := false, plane1 := !r.fault1 }
    else { r with fault1 := true, plane1 := false, plane0 := !r.fault0 }
  ({ s with rdg := r }.setEvent 256).eventRec 256 k k

/-- A missing cell has not arrived 2 µs after its successor: the frame at the head of its flow is
discarded (R137). -/
def reseqTimeout (out x cls : Nat) (s : State) : State :=
  let hit (q : QFrame) : Bool := decide (q.out = out) && decide (q.ingress = x) && decide (q.cls = cls)
  match s.rdg.queues.find? hit with
  | none => s
  | some q =>
    have s := { s with rdg := { s.rdg with queues := s.rdg.queues.erase q } }
    have s := s.copyGone q.host
    if q.epoch = tget s.rdg.epochs out 0 then
      ((s.epCount out 5).setEvent 258).pfcCheck x cls
    else s.pfcCheck x cls

/-- RESEQ_TIMEOUT (R137). -/
def execReseqTimeout (dt : Nat) (out ingress : Fin 65) (cls : Fin 8) (s : State) : Result :=
  .next (reseqTimeout out.val ingress.val cls.val (s.elapse dt))

/-- NT_FLUSH (R153). -/
def ntFlush (rsv arg : Nat) (s : State) : State :=
  s.runCmd rdgCmdReg 1 rsv arg (verdict (arg = 0) s.img.loaded) fun s =>
    ({ s with rdg := { s.rdg with nodes := s.rdg.nodes.filter (·.static) } }).cmdDone rdgCmdReg

/-- NT_FLUSH (R153). -/
def execNtFlush (dt : Nat) (rsv : BitVec 8) (arg : BitVec 16) (s : State) : Result :=
  .next (ntFlush rsv.toNat arg.toNat (s.elapse dt))

/-- COMMISSION, TEST or MAINTENANCE. -/
def State.inService (s : State) : Bool := s.inCommTest || decide (s.glb.mode = .maintenance)

/-- PLANE_SELECT (R153). A selection that names a faulted plane is refused. DEDUCED, log entry 58. -/
def planeSelect (rsv arg : Nat) (s : State) : State :=
  s.runCmd rdgCmdReg 2 rsv arg
    (verdict (arg < 3) (s.inService && !(decide (arg ≠ 2) && s.rdg.fault0) && !(decide (arg ≠ 1) && s.rdg.fault1)))
    fun s => ({ s with rdg := { s.rdg with select := arg } }.planesNow).cmdDone rdgCmdReg

/-- PLANE_SELECT (R153). -/
def execPlaneSelect (dt : Nat) (rsv : BitVec 8) (arg : BitVec 16) (s : State) : Result :=
  .next (planeSelect rsv.toNat arg.toNat (s.elapse dt))

/-- HOLDDOWN_END (R153). -/
def holddownEnd (rsv arg : Nat) (s : State) : State :=
  s.runCmd rdgCmdReg 3 rsv arg (verdict (arg < 24) (s.inService && (s.port arg).holdDown)) fun s =>
    (s.endHold arg).cmdDone rdgCmdReg

/-- HOLDDOWN_END (R153). -/
def execHolddownEnd (dt : Nat) (rsv : BitVec 8) (arg : BitVec 16) (s : State) : Result :=
  .next (holddownEnd rsv.toNat arg.toNat (s.elapse dt))

/-- RDG_CMD (R153). -/
def rdgCommand (code rsv arg : Nat) (s : State) : State :=
  match code with
  | 1 => ntFlush rsv arg s
  | 2 => planeSelect rsv arg s
  | 3 => holddownEnd rsv arg s
  | _ => s.badCode rdgCmdReg code rsv arg

/-- The ridge takes the running image: the static entries of REDUNDANCY, and every dynamic entry kept
(R146, R152). -/
def rdgLoad (s : State) : State :=
  have b := s.cfg 3 0
  have old := s.rdg.nodes
  have stat := (List.range (leAt b 2 2)).map (fun i =>
    have mac := beAt b (0x70 + 8 * i) 6
    have g := byteAt b (0x76 + 8 * i)
    match old.find? (fun n => decide (n.mac = mac) && decide (n.group = g)) with
    | some n => { n with static := true }
    | none => { mac := mac, group := g, last := 0, seen := 0, static := true, heard := false })
  have dyn := old.filter (fun n => !n.static &&
    !stat.any (fun m => decide (m.mac = n.mac) && decide (m.group = n.group)))
  { s with rdg := { s.rdg with nodes := stat ++ dyn } }

end Sys2Proof.Machine
end

