-- ==== Sys2Proof/Machine/Ridge.lean ====
section
/-!
DEFINITION. Family: frames through the ports and the ridge (R115 to R150): reception, cut-through,
transmission, transparent clock and the T1S media access.
-/

namespace Sys2Proof.Machine

open Sys2Proof

/-! ### Transparent clock (R150) -/

/-- A frame with its correctionField advanced by 2^-16 ns units; over UDP its checksum becomes 0. -/
def addCorrection (f : Frame) (v : Int) : Frame :=
  have o := f.ptpOff + 8
  have c := ofTwos 64 (beAt f.payload o 8) + v
  have b := overlay f.payload o (beBytes (toTwos 64 c) 8)
  { f with payload := if f.etherType = 0x88F7 then b else overlay b (f.ihl + 6) [0, 0] }

/-- sequenceId and sourcePortIdentity of a PTP frame. -/
def ptpKey (f : Frame) : Nat × Nat :=
  (beAt f.payload (f.ptpOff + 30) 2, beAt f.payload (f.ptpOff + 20) 10)

/-- The residence time of a transparent-clock frame that leaves now, with the ingress link delay under a
peer-to-peer profile. -/
def State.residence (s : State) (q : QFrame) (d : Nat) : Int :=
  ((s.time.mono - q.rxTime : Nat) : Int) +
    (if peerDelay (s.domProfile d) then (s.port q.ingress).linkDelay else 0)

/-- A frame of transparent-clock traffic as it leaves an egress (R150): a one-step event message is
corrected on the fly, the residence of a two-step Sync waits for its Follow_Up, at most 64 for an
egress, and a Follow_Up takes the residence that matches it. -/
def State.tcFrame (s : State) (q : QFrame) : State × Frame :=
  match q.tc with
  | none => (s, q.frame)
  | some d =>
    have f := q.frame
    have k := ptpKey f
    if f.ptpEvent then
      if f.ptpType = 0 ∧ byteAt f.payload (f.ptpOff + 6) / 2 % 2 = 1 then
        if (s.rdg.res.filter (fun r => decide (r.out = q.out))).length < 64 then
          ({ s with
              rdg := { s.rdg with
              res := s.rdg.res ++ [{ out := q.out, seqId := k.1, portId := k.2, time := s.residence q d }] } }, f)
        else (s, f)
      else (s.stat q.out 60 1, addCorrection f (s.residence q d))
    else if f.ptpType = 8 then
      let hit (r : Residence) : Bool :=
        decide (r.out = q.out) && decide (r.seqId = k.1) && decide (r.portId = k.2)
      match s.rdg.res.find? hit with
      | none => (s.wrapBy 0x200048 1, f)
      | some r =>
        ({ s with
            rdg := { s.rdg with
            res := s.rdg.res.erase r } }, addCorrection f r.time)
    else (s, f)

/-! ### Transmission (R117, R118, R143) -/

/-- The checksums that a frame asked for (R118). -/
def State.fillSums (s : State) (q : QFrame) (f : Frame) : State × Frame :=
  have f := if q.ipSum then f.fillIp else f
  if q.l4Sum && f.canL4 then (s.stat q.out 61 1, f.fillL4) else (s, f)

/-- The transmit timestamp of a host frame's copy that asked for one (R122, R123). DEDUCED, log entry 54. -/
def State.txStamp (s : State) (q : QFrame) : State :=
  match q.host with
  | none => s
  | some h =>
    if q.ts then
      if s.tsTxRoom q.out then
        have s := s.setPort q.out { s.port q.out with txHost := (s.port q.out).txHost + 1 }
        s.copySent h q.out (some s.now) true false
      else ((s.stat q.out 46 1).macEvent q.out 2).copySent h q.out none false true
    else s.copySent h q.out none false false

/-- A frame leaves a port (R117): padded to 60 octets, corrected and checksummed, counted and stamped.
The port sends until preamble, frame and gap have passed. -/
def State.sendOut (s : State) (q : QFrame) : State :=
  let (s, f) := s.tcFrame q
  let (s, f) := s.fillSums q f
  have n := f.octets
  have s := s.statFrame q.out f n 8 24 57
  have s := s.setPort q.out { s.port q.out with
    sendEnd := s.time.mono + s.bitTime q.out (8 * (n + 20)), t1sTries := 0, t1sWait := none }
  have lat := (s.time.mono - q.rxTime) / nsUnit
  have smp : Option SampleInfo := some { addr := endpointOf q.ingress + 256 * endpointOf q.out + 65536 * q.cls, latency := lat, aux := n }
  have s := s.prfRidge 1 (endpointOf q.out) 1 smp
  have s := if q.ingress ≤ 32 then s.prfRidge 7 (endpointOf q.out) lat smp else s
  (s.emit (.frame q.out f false)).txStamp q

/-- A frame reaches an internal endpoint (R133). -/
def State.deliverTo (s : State) (q : QFrame) : State :=
  have lat := (s.time.mono - q.rxTime) / nsUnit
  have e := q.out - 33
  have s := s.prfRidge 1 e 1 (some { addr := endpointOf q.ingress + 256 * e + 65536 * q.cls, latency := lat, aux := q.frame.octets })
  have s := s.emit (.deliver e q.frame)
  match q.host with
  | none => s
  | some h => s.copySent h q.out none false false

/-- Host queues stop fetching a class while ingress 26 holds more than 512 KiB of it, and resume below
256 KiB (R405). -/
def State.hostPressure (s : State) (c : Nat) : State :=
  have o := s.occupancy (33 + 26) c
  have h := s.hst
  if o > 524288 then { s with hst := { h with stopped := insNat h.stopped c } }
  else if o < 262144 ∧ h.stopped.contains c = true then
    { s with
        hst := { h with
        stopped := h.stopped.filter (· ≠ c),
        queues := h.queues.map (fun e => (e.1, { e.2 with txClass := e.2.txClass.filter (· ≠ c) })) } }
  else s

/-- A class of an egress may send: it is not paused, and a shaped class has credit (R125, R143). -/
def State.classReady (s : State) (x c : Nat) : Bool :=
  if x ≤ 32 then
    !(s.port x).paused.contains c && (decide (s.idleSlope x c = 0) || decide (s.credit x c ≥ 0))
  else true

/-- The first queued frame of each ingress in a class of an egress. DESIGN CHOICE, log entry 50. -/
def firsts (l : List QFrame) (x c : Nat) (seen : List Nat) : List QFrame :=
  match l with
  | [] => []
  | q :: r =>
    if q.out = x ∧ q.cls = c ∧ seen.contains q.ingress = false then
      q :: firsts r x c (q.ingress :: seen)
    else firsts r x c seen

/-- The frame that an idle egress takes next: strict priority from class 7 down, and among the ingresses of
that class the one that `pick` selects (R143). DESIGN CHOICE, log entry 50. -/
def State.nextFrame (s : State) (x pick : Nat) : Option QFrame :=
  match [7, 6, 5, 4, 3, 2, 1, 0].find? (fun c => s.classReady x c &&
      !(firsts s.rdg.queues x c []).isEmpty) with
  | none => none
  | some c =>
    have l := firsts s.rdg.queues x c []
    l[pick % l.length]?

/-- A frame leaves its queue. DESIGN CHOICE, log entry 50. -/
def State.dequeue (s : State) (q : QFrame) : State :=
  have s := { s with rdg := { s.rdg with queues := s.rdg.queues.erase q } }
  have s := if q.ingress = 33 + 26 then s.hostPressure q.cls else s.pfcCheck q.ingress q.cls
  if q.out ≤ 32 ∧ s.idleSlope q.out q.cls > 0 then
    s.setCredit q.out q.cls (s.credit q.out q.cls - (q.frame.octets * 8 * 65536000000 : Nat))
  else s

/-- A port can begin a frame. -/
def State.egressIdle (s : State) (x : Nat) : Bool :=
  s.portOn x && s.linkUp x && !(s.port x).adminDown && (s.port x).reneg.isNone &&
    decide ((s.port x).sendEnd ≤ s.time.mono) && (s.port x).t1sWait.isNone

/-- An idle egress picks the next frame and sends it (R143). A 10BASE-T1S port first sends the frame that
it attempts again; `busy` says that it waited for a busy medium. -/
def egressTransmit (x pick : Nat) (busy : Bool) (s : State) : State :=
  if x > 32 then
    match s.nextFrame x pick with
    | none => s
    | some q => (s.dequeue q).deliverTo q
  else if s.egressIdle x then
    match s.rdg.t1s.find? (fun q => decide (q.out = x)) with
    | some q => ({ s with rdg := { s.rdg with t1s := s.rdg.t1s.erase q } }).sendOut q
    | none =>
      match s.nextFrame x pick with
      | none => s
      | some q =>
        have s := s.dequeue q
        have s := if busy && decide (24 ≤ x) && decide (x < 32) then s.stat x 51 1 else s
        if q.epoch = tget s.rdg.epochs x 0 then s.sendOut q else s.copyGone q.host
  else s

/-- EGRESS_TRANSMIT (R143). -/
def execEgressTransmit (dt : Nat) (x : Fin 65) (pick : Nat) (busy : Bool) (s : State) : Result :=
  .next (egressTransmit x.val pick busy (s.elapse dt))

/-! ### 10BASE-T1S (R129) -/

/-- The frame that a T1S port attempts: the one it holds, or the next one of its queues. DEDUCED, log entry
56. -/
def State.t1sAttempt (s : State) (p pick : Nat) : Option (State × QFrame) :=
  match s.rdg.t1s.find? (fun q => decide (q.out = p)) with
  | some q => some (s, q)
  | none =>
    match s.nextFrame p pick with
    | none => none
    | some q =>
      have s := s.dequeue q
      some ({ s with rdg := { s.rdg with t1s := s.rdg.t1s ++ [q] } }, q)

/-- A T1S port drops the frame that it attempts, with NOTE_COLLISION. DEDUCED, log entry 56. -/
def State.t1sDrop (s : State) (p n : Nat) (q : QFrame) : State :=
  have s := { s with rdg := { s.rdg with t1s := s.rdg.t1s.erase q } }
  have s := s.setPort p { s.port p with t1sTries := 0, t1sWait := none }
  ((s.stat p n 1).note p 12).copyGone q.host

/-- A collision on a T1S port (R129). After the nth collision it waits r × 512 bit times, r from 0 to
2^min(n, 10) − 1; after 16 attempts, or on a late collision, it drops the frame. DEDUCED, log entry 56. -/
def t1sCollision (p : Nat) (late : Bool) (r pick : Nat) (s : State) : State :=
  if 24 ≤ p ∧ p < 32 ∧ s.egressIdle p = true then
    match s.t1sAttempt p pick with
    | none => s
    | some (s, q) =>
      if late then s.t1sDrop p 49 q
      else
        have s := s.stat p 48 1
        have n := (s.port p).t1sTries + 1
        if n ≥ 16 then s.t1sDrop p 50 q
        else s.setPort p { s.port p with t1sTries := n, t1sWait := some (r % 2 ^ min n 10) }
  else s

/-- T1S_COLLISION (R129). -/
def execT1sCollision (dt : Nat) (p : Fin 33) (late : Bool) (r pick : Nat) (s : State) : Result :=
  .next (t1sCollision p.val late r pick (s.elapse dt))

/-- T1S_BACKOFF_EXPIRY (R129): the frame may be attempted again. -/
def execT1sBackoffExpiry (dt : Nat) (p : Fin 33) (s : State) : Result :=
  have s := s.elapse dt
  .next (s.setPort p.val { s.port p.val with t1sWait := none })

/-! ### Reception -/

/-- The number of entries that classification searches: the image's and those that functions wrote. -/
def State.classEnd (s : State) : Nat :=
  s.hst.classes.foldl (fun n e => max n (e.1 + 1)) s.entryCount

/-- A frame may be forwarded in cut-through from a port to a port (R139). -/
def State.cuts (s : State) (p x cls : Nat) : Bool :=
  decide (cls ≥ 6) && decide (x ≤ 32) && decide (s.portMbps x ≥ s.portMbps p) && s.egressIdle x &&
    !s.rdg.queues.any (fun q => decide (q.out = x) && decide (q.cls ≥ cls))

/-- A frame is forwarded to one egress: in cut-through where R139 allows it, else queued. -/
def State.forward (s : State) (q : QFrame) : State :=
  if s.cuts q.ingress q.out q.cls then
    have s := s.spray q.ingress q.out q.cls q.cells
    have s := (s.epCount q.out 0).prfRidge 2 (endpointOf q.out) 1
      (some { addr := endpointOf q.ingress + 256 * endpointOf q.out + 65536 * q.cls, latency := (s.time.mono - q.rxTime) / nsUnit, aux := q.frame.octets })
    s.sendOut q
  else s.enqueue q

/-- The other ring port of an HSR port to which a frame goes on (R149). -/
def State.ringNext (s : State) (p : Nat) (f : Frame) : Option Nat :=
  match s.groupOf p with
  | none => none
  | some g => if s.isHsr g && !f.isPtp && !decide (f.dst = (Config.portMac p).toNat) then s.otherMember p else none

/-- An accepted frame goes to its destinations (R135, R149). -/
def State.route (s : State) (p : Nat) (f : Frame) (rxTime : Nat) : State :=
  have tag := f.red
  have g := { f with red := none }
  have bad := decide (f.ipCode = 2) || decide (f.l4Code = 2)
  have ring := s.ringNext p f
  have s := match ring with
    | none => s
    | some o =>
      have c := match s.routeFrame p g 0 s.classEnd with
        | none => frameClass g []
        | some r => r.2.1
      if (s.port o).holdDown then s.epCount o 3 else s.forward (mkQ p o c f rxTime)
  match s.routeFrame p g 0 s.classEnd with
  | none => if ring.isSome then s else s.epCount p 7
  | some (outs, cls, tc) =>
    let (s, outs) := s.dropHeld outs
    have outs := outs.filter (fun x => !(some x = ring) && !(bad && decide (x ≥ 57) && !(decide (x = 59)) && !(decide (x = 60))))
    have s := if g.ptpEvent then s.tsRxPtp p else s
    have s := if (outs.contains 59 || outs.contains 60) && s.tsHost p && decide (p < 24) then s.tsRxHost p else s
    have s := match tag, s.groupOf p with
      | some t, some gr =>
        if (outs.contains 57 || outs.contains 58) && s.needsAuth g &&
            !s.rdg.parks.any (parkMatch g.src gr t.seq) then
          { s with
            rdg := { s.rdg with
            parks := s.rdg.parks ++ [{ mac := g.src, group := gr, seq := t.seq, frame := none, ingress := p }] } }
        else s
      | _, _ => s
    outs.foldl (fun s x => s.forward { mkQ p x cls g rxTime with tc := if x ≤ 32 then tc else none }) s

/-- A good frame enters the ridge: redundancy handling first (R135, R146 to R149). -/
def State.ridgeRx (s : State) (p : Nat) (f : Frame) (rxTime : Nat) : State :=
  match s.groupOf p, f.red with
  | some g, some t =>
    if f.isPtp then s.route p { f with red := none } rxTime
    else if s.isHsr g && decide (f.src = (Config.portMac p).toNat) then s
    else
      match s.nodeCheck f.src g t.seq with
      | (s, .accept) => s.route p f rxTime
      | (s, .duplicate) => s.duplicate p g { f with red := none } t.seq
      | (s, .full) => (((s.wrapBy 0x200040 1).raiseRecOnce 262 (endpointOf p))).route p f rxTime
  | some g, none =>
    if s.isHsr g && decide (f.src = (Config.portMac p).toNat) then s else s.route p f rxTime
  | none, _ => s.route p { f with red := none } rxTime

/-- The egresses on which a frame that is still arriving has already left in cut-through. -/
def State.cutOuts (s : State) (p : Nat) (f : Frame) : List Nat :=
  match s.routeFrame p { f with red := none } 0 s.classEnd with
  | none => []
  | some (outs, cls, _) => (outs.filter (fun x => !(decide (x ≤ 32) && (s.port x).holdDown))).filter (fun x => s.cuts p x cls)

/-- Every egress that was sending a frame in cut-through ends it with the stomped FCS (R140). -/
def State.stompAll (s : State) (p : Nat) (f : Frame) : State :=
  (s.cutOuts p f).foldl (fun s x => (s.epCount x 0).stomp x f) s

/-- A frame of `len` octets received on a port (R115, R116, R119). `ago` is the time since its timestamp
point (R88). -/
def macFrameRx (p : Nat) (f : Frame) (len : Nat) (bad : RxBad) (ago : Nat) (s : State) : State :=
  if !s.portOn p || (s.port p).adminDown || decide (s.role p = 0) then s
  else if (s.port p).holdDown then s.stat p 44 1
  else if !s.linkUp p then s
  else
    match s.rxCheck p len bad with
    | some n =>
      have s := s.stat p n 1
      if len ≥ 64 then s.stompAll p f else s
    | none =>
      if f.etherType = 0x8808 then
        pfcRx p (if beAt f.payload 0 2 = 0x0101 then some (BitVec.ofNat 8 (beAt f.payload 2 2)) else none)
          ((List.range 8).map (fun c => beAt f.payload (4 + 2 * c) 2)) s
      else
        have s := s.statFrame p f len 0 16 56
        have s := if f.ipCode = 2 then s.stat p 39 1 else s
        have s := if f.l4Code = 2 then s.stat p 40 1 else s
        s.ridgeRx p f (s.time.mono - ago)

/-- MAC_FRAME_RX (R115). -/
def execMacFrameRx (dt : Nat) (p : Fin 33) (f : Frame) (len : BitVec 16) (bad : RxBad) (ago : Nat) (s : State) : Result :=
  .next (macFrameRx p.val f len.toNat bad ago (s.elapse dt))

/-- A port declares link-down (R112, R141); a 10BASE-T1S port never does. `part` is a frame that was
still arriving. -/
def linkDownNow (p : Nat) (part : Option Frame) (s : State) : State :=
  if (24 ≤ p ∧ p < 32) ∨ s.portOn p = false ∨ (s.port p).adminDown = true then s
  else
    have s := match part with
      | none => s
      | some f => if s.linkUp p then s.stompAll p f else s
    s.linkDown p

/-- LINK_DOWN (R141). -/
def execLinkDown (dt : Nat) (p : Fin 33) (part : Option Frame) (s : State) : Result :=
  .next (linkDownNow p.val part (s.elapse dt))

/-! ### Frames from the inside (R145) -/

/-- A frame that an internal endpoint sends into the ridge. DESIGN CHOICE, log entry 51. -/
def State.ridgeSend (s : State) (e : Nat) (f : Frame) (ipSum l4Sum : Bool) : State :=
  have x := 33 + e
  match s.routeFrame x f 0 s.classEnd with
  | none => s.epCount x 7
  | some (outs, cls, _) =>
    let (s, outs) := s.dropHeld outs
    s.sendOwn { mkQ x 0 cls f s.time.mono with ipSum := ipSum, l4Sum := l4Sum } outs

/-- The supervision frame of a group on a member (IEC 62439-3). DESIGN CHOICE, log entry 17; PRESUMED, log
entry 49; DESIGN CHOICE, log entry 51. -/
def State.supervision (s : State) (g p q : Nat) : Frame :=
  have mac := (Config.portMac p).toNat
  { dst := 0x01154E000100, src := mac, vlans := [], etherType := 0x88FB,
    payload := padTo ([0#8, 1#8] ++ beBytes q 2 ++ [if s.isHsr g then 23#8 else 20#8, 6#8] ++ beBytes mac 6) 46,
    red := some (s.redTag g p q) }

/-- A redundancy group sends its supervision frame on each member, with the group's next sequence number
(R145, R149). DESIGN CHOICE, log entry 51. -/
def supervisionTx (g : Nat) (s : State) : State :=
  if s.afterBoot && decide (g < s.groupCount) && decide ((s.groupPorts g).1 ≠ 0) then
    let (s, q) := s.nextSeq g
    [(s.groupPorts g).2.1, (s.groupPorts g).2.2].foldl (fun s p =>
      if (s.port p).holdDown then s.epCount p 3
      else s.enqueue (mkQ 64 p 5 (s.supervision g p q) s.time.mono)) s
  else s

/-- SUPERVISION_TX (R149). -/
def execSupervisionTx (dt : Nat) (g : Fin 12) (s : State) : Result := .next (supervisionTx g.val (s.elapse dt))

end Sys2Proof.Machine
end

