-- ==== Sys2Proof/Machine/Hst.lean ====
section
/-!
DEFINITION. Family: the host link, its queues, mailboxes, guests and function resets (R395 to R428).
-/

namespace Sys2Proof.Machine

open Sys2Proof

/-- The HST command register. -/
def hstCmdReg : Nat := 0xC00000

/-! ### The VF_PLAN section (R399, R400) -/

/-- Offset of a function's descriptor. -/
def vfDesc (v : Nat) : Nat := 0x20 + 96 * v

/-- A function as its descriptor gives it. -/
def vfLoad (b : List Byte) (v : Nat) : Func :=
  have o := vfDesc v
  { enable := decide (byteAt b o = 1), internal := decide (byteAt b (o + 1) = 1),
    classFirst := leAt b (o + 0x0A) 2, classCount := leAt b (o + 0x0C) 2,
    mbxFirst := leAt b (o + 0x0E) 2, mbxCount := leAt b (o + 0x10) 2,
    eventFirst := byteAt b (o + 0x12), eventCount := byteAt b (o + 0x13), grants := byteAt b (o + 0x14),
    ranges := (List.range (byteAt b (o + 0x15))).map (fun r =>
      (leAt b (o + 0x20 + 4 * r) 2, leAt b (o + 0x22 + 4 * r) 2)),
    ownedFirst := leAt b (o + 0x16) 2, ownedCount := leAt b (o + 0x18) 2,
    cntFirst := leAt b (o + 0x1A) 2, cntCount := leAt b (o + 0x1C) 2 }

/-- The host link takes the running image's VF_PLAN. -/
def State.hstLoad (s : State) : State :=
  have b := s.cfg 0xB 0
  if b.isEmpty then s
  else
    have s := forN 256 (fun v s =>
      have o := vfDesc v
      have s := s.setFunc v { vfLoad b v with
          msixEnable := (s.func v).msixEnable, msixMask := (s.func v).msixMask }
      have s := forN (leAt b (o + 4) 2) (fun i s =>
        s.setQueue (leAt b (o + 2) 2 + i) { owner := v, loc := i, owned := true }) s
      forN (leAt b (o + 8) 2) (fun i s =>
        have n := leAt b (o + 6) 2 + i
        s.setVec n { s.vec n with owner := v, loc := i, owned := true }) s) s
    have binds := leAt b 0 2
    have s := forN binds (fun i s =>
      have e := 0x6020 + 8 * i
      s.setMbox (leAt b e 2) { kind := byteAt b (e + 2), arg := leAt b (e + 4) 2 }) s
    forN (leAt b 2 2) (fun i s =>
      have e := 0x6020 + 8 * binds + 8 * i
      have x : Share := { cycles := leAt b (e + 4) 4, imem := byteAt b (e + 2), dmem := byteAt b (e + 3) }
      { s with
          hst := { s.hst with shares := tset s.hst.shares (16 * byteAt b e + byteAt b (e + 1)) x {} } }) s

/-- A function's share on a keeper. -/
def State.vfShare (s : State) (v k : Nat) : Share := tget s.hst.shares (16 * v + k) {}

/-- The functions. -/
def State.fnNums (s : State) : List Nat := s.hst.fns.map (fun (e : Nat × Func) => e.1)

/-- A resource of a function has changed: the event of R428, and the function's own (R427). -/
def State.resourceChanged (s : State) (v : Nat) : State := (s.hstRec 6 v).vfEvent v 3

/-- A command of a function's own is DONE (R427). -/
def State.vfDone (s : State) (v : Nat) : State := (s.cmdDone (vfBase v + 4)).vfEvent v 5

/-! ### Function-level reset (R421) -/

/-- The queues that a function owns. -/
def State.ownQueues (s : State) (v : Nat) : List Nat :=
  (s.hst.queues.filter (fun (e : Nat × Queue) => e.2.owned && decide (e.2.owner = v))).map
    (fun (e : Nat × Queue) => e.1)

/-- A function's queues are disabled, their frames ABORTED, and HEAD, TAIL and configuration cleared. -/
def State.clearQueues (s : State) (v : Nat) : State :=
  (s.ownQueues v).foldl (fun s n =>
    have s := s.abortQueue n
    s.setQueue n { owner := v, loc := (s.queue n).loc, owned := true }) s

/-- A guest is unloaded: its run in progress ends without counting, and its results are dropped. -/
def State.guestDrop (s : State) (id : Nat) : State :=
  have k := (s.fn id).keeper
  have x := s.keeper k
  have s := s.setKeeper k { x with due := x.due.filter (· ≠ id) }
  have s := if x.run = some id then s.nextRun k else s
  have s := { s with
      kpr := { s.kpr with
      merge := s.kpr.merge.filter (fun m => decide (m.id ≠ id)),
      placeDone := s.kpr.placeDone.filter (· ≠ id) } }
  s.setFn id {}

/-- The effects of a reset of function `v` from the reset point on. -/
def State.flrStart (s : State) (v : Nat) : State :=
  have f := s.func v
  have b := vfBase v
  have s := s.clearQueues v
  have s := { s with gal := { s.gal with copies := s.gal.copies.filter (fun c => decide (c.1 ≠ v)) } }
  have s := forN f.mbxCount (fun i s =>
    have x := s.mbox (f.mbxFirst + i)
    s.setMbox (f.mbxFirst + i) { kind := x.kind, arg := x.arg }) s
  have s := { s with regs := s.regs.filter (fun (e : Nat × Word) => !(decide (b ≤ e.1) && decide (e.1 < b + 0x100))) }
  have s := s.setCmd (b + 4) {}
  have s := forN 16 (fun g s => s.guestDrop (512 + 16 * v + g)) s
  have s := forN f.ownedCount (fun i s =>
    match s.streamCfg (f.ownedFirst + i) with
    | none => s
    | some c => (s.streamRestart c s.now).fillStream c s.now) s
  s.setFunc v { f with resetting := true }

/-- FLR_DONE: the reset completes (R421). -/
def flrDone (v : Nat) (s : State) : State :=
  have f := s.func v
  if f.resetting then
    have s := s.setFunc v { f with resetting := false }
    have s := { s with hst := { s.hst with lastVf := v, flrCount := min 65535 (s.hst.flrCount + 1) } }
    have s := s.hstRec 1 v
    if s.hst.flrCmd = some v then
      ({ s with hst := { s.hst with flrCmd := none } }).cmdDone hstCmdReg
    else s
  else s

/-- FLR_DONE (R421). -/
def execFlrDone (dt : Nat) (v : Fin 256) (s : State) : Result := .next (flrDone v.val (s.elapse dt))

/-- MSI-X of a function returns to its PCI Express reset state (PRESUMED, PCI Express). PRESUMED, log entry
95. -/
def State.msixReset (s : State) (v : Nat) : State :=
  have s := s.setFunc v { s.func v with msixEnable := false, msixMask := false }
  { s with
      hst := { s.hst with
      vecs := s.hst.vecs.map (fun (e : Nat × Vec) =>
        if e.2.owned ∧ e.2.owner = v then (e.1, { e.2 with masked := true, pend := false }) else e) } }

/-- A PCIe function-level reset. PRESUMED, log entry 95. -/
def pcieFlr (v : Nat) (s : State) : State :=
  if v ≠ 0 ∧ (s.func v).internal = false ∧ s.present v then (s.flrStart v).msixReset v else s

/-- PCIE_FLR (R421). -/
def execPcieFlr (dt : Nat) (v : Fin 256) (s : State) : Result := .next (pcieFlr v.val (s.elapse dt))

/-! ### The link (R395 to R398) -/

/-- The stop of PF0's DMA (R398). -/
def State.pf0Stop (s : State) : State := (((s.clearQueues 0).loadStop).lmpAbort).copyStop 0

/-- The EXTERNAL functions that appear on PCI Express. -/
def State.externals (s : State) : List Nat :=
  s.fnNums.filter (fun v => decide (v ≠ 0) && !(s.func v).internal && s.present v)

/-- The link goes down: EXTERNAL functions are reset, PF0's DMA stops and LINK_CHANGE is raised. -/
def State.linkLost (s : State) : State :=
  have vs := s.externals
  have s := vs.foldl (fun s v => (s.flrStart v).msixReset v) s
  have was := s.hst.gen
  have s := ({ s with hst := { s.hst with gen := 0, width := 0 } }).pf0Stop.msixReset 0
  if was = 0 then s else s.hstRec 0 0

/-- PCIE_LINK_DOWN (R397). -/
def execPcieLinkDown (dt : Nat) (s : State) : Result :=
  have s := s.elapse dt
  .next (if s.hst.gen = 0 then s else s.linkLost)

/-- PCIE_RESET: a conventional reset or PERST# (R53, R397). PRESUMED, log entry 95. -/
def pcieReset (s : State) : State :=
  have s := s.linkLost
  { s with hst := { s.hst with vfEnable := false, numVfs := 0 } }

/-- PCIE_RESET (R53). -/
def execPcieReset (dt : Nat) (s : State) : Result := .next (pcieReset (s.elapse dt))

/-- The link trains at generation 3 + `gen` and width 2^`width` (R395). It does not run in DORMANT. -/
def linkTrain (gen width : Nat) (s : State) : State :=
  if s.glb.mode = .dormant then s
  else
    have h := s.hst
    have s := { s with hst := { h with gen := 3 + gen, width := 2 ^ width } }
    if h.gen = 3 + gen ∧ h.width = 2 ^ width then s else s.hstRec 0 0

/-- PCIE_LINK_UP (R395). -/
def execPcieLinkUp (dt : Nat) (gen : Fin 3) (width : Fin 4) (s : State) : Result :=
  .next (linkTrain gen.val width.val (s.elapse dt))

/-- The host enables a number of virtual functions, while its link is up. -/
def vfEnableSet (enable : Bool) (n : Nat) (s : State) : State :=
  if s.hst.gen = 0 then s else { s with hst := { s.hst with vfEnable := enable, numVfs := n } }

/-- VF_ENABLE_CHANGE (R396): host software writes VF Enable and NumVFs over the link. -/
def execVfEnableChange (dt : Nat) (enable : Bool) (numVfs : Fin 256) (s : State) : Result :=
  .next (vfEnableSet enable numVfs.val (s.elapse dt))

/-! ### Transmit (R402 to R405) -/

/-- The frame of a chain is FORBIDDEN (R404). -/
def hostForbidden (f : Frame) (r : Option (List Nat × Nat × Option Nat)) : Bool :=
  [0x88B8, 0x88BA, 0x88F7].contains f.etherType || (match r with
    | none => false
    | some (_, cls, _) => decide (cls ≥ 6))

/-- A queue fetches the frame `f` of a chain of descriptors, each with its BUF_LEN and CMD. A queue whose
class is stopped waits. DEDUCED, log entry 97. -/
def hostTx (n : Nat) (descs : List (Nat × Nat)) (f : Frame) (s : State) : State :=
  have q := s.queue n
  have fn := s.func q.owner
  have total := (descs.map (fun (d : Nat × Nat) => d.1)).sum
  if q.enabled = false ∨ s.present q.owner = false ∨ descs.isEmpty = true ∨ q.txPosted < descs.length then s
  else
    have x := 33 + 26
    have r := if q.owner = 0 then s.routeFrame x f 0 s.classEnd
      else s.routeFrame x f fn.classFirst fn.classCount
    have cls := match r with
      | none => frameClass f []
      | some (_, c, _) => c
    if s.hst.stopped.contains cls ∨ q.txClass ≠ [] then s.setQueue n { q with txClass := insNat q.txClass cls }
    else
      have cmd := (descs.getLast?.getD (0, 0)).2
      have id := s.hst.txId
      have j : TxJob :=
        { id := id, first := (q.txHead + q.inFlight) % q.txSize, count := descs.length,
          intr := descs.any (fun (d : Nat × Nat) => decide (d.2 / 16 % 2 = 1)), octets := total, left := 0 }
      have s := { s with hst := { s.hst with txId := id + 1 } }
      let put (s : State) (j : TxJob) : State :=
        (s.setQueue n { q with txJobs := q.txJobs ++ [j] }).drain n (q.txJobs.length + 1)
      if total > 9216 ∨ descs.any (fun (d : Nat × Nat) => decide (d.1 = 0)) = true then put s { j with status := 5 }
      else if hostForbidden f r then
        (put (s.fnCount q.owner 7 1) { j with status := 3 }).raiseOnce 727 0
      else
        match r with
        | none => put ((s.epCount x 7).fnCount q.owner 6 1) { j with status := 4 }
        | some (outs, c, _) =>
          let (s, outs) := s.dropHeld outs
          have s := s.sendOwn { mkQ x 0 c f s.time.mono with
              ipSum := decide (cmd / 4 % 2 = 1), l4Sum := decide (cmd / 8 % 2 = 1), host := some (n, id),
              ts := decide (cmd / 2 % 2 = 1) } outs
          have left := (s.rdg.queues.filter (fun y => decide (y.host = some (n, id)))).length
          have s := s.hostPressure c
          if left = 0 then put (s.fnCount q.owner 6 1) { j with status := 4 }
          else s.setQueue n { s.queue n with txJobs := q.txJobs ++ [{ j with left := left }] }

/-- HOST_TX_FRAME (R404). -/
def execHostTxFrame (dt : Nat) (q : Fin 1024) (descs : List (BitVec 16 × BitVec 8)) (f : Frame) (s : State) :
    Result :=
  .next (hostTx q.val (descs.map (fun (d : BitVec 16 × BitVec 8) => (d.1.toNat, d.2.toNat))) f (s.elapse dt))

/-- Host software advances TAIL of a receive or transmit ring (R402). -/
def tailWrite (n : Nat) (tx : Bool) (v : Nat) (s : State) : State :=
  have q := s.queue n
  if tx then s.setQueue n { q with txTail := v % q.txSize } else s.setQueue n { q with rxTail := v % q.rxSize }

/-! ### Receive (R406, R407) -/

/-- A frame as its octets in memory, without FCS. -/
def hostBytes (f : Frame) : List Byte :=
  beBytes f.dst 6 ++ beBytes f.src 6 ++ f.vlans.flatMap (fun t => [0x81#8, 0x00#8] ++ beBytes t 2) ++
    beBytes f.etherType 2 ++ f.payload

/-- What a receive descriptor takes (R406): 0x08 to 0x17. -/
structure RxInfo where
  flags : Nat
  csum : Nat
  ingress : Nat
  cls : Nat
  tci : Nat
  time : Nat

/-- The write-back of one receive descriptor. -/
def rxBack (x : RxInfo) (len frameLen : Nat) : List Byte :=
  leBytes len 2 ++ leBytes x.flags 1 ++ leBytes x.csum 1 ++ leBytes x.ingress 1 ++ leBytes x.cls 1 ++
    leBytes x.tci 2 ++ leBytes (ts32Of x.time) 4 ++ leBytes (fracOf x.time) 2 ++ leBytes frameLen 2

/-- The address of the byte at 0x08 of a receive descriptor. -/
def Queue.rxAddr (q : Queue) (i : Nat) : Nat := q.rxBase + 32 * ((q.rxHead + i) % q.rxSize) + 8

/-- The receive timestamp entry of a host frame is freed (R122). -/
def State.rxFree (s : State) (p ts : Nat) : State :=
  if ts = 1 ∧ p < 24 then s.setPort p { s.port p with rxHost := (s.port p).rxHost - 1 } else s

/-- A frame for a host queue. `bufs` holds the buffer addresses of the posted descriptors in ring order, and
`ts` is 0 for no timestamp, 1 a timestamp, 2 a lost one. DEDUCED, log entry 97. -/
def hostRx (n : Nat) (f : Frame) (ingress cls ts ago : Nat) (bufs : List Nat) (s : State) : State :=
  have q := s.queue n
  have s := s.rxFree ingress ts
  if q.enabled = false then s.fnCount q.owner 3 1
  else
    have b := hostBytes f
    have need := (b.length + q.bufSize - 1) / q.bufSize
    have posted := min q.rxPosted bufs.length
    have base : RxInfo :=
      { flags := 0, csum := f.ipCode + 4 * f.l4Code, ingress := ingress, cls := cls, tci := f.vlans.head?.getD 0,
        time := if ts = 1 then s.now - ago else 0 }
    if posted < need then
      have s := forN posted (fun i s =>
        s.emit (.dma q.owner (q.rxAddr i) (rxBack { base with flags := 0x82, time := 0 } 0 0))) s
      have s := s.setQueue n { q with rxHead := (q.rxHead + posted) % q.rxSize }
      (s.fnCount q.owner 2 1).raiseOnce 723 0
    else
      have s := forN need (fun i s =>
        have part := slice b (i * q.bufSize) (min q.bufSize (b.length - i * q.bufSize))
        have eop := decide (i + 1 = need)
        have fl := b2n eop + (if eop then 4 * b2n (decide (ts = 1)) + 8 * b2n (decide (ts = 2)) else 0) + 0x80
        have s := s.emit (.dma q.owner (bufs.getD i 0) part)
        s.emit (.dma q.owner (q.rxAddr i) (rxBack { base with flags := fl } part.length (if eop then b.length else 0)))) s
      have s := s.setQueue n { q with rxHead := (q.rxHead + need) % q.rxSize }
      ((s.fnCount q.owner 0 1).fnCount q.owner 1 b.length).queueInt n false

/-- HOST_RX_FRAME (R406). -/
def execHostRxFrame (dt : Nat) (q : Fin 1024) (f : Frame) (ingress : Fin 32) (cls : Fin 6) (ts : Fin 3) (ago : Nat)
    (bufs : List (BitVec 64)) (s : State) : Result :=
  .next (hostRx q.val f ingress.val cls.val ts.val ago (bufs.map (fun (a : BitVec 64) => a.toNat)) (s.elapse dt))

/-- DMA_FAULT: the queue is disabled without write-back (R420). -/
def dmaFault (n : Nat) (s : State) : State :=
  have q := s.queue n
  if q.enabled ∨ q.txJobs ≠ [] then
    have s := s.abortQueue n
    have s := s.setQueue n { s.queue n with faulted := true, stopping := q.stopping }
    ((s.fnCount q.owner 10 1).vfEvent q.owner 4).hstRec 2 q.owner
  else s

/-- DMA_FAULT (R420). -/
def execDmaFault (dt : Nat) (q : Fin 1024) (s : State) : Result := .next (dmaFault q.val (s.elapse dt))

/-! ### HST commands (R425) -/

/-- HST_ARG0 and HST_ARG1. -/
def State.hstArg (s : State) (i : Nat) : Nat := (s.rd (0xC0000C + 4 * i)).toNat

/-- An image is loaded. -/
def State.loaded (s : State) : Bool := s.img.loaded

/-- The lowest local index below `n` that is not in use. -/
def lowestFree (used : List Nat) (n : Nat) : Nat :=
  ((List.range n).find? (fun i => !used.contains i)).getD 0

/-- An HST command takes effect at once. -/
def State.hstNow (s : State) (v : Nat) : State := (s.resourceChanged v).cmdDone hstCmdReg

/-- The old owner of a resource hears of the change as well. -/
def State.tellOwner (s : State) (owned : Bool) (o v : Nat) : State :=
  if owned ∧ o ≠ v then s.vfEvent o 3 else s

/-- QUEUE_ASSIGN (R399, R425). DEDUCED, log entry 96. -/
def queueAssign (rsv arg : Nat) (s : State) : State :=
  have n := arg % 1024
  have v := s.hstArg 0
  have q := s.queue n
  have held := (s.ownQueues v).filter (· ≠ n)
  s.runCmd hstCmdReg 1 rsv arg
    (verdict (decide (arg < 1024) && decide (v < 256) && decide (held.length < (if v = 0 then 1024 else 64)))
      (s.loaded && !q.enabled && decide (q.txJobs = []))) fun s =>
    have l := lowestFree (held.map (fun m => (s.queue m).loc)) 1024
    ((s.setQueue n { owner := v, loc := l, owned := true }).tellOwner q.owned q.owner v).hstNow v

/-- QUEUE_ASSIGN (R425). -/
def execQueueAssign (dt : Nat) (rsv : BitVec 8) (arg : BitVec 16) (s : State) : Result :=
  .next (queueAssign rsv.toNat arg.toNat (s.elapse dt))

/-- VECTOR_ASSIGN (R399, R425). DEDUCED, log entry 96. -/
def vectorAssign (rsv arg : Nat) (s : State) : State :=
  have n := arg % 2048
  have v := s.hstArg 0
  have x := s.vec n
  have held := s.hst.vecs.filter (fun (e : Nat × Vec) =>
    e.2.owned && decide (e.2.owner = v) && decide (e.1 ≠ n))
  s.runCmd hstCmdReg 2 rsv arg
    (verdict (decide (arg < 2048) && decide (v < 256) && decide (held.length < (if v = 0 then 2048 else 64)))
      (s.loaded && x.masked)) fun s =>
    have l := lowestFree (held.map (fun (e : Nat × Vec) => e.2.loc)) 2048
    ((s.setVec n { owner := v, loc := l, owned := true }).tellOwner x.owned x.owner v).hstNow v

/-- VECTOR_ASSIGN (R425). -/
def execVectorAssign (dt : Nat) (rsv : BitVec 8) (arg : BitVec 16) (s : State) : Result :=
  .next (vectorAssign rsv.toNat arg.toNat (s.elapse dt))

/-- The ranges of a function with entry `r` replaced. -/
def setRange (l : List (Nat × Nat)) (r : Nat) (e : Nat × Nat) : List (Nat × Nat) :=
  (List.range 16).map (fun i => if i = r then e else l.getD i (0, 0))

/-- WINDOW_SET (R411). -/
def windowSet (rsv arg : Nat) (s : State) : State :=
  have v := arg % 256
  have r := arg / 256 % 16
  have first := s.hstArg 0 % 65536
  have count := s.hstArg 0 / 65536
  have total := ((setRange (s.func v).ranges r (first, count)).map (fun (e : Nat × Nat) => e.2)).sum
  match s.targetTick 0xC00014 0xC00018 with
  | none => s.runCmd hstCmdReg 3 rsv arg .arg id
  | some t =>
    s.runCmd hstCmdReg 3 rsv arg
      (verdict (decide (arg < 4096) && decide (first + count ≤ 16384) && decide (total ≤ 1024)) s.loaded) fun s =>
      { s with hst := { s.hst with window := some { key := 16 * v + r, first := first, count := count, target := some t } } }

/-- WINDOW_SET (R411). -/
def execWindowSet (dt : Nat) (rsv : BitVec 8) (arg : BitVec 16) (s : State) : Result :=
  .next (windowSet rsv.toNat arg.toNat (s.elapse dt))

/-- WINDOW_SET_APPLY: the channel set changes (R411). -/
def windowSetApply (s : State) : State :=
  match s.hst.window with
  | none => s
  | some w =>
    have v := w.key / 16
    have f := s.func v
    have e := if w.count = 0 then (0, 0) else (w.first, w.count)
    have s := s.setFunc v { f with ranges := setRange f.ranges (w.key % 16) e }
    ({ s with hst := { s.hst with window := none } }).hstNow v

/-- WINDOW_SET_APPLY (R411). -/
def execWindowSetApply (dt : Nat) (s : State) : Result := .next (windowSetApply (s.elapse dt))

/-- The guests of a function on a keeper. -/
def State.guestsOn (s : State) (v k : Nat) : List Nat :=
  ((List.range 16).map (fun g => 512 + 16 * v + g)).filter (fun id =>
    decide ((s.fn id).state ≠ 0) && decide ((s.fn id).keeper = k))

/-- Guests fit a share (R414). -/
def State.guestsFit (s : State) (ids : List Nat) (x : Share) : Bool :=
  decide ((ids.map (fun i => (s.fn i).budget + 64)).sum ≤ x.cycles) &&
    decide ((ids.map s.imemOf).sum ≤ 1024 * x.imem) && decide ((ids.map s.dmemOf).sum ≤ 1024 * x.dmem)

/-- The CYCLES of every share on a keeper but that of function `v`. -/
def State.otherShares (s : State) (v k : Nat) : Nat :=
  (s.hst.shares.filter (fun (e : Nat × Share) => decide (e.1 % 16 = k) && decide (e.1 / 16 ≠ v))).foldl
    (fun n (e : Nat × Share) => n + e.2.cycles) 0

/-- SHARE_SET (R417). -/
def shareSet (rsv arg : Nat) (s : State) : State :=
  have v := arg % 256
  have k := arg / 256 % 16
  have x : Share := { cycles := s.hstArg 0, imem := s.hstArg 1 % 256, dmem := s.hstArg 1 / 256 % 256 }
  have now := decide ((s.rd 0xC00014).toNat = 0xFFFFFFFF)
  have t := s.targetTick 0xC00014 0xC00018
  s.runCmd hstCmdReg 4 rsv arg
    (verdict (decide (arg < 4096) && decide (v ≠ 0) && decide (s.hstArg 1 < 65536) &&
        decide (x.cycles + s.otherShares v k ≤ s.guestCycles k) && (now || t.isSome))
      (s.loaded && s.guestsFit (s.guestsOn v k) x)) fun s =>
    { s with
        hst := { s.hst with
        share := some { key := arg, first := x.cycles, count := x.imem, dmem := x.dmem,
                        target := if now then none else t, epoch := (s.rd 0x600010).toNat } } }

/-- SHARE_SET (R417). -/
def execShareSet (dt : Nat) (rsv : BitVec 8) (arg : BitVec 16) (s : State) : Result :=
  .next (shareSet rsv.toNat arg.toNat (s.elapse dt))

/-- SHARE_SET_APPLY: at the target tick, or at the tick at which KPR_SCHED_EPOCH has increased (R417). -/
def shareSetApply (s : State) : State :=
  match s.hst.share with
  | none => s
  | some w =>
    if w.target.isNone ∧ w.epoch = (s.rd 0x600010).toNat then s
    else
      have v := w.key % 256
      have x : Share := { cycles := w.first, imem := w.count, dmem := w.dmem }
      ({ s with
          hst := { s.hst with
          share := none, shares := tset s.hst.shares (16 * v + w.key / 256) x {} } }).hstNow v

/-- SHARE_SET_APPLY (R417). -/
def execShareSetApply (dt : Nat) (s : State) : Result := .next (shareSetApply (s.elapse dt))

/-- The waiting commands that name a target frame end (R71). -/
def State.hstDrop (s : State) : State :=
  have s := if s.hst.window.isSome then
      ({ s with hst := { s.hst with window := none } }).cmdEndRefused hstCmdReg else s
  match s.hst.share with
  | none => s
  | some w =>
    if w.target.isNone then s
    else ({ s with hst := { s.hst with share := none } }).cmdEndRefused hstCmdReg

/-- A step passes over a target tick before `n` (R71). -/
def State.hstStep (s : State) (n : Nat) : State :=
  let due (w : Option HstPend) : Bool := match w with
    | some { target := some t, .. } => decide (t < n)
    | _ => false
  if due s.hst.window || due s.hst.share then s.hstDrop else s

/-- The source of a binding exists (R412). -/
def bindOk (kind arg : Nat) : Bool :=
  (decide (kind = 1 ∨ kind = 2) && decide (arg < 128)) || (decide (kind = 3) && decide (arg < 16))

/-- MBX_BIND (R412, R425). -/
def mbxBind (rsv arg : Nat) (s : State) : State :=
  have m := arg % 4096
  have a0 := s.hstArg 0
  s.runCmd hstCmdReg 5 rsv arg
    (verdict (decide (arg < 4096) && bindOk (a0 % 256) (a0 / 256 % 65536) && decide (a0 < 2 ^ 24) &&
      decide (s.mboxOwner m = some (s.hstArg 1))) s.loaded) fun s =>
    { s with
        hst := { s.hst with
        bind := some { key := m, first := a0 % 256, count := a0 / 256, target := none } } }

/-- MBX_BIND (R425). -/
def execMbxBind (dt : Nat) (rsv : BitVec 8) (arg : BitVec 16) (s : State) : Result :=
  .next (mbxBind rsv.toNat arg.toNat (s.elapse dt))

/-- A waiting binding takes effect at the commit (R425). -/
def State.bindCommit (s : State) : State :=
  match s.hst.bind with
  | none => s
  | some w =>
    have s := s.setMbox w.key { kind := w.first, arg := w.count }
    ({ s with hst := { s.hst with bind := none } }).hstNow ((s.mboxOwner w.key).getD 0)

/-- CLASSIFIER_SET (R425). `buf` is the entry in PF0 memory. -/
def classifierSet (rsv arg : Nat) (buf : List Byte) (s : State) : State :=
  have i := arg % 8192
  have b := padTo buf 32
  have v := leAt b 0x18 2
  have f := s.func v
  have ends := leAt b 0x0C 4 ||| leAt b 0x10 4
  s.runCmd hstCmdReg 6 rsv arg
    (verdict (decide (arg < 8192) && decide (v < 256) && decide (f.classFirst ≤ i) &&
      decide (i < f.classFirst + f.classCount) && decide (byteAt b 0x14 ≤ 5) &&
      decide (ends &&& (2 ^ 32 - 1 - 0x0CFF0000) = 0)) s.loaded) fun s =>
    ({ s with hst := { s.hst with classes := tset s.hst.classes i b [] } }).hstNow v

/-- CLASSIFIER_SET (R425). -/
def execClassifierSet (dt : Nat) (rsv : BitVec 8) (arg : BitVec 16) (buf : List Byte) (s : State) : Result :=
  .next (classifierSet rsv.toNat arg.toNat buf (s.elapse dt))

/-- GRANT_SET (R425). The stream counter copies of a changed range start again. DEDUCED, log entry 96. -/
def grantSet (rsv arg : Nat) (s : State) : State :=
  have v := arg % 256
  have first := s.hstArg 1 % 65536
  have count := s.hstArg 1 / 65536
  s.runCmd hstCmdReg 7 rsv arg
    (verdict (decide (arg < 256) && decide (s.hstArg 0 < 8) && decide (count ≤ 192) &&
      decide (first + count ≤ 2048)) s.loaded) fun s =>
    have f := s.func v
    have b := vfBase v
    have s := if f.cntFirst = first ∧ f.cntCount = count then s
      else { s with
          regs := s.regs.filter (fun (e : Nat × Word) =>
            !(decide (b + 0x4000 ≤ e.1) && decide (e.1 < b + 0x7000))) }
    ((s.setFunc v { f with grants := s.hstArg 0, cntFirst := first, cntCount := count }).vfEvent v 3).cmdDone
      hstCmdReg

/-- GRANT_SET (R425). -/
def execGrantSet (dt : Nat) (rsv : BitVec 8) (arg : BitVec 16) (s : State) : Result :=
  .next (grantSet rsv.toNat arg.toNat (s.elapse dt))

/-- A function reset by command: DONE at FLR_DONE. -/
def State.flrByCmd (s : State) (v : Nat) : State :=
  have s := s.flrStart v
  ({ s with hst := { s.hst with flrCmd := some v } }).hstRec 6 v

/-- ATTACH_SET (R422). -/
def attachSet (rsv arg : Nat) (s : State) : State :=
  have v := arg % 256
  s.runCmd hstCmdReg 8 rsv arg
    (verdict (decide (arg / 256 % 128 = 0) && decide (v ≠ 0))
      (s.loaded && (s.ownQueues v).all (fun n => !(s.queue n).enabled))) fun s =>
    (s.setFunc v { s.func v with internal := decide (arg / 2 ^ 15 = 1) }).flrByCmd v

/-- ATTACH_SET (R422). -/
def execAttachSet (dt : Nat) (rsv : BitVec 8) (arg : BitVec 16) (s : State) : Result :=
  .next (attachSet rsv.toNat arg.toNat (s.elapse dt))

/-- VF_RESET (R421). -/
def vfReset (rsv arg : Nat) (s : State) : State :=
  s.runCmd hstCmdReg 9 rsv arg (verdict (decide (arg < 256) && decide (arg ≠ 0)) s.loaded) fun s =>
    s.flrByCmd arg

/-- VF_RESET (R421). -/
def execVfReset (dt : Nat) (rsv : BitVec 8) (arg : BitVec 16) (s : State) : Result :=
  .next (vfReset rsv.toNat arg.toNat (s.elapse dt))

/-- A write to HST_CMD; `buf` is the entry that CLASSIFIER_SET reads. -/
def hstCommand (code rsv arg : Nat) (buf : List Byte) (s : State) : State :=
  match code with
  | 1 => queueAssign rsv arg s
  | 2 => vectorAssign rsv arg s
  | 3 => windowSet rsv arg s
  | 4 => shareSet rsv arg s
  | 5 => mbxBind rsv arg s
  | 6 => classifierSet rsv arg buf s
  | 7 => grantSet rsv arg s
  | 8 => attachSet rsv arg s
  | 9 => vfReset rsv arg s
  | _ => s.badCode hstCmdReg code rsv arg

/-! ### Commands of a function (R409, R414, R416, R418, R427) -/

/-- QUEUE_ENABLE (R402, R409). -/
def queueEnable (v rsv arg : Nat) (s : State) : State :=
  have reg := vfBase v + 4
  match (if arg < 64 then s.localQueue v arg else none) with
  | none => s.runCmd reg 1 rsv arg .arg id
  | some n =>
    have q := s.queue n
    let size (i : Nat) : Bool := decide (6 ≤ fld q.qcfg i 4) && decide (fld q.qcfg i 4 ≤ 12)
    s.runCmd reg 1 rsv arg (verdict (decide (fld q.qcfg 8 2 ≠ 3) && size 0 && size 4) s.loaded) fun s =>
      have y := { q with
        cfg := q.qcfg, rxBase := q.rxLo.toNat + 2 ^ 32 * q.rxHi.toNat, txBase := q.txLo.toNat + 2 ^ 32 * q.txHi.toNat,
        enabled := true, faulted := false }
      (s.setQueue n { y with rxHead := y.rxHead % y.rxSize, txHead := y.txHead % y.txSize }).vfDone v

/-- QUEUE_ENABLE (R409). -/
def execQueueEnable (dt : Nat) (v : Fin 256) (rsv : BitVec 8) (arg : BitVec 16) (s : State) : Result :=
  .next (queueEnable v.val rsv.toNat arg.toNat (s.elapse dt))

/-- QUEUE_DISABLE (R409). -/
def queueDisable (v rsv arg : Nat) (s : State) : State :=
  have reg := vfBase v + 4
  match (if arg < 64 then s.localQueue v arg else none) with
  | none => s.runCmd reg 2 rsv arg .arg id
  | some n =>
    s.runCmd reg 2 rsv arg (verdict true s.loaded) fun s =>
      s.setQueue n { s.queue n with enabled := false, stopping := true, txClass := [] }

/-- QUEUE_DISABLE (R409). -/
def execQueueDisable (dt : Nat) (v : Fin 256) (rsv : BitVec 8) (arg : BitVec 16) (s : State) : Result :=
  .next (queueDisable v.val rsv.toNat arg.toNat (s.elapse dt))

/-- QUEUE_IDLE: a disabled queue has no frame in flight (R409). -/
def queueIdle (n : Nat) (s : State) : State :=
  have q := s.queue n
  if q.stopping ∧ q.txJobs = [] then (s.setQueue n { q with stopping := false }).vfDone q.owner else s

/-- QUEUE_IDLE (R409). -/
def execQueueIdle (dt : Nat) (q : Fin 1024) (s : State) : Result := .next (queueIdle q.val (s.elapse dt))

/-- A guest header and object are well formed (R414). -/
def guestOk (f : Func) (b : List Byte) (len : Nat) : Bool :=
  have mask := leAt b 8 16
  have n := leAt b 0x18 4
  decide (len ≤ 131104) && decide (32 + n ≤ len) && decide (byteAt b 0 < 16) && [1, 2, 4, 8].contains (byteAt b 1) &&
    decide (byteAt b 2 < byteAt b 1) && decide (byteAt b 3 = 0) && decide (256 ≤ leAt b 4 4) &&
    decide (leAt b 4 4 ≤ 262144) && decide (leAt b 0x1C 4 = 0) &&
    (List.range 128).all (fun i => decide (mask / 2 ^ i % 2 = 0) ||
      (decide (f.eventFirst ≤ i) && decide (i < f.eventFirst + f.eventCount))) &&
    objOk (slice b 32 n) 0

/-- The guest that a GUEST_LOAD makes. -/
def guestOf (b : List Byte) (place : Nat) : KFunc :=
  have o := slice b 32 (leAt b 0x18 4)
  { state := 1, keeper := byteAt b 0, divisor := byteAt b 1, phase := byteAt b 2, budget := leAt b 4 4,
    mask := leAt b 8 16, obj := o, copyA := List.replicate (objState o) 0, copyB := List.replicate (objState o) 0,
    first := true, placeAt := some place }

/-- GUEST_LOAD (R414). `buf` is what the function's memory holds at VF_ARG_ADDR. DEDUCED, log entry 98. -/
def guestLoad (v rsv arg : Nat) (buf : List Byte) (s : State) : State :=
  have reg := vfBase v + 4
  have len := (s.rd (vfBase v + 0x14)).toNat
  have b := padTo buf (min 131104 len)
  have id := 512 + 16 * v + arg % 16
  have g := guestOf b (tickAtOrAfter (s.now + 2 * secUnit / s.frameRate) s.frameRate)
  have k := byteAt b 0
  have t := s.setFn id g
  s.runCmd reg 3 rsv arg
    (verdict (decide (arg < 16) && decide (v ≠ 0) && guestOk (s.func v) b len)
      (s.loaded && s.kpr.frames && decide ((s.fn id).state = 0) && decide ((s.vfShare v k).cycles ≠ 0) &&
        t.guestsFit (t.guestsOn v k) (s.vfShare v k))) fun s => s.setFn id g

/-- GUEST_LOAD (R414). -/
def execGuestLoad (dt : Nat) (v : Fin 256) (rsv : BitVec 8) (arg : BitVec 16) (buf : List Byte) (s : State) : Result :=
  .next (guestLoad v.val rsv.toNat arg.toNat buf (s.elapse dt))

/-- GUEST_PLACE: the loaded guests whose tick is the next one enter their guest partitions (R414). -/
def guestPlace (s : State) : State :=
  have n := tickAtOrAfter s.now s.frameRate
  s.kpr.funcs.foldl (fun s (e : Nat × KFunc) =>
    match e.2.placeAt with
    | none => s
    | some t =>
      if t ≤ n then
        have s := s.setFn e.1 { e.2 with placeAt := none }
        { s with kpr := { s.kpr with placeDone := s.kpr.placeDone ++ [e.1] } }
      else s) s

/-- GUEST_PLACE (R414). -/
def execGuestPlace (dt : Nat) (s : State) : Result := .next (guestPlace (s.elapse dt))

/-- GUEST_LOAD is DONE at the commit of the guest's first frame (R414). -/
def State.placeCommit (s : State) : State :=
  have ids := s.kpr.placeDone
  ids.foldl (fun s id => s.vfDone (guestVf id)) { s with kpr := { s.kpr with placeDone := [] } }

/-- A guest of a function in one of some states. -/
def State.guestCmd (s : State) (code v rsv arg : Nat) (st : Nat → Bool) (act : State → State) : State :=
  s.runCmd (vfBase v + 4) code rsv arg
    (verdict (decide (arg < 16) && decide (v ≠ 0))
      (s.loaded && s.kpr.frames && st (s.fn (512 + 16 * v + arg)).state)) fun s => (act s).vfDone v

/-- GUEST_UNLOAD (R427). DEDUCED, log entry 98. -/
def guestUnload (v rsv arg : Nat) (s : State) : State :=
  s.guestCmd 4 v rsv arg (fun st => decide (st ≠ 0)) (fun s => s.guestDrop (512 + 16 * v + arg))

/-- GUEST_UNLOAD (R427). -/
def execGuestUnload (dt : Nat) (v : Fin 256) (rsv : BitVec 8) (arg : BitVec 16) (s : State) : Result :=
  .next (guestUnload v.val rsv.toNat arg.toNat (s.elapse dt))

/-- GUEST_RESTART (R416): the guest returns to service from its initial state block. DEDUCED, log entry 98.
-/
def guestRestart (v rsv arg : Nat) (s : State) : State :=
  have id := 512 + 16 * v + arg
  s.guestCmd 5 v rsv arg (fun st => decide (st = 2)) (fun s =>
    have x := s.fn id
    s.setFn id { x.initialise (List.replicate (objState x.obj) 0) with state := 1, consec := 0 })

/-- GUEST_RESTART (R416). -/
def execGuestRestart (dt : Nat) (v : Fin 256) (rsv : BitVec 8) (arg : BitVec 16) (s : State) : Result :=
  .next (guestRestart v.val rsv.toNat arg.toNat (s.elapse dt))

/-- GAL_COPY (R418): COPY of R376 into the function's own memory. -/
def vfGalCopy (v rsv arg : Nat) (s : State) : State :=
  have b := vfBase v
  have addr := (s.rd (b + 0xC)).toNat + 2 ^ 32 * (s.rd (b + 0x10)).toNat
  s.runCmd (b + 4) 6 rsv arg
    (verdict (decide (v ≠ 0) && s.copyArg arg addr ((s.rd (b + 0x14)).toNat / 4096))
      (s.loaded && decide ((s.func v).grants / 2 % 2 = 1) && s.copyState arg)) fun s => s.copyBegin v arg addr

/-- GAL_COPY (R418). -/
def execGalCopy (dt : Nat) (v : Fin 256) (rsv : BitVec 8) (arg : BitVec 16) (s : State) : Result :=
  .next (vfGalCopy v.val rsv.toNat arg.toNat (s.elapse dt))

/-- A write to VF_CMD. -/
def vfCommand (v code rsv arg : Nat) (buf : List Byte) (s : State) : State :=
  match code with
  | 1 => queueEnable v rsv arg s
  | 2 => queueDisable v rsv arg s
  | 3 => guestLoad v rsv arg buf s
  | 4 => guestUnload v rsv arg s
  | 5 => guestRestart v rsv arg s
  | 6 => vfGalCopy v rsv arg s
  | _ => s.badCode (vfBase v + 4) code rsv arg

/-! ### Mailboxes (R413) -/

/-- A requester may see a mailbox: PF0 and the host cores all of them, a function its own range. -/
def State.mboxSeen (s : State) (q : Requester) (m : Nat) : Bool :=
  match q with
  | .vf v => decide (s.mboxOwner m = some v.val)
  | _ => true

/-- The function as which a requester acknowledges. -/
def requesterFn (q : Requester) : Nat :=
  match q with
  | .vf v => v.val
  | _ => 0

/-- A read of STATE latches VALUE for its reader. -/
def mbxStateRead (q : Requester) (m : Nat) (s : State) : State :=
  if s.mboxSeen q m then
    have x := s.mbox m
    have s := s.setMbox m { x with latches := tset x.latches (readerId q) x.value 0 }
    { s with readData := BitVec.ofNat 32 (b2n x.ready * 2 ^ 31 + x.seq) }
  else { s with readData := 0 }

/-- MBX_STATE_READ (R413). -/
def execMbxStateRead (dt : Nat) (q : Requester) (m : Fin 4096) (s : State) : Result :=
  .next (mbxStateRead q m.val (s.elapse dt))

/-- A read of VALUE returns the reader's latch. -/
def State.mbxValue (s : State) (q : Requester) (m : Nat) : Nat :=
  if s.mboxSeen q m then tget (s.mbox m).latches (readerId q) 0 else 0

/-- A write of STATE acknowledges; a reader that does not own the mailbox changes nothing. -/
def mbxStateWrite (q : Requester) (m ack : Nat) (s : State) : State :=
  have v := requesterFn q
  if s.mboxOwner m = some v then
    have x := s.mbox m
    if x.ready ∧ x.seq = ack % 256 then s.setMbox m { x with ready := false }
    else (s.fnCount v 8 1).raiseOnce 728 0
  else s

/-- MBX_STATE_WRITE (R413). -/
def execMbxStateWrite (dt : Nat) (q : Requester) (m : Fin 4096) (value : Word) (s : State) : Result :=
  .next (mbxStateWrite q m.val value.toNat (s.elapse dt))

/-- The results that a commit brings (R412). `old` is the state before it, `evs` the released software
events. -/
def State.mboxCommit (s old : State) (evs : List Nat) : State :=
  have s := (List.range 128).foldl (fun s n =>
    if evs.contains n then s.mboxSource 1 n (s.rd (0x10400 + 4 * n)).toNat else s) s
  (List.range 128).foldl (fun s w =>
    have v := s.pln.committed.toNat / 2 ^ (32 * w) % 2 ^ 32
    if v = old.pln.committed.toNat / 2 ^ (32 * w) % 2 ^ 32 then s else s.mboxSource 2 w v) s

end Sys2Proof.Machine
end

