-- ==== Sys2Proof/Machine/Evt.lean ====
section
/-!
DEFINITION. Family: event delivery (R473 to R483).
-/

namespace Sys2Proof.Machine

open Sys2Proof

/-- EVT_CMD. -/
def evtCmdReg : Nat := 0x10000

/-- A message to a vector is dropped and counted. ROUTE_DROP and its record, which names the source, come at
most once per second (R477, R483). DEDUCED, log entry 34. -/
def State.routeDrop (s : State) (src : Nat) : State :=
  (s.count 0x1000C).oncePer 28 0 (fun s => (s.setEvent 28).eventRec 28 0x3FF src)

/-- A virtual function's vector may carry a source: a software event in the function's range (R399, R477).
DEDUCED, log entry 34. -/
def State.mayCarry (s : State) (v src : Nat) : Bool :=
  decide (v = 0) ||
    (decide (896 + (s.func v).eventFirst ≤ src) && decide (src < 896 + (s.func v).eventFirst + (s.func v).eventCount))

/-- A source's message goes to a vector (R477). A vector that no function holds drops it. DEDUCED, log entry
34. -/
def State.msiTo (s : State) (src n : Nat) : State :=
  have x := s.vec n
  have f := s.func x.owner
  if x.owned = false ∨ s.mayCarry x.owner src = false then s.routeDrop src
  else if f.internal then s.emit (.guestInt n)
  else if s.present x.owner = false ∨ f.msixEnable = false then s.routeDrop src
  else if x.masked || f.msixMask then s.setVec n { x with pend := true, src := some src }
  else s.emit (.msi x.owner n)

/-- A message is issued under the route in force (R477, R478). A route that has become NONE has no target.
DESIGN CHOICE, log entry 33. -/
def State.msiSend (s : State) (src : Nat) : State :=
  if s.routeTarget src = 1 then s.msiTo src (s.routeIndex src)
  else if s.routeTarget src = 2 then s.deliver src
  else s

/-- A RESEND is DONE once its last message is issued (R481). -/
def State.resendStep (s : State) : State :=
  if s.evt.resend = 0 then s
  else
    have n := s.evt.resend - 1
    have s := { s with evt := { s.evt with resend := n } }
    if n = 0 then s.cmdDone evtCmdReg else s

/-- MSI_MESSAGE_SEND: the oldest held message is issued (R476). DESIGN CHOICE, log entry 33. -/
def msiMessageSend (s : State) : State :=
  match s.evt.held with
  | [] => s
  | src :: rest => (({ s with evt := { s.evt with held := rest } }).msiSend src).resendStep

/-- MSI_MESSAGE_SEND (R476). -/
def execMsiMessageSend (dt : Nat) (s : State) : Result := .next (msiMessageSend (s.elapse dt))

/-- A pending vector that is no longer masked sends its message, or drops it where its function may not
receive one any more (R477). -/
def State.msixRelease (s : State) (n : Nat) : State :=
  have x := s.vec n
  have f := s.func x.owner
  if x.pend = false ∨ x.masked = true ∨ f.msixMask = true then s
  else
    have s := s.setVec n { x with pend := false, src := none }
    if s.present x.owner ∧ f.msixEnable = true then s.emit (.msi x.owner n)
    else
      match x.src with
      | none => s
      | some src => s.routeDrop src

/-- MSIX_UNMASK: the owner writes the mask bit of a vector, and MSI-X Enable and Function Mask of its
function. Every pending vector of the function that is then unmasked sends its message. -/
def msixUnmask (n : Nat) (masked fmask enable : Bool) (s : State) : State :=
  have x := s.vec n
  if x.owned = false ∨ (s.func x.owner).internal = true then s
  else
    have s := s.setVec n { x with masked := masked }
    have s := s.setFunc x.owner { s.func x.owner with msixMask := fmask, msixEnable := enable }
    ((s.hst.vecs.filter (fun (e : Nat × Vec) => e.2.owned && decide (e.2.owner = x.owner))).map
      (fun (e : Nat × Vec) => e.1)).foldl (fun s m => s.msixRelease m) s

/-- MSIX_UNMASK (R477). -/
def execMsixUnmask (dt : Nat) (n : Fin 2048) (masked fmask enable : Bool) (s : State) : Result :=
  .next (msixUnmask n.val masked fmask enable (s.elapse dt))

/-- The sources whose line is 1. -/
def State.linesUp (s : State) : List Nat := (List.range 1024).filter (fun n => s.line n)

/-- RESEND (R480, R481). DESIGN CHOICE, log entry 33. -/
def evtResend (rsv arg : Nat) (s : State) : State :=
  s.runCmd evtCmdReg 1 rsv arg (verdict (decide (arg = 0)) (s.afterStage 1)) fun s =>
    have s := s.linesUp.foldl (fun s n => s.deliver n) s
    have n := s.evt.held.length
    if n = 0 then s.cmdDone evtCmdReg else { s with evt := { s.evt with resend := n } }

/-- RESEND (R480). -/
def execResend (dt : Nat) (rsv : BitVec 8) (arg : BitVec 16) (s : State) : Result :=
  .next (evtResend rsv.toNat arg.toNat (s.elapse dt))

/-- A write to EVT_CMD. -/
def evtCommand (code rsv arg : Nat) (s : State) : State :=
  if code = 1 then evtResend rsv arg s else s.badCode evtCmdReg code rsv arg

end Sys2Proof.Machine
end

