-- ==== Sys2Proof/Machine/Cdv.lean ====
section
/-!
DEFINITION. Family: coil drivers and binary inputs (R429 to R447).
-/

namespace Sys2Proof.Machine

open Sys2Proof

/-! ### The coil channel -/

/-- The FIELD_IO section (R441). -/
def State.fieldIo (s : State) : List Byte := s.cfg 0x12 0

/-- The descriptor offset of coil `k` (R441). -/
def coilOff (k : Nat) : Nat := 0x10 + 32 * k

/-- COIL_ENABLE of channel `k` (R441). -/
def State.coilEnabled (s : State) (k : Nat) : Bool := (s.fieldIo.getD 0 0).getLsbD k

/-- DEAD of channel `k` in ticks. -/
def State.coilDead (s : State) (k : Nat) : Nat := leAt s.fieldIo (coilOff k + 0x06) 2

/-- BLANK of channel `k` in ticks. -/
def State.coilBlank (s : State) (k : Nat) : Nat := leAt s.fieldIo (coilOff k + 0x08) 2

/-- OC_LATCH_N of channel `k`. -/
def State.coilLatchN (s : State) (k : Nat) : Nat := byteAt s.fieldIo (coilOff k + 0x0B)

/-- PULLIN_MS of channel `k`. -/
def State.coilPullIn (s : State) (k : Nat) : Nat := byteAt s.fieldIo (coilOff k + 0x0C)

/-- A coil channel. -/
def State.coil (s : State) (k : Nat) : Coil := tget s.cdv k {}

/-- A coil channel with a new value. A change of a leg appears at the output. -/
def State.setCoil (s : State) (k : Nat) (c : Coil) : State :=
  have o := s.coil k
  have s := { s with cdv := tset s.cdv k c {} }
  if o.driveOn = c.driveOn ∧ o.freeOn = c.freeOn then s else s.emit (.coil k c.driveOn c.freeOn)

/-- Register address of CDV_SHORT_SKIP_CNT of channel `k` (R444). -/
def shortSkipAddr (k : Nat) : Nat := 0xD01020 + 0x40 * k

/-- Register address of CDV_OC_TRIP_CNT of channel `k` (R444). -/
def ocTripAddr (k : Nat) : Nat := 0xD01024 + 0x40 * k

/-- The drive leg is always on by the compares (R431). -/
def coilAlways (c : Coil) : Bool := decide (c.period ≤ c.rise) || decide (c.period ≤ c.fall)

/-- T_on of a pulse (R431). -/
def coilOnTime (c : Coil) : Nat :=
  if c.rise < c.fall then c.fall - c.rise else c.period - c.rise + c.fall

/-- The pulse is shorter than DEAD + 100 ticks (R432). -/
def coilShort (c : Coil) (dead : Nat) : Bool := decide (coilOnTime c < dead + 100)

/-- The drive leg is on at count 0 of a governed period (R431). -/
def coilOnAtZero (c : Coil) (dead : Nat) : Bool :=
  coilAlways c || (decide (c.fall < c.rise) && !coilShort c dead && !c.skipping)

/-- The drive leg turns off; the freewheel leg follows after DEAD (R431). -/
def legOff (c : Coil) : Coil :=
  if c.driveOn then { c with driveOn := false, blanking := false, dead := .freewheel }
  else { c with dead := if c.dead = .drive then .freewheel else c.dead }

/-- The freewheel leg turns off; the drive leg is due after DEAD (R431). -/
def legOn (c : Coil) : Coil :=
  if c.driveOn then c else { c with freeOn := false, dead := .drive }

/-- The shadow transfer of a period boundary (R433), without the events. -/
def transfer (c : Coil) : Coil :=
  if c.armed then
    { c with period := c.periodSh, rise := c.riseSh, fall := c.fallSh, armed := false,
             periodPending := false, stale := 0 }
  else if c.periodPending then { c with stale := c.stale + 1 }
  else c

/-- The transfer makes the channel PAIR_STALE at this boundary (R433). -/
def goesStale (c : Coil) : Bool := !c.armed && c.periodPending && decide (c.stale + 1 = 2)

/-- Raise PAIR_STALE of a channel where the transfer asks for it (R433, R445). -/
def State.stalePart (s : State) (k : Nat) (was : Coil) : State :=
  if goesStale was then
    (s.setCoil k { s.coil k with pairStale := true }).raiseRec (785 + 4 * k) k
  else s

/-- A period boundary (R430, R433, R435). -/
def periodBoundary (k : Nat) (s : State) : State :=
  have c := s.coil k
  have t := transfer c
  have t := if c.conducted && !c.tripped then { t with ocConsec := 0 } else t
  have t := { t with tripped := false, conducted := t.driveOn }
  have t := match t.state with
    | .pullIn => legOn t
    | .hold =>
      have t := { t with govern := true }
      if coilOnAtZero t (s.coilDead k) then legOn t
      else if t.driveOn && !decide (t.rise = 0) then legOff t
      else t
    | _ => t
  (s.setCoil k t).stalePart k c

/-- CARRIER_PERIOD_BOUNDARY (R433). -/
def execCarrierPeriodBoundary (dt : Nat) (k : Fin 8) (s : State) : Result :=
  .next (periodBoundary k.val (s.elapse dt))

/-- The RISE compare (R431, R432). -/
def riseCompare (k : Nat) (s : State) : State :=
  have c := s.coil k
  if c.state = .hold ∧ c.govern = true ∧ coilAlways c = false ∧ c.rise ≠ c.fall then
    if coilShort c (s.coilDead k) then
      ((s.setCoil k { c with skipping := true }).count (shortSkipAddr k)).raiseOnce (787 + 4 * k) k
    else s.setCoil k (legOn { c with skipping := false })
  else s

/-- RISE_COMPARE (R431). -/
def execRiseCompare (dt : Nat) (k : Fin 8) (s : State) : Result :=
  .next (riseCompare k.val (s.elapse dt))

/-- The FALL compare (R431, R432). -/
def fallCompare (k : Nat) (s : State) : State :=
  have c := s.coil k
  if c.state = .hold ∧ c.govern = true ∧ coilAlways c = false ∧ c.rise ≠ c.fall then
    if c.skipping then s.setCoil k { c with skipping := false } else s.setCoil k (legOff c)
  else s

/-- FALL_COMPARE (R431). -/
def execFallCompare (dt : Nat) (k : Fin 8) (s : State) : Result :=
  .next (fallCompare k.val (s.elapse dt))

/-- The dead time of a channel passes (R429, R431). The drive leg's turn-on starts blanking (R436). -/
def deadTimeExpiry (k : Nat) (s : State) : State :=
  have c := s.coil k
  match c.dead with
  | .none => s
  | .drive => s.setCoil k { c with driveOn := true, dead := .none, conducted := true,
                                   blanking := decide (s.coilBlank k > 0) }
  | .freewheel => s.setCoil k { c with freeOn := true, dead := .none }
  | .quiet => s.setCoil k { c with dead := .none }

/-- DEAD_TIME_EXPIRY (R431). -/
def execDeadTimeExpiry (dt : Nat) (k : Fin 8) (s : State) : Result :=
  .next (deadTimeExpiry k.val (s.elapse dt))

/-- BLANK_EXPIRY (R436). -/
def execBlankExpiry (dt : Nat) (k : Fin 8) (s : State) : Result :=
  have s := s.elapse dt
  .next (s.setCoil k.val { s.coil k.val with blanking := false })

/-- PULLIN_MS have passed (R434). The compares govern from the next boundary. -/
def pullinExpiry (k : Nat) (s : State) : State :=
  have c := s.coil k
  if c.state = .pullIn then s.setCoil k { c with state := .hold, govern := false } else s

/-- PULLIN_EXPIRY (R434). -/
def execPullinExpiry (dt : Nat) (k : Fin 8) (s : State) : Result :=
  .next (pullinExpiry k.val (s.elapse dt))

/-- Both legs go off, and neither turns on for DEAD (R434). -/
def legsOff (c : Coil) : Coil :=
  { c with driveOn := false, freeOn := false, blanking := false, skipping := false, govern := false,
           dead := .quiet }

/-- The overcurrent comparator fires (R435, R436). In the clock of a FALL it counts as FALL. DEDUCED, log
entry 100. -/
def ocTrip (k : Nat) (withFall : Bool) (s : State) : State :=
  have c := s.coil k
  if c.driveOn = false ∨ c.blanking = true then s
  else if withFall ∧ c.state = .hold then s.setCoil k (legOff c)
  else if c.tripped then s.setCoil k (legOff c)
  else
    have n := c.ocConsec + 1
    have s := s.count (ocTripAddr k)
    if n ≥ s.coilLatchN k then
      (s.setCoil k { legsOff c with state := .latched, ocConsec := n, tripped := true }).raiseRec
        (784 + 4 * k) k
    else s.setCoil k { legOff c with ocConsec := n, tripped := true }

/-- OC_TRIP (R435). -/
def execOcTrip (dt : Nat) (k : Fin 8) (withFall : Bool) (s : State) : Result :=
  .next (ocTrip k.val withFall (s.elapse dt))

/-- Energisation of a channel at a commit or a takeover point (R430, R434, R442). -/
def State.coilEnergise (s : State) (k : Nat) : State :=
  have c := s.coil k
  if c.state = .idle ∧ s.coilEnabled k = true then
    have t := transfer c
    have st : CoilState := if s.coilPullIn k = 0 then .hold else .pullIn
    (s.setCoil k { t with
        state := st, govern := true, driveOn := true, freeOn := false, dead := .none,
        conducted := true, tripped := false, skipping := false, supPaused := true, supRun := 0,
        blanking := decide (s.coilBlank k > 0) }).stalePart k c
  else s

/-- De-energisation of a channel (R18, R434). -/
def State.coilRelease (s : State) (k : Nat) : State :=
  have c := s.coil k
  if c.state = .pullIn ∨ c.state = .hold then s.setCoil k { legsOff c with state := .idle } else s

/-- Every coil channel disarms (R18). -/
def State.coilsOff (s : State) : State := forN 8 (fun k s => s.coilRelease k) s

/-- Supervision writes its signal (R437). -/
def State.supSignal (s : State) (k sup : Nat) : State :=
  have b := leAt s.fieldIo (coilOff k + 0x0E) 2
  if b = 0xFFFF then s else s.setSig b (decide (sup = 1)) 0

/-- The class of a supervision measurement: 1 HEALTHY, 2 OPEN, 3 SHORT (R437). -/
def State.supClass (s : State) (k ohm : Nat) (compliance : Bool) : Nat :=
  if compliance ∨ ohm > leAt s.fieldIo (coilOff k + 0x12) 2 then 2
  else if ohm < leAt s.fieldIo (coilOff k + 0x10) 2 then 3
  else 1

/-- A supervision measurement (R437). -/
def supMeasure (k ohm : Nat) (compliance : Bool) (s : State) : State :=
  have c := s.coil k
  if s.coilEnabled k = true ∧ (c.state = .idle ∨ c.state = .latched) ∧ c.supPaused = false ∧
      byteAt s.fieldIo (coilOff k + 0x0D) ≠ 0 then
    have r := s.supClass k ohm compliance
    have run := if c.supCand = r then c.supRun + 1 else 1
    have c := { c with ohm := min ohm 65535, supCand := r, supRun := min run 3 }
    if run ≥ 3 ∧ c.sup ≠ r then
      ((s.setCoil k { c with sup := r }).supSignal k r).raiseRec (786 + 4 * k) k
    else s.setCoil k c
  else s

/-- SUP_MEASURE (R437). -/
def execSupMeasure (dt : Nat) (k : Fin 8) (ohm : Nat) (compliance : Bool) (s : State) : Result :=
  .next (supMeasure k.val ohm compliance (s.elapse dt))

/-- Supervision resumes 10 ms after de-energisation (R434). -/
def supResume (k : Nat) (s : State) : State :=
  have c := s.coil k
  if c.state = .idle ∨ c.state = .latched then s.setCoil k { c with supPaused := false } else s

/-- SUP_RESUME (R434). -/
def execSupResume (dt : Nat) (k : Fin 8) (s : State) : Result :=
  .next (supResume k.val (s.elapse dt))

/-- A write to CDV_FALL_SH (R433). -/
def fallShWrite (k : Nat) (v : Word) (s : State) : State :=
  s.setCoil k { s.coil k with fallSh := fld v 0 16, armed := true }

/-- CDV_FALL_SH_WRITE (R433). -/
def execCdvFallShWrite (dt : Nat) (k : Fin 8) (v : Word) (s : State) : Result :=
  .next (fallShWrite k.val v (s.elapse dt))

/-- A write to CDV_PERIOD_SH (R433). -/
def periodShWrite (k : Nat) (v : Word) (s : State) : State :=
  have p := fld v 0 16
  if 2000 ≤ p ∧ p ≤ 40000 then
    s.setCoil k { s.coil k with periodSh := p, periodPending := true }
  else s.setCoil k { s.coil k with writeErr := true }

/-- CDV_PERIOD_SH_WRITE (R433). -/
def execCdvPeriodShWrite (dt : Nat) (k : Fin 8) (v : Word) (s : State) : Result :=
  .next (periodShWrite k.val v (s.elapse dt))

/-- Address of CDV_CMD. -/
def cdvCmdReg : Nat := 0xD00000

/-- OC_CLEAR (R434, R443). DEDUCED, log entry 100. -/
def ocClear (rsv arg : Nat) (s : State) : State :=
  s.runCmd cdvCmdReg 1 rsv arg
    (verdict (arg < 8) (s.afterBoot && decide ((s.coil arg).state = .latched))) fun s =>
    (s.setCoil arg { s.coil arg with state := .idle, ocConsec := 0 }).cmdDone cdvCmdReg

/-- OC_CLEAR (R443). -/
def execOcClear (dt : Nat) (rsv : BitVec 8) (arg : BitVec 16) (s : State) : Result :=
  .next (ocClear rsv.toNat arg.toNat (s.elapse dt))

/-- A command written to CDV_CMD (R443). -/
def cdvCommand (code rsv arg : Nat) (s : State) : State :=
  if code = 1 then ocClear rsv arg s else s.badCode cdvCmdReg code rsv arg

/-- The image values of a channel's shadow and active timers (R50, R441). -/
def State.coilLoad (s : State) (k : Nat) (c : Coil) : Coil :=
  have b := s.fieldIo
  have o := coilOff k
  { c with periodSh := leAt b o 2, riseSh := leAt b (o + 2) 2, fallSh := leAt b (o + 4) 2,
           period := leAt b o 2, rise := leAt b (o + 2) 2, fall := leAt b (o + 4) 2 }

/-- A block-instance reset of a coil channel (R50). DEDUCED, log entry 100. -/
def State.coilReset (s : State) (k : Nat) : State :=
  have c := s.coil k
  have on := decide (c.state = .pullIn) || decide (c.state = .hold)
  have s := s.setCoil k (s.coilLoad k { legsOff c with
    state := .idle, armed := false, periodPending := false, stale := 0, pairStale := false,
    ocConsec := 0, conducted := false, tripped := false,
    supPaused := on || c.supPaused })
  (s.wr (shortSkipAddr k) 0).wr (ocTripAddr k) 0

/-! ### Binary inputs -/

/-- The descriptor offset of input `i` (R441). -/
def inputOff (i : Nat) : Nat := 0x110 + 8 * i

/-- INPUT_ENABLE of input `i` (R441). -/
def State.inputEnabled (s : State) (i : Nat) : Bool :=
  decide (leAt s.fieldIo 1 2 / 2 ^ i % 2 = 1)

/-- INVERT of input `i`. -/
def State.inputInvert (s : State) (i : Nat) : Bool := decide (byteAt s.fieldIo (inputOff i + 1) % 2 = 1)

/-- SIGNAL of input `i`. -/
def State.inputSignal (s : State) (i : Nat) : Nat := leAt s.fieldIo (inputOff i + 4) 2

/-- A binary input. -/
def State.input (s : State) (i : Nat) : BinIn := tget s.bin i {}

/-- A binary input with a new value. -/
def State.setInput (s : State) (i : Nat) (b : BinIn) : State := { s with bin := tset s.bin i b {} }

/-- The 1 µs sampling of an input finds a level (R438, R439). The edge time is in whole
microseconds (R440). -/
def inputLevel (i : Nat) (level : Bool) (s : State) : State :=
  have b := s.input i
  if b.raw = level then s
  else
    have b := { b with raw := level }
    if b.known ∧ level = (b.value != s.inputInvert i) then s.setInput i { b with pendLevel := none }
    else s.setInput i { b with pendLevel := some level, pendSince := s.time.mono,
                               pendSec := secOf s.now, pendNs := nsOf s.now / 1000 * 1000 }

/-- INPUT_LEVEL_CHANGE (R439). -/
def execInputLevelChange (dt : Nat) (i : Fin 16) (level : Bool) (s : State) : Result :=
  .next (inputLevel i.val level (s.elapse dt))

/-- The debounce time of an input has passed (R439, R440). DEDUCED, log entry 101. -/
def inputAccepted (i : Nat) (s : State) : State :=
  have b := s.input i
  match b.pendLevel with
  | none => s
  | some l =>
    if s.inputEnabled i then
      have n := b.inSecond + 1
      have v := (l != s.inputInvert i)
      have s := s.setInput i { b with
        pendLevel := none, value := v, known := true, sec := b.pendSec,
        ts32 := (b.pendSec * 1000000000 + b.pendNs) % 2 ^ 32, inSecond := n,
        chatter := b.chatter || decide (n > 50) }
      have s := s.count (0xD8010C + 0x10 * i)
      have s := if s.inputSignal i = 0xFFFF then s else s.setSig (s.inputSignal i) v 0
      if b.chatter then s else s.raiseRec (816 + i) i
    else s

/-- INPUT_CHANGE_ACCEPTED (R439). -/
def execInputChangeAccepted (dt : Nat) (i : Fin 16) (s : State) : Result :=
  .next (inputAccepted i.val (s.elapse dt))

/-- A read of BIN_IN_TS32 latches BIN_IN_SEC of the same edge (R446). -/
def binTs32Read (q : Requester) (i : Nat) (s : State) : State :=
  have b := s.input i
  { s.setInput i { b with secLatch := tset b.secLatch (readerId q) b.sec 0 } with
    readData := BitVec.ofNat 32 b.ts32 }

/-- BIN_IN_TS32_READ (R446). -/
def execBinInTs32Read (dt : Nat) (q : Requester) (i : Fin 16) (s : State) : Result :=
  .next (binTs32Read q i.val (s.elapse dt))

/-- The end of a second for the inputs (R440). DEDUCED, log entry 101. -/
def State.inputsSecond (s : State) : State :=
  forN 16 (fun i s =>
    have b := s.input i
    s.setInput i { b with inSecond := 0, chatter := b.chatter && !decide (b.inSecond ≤ 5) }) s

/-- The image load for coils and inputs: timers from the image; each input starts counting from the
level sampled now, and its signal reads NOT_RECEIVED until accepted (R430, R439). -/
def State.fieldLoad (s : State) : State :=
  have s := forN 8 (fun k s => s.setCoil k (s.coilLoad k (s.coil k))) s
  forN 16 (fun i s =>
    have b := s.input i
    if s.inputEnabled i then
      have s := s.setInput i { b with
                                     known := false, pendLevel := some b.raw, pendSince := s.time.mono,
                                     pendSec := secOf s.now, pendNs := nsOf s.now / 1000 * 1000 }
      if s.inputSignal i = 0xFFFF then s else s.setSig (s.inputSignal i) false 1
    else s) s

end Sys2Proof.Machine
end

