-- ==== Sys2Proof/Machine/Svi.lean ====
section
/-!
DEFINITION. Family: the sampled-value intake (R156 to R189).
-/

namespace Sys2Proof.Machine

open Sys2Proof

/-! ### Notes and fields -/

/-- A bit of SVI_NOTE_STREAMS (R188). DEDUCED, log entry 60. -/
def State.sviNoted (s : State) (i : Nat) : Bool := (s.rd (0x300100 + 4 * (i / 32))).getLsbD (i % 32)

/-- A stream's NOTE bit is set; when it becomes 1 STREAM_NOTE is raised (R188, R189). -/
def State.sviNote (s : State) (i : Nat) : State :=
  if s.sviNoted i then s
  else
    have a := 0x300100 + 4 * (i / 32)
    (s.wr a (s.rd a ||| bit (i % 32))).setEvent 320

/-- A stream enters a state; the change sets its NOTE bit (R179, R188). -/
def State.setStreamState (s : State) (i st : Nat) : State :=
  if (s.stream i).state = st then s
  else (s.setStream i { s.stream i with state := st }).sviNote i

/-- SUBST = 1 (R158). -/
def StreamCfg.substOn (c : StreamCfg) : Bool := decide (c.fieldAt 0x0F 1 = 1)

/-- ACCEPT_SIM (R158). -/
def StreamCfg.acceptSim (c : StreamCfg) : Bool := decide (c.fieldAt 0x21 1 / 2 % 2 = 1)

/-- SYNC_POLICY (R158). -/
def StreamCfg.syncPolicy (c : StreamCfg) : Bool := decide (c.fieldAt 0x21 1 / 4 % 2 = 1)

/-- The number of SmpCnt values in a cycle (R160). -/
def StreamCfg.cycleCount (c : StreamCfg) : Nat := if c.rate = 96000 then 48000 else c.rate

/-- The SmpCnt cycle C (R160). -/
def StreamCfg.cycle (c : StreamCfg) : Nat := if c.rate = 96000 then secUnit / 2 else secUnit

/-- The svID octets of an entry. -/
def StreamCfg.svId (c : StreamCfg) : List Byte := slice c.body (c.off + 0x30) (c.fieldAt 0x28 1)

/-- HOLD_LIMIT. -/
def StreamCfg.holdLimit (c : StreamCfg) : Nat := c.fieldAt 0x24 1

/-- RESTORE_COUNT. -/
def StreamCfg.restoreCount (c : StreamCfg) : Nat := c.fieldAt 0x26 2

/-! ### Values and marks (R166 to R169) -/

/-- INT32 × SCALE, negated with INVERT (R166). -/
def convert (scale : Nat) (invert : Bool) (v : Int) : Nat :=
  have neg := decide (v < 0)
  have r := match f32.unpack scale with
    | .nan _ => f32.nan
    | .inf n => if v = 0 then f32.nan else f32.inf (n != neg)
    | .fin n m e => (f32.round .rne (n != neg) (v.natAbs * m) 1 e).1
  if invert then (if r / f32.signBit % 2 = 1 then r - f32.signBit else r + f32.signBit) else r

/-- The marks of a quality word (R168). -/
def qualityMarks (q : Nat) : Nat :=
  let b (i m : Nat) : Nat := if q / 2 ^ i % 2 = 1 then m else 0
  (if q % 4 = 0 then 0 else if q % 4 = 3 then 2 else 1) ||| b 2 0x200 ||| b 3 0x400 ||| b 6 1 |||
    b 10 0x800 ||| b 11 0x100 ||| b 12 0x2000 ||| b 13 0x1000

/-- An ASDU is globally synchronised (R171). -/
def globalSync (c : StreamCfg) (smpSynch : Nat) : Bool :=
  if c.fieldAt 0x0A 1 = 1 then decide (smpSynch ≠ 0) else decide (smpSynch = 2)

/-- The marks of synchronisation (R171). -/
def syncMarks (c : StreamCfg) (smpSynch : Nat) : Nat :=
  if globalSync c smpSynch then 0
  else (if smpSynch = 1 ∨ (5 ≤ smpSynch ∧ smpSynch ≤ 254) then 0x80 else 0) ||| 0x40 |||
    (if c.syncPolicy then 0 else 1)

/-- The channels of an ASDU: values and marks (R166 to R169, R171). Outside TEST a TEST mark adds
INVALID. -/
def asduData (c : StreamCfg) (a : SvAsdu) (sim test : Bool) : List (Nat × Nat) :=
  (List.range c.channels).map (fun i =>
    have o := c.off + 0x80 + 8 * i
    have v := convert (leAt c.body o 4) (decide (byteAt c.body (o + 7) % 2 = 1)) (ofTwos 32 (beAt a.data (8 * i) 4))
    have m := qualityMarks (beAt a.data (8 * i + 4) 4) ||| syncMarks c a.smpSynch ||| (if sim then 0x100 else 0)
    (v, if m / 256 % 2 = 1 && !test then m ||| 1 else m))

/-- INVALID on any channel. -/
def anyInvalid (d : List (Nat × Nat)) : Bool := d.any (fun e => decide (e.2 % 2 = 1))

/-! ### Places and instants (R170, R171, R175) -/

/-- The instant of a place: by SmpCnt, or on the arrival lattice. -/
def streamTime (c : StreamCfg) (x : Stream) (pos : Nat) : Nat :=
  if x.arrival then x.anchor + rateInstant (pos - x.first) c.rate else rateInstant pos c.rate

/-- The place of a globally synchronised SmpCnt received at `ts` (R170). -/
def syncPos (c : StreamCfg) (smpCnt ts : Nat) : Nat :=
  have n := ts / c.cycle * c.cycleCount + smpCnt
  if n * secUnit > ts * c.rate then n - c.cycleCount else n

/-- The first place whose instant is at or after an instant. -/
def posAtOrAfter (c : StreamCfg) (t : Nat) : Nat := (t * c.rate + secUnit - 1) / secUnit

/-- A stream enters WAITING: placement starts afresh (R174, R179). -/
def State.streamWait (s : State) (c : StreamCfg) : State :=
  have i := c.index
  have n := posAtOrAfter c s.now
  have x := s.stream i
  have s := s.setStreamState i 2
  s.setStream i { s.stream i with
    arrival := false, placed := false, next := n, first := n, waits := [], missed := [], vals := [],
    missRun := 0, goodRun := 0, gap := false, resync := false, lastTime := x.lastTime }

/-! ### Substitution (R181 to R184) -/

/-- Every slot of a stream is settled. -/
def State.streamSettled (s : State) (c : StreamCfg) : Bool :=
  (List.range c.channels).all (fun i => slotSettled (s.slot (c.slotBase + i)))

/-- A stream is healthy (R181). -/
def State.healthy (s : State) (i : Nat) : Bool :=
  match s.streamCfg i with
  | none => false
  | some c => decide ((s.stream i).state = 3) && s.streamSettled c

/-- The deadline of a stream's next sample has come while that sample is outstanding. -/
def State.overdue (s : State) (i due : Nat) : Bool :=
  match s.streamCfg i with
  | none => false
  | some c => decide (deadline c s.frameRate (streamTime c (s.stream i) (s.stream i).next) ≤ due)

/-- A stream's slots carry partner samples. -/
def Stream.substituting (x : Stream) : Bool :=
  match x.subst with
  | none => false
  | some v => v.stop.isNone

/-- Outputs of one stream's slots copied from the slots of a source: those at or after `t` − d. -/
def State.copyOuts (s : State) (c src : StreamCfg) (t extra : Nat) : State :=
  forN c.channels (fun i s =>
    ((s.slot (src.slotBase + i)).outs.reverse.filter (fun o => decide (t ≤ o.tau + c.delay i))).foldl
      (fun s o =>
        have s := s.plnGrid (c.slotBase + i) o extra
        if extra = 0 then s else (s.svCount c.index 11 1).prfIntake 5 1) s) s

/-- A substitution starts at an instant (R182). DEDUCED, log entry 59. -/
def State.substStart (s : State) (c : StreamCfg) (t : Nat) : State :=
  match c.partner with
  | none => s
  | some p =>
    match s.streamCfg p with
    | none => s
    | some pc =>
      have i := c.index
      have s := s.setStream i { s.stream i with subst := some { start := t, stop := none } }
      have s := s.copyOuts c pc t 0x10
      ((s.svCount i 10 1).raiseRec 321 i).sviNote i

/-- A stream takes its healthy partner's samples from an instant on, where R181 allows it. DEDUCED, log
entry 59. -/
def State.substTry (s : State) (c : StreamCfg) (t : Nat) : State :=
  match c.partner with
  | none => s
  | some p =>
    if c.substOn && !(s.stream c.index).substituting && s.healthy p then s.substStart c t else s

/-- The instant of the input with which a slot settled. -/
def settleInstant (r : Resp) (x : Slot) : Nat :=
  have l := x.ins.filter (fun (e : Nat × Nat) => decide (x.restart ≤ e.1))
  match l[l.length - r.settle]? with
  | none => 0
  | some e => e.1

/-- Substitution of a stream ends when it is OK, settled and not forced (R183). DEDUCED, log entry 59. -/
def State.substEnd (s : State) (c : StreamCfg) : State :=
  have i := c.index
  have x := s.stream i
  match x.subst with
  | none => s
  | some v =>
    if v.stop.isNone && decide (x.state = 3) && !x.forced && s.streamSettled c then
      have t := (List.range c.channels).foldl (fun t k =>
        max t (settleInstant (resp (c.response k)) (s.slot (c.slotBase + k)))) x.okTime
      have s := s.setStream i { x with subst := some { v with stop := some t } }
      have s := forN c.channels (fun k s =>
        ((s.slot (c.slotBase + k)).outs.reverse.filter (fun o => decide (t + c.delay k ≤ o.tau))).foldl
          (fun s o => s.plnGrid (c.slotBase + k) o 0) s) s
      (s.raiseRec 322 i).sviNote i
    else s

/-- What a stream's own change means for its partner: a partner that is IMPAIRED, LOST or WAITING starts
substituting at the moment this stream becomes healthy (R181). -/
def State.partnerTry (s : State) (c : StreamCfg) (was : Bool) (t : Nat) : State :=
  match c.partner with
  | none => s
  | some p =>
    match s.streamCfg p with
    | none => s
    | some pc =>
      have st := (s.stream p).state
      if !was && s.healthy c.index && (decide (st = 2) || decide (st = 4) || decide (st = 5)) then
        s.substTry pc t
      else s

/-- A stream turns bad (R181, R184). `due` is the deadline of a missing sample. When both members turn
bad on the same sample neither substitutes. -/
def State.turnsBad (s : State) (c : StreamCfg) (t : Nat) (due : Option Nat) : State :=
  match c.partner with
  | none => s
  | some p =>
    match s.streamCfg p with
    | none => s
    | some pc =>
      have y := s.stream p
      have s :=
        if y.substituting then
          if y.subst = some { start := t, stop := none } ∧ y.forced = false ∧ (s.stream c.index).state = 3 then
            (s.setStream p { y with subst := none }).copyOuts pc pc t 0
          else (s.sviNote p).sviNote c.index
        else s
      have both := match due with
        | none => false
        | some d => s.overdue p d
      if both || y.substituting then s else s.substTry c t

/-! ### Passing a sample to the chain (R176 to R179) -/

/-! ### Alignment of a slot (R330) -/

/-- The instant of the last input in an item's slot. -/
def itemInstant (x : Machine.AlignItem) : Nat :=
  match x with
  | .slot y _ _ => ((y.ins.head?).map (fun e => e.1)).getD 0
  | _ => 0

/-- The eight rings of a channel and of its instants. -/
def State.chanRings (s : State) (c : Nat) : List (List Byte) :=
  have x := s.chan c
  [s.plnBytes (gridValAddr c 0) 1024, s.plnBytes (gridMarkAddr c 0) 512, s.plnBytes (inValAddr c 0) 512,
    s.plnBytes (inMarkAddr c 0) 256, s.plnBytes (phasorAddr c 0) 512, s.plnBytes (phasorMarkAddr c 0) 128,
    s.plnBytes (gridInstAddr x.table 0) 2048, s.plnBytes (inInstAddr x.stream 0) 1024]

/-- The rings of a channel take new contents. -/
def State.putRings (s : State) (c : Nat) (rings : List (List Byte)) : State :=
  have x := s.chan c
  ([gridValAddr c 0, gridMarkAddr c 0, inValAddr c 0, inMarkAddr c 0, phasorAddr c 0, phasorMarkAddr c 0,
      gridInstAddr x.table 0, inInstAddr x.stream 0].zip rings).foldl
    (fun (s : State) (e : Nat × List Byte) => s.plnPut e.1 e.2) s

/-- An item has cut over. -/
def State.alignDrop (s : State) (kind id : Nat) : State :=
  { s with
      pair := { s.pair with
      items := s.pair.items.filter (fun e => !(decide (e.1 = kind) && decide (e.2.1 = id)))
      alLeft := s.pair.alLeft - 1 } }

/-- A slot item replaces the requester's slot, its channel's state and rings, and its stream's count. -/
def State.alignSlot (s : State) (c n : Nat) (item : Machine.AlignItem) : State :=
  match item with
  | .slot y h rings =>
    have o := s.chan c
    have s := ((s.alignDrop 0 c).setSlot c y).setChan c { o with
      filled := h.filled, headG := h.headG, headI := h.headI, marksOr := h.marksOr, settleLeft := h.settleLeft,
      pendG := h.pendG, pendI := h.pendI }
    have s := s.putRings c rings
    s.setStream o.stream { s.stream o.stream with count := (n + 1) % 2 ^ 32 }
  | _ => s

/-- The slots of a stream whose item's cut-over point the input with instant `t` reaches. -/
def State.alignStream (s : State) (c : StreamCfg) (t : Nat) : State :=
  if s.pair.items.isEmpty then s
  else
    forN c.channels (fun i s =>
      match s.pair.items.find? (fun e => decide (e.1 = 0) && decide (e.2.1 = c.slotBase + i) &&
          decide (itemInstant e.2.2.2 = t)) with
      | none => s
      | some e => s.alignSlot e.2.1 e.2.2.1 e.2.2.2) s

/-- The chain takes a stream's next sample. A sync or the end of a gap restarts the slots first (R171,
R177, R210). -/
def State.passTo (s : State) (c : StreamCfg) (pos t : Nat) (data : List (Nat × Nat)) (onTime : Bool) : State :=
  have i := c.index
  have x := s.stream i
  have s := if x.resync || (x.gap && onTime) then s.streamRestart c t else s
  have s := s.setStream i { s.stream i with
    resync := false, gap := if onTime then false else x.gap, next := pos + 1, lastTime := t, placed := true }
  have s := s.chainInput c x.count t data
  have s := (s.setStream i { s.stream i with count := (x.count + 1) % 2 ^ 32 }).alignStream c t
  have inv := if anyInvalid data then s.svCount i 9 1 else s
  if data.any (fun e => decide (e.2 / 64 % 2 = 1)) then inv.svCount i 8 1 else inv

/-- The state transitions of an on-time sample (R179). -/
def State.onTimeState (s : State) (c : StreamCfg) (t : Nat) (good : Bool) : State :=
  have i := c.index
  have x := s.stream i
  match x.state with
  | 2 =>
    if good then (s.setStream i { x with okTime := t }).setStreamState i 3
    else (s.setStream i { x with goodRun := 0 }).setStreamState i 4
  | 3 => if good then s else ((s.setStream i { x with goodRun := 0 }).turnsBad c t none).setStreamState i 4
  | 4 =>
    if good then
      have n := x.goodRun + 1
      if n ≥ c.restoreCount then (s.setStream i { x with goodRun := n, okTime := t }).setStreamState i 3
      else s.setStream i { x with goodRun := n }
    else (s.setStream i { x with goodRun := 0 }).substTry c t
  | 5 =>
    have s := (s.setStream i { x with goodRun := if good then 1 else 0 }).setStreamState i 4
    s.logPut 0x0012 0x06 i i 5 4
  | _ => s

/-- An on-time sample passes to the chain. -/
def State.passOnTime (s : State) (c : StreamCfg) (w : Wait) : State :=
  have i := c.index
  have was := s.healthy i
  have s := s.passTo c w.pos w.time w.data true
  have s := s.setStream i { s.stream i with vals := w.data.map (·.1), missRun := 0 }
  have s := s.onTimeState c w.time (!anyInvalid w.data)
  (s.substEnd c).partnerTry c was w.time

/-- Samples that waited behind a passed one follow it in order (R176). -/
def State.drainWaits (s : State) (c : StreamCfg) (fuel : Nat) : State :=
  match fuel with
  | 0 => s
  | fuel + 1 =>
    have x := s.stream c.index
    match x.waits with
    | [] => s
    | w :: r =>
      if w.pos = x.next then
        ((s.setStream c.index { x with waits := r }).passOnTime c w).drainWaits c fuel
      else s

/-- A place passed as missing. -/
def addMissed (l : List (Nat × Nat)) (pos : Nat) : List (Nat × Nat) :=
  match l with
  | [] => [(pos, pos)]
  | (a, b) :: r => if pos = b + 1 then (a, pos) :: r else ((pos, pos) :: (a, b) :: r).take 64

/-- The deadline of a stream's next sample passes without it (R177, R179). -/
def State.passMissing (s : State) (c : StreamCfg) : State :=
  have i := c.index
  have x := s.stream i
  have pos := x.next
  have t := streamTime c x pos
  have rate := s.frameRate
  have due := deadline c rate t
  have run := x.missRun + 1
  have long := decide (run > c.holdLimit)
  have mark := 0xC ||| (if long || x.vals.isEmpty then 1 else 0)
  have data := (List.range c.channels).map (fun k => (x.vals.getD k 0, mark))
  have s := s.setStream i { x with
    missRun := run, missFirst := if x.missRun = 0 then due else x.missFirst, goodRun := 0,
    gap := x.gap || long, missed := addMissed x.missed pos }
  have s := { s with
    svi := { s.svi with
    incomplete := s.svi.incomplete ++ [((due + secUnit - 1) / secUnit, i)] } }
  have s := s.passTo c pos t data false
  have s := s.svCount i 1 1
  have s := if long then s.svCount i 13 1 else s
  have x := s.stream i
  have span := decide (due ≥ x.missFirst + 20 * msUnit * rate)
  have s := if x.state = 3 then s.turnsBad c t (some due)
    else if x.state = 2 ∨ x.state = 4 then s.substTry c t else s
  have s := if x.state = 2 ∨ x.state = 3 then s.setStreamState i 4 else s
  if span && !decide (x.state = 5) then
    (((s.setStreamState i 5).raiseRec 323 i)).substTry c t
  else s

/-- SAMPLE_DEADLINE: the deadline of stream `i`'s outstanding sample has passed (R177). Before that
deadline nothing happens. -/
def sampleDeadline (i : Nat) (s : State) : State :=
  match s.streamCfg i with
  | none => s
  | some c =>
    have x := s.stream i
    if x.state < 2 then s
    else if deadline c s.frameRate (streamTime c x x.next) ≤ s.now * s.frameRate then
      (s.passMissing c).drainWaits c 4096
    else s

/-- SAMPLE_DEADLINE (R177). -/
def execSampleDeadline (dt : Nat) (i : Fin 2048) (s : State) : Result :=
  .next (sampleDeadline i.val (s.elapse dt))

/-! ### Receiving a frame (R162 to R165, R170 to R172) -/

/-- A sample is inserted behind those that wait. -/
def insWait (l : List Wait) (w : Wait) : List Wait :=
  match l with
  | [] => [w]
  | x :: r => if w.pos < x.pos then w :: x :: r else x :: insWait r w

/-- A place has been passed as missing. -/
def wasMissed (x : Stream) (pos : Nat) : Bool := x.missed.any (fun e => decide (e.1 ≤ pos) && decide (pos ≤ e.2))

/-- The placement of a stream changes: what waits passes, and the change counts as a sync (R171). -/
def State.replace (s : State) (c : StreamCfg) (arrival : Bool) (next anchor : Nat) : State :=
  have x := s.stream c.index
  have s := x.waits.foldl (fun s w => s.passOnTime c w) (s.setStream c.index { x with waits := [] })
  s.setStream c.index { s.stream c.index with
    arrival := arrival, next := next, first := next, anchor := anchor, missed := [], resync := true }

/-- The place of an ASDU, with the stream as placement changes leave it (R170, R171): none where its
SmpCnt repeats the last one on the arrival lattice. -/
def State.place (s : State) (c : StreamCfg) (a : SvAsdu) (n k ts : Nat) : State × Option Nat :=
  have i := c.index
  have x := s.stream i
  if globalSync c a.smpSynch then
    have pos := syncPos c a.smpCnt ts
    if x.arrival then (s.replace c false pos 0, some pos) else (s, some pos)
  else
    have est := ts - muDelay c - rateInstant (n - 1 - k) c.rate
    if x.arrival = false then (s.replace c true x.next est, some x.next)
    else
      have cyc := c.cycleCount
      have d := (a.smpCnt + cyc - x.smpCnt % cyc) % cyc
      if d = 0 then (s, none)
      else
        have pos := if 2 * d ≤ cyc then x.lastPos + d else x.lastPos - (cyc - d)
        have t := streamTime c x pos
        have off := if est ≥ t then est - t else t - est
        if 2 * off * c.rate > secUnit then (s.replace c true (max pos x.next) est, some (max pos x.next)) else (s, some pos)

/-- MIN_MARGIN in PF0's copy and in every granted copy (R186). -/
def State.margin (s : State) (i ns : Nat) : State :=
  let low (s : State) (a : Nat) : State :=
    if ns < (s.rd a).toNat then s.wr a (BitVec.ofNat 32 ns) else s
  s.hst.fns.foldl (fun s e =>
    if e.1 ≠ 0 ∧ e.2.cntFirst ≤ i ∧ i < e.2.cntFirst + e.2.cntCount then
      low s (vfBase e.1 + 0x4000 + 0x40 * (i - e.2.cntFirst) + 56) else s) (low s (0x320000 + 0x40 * i + 56))

/-- A stream changes over to or from simulated frames (R164). -/
def State.simSwitch (s : State) (i : Nat) (on : Bool) : State :=
  ((s.setStream i { s.stream i with sim := on, resync := true }).raiseRec 326 i).sviNote i

/-- An accepted ASDU of the stream position `pos`, at the sample time `t`: it passes on when it is the next one and
waits otherwise (R162, R165). -/
def State.asduTake (s : State) (c : StreamCfg) (f : SvFrame) (a : SvAsdu) (pos t ts : Nat) : State :=
  have i := c.index
  have s := if f.sim && !(s.stream i).sim then s.simSwitch i true else s
  have rate := s.frameRate
  have s := s.margin i ((deadline c rate t - ts * rate) / rate / nsUnit)
  have s := s.setStream i { s.stream i with smpSynch := a.smpSynch % 256, smpCnt := a.smpCnt, lastPos := pos }
  have w : Wait := { pos := pos, time := t, data := asduData c a f.sim (decide (s.glb.mode = .test)) }
  have x := s.stream i
  have s := if !x.placed && x.arrival then s.setStream i { x with next := pos } else s
  have x := s.stream i
  if pos = x.next then (s.passOnTime c w).drainWaits c 4096
  else s.setStream i { x with waits := insWait x.waits w }

/-- Why an ASDU at a position is not taken: the counter of the stream it adds to (R162). -/
def State.asduBad (s : State) (c : StreamCfg) (pos ts : Nat) : Option Nat :=
  have x := s.stream c.index
  if x.waits.any (fun w => decide (w.pos = pos)) then some 7
  else if pos < x.next then
    if decide (x.first ≤ pos) && !wasMissed x pos && x.placed then some 7 else some 2
  else if ts * s.frameRate > deadline c s.frameRate (streamTime c x pos) then some 2
  else none

/-- One ASDU: steps 7 and 8 of R162, and its passage to the chain. The answer says whether it was
accepted. -/
def State.asdu (s : State) (c : StreamCfg) (f : SvFrame) (a : SvAsdu) (k ts : Nat) : State × Bool :=
  if a.smpCnt ≥ c.cycleCount then (s.svCount c.index 7 1, false)
  else
    match s.place c a f.asdus.length k ts with
    | (s, none) => (s.svCount c.index 7 1, false)
    | (s, some pos) =>
      match s.asduBad c pos ts with
      | some n => (s.svCount c.index n 1, false)
      | none => (s.asduTake c f a pos (streamTime c (s.stream c.index) pos) ts, true)

/-- The ASDUs of a frame in order; the number accepted. -/
def State.asdus (s : State) (c : StreamCfg) (f : SvFrame) (ts : Nat) (l : List SvAsdu) (k n : Nat) : State × Nat :=
  match l with
  | [] => (s, n)
  | a :: r =>
    let (s, ok) := s.asdu c f a k ts
    s.asdus c f ts r (k + 1) (if ok then n + 1 else n)

/-- The entry that a frame belongs to (R156). -/
def State.sviMatch (s : State) (f : SvFrame) : Option StreamCfg :=
  s.streamCfgs.find? (fun c => decide (c.destMac = f.dst) && decide (c.fieldAt 6 2 = f.appid) &&
    decide (c.svId = (f.asdus.head?.map (·.svId)).getD []))

/-- The shape check of step 6 (R162). -/
def shapeOk (c : StreamCfg) (f : SvFrame) : Bool :=
  decide (f.asdus.length = c.fieldAt 0x0D 1) &&
    f.asdus.all (fun a => decide (a.svId = c.svId) && (a.smpRate.isNone || decide (a.smpRate = some c.rate)) &&
      decide (a.data.length = 8 * c.channels))

/-- The result of a verification goes to the ridge (R148). -/
def State.tellRidge (s : State) (src : Nat) (red : Option (Nat × Nat)) (ok : Bool) : State :=
  match red with
  | none => s
  | some (g, q) => s.authResult src g q ok

/-- An AUTH_FAIL of a stream (R165). -/
def State.sviAuthFail (s : State) (i : Nat) : State :=
  ((s.svCount i 3 1).raiseRecOnce 324 i).sviNote i

/-- Steps 5 to 8 of R162, on a frame that passed verification. -/
def State.sviAccept (s : State) (c : StreamCfg) (f : SvFrame) (ts : Nat) : State :=
  have i := c.index
  if f.asdus.any (fun a => decide (a.confRev ≠ c.fieldAt 0x18 4)) then
    have s := s.svCount i 5 1
    have s := if (s.stream i).confSeen then s
      else (s.setStream i { s.stream i with confSeen := true }).raiseRec 325 i
    s.sviNote i
  else if !shapeOk c f then s.svCount i 6 1
  else if (s.stream i).state < 2 then s.svCount i 0 1
  else
    let (s, n) := s.asdus c f ts f.asdus 0 0
    if n = 0 then s else ((s.svCount i 0 1).prfIntake 0 1).prfIntake 1 n

/-- Step 4 of R162: authentication (R165). -/
def State.sviVerify (s : State) (c : StreamCfg) (f : SvFrame) (ts : Nat) : State :=
  have i := c.index
  have alg := c.fieldAt 0x20 1
  if alg = 0 then s.sviAccept c f ts
  else
    match f.tag with
    | none =>
      if c.fieldAt 0x21 1 % 2 = 1 then ((s.svCount i 4 1).tellRidge f.src f.red false)
      else (s.tellRidge f.src f.red true).sviAccept c f ts
    | some t =>
      have s := s.prfIntake 2 1
      if decide (t.alg = alg) && s.tagUsable t.keyId (c.fieldAt 0x1C 2) (c.fieldAt 0x1E 2) alg && t.valid then
        (s.tellRidge f.src f.red true).sviAccept c f ts
      else ((s.prfIntake 3 1).sviAuthFail i).tellRidge f.src f.red false

/-- SV_FRAME_RX (R162). -/
def svFrameRx (f : SvFrame) (s : State) : State :=
  if s.img.loaded = false then s
  else if f.wellFormed = false ∨ f.asdus.length = 0 ∨ f.asdus.length > 8 then s.count 0x300014
  else if f.unsupported then s.count 0x300018
  else
    match s.sviMatch f with
    | none =>
      ({ s with svi := { s.svi with lastNoMatch := f.appid } }.count 0x300010).raiseOnce 327 0
    | some c =>
      have x := s.stream c.index
      have test := decide (s.glb.mode = .test)
      if (f.sim && !(test && c.acceptSim)) || (!f.sim && x.sim) then s.svCount c.index 12 1
      else s.sviVerify c f (s.now - f.ago)

/-- SV_FRAME_RX (R162). -/
def execSvFrameRx (dt : Nat) (f : SvFrame) (s : State) : Result := .next (svFrameRx f (s.elapse dt))

/-- Leaving TEST ends every simulation (R164). -/
def State.simEnd (s : State) : State :=
  s.streamCfgs.foldl (fun s c => if (s.stream c.index).sim then s.simSwitch c.index false else s) s

/-! ### Grid samples (R199) -/

/-- The next grid sample of a slot, and what its settling means for substitutions (R181, R183, R199). -/
def gridSampleCompute (k : Nat) (s : State) : State :=
  match s.slotCfg k with
  | none => s
  | some (c, _) =>
    have was := s.healthy c.index
    have s := s.gridCompute k
    (s.substEnd c).partnerTry c was (s.stream c.index).lastTime

/-- GRID_SAMPLE_COMPUTE (R199). -/
def execGridSampleCompute (dt : Nat) (k : Fin 16384) (s : State) : Result :=
  .next (gridSampleCompute k.val (s.elapse dt))

/-! ### Loading, completeness and commands (R179, R185, R187) -/

/-- Every used stream is placed afresh while time is valid, or rests in NO_TIME (R174, R179). -/
def State.streamsPlace (s : State) : State :=
  s.streamCfgs.foldl (fun s c =>
    if s.time.stepped then s.streamWait c else s.setStreamState c.index 1) s

/-- The streams of a newly loaded image (R179). -/
def State.sviLoad (s : State) : State :=
  ({ s with svi := { s.svi with streams := [] } }).streamsPlace

/-- The completeness vector of the frame with tick number `n` (R185). DEDUCED, log entry 60. -/
def State.completeness (s : State) (n : Nat) : Nat :=
  s.streamCfgs.foldl (fun v c =>
    have i := c.index
    have x := s.stream i
    have late := s.svi.incomplete.any (fun e => decide (e.1 = n) && decide (e.2 = i)) ||
      (decide (x.state ≥ 2) && decide (deadline c s.frameRate (streamTime c x x.next) ≤ n * secUnit))
    if late then v else v ||| 2 ^ i) 0

/-- Intake gives the completeness vector at the commit of a frame (R185). DEDUCED, log entry 60. -/
def State.giveComplete (s : State) (n : Nat) : State :=
  have v := s.completeness n
  { s with
      svi := { s.svi with
      complete := v, completeFrame := n % 2 ^ 32,
      incomplete := s.svi.incomplete.filter (fun e => decide (e.1 > n)) } }

/-- Address of SVI_CMD. -/
def sviCmdReg : Nat := 0x300000

/-- STANDBY, ACTIVE or TEST. -/
def State.inFrames (s : State) : Bool :=
  decide (s.glb.mode = .standby) || decide (s.glb.mode = .active) || decide (s.glb.mode = .test)

/-- A substitution command is accepted with its target tick. -/
def State.sviPlan (s : State) (code rsv arg : Nat) (ok : Bool) : State :=
  have t := s.targetTick 0x300020 0x300024
  s.runCmd sviCmdReg code rsv arg
    (verdict (decide (arg < 2048) && (s.streamCfg arg).isSome && t.isSome) ok) fun s =>
    { s with
        svi := { s.svi with
        pend := some { force := decide (code = 1), stream := arg, target := t.getD 0 } } }

/-- SUBST_FORCE (R187). -/
def substForce (rsv arg : Nat) (s : State) : State :=
  have ok := match s.streamCfg arg with
    | none => false
    | some c => s.inFrames && c.substOn && (match c.partner with
      | none => false
      | some p => s.healthy p)
  s.sviPlan 1 rsv arg ok

/-- SUBST_FORCE (R187). -/
def execSubstForce (dt : Nat) (rsv : BitVec 8) (arg : BitVec 16) (s : State) : Result :=
  .next (substForce rsv.toNat arg.toNat (s.elapse dt))

/-- SUBST_RELEASE (R187). -/
def substRelease (rsv arg : Nat) (s : State) : State :=
  s.sviPlan 2 rsv arg (s.inFrames && (s.stream arg).forced)

/-- SUBST_RELEASE (R187). -/
def execSubstRelease (dt : Nat) (rsv : BitVec 8) (arg : BitVec 16) (s : State) : Result :=
  .next (substRelease rsv.toNat arg.toNat (s.elapse dt))

/-- SVI_CMD (R187). -/
def sviCommand (code rsv arg : Nat) (s : State) : State :=
  match code with
  | 1 => substForce rsv arg s
  | 2 => substRelease rsv arg s
  | _ => s.badCode sviCmdReg code rsv arg

/-- At the target tick forced substitution starts, whatever the stream's state (R184, R187). -/
def substForceApply (s : State) : State :=
  match s.svi.pend with
  | none => s
  | some p =>
    if p.force then
      have s := { s with svi := { s.svi with pend := none } }
      have s := s.setStream p.stream { s.stream p.stream with forced := true }
      have s := match s.streamCfg p.stream with
        | none => s
        | some c =>
          if (s.stream p.stream).substituting then s else s.substStart c (tickTime p.target s.frameRate)
      s.cmdDone sviCmdReg
    else s

/-- SUBST_FORCE_APPLY (R184). -/
def execSubstForceApply (dt : Nat) (s : State) : Result := .next (substForceApply (s.elapse dt))

/-- At the target tick FORCED clears, and R183 decides the return (R187). -/
def substReleaseApply (s : State) : State :=
  match s.svi.pend with
  | none => s
  | some p =>
    if p.force then s
    else
      have s := { s with svi := { s.svi with pend := none } }
      have s := s.setStream p.stream { s.stream p.stream with forced := false }
      have s := match s.streamCfg p.stream with
        | none => s
        | some c => s.substEnd c
      s.cmdDone sviCmdReg

/-- SUBST_RELEASE_APPLY (R187). -/
def execSubstReleaseApply (dt : Nat) (s : State) : Result := .next (substReleaseApply (s.elapse dt))

end Sys2Proof.Machine
end

