-- ==== Sys2Proof/Machine/Pair.lean ====
section
/-!
DEFINITION. The pair unit's views and messages (R306 to R319): the pair policy, the partner's state, FOG,
paths, digests and the conditions of a change of control.
-/

namespace Sys2Proof.Machine

open Sys2Proof

/-! ### PAIR_POLICY (R332) -/

/-- The PAIR_POLICY body. -/
def State.pp (s : State) : List Byte := s.cfg 0xF 0

/-- A bit of FLAGS of the pair policy. -/
def State.ppFlag (s : State) (i : Nat) : Bool := decide (byteAt s.pp 5 / 2 ^ i % 2 = 1)

/-- SINGLE: the module never has a partner (R306). -/
def State.single (s : State) : Bool := s.ppFlag 5

/-- The partner's identifier. -/
def State.partnerId (s : State) : Nat :=
  if s.pp.isEmpty || s.single then 0
  else if leAt s.pp 0 2 = s.glb.moduleId then leAt s.pp 2 2 else leAt s.pp 0 2

/-- This module is the preferred member. -/
def State.isPreferred (s : State) : Bool :=
  !s.pp.isEmpty && decide (leAt s.pp (2 * (byteAt s.pp 4 % 2)) 2 = s.glb.moduleId)

/-! ### The partner (R307, R308) -/

/-- Protection frames run and the module is in one of the modes that compute. -/
def State.framesRun (s : State) : Bool := s.kpr.frames

/-- The module is eligible to take control (R307). A self-diagnosed fault acts at once in this model, so none
is ever pending. -/
def State.eligible (s : State) : Bool :=
  (decide (s.glb.mode = .standby) || (decide (s.glb.mode = .test) && s.ppFlag 2)) && s.time.stepped &&
    !s.glb.leaving

/-- The beacon is LOCKED or CONVERGING. -/
def State.timeOk (s : State) : Bool := decide (s.bcn.state = .locked) || decide (s.bcn.state = .converging)

/-- PAIR_STATE.PARTNER (R308): 0 ABSENT, 1 LINKED, 2 LANTERN_ONLY, 3 LOST. DEDUCED, log entry 81. -/
def State.partner (s : State) : Nat :=
  if s.single then 0
  else if s.pair.alive then 1
  else if s.pair.lanPresent then 2
  else if s.pair.absent then 0
  else 3

/-- PAIR_STATE.PARTNER_MODE (R334). -/
def State.partnerMode (s : State) : Nat := if s.partner = 2 then s.pair.lanMode else s.pair.fog.mode

/-- A flag of the partner's FOG. While PARTNER is not LINKED it counts as 0 (R307). -/
def State.fogFlag (s : State) (i : Nat) : Bool :=
  decide (s.partner = 1) && decide (s.pair.fog.flags / 2 ^ i % 2 = 1)

/-- PARTNER_ELIGIBLE. -/
def State.partnerEligible (s : State) : Bool := s.fogFlag 0

/-- The partner is ACTIVE, as PAIR_STATE reports it (R308). -/
def State.partnerActive (s : State) : Bool :=
  decide (s.partnerMode = 4) && (decide (s.partner = 1) || decide (s.partner = 2))

/-- CND_STATUS.ALIGNED (R215): 1 whenever PAIR_STATE reports no partner. DEDUCED, log entry 81; DEDUCED, log
entry 87. -/
def State.alignedNow (s : State) : Bool := s.cnd.aligned || decide (s.partner = 0)

/-- Frame lock (R315): the last 8 slots on one path at least. -/
def State.frameLock (s : State) : Bool :=
  s.kpr.frames && decide (s.partner = 1) && (decide (s.pair.pathA.lock ≥ 8) || decide (s.pair.pathB.lock ≥ 8))

/-- Consecutive slots missing on both paths (R314). -/
def State.missedBoth (s : State) : Nat := min s.pair.pathA.miss s.pair.pathB.miss

/-- What follows a change in the pair unit: PARTNER_CHANGE (R335) and ALIGN_DONE (R219). -/
def State.pairNote (s old : State) : State :=
  have s := if s.partner = old.partner ∧ s.partnerMode = old.partnerMode then s else s.raiseRec 576 0x3FF
  if s.alignedNow && !old.alignedNow then s.raiseRec 391 0x3FF else s

/-! ### Bregrari messages (R310, R311) -/

/-- The header and payload of a message, then its CRC-32. -/
def bregMsg (typ path src seq frame : Nat) (payload : List Byte) : List Byte :=
  have m := leBytes typ 1 ++ leBytes path 1 ++ leBytes payload.length 2 ++ leBytes src 2 ++ [0#8, 0#8] ++
    leBytes seq 4 ++ leBytes frame 4 ++ payload
  m ++ leBytes (crc32 m).toNat 4

/-- A message of priority 1 to 3 leaves on both paths. -/
def State.bregSend (s : State) (typ frame : Nat) (payload : List Byte) : State :=
  have p := s.pair
  have a := (p.pathA.seq + 1) % 2 ^ 32
  have b := (p.pathB.seq + 1) % 2 ^ 32
  have s := { s with
      pair := { p with pathA := { p.pathA with seq := a }, pathB := { p.pathB with seq := b } } }
  (s.emit (.breg 0 (bregMsg typ 0 s.glb.moduleId a frame payload))).emit
    (.breg 1 (bregMsg typ 1 s.glb.moduleId b frame payload))

/-- The pair unit receives (R312): from COMMISSION on. -/
def State.pairOn (s : State) : Bool := s.afterBoot

/-- The CRC, the length and the sender of a message are right (R310). -/
def State.bregOk (s : State) (m : List Byte) : Bool :=
  decide (m.length ≥ 20) && decide (leAt m 2 2 + 20 = m.length) &&
    decide (crc32 (m.take (m.length - 4)) = BitVec.ofNat 32 (leAt m (m.length - 4) 4)) &&
    !s.pp.isEmpty && !s.single && decide (leAt m 4 2 = s.partnerId)

/-- A received message of a type goes to `f` with its FRAME and payload. One that fails R310 is counted. -/
def State.bregRx (s : State) (typ : Nat) (m : List Byte) (f : Nat → List Byte → State → State) : State :=
  if s.pairOn = false then s
  else if s.bregOk m = false then s.count 0x80005C
  else if byteAt m 0 ≠ typ then s
  else f (leAt m 0x0C 4) (slice m 16 (leAt m 2 2)) s

/-! ### FOG (R312 to R315) -/

/-- A path by its index. -/
def State.path (s : State) (p : Nat) : PathSt := if p = 0 then s.pair.pathA else s.pair.pathB

/-- A path with a new value. -/
def State.setPath (s : State) (p : Nat) (x : PathSt) : State :=
  { s with pair := if p = 0 then { s.pair with pathA := x } else { s.pair with pathB := x } }

/-- PAIR_CMD. -/
def pairCmdReg : Nat := 0x800000

/-- An alignment is requested, planned or running. -/
def State.aligning (s : State) : Bool := s.pair.alWait || decide (s.pair.al = 1) || decide (s.pair.al = 2)

/-- ALIGN_FAIL (R330, R335): the alignment ends, and an ALIGN command that waits for it ends REFUSED_STATE. -/
def State.alignFail (s : State) : State :=
  if s.aligning then
    have s := ({ s with pair := { s.pair with al := 4, alWait := false, items := [] } }).raiseRec 588 0x3FF
    have c := s.cmd pairCmdReg
    if c.pending ∧ c.runCode = 1 then s.cmdEndRefused pairCmdReg else s
  else s

/-- A path comes up or goes down (R309). The loss of both paths ends an alignment (R330). -/
def State.setUp (s : State) (p : Nat) (up : Bool) : State :=
  if (s.path p).up = up then s
  else
    have s := (s.setPath p { s.path p with up := up }).raiseRec (if up then 582 else 581) p
    if s.pair.pathA.up || s.pair.pathB.up then s else s.alignFail

/-- FLAGS of the module's own FOG (R313). -/
def State.fogFlags (s : State) : Nat :=
  b2n s.eligible + 2 * b2n s.alignedNow + 4 * b2n s.timeOk + 8 * b2n s.glb.leaving + 16 * b2n s.isPreferred +
    32 * b2n s.pair.inhibit + 64 * b2n (decide (s.pub.demand ≠ 0))

/-- The slot instant nearest to the present one: its number counted in slots of P/8 and the distance to it
times the slot rate. DEDUCED, log entry 82. -/
def State.nearSlot (s : State) : Nat × Nat :=
  have r := 8 * s.frameRate
  have n := (2 * s.now * r + secUnit) / (2 * secUnit)
  (n, if n * secUnit ≥ s.now * r then n * secUnit - s.now * r else s.now * r - n * secUnit)

/-- SLOT and FRAME that a FOG carries now (R312). -/
def State.fogSlot (s : State) : Nat × Nat :=
  if s.kpr.frames then (s.nearSlot.1 % 8, s.nearSlot.1 / 8 % 2 ^ 32) else (0xFF, 0)

/-- FOG_TX (R312, R313). -/
def fogTx (s : State) : State :=
  if s.pairOn then
    let (slot, frame) := s.fogSlot
    have s := if s.pair.fogStart.isSome then s else
      { s with pair := { s.pair with fogStart := some s.time.mono } }
    s.bregSend 1 frame (leBytes slot 1 ++ leBytes (modeNum s.glb.mode) 1 ++ leBytes s.fogFlags 2 ++
      leBytes s.pair.count 4 ++ leBytes s.pair.lastCommit 4 ++ leBytes (s.cnd.lastS0 / secUnit) 4)
  else s

/-- FOG_TX (R312). -/
def execFogTx (dt : Nat) (s : State) : Result := .next (fogTx (s.elapse dt))

/-- The content of a received FOG. -/
def fogOf (frame : Nat) (b : List Byte) : Fog :=
  { frame := frame, slot := byteAt b 0, mode := byteAt b 1 % 8, flags := leAt b 2 2, count := leAt b 4 4,
    lastCommit := leAt b 8 4, syncSec := leAt b 12 4 }

/-- A module that does not hold control adopts a higher takeover count (R323). -/
def State.adoptCount (s : State) (n : Nat) : State :=
  { s with
      pair := { s.pair with
      rxCount := n, count := if s.glb.mode = .active then s.pair.count else max s.pair.count n } }

/-- A FOG carries the module's own frame and slot and arrives within a number of ns of the own slot instant
(R314, R315). Without frames the 25 µs intervals take the place of slots. DEDUCED, log entry 82. -/
def State.fogNear (s : State) (f : Fog) (ns : Nat) : Bool :=
  if s.kpr.frames then
    decide (f.slot = s.nearSlot.1 % 8) && decide (f.frame = s.nearSlot.1 / 8 % 2 ^ 32) &&
      decide (s.nearSlot.2 ≤ ns * nsUnit * (8 * s.frameRate))
  else true

/-- A valid FOG on a path counts for path state, lock and loss when it is not missing (R309, R314, R315). -/
def State.pathFog (s : State) (p : Nat) (f : Fog) : State :=
  have x := s.path p
  have lock := if s.kpr.frames && s.fogNear f 1500 then min 8 (x.lock + 1) else 0
  if s.fogNear f 2000 then
    have good := min 8 (x.good + 1)
    have s := s.setPath p { x with good := good, miss := 0, lock := lock }
    if decide (good = 8) && (x.lane1 || x.lane2) then s.setUp p true else s
  else s.setPath p { x with lock := 0 }

/-- Two modules whose last sync fell on the same second without LOCAL, under the same image generation, are
aligned without a transfer (R329). DEDUCED, log entry 87. -/
def State.alignBySync (s : State) : State :=
  if !s.cnd.aligned && decide (s.cnd.lastS0 ≠ 0) && !s.cnd.lastLocal &&
      decide (s.pair.fog.syncSec = s.cnd.lastS0 / secUnit % 2 ^ 32) &&
      (s.pair.peerGen.isNone || decide (s.pair.peerGen = some s.runGen)) then
    { s with cnd := { s.cnd with aligned := true } }
  else s

/-- A partner signal is heard (R308). -/
def State.heard (s : State) : State := { s with pair := { s.pair with heard := s.time.mono, absent := false } }

/-- FOG_RX (R313 to R315, R323). DEDUCED, log entry 82. -/
def State.fogRx (s : State) (p frame : Nat) (b : List Byte) : State :=
  have f := fogOf frame b
  have s := s.heard
  have s := ({ s with pair := { s.pair with alive := true, fog := f } }).adoptCount f.count
  (s.pathFog p f).alignBySync

/-! ### Takeover causes (R321) -/

/-- A takeover cause occurs: 1 a YIELD, 2 the fog signals, 3 the lantern. An eligible module has its
takeover point within 5 µs; any other raises PARTNER_LOST. A module that is ACTIVE already has nothing to
take. DEDUCED, log entry 83. -/
def State.takeCause (s : State) (kind : Nat) : State :=
  if s.glb.mode = .active ∨ s.pair.take = true then s
  else if s.eligible then { s with pair := { s.pair with take := true } }
  else (s.setEvent 579).eventRec 579 0x3FF kind

/-- FOG_SLOT_MISS (R309, R314): no FOG arrived on a path for a slot. -/
def fogSlotMiss (p : Nat) (s : State) : State :=
  if s.pairOn then
    have old := s
    have s := s.count (0x800048 + 4 * p)
    have x := s.path p
    have s := s.setPath p { x with good := 0, lock := 0, miss := min 15 (x.miss + 1) }
    have s := if x.miss + 1 ≥ 5 then s.setUp p false else s
    if s.pair.alive && decide (s.missedBoth ≥ 5) then
      have was := decide (s.pair.fog.mode = 4)
      have s := ({ s with pair := { s.pair with alive := false } }).raiseRec 580 0x3FF
      have s := s.pairNote old
      if was then s.takeCause 2 else s
    else s
  else s

/-- FOG_SLOT_MISS (R314). -/
def execFogSlotMiss (dt : Nat) (p : Fin 2) (s : State) : Result := .next (fogSlotMiss p.val (s.elapse dt))

/-- BREG_LANE_CHANGE (R309): a lane of a path gains or loses training. -/
def bregLaneChange (p lane : Nat) (trained : Bool) (s : State) : State :=
  have x := s.path p
  have x := if lane = 0 then { x with lane1 := trained } else { x with lane2 := trained }
  if x.lane1 || x.lane2 then s.setPath p x
  else (s.setPath p { x with good := 0 }).setUp p false

/-- BREG_LANE_CHANGE (R309). -/
def execBregLaneChange (dt : Nat) (p lane : Fin 2) (trained : Bool) (s : State) : Result :=
  .next (bregLaneChange p.val lane.val trained (s.elapse dt))

/-- PARTNER_ABSENT_TIMEOUT (R308): 100 ms without fog signals and lantern. -/
def partnerAbsentTimeout (s : State) : State :=
  match s.pair.fogStart with
  | none => s
  | some t =>
    if s.pair.alive || s.pair.lanPresent || decide (s.time.mono < max t s.pair.heard + 100 * msUnit) then s
    else ({ s with pair := { s.pair with absent := true } }).pairNote s

/-- PARTNER_ABSENT_TIMEOUT (R308). -/
def execPartnerAbsentTimeout (dt : Nat) (s : State) : Result := .next (partnerAbsentTimeout (s.elapse dt))

/-! ### Digests (R316 to R319) -/

/-- The publication indices of the running image, ascending. -/
def State.pubIds (s : State) : List Nat :=
  match s.img.run with
  | none => []
  | some im => distinct ((im.sections.filter (fun x => decide (x.typ = 9))).map (·.inst))

/-- KIND of a publication: 0 GOOSE, 1 ROUTABLE, 2 LANTERN. -/
def State.pubKind (s : State) (p : Nat) : Nat := byteAt (s.cfg 9 p) 0x0A

/-- A publication's counters. -/
def State.pubSt (s : State) (p : Nat) : PubSt := tget s.pub.pubs p {}

/-- digest(F) of R316. -/
def State.frameDigest (s : State) (frame : Nat) : List Byte :=
  have ids := s.pubIds.filter (fun p => decide (s.pubKind p ≠ 2))
  (sha256 (leBytes frame 4 ++ leBytes s.pln.committed.toNat 512 ++ leBytes s.pln.late.toNat 512 ++
    ids.flatMap (fun p => leBytes p 2 ++ leBytes (s.pubSt p).cur 4))).take 16

/-- BIN_HASH(F) of R316. -/
def State.binHash (s : State) (frame : Nat) : List Byte :=
  (sha256 (s.plnBytes (0x31C0000 + frame % 64 * 2048) 2048 ++
    s.plnBytes (0x31E0000 + frame % 64 * 4096) 4096)).take 16

/-- The number of bits set in a vector. -/
def popCount (w n : Nat) : Nat :=
  match n with
  | 0 => 0
  | n + 1 => w % 2 + popCount (w / 2) n

/-- The module's own DIGEST of the frame just committed (R317). -/
def State.ownDigest (s : State) (frame : Nat) : Digest :=
  { frame := frame
    digest := s.frameDigest frame
    binHash := s.binHash frame
    late := popCount s.pln.late.toNat 4096
    flags := b2n (decide (s.glb.mode = .test)) + 2 * b2n s.alignedNow + 4 * b2n (decide (s.glb.mode = .active))
    gen := s.runGen
    complete := leBytes s.svi.complete 256 }

/-- The payload of a DIGEST (R317). -/
def digestBytes (d : Digest) : List Byte :=
  padTo d.digest 16 ++ padTo d.binHash 16 ++ leBytes d.late 2 ++ leBytes d.flags 2 ++ leBytes d.gen 4 ++
    padTo d.complete 256

/-- The content of a received DIGEST. -/
def digestOf (frame : Nat) (b : List Byte) : Digest :=
  { frame := frame, digest := slice b 0 16, binHash := slice b 16 16, late := leAt b 0x20 2,
    flags := leAt b 0x22 2, gen := leAt b 0x24 4, complete := slice b 0x28 256 }

/-- A digest explains a mismatch by itself (R318): LATE decisions, or a module that is not ALIGNED. -/
def Digest.explains (d : Digest) : Bool := decide (d.late ≠ 0) || decide (d.flags / 2 % 2 = 0)

/-- Two digests of one frame explain a mismatch together (R318). -/
def Digest.explainsWith (a b : Digest) : Bool :=
  decide (a.complete ≠ b.complete) || decide (a.binHash ≠ b.binHash) || decide (a.flags % 2 ≠ b.flags % 2) ||
    a.explains || b.explains

/-- An explanation holds in a frame: the latest such frame is kept. DEDUCED, log entry 84. -/
def State.explain (s : State) (f : Nat) : State :=
  match s.pair.irr with
  | none => { s with pair := { s.pair with irr := some f } }
  | some g => if (f + 2 ^ 32 - g) % 2 ^ 32 < 2 ^ 31 then { s with pair := { s.pair with irr := some f } } else s

/-- A mismatch of frame `f` between two modules is explained (R318). DEDUCED, log entry 84. -/
def State.explained (s : State) (f : Nat) (a b : Digest) : Bool :=
  decide (a.gen = b.gen) &&
    (match s.pair.irr with
     | none => false
     | some g => decide ((f + 2 ^ 32 - g) % 2 ^ 32 < leAt s.pp 0x0E 2))

/-- DIVERGED becomes set (R319). -/
def State.setDiverged (s : State) : State :=
  if s.pair.diverged then s else ({ s with pair := { s.pair with diverged := true } }).raiseRec 586 0x3FF

/-- The two digests of a frame are compared (R318, R319). DEDUCED, log entry 84. -/
def State.compareDigests (s : State) (a b : Digest) : State :=
  have f := a.frame
  have s := if a.explainsWith b then s.explain f else s
  have s := { s with pair := { s.pair with cmpFrame := f, cmpOwn := a.digest, cmpPeer := b.digest } }
  if a.digest = b.digest then
    have run := min 4800 (s.pair.matchRun + 1)
    have clear := decide (run = 4800) && decide (byteAt s.pp 0x0D = 0)
    { s with
        pair := { s.pair with
        consec := 0, matchRun := run, diverged := s.pair.diverged && !clear } }
  else
    have s := ({ s with pair := { s.pair with matchRun := 0 } }).count 0x800040
    have s := s.raiseOnce 585 0
    if s.explained f a b then { s with pair := { s.pair with consec := 0 } }
    else
      have s := s.count 0x800044
      have s := s.oncePer 0x10585 0 (fun s => s.eventRec 585 0x3FF f)
      have n := s.pair.consec + 1
      have s := { s with pair := { s.pair with consec := n } }
      if n ≥ 16 then s.setDiverged else s

/-- The own digest `d` meets the partner's of the same frame, or waits for it (R317). -/
def State.digestMeet (s : State) (d : Digest) : State :=
  match s.pair.peer.find? (fun x => decide (x.frame = d.frame)) with
  | some p => ({ s with pair := { s.pair with peer := [] } }).compareDigests d p
  | none => { s with pair := { s.pair with own := [d], peer := [] } }

/-- The own digest of a committed frame: it is sent, and compared with the partner's where that has arrived
(R317, R318). A frame whose partner DIGEST has not arrived by the next commit is not compared. -/
def State.digestPair (s : State) (d : Digest) : State :=
  have s := s.bregSend 2 d.frame (digestBytes d)
  have s := if d.explains then s.explain d.frame else s
  have waited := s.pair.own.any (fun x => decide (x.frame ≠ d.frame))
  have s := if waited then { s with pair := { s.pair with matchRun := 0, own := [] } } else s
  s.digestMeet d

/-- The digest of a committed frame: the publication unit holds it, and a paired module exchanges it (R317). -/
def State.digestCommit (s : State) (frame : Nat) : State :=
  have d := s.ownDigest frame
  have s := { s with pub := { s.pub with digest := d.digest, digestFrame := some frame } }
  if s.single || s.pp.isEmpty then s else s.digestPair d

/-- DIGEST_RX at the pair unit (R318). A second copy of a DIGEST changes nothing. -/
def State.digestRx (s : State) (frame : Nat) (b : List Byte) : State :=
  have d := digestOf frame b
  have s := { s with pair := { s.pair with peerGen := some d.gen } }
  have s := if d.explains then s.explain frame else s
  match s.pair.own.find? (fun x => decide (x.frame = frame)) with
  | some o => ({ s with pair := { s.pair with own := [] } }).compareDigests o d
  | none =>
    if s.pair.peer.any (fun x => decide (x.frame = frame)) then s
    else { s with pair := { s.pair with peer := (d :: s.pair.peer).take 8 } }

/-! ### Conditions of a change of control (R327) -/

/-- The conditions of a handback at its initiator, the hold apart. DEDUCED, log entry 86. -/
def State.handbackInit (s : State) : Bool :=
  decide (s.glb.mode = .standby) && s.isPreferred && s.eligible && s.alignedNow && s.frameLock &&
    decide (s.bcn.state = .locked) && decide (s.pair.matchRun ≥ 4800) && s.ppFlag 0 && !s.pair.inhibit &&
    !s.fogFlag 5 && !s.pair.diverged && decide (s.partner = 1) && decide (s.pair.fog.mode = 4) && !s.fogFlag 6

/-- The conditions of a handback at its responder. -/
def State.handbackResp (s : State) : Bool :=
  decide (s.glb.mode = .active) && decide (s.pub.demand = 0) && s.ppFlag 0 && !s.pair.inhibit && !s.fogFlag 5 &&
    !s.pair.diverged && s.fogFlag 0 && s.fogFlag 1 && s.fogFlag 4

/-- The conditions of a handover at its initiator. On leave service DEMAND does not matter. -/
def State.handoverInit (s : State) : Bool :=
  decide (s.glb.mode = .active) && s.fogFlag 0 && decide (s.pair.fog.mode = 3) && !s.pair.diverged &&
    (s.pair.exLeave || decide (s.pub.demand = 0))

/-- The conditions of a handover at its responder. -/
def State.handoverResp (s : State) : Bool :=
  decide (s.glb.mode = .standby) && s.eligible && decide (s.partner = 1) && !s.pair.diverged &&
    decide (s.pair.fog.mode = 4) && (!s.fogFlag 6 || s.fogFlag 3)

/-- The conditions of a pair start at its initiator. -/
def State.startInit (s : State) : Bool :=
  s.isPreferred && decide (s.glb.mode = .standby) && s.eligible && s.fogFlag 0 && decide (s.pair.fog.mode = 3)

/-- The conditions of a pair start at its responder. -/
def State.startResp (s : State) : Bool :=
  decide (s.glb.mode = .standby) && s.eligible && s.fogFlag 0 && s.fogFlag 4 && decide (s.pair.fog.mode = 3)

/-- The module's own conditions of an exchange of a KIND (R327): 0 handback, 1 handover, 2 pair start. -/
def State.exCond (s : State) (kind : Nat) (ini : Bool) : Bool :=
  match kind with
  | 0 => if ini then s.handbackInit else s.handbackResp
  | 1 => if ini then s.handoverInit else s.handoverResp
  | 2 => if ini then s.startInit else s.startResp
  | _ => false

/-- The partner is STANDBY and healthy (R41, R46): the conditions of a handover on the partner's side. -/
def State.handoverReady (s : State) : Bool :=
  s.kpr.frames && s.fogFlag 0 && decide (s.pair.fog.mode = 3) && !s.pair.diverged

/-- The first instant at which the handback conditions hold starts the hold; when they stop it ends (R327).
DEDUCED, log entry 86. -/
def State.holdTrack (s : State) : State :=
  if s.pair.ex = 0 && s.kpr.frames && s.handbackInit then
    if s.pair.hold.isSome then s else { s with pair := { s.pair with hold := some s.time.mono } }
  else { s with pair := { s.pair with hold := none } }

/-- The conditions of a solo start, SOLO_WAIT apart (R328): PARTNER ABSENT, or a partner present that is neither
ACTIVE nor eligible while this module is not preferred or cannot complete a pair start. -/
def State.soloCond (s : State) : Bool :=
  s.ppFlag 1 && decide (s.glb.mode = .standby) && s.eligible && decide (s.pair.ex = 0) &&
    (decide (s.partner = 0) ||
      ((decide (s.partner = 1) || decide (s.partner = 2)) && decide (s.partnerMode ≠ 4) && !s.partnerEligible &&
        (!s.isPreferred || !s.startInit)))

/-- The wait of a solo condition starts, or ends with a break (R328). -/
def State.soloTrack (s : State) : State :=
  have a := decide (s.partner = 0)
  if s.soloCond then
    if s.pair.solo.isSome && decide (s.pair.soloAbsent = a) then s
    else { s with pair := { s.pair with solo := some s.time.mono, soloAbsent := a } }
  else { s with pair := { s.pair with solo := none } }

/-- Hold and solo wait follow their conditions. -/
def State.pairTrack (s : State) : State := s.holdTrack.soloTrack

/-- FOG_RX (R313 to R315). -/
def fogRx (p : Nat) (m : List Byte) (s : State) : State :=
  ((s.bregRx 1 m (fun frame b s => s.fogRx p frame b)).pairNote s).pairTrack

/-- FOG_RX (R313). -/
def execFogRx (dt : Nat) (p : Fin 2) (m : List Byte) (s : State) : Result := .next (fogRx p.val m (s.elapse dt))

end Sys2Proof.Machine
end

