-- ==== Sys2Proof/Machine/Pub.lean ====
section
/-!
DEFINITION. Family: publications, lantern, subscriptions and the trip matrix (R284 to R305, R331).
-/

namespace Sys2Proof.Machine

open Sys2Proof

/-! ### Encoding (IEC 61850-8-1, log entry 22) -/

/-- A BER length. PRESUMED, log entry 22. -/
def berLen (n : Nat) : List Byte :=
  if n < 128 then leBytes n 1 else if n < 256 then 0x81#8 :: leBytes n 1 else 0x82#8 :: beBytes n 2

/-- A BER element. PRESUMED, log entry 22. -/
def tlv (tag : Byte) (b : List Byte) : List Byte := tag :: (berLen b.length ++ b)

/-- The content octets of an unsigned integer. PRESUMED, log entry 22. -/
def berNat (n : Nat) : List Byte :=
  beBytes n (if n < 2 ^ 7 then 1 else if n < 2 ^ 15 then 2 else if n < 2 ^ 23 then 3 else if n < 2 ^ 31 then 4 else 5)

/-- An MMS boolean. -/
def mmsBool (b : Bool) : List Byte := tlv 0x83 [if b then 0xFF#8 else 0#8]

/-- Bits packed into bytes, the first into the most significant bit. -/
def packBits (l : List Bool) : List Byte :=
  (List.range ((l.length + 7) / 8)).map (fun i =>
    BitVec.ofNat 8 ((List.range 8).foldl (fun n j => 2 * n + b2n (l.getD (8 * i + j) false)) 0))

/-- An MMS bit-string, its bits in order of sending. -/
def mmsBits (l : List Bool) : List Byte :=
  tlv 0x84 (BitVec.ofNat 8 ((8 - l.length % 8) % 8) :: packBits l)

/-- An MMS utc-time of a station instant (R286): UTC, leapSecondsKnown, clockFailure, clockNotSynchronized and
timeAccuracy 20. -/
def State.utcTime (s : State) (t : Nat) : List Byte :=
  have sec : Int := (t / secUnit : Nat) - s.bcn.utc
  beBytes (toTwos 32 sec) 4 ++ beBytes (t % secUnit * 2 ^ 24 / secUnit) 3 ++
    leBytes (128 * b2n s.bcn.utcValid + 64 * b2n (!s.time.stepped) + 32 * b2n (!s.timeOk) + 20) 1

/-- ASCII text without its padding. -/
def text (b : List Byte) : List Byte := b.takeWhile (fun x => decide (x ≠ 0#8))

/-- The content of one goosePdu. -/
structure Pdu where
  ref : List Byte
  ttl : Nat
  dat : List Byte
  id : List Byte
  t : List Byte
  stNum : Nat
  sqNum : Nat
  test : Bool
  confRev : Nat
  entries : Nat
  all : List Byte

/-- The octets of a goosePdu. ndsCom is FALSE (R286). -/
def pduBytes (p : Pdu) : List Byte :=
  tlv 0x61 (tlv 0x80 p.ref ++ tlv 0x81 (berNat p.ttl) ++ tlv 0x82 p.dat ++ tlv 0x83 p.id ++ tlv 0x84 p.t ++
    tlv 0x85 (berNat p.stNum) ++ tlv 0x86 (berNat p.sqNum) ++ tlv 0x87 [if p.test then 0xFF#8 else 0#8] ++
    tlv 0x88 (berNat p.confRev) ++ tlv 0x89 [0#8] ++ tlv 0x8A (berNat p.entries) ++ tlv 0xAB p.all)

/-! ### The PUBLICATION section (R285) -/

/-- The body of a publication. -/
def State.pubBody (s : State) (p : Nat) : List Byte := s.cfg 9 p

/-- MEMBER_COUNT. -/
def memberCount (b : List Byte) : Nat := leAt b 0x0E 2

/-- Offset of a member entry. -/
def memberOff (m : Nat) : Nat := 0x100 + 8 * m

/-- The publications apart from the lantern, ascending. -/
def State.pubList (s : State) : List Nat := s.pubIds.filter (fun p => decide (s.pubKind p ≠ 2))

/-- The publication of KIND LANTERN. -/
def State.lanternId (s : State) : Option Nat := s.pubIds.find? (fun p => decide (s.pubKind p = 2))

/-- A publication's counters with a new value. -/
def State.setPub (s : State) (p : Nat) (x : PubSt) : State :=
  { s with pub := { s.pub with pubs := tset s.pub.pubs p x {} } }

/-- The committed value of a decision. -/
def State.decision (s : State) (d : Nat) : Bool := s.pln.committed.getLsbD d

/-- The decisions that a QUALITY member covers. -/
def coveredBy (b : List Byte) (m : Nat) : List Nat :=
  [leAt b (memberOff m + 2) 2, leAt b (memberOff m + 4) 2].filter (fun d => decide (d < 4096))

/-- The 13 quality bits of a QUALITY member, bit 0 first (R286). -/
def State.qualBits (s : State) (b : List Byte) (m : Nat) (test : Bool) : List Bool :=
  have ds := coveredBy b m
  have failed := ds.any (fun d => decide (s.owner d < 512) && decide ((s.fn (s.owner d)).state = 3))
  have late := ds.any (fun d => s.pln.late.getLsbD d)
  [!failed && late, failed || late, false, false, false, false, failed, !failed && late, false, false, false, test,
    false]

/-- The encoded value of a member, with `t` for TIMESTAMP (R286). DEDUCED, log entry 75. -/
def State.memberBytes (s : State) (b : List Byte) (m : Nat) (test : Bool) (t : List Byte) : List Byte :=
  have o := memberOff m
  have a := s.decision (leAt b (o + 2) 2)
  match byteAt b o with
  | 1 => mmsBool (a != decide (byteAt b (o + 1) % 2 = 1))
  | 2 => mmsBits [a, s.decision (leAt b (o + 4) 2)]
  | 3 => mmsBits (s.qualBits b m test)
  | _ => if t.isEmpty then [] else tlv 0x91 t

/-- The encoded allData. With an empty `t` its TIMESTAMP members are left out. -/
def State.allData (s : State) (b : List Byte) (test : Bool) (t : List Byte) : List Byte :=
  (List.range (memberCount b)).flatMap (fun m => s.memberBytes b m test t)

/-- A stream or a subscription shows SIM_ACTIVE (R290). -/
def State.simActive (s : State) : Bool :=
  s.svi.streams.any (fun (e : Nat × Stream) => e.2.sim) || s.pub.subs.any (fun (e : Nat × SubSt) => e.2.sim)

/-- The marks of a publication: bit 0 test, bit 1 Simulate (R290). -/
def State.pubMarks (s : State) (b : List Byte) : Nat :=
  if s.glb.mode = .test then 1 + 2 * b2n (s.simActive && decide (byteAt b 0x0B = 2)) else 0

/-- What PUB_CRC covers (R316), and what a change is judged by (R287). DEDUCED, log entry 75. -/
def State.pubContent (s : State) (p : Nat) : List Byte :=
  have b := s.pubBody p
  s.allData b (decide (s.pubMarks b % 2 = 1)) [] ++ leBytes (s.pubMarks b) 1

/-- The interval that follows message number `n` after a change (R287). -/
def pubInterval (b : List Byte) (n : Nat) : Nat :=
  have t0 := leAt b 0x1C 4 * msUnit
  have v := leAt b 0x18 4 * 2 ^ min n 40 * usUnit
  if n ≥ 40 ∨ v ≥ t0 then t0 else v

/-- stNum and sqNum wrap from 0xFFFF_FFFF to 1. -/
def pubInc (n : Nat) : Nat := if n ≥ 0xFFFFFFFF then 1 else n + 1

/-! ### Sending (R288, R289, R291) -/

/-- The octets of a message signature with the key of a slot: KEY_ID, algorithm and tag. -/
def State.signature (s : State) (slot alg : Nat) (msg : List Byte) : List Byte :=
  have k := s.key slot
  have mac := if alg = 1 then (hmacSha256 k.cur.mat msg).take 16
    else gcmTag k.cur.mat ((List.range 12).map (Config.gmacIv msg)) msg []
  beBytes k.keyId 4 ++ leBytes alg 1 ++ mac

/-- A GOOSE frame: APPID, length, reserved1 with the Simulate bit, reserved2, the PDU and the signature. -/
def State.gooseFrame (s : State) (b : List Byte) (pdu : List Byte) (sim : Bool) : Frame :=
  have alg := byteAt b 0x0C
  have head := beBytes (leAt b 6 2) 2 ++ beBytes (pdu.length + 8) 2 ++ beBytes (0x8000 * b2n sim) 2 ++ [0#8, 0#8]
  have vl := leAt b 8 2
  have own := (Config.portMac (33 + 25)).toNat
  let sig (m : List Byte) : List Byte := if alg = 0 then [] else s.signature (leAt b 0x20 2) alg m
  if byteAt b 0x0A = 1 then
    have session := leBytes 0xA1 1 ++ beBytes (pdu.length + 16) 4
    have user := session ++ [0x81#8, if sim then 1#8 else 0#8] ++ beBytes (leAt b 6 2) 2 ++ beBytes pdu.length 2 ++ pdu
    have data := user ++ sig user
    have udp := beBytes 102 2 ++ beBytes (leAt b 0x2C 2) 2 ++ beBytes (data.length + 8) 2 ++ [0#8, 0#8] ++ data
    have ip := [0x45#8] ++ leBytes (4 * byteAt b 0x2E) 1 ++ beBytes (udp.length + 20) 2 ++
      [0#8, 0#8, 0x40#8, 0#8] ++ leBytes (byteAt b 0x2F) 1 ++ [17#8, 0#8, 0#8] ++
      beBytes (leAt b 0x24 4) 4 ++ beBytes (leAt b 0x28 4) 4
    { dst := beAt b 0 6, src := own, vlans := if vl / 4096 % 2 = 1 then [vl % 4096 + vl / 8192 * 8192] else [],
      etherType := 0x0800, payload := ip ++ udp, red := none }
  else
    { dst := beAt b 0 6, src := own, vlans := if vl / 4096 % 2 = 1 then [vl % 4096 + vl / 8192 * 8192] else [],
      etherType := 0x88B8, payload := head ++ pdu ++ sig (head ++ pdu), red := none }

/-- The key slot of a message can sign (R289). -/
def State.canSign (s : State) (b : List Byte) : Bool :=
  decide (byteAt b 0x0C = 0) || s.keyUsable (leAt b 0x20 2) 6

/-- A message that the key slot refuses: counted, raised, and recorded once per second (R289). -/
def State.keyErr (s : State) (p : Nat) : State :=
  ((s.count 0x700024).setEvent 513).oncePer 513 p (·.eventRec 513 p p)

/-- A message goes to the ports of PORTS (R145, R285). DESIGN CHOICE, log entry 17. -/
def State.pubOut (s : State) (b : List Byte) (f : Frame) : State :=
  have ip := decide (byteAt b 0x0A = 1)
  let (s, outs) := s.dropHeld ((List.range 24).filter (inMask (leAt b 0x10 4)))
  s.sendOwn { mkQ (33 + 25) 0 (frameClass f []) f s.time.mono with ipSum := ip, l4Sum := ip } outs

/-- A message of a publication leaves, or the key slot refuses it. Its counters stand already. -/
def State.pubSend (s : State) (p : Nat) : State :=
  have b := s.pubBody p
  have x := s.pubSt p
  have s := { s with pub := { s.pub with touched := insNat s.pub.touched p } }
  if s.canSign b = false then s.keyErr p
  else
    have t := s.utcTime x.chg
    have ttl := (2 * pubInterval b x.rep + msUnit - 1) / msUnit
    have pdu := pduBytes
      { ref := text (slice b 0x40 64), ttl := max 1 ttl, dat := text (slice b 0x80 64), id := text (slice b 0xC0 64),
        t := t, stNum := x.stNum, sqNum := x.sqNum, test := decide (x.flags % 2 = 1), confRev := leAt b 0x14 4,
        entries := memberCount b, all := s.allData b (decide (x.flags % 2 = 1)) t }
    have s := if byteAt b 0x0A = 1 then s.setPub p { x with spdu := (x.spdu + 1) % 2 ^ 32 } else s
    s.pubOut b (s.gooseFrame b pdu (decide (x.flags / 2 % 2 = 1)))

/-- A publication differs from its last message (R287, R292). -/
def State.pubChanged (s : State) (p : Nat) : Bool :=
  have x := s.pubSt p
  match x.last with
  | some l => decide (l ≠ s.pubContent p)
  | none => decide (x.crc ≠ some x.cur)

/-- A change: stNum one higher, sqNum 0, and the interval sequence starts (R287, R293). DEDUCED, log entry
75. -/
def State.pubChange (s : State) (p : Nat) : State :=
  have b := s.pubBody p
  have x := s.pubSt p
  (s.setPub p { x with
      stNum := if x.restart then 1 else pubInc x.stNum, sqNum := 0, last := some (s.pubContent p), crc := some x.cur,
      flags := s.pubMarks b, chg := s.now, due := some (s.time.mono + pubInterval b 0), rep := 0,
      restart := false }).pubSend p

/-- A repeat. In the first commit in ACTIVE its next interval counts from that commit (R287, R292). DEDUCED,
log entry 76. -/
def State.pubRepeat (s : State) (p : Nat) (first : Bool) : State :=
  have b := s.pubBody p
  have x := s.pubSt p
  have n := min 40 (x.rep + 1)
  have start := if first then s.time.mono else x.due.getD s.time.mono
  (s.setPub p { x with sqNum := pubInc x.sqNum, due := some (start + pubInterval b n), rep := n }).pubSend p

/-- Publications go out in this mode (R17). -/
def State.pubSends (s : State) : Bool := decide (s.glb.mode = .active) || decide (s.glb.mode = .test)

/-- A publication's repeat is due. DEDUCED, log entry 76. -/
def State.pubDue (s : State) (p : Nat) : Bool :=
  match (s.pubSt p).due with
  | none => false
  | some t => decide (t ≤ s.time.mono)

/-- The burst of a commit or takeover point: changed publications, then due repeats, each in ascending index
(R287, R288, R302). -/
def State.pubBurst (s : State) (first : Bool) : State :=
  have ids := s.pubList
  have s := ids.foldl (fun s p => s.setPub p { s.pubSt p with cur := (crc32 (s.pubContent p)).toNat }) s
  if s.pubSends then
    have ch := ids.filter (fun p => s.pubChanged p)
    have rp := ids.filter (fun p => !s.pubChanged p && s.pubDue p)
    have test := decide (s.glb.mode = .test)
    have s := ch.foldl (fun s p => s.pubChange p) s
    have s := rp.foldl (fun s p => s.pubRepeat p first) s
    { s with
        pub := { s.pub with
        publishing := !(ch.isEmpty && rp.isEmpty), testMark := test,
        simMark := ids.any (fun p => decide ((s.pubSt p).flags / 2 % 2 = 1)) && test } }
  else { s with pub := { s.pub with publishing := false, testMark := false, simMark := false } }

/-- PUB_REPEAT_DUE (R288): a repeat falls due outside a burst. -/
def pubRepeatDue (p : Nat) (s : State) : State :=
  if s.pubSends && s.pubList.contains p && s.pubDue p then s.pubRepeat p false else s

/-- PUB_REPEAT_DUE (R288). -/
def execPubRepeatDue (dt : Nat) (p : Fin 1024) (s : State) : Result := .next (pubRepeatDue p.val (s.elapse dt))

/-! ### The mirror (R292, R331) -/

/-- One mirrored entry of a publication (R331). -/
def State.mirrorEntry (s : State) (p : Nat) : List Byte :=
  have x := s.pubSt p
  have next := s.now + (x.due.getD s.time.mono - s.time.mono)
  leBytes p 2 ++ leBytes x.flags 2 ++ leBytes x.stNum 4 ++ leBytes x.sqNum 4 ++ leBytes (x.crc.getD 0) 4 ++
    leBytes (ts32Of next) 4 ++ leBytes (secOf x.chg) 4 ++ leBytes (nsOf x.chg) 4

/-- The active module mirrors the publications that sent or changed since the last commit (R292). -/
def State.mirrorSend (s : State) (frame : Nat) : State :=
  have l := s.pub.touched
  have t := s
  have s := { s with pub := { s.pub with touched := [] } }
  if l.isEmpty || decide (s.glb.mode ≠ .active) || s.single then s
  else s.bregSend 3 frame (leBytes l.length 2 ++ [0#8, 0#8] ++ l.flatMap t.mirrorEntry)

/-- The entry of a received mirror at an offset. DEDUCED, log entry 77. -/
def mirrorOf (b : List Byte) (o : Nat) : Mirror :=
  { flags := leAt b (o + 2) 2 % 4, stNum := leAt b (o + 4) 4, sqNum := leAt b (o + 8) 4, crc := leAt b (o + 12) 4,
    next := leAt b (o + 16) 4, sec := leAt b (o + 20) 4, ns := leAt b (o + 24) 4 }

/-- The mirrored values take the place of a publication's own (R292). DEDUCED, log entry 77. -/
def State.mirrorAdopt (s : State) (p : Nat) (m : Mirror) : State :=
  if s.pubList.contains p then
    have b := s.pubBody p
    have ns := s.now / nsUnit
    have ahead := ofTwos 32 ((m.next + 2 ^ 32 - ns % 2 ^ 32) % 2 ^ 32)
    have full := s.now / secUnit
    have chg := extendSec (full % 2 ^ 32) full m.sec * secUnit + m.ns * nsUnit
    have span : Int := (s.now : Int) + ahead * nsUnit - chg
    have rep := if span ≥ (3 * leAt b 0x1C 4 * msUnit : Nat) then 40 else min 40 m.sqNum
    s.setPub p { s.pubSt p with
        stNum := m.stNum, sqNum := m.sqNum, last := none, crc := some m.crc, flags := m.flags, chg := chg,
        due := some ((s.time.mono : Int) + ahead * nsUnit).toNat, rep := rep, restart := false }
  else s

/-- Every mirrored value takes its place. DEDUCED, log entry 77. -/
def State.mirrorAll (s : State) : State := s.pub.mirrors.foldl (fun s e => s.mirrorAdopt e.1 e.2) s

/-- PUB_MIRROR_RX (R292): the standby holds the mirrored values in place of its own. A module in TEST keeps its
own counters until it leaves TEST. -/
def State.mirrorRx (s : State) (b : List Byte) : State :=
  (List.range (min (leAt b 0 2) ((b.length - 4) / 28))).foldl (fun s i =>
    have o := 4 + 28 * i
    have p := leAt b o 2
    have m := mirrorOf b o
    have s := { s with pub := { s.pub with mirrors := tset s.pub.mirrors p m {} } }
    if s.pubSends then s else s.mirrorAdopt p m) s

/-- PUB_MIRROR_RX (R292). -/
def pubMirrorRx (m : List Byte) (s : State) : State := s.bregRx 3 m (fun _ b s => s.mirrorRx b)

/-- PUB_MIRROR_RX (R292). -/
def execPubMirrorRx (dt : Nat) (m : List Byte) (s : State) : Result := .next (pubMirrorRx m (s.elapse dt))

/-- The first commit in ACTIVE begins from the mirror; a module that starts alone begins every publication at
stNum 1 (R292). -/
def State.pubFirst (s : State) : State :=
  have s := if s.glb.lastCause = 0x0C then
      s.pubList.foldl (fun s p => s.setPub p { cur := (s.pubSt p).cur }) s
    else s.mirrorAll
  { s with pub := { s.pub with mirrors := [] } }

/-! ### The trip matrix (R300, R301) -/

/-- ENABLE of an output. -/
def State.tripEnabled (s : State) (k : Nat) : Bool := decide (byteAt (s.cfg 0xA 0) (48 * k) % 2 = 1)

/-- The demand of an output at the commit (R301). -/
def State.tripOf (s : State) (k : Nat) : Bool :=
  have b := s.cfg 0xA 0
  s.tripEnabled k && (List.range (min 16 (byteAt b (48 * k + 1)))).any (fun i =>
    s.decision (leAt b (48 * k + 4 + 2 * i) 2))

/-- The demands, bit k − 1 for Kk. -/
def State.tripWord (s : State) : Nat := (List.range 8).foldl (fun n k => n + 2 ^ k * b2n (s.tripOf k)) 0

/-- The outputs follow their demands while the module is ACTIVE (R18, R301). -/
def State.tripApply (s : State) : State :=
  if s.glb.mode = .active then
    forN 8 (fun k s => if s.pub.demand / 2 ^ k % 2 = 1 then s.coilEnergise k else s.coilRelease k) s
  else s

/-- The trip matrix at a commit: demands, TRIP_DEMAND and outputs (R301). -/
def State.tripCommit (s : State) : State :=
  have old := s.pub.demand
  have d := s.tripWord
  have s := { s with pub := { s.pub with demand := d } }
  have s := forN 8 (fun k s =>
    if d / 2 ^ k % 2 = 1 ∧ old / 2 ^ k % 2 = 0 then s.raiseRec 512 k else s) s
  s.tripApply

/-- The publication unit and the trip matrix at a commit (R284, R292). -/
def State.pubCommit (s : State) (frame : Nat) : State :=
  have act := decide (s.glb.mode = .active)
  have first := act && !s.pub.active
  have s := if first then s.pubFirst else s
  have s := { s with pub := { s.pub with frame := frame, armed := act, active := act } }
  s.tripCommit.pubBurst first

/-- The takeover point acts on the latest commit as the first commit in ACTIVE (R322, steps 1 and 2).
DEDUCED, log entry 76. -/
def State.pubTakeover (s : State) : State :=
  have s := s.pubFirst
  have s := { s with pub := { s.pub with armed := true, active := true } }
  s.tripApply.pubBurst true

/-! ### The lantern (R294, R295) -/

/-- An upper-case hexadecimal digit. -/
def hexDigit (n : Nat) : Byte := if n < 10 then BitVec.ofNat 8 (48 + n) else BitVec.ofNat 8 (55 + n)

/-- "_" and the module identifier (R294). -/
def suffixOf (id : Nat) : List Byte :=
  0x5F#8 :: [id / 4096, id / 256, id / 16, id].map (fun n => hexDigit (n % 16))

/-- Member 7 of the lantern. -/
def State.lanternBits (s : State) : List Bool :=
  [s.time.stepped, s.isPreferred, s.pair.pathA.up, s.pair.pathB.up,
    decide (s.partner = 1) || decide (s.partner = 2), s.alignedNow, false, false]

/-- FRAME of a lantern sent now (R294). DEDUCED, log entry 80. -/
def State.lanternFrame (s : State) : Nat := if s.kpr.frames then s.frameNum else 0

/-- The digest member: digest(FRAME − 1), or zeros when none exists. -/
def State.lanternDigest (s : State) : List Byte :=
  if s.kpr.frames && decide (s.pub.digestFrame = some ((s.lanternFrame + 2 ^ 32 - 1) % 2 ^ 32)) then s.pub.digest
  else List.replicate 16 0

/-- The members whose change changes stNum (R295). -/
def State.lanternKey (s : State) : List Nat :=
  [s.glb.moduleId, modeNum s.glb.mode, s.pair.count, s.runGen, s.glb.faultCause] ++ s.lanternBits.map b2n

/-- The encoded dataset of the lantern (R294). -/
def State.lanternData (s : State) : List Byte :=
  let u (n : Nat) : List Byte := tlv 0x86 (berNat n)
  u s.glb.moduleId ++ u (modeNum s.glb.mode) ++ u s.pair.count ++ u s.lanternFrame ++ u s.runGen ++
    tlv 0x89 s.lanternDigest ++ mmsBits s.lanternBits ++ u s.glb.faultCause

/-- The lantern is sent with a timeAllowedToLive, in the modes that R30 gives, once an image is loaded and
until the removal sequence stops it (R46). DEDUCED, log entry 80. -/
def State.lanternSend (s : State) (ttl : Nat) : State :=
  match s.lanternId with
  | none => { s with pub := { s.pub with lantern := false } }
  | some p =>
    if s.afterBoot && s.img.loaded && !s.pub.lanternStop then
      have b := s.pubBody p
      have x := s.pubSt p
      have new := decide (s.pub.lanKey ≠ s.lanternKey)
      have x := if new then { x with stNum := pubInc x.stNum, sqNum := 0, chg := s.now }
        else { x with sqNum := pubInc x.sqNum }
      have s := (s.setPub p x)
      have s := { s with pub := { s.pub with lantern := true, lanKey := s.lanternKey } }
      if s.canSign b = false then s.keyErr p
      else
        have sfx := suffixOf s.glb.moduleId
        have pdu := pduBytes
          { ref := text (slice b 0x40 64) ++ sfx, ttl := ttl, dat := text (slice b 0x80 64),
            id := text (slice b 0xC0 64) ++ sfx, t := s.utcTime x.chg, stNum := x.stNum, sqNum := x.sqNum,
            test := false, confRev := leAt b 0x14 4, entries := 8, all := s.lanternData }
        s.pubOut b (s.gooseFrame b pdu false)
    else { s with pub := { s.pub with lantern := false } }

/-- LANTERN_TIMER (R295): with no frame ticks, every 1 ms. DEDUCED, log entry 80. -/
def lanternTimer (s : State) : State := if s.kpr.frames then s else s.lanternSend 3

/-- LANTERN_TIMER (R295). -/
def execLanternTimer (dt : Nat) (s : State) : Result := .next (lanternTimer (s.elapse dt))

/-- A GOOSE that no entry matches (R296, R298). -/
def State.noMatch (s : State) : State := (s.count 0x700028).raiseOnce 519 0

/-- A valid partner lantern reaches the pair unit (R296, R323, R324). Two modules in ACTIVE are a split brain:
this one stands down at its next commit when its count is lower, or equal and it is not preferred. -/
def State.lanternTake (s : State) (m : LanternMsg) : State :=
  have p := s.pair
  have s := { s with
      pair := { p with
      lanPresent := true, lanId := m.suffix, lanMode := m.mode % 8, lanCount := m.count, lanAge := 0,
      lanUntil := s.time.mono + m.ttl * msUnit } }
  have s := s.heard
  if s.glb.mode = .active ∧ m.mode = 4 then
    have lower := decide (m.count > s.pair.count) || (decide (m.count = s.pair.count) && !s.isPreferred)
    have s := { s with
        pair := { s.pair with rxCount := m.count, stand := if lower then some m.count else s.pair.stand } }
    s.raiseRec 583 0x3FF
  else s.adoptCount m.count

/-- PEER_LANTERN_RX (R296): a GOOSE with the lantern's address, APPID and GOCB_REF and a module identifier. -/
def peerLanternRx (m : LanternMsg) (s : State) : State :=
  if s.img.loaded = false then s
  else if m.wellFormed = false then s.count 0x70002C
  else
    match s.lanternId with
    | none => s.noMatch
    | some p =>
      have b := s.pubBody p
      have alg := byteAt b 0x0C
      if m.dst ≠ beAt b 0 6 ∨ m.appid ≠ leAt b 6 2 then s.noMatch
      else if m.suffix = s.glb.moduleId then s
      else if s.single = true ∨ m.suffix ≠ s.partnerId then s.noMatch
      else
        have good := match m.tag with
          | none => false
          | some t => decide (t.alg = alg) && s.tagUsable t.keyId (leAt b 0x22 2) 0xFFFF alg && t.valid
        if alg ≠ 0 ∧ good = false then s.count 0x700038
        else ((s.lanternTake m).pairNote s).pairTrack

/-- PEER_LANTERN_RX (R296). -/
def execPeerLanternRx (dt : Nat) (m : LanternMsg) (s : State) : Result := .next (peerLanternRx m (s.elapse dt))

/-- PEER_LANTERN_LOST (R296, R321): the timeAllowedToLive of the last valid partner lantern passes. -/
def peerLanternLost (s : State) : State :=
  if s.pair.lanPresent && decide (s.pair.lanUntil ≤ s.time.mono) then
    have was := decide (s.partner = 2) && decide (s.pair.lanMode = 4)
    have t := ({ s with pair := { s.pair with lanPresent := false } }).raiseRec 518 0x3FF
    have t := t.pairNote s
    (if was then t.takeCause 3 else t).pairTrack
  else s

/-- PEER_LANTERN_LOST (R296). -/
def execPeerLanternLost (dt : Nat) (s : State) : Result := .next (peerLanternLost (s.elapse dt))

/-! ### Subscriptions (R297 to R299) -/

/-- SUB_INDEX of an entry. -/
def subIndex (c : StreamCfg) : Nat := c.fieldAt 0x08 2

/-- The entry of a subscription. -/
def State.subCfg (s : State) (i : Nat) : Option StreamCfg := s.subCfgs.find? (fun c => decide (subIndex c = i))

/-- A subscription. -/
def State.sub (s : State) (i : Nat) : SubSt := tget s.pub.subs i {}

/-- A subscription with a new value. -/
def State.setSub (s : State) (i : Nat) (x : SubSt) : State :=
  { s with pub := { s.pub with subs := tset s.pub.subs i x {} } }

/-- A subscription counter (R304). -/
def State.subCount (s : State) (i c : Nat) : State := s.count (0x730000 + 0x10 * i + 4 * c)

/-- The maps of a subscription: signal, member, kind and QUAL_NEXT (R297). -/
def subMaps (c : StreamCfg) : List (Nat × Nat × Nat × Bool) :=
  (List.range (c.fieldAt 0x0D 1)).map (fun m =>
    have o := 0x60 + 4 * m
    (c.fieldAt o 2, c.fieldAt (o + 2) 1, c.fieldAt (o + 3) 1 % 128, decide (c.fieldAt (o + 3) 1 ≥ 128)))

/-- The quality of a mapped value under R299: 0 GOOD, 2 INVALID, 3 TEST. -/
def State.subQual (s : State) (x : SubSt) (v : SubVal) : Nat :=
  if x.timedOut ∨ v.invalid then 2
  else if v.test then (if s.glb.mode = .test then 3 else 2)
  else 0

/-- The mapped signals of a subscription are written from its last accepted message (R299). -/
def State.subWrite (s : State) (c : StreamCfg) : State :=
  have x := s.sub (subIndex c)
  ((subMaps c).zip x.vals).foldl (fun s e => s.setSig e.1.1 e.2.value (s.subQual x e.2)) s

/-- A subscription restarts: no message, its signals NOT_RECEIVED (R299). DEDUCED, log entry 79. -/
def State.subRestart (s : State) (c : StreamCfg) : State :=
  have x := s.sub (subIndex c)
  have s := s.setSub (subIndex c) { sim := x.sim }
  (subMaps c).foldl (fun s e => s.setSig e.1 false 1) s

/-- The values and marks that a message gives a mapped signal (R297, R299): none where the member has another
type than its KIND expects. -/
def subValue (m : GooseMsg) (e : Nat × Nat × Nat × Bool) : Option SubVal :=
  have q : Option Nat := if e.2.2.2 then
      match m.data.getD (e.2.1 + 1) .other with
      | .bits _ v => some v
      | _ => none
    else some 0
  have v : Option (Bool × Bool) := match m.data.getD e.2.1 .other, e.2.2.1 with
    | .boolean b, 1 => some (b, false)
    | .bits 2 v, 2 => some (decide (v = 2), decide (v = 3))
    | .bits 2 v, 3 => some (decide (v = 1), decide (v = 3))
    | _, _ => none
  match v, q with
  | some (b, bad), some q =>
    some { value := b, invalid := m.ndsCom || bad || decide (qualityMarks q &&& 3 ≠ 0),
           test := m.test || decide (q / 2 ^ 11 % 2 = 1) }
  | _, _ => none

/-- Every mapped value, or none where the message's shape is wrong (R298). -/
def subValues (m : GooseMsg) (l : List (Nat × Nat × Nat × Bool)) : Option (List SubVal) :=
  match l with
  | [] => some []
  | e :: r =>
    match subValue m e, subValues m r with
    | some v, some vs => some (v :: vs)
    | _, _ => none

/-- The subscription that a message matches (R298). -/
def State.subMatch (s : State) (m : GooseMsg) : Option StreamCfg :=
  s.subCfgs.find? (fun c =>
    have routable := decide (c.fieldAt 0x0C 1 / 4 % 2 = 1)
    decide (routable = m.routable) && decide (text (slice c.body (c.off + 0x20) 64) = m.gocbRef) &&
      (if routable then decide (c.fieldAt 0x18 4 = m.destIp)
       else decide (c.destMac = m.dst) && decide (c.fieldAt 6 2 = m.appid)))

/-- A message that passed every check (R298). A repetition of the last accepted pair is not accepted.
DEDUCED, log entry 78. -/
def State.subAccept (s : State) (c : StreamCfg) (m : GooseMsg) (sim : Bool) (vals : List SubVal) : State :=
  have i := subIndex c
  have x := s.sub i
  if x.pair = some (m.stNum, m.sqNum) then s
  else
    have s := s.setSub i { x with
        pair := some (m.stNum, m.sqNum), vals := vals, test := m.test || vals.any (·.test), timedOut := false,
        until_ := s.time.mono - m.ago + m.ttl * msUnit, confSeen := false, sim := x.sim || sim }
    have s := s.subCount i 0
    have s := if sim && !x.sim then s.raiseRec 517 i else s
    s.subWrite c

/-- Steps 5 and 6 of R162 as R298 adapts them. DEDUCED, log entry 78. -/
def State.subCheck (s : State) (c : StreamCfg) (m : GooseMsg) (sim : Bool) : State :=
  have i := subIndex c
  if m.confRev ≠ c.fieldAt 0x10 4 then
    have s := s.subCount i 1
    if (s.sub i).confSeen then s else (s.setSub i { s.sub i with confSeen := true }).raiseRec 516 i
  else if m.entries ≠ c.fieldAt 0x0E 2 ∨ m.data.length ≠ m.entries then s.subCount i 1
  else
    match subValues m (subMaps c) with
    | none => s.subCount i 1
    | some vals => s.subAccept c m sim vals

/-- Step 4 of R162: authentication, whose result goes to the ridge (R148, R165). DEDUCED, log entry 78. -/
def State.subVerify (s : State) (c : StreamCfg) (m : GooseMsg) (sim : Bool) : State :=
  have i := subIndex c
  have alg := c.fieldAt 0x0B 1
  let fail (s : State) : State :=
    (((s.subCount i 1).subCount i 3).raiseRecOnce 515 i).tellRidge m.src m.red false
  if alg = 0 then s.subCheck c m sim
  else
    match m.tag with
    | none =>
      if c.fieldAt 0x0C 1 % 2 = 1 then fail s else (s.tellRidge m.src m.red true).subCheck c m sim
    | some t =>
      if decide (t.alg = alg) && s.tagUsable t.keyId (c.fieldAt 0x14 2) (c.fieldAt 0x16 2) alg && t.valid then
        (s.tellRidge m.src m.red true).subCheck c m sim
      else fail s

/-- GOOSE_RX (R298). -/
def gooseRx (m : GooseMsg) (s : State) : State :=
  if s.img.loaded = false then s
  else if m.wellFormed = false then s.count 0x70002C
  else
    match s.subMatch m with
    | none => s.noMatch
    | some c =>
      have sim := m.sim && decide (m.edition = 2)
      have accepts := decide (s.glb.mode = .test) && decide (c.fieldAt 0x0C 1 / 2 % 2 = 1)
      if (sim && !accepts) || (!sim && (s.sub (subIndex c)).sim) then s.subCount (subIndex c) 1
      else s.subVerify c m sim

/-- GOOSE_RX (R298). -/
def execGooseRx (dt : Nat) (m : GooseMsg) (s : State) : Result := .next (gooseRx m (s.elapse dt))

/-- A subscription times out (R299). -/
def State.subTimeout (s : State) (c : StreamCfg) : State :=
  have i := subIndex c
  ((s.setSub i { s.sub i with timedOut := true }).subWrite c).subCount i 2 |>.raiseRec 514 i

/-- SUB_TIMEOUT (R299). -/
def subTimeout (i : Nat) (s : State) : State :=
  match s.subCfg i with
  | none => s
  | some c =>
    have x := s.sub i
    if x.pair.isSome && !x.timedOut && decide (x.until_ ≤ s.time.mono) then s.subTimeout c else s

/-- SUB_TIMEOUT (R299). -/
def execSubTimeout (dt : Nat) (i : Fin 4096) (s : State) : Result := .next (subTimeout i.val (s.elapse dt))

/-- A tick that falls after a message's time (R299). -/
def State.subTick (s : State) : State :=
  s.subCfgs.foldl (fun s c =>
    have x := s.sub (subIndex c)
    if x.pair.isSome && !x.timedOut && decide (x.until_ < s.time.mono) then s.subTimeout c else s) s

/-- The module enters or leaves TEST: qualities follow, and leaving it ends every simulation (R164, R298, R299). -/
def State.subMode (s : State) : State :=
  s.subCfgs.foldl (fun s c =>
    have i := subIndex c
    have x := s.sub i
    have s := if x.sim && decide (s.glb.mode ≠ .test) then
        (s.setSub i { x with sim := false }).raiseRec 517 i else s
    if x.pair.isSome then s.subWrite c else s) s

/-! ### SUB_RESTART (R303) -/

/-- The PUB command register. -/
def pubCmdReg : Nat := 0x700000

/-- SUB_RESTART (R303). -/
def subRestartCmd (rsv arg : Nat) (s : State) : State :=
  have t := s.targetTick 0x70001C 0x700020
  s.runCmd pubCmdReg 1 rsv arg
    (verdict (decide (arg < 4096) && (s.subCfg arg).isSome && t.isSome) (s.inFrames && s.kpr.frames)) fun s =>
    { s with pub := { s.pub with wait := some (arg, t.getD 0) } }

/-- SUB_RESTART (R303). -/
def execSubRestart (dt : Nat) (rsv : BitVec 8) (arg : BitVec 16) (s : State) : Result :=
  .next (subRestartCmd rsv.toNat arg.toNat (s.elapse dt))

/-- SUB_RESTART_APPLY (R303): at the target tick the subscription restarts. DEDUCED, log entry 79. -/
def subRestartApply (s : State) : State :=
  match s.pub.wait with
  | none => s
  | some (i, _) =>
    have s := { s with pub := { s.pub with wait := none } }
    have s := match s.subCfg i with
      | none => s
      | some c => s.subRestart c
    s.cmdDone pubCmdReg

/-- SUB_RESTART_APPLY (R303). -/
def execSubRestartApply (dt : Nat) (s : State) : Result := .next (subRestartApply (s.elapse dt))

/-- A write to PUB_CMD. -/
def pubCommand (code rsv arg : Nat) (s : State) : State :=
  if code = 1 then subRestartCmd rsv arg s else s.badCode pubCmdReg code rsv arg

/-- A SUB_RESTART whose target tick will not come ends REFUSED_STATE (R71). -/
def State.pubDrop (s : State) : State :=
  match s.pub.wait with
  | none => s
  | some _ => ({ s with pub := { s.pub with wait := none } }).cmdEndRefused pubCmdReg

/-- A step passes over target ticks before `n` (R71). -/
def State.pubStep (s : State) (n : Nat) : State :=
  match s.pub.wait with
  | some (_, t) => if t < n then s.pubDrop else s
  | none => s

/-- The publication unit takes a newly loaded image: no message sent or accepted yet. -/
def State.pubLoad (s : State) : State :=
  have s := { s with pub := { lanternStop := s.pub.lanternStop } }
  s.subCfgs.foldl (fun s c => s.subRestart c) s

/-- A changed PUBLICATION section: the next commit is a change (R293). `old` is the body before. -/
def State.pubReload (s : State) (p : Nat) (old : List Byte) : State :=
  have b := s.pubBody p
  have same := decide (slice b 0 8 = slice old 0 8) && decide (leAt b 0x14 4 = leAt old 0x14 4) &&
    decide (slice b 0x40 64 = slice old 0x40 64)
  if s.pubKind p = 2 then s
  else s.setPub p { s.pubSt p with last := none, crc := none, restart := !same }

end Sys2Proof.Machine
end

