-- ==== Sys2Proof/Machine/TimeStep.lean ====
section
/-!
DEFINITION. A step of station time and what it does in every block (R71, R93, R231, R375, R505).
-/

namespace Sys2Proof.Machine

open Sys2Proof

/-- A substitution command that waits for its target tick ends REFUSED_STATE (R71). -/
def State.sviDrop (s : State) : State :=
  if s.svi.pend.isSome then ({ s with svi := { s.svi with pend := none } }).cmdEndRefused sviCmdReg else s

/-- A step passes over the target tick of a substitution command before `n` (R71). -/
def State.sviStep (s : State) (n : Nat) : State :=
  match s.svi.pend with
  | some p => if p.target < n then s.sviDrop else s
  | none => s

/-- A reference's offset after station time has moved by `delta`. DEDUCED, log entry 47. -/
def Ref.shift (x : Ref) (delta : Int) : Ref := if x.present then { x with offset := x.offset - delta } else x

/-- The blocks see a step: `old` is the tick that would have come next, `n` the first that runs. -/
def State.stepBlocks (s : State) (old n : Nat) : State :=
  have s := ((((s.kprStep old n).imgStep n).pubStep n).hstStep n).sviStep n
  s.plnStep.chainStep.galStep.streamsPlace.syncRequest

/-- The TIME_STEP record: the old time in its parameters, the new time in TIME (R379, R389). -/
def State.stepRec (s : State) (old : Nat) : State :=
  s.logOffer { s.mkRec 0x0006 0x03 0x3FF (secOf old % 2 ^ 32) (nsOf old) (secOf old / 2 ^ 32) with stepFollows := true }

/-- The beacon on a step to reference `r`: selected, its DIVERGED mark cleared, LOCKED (R92). -/
def State.stepBeacon (s : State) (r : Nat) (delta : Int) (n : Nat) : State :=
  have b := s.bcn
  have s := { s with
      bcn := { b with
      refA := b.refA.shift delta, refB := b.refB.shift delta, refI := b.refI.shift delta,
      selected := r, lastSel := r, selAt := s.time.mono, timeLost := false, divergedSel := false, acqCount := 0, convCount := 0,
      stepCount := (b.stepCount + 1) % 256, autoStep := none, noTickBefore := n, tickLast := none } }
  have s := s.setRef r { s.refOf r with diverged := false }
  have s := (s.raiseRec 65 r).requalify r
  (if s.bcn.state = .locked then s else s.becomeLocked).utcFrom r

/-- A step of station time to a reference's estimate (R93). The next tick that runs is the first that falls
at least one frame period after it. DEDUCED, log entry 47. -/
def State.applyStep (s : State) (r : Nat) : State :=
  have old := s.now
  have rate := s.frameRate
  have delta := (s.refOf r).offset
  have new := ((old : Int) + 256 * delta).toNat
  have n := tickAtOrAfter new rate + 1
  have s := { s with time := { s.time with stepped := true, station := new, sub := 0 }, once := [] }
  ((s.stepRec old).stepBeacon r delta n).stepBlocks (tickAtOrAfter old rate) n

/-- The steps that wait are applied: the STEP command's, then the automatic first step (R93). -/
def State.stepsNow (s : State) : State :=
  have s := match s.bcn.pendStep with
    | none => s
    | some r => (({ s with bcn := { s.bcn with pendStep := none } }).applyStep r).cmdDone bcnCmdReg
  match s.bcn.autoStep with
  | none => s
  | some r => s.applyStep r

/-- Steps apply at once while no protection frames run (R93). -/
def State.stepIfIdle (s : State) : State := if s.kpr.frames then s else s.stepsNow

/-- A STEP command that waits when the module leaves COMMISSION or TEST ends REFUSED_STATE. DEDUCED, log
entry 47. -/
def State.stepDrop (s : State) : State :=
  if s.bcn.pendStep.isSome then ({ s with bcn := { s.bcn with pendStep := none } }).cmdEndRefused bcnCmdReg else s

/-- STEP (R93, R107). -/
def bcnStep (rsv arg : Nat) (s : State) : State :=
  s.runCmd bcnCmdReg 1 rsv arg
    (verdict (decide (arg < 3)) (s.inCommTest && (s.refOf arg).present && ((s.refOf arg).qual || (s.refOf arg).diverged))) fun s =>
    ({ s with bcn := { s.bcn with pendStep := some arg } }).stepIfIdle

/-- STEP (R93). -/
def execStep (dt : Nat) (rsv : BitVec 8) (arg : BitVec 16) (s : State) : Result :=
  .next (bcnStep rsv.toNat arg.toNat (s.elapse dt))

/-- STEP_APPLY: the gap after a commit (R93). -/
def stepApply (s : State) : State := if s.kpr.frames ∧ s.kpr.open_ = true then s else s.stepsNow

/-- STEP_APPLY (R93). -/
def execStepApply (dt : Nat) (s : State) : Result := .next (stepApply (s.elapse dt))

/-- A write to BCN_CMD (R107). -/
def bcnCommand (code rsv arg : Nat) (s : State) : State :=
  if code = 1 then bcnStep rsv arg s
  else if code = 2 then selectDomain rsv arg s
  else if code = 3 then asymMeasure rsv arg s
  else if code = 4 then asymApply rsv arg s
  else if code = 5 then asymKeep rsv arg s
  else s.badCode bcnCmdReg code rsv arg

end Sys2Proof.Machine
end

