-- ==== Sys2Proof/Machine/Mode.lean ====
section
/-!
DEFINITION. Mode transitions, the causes that act on the mode, yields, and the ends of an exchange of control
(R30 to R36, R320, R326, R504).
-/

namespace Sys2Proof.Machine

open Sys2Proof

/-- GLB_CMD. -/
def glbCmdReg : Nat := 0x14

/-! ### The end of an exchange (R326) -/

/-- A message of an exchange (R311). -/
def State.ctrlSend (s : State) (typ : Nat) (payload : List Byte) : State := s.bregSend typ s.frameNum payload

/-- CTRL_ABORT with a reason: 1 refused, 2 no confirm, 3 conditions lost. -/
def State.ctrlAbort (s : State) (target reason : Nat) : State :=
  s.ctrlSend 8 (leBytes target 4 ++ [BitVec.ofNat 8 reason, 0#8, 0#8, 0#8])

/-- The exchange is over, and the commands that wait for it end: DONE after a change of control, else
REFUSED_STATE. -/
def State.exClose (s : State) (done : Bool) : State :=
  have now := s.pair.exNow
  have s := { s with pair := { s.pair with ex := 0, exLeave := false, exNow := false, hold := none } }
  have s := if now then (if done then s.cmdDone pairCmdReg else s.cmdEndRefused pairCmdReg) else s
  if s.glb.waiting = some .handover then
    have s := { s with glb := { s.glb with waiting := none } }
    if done then s.cmdDone glbCmdReg else s.cmdEndRefused glbCmdReg
  else s

/-- The exchange ends with HANDBACK_DONE or HANDBACK_ABORT (R326, R335). -/
def State.exStop (s : State) (done : Bool) : State :=
  if s.pair.ex = 0 then s else (s.raiseRec (if done then 587 else 588) 0x3FF).exClose done

/-- Frames stop before H: the conditions of a confirmed exchange no longer hold. -/
def State.exFramesStop (s : State) : State :=
  (if s.pair.ex = 3 then s.ctrlAbort s.pair.exH 3 else s).exStop false

/-! ### Transitions (R32, R36, R504) -/

/-- Protection frames stop, and everything that waits for one ends (R71, R240). DEDUCED, log entry 112. -/
def State.framesStopAll (s : State) : State :=
  if s.kpr.frames then
    have s := (((s.framesStop.imgFramesStop).pubDrop).hstDrop).sviDrop
    have s := s.galFramesStop.exFramesStop.alignFail.stepIfIdle
    { s with pair := { s.pair with take := false, stand := none, soloDue := false } }
  else s

/-- A GLB command that another transition overtakes ends REFUSED_STATE (R41). DEDUCED, log entry 30. -/
def State.glbOvertaken (s : State) : State :=
  match s.glb.waiting with
  | none => s
  | some .commission => { s with glb := { s.glb with waiting := none } }
  | some _ => ({ s with glb := { s.glb with waiting := none } }).cmdEndRefused glbCmdReg

/-- The module leaves ACTIVE: coil outputs disarm and no further publication leaves (R18, R293). -/
def State.leaveActive (s : State) : State :=
  have s := s.coilsOff
  { s with pub := { s.pub with active := false, armed := false } }

/-- A module that becomes ACTIVE sets its takeover count (R323). -/
def State.raiseCount (s : State) : State :=
  { s with pair := { s.pair with count := (max s.pair.count s.pair.rxCount + 1) % 2 ^ 32 } }

/-- What the blocks do on a transition. DEDUCED, log entry 29. -/
def State.modeEffects (s : State) (old m : Mode) : State :=
  have s := if old = .active then s.leaveActive else s
  have s := if old = .test then s.simEnd else s
  have s := if old = .test ∧ m = .standby then s.mirrorAll else s
  have s := if old = .test ∨ m = .test then s.subMode else s
  have s := if s.inCommTest then s else s.stepDrop
  have s := if m = .maintenance ∨ m = .degraded then s.reloadAbandon else s
  have s := if m = .dormant ∨ (m = .degraded ∧ s.ppFlag 4 = false) then s.framesStopAll else s
  have s := if m = .active then s.raiseCount else s
  (if m = .commission then s.bcnEval none else s).pairTrack

/-- A transition: GLB_MODE, the MODE record and MODE_CHANGE (R32, R54, R56, R389, R504). -/
def State.setMode (s : State) (m : Mode) (cause : Nat) : State :=
  have old := s.glb.mode
  if old = m then s
  else
    have s := s.glbOvertaken
    have s := { s with
        glb := { s.glb with
        mode := m, prev := old, lastCause := cause, changes := (s.glb.changes + 1) % 65536, inTransition := false,
        since := s.time.mono } }
    ((s.logPut 0x0002 0 0x3FF (modeNum m) (modeNum old) cause).raiseGlb 0).modeEffects old m

/-- A yield (R320): YIELD on both paths, and the module leaves ACTIVE at once. -/
def State.yieldTo (s : State) (cause : Nat) (m : Mode) : State :=
  have s := if s.single then s
    else s.bregSend 4 s.frameNum ([BitVec.ofNat 8 cause, 0#8, 0#8, 0#8] ++ leBytes s.pair.lastCommit 4)
  (s.raiseRec 578 0x3FF).setMode m cause

/-! ### Causes (R35) -/

/-- A cause of a higher rank has acted on the mode in this clock. DEDUCED, log entry 25. -/
def State.asideNow (s : State) (rank : Nat) : Option Nat :=
  match s.glb.setAside with
  | [t, r, c] => if t = s.time.mono ∧ r < rank then some c else none
  | _ => none

/-- A cause acts on the mode. One that a higher cause of the same clock has set aside is recorded, and acts
after it (R35). DEDUCED, log entry 25. -/
def State.cause (s : State) (rank code : Nat) (act : State → State) : State :=
  match s.asideNow rank with
  | some c => act (s.logPut 0x0003 0 0x3FF code c 0)
  | none =>
    have t := act s
    if t.glb.mode = s.glb.mode then t else { t with glb := { t.glb with setAside := [s.time.mono, rank, code] } }

/-! ### Faults (R32, R34, R320) -/

/-- The kinds of fault that may lead to DEGRADED (R320). -/
inductive FaultKind where
  | miscompare
  | keeperEcc
  | ecc
  | selfCheck
  | funcModule
  | timeLost
  | timeDiverged
  | powerFail
  | tamper
  | thermal
  | digest
deriving DecidableEq, Repr

/-- The cause code of a fault (R55, R320). -/
def faultCode (k : FaultKind) : Nat :=
  match k with
  | .miscompare => 0x0D
  | .keeperEcc | .ecc => 0x0E
  | .selfCheck => 0x19
  | .funcModule => 0x0F
  | .timeLost | .timeDiverged => 0x10
  | .powerFail => 0x11
  | .tamper => 0x12
  | .thermal => 0x13
  | .digest => 0x18

/-- KEEPER_FAULT of the pair policy, its default without an image (R332). -/
def State.keeperFaultPolicy (s : State) : Nat := if s.pp.isEmpty then 1 else byteAt s.pp 0x0C

/-- A fault leads to DEGRADED (R320). -/
def State.faultActs (s : State) (k : FaultKind) : Bool :=
  have active := decide (s.glb.mode = .active)
  match k with
  | .miscompare | .keeperEcc =>
    decide (s.keeperFaultPolicy = 2) || (active && decide (s.keeperFaultPolicy = 1) && s.partnerEligible)
  | .timeLost => active && s.partnerEligible && s.fogFlag 2
  | .timeDiverged => s.ppFlag 3
  | .digest => !active
  | _ => true

/-- The modes from which a fault leads to DEGRADED (R32). -/
def State.faultMode (s : State) : Bool :=
  match s.glb.mode with
  | .commission | .standby | .active | .test | .maintenance => true
  | _ => false

/-- GLB_FAULT_CAUSE takes what led to DEGRADED (R34, R504). Instance 0xFF is the block as a whole. -/
def State.faultSet (s : State) (code blk inst : Nat) : State :=
  { s with glb := { s.glb with faultCause := code, faultBlock := blk, faultInst := inst } }

/-- The module enters DEGRADED. An ACTIVE module yields first (R32, R320). -/
def State.degrade (code blk inst : Nat) (s : State) : State :=
  if s.faultMode then
    have s := s.faultSet code blk inst
    if s.glb.mode = .active then s.yieldTo code .degraded else s.setMode .degraded code
  else s

/-- A fault of a block is reported. -/
def State.fault (s : State) (k : FaultKind) (blk inst : Nat) : State :=
  if s.faultActs k && s.faultMode then
    s.cause (if k = .tamper then 1 else 3) (faultCode k) (State.degrade (faultCode k) blk inst)
  else s

/-! ### Requests for a change of control (R326, R327) -/

/-- The initiator sends CTRL_REQ with H = its current frame + 16, where the conditions of the KIND hold. -/
def State.exRequest (s : State) (kind : Nat) (leave now : Bool) : State × Bool :=
  if s.pair.ex ≠ 0 ∨ s.kpr.frames = false then (s, false)
  else
    have t := { s with pair := { s.pair with exLeave := leave } }
    if t.exCond kind true then
      have h := (t.frameNum + 16) % 2 ^ 32
      have t := { t with
          pair := { t.pair with ex := 1, exKind := kind, exIni := true, exH := h, exNow := now, hold := none } }
      (t.ctrlSend 5 ([BitVec.ofNat 8 kind, 0#8, 0#8, 0#8] ++ leBytes h 4), true)
    else (s, false)

/-- An exchange ends. A module that leaves service, and whose handover has failed, yields (R46, R320). -/
def State.exEnd (s : State) (done : Bool) : State :=
  have leave := s.pair.exLeave
  have s := s.exStop done
  if !done && leave && decide (s.glb.mode = .active) then s.yieldTo 0x15 .standby else s

/-! ### Takeover (R321, R322) -/

/-- The takeover point: the module becomes ACTIVE on its latest commit. DEDUCED, log entry 83. -/
def State.takeNow (s : State) : State :=
  if s.eligible then
    have s := s.setMode .active (if s.glb.mode = .test then 0x17 else 0x0A)
    ((s.pubTakeover.lanternSend 1).raiseRec 577 0x3FF).mirrorSend s.pub.frame
  else (s.setEvent 579).eventRec 579 0x3FF 0x3FF

/-- TAKEOVER: the takeover point of a cause that has occurred. DEDUCED, log entry 83. -/
def takeover (s : State) : State :=
  if s.pair.take then
    have s := { s with pair := { s.pair with take := false } }
    s.cause 5 (if s.glb.mode = .test then 0x17 else 0x0A) State.takeNow
  else s

/-- TAKEOVER (R322). -/
def execTakeover (dt : Nat) (s : State) : Result := .next (takeover (s.elapse dt))

/-- YIELD_RX: a valid YIELD from the ACTIVE partner is a takeover cause (R321). -/
def yieldRx (m : List Byte) (s : State) : State :=
  s.bregRx 4 m (fun _ _ s => if s.pair.fog.mode = 4 ∨ s.partnerActive = true then s.takeCause 1 else s)

/-- YIELD_RX (R321). -/
def execYieldRx (dt : Nat) (m : List Byte) (s : State) : Result := .next (yieldRx m (s.elapse dt))

end Sys2Proof.Machine
end

