-- ==== Sys2Proof/Machine/BcnRows.lean ====
section
/-!
DEFINITION. The beacon's rows: PTP, IRIG-B, holdover, asymmetry, second boundary, 1PPS and capture (R86 to R108,
R503).
-/

namespace Sys2Proof.Machine

open Sys2Proof

/-- What follows a measurement: a first step that has become due, and TIME_DIVERGED of the selected reference
where the pair policy demands it (R93, R96, R320). -/
def State.bcnAfter (s : State) : State :=
  have s := s.stepIfIdle
  if s.bcn.newlyDiverged then
    ({ s with bcn := { s.bcn with newlyDiverged := false } }).fault .timeDiverged 0x03 0xFF
  else s

/-- A happening of the beacon, which runs from COMMISSION on (R28, R92). -/
def State.bcnRun (s : State) (f : State → State) : State :=
  if s.portsRun then (f s).bcnAfter.pairTrack else s

/-- PTP_SYNC_RX: a Sync, or the Follow_Up that completes it (`complete`), on port `p` of domain `d` (R92). -/
def execPtpSyncRx (dt : Nat) (d : Fin 2) (p : Fin 24) (complete : Bool) (offset residual demand refRate : Int)
    (s : State) : Result :=
  .next ((s.elapse dt).bcnRun (ptpSyncMeasure d.val p.val complete offset residual demand refRate))

/-- PTP_ANNOUNCE_RX (R91, R105). -/
def execPtpAnnounceRx (dt : Nat) (d : Fin 2) (cls : BitVec 8) (utc : BitVec 16)
    (utcValid leap59 leap61 : Bool) (s : State) : Result :=
  .next ((s.elapse dt).bcnRun (ptpAnnounce d.val cls.toNat utc.toInt utcValid leap59 leap61))

/-- PTP_DELAY_MSG_RX: kind 0 Pdelay_Req, 1 Delay_Req, 2 a response with the link delay (R89). -/
def execPtpDelayMsgRx (dt : Nat) (d : Fin 2) (p : Fin 24) (kind : Fin 3) (delay : Int) (s : State) : Result :=
  .next ((s.elapse dt).bcnRun (ptpDelayMsg d.val p.val kind.val delay))

/-- PTP_OTHER_MSG_RX (R7, R89). -/
def execPtpOtherMsgRx (dt : Nat) (p : Fin 24) (unsupported : Bool) (s : State) : Result :=
  .next ((s.elapse dt).bcnRun (ptpOther p.val unsupported))

/-- ANNOUNCE_RECEIPT_TIMEOUT (R91). -/
def execAnnounceReceiptTimeout (dt : Nat) (d : Fin 2) (s : State) : Result :=
  .next ((s.elapse dt).bcnRun (announceTimeout d.val))

/-- SYNC_MISSED (R91). -/
def execSyncMissed (dt : Nat) (d : Fin 2) (s : State) : Result := .next ((s.elapse dt).bcnRun (syncMissed d.val))

/-- PTP_SYNC_TX (R90). -/
def execPtpSyncTx (dt : Nat) (d : Fin 2) (p : Fin 24) (s : State) : Result :=
  .next (ptpSyncTx d.val p.val (s.elapse dt))

/-- PTP_ANNOUNCE_TX (R90). -/
def execPtpAnnounceTx (dt : Nat) (d : Fin 2) (p : Fin 24) (s : State) : Result :=
  .next (ptpAnnounceTx d.val p.val (s.elapse dt))

/-- PTP_PDELAY_REQ_TX (R89). -/
def execPtpPdelayReqTx (dt : Nat) (d : Fin 2) (p : Fin 24) (s : State) : Result :=
  .next (ptpDelayReqTx d.val p.val (s.elapse dt))

/-- TIME_LOST: 60 s in HOLDOVER (R92, R97, R320). -/
def timeLost (s : State) : State :=
  if s.bcn.state = .holdover ∧ s.bcn.timeLost = false ∧ s.time.mono ≥ s.bcn.holdSince + 60 * secUnit then
    (({ s with bcn := { s.bcn with timeLost := true } }).raiseRec 69 s.bcn.lastSel).fault .timeLost 0x03 0xFF
  else s

/-- TIME_LOST (R97). -/
def execTimeLost (dt : Nat) (s : State) : Result := .next (timeLost (s.elapse dt))

/-- REVERT_HOLD_EXPIRY (R95). -/
def execRevertHoldExpiry (dt : Nat) (d : Fin 2) (s : State) : Result :=
  .next ((s.elapse dt).bcnRun (revertHold d.val))

/-- IRIG_FRAME_RX (R101). Quality 255 stands for a code without the 1344 extension. -/
def execIrigFrameRx (dt : Nat) (offset demand refRate : Int) (quality : BitVec 8) (s : State) : Result :=
  .next ((s.elapse dt).bcnRun (irigFrame offset demand refRate quality.toNat))

/-- IRIG_ERROR (R101). -/
def execIrigError (dt : Nat) (s : State) : Result := .next ((s.elapse dt).bcnRun irigError)

/-- SELECT_DOMAIN (R95, R107). -/
def execSelectDomain (dt : Nat) (rsv : BitVec 8) (arg : BitVec 16) (s : State) : Result :=
  .next (selectDomain rsv.toNat arg.toNat (s.elapse dt))

/-- ASYM_MEASURE (R99, R107). -/
def execAsymMeasure (dt : Nat) (rsv : BitVec 8) (arg : BitVec 16) (s : State) : Result :=
  .next (asymMeasure rsv.toNat arg.toNat (s.elapse dt))

/-- ASYM_DONE: the measurement window of port `p` ends with a mean difference of offsets (R99, R100). -/
def execAsymDone (dt : Nat) (p : Fin 24) (mean : Int) (s : State) : Result :=
  .next ((s.elapse dt).bcnRun (asymDone p.val mean))

/-- ASYM_APPLY (R107). -/
def execAsymApply (dt : Nat) (rsv : BitVec 8) (arg : BitVec 16) (s : State) : Result :=
  .next (asymApply rsv.toNat arg.toNat (s.elapse dt))

/-- ASYM_KEEP (R107). -/
def execAsymKeep (dt : Nat) (rsv : BitVec 8) (arg : BitVec 16) (s : State) : Result :=
  .next (asymKeep rsv.toNat arg.toNat (s.elapse dt))

/-- SECOND_BOUNDARY: the backup counter takes station time, and every once-per-second window starts anew
(R439, R501, R503). DEDUCED, log entry 32. -/
def secondBoundary (s : State) : State :=
  if s.glb.mode = .dormant then s else ({ s with once := [] }).setBackup.inputsSecond

/-- SECOND_BOUNDARY (R503). -/
def execSecondBoundary (dt : Nat) (s : State) : Result := .next (secondBoundary (s.elapse dt))

/-- PPS_RISE (R102). -/
def execPpsRise (dt : Nat) (s : State) : Result := .next (ppsRise (s.elapse dt))

/-- PPS_FALL (R102). -/
def execPpsFall (dt : Nat) (s : State) : Result := .next (ppsFall (s.elapse dt))

/-- TS_CAPTURED: the edge of a source occurs: 1 frame tick, 2 second boundary, 3 TI, 4 SYNC line (R108). -/
def execTsCaptured (dt : Nat) (src : Fin 5) (s : State) : Result := .next (tsCaptured src.val (s.elapse dt))

/-- BCN_TIME_NS_READ (R86). -/
def execBcnTimeNsRead (dt : Nat) (q : Requester) (s : State) : Result := .next (bcnTimeNsRead q (s.elapse dt))

/-- BCN_RATE_LO_READ (R108). -/
def execBcnRateLoRead (dt : Nat) (s : State) : Result := .next (bcnRateLoRead (s.elapse dt))

/-- BCN_TS_ARM_WRITE: a write to BCN_TS_CTRL (R108). -/
def execBcnTsArmWrite (dt : Nat) (value : Word) (s : State) : Result :=
  .next (bcnTsCtrlWrite value (s.elapse dt))

end Sys2Proof.Machine
end

