-- ==== Sys2Proof/Machine/Can.lean ====
section
/-!
DEFINITION. Family: the CAN ports (R448 to R459).
-/

namespace Sys2Proof.Machine

open Sys2Proof

/-- The descriptor offset of a controller in FIELD_IO (R449). -/
def canOff (c : Nat) : Nat := 0x190 + 160 * c

/-- FLAGS of a controller (R449). -/
def State.canFlag (s : State) (c n : Nat) : Bool := (s.fieldIo.getD (canOff c) 0).getLsbD n

/-- A controller. -/
def State.canCtl (s : State) (c : Nat) : CanCtl := tget s.can c {}

/-- A controller with a new value. -/
def State.setCan (s : State) (c : Nat) (x : CanCtl) : State := { s with can := tset s.can c x {} }

/-- A message buffer of a controller. -/
def canBuf (x : CanCtl) (b : Nat) : CanBuf := tget x.bufs b {}

/-- A controller with one buffer replaced. -/
def canSetBuf (x : CanCtl) (b : Nat) (v : CanBuf) : CanCtl := { x with bufs := tset x.bufs b v {} }

/-- The base address of a controller (R458). -/
def canBase (c : Nat) : Nat := 0xE00000 + 0x10000 * c

/-- DIR of a buffer (R458): 0 disabled, 1 receive, 2 transmit. -/
def State.canDir (s : State) (c b : Nat) : Nat := fld (s.rd (canBase c + 0x100 + 0x80 * b)) 0 2

/-- MASK of a buffer. -/
def State.canMask (s : State) (c b : Nat) : Word := s.rd (canBase c + 0x108 + 0x80 * b)

/-- Event `e` of a controller with its record (R459). -/
def State.canEvent (s : State) (c e : Nat) : State :=
  if 3 ≤ e ∧ e ≤ 8 then s.raiseRec (832 + 16 * c + e) c else s.setEvent (832 + 16 * c + e)

/-- The rank of a buffer's identifier on the bus: the top 11 bits, then base before extended, then
the rest (R452). -/
def canRank (w : Word) : Nat :=
  have top := fld w 18 11
  if w.getLsbD 31 then top * 2 ^ 19 + 2 ^ 18 + fld w 0 18 else top * 2 ^ 19

/-- The buffer that goes first among those from a list (R452). -/
def canWinner (x : CanCtl) (l : List Nat) : Option Nat :=
  l.foldl (fun best b =>
    match best with
    | none => some b
    | some a => if canRank (canBuf x b).id < canRank (canBuf x a).id then some b else some a) none

/-- The buffers of a controller that request transmission, ascending (R452). -/
def State.canRequests (s : State) (c : Nat) : List Nat :=
  (List.range 64).filter (fun b => decide (s.canDir c b = 2) && (canBuf (s.canCtl c) b).txReq)

/-- A controller may start a transmission (R452, R455). -/
def State.canMaySend (s : State) (c : Nat) : Bool :=
  have x := s.canCtl c
  s.img.loaded && s.canFlag c 0 && !x.listen && !decide (x.err = .busOff) &&
    (s.canFlag c 7 || decide (s.glb.mode = .active))

/-- An idle controller takes the request with the highest priority (R452). -/
def State.canPick (s : State) (c : Nat) : State :=
  have x := s.canCtl c
  if x.sending = none ∧ s.canMaySend c = true then
    s.setCan c { x with sending := canWinner x (s.canRequests c) }
  else s

/-- TX_REQ of a buffer is set (R452, R458). -/
def canTxReq (c b : Nat) (s : State) : State :=
  have x := s.canCtl c
  (s.setCan c (canSetBuf x b { canBuf x b with txReq := true })).canPick c

/-- CAN_TX_REQ_WRITE (R452). -/
def execCanTxReqWrite (dt : Nat) (c : Fin 2) (b : Fin 64) (s : State) : Result :=
  .next (canTxReq c.val b.val (s.elapse dt))

/-- The error state that the counts give (R453). -/
def canErrOf (x : CanCtl) : CanErr :=
  if x.err = .busOff then .busOff
  else if x.txErr > 255 then .busOff
  else if x.txErr > 127 ∨ x.rxErr > 127 then .errorPassive
  else .errorActive

/-- A controller with new counts: the state follows, with its events (R453). PRESUMED, log entry 102. -/
def State.canCounts (s : State) (c : Nat) (x : CanCtl) : State :=
  have e := canErrOf x
  have old := x.err
  have x := { x with err := e }
  have x := if e = .busOff ∧ old ≠ .busOff then
      { x with sending := none, recovering := s.canFlag c 4 } else x
  have s := s.setCan c x
  have s := if e ≠ .errorActive ∧ old = .errorActive then s.canEvent c 3 else s
  if e = .busOff ∧ old ≠ .busOff then s.canEvent c 4 else s

/-- A bus error of ISO 11898-1 (R453): a transmitter counts 8, but not on an ACK error in ERROR_PASSIVE
(R454); a receiver counts 1, or 8 when it detects a dominant bit after its error flag. PRESUMED, log entry
102. -/
def canAddError (x : CanCtl) (tx ack heavy : Bool) : CanCtl :=
  if x.listen then x
  else if tx then
    if ack ∧ x.err = .errorPassive then x else { x with txErr := x.txErr + 8 }
  else { x with rxErr := min 255 (x.rxErr + if heavy then 8 else 1) }

/-- The next candidate of a bit-rate search (R455). -/
def abdNext (x : CanCtl) : CanCtl :=
  if x.abdRun then { x with abdIndex := (x.abdIndex + 1) % 16, abdGood := 0 } else x

/-- A bus error (R453, R455). -/
def canBusError (c : Nat) (tx ack heavy : Bool) (s : State) : State :=
  have x := s.canCtl c
  if x.err = .busOff then s else s.canCounts c (abdNext (canAddError x tx ack heavy))

/-- CAN_BUS_ERROR (R453). -/
def execCanBusError (dt : Nat) (c : Fin 2) (tx ack heavy : Bool) (s : State) : Result :=
  .next (canBusError c.val tx ack heavy (s.elapse dt))

/-- REC after a frame received without error (ISO 11898-1). Above 127 it takes 119. PRESUMED, log entry 102.
-/
def recAfterGood (n : Nat) : Nat := if n > 127 then 119 else n - 1

/-- The nominal rates of the bit-rate candidates in bit/s (R455). -/
def abdNominal (i : Nat) : Nat :=
  [10000, 20000, 50000, 100000, 125000, 250000, 500000, 800000, 1000000, 500000, 500000, 500000,
   1000000, 1000000, 1000000, 250000].getD i 250000

/-- The data rates of the bit-rate candidates, 0 for classic CAN (R455). -/
def abdData (i : Nat) : Nat :=
  [0, 0, 0, 0, 0, 0, 0, 0, 0, 2000000, 4000000, 5000000, 2000000, 4000000, 5000000, 1000000].getD i 0

/-- The smallest divider that gives at most `most` quanta of a rate at 80 MHz, from `brp` on. -/
def smallestBrp (rate most fuel brp : Nat) : Nat :=
  match fuel with
  | 0 => brp
  | fuel + 1 =>
    if 80000000 ≤ most * rate * brp ∧ 80000000 % (brp * rate) = 0 then brp
    else smallestBrp rate most fuel (brp + 1)

/-- The timing of a bit-rate candidate (R455). -/
def abdTiming (i : Nat) : CanTiming :=
  have nb := smallestBrp (abdNominal i) 160 256 1
  have n := 80000000 / (nb * abdNominal i)
  have t2 := (n + 7) / 8
  have x : CanTiming := { nomBrp := nb, nomTseg1 := n - 1 - t2, nomTseg2 := t2, nomSjw := t2 }
  if abdData i = 0 then x
  else
    have db := smallestBrp (abdData i) 40 32 1
    have m := 80000000 / (db * abdData i)
    { x with dataBrp := db, dataTseg2 := m / 4, dataSjw := m / 4, dataTseg1 := m - 1 - m / 4,
             tdcOffset := db * (1 + (m - 1 - m / 4)) }

/-- A complete frame while a bit-rate search runs (R455). -/
def State.canAbdFrame (s : State) (c : Nat) : State :=
  have x := s.canCtl c
  if x.abdRun then
    if x.abdGood + 1 ≥ 2 then
      ((s.setCan c { x with
        abdRun := false, abdFound := true, abdGood := 0,
        timing := abdTiming x.abdIndex }).canEvent c 7).cmdDone (canBase c)
    else s.setCan c { x with abdGood := x.abdGood + 1 }
  else s

/-- The lowest receive buffer that takes a frame (R450). -/
def State.canMatch (s : State) (c : Nat) (id : Word) : Option Nat :=
  (List.range 64).find? (fun b =>
    have w := (canBuf (s.canCtl c) b).id
    decide (s.canDir c b = 1) && decide (w.getLsbD 31 = id.getLsbD 31) &&
      decide (fld ((id ^^^ w) &&& s.canMask c b) 0 29 = 0))

/-- Signal `i` of a map takes its payload bit (R451). -/
def mapBit (start sig : Nat) (data : List Byte) (i : Nat) (s : State) : State :=
  have b := start + i
  if b / 8 < data.length then s.setSig (sig + i) (bitAt data b) 0
  else s.setSigQual (sig + i) 2

/-- The maps of a buffer that stores a frame write their signals (R451). -/
def State.canMaps (s : State) (c buf : Nat) (data : List Byte) : State :=
  forN (byteAt s.fieldIo (canOff c + 1)) (fun m s =>
    have o := canOff c + 0x20 + 8 * m
    if byteAt s.fieldIo o = buf then
      forN (byteAt s.fieldIo (o + 1))
        (mapBit (leAt s.fieldIo (o + 2) 2) (leAt s.fieldIo (o + 4) 2) data) s
    else s) s

/-- A frame that passes its CRC (R450, R451, R454, R455). `ago` is the time since its SOF. -/
def canFrameRx (c : Nat) (id : Word) (esi : Bool) (dlc : Nat) (data : List Byte) (ago : Nat)
    (s : State) : State :=
  have x := s.canCtl c
  if s.img.loaded = false ∨ s.canFlag c 0 = false ∨ x.err = .busOff then s
  else
    have x := { x with alone := false }
    have x := if x.listen then x else { x with rxErr := recAfterGood x.rxErr }
    have s := (s.canCounts c x).canAbdFrame c
    match s.canMatch c id with
    | none => s
    | some b =>
      have x := s.canCtl c
      have o := canBuf x b
      have s := s.setCan c (canSetBuf x b { o with
        id := id, dlc := dlc % 16, esi := esi, ts32 := ts32Of (s.now - ago),
        data := padTo data 64, msgLost := o.msgLost || o.newData, newData := true })
      have s := if o.newData then s.canEvent c 8 else s
      (s.canMaps c b data).canEvent c 0

/-- CAN_FRAME_RX (R450). -/
def execCanFrameRx (dt : Nat) (c : Fin 2) (id : Word) (esi : Bool) (dlc : Fin 16) (data : List Byte)
    (ago : Nat) (s : State) : Result :=
  .next (canFrameRx c.val id esi dlc.val data ago (s.elapse dt))

/-- The number of data bytes of a DLC (ISO 11898-1). -/
def dlcBytes (fd : Bool) (dlc : Nat) : Nat :=
  if dlc ≤ 8 then dlc
  else if fd then [12, 16, 20, 24, 32, 48, 64].getD (dlc - 9) 64 else 8

/-- An abort of a buffer that was being sent has ended (R456). DEDUCED, log entry 103. -/
def State.canAbortEnd (s : State) (c b : Nat) : State :=
  have x := s.canCtl c
  if x.abort = some b then (s.setCan c { x with abort := none }).cmdDone (canBase c) else s

/-- A transmission ends (R452, R454, R456). -/
def canTxComplete (c : Nat) (ok ack : Bool) (ago : Nat) (s : State) : State :=
  have s := s.canPick c
  have x := s.canCtl c
  match x.sending with
  | none => s
  | some b =>
    have o := canBuf x b
    if ok then
      have x := canSetBuf { x with
        sending := none, ackRun := 0, alone := false, txErr := x.txErr - 1 } b
        { o with txReq := false, newData := true, ts32 := ts32Of (s.now - ago) }
      have s := (s.canCounts c x).canEvent c 1
      have s := s.emit (.canFrame c o.id o.dlc (o.data.take (dlcBytes (o.id.getLsbD 30) o.dlc)))
      (s.canAbortEnd c b).canPick c
    else
      have run := if ack then (if x.ackBuf = b then x.ackRun + 1 else 1) else 0
      have x := { x with sending := none, ackRun := min run 16, ackBuf := b }
      have goes := decide (run ≥ 16) && !x.alone
      have s := s.setCan c (if goes then { x with alone := true } else x)
      have s := if goes then s.canEvent c 6 else s
      have x := s.canCtl c
      if s.canFlag c 5 then
        have s := (s.setCan c (canSetBuf x b { o with txReq := false, txDoneFail := true })).canEvent c 2
        (s.canAbortEnd c b).canPick c
      else if x.abort = some b then
        ((s.setCan c (canSetBuf x b { o with txReq := false })).canAbortEnd c b).canPick c
      else s.canPick c

/-- CAN_TX_COMPLETE (R452). -/
def execCanTxComplete (dt : Nat) (c : Fin 2) (ok ack : Bool) (ago : Nat) (s : State) : Result :=
  .next (canTxComplete c.val ok ack ago (s.elapse dt))

/-- 128 occurrences of 11 recessive bits end bus-off (R453). -/
def busOffRecovered (c : Nat) (s : State) : State :=
  have x := s.canCtl c
  if x.err = .busOff ∧ x.recovering = true then
    have s := (s.setCan c { x with
      err := .errorActive, txErr := 0, rxErr := 0, recovering := false }).canEvent c 5
    have k := s.cmd (canBase c)
    (if k.pending && decide (k.runCode = 1) then s.cmdDone (canBase c) else s).canPick c
  else s

/-- BUS_OFF_RECOVERED (R453). -/
def execBusOffRecovered (dt : Nat) (c : Fin 2) (s : State) : Result :=
  .next (busOffRecovered c.val (s.elapse dt))

/-- A map's TIMEOUT_MS passes without a frame: its signals that have held a frame keep their value
with quality INVALID (R451). -/
def canMapTimeout (c m : Nat) (s : State) : State :=
  have o := canOff c + 0x20 + 8 * m
  if m < byteAt s.fieldIo (canOff c + 1) ∧ leAt s.fieldIo (o + 6) 2 ≠ 0 then
    have sig := leAt s.fieldIo (o + 4) 2
    forN (byteAt s.fieldIo (o + 1))
      (fun i s => if s.sigQual (sig + i) = 1 then s else s.setSigQual (sig + i) 2) s
  else s

/-- CAN_MAP_TIMEOUT (R451). -/
def execCanMapTimeout (dt : Nat) (c : Fin 2) (m : Fin 16) (s : State) : Result :=
  .next (canMapTimeout c.val m.val (s.elapse dt))

/-- ABD_CANDIDATE_TIMEOUT (R455). -/
def execAbdCandidateTimeout (dt : Nat) (c : Fin 2) (s : State) : Result :=
  have s := s.elapse dt
  .next (s.setCan c.val (abdNext (s.canCtl c.val)))

/-- RECOVER (R453, R456, R457). -/
def canRecover (c rsv arg : Nat) (s : State) : State :=
  s.runCmd (canBase c) 1 rsv arg
    (verdict (arg = 0) (s.img.loaded && decide ((s.canCtl c).err = .busOff) && !s.canFlag c 4)) fun s =>
    s.setCan c { s.canCtl c with recovering := true }

/-- RECOVER (R457). -/
def execRecover (dt : Nat) (c : Fin 2) (rsv : BitVec 8) (arg : BitVec 16) (s : State) : Result :=
  .next (canRecover c.val rsv.toNat arg.toNat (s.elapse dt))

/-- ABORT_TX (R456, R457): DONE when the buffer is idle. DEDUCED, log entry 103. -/
def abortTx (c rsv arg : Nat) (s : State) : State :=
  s.runCmd (canBase c) 2 rsv arg
    (verdict (arg < 64) (s.img.loaded && (canBuf (s.canCtl c) arg).txReq)) fun s =>
    have x := s.canCtl c
    if x.sending = some arg then s.setCan c { x with abort := some arg }
    else (s.setCan c (canSetBuf x arg { canBuf x arg with txReq := false })).cmdDone (canBase c)

/-- ABORT_TX (R457). -/
def execAbortTx (dt : Nat) (c : Fin 2) (rsv : BitVec 8) (arg : BitVec 16) (s : State) : Result :=
  .next (abortTx c.val rsv.toNat arg.toNat (s.elapse dt))

/-- ABD_START (R455, R457). -/
def abdStart (c rsv arg : Nat) (s : State) : State :=
  s.runCmd (canBase c) 3 rsv arg
    (verdict (arg = 0) (s.img.loaded && (s.canCtl c).listen && s.canFlag c 6)) fun s =>
    s.setCan c { s.canCtl c with abdRun := true, abdFound := false, abdIndex := 0, abdGood := 0 }

/-- ABD_START (R457). -/
def execAbdStart (dt : Nat) (c : Fin 2) (rsv : BitVec 8) (arg : BitVec 16) (s : State) : Result :=
  .next (abdStart c.val rsv.toNat arg.toNat (s.elapse dt))

/-- LISTEN (R457): DONE at the next bus idle. -/
def canListen (c rsv arg : Nat) (s : State) : State :=
  s.runCmd (canBase c) 4 rsv arg
    (verdict (arg < 2) (s.img.loaded && !decide ((s.canCtl c).err = .busOff))) fun s =>
    s.setCan c { s.canCtl c with listenPend := some (decide (arg = 1)) }

/-- LISTEN (R457). -/
def execListen (dt : Nat) (c : Fin 2) (rsv : BitVec 8) (arg : BitVec 16) (s : State) : Result :=
  .next (canListen c.val rsv.toNat arg.toNat (s.elapse dt))

/-- The next bus idle after LISTEN (R457). -/
def listenApply (c : Nat) (s : State) : State :=
  have x := s.canCtl c
  match x.listenPend with
  | none => s
  | some l => ((s.setCan c { x with listen := l, listenPend := none }).cmdDone (canBase c)).canPick c

/-- LISTEN_APPLY (R457). -/
def execListenApply (dt : Nat) (c : Fin 2) (s : State) : Result :=
  .next (listenApply c.val (s.elapse dt))

/-- A command written to CAN_CMD (R457). -/
def canCommand (c code rsv arg : Nat) (s : State) : State :=
  if code = 1 then canRecover c rsv arg s
  else if code = 2 then abortTx c rsv arg s
  else if code = 3 then abdStart c rsv arg s
  else if code = 4 then canListen c rsv arg s
  else s.badCode (canBase c) code rsv arg

/-- The timing of a controller's descriptor (R449). -/
def State.canImageTiming (s : State) (c : Nat) : CanTiming :=
  have b := s.fieldIo
  have o := canOff c
  { nomBrp := leAt b (o + 2) 2, nomTseg1 := byteAt b (o + 4), nomTseg2 := byteAt b (o + 5),
    nomSjw := byteAt b (o + 6), dataBrp := byteAt b (o + 7), dataTseg1 := byteAt b (o + 8),
    dataTseg2 := byteAt b (o + 9), dataSjw := byteAt b (o + 10), tdcOffset := byteAt b (o + 11) }

/-- Every mapped signal of a controller reads NOT_RECEIVED (R451, R456). -/
def State.canMapsReset (s : State) (c : Nat) : State :=
  forN (byteAt s.fieldIo (canOff c + 1)) (fun m s =>
    have o := canOff c + 0x20 + 8 * m
    forN (byteAt s.fieldIo (o + 1)) (fun i s => s.setSigQual (leAt s.fieldIo (o + 4) 2 + i) 1) s) s

/-- The image load of a controller (R449, R455). -/
def State.canLoad (s : State) (c : Nat) : State :=
  (s.setCan c { s.canCtl c with listen := s.canFlag c 3, timing := s.canImageTiming c }).canMapsReset c

/-- The pending transmissions of a controller, counted as lost by its reset (R50). DEDUCED, log entry 103.
-/
def State.canLost (s : State) (c : Nat) : Nat :=
  ((s.canCtl c).bufs.filter (fun (e : Nat × CanBuf) => e.2.txReq)).length

/-- A block-instance reset of a controller (R50, R456): buffers and error counters clear, the bit
timing of the image stays. -/
def State.canReset (s : State) (c : Nat) : State :=
  have s := { s with
    regs := s.regs.filter (fun (e : Nat × Word) =>
    !(decide (canBase c + 0x100 ≤ e.1) && decide (e.1 < canBase c + 0x2100))) }
  have s := s.setCan c { listen := s.canFlag c 3, timing := s.canImageTiming c }
  s.canMapsReset c

end Sys2Proof.Machine
end

