-- ==== Sys2Proof/Machine/Log.lean ====
section
/-!
DEFINITION. Family: the logbook (R379 to R394).
-/

namespace Sys2Proof.Machine

open Sys2Proof

/-- The 31 bytes of a record before its checksum (R379). -/
def recBody (r : LogRec) : List Byte :=
  leBytes r.code 2 ++ leBytes (sourceOf r) 2 ++ leBytes r.seq 4 ++ leBytes r.sec 4 ++ leBytes r.ns 4
  ++ leBytes r.p0 4 ++ leBytes r.p1 4 ++ leBytes r.p2 4 ++ leBytes r.moduleId 2
  ++ leBytes (b2n r.timeValid + 2 * b2n r.fromHold + 4 * b2n r.stepFollows + 8 * r.cls) 1

/-- The 32 bytes of a record (R379). -/
def recBytes (r : LogRec) : List Byte := recBody r ++ [crc8 (recBody r)]

/-- SEQ `a` is newer than SEQ `b` (R380). -/
def seqNewer (a b : Nat) : Bool :=
  have d := (a + 2 ^ 32 - b) % 2 ^ 32
  decide (1 ≤ d) && decide (d < 2 ^ 31)

/-- The grants of LOG_POLICY, from grant `i` on, admit a record to a virtual function (R386, R388). -/
def grantCovers (b : List Byte) (base v block inst n i : Nat) : Bool :=
  match n with
  | 0 => false
  | n + 1 =>
    have o := base + 8 * i
    (decide (leAt b o 2 = v) && decide (byteAt b (o + 2) = block) && decide (leAt b (o + 4) 2 ≤ inst)
      && decide (inst < leAt b (o + 4) 2 + leAt b (o + 6) 2)) || grantCovers b base v block inst n (i + 1)

/-- A reader may see a record (R386). -/
def State.mayRead (s : State) (q : Requester) (r : LogRec) : Bool :=
  match q with
  | .vf v =>
    have b := s.cfg 0xD 0
    grantCovers b (16 + 4 * leAt b 2 2) v.val r.block r.inst (leAt b 4 2) 0
  | _ => true

/-- A reader's cursor and controls. -/
def State.reader (s : State) (q : Requester) : LogReader :=
  tget s.log.readers (readerId q) { cursor := s.log.cursorBase }

/-- A reader's cursor and controls with a new value. -/
def State.setReader (s : State) (q : Requester) (r : LogReader) : State :=
  { s with
      log := { s.log with
      readers := tset s.log.readers (readerId q) r { cursor := s.log.cursorBase } } }

/-- The records of the ring that a reader selects (R385). -/
def State.ringOf (s : State) (q : Requester) : List LogRec :=
  if (s.reader q).ring then s.log.nvm else s.log.dram

/-- A reader whose cursor is older than the oldest record held: the cursor takes that record's SEQ
and SKIPPED is set (R384). -/
def State.readerNow (s : State) (q : Requester) : LogReader :=
  have r := s.reader q
  match s.ringOf q with
  | [] => r
  | o :: _ => if seqNewer o.seq r.cursor then { r with cursor := o.seq, skipped := true } else r

/-- The records that a reader's window shows, at most 8 (R384, R386). -/
def State.window (s : State) (q : Requester) : List LogRec :=
  have c := (s.readerNow q).cursor
  ((s.ringOf q).filter (fun r => (decide (r.seq = c) || seqNewer r.seq c) && s.mayRead q r)).take 8

/-- The word of a reader's window at a byte offset. -/
def State.windowWord (s : State) (q : Requester) (off : Nat) : Word :=
  match (s.window q)[off / 32]? with
  | none => 0
  | some r => BitVec.ofNat 32 (leAt (recBytes r) (off % 32) 4)

/-- A read of the last window word (R384). -/
def windowLastRead (q : Requester) (s : State) : State :=
  have w := s.windowWord q 0xFC
  have r := s.readerNow q
  have r := match (s.window q).getLast? with
    | none => r
    | some x => { r with cursor := (x.seq + 1) % 2 ^ 32 }
  { s.setReader q r with readData := w }

/-- LOG_WINDOW_LAST_READ (R384). -/
def execLogWindowLastRead (dt : Nat) (q : Requester) (s : State) : Result :=
  .next (windowLastRead q (s.elapse dt))

/-- The LOST record for the losses so far (R383, R387), which clears them. -/
def State.lostRec (s : State) : LogRec :=
  s.mkRec 0x0020 0x0E 0x3FF (s.log.lostCrit + 65536 * s.log.lostAlarm)
    (s.log.lostNotice + 65536 * s.log.lostTrace) s.log.lostFirst

/-- The losses are reported. -/
def State.clearLosses (s : State) : State :=
  { s with log := { s.log with lostCrit := 0, lostAlarm := 0, lostNotice := 0, lostTrace := 0,
                               lostFirst := 0xFFFFFFFF, lostAny := false, holdLoss := false } }

/-- The logbook accepts the record at the head of its queue; a LOST record follows earlier losses as
soon as the queue has room (R380, R383). -/
def logRecordAccept (s : State) : State :=
  match s.log.queue with
  | [] => s
  | r :: rest =>
    have s := { s with log := { s.log with queue := rest, mark := s.log.mark - 1 } }
    have s := s.logAccept r
    if s.log.lostAny && !s.log.holdLoss then (s.clearLosses).logOffer s.lostRec else s

/-- LOG_RECORD_ACCEPT (R383). -/
def execLogRecordAccept (dt : Nat) (s : State) : Result := .next (logRecordAccept (s.elapse dt))

/-- The oldest CRITICAL record that waits is written to the NVM ring, or the write fails (R382). -/
def criticalNvmWrite (ok : Bool) (s : State) : State :=
  match s.log.nvmWait with
  | [] => s
  | r :: rest =>
    if ok then
      { s with log := { s.log with nvmWait := rest, nvm := ringPut s.log.nvm r 16384, nvmOk := true } }
    else ({ s with log := { s.log with nvmWait := rest, nvmOk := false } }).setEvent 708

/-- CRITICAL_NVM_WRITE (R382). -/
def execCriticalNvmWrite (dt : Nat) (ok : Bool) (s : State) : Result :=
  .next (criticalNvmWrite ok (s.elapse dt))

/-- Address of LOG_CMD. -/
def logCmdReg : Nat := 0xB00000

/-- FREEZE (R387, R392). -/
def logFreeze (rsv arg : Nat) (s : State) : State :=
  s.runCmd logCmdReg 1 rsv arg (verdict (arg = 0) (s.afterStage 2 && !s.log.frozen)) fun s =>
    ({ s with log := { s.log with frozen := true, frozenAt := s.time.mono } }).cmdDone logCmdReg

/-- LOG_FREEZE (R387). -/
def execLogFreeze (dt : Nat) (rsv : BitVec 8) (arg : BitVec 16) (s : State) : Result :=
  .next (logFreeze rsv.toNat arg.toNat (s.elapse dt))

/-- UNFREEZE (R387, R392): DONE once the hold buffer has drained. DEDUCED, log entry 38. -/
def logUnfreeze (rsv arg : Nat) (s : State) : State :=
  s.runCmd logCmdReg 2 rsv arg (verdict (arg = 0) s.log.frozen) fun s =>
    { s with log := { s.log with frozen := false, draining := true } }

/-- LOG_UNFREEZE (R387). -/
def execLogUnfreeze (dt : Nat) (rsv : BitVec 8) (arg : BitVec 16) (s : State) : Result :=
  .next (logUnfreeze rsv.toNat arg.toNat (s.elapse dt))

/-- The freeze limit is reached (R387). In the clock of an UNFREEZE there is one unfreeze, and
FREEZE_TIMEOUT is raised (R391). DEDUCED, log entry 38. -/
def freezeTimeout (sameClock : Bool) (s : State) : State :=
  if s.log.frozen then
    ({ s with log := { s.log with frozen := false, draining := true } }).setEvent 705
  else if sameClock && (s.cmd logCmdReg).pending && decide ((s.cmd logCmdReg).runCode = 2) then
    s.setEvent 705
  else s

/-- FREEZE_TIMEOUT (R387). -/
def execFreezeTimeout (dt : Nat) (s : State) : Result :=
  .next (freezeTimeout (dt = 0) (s.elapse dt))

/-- The hold buffer has drained into the ring (R387). -/
def holdDrainDone (s : State) : State :=
  if s.log.draining then
    have s := { s with
        log := { s.log with
        dram := s.log.hold.foldl (fun d r => ringPut d r 262144) s.log.dram, hold := [],
        draining := false } }
    have s := if s.log.lostAny then (s.clearLosses).logAccept s.lostRec else s
    if (s.cmd logCmdReg).pending && decide ((s.cmd logCmdReg).runCode = 2) then s.cmdDone logCmdReg
    else s
  else s

/-- HOLD_DRAIN_DONE (R387). -/
def execHoldDrainDone (dt : Nat) (s : State) : Result := .next (holdDrainDone (s.elapse dt))

/-- CLEAR_ARM (R390, R392). DEDUCED, log entry 37. -/
def clearArm (q : Requester) (rsv arg : Nat) (s : State) : State :=
  s.runCmd logCmdReg 3 rsv arg
    (verdict (arg = 1 || arg = 3) (s.afterBoot && decide (q = .pf0))) fun s =>
    ({ s with log := { s.log with armed := arg } }).cmdDone logCmdReg

/-- CLEAR_ARM (R390). -/
def execClearArm (dt : Nat) (q : Requester) (rsv : BitVec 8) (arg : BitVec 16) (s : State) : Result :=
  .next (clearArm q rsv.toNat arg.toNat (s.elapse dt))

/-- The newest SEQ of a list of records, or 0. -/
def newestSeq (l : List LogRec) : Nat :=
  match l with
  | [] => 0
  | r :: rest => rest.foldl (fun m x => if seqNewer x.seq m then x.seq else m) r.seq

/-- The rings are emptied and the CLEAR record becomes the first record of each (R390). -/
def State.clearRings (s : State) (scope : Nat) : State :=
  have both := decide (scope = 3)
  have gone := if both then
      s.log.dram ++ (s.log.nvm ++ s.log.nvmWait).filter
        (fun r => !(s.log.dram.any (fun x => decide (x.seq = r.seq))))
    else s.log.dram
  have c := s.mkRec 0x0021 0x0E 0x3FF scope (newestSeq gone) gone.length
  have seq := s.log.nextSeq
  have s := { s with
      log := { s.log with
      dram := [], nvm := if both then [] else s.log.nvm,
      nvmWait := if both then [] else s.log.nvmWait, armed := 0 } }
  have s := s.logAccept c
  have s := { s with
      log := { s.log with
      cursorBase := seq
      readers := (s.log.readers.filter (fun (e : Nat × LogReader) => e.2.ring || e.2.skipped)).map
        (fun (e : Nat × LogReader) => (e.1, { e.2 with cursor := seq })) } }
  s.setEvent 707

/-- CLEAR_CONFIRM (R390, R391, R392). DEDUCED, log entry 37. -/
def clearConfirm (q : Requester) (rsv arg : Nat) (s : State) : State :=
  s.runCmd logCmdReg 4 rsv arg
    (verdict (arg < 4)
      (decide (q = .pf0) && !decide (arg = 0) && decide (s.log.armed = arg) && !s.log.frozen)) fun s =>
    (s.clearRings arg).cmdDone logCmdReg

/-- CLEAR_CONFIRM (R390). -/
def execClearConfirm (dt : Nat) (q : Requester) (rsv : BitVec 8) (arg : BitVec 16) (s : State) :
    Result :=
  .next (clearConfirm q rsv.toNat arg.toNat (s.elapse dt))

/-- A clear is no longer armed. DEDUCED, log entry 37. -/
def clearDisarm (s : State) : State := { s with log := { s.log with armed := 0 } }

/-- CLEAR_ARM_EXPIRY (R390). -/
def execClearArmExpiry (dt : Nat) (s : State) : Result := .next (clearDisarm (s.elapse dt))

/-- A command written to LOG_CMD (R392). -/
def logCommand (q : Requester) (code rsv arg : Nat) (s : State) : State :=
  if code = 1 then logFreeze rsv arg s
  else if code = 2 then logUnfreeze rsv arg s
  else if code = 3 then clearArm q rsv arg s
  else if code = 4 then clearConfirm q rsv arg s
  else s.badCode logCmdReg code rsv arg

end Sys2Proof.Machine
end

