-- ==== Sys2Proof/Machine/Boot.lean ====
section
/-!
DEFINITION. Module reset, wake, BOOT, the image load and commissioning (R26, R32, R33, R42 to R47, R66, R80).
-/

namespace Sys2Proof.Machine

open Sys2Proof

/-! ### Module reset (R26, R32) -/

/-- A sparse table with every entry rebuilt. -/
def tkeep {α : Type} [DecidableEq α] (t : Tbl α) (d : α) (f : α → α) : Tbl α :=
  (t.map (fun e => (e.1, f e.2))).filter (fun e => decide (e.2 ≠ d))

/-- The logbook across a module reset. Records already written are accepted, the CRITICAL ones reach the NVM
ring, and SEQ starts one above the newest there (R380, R382). -/
def State.logReset (s : State) : LogUnit :=
  have l := (s.log.queue.foldl (fun (s : State) r => s.logAccept r)
    { s with log := { s.log with queue := [], mark := 0 } }).log
  have nvm := l.nvmWait.foldl (fun n r => ringPut n r 16384) l.nvm
  have next := if nvm.isEmpty then 0 else (newestSeq nvm + 1) % 2 ^ 32
  { nvm := nvm, nextSeq := next, cursorBase := next }

/-- What the lamp room keeps: the array, the battery-backed memory and its NVM. -/
def LmpUnit.kept (l : LmpUnit) : LmpUnit :=
  { life := l.life, sensors := l.sensors, tampers := l.tampers, zeroed := l.zeroed, factoryRoot := l.factoryRoot,
    ownerRoot := l.ownerRoot, returnRoot := l.returnRoot, idevScalar := l.idevScalar, fwKey := l.fwKey,
    factoryKey := l.factoryKey, ownerKey := l.ownerKey, authKey := l.authKey, boundId := l.boundId,
    slots := l.slots, counters := l.counters, journal := l.journal, journalSeq := l.journalSeq, certs := l.certs,
    draws := l.draws }

/-- What a port's outside gives it: the transceiver and the link's delay. -/
def Port.kept (x : Port) : Port :=
  { modMismatch := x.modMismatch, modTxFault := x.modTxFault, modLos := x.modLos, modPresent := x.modPresent,
    linkDelay := x.linkDelay }

/-- Stored asymmetry values are active again (R33, R99). -/
def Asym.kept (a : Asym) : Asym :=
  if a.stored = [] then {} else { active := a.stored, stored := a.stored, state := 1 }

/-- A module reset through BOOT. The always-on domain, flash, settings NVM and what lies outside the module
stay; every other state returns to its reset value. -/
def State.moduleReset (s : State) : State :=
  { pending := s.pending, out := s.out, readData := s.readData
    time := { mono := s.time.mono, backup := s.time.backup }
    glb :=
      { mode := s.glb.mode, prev := s.glb.prev, lastCause := s.glb.lastCause, latchClosed := s.glb.latchClosed,
        present := s.glb.present, slot := s.glb.slot, variant := s.glb.variant, setAside := s.glb.setAside }
    pwr := { s.pwr with warned := false, above := 0, under := 0, overLimit := false, limit := false }
    log := s.logReset
    img :=
      { bank0 := s.img.bank0, bank1 := s.img.bank1, minGen := s.img.minGen, nvm := s.img.nvm,
        journal := s.img.journal }
    bcn := { asym := tkeep s.bcn.asym {} Asym.kept }
    ports := tkeep s.ports {} Port.kept
    bin := tkeep s.bin {} (fun b => { raw := b.raw })
    prf := { tagDraws := s.prf.tagDraws }
    cnd := { line := s.cnd.line }
    lmp := s.lmp.kept
    gal := { archive := s.gal.archive, archNext := s.gal.archNext } }

/-! ### DORMANT and wake (R32, R44, R45, R47) -/

/-- The wake logic waits for precharge, on a cause of the wake. Causes of one clock join (R54). DEDUCED, log
entry 27. -/
def State.waitPrecharge (s : State) (bits : Word) (go : Bool) : State :=
  have both := if s.pwr.wakeAt = s.time.mono then s.pwr.wakeBits ||| bits else bits
  { s with
      pwr := { s.pwr with
      waitPre := go, wakeBits := both, wakeAt := s.time.mono, retries := 0, retryStopped := false } }

/-- The module becomes DORMANT. A latch that is closed then wakes it (R46, R47). -/
def State.toDormant (cause : Nat) (s : State) : State :=
  have s := s.setMode .dormant cause
  if s.glb.latchClosed ∧ s.pwr.supply then s.waitPrecharge 4 true else s

/-- BOOT starts (R42, R54, R504). DEDUCED, log entry 27. -/
def State.bootStart (s : State) (bits : Word) (cause : Nat) : State :=
  have bits := bits ||| putB s.pwr.tamperDormant 4
  have s := s.moduleReset.setMode .boot cause
  { s with glb := { s.glb with changes := 0, wakeCause := bits, bootStage := 1 } }

/-- A wake from DORMANT: PRECHARGE_FAIL of an earlier attempt joins the cause (R45, R504). DEDUCED, log
entry 27. -/
def State.wake (s : State) : State :=
  have bits := s.pwr.wakeBits
  have fail := s.pwr.preFail
  have s := { s with pwr := { s.pwr with waitPre := false, wakeBits := 0, preFail := false, retries := 0 } }
  s.bootStart (bits ||| putB fail 5) (if bits.getLsbD 1 then 1 else 2)

/-- RESTART and EXIT_MAINTENANCE (R32, R504). -/
def State.restart (s : State) : State := s.bootStart 8 9

/-- LATCH_CLOSED: GLB_HOTPLUG.LATCH_CLOSED reads 1. In DORMANT the wake logic waits for precharge when the
supply is present; a removal sequence runs on (R44, R47). -/
def latchClosed (s : State) : State :=
  if s.glb.latchClosed then s
  else
    have s := { s with glb := { s.glb with latchClosed := true } }
    if s.glb.mode = .dormant then s.waitPrecharge 4 s.pwr.supply else s

/-- LATCH_CLOSED (R44). -/
def execLatchClosed (dt : Nat) (s : State) : Result := .next (latchClosed (s.elapse dt))

/-- SUPPLY_ON: supply returns; with the latch closed the wake logic waits for precharge (R32). -/
def supplyOn (s : State) : State :=
  if s.pwr.supply then s
  else
    have s := { s with pwr := { s.pwr with supply := true } }
    if s.glb.mode = .dormant then s.waitPrecharge 2 s.glb.latchClosed else s

/-- SUPPLY_ON (R32). -/
def execSupplyOn (dt : Nat) (s : State) : Result := .next (supplyOn (s.elapse dt))

/-- PRECHARGE_COMPLETE: the bulk voltage reaches 90 % of the input and BOOT starts (R44). -/
def prechargeComplete (s : State) : State :=
  if s.glb.mode = .dormant ∧ s.pwr.waitPre = true then s.wake else s

/-- PRECHARGE_COMPLETE (R44). -/
def execPrechargeComplete (dt : Nat) (s : State) : Result := .next (prechargeComplete (s.elapse dt))

/-- PRECHARGE_FAIL: 50 ms have passed below 90 % (R45). -/
def prechargeFail (s : State) : State :=
  if s.glb.mode = .dormant ∧ s.pwr.waitPre = true then
    { s with pwr := { s.pwr with waitPre := false, preFail := true, retries := 0, retryStopped := false } }
  else s

/-- PRECHARGE_FAIL (R45). -/
def execPrechargeFail (dt : Nat) (s : State) : Result := .next (prechargeFail (s.elapse dt))

/-- PRECHARGE_RETRY: `ok` says that the bulk voltage is at or above 90 %. The tenth unsuccessful retry is the
last (R45). -/
def prechargeRetry (ok : Bool) (s : State) : State :=
  have p := s.pwr
  if s.glb.mode = .dormant ∧ p.waitPre = false ∧ p.preFail = true ∧ p.retryStopped = false ∧
      s.glb.latchClosed = true ∧ p.supply = true then
    if ok then s.wake
    else { s with pwr := { p with retries := p.retries + 1, retryStopped := decide (p.retries + 1 ≥ 10) } }
  else s

/-- PRECHARGE_RETRY (R45). -/
def execPrechargeRetry (dt : Nat) (ok : Bool) (s : State) : Result := .next (prechargeRetry ok (s.elapse dt))

/-! ### BOOT (R42, R43) -/

/-- BOOT ends in DEGRADED at the running stage (R42, R504). DEDUCED, log entry 28. -/
def State.bootFail (s : State) (code blk : Nat) : State :=
  have s := { s with glb := { s.glb with failStage := s.glb.bootStage } }
  ((s.raiseGlb 8).faultSet code blk 0xFF).setMode .degraded code

/-- A tamper is reported: the record, the GLB event and the lamp room's event (R43, R339). -/
def State.tamperReport (s : State) : State :=
  ((s.logPut 0x0007 0x0C 0x3FF s.lmp.sensors s.lmp.tampers 0).raiseGlb 6).raiseRec 608 0x3FF

/-- A stage has passed: the next one runs, or COMMISSION starts (R42). DEDUCED, log entry 28. -/
def State.stagePass (s : State) : State :=
  have n := s.glb.bootStage
  have s := { s with glb := { s.glb with stagePass := s.glb.stagePass + 2 ^ (n - 1), bootStage := n + 1 } }
  if n = 10 then
    have im := s.img.run
    have s := s.logPut 0x0001 0x00 0x3FF s.glb.wakeCause.toNat (if im.isSome then s.img.runBank else 0xFF)
      ((im.map (·.gen)).getD 0)
    ({ s with prf := { s.prf with running := true } }).setMode .commission 3
  else s

/-- The end of a boot stage. `pass` says whether the stage's own checks of the hardware passed (R42).
DEDUCED, log entry 28. -/
def bootStage (pass : Bool) (s : State) : State :=
  if s.glb.mode = .boot then
    match s.glb.bootStage with
    | 2 =>
      if s.pwr.tamperDormant then
        have s := { s with pwr := { s.pwr with tamperDormant := false } }
        s.tamperReport.bootFail 0x12 0x0C
      else if pass then s.stagePass else s.bootFail 4 0
    | 3 =>
      have s := s.lampBoot pass
      if s.lmp.mode = 1 ∧ 1 ≤ s.lmp.life ∧ s.lmp.life ≤ 4 then
        have id := if s.lmp.life = 1 then 0 else s.lmp.boundId
        ({ s with glb := { s.glb with idValid := decide (s.lmp.life ≠ 1), moduleId := id } }).stagePass
      else s.bootFail 6 0x0C
    | 8 =>
      let (s, ok) := if pass then s.selectBank else (s, false)
      if ok then s.stagePass else s.bootFail 5 0x02
    | 9 => if pass then (s.settingsResolve.journalResolve).stagePass else s.bootFail 4 0
    | _ => if pass then s.stagePass else s.bootFail 4 0
  else s

/-- BOOT_STAGE_COMPLETE (R42). -/
def execBootStageComplete (dt : Nat) (pass : Bool) (s : State) : Result := .next (bootStage pass (s.elapse dt))

/-! ### The image load (R80) -/

/-- The channel slots of the image: their stream, grid and instant table (R190, R224, R227). -/
def State.chanLoad (s : State) (c : StreamCfg) : State :=
  forN c.channels (fun i s =>
    have n := c.slotBase + i
    s.setChan n { s.chan n with
        stream := c.index, chan := i, grid := c.grid i, table := gridTable c.group (c.grid i),
        inputAges := inputAges c s.frameRate, inUse := true }) s

/-- Every block takes its sections of the selected image, and the plane is filled. -/
def State.loadBlocks (s : State) : State :=
  have s := { s with
      img := { s.img with loaded := true }
      bcn := { s.bcn with utc := leIntAt s.tp 0x58 2 } }
  have s := rdgLoad s
  have s := (s.fillSettings.fieldLoad.canLoad 0).canLoad 1
  have s := s.streamCfgs.foldl (fun s c => s.chanLoad c) s.hstLoad
  have s := ((s.kprLoad.sviLoad).fillAll s.now).pubLoad.galLoad
  s.keyMismatches

/-- IMAGE_LOADED: the selected image is loaded once, in COMMISSION (R32, R80). -/
def imageLoaded (s : State) : State :=
  if s.glb.mode = .commission ∧ s.img.loaded = false ∧ s.img.run.isSome = true then
    s.loadBlocks.pairTrack
  else s

/-- IMAGE_LOADED (R80). -/
def execImageLoaded (dt : Nat) (s : State) : Result := .next (imageLoaded (s.elapse dt))

/-! ### Commissioning (R33) -/

/-- The process ports in service without an asymmetry correction value. -/
def State.asymPorts (s : State) : Nat :=
  (List.range 16).foldl (fun n p =>
    if s.role p ≠ 0 ∧ s.asymState p ≠ 1 then n + 2 ^ p else n) 0

/-- The unmet conditions of R33, in the bits of COMMISSION_UNMET (R389). -/
def State.unmet (s : State) : Nat :=
  b2n (!s.time.stepped) + 2 * b2n (!s.img.loaded) + 4 * b2n (!(s.img.loaded && s.settingsMet)) +
    8 * b2n (decide (s.asymPorts ≠ 0)) + 16 * b2n (!(s.kpr.synced && !s.cnd.afterStep))

/-- GLB_CTRL.HOLD_COMMISSION. DEDUCED, log entry 30. -/
def State.holdCommission (s : State) : Bool := (s.rd 0x1C).getLsbD 0

/-- What waits at the global block for a commit completes (R36, R41). -/
def State.glbCommit (s : State) : State :=
  have w := s.glb.waiting
  have t := { s with glb := { s.glb with waiting := none, inTransition := false } }
  match w with
  | some .commission => t.setMode .standby 7
  | some .enterTest => (t.setMode .test 9).cmdDone glbCmdReg
  | some .exitTest => (t.setMode .standby 9).cmdDone glbCmdReg
  | some .leaveCommission => (t.setMode .standby 7).cmdDone glbCmdReg
  | some .handover | none => s

/-- A transition waits for the next commit. Where no frames run there is none to wait for. -/
def State.glbWait (s : State) (w : GlbWait) : State :=
  have s := { s with glb := { s.glb with waiting := some w, inTransition := true } }
  if s.kpr.frames then s else s.glbCommit

/-- COMMISSION_COMPLETE: the conditions are met and HOLD_COMMISSION is 0 (R32, R33). -/
def commissionComplete (s : State) : State :=
  if s.glb.mode = .commission ∧ s.glb.inTransition = false ∧ s.holdCommission = false ∧ s.unmet = 0 then
    s.glbWait .commission
  else s

/-- COMMISSION_COMPLETE (R33). -/
def execCommissionComplete (dt : Nat) (s : State) : Result := .next (commissionComplete (s.elapse dt))

/-- The commission timeout in seconds, its default without an image (R332). -/
def State.commissionS (s : State) : Nat := if s.pp.isEmpty then 120 else leAt s.pp 8 2

/-- COMMISSION_TIMEOUT: the timeout has passed with conditions unmet (R32, R504). -/
def commissionTimeout (s : State) : State :=
  if s.glb.mode = .commission ∧ s.time.mono ≥ s.glb.since + s.commissionS * secUnit ∧ s.unmet ≠ 0 then
    have m := s.unmet
    have s := s.logPut 0x0018 0x00 0x3FF m s.asymPorts 0
    (s.faultSet 8 0 0xFF).setMode .degraded 8
  else s

/-- COMMISSION_TIMEOUT (R32). -/
def execCommissionTimeout (dt : Nat) (s : State) : Result := .next (commissionTimeout (s.elapse dt))

end Sys2Proof.Machine
end

