-- ==== Sys2Proof/Machine/Glb.lean ====
section
/-!
DEFINITION. Removal, supply, temperature, tamper, block-instance reset and the GLB commands (R31, R35, R41,
R46 to R52, R339, R486, R487, R495).
-/

namespace Sys2Proof.Machine

open Sys2Proof

/-! ### Removal (R46, R47) -/

/-- An ACTIVE module that leaves service hands over, or yields at once where the handover cannot proceed. An
exchange that already takes control away goes on as part of the sequence (R46, R320, R327). -/
def State.leaveActiveMode (s : State) : State :=
  if s.pair.ex ≠ 0 then { s with pair := { s.pair with exLeave := true } }
  else if (s.exRequest 1 true false).2 then (s.exRequest 1 true false).1
  else s.yieldTo 0x15 .standby

/-- What the start of the sequence does to a module after BOOT. -/
def State.leaveOperating (s : State) : State :=
  have s := s.reloadAbandon.pairTrack
  if s.glb.mode = .active then s.leaveActiveMode else s

/-- The removal sequence starts (R46). In BOOT it ends in DORMANT at once (R32). DEDUCED, log entry 26. -/
def State.leaveStart (s : State) : State :=
  if s.glb.leaving ∨ s.glb.mode = .dormant then s
  else
    have t := ({ s with glb := { s.glb with leaving := true, leaveStep := 1 } }).raiseGlb 3
    if s.glb.mode = .boot then t.toDormant 0x15 else t.leaveOperating

/-- LATCH_OPENED: the ejector latch opens (R46). In DORMANT it ends a wake that waits for precharge.
DEDUCED, log entry 26. -/
def latchOpened (s : State) : State :=
  if s.glb.latchClosed then
    have s := { s with glb := { s.glb with latchClosed := false, latchOpened := true } }
    if s.glb.mode = .dormant then { s with pwr := { s.pwr with waitPre := false } }
    else s.cause 4 0x15 State.leaveStart
  else s

/-- LATCH_OPENED (R46). -/
def execLatchOpened (dt : Nat) (s : State) : Result := .next (latchOpened (s.elapse dt))

/-- REMOVAL_QUIESCED: flash writes stop at a page boundary, DMA stops, the host is told and the lantern
stops. An accepted NVM_STORE completes (R46 step 4). DEDUCED, log entry 26; DEDUCED, log entry 116. -/
def removalQuiesced (s : State) : State :=
  if s.glb.leaveStep = 1 ∧ s.glb.mode ≠ .active ∧ s.glb.mode ≠ .dormant then
    have s := s.loadAbort.pf0Stop
    have s := s.fnNums.foldl (fun s v => if v = 0 then s else s.clearQueues v) s
    have s := s.emit .hotPlug
    { s with
        pub := { s.pub with lanternStop := true, lantern := false }
        glb := { s.glb with leaveStep := 4 } }
  else s

/-- REMOVAL_QUIESCED (R46). -/
def execRemovalQuiesced (dt : Nat) (s : State) : Result := .next (removalQuiesced (s.elapse dt))

/-- SAFE_TO_REMOVE: the bit is set and the carrier indicator lights (R46 step 5). DEDUCED, log entry 116. -/
def safeToRemove (s : State) : State :=
  if s.glb.leaveStep = 4 ∧ s.glb.mode ≠ .dormant then
    (({ s with glb := { s.glb with safe := true, leaveStep := 5 } }).raiseGlb 4).emit .indicator
  else s

/-- SAFE_TO_REMOVE (R46). -/
def execSafeToRemove (dt : Nat) (s : State) : Result := .next (safeToRemove (s.elapse dt))

/-- REMOVAL_DORMANT: the fast clocks stop (R46 step 6). -/
def removalDormant (s : State) : State :=
  if s.glb.leaveStep = 5 ∧ s.glb.mode ≠ .dormant then s.toDormant 0x15 else s

/-- REMOVAL_DORMANT (R46). -/
def execRemovalDormant (dt : Nat) (s : State) : Result := .next (removalDormant (s.elapse dt))

/-! ### Supply (R32, R486, R487) -/

/-- SUPPLY_LOSS: the input falls below its warning threshold. In DORMANT a wake that waits ends. DESIGN
CHOICE, log entry 109. -/
def supplyLoss (s : State) : State :=
  if s.glb.mode = .dormant then { s with pwr := { s.pwr with supply := false, waitPre := false } }
  else { s with pwr := { s.pwr with below := true } }

/-- SUPPLY_LOSS (R486). -/
def execSupplyLoss (dt : Nat) (s : State) : Result := .next (supplyLoss (s.elapse dt))

/-- POWER_FAIL_WARN: the input has stayed below for 200 µs (R486). DESIGN CHOICE, log entry 109. -/
def powerFailWarn (s : State) : State :=
  if s.pwr.below = true ∧ s.pwr.warned = false ∧ s.glb.mode ≠ .dormant then
    (({ s with pwr := { s.pwr with warned := true } }).raiseGlb 5).fault .powerFail 0x00 0xFF
  else s

/-- POWER_FAIL_WARN (R486). -/
def execPowerFailWarn (dt : Nat) (s : State) : Result := .next (powerFailWarn (s.elapse dt))

/-- HOLDUP_EXPIRY: the converter stops at 10 ms (R486). -/
def holdupExpiry (s : State) : State :=
  if s.pwr.below = true ∧ s.glb.mode ≠ .dormant then
    ({ s with pwr := { s.pwr with supply := false, below := false } }).cause 2 0x16 (State.toDormant 0x16)
  else s

/-- HOLDUP_EXPIRY (R486). -/
def execHoldupExpiry (dt : Nat) (s : State) : Result := .next (holdupExpiry (s.elapse dt))

/-- SUPPLY_RESTORED: the input returns before hold-up ends. After a warning the module stays in DEGRADED (R487);
a dip shorter than 200 µs has no effect (R486). -/
def supplyRestored (s : State) : State := { s with pwr := { s.pwr with below := false, warned := false } }

/-- SUPPLY_RESTORED (R487). -/
def execSupplyRestored (dt : Nat) (s : State) : Result := .next (supplyRestored (s.elapse dt))

/-! ### Temperature (R495) -/

/-- The shed levels whose entry value a die temperature in m°C reaches. -/
def shedIn (die : Int) : Nat := if die ≥ 101000 then 3 else if die ≥ 99000 then 2 else if die ≥ 97000 then 1 else 0

/-- The shed levels, from the highest down, whose release value a die temperature in m°C reaches. -/
def shedOut (die : Int) : Nat := if die ≤ 94000 then 3 else if die ≤ 96000 then 2 else if die ≤ 98000 then 1 else 0

/-- THERMAL_READING: the die and the two rails in m°C. A level is entered and left after two consecutive
readings (R495). DEDUCED, log entry 29; DESIGN CHOICE, log entry 109. -/
def thermalReading (die railA railB : Int) (s : State) : State :=
  if s.glb.mode = .dormant then s
  else
    have p := s.pwr
    have above := shedIn die
    have under := shedOut die
    have hot := decide (die ≥ 105000) || decide (railA ≥ 95000) || decide (railB ≥ 95000)
    have l := max (min s.gal.shed (3 - min under p.under)) (min above p.above)
    have warn := decide (s.gal.shed = 0) && decide (l ≥ 1)
    have reach := hot && p.overLimit && !p.limit
    have s := { s with
        pwr := { p with above := above, under := under, overLimit := hot, limit := p.limit || reach } }
    have s := if warn then s.raiseGlb 7 else s
    have s := s.setShed l
    if reach then s.fault .thermal 0x00 0xFF else s

/-- THERMAL_READING (R495). -/
def execThermalReading (dt : Nat) (die railA railB : Int) (s : State) : Result :=
  .next (thermalReading die railA railB (s.elapse dt))

/-! ### Tamper (R43, R339) -/

/-- TAMPER: a sensor trips. Sensor 6 is CELL, where the always-on domain and its backup counter lost power. -/
def tamper (sensor : Nat) (s : State) : State :=
  if s.tamperHeeded sensor = false then s
  else
    have s := s.tamperLatch sensor
    have s := if sensor = 6 then { s with time := { s.time with backup := 0 } } else s
    if s.glb.mode = .dormant then { s with pwr := { s.pwr with tamperDormant := true } }
    else
      have s := s.tamperReport
      if s.glb.mode = .boot then s.bootFail 0x12 0x0C else s.fault .tamper 0x0C 0xFF

/-- TAMPER (R339). -/
def execTamper (dt : Nat) (sensor : Fin 7) (s : State) : Result := .next (tamper sensor.val (s.elapse dt))

/-! ### Block-instance reset (R48 to R52) -/

/-- GLB_BLOCK_RESET. -/
def blockResetReg : Nat := 0x30

/-- The registers of an address range return to their reset values. -/
def State.clearRegs (s : State) (lo hi : Nat) : State :=
  { s with regs := s.regs.filter (fun (e : Nat × Word) => !(decide (lo ≤ e.1) && decide (e.1 < hi))) }

/-- A port is reset: its link drops, and its statistics counters, timestamp queues and PHY state clear
(R50). -/
def State.portReset (s : State) (p : Nat) : State :=
  have s :=
    if 24 ≤ p ∧ p < 32 then s.flushPort p
    else if (s.port p).adminDown then s
    else s.linkDown p
  have x := s.port p
  have s := s.setPort p { x.kept with holdDown := x.holdDown, holdAtUp := x.holdAtUp, recoverAtUp := true }
  have b := macBase p
  ((s.clearRegs (b + 0x400) (b + 0x500)).wr (b + 0x20) 0).wr (b + 0x24) 0

/-- The instances that a block-instance reset accepts (R48). -/
def resetKnown (blk inst : Nat) : Bool :=
  (decide (blk = 0x04) && decide (inst ≤ 32)) || (decide (blk = 0x09) && decide (inst < 16)) ||
    (decide (blk = 0x0D) && decide (inst < 16)) || (decide (blk = 0x10) && decide (inst < 8)) ||
    (decide (blk = 0x12) && decide (inst < 2))

/-- The effect of a block-instance reset (R50, R51). -/
def State.resetInstance (s : State) (blk inst : Nat) : State :=
  match blk with
  | 0x04 => s.portReset inst
  | 0x09 => s.keeperReset inst
  | 0x0D => s.galReset inst
  | 0x10 => s.coilReset inst
  | 0x12 => s.canReset inst
  | _ => s

/-- BLOCK_RESET: INSTANCE in ARG[9:0], BLOCK in ARG[15:10]. A keeper that holds a placement is refused (R48,
R51, R52, R54). -/
def blockReset (rsv arg : Nat) (s : State) : State :=
  have inst := arg % 1024
  have blk := arg / 1024
  s.runCmd blockResetReg 1 rsv arg
    (verdict (resetKnown blk inst) (decide (blk ≠ 0x09) || (s.placedOn inst).isEmpty)) fun s =>
    have s := s.logPut 0x0017 blk inst blk inst (if blk = 0x12 then s.canLost inst else 0)
    have s := s.resetInstance blk inst
    { s with glb := { s.glb with blockReset := some (blk, inst) } }

/-- BLOCK_RESET (R48). -/
def execBlockReset (dt : Nat) (rsv : BitVec 8) (arg : BitVec 16) (s : State) : Result :=
  .next (blockReset rsv.toNat arg.toNat (s.elapse dt))

/-- BLOCK_RESET_DONE: the reset completes within its bound (R50). DESIGN CHOICE, log entry 105. -/
def blockResetDone (s : State) : State :=
  if s.glb.blockReset.isSome then
    ({ s with glb := { s.glb with blockReset := none } }).cmdDone blockResetReg
  else s

/-- BLOCK_RESET_DONE (R50). -/
def execBlockResetDone (dt : Nat) (s : State) : Result := .next (blockResetDone (s.elapse dt))

/-- A write to GLB_BLOCK_RESET: any code but RESET returns REFUSED_ARG (R54). -/
def blockResetCommand (code rsv arg : Nat) (s : State) : State :=
  if code = 1 then blockReset rsv arg s else s.badCode blockResetReg code rsv arg

/-! ### GLB commands (R31, R41) -/

/-- The rule of R31 with FORCE. -/
def State.r31 (s : State) (force : Bool) : Bool := s.partnerActive || (decide (s.partner = 0) && force)

/-- A GLB command that acts on the mode. One that a higher cause of the same clock sets aside is recorded
and ends REFUSED_STATE (R35). DEDUCED, log entry 30. -/
def State.glbRun (s : State) (code rsv arg : Nat) (argOk stateOk : Bool) (act : State → State) : State :=
  match s.asideNow 6 with
  | none => s.runCmd glbCmdReg code rsv arg (verdict argOk stateOk) act
  | some c =>
    have s := if argOk && decide (rsv = 0) && !(s.cmd glbCmdReg).pending && !s.glb.inTransition then
        s.logPut 0x0003 0 0x3FF 9 c 0
      else s
    s.runCmd glbCmdReg code rsv arg (verdict argOk false) act

/-- ENTER_TEST (R31, R41). -/
def enterTest (rsv arg : Nat) (s : State) : State :=
  s.glbRun 1 rsv arg (decide (arg ≤ 1)) (decide (s.glb.mode = .standby) && s.r31 (decide (arg = 1)))
    (·.glbWait .enterTest)

/-- ENTER_TEST (R41). -/
def execEnterTest (dt : Nat) (rsv : BitVec 8) (arg : BitVec 16) (s : State) : Result :=
  .next (enterTest rsv.toNat arg.toNat (s.elapse dt))

/-- EXIT_TEST (R41). -/
def exitTest (rsv arg : Nat) (s : State) : State :=
  s.glbRun 2 rsv arg (decide (arg = 0)) (decide (s.glb.mode = .test)) (·.glbWait .exitTest)

/-- EXIT_TEST (R41). -/
def execExitTest (dt : Nat) (rsv : BitVec 8) (arg : BitVec 16) (s : State) : Result :=
  .next (exitTest rsv.toNat arg.toNat (s.elapse dt))

/-- The modes from which ENTER_MAINTENANCE acts, under R31 (R32, R41). -/
def State.maintOk (s : State) (force : Bool) : Bool :=
  match s.glb.mode with
  | .commission | .standby | .degraded => s.r31 force
  | .active => force && decide (s.partner = 0)
  | _ => false

/-- ENTER_MAINTENANCE (R31, R41). -/
def enterMaintenance (rsv arg : Nat) (s : State) : State :=
  s.glbRun 3 rsv arg (decide (arg ≤ 1)) (s.maintOk (decide (arg = 1))) fun s =>
    s.cause 6 9 (fun s => (s.setMode .maintenance 9).cmdDone glbCmdReg)

/-- ENTER_MAINTENANCE (R41). -/
def execEnterMaintenance (dt : Nat) (rsv : BitVec 8) (arg : BitVec 16) (s : State) : Result :=
  .next (enterMaintenance rsv.toNat arg.toNat (s.elapse dt))

/-- EXIT_MAINTENANCE, with no flash work running (R41). -/
def exitMaintenance (rsv arg : Nat) (s : State) : State :=
  s.glbRun 4 rsv arg (decide (arg = 0))
    (decide (s.glb.mode = .maintenance) && s.img.loading.isNone && !s.glb.leaving) fun s => s.cause 6 9 State.restart

/-- EXIT_MAINTENANCE (R41). -/
def execExitMaintenance (dt : Nat) (rsv : BitVec 8) (arg : BitVec 16) (s : State) : Result :=
  .next (exitMaintenance rsv.toNat arg.toNat (s.elapse dt))

/-- LEAVE_COMMISSION, with the conditions of R33 met. HOLD_COMMISSION clears (R32, R41). -/
def leaveCommission (rsv arg : Nat) (s : State) : State :=
  s.glbRun 5 rsv arg (decide (arg = 0)) (decide (s.glb.mode = .commission) && decide (s.unmet = 0)) fun s =>
    (s.wr 0x1C (s.rd 0x1C &&& ~~~ 1#32)).glbWait .leaveCommission

/-- LEAVE_COMMISSION (R41). -/
def execLeaveCommission (dt : Nat) (rsv : BitVec 8) (arg : BitVec 16) (s : State) : Result :=
  .next (leaveCommission rsv.toNat arg.toNat (s.elapse dt))

/-- HANDOVER: the exchange of R326 starts (R41, R327). -/
def handover (rsv arg : Nat) (s : State) : State :=
  s.glbRun 6 rsv arg (decide (arg = 0)) (s.handoverReady && (s.exRequest 1 false false).2 && !s.glb.leaving) fun s =>
    have s := { s with glb := { s.glb with waiting := some .handover } }
    (s.exRequest 1 false false).1

/-- HANDOVER (R41). -/
def execHandover (dt : Nat) (rsv : BitVec 8) (arg : BitVec 16) (s : State) : Result :=
  .next (handover rsv.toNat arg.toNat (s.elapse dt))

/-- LEAVE_SERVICE: the removal sequence runs as though the latch had opened (R41, R46). DEDUCED, log entry
116. -/
def leaveService (rsv arg : Nat) (s : State) : State :=
  s.runCmd glbCmdReg 7 rsv arg (verdict (decide (arg = 0)) (decide (s.glb.mode ≠ .dormant))) fun s =>
    s.cause 4 0x15 State.leaveStart

/-- LEAVE_SERVICE (R41). -/
def execLeaveService (dt : Nat) (rsv : BitVec 8) (arg : BitVec 16) (s : State) : Result :=
  .next (leaveService rsv.toNat arg.toNat (s.elapse dt))

/-- RESTART (R41). -/
def glbRestart (rsv arg : Nat) (s : State) : State :=
  s.glbRun 8 rsv arg (decide (arg = 0))
    ((decide (s.glb.mode = .commission) || decide (s.glb.mode = .degraded)) && !s.glb.leaving) fun s =>
    s.cause 6 9 State.restart

/-- RESTART (R41). -/
def execRestart (dt : Nat) (rsv : BitVec 8) (arg : BitVec 16) (s : State) : Result :=
  .next (glbRestart rsv.toNat arg.toNat (s.elapse dt))

/-- A write to GLB_CMD. -/
def glbCommand (code rsv arg : Nat) (s : State) : State :=
  if code = 1 then enterTest rsv arg s
  else if code = 2 then exitTest rsv arg s
  else if code = 3 then enterMaintenance rsv arg s
  else if code = 4 then exitMaintenance rsv arg s
  else if code = 5 then leaveCommission rsv arg s
  else if code = 6 then handover rsv arg s
  else if code = 7 then leaveService rsv arg s
  else if code = 8 then glbRestart rsv arg s
  else s.badCode glbCmdReg code rsv arg

/-! ### LOAD_CANDIDATE (R68, R240) -/

/-- LOAD_CANDIDATE. In MAINTENANCE it begins a whole-image reload, so protection frames stop (R240). -/
def loadCandidateNow (rsv arg : Nat) (buf : List Byte) (s : State) : State :=
  have t := loadCandidate rsv arg buf s
  if s.glb.mode = .maintenance ∧ s.img.loading = none ∧ t.img.loading ≠ none then t.framesStopAll else t

/-- LOAD_CANDIDATE (R68). -/
def execLoadCandidate (dt : Nat) (rsv : BitVec 8) (arg : BitVec 16) (buf : List Byte) (s : State) : Result :=
  .next (loadCandidateNow rsv.toNat arg.toNat buf (s.elapse dt))

/-- A write to IMG_CMD. DEDUCED, log entry 39. -/
def imgCommand (code rsv arg : Nat) (buf : List Byte) (s : State) : State :=
  if code = 1 then loadCandidateNow rsv arg buf s
  else if code = 2 then reload rsv arg s
  else if code = 3 then abandon rsv arg s
  else if code = 4 then invalidateBank rsv arg s
  else if code = 5 then setMinGen rsv arg s
  else if code = 6 then nvmStore rsv arg s
  else if code = 7 then settingsWrite rsv arg s
  else if code = 8 then settingsRevert rsv arg s
  else if code = 9 then settingsRead rsv arg s
  else s.badCode imgCmdReg code rsv arg

end Sys2Proof.Machine
end

