-- ==== Sys2Proof/Machine/PairCtl.lean ====
section
/-!
DEFINITION. Changes of control at an agreed frame, solo start, alignment, digests and the PAIR commands (R318,
R319, R324, R326 to R330, R333).
-/

namespace Sys2Proof.Machine

open Sys2Proof

/-- Frame `a` is at or after frame `b`, as serial numbers. -/
def frameGe (a b : Nat) : Bool := decide ((a + 2 ^ 32 - b) % 2 ^ 32 < 2 ^ 31)

/-- Frame `a` moved back by `n`. -/
def frameBack (a n : Nat) : Nat := (a + 2 ^ 32 - n) % 2 ^ 32

/-! ### The exchange of R326 -/

/-- The responder answers a request: it grants where the conditions of the KIND hold and refuses otherwise. -/
def State.exRespond (s : State) (kind target : Nat) : State :=
  if s.kpr.frames && s.exCond kind false then
    ({ s with
        pair := { s.pair with ex := 2, exKind := kind, exIni := false, exH := target, hold := none } }).ctrlSend 6
      (leBytes target 4)
  else ({ s with pair := { s.pair with ex := 0 } }).ctrlAbort target 1

/-- A CTRL_REQ. A request that crosses the module's own is ignored by an ACTIVE module; another module drops its
own request and answers as a responder in IDLE. -/
def State.exReq (s : State) (kind target : Nat) : State :=
  match s.pair.ex with
  | 0 => s.exRespond kind target
  | 1 =>
    if s.glb.mode = .active then s
    else
      have t := s.exRespond kind target
      if t.pair.ex = 0 then t.exClose false else t
  | _ => s

/-- CTRL_REQ_RX (R326). DEDUCED, log entry 85. -/
def ctrlReqRx (m : List Byte) (s : State) : State := s.bregRx 5 m (fun _ b s => s.exReq (byteAt b 0) (leAt b 4 4))

/-- CTRL_REQ_RX (R326). -/
def execCtrlReqRx (dt : Nat) (m : List Byte) (s : State) : Result := .next (ctrlReqRx m (s.elapse dt))

/-- CTRL_GRANT_RX: the initiator confirms (R326). DEDUCED, log entry 85. -/
def ctrlGrantRx (m : List Byte) (s : State) : State :=
  s.bregRx 6 m (fun _ b s =>
    if s.pair.ex = 1 ∧ leAt b 0 4 = s.pair.exH then
      ({ s with pair := { s.pair with ex := 3 } }).ctrlSend 7 (leBytes s.pair.exH 4)
    else s)

/-- CTRL_GRANT_RX (R326). -/
def execCtrlGrantRx (dt : Nat) (m : List Byte) (s : State) : Result := .next (ctrlGrantRx m (s.elapse dt))

/-- CTRL_CONFIRM_RX before the tick of H − 8 (R326). DEDUCED, log entry 85. -/
def ctrlConfirmRx (m : List Byte) (s : State) : State :=
  s.bregRx 7 m (fun _ b s =>
    if s.pair.ex = 2 ∧ leAt b 0 4 = s.pair.exH ∧ frameGe s.frameNum (frameBack s.pair.exH 8) = false then
      { s with pair := { s.pair with ex := 3 } }
    else s)

/-- CTRL_CONFIRM_RX (R326). -/
def execCtrlConfirmRx (dt : Nat) (m : List Byte) (s : State) : Result := .next (ctrlConfirmRx m (s.elapse dt))

/-- CTRL_ABORT_RX: the exchange with its TARGET ends. An abort that answers an ALIGN_REQ ends the alignment
(R326, R329). -/
def ctrlAbortRx (m : List Byte) (s : State) : State :=
  s.bregRx 8 m (fun _ b s =>
    if s.pair.ex ≠ 0 ∧ leAt b 0 4 = s.pair.exH then s.exEnd false
    else if s.pair.alWait then s.alignFail
    else s)

/-- CTRL_ABORT_RX (R326). -/
def execCtrlAbortRx (dt : Nat) (m : List Byte) (s : State) : Result := .next (ctrlAbortRx m (s.elapse dt))

/-- The checks of an exchange at the ticks of H − 8 and H − 2 (R326). -/
def State.exDeadline (s : State) : State :=
  have p := s.pair
  if p.ex = 1 ∧ frameGe s.frameNum (frameBack p.exH 8) = true then s.exEnd false
  else if p.ex = 2 ∧ frameGe s.frameNum (frameBack p.exH 8) = true then (s.ctrlAbort p.exH 2).exEnd false
  else if p.ex = 3 ∧ frameGe (frameBack p.exH 2) s.frameNum = true ∧ s.exCond p.exKind p.exIni = false then
    (s.ctrlAbort p.exH 3).exEnd false
  else s

/-- CTRL_DEADLINE (R326). -/
def execCtrlDeadline (dt : Nat) (s : State) : Result := .next (s.elapse dt).exDeadline

/-- LAST_CAUSE of the module that receives control (R504). -/
def gainCause (kind : Nat) : Nat := if kind = 0 then 0x0B else if kind = 1 then 0x1A else 0x1B

/-- The commit of H: control moves (R326, R504). -/
def State.exCommit (s : State) (frame : Nat) : State :=
  have p := s.pair
  if p.ex = 3 ∧ p.exH = frame then
    have s :=
      if decide (p.exKind ≠ 1) = p.exIni then
        if s.glb.mode = .standby then
          s.cause 5 (gainCause p.exKind) (fun s => s.setMode .active (gainCause p.exKind))
        else s
      else if s.glb.mode = .active then
        have c := if p.exKind = 0 then 0x0B else if p.exLeave then 0x15 else 9
        s.cause 5 c (fun s => s.setMode .standby c)
      else s
    s.exEnd true
  else s

/-- HANDBACK_HOLD of the pair policy in seconds (R332). -/
def State.handbackHold (s : State) : Nat := leAt s.pp 6 2

/-- HANDBACK_HOLD_EXPIRY: the conditions have held without a break, and the preferred module asks for
control (R327). DEDUCED, log entry 86. -/
def handbackHoldExpiry (s : State) : State :=
  match s.pair.hold with
  | none => s
  | some t => if s.time.mono ≥ t + s.handbackHold * secUnit then (s.exRequest 0 false false).1 else s

/-- HANDBACK_HOLD_EXPIRY (R327). -/
def execHandbackHoldExpiry (dt : Nat) (s : State) : Result := .next (handbackHoldExpiry (s.elapse dt))

/-- PAIR_START_INITIATE: the preferred module finds both STANDBY and eligible (R327). -/
def execPairStartInitiate (dt : Nat) (s : State) : Result := .next ((s.elapse dt).exRequest 2 false false).1

/-! ### Solo start and stand-down (R324, R328) -/

/-- A solo start completes (R328, R36). -/
def State.soloCommit (s : State) : State :=
  if s.pair.soloDue then
    have s := { s with
        pair := { s.pair with soloDue := false }, glb := { s.glb with inTransition := false } }
    if s.glb.mode = .standby ∧ s.eligible = true then s.cause 5 0x0C (fun s => s.setMode .active 0x0C) else s
  else s

/-- SOLO_WAIT_EXPIRY: a solo condition has lasted SOLO_WAIT; the module starts alone at its next commit
(R328). -/
def soloWaitExpiry (s : State) : State :=
  match s.pair.solo with
  | none => s
  | some t =>
    if s.soloCond ∧ s.glb.inTransition = false ∧ s.time.mono ≥ t + leAt s.pp 0x0A 2 * secUnit then
      have s := { s with
          pair := { s.pair with solo := none, soloDue := true }, glb := { s.glb with inTransition := true } }
      if s.kpr.frames then s else s.soloCommit
    else s

/-- SOLO_WAIT_EXPIRY (R328). -/
def execSoloWaitExpiry (dt : Nat) (s : State) : Result := .next (soloWaitExpiry (s.elapse dt))

/-- The stand-down at the next commit (R324). -/
def State.standCommit (s : State) : State :=
  match s.pair.stand with
  | none => s
  | some n =>
    have s := { s with pair := { s.pair with stand := none } }
    if s.glb.mode = .active then
      have s := s.cause 5 0x14 (fun s => s.setMode .standby 0x14)
      ({ s with pair := { s.pair with count := n } }).raiseRec 584 0x3FF
    else s

/-! ### Alignment (R329, R330) -/

/-- GLB_VERSION (R4). DESIGN CHOICE, log entry 4. -/
def State.glbVersion (s : State) : Nat := s.glb.variant * 2 ^ 24 + 0x024300

/-- The module sends ALIGN_REQ. -/
def State.alignRequest (s : State) : State :=
  ({ s with pair := { s.pair with alWait := true } }).bregSend 9 s.frameNum
    (leBytes (s.glbVersion % 65536) 2 ++ [0#8, 0#8] ++ leBytes s.runGen 4)

/-- A module in STANDBY or TEST, not ALIGNED, LINKED to a partner that runs frames (R329). -/
def State.alignMay (s : State) : Bool :=
  (decide (s.glb.mode = .standby) || decide (s.glb.mode = .test)) && decide (s.partner = 1) && !s.alignedNow

/-- ALIGN_INITIATE: on its own initiative, towards the source: the ACTIVE partner, or the preferred module when
neither is ACTIVE (R329). -/
def alignInitiate (s : State) : State :=
  if s.alignMay && s.kpr.frames && decide (s.pair.fog.slot ≠ 0xFF) && !s.aligning &&
      (decide (s.pair.fog.mode = 4) || !s.isPreferred) then s.alignRequest
  else s

/-- ALIGN_INITIATE (R329). -/
def execAlignInitiate (dt : Nat) (s : State) : Result := .next (alignInitiate (s.elapse dt))

/-- The module is the source (R329). -/
def State.alignIsSource (s : State) : Bool :=
  s.kpr.frames && !s.aligning &&
    (decide (s.glb.mode = .active) ||
      ((decide (s.glb.mode = .standby) || decide (s.glb.mode = .test)) && !s.partnerActive && s.isPreferred))

/-- The groups in use. -/
def State.groupsOn (s : State) : List Nat := (List.range 64).filter s.groupOn

/-- The number of state items (R330): slots, lattices, estimators, functions and the decisions. -/
def State.itemCount (s : State) : Nat :=
  s.slotsUsed.length + s.lattices.length + s.groupsOn.length + s.fnIds.length + 1

/-- The source plans the alignment: START `2 + lead` frames ahead, ALIGN_FRAME `span` frames after START. -/
def State.alignPlan (s : State) (lead span : Nat) : State :=
  have start := (s.frameNum + 2 + lead) % 2 ^ 32
  have frame := (start + span) % 2 ^ 32
  ({ s with
      pair := { s.pair with
      al := 1, alSource := true, alStart := start, alFrame := frame, alLeft := s.itemCount } }).bregSend 0xA
    s.frameNum (leBytes start 4 ++ leBytes frame 4)

/-- ALIGN_REQ_RX: the source answers with ALIGN_PLAN, or refuses where STEP or IMAGE_GEN differs. The spec
leaves START and ALIGN_FRAME to the source within bounds: `lead` and `span` give them (R329, R330). DESIGN
CHOICE, log entry 88. -/
def alignReqRx (m : List Byte) (lead span : Nat) (s : State) : State :=
  s.bregRx 9 m (fun _ b s =>
    if s.alignIsSource && decide (leAt b 0 2 = s.glbVersion % 65536) && decide (leAt b 4 4 = s.runGen) then
      s.alignPlan lead (max 1 span)
    else s.ctrlAbort 0 1)

/-- ALIGN_REQ_RX (R329). -/
def execAlignReqRx (dt : Nat) (m : List Byte) (lead : Nat) (span : Fin 4801) (s : State) : Result :=
  .next (alignReqRx m lead span.val (s.elapse dt))

/-- ALIGN_PLAN_RX: the requester takes the plan; `s0` is the S0 that the alignment moves (R215, R330).
DESIGN CHOICE, log entry 88. -/
def alignPlanRx (m : List Byte) (s0 : Nat) (s : State) : State :=
  s.bregRx 0xA m (fun _ b s =>
    if s.pair.alWait then
      { s with
          pair := { s.pair with
          alWait := false, al := 1, alSource := false, alStart := leAt b 0 4, alFrame := leAt b 4 4,
          alLeft := s.itemCount, alS0 := s0, items := [] } }
    else s)

/-- ALIGN_PLAN_RX (R330). -/
def execAlignPlanRx (dt : Nat) (m : List Byte) (s0 : Nat) (s : State) : Result :=
  .next (alignPlanRx m s0 (s.elapse dt))

/-- The count of a lattice's last instant. -/
def State.latCount (s : State) (t : Nat) : Nat := ((s.latPts t).head?.map (·.n)).getD 0

/-- The items that the source sends at the tick of START: slots, lattices and estimators, each as it stands
then. DESIGN CHOICE, log entry 21. -/
def State.alignSendChain (s : State) : State :=
  have s := s.slotsUsed.foldl (fun (s : State) c =>
    have n := ((s.stream (s.chan c).stream).count + 2 ^ 32 - 1) % 2 ^ 32
    s.emit (.align 0 c n (.slot (s.slot c) (s.chan c) (s.chanRings c)))) s
  have s := s.lattices.foldl (fun (s : State) (e : Nat × Nat) =>
    have t := gridTable e.1 e.2
    s.emit (.align 1 t (s.latCount t % 2 ^ 32) (.lattice { pts := s.latPts t } (s.plnBytes (gridInstAddr t 0) 2048)))) s
  have s := s.groupsOn.foldl (fun (s : State) g =>
    s.emit (.align 2 g (((s.group g).m + 2 ^ 32 - 1) % 2 ^ 32) (.estimator (s.group g)))) s
  { s with pair := { s.pair with alLeft := s.fnIds.length + 1 } }

/-- The tick of START: the alignment runs. The requester adopts S0, the source sends its items (R330).
DESIGN CHOICE, log entry 88. -/
def State.alignTick (s : State) : State :=
  if s.pair.al = 1 ∧ frameGe s.frameNum s.pair.alStart = true then
    have s := { s with pair := { s.pair with al := 2 } }
    if s.pair.alSource then s.alignSendChain
    else { s with cnd := { s.cnd with s0 := some s.pair.alS0, lastS0 := s.pair.alS0 } }
  else s

/-- A function's item. -/
def State.fnItem (s : State) (f : Nat) : Machine.AlignItem :=
  have x := s.fn f
  .function x.copyA x.copyB x.sel x.consec

/-- The commit side of an alignment. The source sends the functions at its first commit from START on and the
decisions at the commit of ALIGN_FRAME − 1. At the requester the items with that cut-over point take effect. -/
def State.alignCommit (s : State) (frame : Nat) : State :=
  have p := s.pair
  if p.al = 2 ∧ p.alSource = true then
    have s := if p.alLeft > 1 then
        have s := s.fnIds.foldl (fun (s : State) f => s.emit (.align 3 f frame (s.fnItem f))) s
        { s with pair := { s.pair with alLeft := 1 } }
      else s
    if frame = frameBack p.alFrame 1 then
      have s := s.emit (.align 4 0 frame (.decisions s.pln.committed (s.plnBytes 0x3220000 0x10000)))
      { s with pair := { s.pair with alLeft := 0 } }
    else s
  else s

/-- A function item replaces the requester's state block. -/
def State.alignFn (s : State) (f : Nat) (a b : List Byte) (sel consec : Nat) : State :=
  (s.alignDrop 3 f).setFn f { s.fn f with copyA := a, copyB := b, sel := sel, consec := consec }

/-- The decision item replaces the requester's decision value and LATE history. -/
def State.alignDec (s : State) (work : BitVec 4096) (history : List Byte) : State :=
  have s := (s.alignDrop 4 0).plnPut 0x3220000 (history.take 0x10000)
  { s with pln := { s.pln with committed := work, work := work } }

/-- The items that wait for the commit of a frame. -/
def State.alignFrameItems (s : State) (frame : Nat) : State :=
  s.pair.items.foldl (fun (s : State) (e : Nat × Nat × Nat × Machine.AlignItem) =>
    if e.2.2.1 = frame then
      match e.1, e.2.2.2 with
      | 3, .function a b sel consec => s.alignFn e.2.1 a b sel consec
      | 4, .decisions w h => s.alignDec w h
      | _, _ => s
    else s) s

/-- An item of KIND 3 or 4 arrives: it takes effect in the gap after the commit X, or waits for that commit. -/
def State.alignAtCommit (s : State) (kind id x : Nat) (item : Machine.AlignItem) : State :=
  have t := { s with pair := { s.pair with items := s.pair.items ++ [(kind, id, x, item)] } }
  if s.pair.lastCommit = x ∧ s.kpr.open_ = false then t.alignFrameItems x
  else if frameGe s.pair.lastCommit x then s
  else t

/-- ALIGN_DATA_RX: an item cuts over at its point X, or waits for it. An item whose point has passed does not cut
over. The item's state is in the layout of the stepping: `item` gives it (R330). -/
def alignDataRx (m : List Byte) (item : Machine.AlignItem) (s : State) : State :=
  s.bregRx 0xB m (fun _ b s =>
    have id := leAt b 2 2
    have x := leAt b 4 4
    if (s.pair.al = 1 ∨ s.pair.al = 2) ∧ s.pair.alSource = false then
      match byteAt b 0, item with
      | 0, .slot _ _ _ =>
        have own := ((s.slot id).ins.head?.map (fun e => e.1)).getD 0
        if own = itemInstant item then s.alignSlot id x item
        else if own < itemInstant item then
          { s with pair := { s.pair with items := s.pair.items ++ [(0, id, x, item)] } }
        else s
      | 1, .lattice l ring =>
        have s := (s.alignDrop 1 id).plnPut (gridInstAddr id 0) (ring.take 2048)
        { s with cnd := { s.cnd with lats := tset s.cnd.lats id l {} } }
      | 2, .estimator g => (s.alignDrop 2 id).setGroup id g
      | 3, .function _ _ _ _ => s.alignAtCommit 3 id x item
      | 4, .decisions _ _ => s.alignAtCommit 4 0 x item
      | _, _ => s
    else s)

/-- ALIGN_DATA_RX (R330). -/
def execAlignDataRx (dt : Nat) (m : List Byte) (item : Machine.AlignItem) (s : State) : Result :=
  .next (alignDataRx m item (s.elapse dt))

/-- The tick of ALIGN_FRAME: the requester is ALIGNED when every item has cut over, and the alignment fails
otherwise (R319, R330, R333). -/
def State.alignEnd (s : State) : State :=
  if s.pair.al = 2 ∧ frameGe s.frameNum s.pair.alFrame = true then
    if s.pair.alSource then { s with pair := { s.pair with al := 3 } }
    else if s.pair.alLeft = 0 then
      have was := s.alignedNow
      have clear := decide (byteAt s.pp 0x0D = 1)
      have s := { s with
          cnd := { s.cnd with aligned := true }
          pair := { s.pair with al := 3, items := [], diverged := s.pair.diverged && !clear } }
      have s := if was then s else s.raiseRec 391 0x3FF
      have c := s.cmd pairCmdReg
      if c.pending ∧ c.runCode = 1 then s.cmdDone pairCmdReg else s
    else s.alignFail
  else s

/-- ALIGN_FRAME_REACHED (R330). -/
def execAlignFrameReached (dt : Nat) (s : State) : Result := .next (s.elapse dt).alignEnd.pairTrack

/-- BULK_RX: the Ethernet frame of a BULK message, which is `f`, enters the ridge at endpoint 28 (R133, R311). -/
def execBulkRx (dt : Nat) (m : List Byte) (f : Frame) (s : State) : Result :=
  .next ((s.elapse dt).bregRx 0xC m (fun _ _ s => s.ridgeSend 28 f false false))

/-! ### Divergence (R319) -/

/-- What DIVERGED does at the module that is not ACTIVE, under DIVERGE_ACTION. -/
def State.divergeAct (s old : State) : State :=
  if s.pair.diverged && !old.pair.diverged && decide (s.glb.mode ≠ .active) then
    match byteAt s.pp 0x0D with
    | 1 =>
      have s := { s with cnd := { s.cnd with aligned := false } }
      if s.aligning then s else s.alignRequest
    | 2 => s.fault .digest 0x0B 0xFF
    | _ => s
  else s

/-- DIGEST_RX (R318, R319). -/
def digestRxRow (m : List Byte) (s : State) : State :=
  ((s.bregRx 2 m (fun f b s => s.digestRx f b)).divergeAct s).pairTrack

/-- DIGEST_RX (R318). -/
def execDigestRx (dt : Nat) (m : List Byte) (s : State) : Result := .next (digestRxRow m (s.elapse dt))

/-! ### PAIR commands (R333) -/

/-- ALIGN. An alignment that already runs is the one it waits for. -/
def pairAlign (rsv arg : Nat) (s : State) : State :=
  s.runCmd pairCmdReg 1 rsv arg (verdict (decide (arg = 0)) s.alignMay) fun s =>
    if s.aligning then s else s.alignRequest

/-- ALIGN (R333). -/
def execAlign (dt : Nat) (rsv : BitVec 8) (arg : BitVec 16) (s : State) : Result :=
  .next (pairAlign rsv.toNat arg.toNat (s.elapse dt))

/-- HANDBACK_NOW: every condition of R327 except the hold. -/
def handbackNow (rsv arg : Nat) (s : State) : State :=
  s.runCmd pairCmdReg 2 rsv arg (verdict (decide (arg = 0)) (s.exRequest 0 false true).2) fun s =>
    (s.exRequest 0 false true).1

/-- HANDBACK_NOW (R333). -/
def execHandbackNow (dt : Nat) (rsv : BitVec 8) (arg : BitVec 16) (s : State) : Result :=
  .next (handbackNow rsv.toNat arg.toNat (s.elapse dt))

/-- HB_INHIBIT: bit 0 sets or clears the inhibit. -/
def hbInhibit (rsv arg : Nat) (s : State) : State :=
  s.runCmd pairCmdReg 3 rsv arg (verdict (decide (arg ≤ 1)) s.img.loaded) fun s =>
    (({ s with pair := { s.pair with inhibit := decide (arg = 1) } }).cmdDone pairCmdReg).pairTrack

/-- HB_INHIBIT (R333). -/
def execHbInhibit (dt : Nat) (rsv : BitVec 8) (arg : BitVec 16) (s : State) : Result :=
  .next (hbInhibit rsv.toNat arg.toNat (s.elapse dt))

/-- DIVERGE_CLEAR: DIVERGED clears and the consecutive count is 0. -/
def divergeClear (rsv arg : Nat) (s : State) : State :=
  s.runCmd pairCmdReg 4 rsv arg (verdict (decide (arg = 0)) (s.img.loaded && s.pair.diverged)) fun s =>
    (({ s with pair := { s.pair with diverged := false, consec := 0 } }).cmdDone pairCmdReg).pairTrack

/-- DIVERGE_CLEAR (R333). -/
def execDivergeClear (dt : Nat) (rsv : BitVec 8) (arg : BitVec 16) (s : State) : Result :=
  .next (divergeClear rsv.toNat arg.toNat (s.elapse dt))

/-- A write to PAIR_CMD. -/
def pairCommand (code rsv arg : Nat) (s : State) : State :=
  if code = 1 then pairAlign rsv arg s
  else if code = 2 then handbackNow rsv arg s
  else if code = 3 then hbInhibit rsv arg s
  else if code = 4 then divergeClear rsv arg s
  else s.badCode pairCmdReg code rsv arg

end Sys2Proof.Machine
end

