-- ==== Sys2Proof/Machine/Reload.lean ====
section
/-!
DEFINITION. The partial reload in the gap before its target frame, and its end at that frame's commit (R72, R73).
-/

namespace Sys2Proof.Machine

open Sys2Proof

/-- The entries of one stream or subscription table. -/
def bodyEntries (b : List Byte) : List StreamCfg := (groupOffsets b).map (fun o => ⟨b, o⟩)

/-- The bodies of the changed sections of a type, in an image. -/
def State.changedOf (s : State) (typ : Nat) (im : Image) : List (List Byte) :=
  (s.img.changedSecs.filter (fun e => decide (e.1 = typ))).map (fun e => im.body typ e.2)

/-! ### STREAM_GROUP (R72, R179, R184, R210, R226) -/

/-- The slots of an old entry are given up, and the stream with them where the image has no such stream.
DEDUCED, log entry 42. -/
def State.streamLeave (s : State) (c : StreamCfg) : State :=
  have s := forN c.channels (fun i s => (s.setChan (c.slotBase + i) {}).setSlot (c.slotBase + i) {}) s
  if (s.streamCfg c.index).isSome then s else (s.setStreamState c.index 0).setStream c.index {}

/-- The full index of the first grid instant after those that a fill at an instant stands for. -/
def State.nextGrid (s : State) (g v t : Nat) : Nat :=
  if v < 0x10 then (s.headBefore g v t + 1) % 2 ^ 32 else s.gridAt g v t

/-- A channel slot as a reload leaves it: reset, and running where the chain runs. It goes on with the first
grid instant after those that the fill stands for. -/
def State.slotReload (s : State) (c : StreamCfg) (i t : Nat) : State :=
  have n := c.slotBase + i
  match s.cnd.s0 with
  | none => s.setSlot n {}
  | some s0 =>
    if s.cnd.afterStep then s.setSlot n {}
    else if t < s0 then s.setSlot n { syncAt := some s0 }
    else
      s.setSlot n {
        run := true, s0 := s0, restart := t, next := s.nextGrid c.group (c.grid i) t }

/-- The partner of a reloaded stream substitutes on, with both streams noted (R184). -/
def State.partnerNote (s : State) (c : StreamCfg) : State :=
  match c.partner with
  | none => s
  | some p => if (s.stream p).substituting then (s.sviNote p).sviNote c.index else s

/-- Substitution of a reloaded stream from the tick of F (R181, R182, R184). DEDUCED, log entry 42. -/
def State.substReload (s : State) (c : StreamCfg) (t : Nat) : State :=
  if (s.stream c.index).substituting then
    match c.partner.bind s.streamCfg with
    | none => s
    | some pc => s.copyOuts c pc t 0x10
  else s.substTry c t

/-- A stream of a changed STREAM_GROUP takes its new entry at the tick of F, which falls at `t`. DEDUCED,
log entry 42. -/
def State.streamEnter (s : State) (c : StreamCfg) (t : Nat) : State :=
  have i := c.index
  have s := s.chanLoad c
  have s := forN c.channels (fun k s => s.slotReload c k t) s
  have s := s.fillStream c t
  have s := s.streamWait c
  have n := posAtOrAfter c t
  s.setStream i { s.stream i with next := n, first := n, forced := false }

/-- The changed STREAM_GROUP sections take effect. -/
def State.streamsReload (s : State) (run cand : Image) (t : Nat) : State :=
  have old := (s.changedOf 5 run).flatMap bodyEntries
  have new := (s.changedOf 5 cand).flatMap bodyEntries
  have s := old.foldl (fun s c => s.streamLeave c) s
  have s := new.foldl (fun s c => s.streamEnter c t) s
  new.foldl (fun s c => (s.partnerNote c).substReload c t) s

/-! ### SUBSCRIPTION_GROUP, FUNCTION (R72, R79) -/

/-- The changed SUBSCRIPTION_GROUP sections take effect. -/
def State.subsReload (s : State) (run cand : Image) : State :=
  have old := (s.changedOf 6 run).flatMap bodyEntries
  have new := (s.changedOf 6 cand).flatMap bodyEntries
  new.foldl (fun s c => s.subRestart c) (old.foldl (fun s c => s.subRestart c) s)

/-- The settings region of a FUNCTION body and its defaults. -/
def fnRegion (b : List Byte) : List Byte × List Byte := (slice b 8 12, slice b (leAt b 0x14 4) (leAt b 0x10 4))

/-- A changed FUNCTION section takes effect, with its settings (R72, Settings after a reload). -/
def State.functionReload (s : State) (f : Nat) (old new : List Byte) : State :=
  have n := byteAt new 8
  have s :=
    if new.isEmpty || decide (n ≥ 64) || decide (fnRegion old = fnRegion new) then s
    else (s.setArea n (s.putDefaults n (s.area n) f)).setDirty n true
  s.fnReload f (slice old (leAt old 0x18 4) (leAt old 0x1C 4))

/-- The changed FUNCTION sections take effect. -/
def State.functionsReload (s : State) (run cand : Image) : State :=
  have s := s.img.changedSecs.foldl (fun s e =>
    if e.1 = 8 then s.functionReload e.2 (run.body 8 e.2) (cand.body 8 e.2) else s) s
  s.kprSettings

/-! ### RELOAD_APPLY and the commit of F -/

/-- What changes with the program's plan closes first, under the plan that it was made under (R72, R375). -/
def State.plansClose (s : State) : State :=
  s.img.changedSecs.foldl (fun s e => if e.1 = 0xC then s.galAbort e.2 6 else s) s

/-- The changed PUBLICATION and CAPTURE_PLAN sections take effect (R293, R366). -/
def State.outputsReload (s : State) (run : Image) : State :=
  s.img.changedSecs.foldl (fun s e =>
    if e.1 = 9 then s.pubReload e.2 (run.body 9 e.2)
    else if e.1 = 0xC then s.galReload e.2
    else s) s

/-- The candidate takes effect for the frame of tick `n`. -/
def State.reloadNow (s : State) (run cand : Image) (n : Nat) : State :=
  have t := tickTime n s.frameRate
  have s := s.plansClose
  have s := { s with img := { s.img with run := some cand, oldGen := run.gen, reloadAtGap := true } }
  ((((s.streamsReload run cand t).subsReload run cand).functionsReload run cand).outputsReload run)

/-- RELOAD_APPLY: in the gap before its target frame tick (R72, R242). -/
def reloadApply (s : State) : State :=
  match s.img.reload, s.img.run, s.img.cand with
  | some n, some run, some cand =>
    if s.img.reloadAtGap = false ∧ s.kpr.open_ = false ∧ n ≤ tickAtOrAfter s.now s.frameRate then
      s.reloadNow run cand n
    else s
  | _, _, _ => s

/-- RELOAD_APPLY (R72). -/
def execReloadApply (dt : Nat) (s : State) : Result := .next (reloadApply (s.elapse dt))

/-- At the commit of F the reload is APPLIED and the candidate's bank is the running one (R72). DEDUCED, log
entry 43. -/
def State.reloadCommit (s : State) : State :=
  if s.img.reloadAtGap then
    have b := s.img.candBank
    have s := s.setBank b { s.bank b with state := 3 }
    have old := s.img.oldGen
    have n := s.img.changed
    have s := { s with img := { s.img with runBank := b, cand := none, changedSecs := [] } }
    (s.logPut 0x000A 0x02 0x3FF old s.runGen n).reloadEnd 3
  else s

/-- A re-placement that is due in this gap touches a function that the reload changes (R73). -/
def State.replaceTouches (s : State) : Bool :=
  have n := tickAtOrAfter s.now s.frameRate
  (s.kpr.replace.filter (fun r => decide (r.target ≤ n) && !r.failed && s.canReplace r.keeper)).any (fun r =>
    (s.placedOn r.keeper).any (fun f => s.img.changedSecs.contains (8, f)))

/-- KEEPER_REPLACE_APPLY: the re-placements due in this gap (R242, R257). A reload of a function among them is
DEFERRED (R73). -/
def replaceApply (s : State) : State :=
  if s.kpr.open_ then s
  else
    have s := if s.img.reload.isSome && !s.img.reloadAtGap && s.replaceTouches then s.reloadDefer else s
    keeperReplaceApply s

/-- KEEPER_REPLACE_APPLY (R257). -/
def execKeeperReplaceApply (dt : Nat) (s : State) : Result := .next (replaceApply (s.elapse dt))

end Sys2Proof.Machine
end

