-- ==== Sys2Proof/Machine/Frame.lean ====
section
/-!
DEFINITION. The frame tick and the commit of a protection frame (R241, R284), and the faults that are no command's
effect (R138, R216, R234, R256, R366).
-/

namespace Sys2Proof.Machine

open Sys2Proof

/-! ### The frame tick (R224, R229, R230, R241, R295, R364) -/

/-- The heads of every used channel move (R224, R228). -/
def State.headsAdvance (s : State) (n : Nat) : State :=
  s.streamCfgs.foldl (fun s c =>
    forN c.channels (fun i s =>
      have k := c.slotBase + i
      s.headAdvance n (settleLeft (resp (c.response i)) (s.slot k)) k) s) s

/-- AGE of the partner lantern, in frames. -/
def State.lanternAge (s : State) : State := { s with pair := { s.pair with lanAge := min 255 (s.pair.lanAge + 1) } }

/-- The plane and the binary signals at the tick of frame number `n`. -/
def State.tickPlane (s : State) (n : Nat) : State :=
  have s := (s.headsAdvance n).subTick
  (s.plnFreeze (n % 2 ^ 32) (tickTime n s.frameRate)).storeSnap

/-- The protection frame of tick `n` begins (R241). -/
def State.frameBegin (s : State) (n : Nat) : State :=
  have seen := s.seenAt n
  have s := (((s.tickPlane n).kprTick n).lanternSend 1).lanternAge
  s.galTick (n % 2 ^ 32) (tickTime n s.frameRate) seen

/-- What the pair unit does at every tick (R326, R330). -/
def State.pairTick (s : State) : State := s.alignTick.exDeadline.alignEnd.pairTrack

/-- The number of the tick that falls now: the nearest one (R103). DESIGN CHOICE, log entry 12. -/
def State.tickHere (s : State) : Nat := (s.now * s.frameRate + secUnit / 2) / secUnit

/-- A tick has come already, since the latest step. -/
def State.tickDone (s : State) (n : Nat) : Bool :=
  match s.bcn.tickLast with
  | none => false
  | some m => decide (n ≤ m)

/-- FRAME_TICK (R103, R241). A tick comes once, and not while the frame before it is open or where a step
has passed over it. DESIGN CHOICE, log entry 12. -/
def frameTick (s : State) : State :=
  have n := s.tickHere
  if s.time.stepped = false ∨ s.kpr.open_ = true ∨ n < s.bcn.noTickBefore ∨ s.tickDone n = true then s
  else
    have s := { s with bcn := { s.bcn with tickNo := n, tickLast := some n } }
    (if s.kpr.frames then s.frameBegin n else s).pairTick

/-- FRAME_TICK (R241). -/
def execFrameTick (dt : Nat) (s : State) : Result := .next (frameTick (s.elapse dt))

/-! ### The commit (R249 to R254, R284, R317) -/

/-- Functions under policy MODULE that are FAULTED now and were not before (R253). -/
def State.moduleFaults (s old : State) : List Nat :=
  s.fnIds.filter (fun f => decide ((s.fn f).state = 3) && decide ((s.fn f).policy = 2) && decide ((old.fn f).state ≠ 3))

/-- The mode changes that wait for a commit (R36, R324, R326, R328). DEDUCED, log entry 11. -/
def State.modeCommit (s : State) (frame : Nat) : State := ((s.standCommit.glbCommit).exCommit frame).soloCommit

/-- The software events that the frame's completed runs have released (R283). -/
def State.releasedEvents (s : State) : List Nat :=
  s.kpr.merge.flatMap (fun m => if m.released then m.events.map (fun e => e.1) else [])

/-- The commit at the keepers and the plane, and the faults that it finds. DEDUCED, log entry 11; DEDUCED,
log entry 114. -/
def State.commitFrame (s : State) (frame : Nat) : State :=
  have t := s.kprCommit
  have t := { t with pair := { t.pair with lastCommit := frame } }
  (t.moduleFaults s).foldl (fun t f => t.fault .funcModule 0x09 f) t

/-- The digest of the frame, and the partner's answer to it where that has come first (R317 to R319). -/
def State.commitDigest (s : State) (frame : Nat) : State := (s.digestCommit frame).divergeAct s

/-- What the other blocks take from the commit (R284, R331, R412, R425). `old` is the state before it. -/
def State.commitOthers (s old : State) (frame : Nat) : State :=
  have s := (s.giveComplete old.kpr.tick).pubCommit frame
  have s := (s.mirrorSend frame).commitDigest frame
  (((s.mboxCommit old old.releasedEvents).bindCommit).placeCommit).reloadCommit

/-- The alignment at a commit (R330). -/
def State.commitAlign (s : State) (frame : Nat) : State := ((s.alignFrameItems frame).alignCommit frame).pairTrack

/-- COMMIT: the open frame's commit (R284). DEDUCED, log entry 11. -/
def commit (s : State) : State :=
  if s.kpr.frames && s.kpr.open_ then
    have frame := s.kpr.tick % 2 ^ 32
    have t := ((s.commitFrame frame).modeCommit frame).plnFlags frame
    (t.commitOthers s frame).commitAlign frame
  else s

/-- COMMIT (R284). -/
def execCommit (dt : Nat) (s : State) : Result := .next (commit (s.elapse dt))

/-! ### Faults (R138, R216, R234, R256) -/

/-- LOCKSTEP_MISCOMPARE (R256, R257, R320). -/
def lockstepMiscompare (k : Nat) (s : State) : State :=
  if (s.keeper k).cond = 0 then (s.keeperFault k 1).fault .miscompare 0x09 k else s

/-- LOCKSTEP_MISCOMPARE (R256). -/
def execLockstepMiscompare (dt : Nat) (k : Fin 16) (s : State) : Result := .next (lockstepMiscompare k.val (s.elapse dt))

/-- KEEPER_SRAM_ECC: an uncorrectable error in a keeper's instruction or data SRAM. `bad` is the function
whose selected copy it hits (R256, R257). DEDUCED, log entry 70. -/
def keeperSramEcc (k : Nat) (data : Bool) (bad : Option Nat) (s : State) : State :=
  if (s.keeper k).cond = 0 then
    have s := match bad with
      | none => s
      | some f => if data && (s.placedOn k).contains f then s.setFn f { s.fn f with stateBad := true } else s
    (s.keeperFault k (if data then 3 else 2)).fault .keeperEcc 0x09 k
  else s

/-- KEEPER_SRAM_ECC (R256). -/
def execKeeperSramEcc (dt : Nat) (k : Fin 16) (data : Bool) (bad : Option (Fin 512)) (s : State) : Result :=
  .next (keeperSramEcc k.val data (bad.map (·.val)) (s.elapse dt))

/-- PLANE_FAULT: a plane leaves service. A fault of the remaining one is a fault of the module (R138).
DEDUCED, log entry 58. -/
def planeFault (k : Nat) (ecc : Bool) (s : State) : State :=
  have out := if k = 0 then s.rdg.fault0 else s.rdg.fault1
  have last := if k = 0 then s.rdg.fault1 else s.rdg.fault0
  if out then s
  else if last then (s.planeOut k).fault (if ecc then .ecc else .selfCheck) 0x05 k
  else s.planeOut k

/-- PLANE_FAULT (R138). -/
def execPlaneFault (dt : Nat) (k : Fin 2) (ecc : Bool) (s : State) : Result := .next (planeFault k.val ecc (s.elapse dt))

/-- CHAIN_FAULT: slot-state ECC, or the sequencer's self-check (R216). -/
def chainFault (ecc : Bool) (s : State) : State :=
  (s.raiseRec 389 0x3FF).fault (if ecc then .ecc else .selfCheck) 0x07 0xFF

/-- CHAIN_FAULT (R216). -/
def execChainFault (dt : Nat) (ecc : Bool) (s : State) : Result := .next (chainFault ecc (s.elapse dt))

/-- ECC_UNCORR at a plane address (R234). DEDUCED, log entry 58. -/
def eccUncorr (a : Nat) (s : State) : State :=
  if ringOfAddr a ≠ 0 then s.ringEcc a else s.fault .ecc 0x08 0xFF

/-- ECC_UNCORR (R234). -/
def execEccUncorr (dt : Nat) (a : Fin 67108864) (s : State) : Result := .next (eccUncorr a.val (s.elapse dt))

/-- CAPTURE_END (R366). -/
def execCaptureEnd (dt : Nat) (p : Fin 16) (s : State) : Result := .next (captureEnd p.val (s.elapse dt))

end Sys2Proof.Machine
end

