-- ==== Sys2Proof/Machine/RegRead.lean ====
section
/-!
DEFINITION. What a 32-bit read of a register returns, for the registers whose value is not one stored word: the
global, event, image, beacon, port, ridge, intake, chain, plane, keeper, publication and pair blocks (R3, R4, R37,
R54, R82, R108, R131, R154, R188, R218, R237, R264, R304, R334, R482).
-/

namespace Sys2Proof.Machine

open Sys2Proof

/-- A command status register (R37, R38). -/
def State.cmdWord (s : State) (reg : Nat) : Word :=
  have c := s.cmd reg
  put c.code 8 8 ||| putB c.pending 4 ||| put c.status 0 4

/-- A number as a register word. -/
def num (n : Nat) : Word := BitVec.ofNat 32 n

/-- A bit mask of the numbers below `n` with a property. -/
def maskOf (n : Nat) (f : Nat → Bool) : Nat := (List.range n).foldl (fun m i => m + 2 ^ i * b2n (f i)) 0

/-! ### GLB (R3, R4, R54) -/

/-- GLB_MODE. -/
def State.modeWord (s : State) : Word :=
  put s.glb.changes 16 16 ||| put s.glb.lastCause 8 8 ||| put (modeNum s.glb.prev) 4 3 |||
    putB s.glb.inTransition 3 ||| put (modeNum s.glb.mode) 0 3

/-- GLB_HOTPLUG. DESIGN CHOICE, log entry 4. -/
def State.hotplugWord (s : State) : Word :=
  putB s.glb.slot 8 ||| putB s.glb.latchOpened 4 ||| putB s.glb.safe 3 ||| putB s.glb.leaving 2 |||
    putB s.glb.present 1 ||| putB s.glb.latchClosed 0

/-- The GLB registers. -/
def State.glbRead (s : State) (a : Nat) : Word :=
  match a with
  | 0x00 => 0x4F414353#32
  | 0x04 => num s.glbVersion
  | 0x08 => if s.glb.idValid then put 1 16 1 ||| put s.glb.moduleId 0 16 else 0
  | 0x10 => s.modeWord
  | 0x18 => s.cmdWord glbCmdReg
  | 0x20 => s.glb.wakeCause
  | 0x24 => put s.glb.failStage 28 4 ||| put s.glb.stagePass 0 10
  | 0x28 => s.hotplugWord
  | 0x34 => s.cmdWord blockResetReg
  | 0x38 => put s.glb.faultBlock 16 8 ||| put s.glb.faultInst 8 8 ||| put s.glb.faultCause 0 8
  | _ => s.rd a

/-! ### EVT (R482) -/

/-- EVT_LINE. -/
def State.lineWord (s : State) (w : Nat) : Word := num (maskOf 32 (fun i => s.line (32 * w + i)))

/-- The EVT registers. -/
def State.evtRead (s : State) (a : Nat) : Word :=
  if a = 0x10004 then s.cmdWord evtCmdReg
  else if a = 0x10008 then put s.evt.held.length 0 11
  else if 0x10100 ≤ a ∧ a < 0x10180 then s.lineWord ((a - 0x10100) / 4)
  else s.rd a

/-! ### IMG (R82) -/

/-- IMG_BANK0_INFO, IMG_BANK1_INFO. -/
def Bank.info (b : Bank) : Word :=
  put b.failReason 8 8 ||| put (if b.state = 0 then 0 else imgFmt b.bytes) 4 4 ||| put b.state 0 3

/-- IMG_STATUS. -/
def State.imgStatus (s : State) : Word :=
  have im := s.img.run
  put ((im.map (·.sections.length)).getD 0) 16 16 ||| put ((im.map (·.fmt)).getD 0) 8 4 |||
    putB s.img.loaded 4 ||| putB s.candPending 3 ||| putB s.img.store.isSome 2 ||| put s.img.runBank 0 1

/-- The IMG registers. -/
def State.imgRead (s : State) (a : Nat) : Word :=
  match a with
  | 0x20004 => s.cmdWord imgCmdReg
  | 0x20008 => s.imgStatus
  | 0x2000C => num s.runGen
  | 0x20010 => s.img.bank0.info
  | 0x20014 => if s.img.bank0.state = 0 then 0 else num (imgGen s.img.bank0.bytes)
  | 0x20018 => s.img.bank1.info
  | 0x2001C => if s.img.bank1.state = 0 then 0 else num (imgGen s.img.bank1.bytes)
  | 0x20020 => num s.img.minGen
  | 0x20030 => put s.img.changed 16 13 ||| put s.img.result 0 8
  | 0x20034 => put s.img.rejIndex 16 16 ||| put s.img.rejType 0 16
  | 0x20050 => num s.img.dirty
  | 0x20054 => num (s.img.dirty / 2 ^ 32)
  | 0x20058 => put s.img.failArea 8 8 ||| put s.img.lastResult 0 8
  | 0x2005C => num s.img.storeSeq
  | _ => s.rd a

/-! ### BCN (R108) -/

/-- A reference's path as a register field: 0xFE for IRIG-B. -/
def State.pathCode (s : State) (r : Nat) : Nat :=
  if r = 2 then (if s.bcn.refI.present then 0xFE else 0xFF) else if r < 2 then (s.refOf r).path else 0xFF

/-- BCN_STATE.STATE. -/
def bcnCode (x : BcnState) : Nat :=
  match x with
  | .unlocked => 0
  | .acquiring => 1
  | .locked => 2
  | .converging => 3
  | .holdover => 4

/-- BCN_STATE. -/
def State.bcnStateWord (s : State) : Word :=
  have b := s.bcn
  put (s.pathCode b.selected) 24 8 ||| put b.stepCount 16 8 ||| putB b.clamped 10 ||| putB b.timeLost 9 |||
    putB b.divergedSel 8 ||| putB s.time.stepped 7 ||| put b.selected 4 2 ||| put (bcnCode b.state) 0 3

/-- BCN_REF_x_STATUS. -/
def State.refWord (s : State) (r : Nat) : Word :=
  have x := s.refOf r
  have q := if x.diverged then 3 else if x.qual then 2 else if x.present then 1 else 0
  put (s.pathCode r) 16 8 ||| put x.cls 8 8 ||| put q 0 2

/-- A signed value saturated to ±0x7FFF_FFFF. -/
def sat31 (x : Int) : Word := BitVec.ofInt 32 (clampInt (-0x7FFFFFFF) 0x7FFFFFFF x)

/-- BCN_UTC. -/
def State.utcWord (s : State) : Word :=
  putB s.bcn.leap59 18 ||| putB s.bcn.leap61 17 ||| putB s.bcn.utcValid 16 ||| put (toTwos 16 s.bcn.utc) 0 16

/-- BCN_ASYM_STATUS. -/
def State.asymWord (s : State) (p : Nat) : Word :=
  have a := s.asymOf p
  have servo := decide (s.bcn.selected < 2) && decide ((s.refOf s.bcn.selected).path = p)
  put (if a.measuring then (s.time.mono - a.since) / secUnit else 0) 16 16 ||| putB servo 3 |||
    putB a.recovery 2 ||| put (s.asymState p) 0 2

/-- The requester's latch set (R86). -/
def State.latch (s : State) (q : Requester) : TimeLatch := tget s.bcn.latches (readerId q) {}

/-- The BCN registers of one word each. -/
def State.bcnWord (s : State) (q : Requester) (a : Nat) : Word :=
  have b := s.bcn
  have l := s.latch q
  match a with
  | 0x40004 => s.cmdWord bcnCmdReg
  | 0x40008 => s.bcnStateWord
  | 0x4000C => num (ts32Of s.now)
  | 0x40010 => num (nsOf s.now)
  | 0x40014 => num l.sec
  | 0x40018 => put l.frac 16 16 ||| put (l.sec / 2 ^ 32) 0 16
  | 0x4001C => num l.ts32
  | 0x40020 => num b.tickNo
  | 0x40024 =>
    if s.img.run.isNone then 0 else put s.frameRate 16 14 ||| put (b.tickNo % s.frameRate) 0 14
  | 0x40028 => num (toTwos 64 b.rate)
  | 0x4002C => num b.rateHiLatch
  | 0x40030 => s.refWord 0
  | 0x40034 => sat31 (s.refOf 0).offset
  | 0x40038 => s.refWord 1
  | 0x4003C => sat31 (s.refOf 1).offset
  | 0x40040 => s.refWord 2
  | 0x40044 => sat31 (s.refOf 2).offset
  | 0x40048 => s.utcWord
  | 0x4004C => if b.state = .holdover then num (min 0xFFFFFFFF ((s.time.mono - b.holdSince) / secUnit)) else 0
  | 0x40050 => b.tsCtrl ||| putB b.tsDone 9 ||| putB b.tsArm 8
  | 0x40054 => num b.capNs
  | 0x40058 => num b.capSec
  | 0x4005C => put b.capFrac 16 16 ||| put (b.capSec / 2 ^ 32) 0 16
  | _ => s.rd a

/-- The BCN registers. -/
def State.bcnRead (s : State) (q : Requester) (a : Nat) : Word :=
  if 0x40100 ≤ a ∧ a < 0x40160 then BitVec.ofInt 32 (s.asymNow ((a - 0x40100) / 4))
  else if 0x40180 ≤ a ∧ a < 0x401E0 then BitVec.ofInt 32 (s.asymOf ((a - 0x40180) / 4)).meas
  else if 0x40200 ≤ a ∧ a < 0x40260 then s.asymWord ((a - 0x40200) / 4)
  else s.bcnWord q a

/-! ### MAC (R131) -/

/-- MAC_STATUS. -/
def State.macStatus (s : State) (p : Nat) : Word :=
  have x := s.port p
  put (s.role p) 28 4 ||| put x.speed 24 4 ||| putB x.fecActive 9 ||| putB x.modMismatch 8 |||
    putB x.modTxFault 7 ||| putB x.modLos 6 ||| putB x.modPresent 5 ||| putB x.remoteFault 4 |||
    putB x.localFault 3 ||| putB x.adminDown 2 ||| putB x.holdDown 1 ||| putB x.linkUp 0

/-- MAC_DOWNSHIFT_STATUS.DSTATE. -/
def State.downState (s : State) (p : Nat) : Nat :=
  have x := s.port p
  if s.downshiftOn p = false then 5
  else if x.suspended then 4
  else if x.pinned then 3
  else if x.reneg.isSome then 2
  else b2n x.low

/-- The MAC registers of a port. -/
def State.macRead (s : State) (p off : Nat) : Word :=
  have x := s.port p
  match off with
  | 0x04 => s.cmdWord (macBase p)
  | 0x08 => s.macStatus p
  | 0x0C =>
    put x.txPtp 24 7 ||| put (x.txPtp + x.txHost) 16 7 ||| put x.rxPtp 8 7 ||| put (x.rxPtp + x.rxHost) 0 7
  | 0x10 =>
    put (maskOf 6 x.wdogReleased.contains) 16 6 ||| put (maskOf 6 x.xoffSent.contains) 8 6 |||
      put (maskOf 6 x.paused.contains) 0 6
  | 0x14 => put x.quiet 16 16 ||| put x.util 8 8 ||| put (s.downState p) 0 3
  | _ => s.rd (macBase p + off)

/-! ### RDG (R154) -/

/-- The RDG registers. -/
def State.rdgRead (s : State) (a : Nat) : Word :=
  have r := s.rdg
  match a with
  | 0x200004 => s.cmdWord rdgCmdReg
  | 0x200008 => put r.select 2 2 ||| putB r.plane1 1 ||| putB r.plane0 0
  | 0x20000C => put s.freeShared 16 16 ||| put s.cellsUsed 0 16
  | 0x200010 =>
    have st := (r.nodes.filter (·.static)).length
    putB (decide (r.nodes.length ≥ 4096)) 31 ||| put st 16 13 ||| put (r.nodes.length - st) 0 13
  | 0x200014 => num (maskOf 24 (fun p => (s.port p).holdDown))
  | _ => s.rd a

/-! ### SVI (R188) -/

/-- SVI_STREAM_STATUS. -/
def State.streamWord (s : State) (i : Nat) : Word :=
  have x := s.stream i
  put x.state 28 4 ||| putB x.substituting 27 ||| putB x.forced 26 ||| putB x.sim 25 ||| putB x.arrival 24 |||
    put x.smpSynch 16 8 ||| put x.smpCnt 0 16

/-- The SVI registers. -/
def State.sviRead (s : State) (a : Nat) : Word :=
  if a = 0x300004 then s.cmdWord sviCmdReg
  else if a = 0x300008 then
    put s.streamCfgs.length 16 12 ||| put (s.streamCfgs.filter (fun c => (s.stream c.index).substituting)).length 4 12 |||
      putB s.time.stepped 0
  else if a = 0x30000C then num s.svi.completeFrame
  else if a = 0x30001C then put s.svi.lastNoMatch 0 16
  else if 0x300200 ≤ a ∧ a < 0x300300 then num (s.svi.complete / 2 ^ (8 * (a - 0x300200)))
  else if 0x310000 ≤ a ∧ a < 0x312000 then s.streamWord ((a - 0x310000) / 4)
  else s.rd a

/-! ### CND (R218) -/

/-- CND_STATUS. -/
def State.cndStatus (s : State) : Word :=
  have run := s.cnd.s0.isSome && !s.cnd.afterStep
  putB s.alignedNow 4 ||| putB s.cnd.armed.isSome 3 ||| putB (!s.cnd.pend.isEmpty) 2 ||| putB run 1 ||| putB run 0

/-- CND_GROUP_STATUS. -/
def State.groupWord (s : State) (g : Nat) : Word :=
  have x := s.group g
  put (if x.held then min 65535 ((s.time.mono - x.heldAt) / secUnit) else 0) 16 16 ||| put x.source 6 2 |||
    putB (decide (s.nominal g = 60)) 4 ||| putB x.slewing 3 ||| putB x.limit 2 ||| putB x.held 1 ||| putB x.valid 0

/-- CND_SLOT_STATUS. -/
def State.slotWord (s : State) (k : Nat) : Word :=
  match s.slotCfg k with
  | none => 0
  | some (c, i) =>
    have x := s.slot k
    put (c.response i) 24 8 ||| put (c.grid i) 16 8 ||| put (settleLeft (resp (c.response i)) x) 4 12 |||
      putB (slotSettled x) 1 ||| putB true 0

/-- The S0 that waits first, as CND_SYNC_TARGET shows it. -/
def State.syncTarget (s : State) : Word :=
  match earliestSync s.cnd.pend with
  | none => 0xFFFFFFFF#32
  | some p => num (secOf p.s0)

/-- The CND registers. -/
def State.cndRead (s : State) (a : Nat) : Word :=
  if a = 0x400004 then s.cmdWord cndCmdReg
  else if a = 0x400008 then s.cndStatus
  else if a = 0x400010 then num (secOf s.cnd.lastS0)
  else if a = 0x400014 then s.syncTarget
  else if a = 0x400018 then num s.cndLoad
  else if 0x400100 ≤ a ∧ a < 0x400200 then num (s.group ((a - 0x400100) / 4)).freq
  else if 0x400200 ≤ a ∧ a < 0x400300 then s.groupWord ((a - 0x400200) / 4)
  else if 0x410000 ≤ a ∧ a < 0x420000 then s.slotWord ((a - 0x410000) / 4)
  else s.rd a

/-! ### PLN (R237) -/

/-- The PLN registers. -/
def State.plnRead (s : State) (q : Requester) (a : Nat) : Word :=
  match a with
  | 0x500004 => s.cmdWord plnCmdReg
  | 0x500008 => put s.pln.hist 2 6 ||| putB s.pln.scrub 1 ||| putB s.img.loaded 0
  | 0x50000C => num s.pln.frameNum
  | 0x500010 => put (s.plnBank (readerId q)) 0 2
  | 0x50001C => put s.pln.eccAddr 0 26
  | _ => s.rd a

/-! ### KPR (R264) -/

/-- KPR_FUNC_STATUS. -/
def State.funcWord (s : State) (f : Nat) : Word :=
  have x := s.fn f
  put x.state 30 2 ||| put x.policy 28 2 ||| put x.keeper 24 4 ||| putB x.unplaced 23 ||| putB x.notOwned 20 |||
    put x.consec 18 2 ||| putB x.reinit 17 ||| putB x.movePending 16 ||| put x.epoch 0 16

/-- KPR_KEEPER_STATUS. -/
def State.keeperWord (s : State) (k : Nat) : Word :=
  put (s.keeperState k) 28 4 ||| put (s.fallback k) 16 8 ||| put (s.placedOn k).length 8 8 ||| put (s.keeper k).cause 0 8

/-- The KPR registers of the keepers. -/
def State.keeperRead (s : State) (k off : Nat) : Word :=
  match off with
  | 0 => s.keeperWord k
  | 4 => num (s.keeper k).load
  | 12 => num (s.keeperFree k)
  | _ => s.rd (0x600100 + 16 * k + off)

/-- The KPR registers. -/
def State.kprRead (s : State) (a : Nat) : Word :=
  if a = 0x600004 then s.cmdWord kprCmdReg
  else if a = 0x600008 then put (maskOf 16 (fun k => decide ((s.keeper k).cond = 3))) 16 16 ||| put s.faultedFuncs 0 10
  else if a = 0x60000C then
    (if s.img.run.isNone then 0 else put s.frameRate 16 14 ||| put s.execWindow 0 6)
  else if 0x600100 ≤ a ∧ a < 0x600200 then s.keeperRead ((a - 0x600100) / 16) (a % 16)
  else if 0x601000 ≤ a ∧ a < 0x603000 ∧ a % 16 = 0 then s.funcWord ((a - 0x601000) / 16)
  else if 0x601000 ≤ a ∧ a < 0x603000 ∧ a % 16 = 4 then num (s.fn ((a - 0x601000) / 16)).cycles
  else s.rd a

/-! ### PUB (R304) -/

/-- PUB_SUB_STATUS. -/
def State.subWord (s : State) (i : Nat) : Word :=
  if (s.subCfg i).isNone then 0
  else
    have x := s.sub i
    have st :=
      if x.pair.isNone then 1
      else if x.timedOut then 3
      else if x.vals.any (fun v => decide (s.subQual x v = 2)) then 4
      else 2
    put st 28 4 ||| putB x.sim 27 ||| putB x.test 26 ||| put ((x.pair.map (·.1)).getD 0) 0 16

/-- The PUB registers. -/
def State.pubRead (s : State) (a : Nat) : Word :=
  if a = 0x700004 then s.cmdWord pubCmdReg
  else if a = 0x700008 then
    put s.subCfgs.length 16 13 ||| put s.pubIds.length 5 11 ||| putB s.pub.simMark 4 ||| putB s.pub.testMark 3 |||
      putB s.pub.publishing 2 ||| putB s.pub.armed 1 ||| putB s.pub.lantern 0
  else if a = 0x70000C then num s.pub.frame
  else if a = 0x700010 then
    putB s.pub.armed 16 ||| put (maskOf 8 s.tripEnabled) 8 8 ||| put s.pub.demand 0 8
  else if a = 0x700014 then
    put s.pair.lanId 16 16 ||| put s.pair.lanAge 8 8 ||| putB s.pair.lanPresent 4 ||| put s.pair.lanMode 0 3
  else if a = 0x700018 then num s.pair.lanCount
  else if 0x710000 ≤ a ∧ a < 0x712000 ∧ a % 8 = 0 then num (s.pubSt ((a - 0x710000) / 8)).stNum
  else if 0x710000 ≤ a ∧ a < 0x712000 ∧ a % 8 = 4 then num (s.pubSt ((a - 0x710000) / 8)).sqNum
  else if 0x720000 ≤ a ∧ a < 0x724000 then s.subWord ((a - 0x720000) / 4)
  else s.rd a

end Sys2Proof.Machine
end

