-- ==== Sys2Proof/Machine/RegRead2.lean ====
section
/-!
DEFINITION. What a 32-bit read of a register returns, for the pair, lamp room, gallery, logbook, host, coil, input,
CAN and performance blocks, the virtual functions' BAR and the sample plane windows (R232, R334, R356, R377, R393,
R410, R426, R427, R444, R446, R458, R469), and then for any address (R9, R10, R471, R472).
-/

namespace Sys2Proof.Machine

open Sys2Proof

/-! ### PAIR (R334) -/

/-- PAIR_STATE. DEDUCED, log entry 81. -/
def State.pairState (s : State) : Word :=
  put s.partnerId 16 16 ||| putB s.isPreferred 15 ||| putB s.eligible 14 ||| putB s.partnerEligible 13 |||
    putB s.frameLock 12 ||| putB s.pair.diverged 11 ||| put s.partnerMode 8 3 ||| put s.partner 4 2 |||
    putB s.pair.inhibit 3

/-- PAIR_LINK. -/
def State.pairLink (s : State) : Word :=
  have a := s.pair.pathA
  have b := s.pair.pathB
  put (min 15 s.missedBoth) 16 4 ||| putB b.lane2 10 ||| putB b.lane1 9 ||| putB b.up 8 ||| putB a.lane2 2 |||
    putB a.lane1 1 ||| putB a.up 0

/-- PAIR_HANDBACK. -/
def State.handbackWord (s : State) : Word :=
  have h := match s.pair.hold with
    | none => 0
    | some t => min 65535 ((s.time.mono - t) / secUnit)
  put h 16 16 ||| put s.pair.ex 13 3 ||| put s.pair.matchRun 0 13

/-- PAIR_AGREED_FRAME. -/
def State.agreedFrame (s : State) : Nat :=
  if s.pair.ex ≠ 0 then s.pair.exH else if s.pair.al = 1 ∨ s.pair.al = 2 then s.pair.alFrame else 0

/-- The PAIR registers. -/
def State.pairRead (s : State) (a : Nat) : Word :=
  have p := s.pair
  if a = 0x800004 then s.cmdWord pairCmdReg
  else if a = 0x800008 then s.pairState
  else if a = 0x80000C then s.pairLink
  else if a = 0x800010 then num p.count
  else if a = 0x800014 then s.handbackWord
  else if a = 0x800018 then num s.agreedFrame
  else if a = 0x80001C then num p.cmpFrame
  else if 0x800020 ≤ a ∧ a < 0x800030 then num (leAt p.cmpOwn (a - 0x800020) 4)
  else if 0x800030 ≤ a ∧ a < 0x800040 then num (leAt p.cmpPeer (a - 0x800030) 4)
  else if a = 0x800050 then put p.al 29 3 ||| putB p.alSource 28 ||| put p.alLeft 0 18
  else s.rd a

/-! ### LMP (R356) -/

/-- LMP_SLOT_INFO. -/
def State.slotInfo (s : State) (i : Nat) : Word :=
  have k := s.key i
  have st := s.keyState i
  put st 28 4 ||| put (s.keyUsage i) 25 3 ||| put k.typ 22 3 ||| put (if st = 0 then 0 else k.origin) 19 3 |||
    put k.sel 18 1 ||| put ((s.keyGroup i).getD 0) 12 6 ||| putB (s.keyGroup i).isSome 0

/-- The LMP registers. -/
def State.lmpRead (s : State) (a : Nat) : Word :=
  have l := s.lmp
  if a = 0x900004 then s.cmdWord lmpCmdReg
  else if a = 0x900008 then
    put (l.slots.filter (fun (e : Nat × KeySlot) => e.2.bad)).length 8 11 ||| putB l.integFail 6 ||| put l.mode 3 2 |||
      put l.life 0 3
  else if a = 0x90000C then put l.tampers 16 16 ||| put l.sensors 0 7
  else if a = 0x900010 then put l.resultSlot 8 10 ||| put l.result 0 8
  else if a = 0x900028 then put l.used 16 16 ||| put (fld (s.rd a) 0 16) 0 16
  else if 0x900100 ≤ a ∧ a < 0x900204 then num (tget l.counters ((a - 0x900100) / 4) 0)
  else if 0x901000 ≤ a ∧ a < 0x902000 then s.slotInfo ((a - 0x901000) / 4)
  else if 0x902000 ≤ a ∧ a < 0x903000 then num (s.key ((a - 0x902000) / 4)).keyId
  else s.rd a

/-! ### GAL (R377) -/

/-- GAL_PROG_STATUS. -/
def State.progWord (s : State) (p : Nat) : Word :=
  have x := s.prog p
  have occ := (x.dir.filter (fun (e : Nat × GRec) => decide (e.2.state ≠ 0))).length
  have shed := (planReds (s.plan p)).foldl (fun m r => m + 2 ^ r.1 * b2n (s.shedRed r.2)) 0
  put x.state 28 4 ||| put x.entry 22 6 ||| put occ 15 7 ||| putB (!(s.plan p).isEmpty) 8 ||| put shed 0 8

/-- The GAL registers. -/
def State.galRead (s : State) (a : Nat) : Word :=
  have g := s.gal
  if a = 0xA00004 then s.cmdWord galCmdReg
  else if a = 0xA00008 then
    put (maskOf 16 (fun p => decide ((s.prog p).state = 3))) 16 16 ||| put g.shed 2 2 ||| putB (!g.archWait.isEmpty) 1 |||
      putB (s.kpr.frames && s.img.loaded) 0
  else if a = 0xA0000C then num s.galChargeReg
  else if a = 0xA0001C then num g.used
  else if a = 0xA00024 then num ((g.archive.getLast?.map (·.num)).getD 0xFFFFFFFF)
  else if a = 0xA00028 then num ((g.archive.head?.map (·.num)).getD 0xFFFFFFFF)
  else if 0xA01000 ≤ a ∧ a < 0xA01100 ∧ a % 16 = 0 then s.progWord ((a - 0xA01000) / 16)
  else if 0xA01000 ≤ a ∧ a < 0xA01100 ∧ a % 16 = 4 then num (s.prog ((a - 0xA01000) / 16)).seq
  else s.rd a

/-! ### LOG (R393) -/

/-- SEQ of the ends of a ring, 0 in an empty ring. -/
def ringEnds (l : List LogRec) : Nat × Nat := ((l.head?.map (·.seq)).getD 0, (l.getLast?.map (·.seq)).getD 0)

/-- LOG_CTRL, LOG_CURSOR, LOG_WIN_COUNT and the window of a reader, at an offset within the LOG block. -/
def State.readerRead (s : State) (q : Requester) (off : Nat) : Word :=
  have r := s.readerNow q
  if off = 0x0C then putB r.skipped 1 ||| putB r.ring 0
  else if off = 0x10 then num r.cursor
  else if off = 0x14 then num (s.window q).length
  else if 0x100 ≤ off ∧ off < 0x200 then s.windowWord q (off - 0x100)
  else 0

/-- The LOG registers. -/
def State.logRead (s : State) (q : Requester) (a : Nat) : Word :=
  have l := s.log
  match a with
  | 0xB00004 => s.cmdWord logCmdReg
  | 0xB00008 =>
    put l.hold.length 16 16 ||| putB l.nvm.isEmpty 5 ||| putB l.dram.isEmpty 4 ||| putB l.nvmOk 3 |||
      putB (decide (l.armed ≠ 0)) 2 ||| putB l.draining 1 ||| putB l.frozen 0
  | 0xB00018 => num (ringEnds l.dram).1
  | 0xB0001C => num (ringEnds l.dram).2
  | 0xB00020 => num (ringEnds l.nvm).1
  | 0xB00024 => num (ringEnds l.nvm).2
  | _ =>
    if a = 0xB0000C ∨ a = 0xB00010 ∨ a = 0xB00014 ∨ 0xB00100 ≤ a then s.readerRead q (a - 0xB00000) else s.rd a

/-! ### HST (R426, R427) -/

/-- Where a requester's local queue register lies: the queue pair, if the function holds it. -/
def State.queueRead (s : State) (n : Nat) (off : Nat) : Word :=
  have q := s.queue n
  match off with
  | 0x00 => q.rxLo
  | 0x04 => q.rxHi
  | 0x08 => q.txLo
  | 0x0C => q.txHi
  | 0x10 => q.qcfg
  | 0x14 => num q.rxTail
  | 0x18 => num q.rxHead
  | 0x1C => num q.txTail
  | 0x20 => num q.txHead
  | 0x24 => putB q.faulted 2 ||| putB (!q.txClass.isEmpty) 1 ||| putB q.enabled 0
  | 0x28 => q.itr
  | _ => 0

/-- A register of a function's local queue `l`; a queue that it does not hold reads 0. DEDUCED, log entry
99. -/
def State.localRead (s : State) (v l off : Nat) : Word :=
  match s.localQueue v l with
  | none => 0
  | some n => s.queueRead n off

/-- A mailbox register (R413). -/
def State.mboxRead (s : State) (q : Requester) (m off : Nat) : Word :=
  if off = 0 then (if s.mboxSeen q m then putB (s.mbox m).ready 31 ||| put (s.mbox m).seq 0 8 else 0)
  else num (s.mbxValue q m)

/-- HST_FN_CFG. -/
def State.fnCfg (s : State) (v : Nat) : Word :=
  have f := s.func v
  have vs := (s.hst.vecs.filter (fun (e : Nat × Vec) => e.2.owned && decide (e.2.owner = v))).length
  putB f.enable 31 ||| putB f.internal 30 ||| putB (s.present v) 29 ||| put (s.ownQueues v).length 16 11 |||
    put vs 0 12

/-- HST_QUEUE_OWNER. -/
def State.queueOwner (s : State) (n : Nat) : Word :=
  have q := s.queue n
  putB q.enabled 31 ||| put q.loc 16 10 ||| put q.owner 0 8

/-- The HST registers. -/
def State.hstRead (s : State) (q : Requester) (a : Nat) : Word :=
  have h := s.hst
  if a = 0xC00004 then s.cmdWord hstCmdReg
  else if a = 0xC00008 then
    put h.numVfs 16 8 ||| putB h.vfEnable 9 ||| putB (decide (h.gen ≠ 0)) 8 ||| put h.width 4 4 ||| put h.gen 0 4
  else if a = 0xC0001C then
    put h.flrCount 16 16 ||| putB (h.fns.any (fun (e : Nat × Func) => e.2.resetting)) 8 ||| put h.lastVf 0 8
  else if 0xC00100 ≤ a ∧ a < 0xC00500 then s.fnCfg ((a - 0xC00100) / 4)
  else if 0xC01000 ≤ a ∧ a < 0xC02000 then s.queueOwner ((a - 0xC01000) / 4)
  else if 0xC10000 ≤ a ∧ a < 0xC20000 then s.localRead 0 ((a - 0xC10000) / 64) (a % 64)
  else if 0xC20000 ≤ a ∧ a < 0xC28000 then s.mboxRead q ((a - 0xC20000) / 8) (a % 8)
  else s.rd a

/-! ### CDV and BIN (R444, R446) -/

/-- The number of a coil state. -/
def coilNum (c : CoilState) : Nat :=
  match c with
  | .idle => 0
  | .pullIn => 1
  | .hold => 2
  | .latched => 3

/-- The registers of a coil channel. -/
def State.coilRead (s : State) (k off : Nat) : Word :=
  have c := s.coil k
  match off with
  | 0x00 => put c.periodSh 0 16
  | 0x04 => put c.riseSh 0 16
  | 0x08 => put c.fallSh 0 16
  | 0x0C => put c.period 0 16
  | 0x10 => put c.rise 0 16
  | 0x14 => put c.fall 0 16
  | 0x18 =>
    put (coilNum c.state) 28 4 ||| put c.ocConsec 20 8 ||| put c.sup 4 2 ||| putB c.writeErr 3 |||
      putB c.periodPending 2 ||| putB c.armed 1 ||| putB c.pairStale 0
  | 0x1C => put (min 65535 c.ohm) 0 16
  | _ => s.rd (0xD01000 + 0x40 * k + off)

/-- The CDV registers. -/
def State.cdvRead (s : State) (a : Nat) : Word :=
  if a = 0xD00004 then s.cmdWord cdvCmdReg
  else if a = 0xD00008 then
    put (maskOf 8 (fun k => decide ((s.coil k).sup ≥ 2))) 16 8 |||
      put (maskOf 8 (fun k => decide ((s.coil k).state = .latched))) 8 8 |||
      put (maskOf 8 (fun k => decide ((s.coil k).state = .pullIn) || decide ((s.coil k).state = .hold))) 0 8
  else if 0xD01000 ≤ a ∧ a < 0xD01200 then s.coilRead ((a - 0xD01000) / 64) (a % 64)
  else s.rd a

/-- BIN_IN_CFG. DEDUCED, log entry 101. -/
def State.inputCfg (s : State) (i : Nat) : Word :=
  if s.fieldIo.isEmpty then 0
  else
    have sig := s.inputSignal i
    put (if sig < 16384 then sig else 0) 18 14 ||| putB (decide (sig < 16384)) 17 ||| putB (s.inputInvert i) 16 |||
      put (byteAt s.fieldIo (inputOff i)) 10 6 ||| put (leAt s.fieldIo (inputOff i + 2) 2) 0 10

/-- The BIN registers. -/
def State.binRead (s : State) (q : Requester) (a : Nat) : Word :=
  have i := (a - 0xD80100) / 16
  if a = 0xD80000 then
    put (maskOf 16 (fun i => (s.input i).raw)) 16 16 ||| put (maskOf 16 (fun i => (s.input i).value)) 0 16
  else if a = 0xD8000C then put (maskOf 16 (fun i => (s.input i).chatter)) 0 16
  else if 0xD80100 ≤ a ∧ a < 0xD80200 ∧ a % 16 = 0 then s.inputCfg i
  else if 0xD80100 ≤ a ∧ a < 0xD80200 ∧ a % 16 = 4 then num (s.input i).ts32
  else if 0xD80100 ≤ a ∧ a < 0xD80200 ∧ a % 16 = 8 then num (tget (s.input i).secLatch (readerId q) 0)
  else s.rd a

/-! ### CAN (R458) -/

/-- The number of an error state. -/
def canErrNum (e : CanErr) : Nat :=
  match e with
  | .errorActive => 0
  | .errorPassive => 1
  | .busOff => 2

/-- CAN_MB_STAT. -/
def canStat (x : CanBuf) : Word :=
  put x.dlc 4 4 ||| putB x.msgLost 3 ||| putB x.txDoneFail 2 ||| putB x.txReq 1 ||| putB x.newData 0

/-- The registers of a message buffer. -/
def State.canBufRead (s : State) (c b off : Nat) : Word :=
  have x := canBuf (s.canCtl c) b
  if off = 4 then x.id
  else if off = 0x0C then canStat x
  else if off = 0x10 then num x.ts32
  else if 0x40 ≤ off then num (leAt x.data (off - 0x40) 4)
  else s.rd (canBase c + 0x100 + 0x80 * b + off)

/-- The CAN registers of a controller. -/
def State.canRead (s : State) (c off : Nat) : Word :=
  have x := s.canCtl c
  if off = 4 then s.cmdWord (canBase c)
  else if off = 8 then
    put (min 255 x.txErr) 24 8 ||| put x.rxErr 16 8 ||| putB x.alone 4 ||| putB x.listen 3 ||| put (canErrNum x.err) 0 2
  else if off = 0xC then putB x.abdFound 5 ||| putB x.abdRun 4 ||| put x.abdIndex 0 4
  else if 0x100 ≤ off ∧ off < 0x2100 then s.canBufRead c ((off - 0x100) / 128) (off % 128)
  else s.rd (canBase c + off)

/-! ### PRF (R469) -/

/-- The registers of a counter (R469). -/
def State.prfCtrRead (s : State) (q : Requester) (g off : Nat) : Word :=
  if off = 0 then num (s.prfCtr g).value
  else if off = 4 then num (tget s.prf.latches (readerId q * 256 + g) 0)
  else s.rd (0xF00400 + 16 * g + off)

/-- The PRF registers. -/
def State.prfRead (s : State) (q : Requester) (a : Nat) : Word :=
  have p := s.prf
  if a = 0xF00004 then s.cmdWord prfCmdReg
  else if a = 0xF00008 then putB p.snapBusy 1 ||| putB p.frozen 0
  else if a = 0xF0000C then num p.snapFrame
  else if a = 0xF00010 then num p.snapTs
  else if a = 0xF00024 then num p.head
  else if 0xF00400 ≤ a ∧ a < 0xF01280 then s.prfCtrRead q ((a - 0xF00400) / 16) (a % 16)
  else if 0xF02000 ≤ a ∧ a < 0xF02740 then tget p.snap ((a - 0xF02000) / 4) 0
  else if 0xF03000 ≤ a ∧ a < 0xF03040 then num (tget p.tagCount ((a - 0xF03000) / 4) 0)
  else if 0xF04000 ≤ a ∧ a < 0xF08000 then
    num (leAt (tagWords (tget p.tags ((a - 0xF04000) / 16) {})) (a % 16) 4)
  else s.rd a

/-! ### The virtual functions' BAR (R410, R418, R427, R467) -/

/-- VF_GUEST_STATUS. -/
def State.guestWord (s : State) (v g : Nat) : Word :=
  have x := s.fn (512 + 16 * v + g)
  put x.state 30 2 ||| put x.keeper 24 4 ||| put x.consec 18 2 ||| put x.cycles 0 18

/-- The channel that an INDEX names: the i-th of the ranges, in order (R410). -/
def chanAt (l : List (Nat × Nat)) (i : Nat) : Option Nat :=
  match l with
  | [] => none
  | (first, count) :: r => if i < count then some (first + i) else chanAt r (i - count)

/-- The plane address that an offset of a channel's page shows (R410). -/
def State.pageChan (s : State) (c off : Nat) : Option Nat :=
  have x := s.chan c
  if off < 0x400 then some (gridValAddr c 0 + off)
  else if off < 0x600 then some (gridMarkAddr c 0 + off - 0x400)
  else if off < 0x800 then some (inValAddr c 0 + off - 0x600)
  else if off < 0x900 then some (inMarkAddr c 0 + off - 0x800)
  else if off < 0xB00 then some (phasorAddr c 0 + off - 0x900)
  else if off < 0xB80 then some (phasorMarkAddr c 0 + off - 0xB00)
  else if off < 0xBB0 then some (0x3100000 + 48 * c + off - 0xB80)
  else if off < 0xC00 then none
  else if off < 0x1400 then (if x.inUse then some (gridInstAddr x.table 0 + off - 0xC00) else none)
  else if off < 0x1800 then (if x.inUse then some (inInstAddr x.stream 0 + off - 0x1400) else none)
  else none

/-- The plane address that an offset of a vector page shows (R410). -/
def State.pageVector (s : State) (off : Nat) : Option Nat :=
  have h := s.pln.hist
  have c := if s.pln.open_ then (h + 63) % 64 else h
  if off < 0x800 then some (0x31C0000 + 2048 * h + off)
  else if off < 0x1800 then some (0x31E0000 + 4096 * h + off - 0x800)
  else if off < 0x1A00 then some (0x3220000 + 512 * c + off - 0x1800)
  else if off < 0x1C00 then some (0x3228000 + 512 * c + off - 0x1A00)
  else if off < 0x1C10 then some (0x3230000 + 16 * h + off - 0x1C00)
  else if off < 0x1C20 then some (0x3230000 + 16 * c + off - 0x1C10)
  else none

/-- The plane address behind a byte of a function's plane pages. -/
def State.pageAddr (s : State) (v off : Nat) : Option Nat :=
  have k := (off - 0x8000) / 0x2000
  have sel := s.rd (vfBase v + 0x40 + 4 * k)
  have f := s.func v
  if sel.getLsbD 15 then (if f.grants % 2 = 1 then s.pageVector (off % 0x2000) else none)
  else
    match chanAt f.ranges (fld sel 0 10) with
    | none => none
    | some c => s.pageChan c (off % 0x2000)

/-- The counters that belong to a function, ascending (R467). -/
def State.prfOf (s : State) (v : Nat) : List Nat :=
  (List.range 232).filter (fun g =>
    (s.rd (0xF0040C + 16 * g)).getLsbD 8 && decide (fld (s.rd (0xF0040C + 16 * g)) 0 8 = v))

/-- A function's performance counter page (R467). -/
def State.prfPage (s : State) (v : Fin 256) (off : Nat) : Word :=
  if (s.func v.val).grants / 4 % 2 = 0 then 0
  else
    match (s.prfOf v.val)[off / 16]? with
    | none => 0
    | some g => if off % 16 = 12 then num g else s.prfCtrRead (.vf v) g (off % 16)

/-- VF_STATUS. -/
def State.vfStatus (s : State) (v : Nat) : Word :=
  have f := s.func v
  put v 8 8 ||| putB f.internal 3 ||| putB (decide (f.grants % 2 = 1)) 2 |||
    putB (decide (f.grants / 2 % 2 = 1)) 1 ||| putB f.enable 0

/-- The time registers of a function: its own latch set (R418). -/
def State.vfTime (s : State) (v : Fin 256) (off : Nat) : Word :=
  if off = 0x30 then s.bcnWord (.vf v) 0x40010
  else if off = 0x34 then s.bcnWord (.vf v) 0x40014
  else if off = 0x38 then s.bcnWord (.vf v) 0x40018
  else s.bcnWord (.vf v) 0x4001C

/-- An offset of a virtual function's BAR0 (R427, R472). -/
def State.barRead (s : State) (v : Fin 256) (off : Nat) : Word :=
  have f := s.func v.val
  if off = 0 then s.vfStatus v.val
  else if off = 8 then s.cmdWord (vfBase v.val + 4)
  else if 0x30 ≤ off ∧ off < 0x40 then s.vfTime v off
  else if 0x80 ≤ off ∧ off < 0xC0 then s.guestWord v.val ((off - 0x80) / 4)
  else if off < 0x50 ∨ (0x100 ≤ off ∧ off < 0x130) then s.rd (vfBase v.val + off)
  else if off = 0xC00 then putB (s.readerNow (.vf v)).skipped 1
  else if off = 0xC04 then s.readerRead (.vf v) 0x10
  else if off = 0xC08 then s.readerRead (.vf v) 0x14
  else if 0xD00 ≤ off ∧ off < 0xE00 then s.windowWord (.vf v) (off - 0xD00)
  else if 0x1000 ≤ off ∧ off < 0x2000 then s.localRead v.val ((off - 0x1000) / 64) (off % 64)
  else if 0x2000 ≤ off ∧ off < 0x2800 then
    (if (off - 0x2000) / 8 < f.mbxCount then s.mboxRead (.vf v) (f.mbxFirst + (off - 0x2000) / 8) (off % 8) else 0)
  else if 0x4000 ≤ off ∧ off < 0x7000 then
    (if (off - 0x4000) / 64 < f.cntCount then s.rd (vfBase v.val + off) else 0)
  else if 0x7000 ≤ off ∧ off < 0x8000 then s.prfPage v (off - 0x7000)
  else if 0x8000 ≤ off ∧ off < 0x10000 then
    (match s.pageAddr v.val off with
      | none => 0
      | some p => num (s.plnNum p 4))
  else 0

/-! ### Any address -/

/-- The word at an address of PF0's map (R10, R471). -/
def State.mapRead (s : State) (q : Requester) (a : Nat) : Word :=
  if a < 0x10000 then s.glbRead a
  else if a < 0x20000 then s.evtRead a
  else if a < 0x40000 then s.imgRead a
  else if a < 0x100000 then s.bcnRead q a
  else if a < 0x121000 then s.macRead ((a - 0x100000) / 0x1000) (a % 0x1000)
  else if a < 0x300000 then s.rdgRead a
  else if a < 0x400000 then s.sviRead a
  else if a < 0x500000 then s.cndRead a
  else if a < 0x600000 then s.plnRead q a
  else if a < 0x700000 then s.kprRead a
  else if a < 0x800000 then s.pubRead a
  else if a < 0x900000 then s.pairRead a
  else if a < 0xA00000 then s.lmpRead a
  else if a < 0xB00000 then s.galRead a
  else if a < 0xC00000 then s.logRead q a
  else if a < 0xD00000 then s.hstRead q a
  else if a < 0xD80000 then s.cdvRead a
  else if a < 0xE00000 then s.binRead q a
  else if a < 0xE10000 then s.canRead 0 (a - 0xE00000)
  else if a < 0xF00000 then s.canRead 1 (a - 0xE10000)
  else if a < 0x1000000 then s.prfRead q a
  else if a < 0x2000000 then num (s.plnNum (s.plnBank (readerId q) * 2 ^ 24 + (a - 0x1000000)) 4)
  else 0

/-- The word that a requester reads: at an address of PF0's map, or at an offset of its own BAR0. An absent
function reads nothing. DEDUCED, log entry 110. -/
def State.regRead (s : State) (q : Requester) (a : Nat) : Word :=
  match q with
  | .vf v => if v.val ≠ 0 ∧ s.present v.val then s.barRead v a else 0
  | _ => s.mapRead q a

end Sys2Proof.Machine
end

