-- ==== Sys2Proof/Machine/RegWrite.lean ====
section
/-!
DEFINITION. Family: register accesses that no row of their own names: writes by access type (R8 to R11, R476), partial
writes (R9), reads of RC registers (R11), and the rows of the virtual functions' time and the queues' tails (R402,
R418).
-/

namespace Sys2Proof.Machine

open Sys2Proof

/-! ### Event status and enable registers (R473, R476) -/

/-- An event status register, its enable register, the source of bit 0 and the number of sources. -/
structure EvReg where
  st : Nat
  en : Nat
  first : Nat
  bits : Nat
deriving DecidableEq, Repr

/-- The event registers of every block but the ports (R473). -/
def evRegs : List EvReg :=
  [⟨0x40, 0x44, 0, 10⟩, ⟨0x20060, 0x20064, 16, 6⟩, ⟨0x50002C, 0x500030, 24, 4⟩, ⟨0x10014, 0x10018, 28, 3⟩,
   ⟨0x40060, 0x40064, 64, 16⟩, ⟨0x200018, 0x20001C, 256, 9⟩, ⟨0x300028, 0x30002C, 320, 9⟩,
   ⟨0x40001C, 0x400020, 384, 8⟩, ⟨0x600020, 0x600024, 448, 7⟩, ⟨0x700030, 0x700034, 512, 9⟩,
   ⟨0x800054, 0x800058, 576, 14⟩, ⟨0x90002C, 0x900030, 608, 8⟩, ⟨0xA0002C, 0xA00030, 640, 7⟩,
   ⟨0xB00038, 0xB0003C, 704, 6⟩, ⟨0xC00020, 0xC00024, 720, 10⟩]
  ++ [⟨0xD0000C, 0xD00010, 784, 32⟩, ⟨0xD80004, 0xD80008, 816, 16⟩, ⟨0xE00010, 0xE00014, 832, 10⟩,
   ⟨0xE10010, 0xE10014, 848, 10⟩, ⟨0xF00034, 0xF00038, 864, 5⟩, ⟨0x10200, 0x10210, 896, 32⟩,
   ⟨0x10204, 0x10214, 928, 32⟩, ⟨0x10208, 0x10218, 960, 32⟩, ⟨0x1020C, 0x1021C, 992, 32⟩]

/-- The event registers that an address belongs to: the blocks' and the ports' (R131, R132). SP has no source. -/
def evRegOf (a : Nat) : Option EvReg :=
  if 0x100000 ≤ a ∧ a < 0x121000 then
    have p := (a - 0x100000) / 0x1000
    have b := macBase p
    if a = b + 0x18 ∨ a = b + 0x1C then some ⟨b + 0x18, b + 0x1C, if p < 32 then 128 + 4 * p else 0xFFFF, 4⟩ else none
  else evRegs.find? (fun r => decide (r.st = a) || decide (r.en = a))

/-- The value of a W1C register after a write of `v` in the clock in which hardware sets the bits `hw`
(R11). DESIGN CHOICE, log entry 36. -/
def w1c (old v hw mask : Word) : Word := (old &&& ~~~ (v &&& mask)) ||| (v &&& hw &&& mask)

/-- A W1C write of an event status register. A bit that hardware sets in that clock stays 1, and it is a new edge
of its line (R476). -/
def State.evStatusWrite (s : State) (r : EvReg) (v hw : Word) : State :=
  have mask : Word := BitVec.ofNat 32 (2 ^ r.bits - 1) ||| (if 0x100000 ≤ r.st ∧ r.st < 0x121000 then 0x7E00#32 else 0)
  have s := s.wr r.st (w1c (s.rd r.st) v hw mask)
  (List.range r.bits).foldl (fun s i =>
    if v.getLsbD i && hw.getLsbD i && s.line (r.first + i) then s.deliver (r.first + i) else s) s

/-- A write of an event enable register. A line that rises is an edge (R476). -/
def State.evEnableWrite (s : State) (r : EvReg) (v : Word) : State :=
  have old := s.rd r.en
  have s := s.wr r.en (v &&& BitVec.ofNat 32 (2 ^ r.bits - 1))
  (List.range r.bits).foldl (fun s i =>
    if !old.getLsbD i && s.line (r.first + i) then s.deliver (r.first + i) else s) s

/-! ### Command registers (R37) -/

/-- A write to a command register of PF0's map, or none where the address is no command register. -/
def State.cmdWrite (s : State) (q : Requester) (a code rsv arg : Nat) (buf : List Byte) : Option State :=
  if 0x100000 ≤ a ∧ a < 0x121000 then
    (if a % 0x1000 = 0 then some (macCommand ((a - 0x100000) / 0x1000) code rsv arg s) else none)
  else
    match a with
    | 0x14 => some (glbCommand code rsv arg s)
    | 0x30 => some (blockResetCommand code rsv arg s)
    | 0x10000 => some (evtCommand code rsv arg s)
    | 0x20000 => some (imgCommand code rsv arg buf s)
    | 0x40000 => some (bcnCommand code rsv arg s)
    | 0x200000 => some (rdgCommand code rsv arg s)
    | 0x300000 => some (sviCommand code rsv arg s)
    | 0x400000 => some (cndCommand code rsv arg s)
    | 0x500000 => some (plnCommand code rsv arg s)
    | 0x600000 => some (kprCommand code rsv arg s)
    | 0x700000 => some (pubCommand code rsv arg s)
    | 0x800000 => some (pairCommand code rsv arg s)
    | 0x900000 => some (lmpCommand code rsv arg buf s)
    | 0xA00000 => some (galCommand code rsv arg s)
    | 0xB00000 => some (logCommand q code rsv arg s)
    | 0xC00000 => some (hstCommand code rsv arg buf s)
    | 0xD00000 => some (cdvCommand code rsv arg s)
    | 0xE00000 => some (canCommand 0 code rsv arg s)
    | 0xE10000 => some (canCommand 1 code rsv arg s)
    | 0xF00000 => some (prfCommand code rsv arg s)
    | _ => none

/-! ### Registers that store what is written -/

/-- The bits that a plain RW register stores, or none for an address that is none. -/
def rwMask (a : Nat) : Option Word :=
  if [0x20024, 0x20028, 0x2002C, 0x20038, 0x20048, 0x2004C, 0x300020, 0x600014, 0x70001C, 0x900014, 0x900018, 0x90001C,
      0x900020, 0x900024, 0xA00010, 0xA00014, 0xA00018, 0xA00020, 0xC0000C, 0xC00010, 0xC00014, 0xF00014, 0xF00018,
      0xF00020, 0xF00028].contains a then some 0xFFFFFFFF#32
  else if [0x2003C, 0x300024, 0x600018, 0x700020, 0xC00018].contains a then some 0x3FFF#32
  else if a = 0x20040 then some 0x01FFFF3F#32
  else if a = 0x20044 then some 0x1FFF#32
  else if a = 0x40000C then some 3#32
  else if a = 0x900028 then some 0xFFFF#32
  else if 0x21000 ≤ a ∧ a < 0x22000 then some 0xFFFFFFFF#32
  else if 0x12040 ≤ a ∧ a < 0x12060 then some 0xFFFFFFFF#32
  else if 0x600040 ≤ a ∧ a < 0x600060 then some 0x000F01FF#32
  else none

/-- What EVT_ROUTE stores (R482). -/
def routeStored (v : Word) : Word :=
  have w := v &&& 0xF00007FF#32
  if fld v 30 2 = 3 ∨ (fld v 30 2 = 2 ∧ fld v 6 5 ≠ 0) then w &&& 0x300007FF#32 else w

/-- What PRF_SEL, PRF_ASSIGN, PRF_SAMPLE_CFG and PRF_TAG_CFG store (R469). -/
def prfStored (a : Nat) (v : Word) : Word :=
  if a = 0xF0001C then (if 6 ≤ fld v 0 5 ∧ fld v 0 5 ≤ 16 then put (fld v 0 5) 0 5 else 6)
  else if a = 0xF00030 then
    (v &&& 0x8000FFFF#32) ||| put (if 8 ≤ fld v 16 5 ∧ fld v 16 5 ≤ 20 then fld v 16 5 else 12) 16 5
  else if a % 16 = 8 then v &&& 0xC000FFFF#32
  else if fld v 0 8 = 0 then 0 else v &&& 0x1FF#32

/-! ### Writes with an effect of their own -/

/-- A reader's LOG_CTRL: SKIPPED is W1C, and RING selects the ring; a virtual function has no RING (R385, R393). -/
def State.logCtrlWrite (s : State) (q : Requester) (v : Word) : State :=
  have r := s.readerNow q
  have isVf := match q with
    | .vf _ => true
    | _ => false
  s.setReader q { r with skipped := r.skipped && !v.getLsbD 1, ring := if isVf then r.ring else v.getLsbD 0 }

/-- A reader's LOG_CURSOR (R384). -/
def State.logCursorWrite (s : State) (q : Requester) (v : Word) : State :=
  s.setReader q { s.readerNow q with cursor := v.toNat }

/-- A register of a queue pair (R427). -/
def State.queueWrite (s : State) (n off : Nat) (v : Word) : State :=
  have q := s.queue n
  match off with
  | 0x00 => s.setQueue n { q with rxLo := v }
  | 0x04 => s.setQueue n { q with rxHi := v }
  | 0x08 => s.setQueue n { q with txLo := v }
  | 0x0C => s.setQueue n { q with txHi := v }
  | 0x10 => s.setQueue n { q with qcfg := v &&& 0x3F3F03FF#32 }
  | 0x14 => tailWrite n false v.toNat s
  | 0x1C => tailWrite n true v.toNat s
  | 0x28 => s.setQueue n { q with itr := v &&& 0x03FF03FF#32 }
  | _ => s

/-- A register of a function's local queue. A queue that it does not hold has none. DEDUCED, log entry 99.
-/
def State.localWrite (s : State) (v l off : Nat) (x : Word) : State :=
  match s.localQueue v l with
  | none => s
  | some n => s.queueWrite n off x

/-- A register of a coil channel (R433, R444). -/
def State.coilWrite (s : State) (k off : Nat) (v hw : Word) : State :=
  have c := s.coil k
  match off with
  | 0x00 => periodShWrite k v s
  | 0x04 => s.setCoil k { c with riseSh := fld v 0 16 }
  | 0x08 => fallShWrite k v s
  | 0x18 =>
    s.setCoil k { c with
      writeErr := (c.writeErr && !v.getLsbD 3) || (v.getLsbD 3 && hw.getLsbD 3)
      pairStale := (c.pairStale && !v.getLsbD 0) || (v.getLsbD 0 && hw.getLsbD 0) }
  | _ => s

/-- CAN_MB_STAT: DLC is stored, the flags are W1C and TX_REQ is W1S (R458). -/
def State.canStatWrite (s : State) (c b : Nat) (v hw : Word) : State :=
  have x := s.canCtl c
  have m := canBuf x b
  let f (was : Bool) (i : Nat) : Bool := (was && !v.getLsbD i) || (v.getLsbD i && hw.getLsbD i)
  have s := s.setCan c (canSetBuf x b { m with
    dlc := fld v 4 4, msgLost := f m.msgLost 3, txDoneFail := f m.txDoneFail 2, newData := f m.newData 0 })
  if v.getLsbD 1 then canTxReq c b s else s

/-- A register of a message buffer (R458): DATA can be written for transmit only. -/
def State.canBufWrite (s : State) (c b off : Nat) (v hw : Word) : State :=
  have x := s.canCtl c
  have m := canBuf x b
  have base := canBase c + 0x100 + 0x80 * b
  if off = 0 then s.wr base (v &&& 3#32)
  else if off = 4 then s.setCan c (canSetBuf x b { m with id := v })
  else if off = 8 then s.wr (base + 8) (v &&& 0x1FFFFFFF#32)
  else if off = 0xC then s.canStatWrite c b v hw
  else if 0x40 ≤ off ∧ s.canDir c b = 2 then
    s.setCan c (canSetBuf x b { m with data := overlay m.data (off - 0x40) (leBytes v.toNat 4) })
  else s

/-- A write in the EVT block beside its event registers: the routes and the core registers (R478, R482). -/
def State.evtWrite (s : State) (a : Nat) (v hw : Word) : State :=
  if 0x11000 ≤ a ∧ a < 0x12000 then s.wr a (routeStored v)
  else if 0x12000 ≤ a ∧ a < 0x12020 then s.wr a (w1c (s.rd a) v hw 0xFFFFFFFF#32)
  else s

/-- A write in the PRF block beside its event registers. -/
def State.prfWrite (s : State) (q : Requester) (a : Nat) (v hw : Word) : State :=
  if a = 0xF0001C ∨ a = 0xF00030 then s.wr a (prfStored a v)
  else if 0xF00400 ≤ a ∧ a < 0xF01280 then
    (if a % 16 = 4 then prfHiWrite q ((a - 0xF00400) / 16) v (hw.getLsbD 31) s
     else if a % 16 = 0 then s
     else s.wr a (prfStored a v))
  else s

/-- The writes of PF0's map that no mask or event register covers. -/
def State.ownWrite (s : State) (q : Requester) (a : Nat) (v hw : Word) : State :=
  if a = 0x1C then commissionComplete (s.wr a (v &&& 1#32))
  else if a = 0x28 then
    { s with glb := { s.glb with latchOpened := (s.glb.latchOpened && !v.getLsbD 4) || (v.getLsbD 4 && hw.getLsbD 4) } }
  else if 0x10000 ≤ a ∧ a < 0x20000 then s.evtWrite a v hw
  else if a = 0x40050 then bcnTsCtrlWrite v s
  else if 0x100000 ≤ a ∧ a < 0x121000 ∧ (a % 0x1000 = 0x20 ∨ a % 0x1000 = 0x24) then
    s.wr a (w1c (s.rd a) v hw 0xFFFFFFFF#32)
  else if 0x300100 ≤ a ∧ a < 0x300200 then s.wr a (w1c (s.rd a) v hw 0xFFFFFFFF#32)
  else if a = 0x500010 then { s with pln := { s.pln with banks := tset s.pln.banks (readerId q) (fld v 0 2) 0 } }
  else if a = 0xB0000C then s.logCtrlWrite q v
  else if a = 0xB00010 then s.logCursorWrite q v
  else if 0xC10000 ≤ a ∧ a < 0xC20000 then s.localWrite 0 ((a - 0xC10000) / 64) (a % 64) v
  else if 0xC20000 ≤ a ∧ a < 0xC28000 ∧ a % 8 = 0 then mbxStateWrite q ((a - 0xC20000) / 8) v.toNat s
  else if 0xD01000 ≤ a ∧ a < 0xD01200 then s.coilWrite ((a - 0xD01000) / 64) (a % 64) v hw
  else if 0xE00100 ≤ a ∧ a < 0xE02100 then s.canBufWrite 0 ((a - 0xE00100) / 128) (a % 128) v hw
  else if 0xE10100 ≤ a ∧ a < 0xE12100 then s.canBufWrite 1 ((a - 0xE10100) / 128) (a % 128) v hw
  else if 0xF00000 ≤ a ∧ a < 0xF10000 then s.prfWrite q a v hw
  else s

/-- A 32-bit write at an address of PF0's map (R8 to R11, R232). -/
def State.mapWrite (s : State) (q : Requester) (a : Nat) (v hw : Word) (buf : List Byte) : State :=
  if 0x1000000 ≤ a then (if a < 0x2000000 then windowWrite (readerId q) (a - 0x1000000) s else s)
  else
    match s.cmdWrite q a (fld v 0 8) (fld v 8 8) (fld v 16 16) buf with
    | some t => t
    | none =>
      match evRegOf a with
      | some r => if a = r.st then s.evStatusWrite r v hw else s.evEnableWrite r v
      | none =>
        match rwMask a with
        | some m => s.wr a (v &&& m)
        | none => s.ownWrite q a v hw

/-! ### The virtual functions' BAR (R427) -/

/-- A write of VF_EVENT_ENABLE. An own interrupt that it lets through fires the event vector. -/
def State.vfEnableWrite (s : State) (v : Nat) (x : Word) : State :=
  have a := vfBase v + 0x18
  have rise := s.rd a &&& x &&& ~~~ s.rd (a + 4) &&& 0x3F#32
  have s := s.wr (a + 4) (x &&& 0x3F#32)
  if rise = 0 then s
  else
    match s.localVec v (fld (s.rd (a + 8)) 0 6) with
    | none => s
    | some n => s.fireVec n

/-- A write into a function's plane pages (R232, R410): discarded and counted. The record names the plane
address, where the page shows one. DEDUCED, log entry 99. -/
def State.pageWrite (s : State) (v off : Nat) : State :=
  have a := (s.pageAddr v off).getD 0
  (s.count 0x500020).oncePer 25 0 (fun s => (s.setEvent 25).eventRec 25 0x3FF a)

/-- A 32-bit write at an offset of a virtual function's BAR0 (R427). -/
def State.barWrite (s : State) (v : Fin 256) (off : Nat) (x hw : Word) (buf : List Byte) : State :=
  have b := vfBase v.val
  have f := s.func v.val
  if off = 4 then vfCommand v.val (fld x 0 8) (fld x 8 8) (fld x 16 16) buf s
  else if off = 0xC ∨ off = 0x10 ∨ off = 0x14 then s.wr (b + off) x
  else if off = 0x18 then s.wr (b + off) (w1c (s.rd (b + off)) x hw 0x3F#32)
  else if off = 0x1C then s.vfEnableWrite v.val x
  else if off = 0x20 then s.wr (b + off) (x &&& 0x3F#32)
  else if 0x40 ≤ off ∧ off < 0x50 then s.wr (b + off) (x &&& 0x83FF#32)
  else if off = 0xC00 then s.logCtrlWrite (.vf v) x
  else if off = 0xC04 then s.logCursorWrite (.vf v) x
  else if 0x1000 ≤ off ∧ off < 0x2000 then s.localWrite v.val ((off - 0x1000) / 64) (off % 64) x
  else if 0x2000 ≤ off ∧ off < 0x2800 ∧ off % 8 = 0 ∧ (off - 0x2000) / 8 < f.mbxCount then
    mbxStateWrite (.vf v) (f.mbxFirst + (off - 0x2000) / 8) x.toNat s
  else if 0x7000 ≤ off ∧ off < 0x8000 ∧ off % 16 = 4 ∧ f.grants / 4 % 2 = 1 then
    (match (s.prfOf v.val)[(off - 0x7000) / 16]? with
      | none => s
      | some g => prfHiWrite (.vf v) g x (hw.getLsbD 31) s)
  else if 0x8000 ≤ off ∧ off < 0x10000 then s.pageWrite v.val off
  else s

/-- The module answers accesses of a requester: it is awake, and a virtual function is present (R396). -/
def State.accessOk (s : State) (q : Requester) : Bool :=
  decide (s.glb.mode ≠ .dormant) &&
    (match q with
      | .vf v => decide (v.val ≠ 0) && s.present v.val
      | _ => true)

/-- A 32-bit register write: `a` is an address of PF0's map, or an offset of the virtual function's own
BAR0. `hw` names the bits that hardware sets in the same clock, `buf` what a command reads from its argument
buffer. DESIGN CHOICE, log entry 36. -/
def State.regWrite (s : State) (q : Requester) (a : Nat) (v hw : Word) (buf : List Byte) : State :=
  if s.accessOk q && decide (a % 4 = 0) then
    match q with
    | .vf f => s.barWrite f a v hw buf
    | _ => s.mapWrite q a v hw buf
  else s

/-- REGISTER_WRITE (R11). -/
def execRegisterWrite (dt : Nat) (q : Requester) (a : Nat) (value hwSet : Word) (buf : List Byte) (s : State) : Result :=
  .next ((s.elapse dt).regWrite q a value hwSet buf)

/-! ### Partial writes (R9) -/

/-- The block that owns an address of PF0's map (R471). DEDUCED, log entry 35. -/
def blockOf (a : Nat) : Nat :=
  if a < 0x10000 then 0x00
  else if a < 0x20000 then 0x01
  else if a < 0x40000 then 0x02
  else if a < 0x100000 then 0x03
  else if a < 0x200000 then 0x04
  else if a < 0x300000 then 0x05
  else if a < 0x400000 then 0x06
  else if a < 0x500000 then 0x07
  else if a < 0x600000 then 0x08
  else if a < 0x700000 then 0x09
  else if a < 0x800000 then 0x0A
  else if a < 0x900000 then 0x0B
  else if a < 0xA00000 then 0x0C
  else if a < 0xB00000 then 0x0D
  else if a < 0xC00000 then 0x0E
  else if a < 0xD00000 then 0x0F
  else if a < 0xD80000 then 0x10
  else if a < 0xE00000 then 0x11
  else if a < 0xF00000 then 0x12
  else 0x13

/-- A register write without all byte enables is discarded, and a record gives its address (R9, R389). The
plane windows are no registers: there it is a discarded window write (R232). DEDUCED, log entry 35. -/
def partialWrite (q : Requester) (a be : Nat) (s : State) : State :=
  if s.accessOk q && decide (be % 16 ≠ 15) then
    match q with
    | .vf v =>
      if 0x8000 ≤ a then s.pageWrite v.val a else s.logPut 0x0005 0x0F v.val a (be % 16) 0
    | _ =>
      if 0x1000000 ≤ a ∧ a < 0x2000000 then windowWrite (readerId q) (a - 0x1000000) s
      else if 0x2000000 ≤ a then s
      else s.logPut 0x0005 (blockOf a) 0x3FF a (be % 16) 0
  else s

/-- PARTIAL_WRITE (R9). -/
def execPartialWrite (dt : Nat) (q : Requester) (a : Nat) (be : BitVec 4) (s : State) : Result :=
  .next (partialWrite q a be.toNat (s.elapse dt))

/-! ### RC registers (R11) -/

/-- The RC registers of PF0's map, all of them stored words. -/
def rcMap (a : Nat) : Bool :=
  [0x1000C, 0x10010, 0x300010, 0x300014, 0x300018, 0x500014, 0x500018, 0x500020, 0x500024, 0x500028, 0x60001C, 0x700024,
    0x700028, 0x70002C, 0x700038, 0x800040, 0x800044, 0x800048, 0x80004C, 0x80005C, 0xB00028, 0xB0002C, 0xB00030,
    0xB00034, 0xF0002C].contains a ||
  (decide (0x320000 ≤ a) && decide (a < 0x340000)) ||
  (decide (0x600100 ≤ a) && decide (a < 0x600200) && decide (a % 16 = 8)) ||
  (decide (0x601000 ≤ a) && decide (a < 0x603000) && decide (a % 16 ≥ 8)) ||
  (decide (0x730000 ≤ a) && decide (a < 0x740000)) ||
  (decide (0xA01000 ≤ a) && decide (a < 0xA01100) && decide (a % 16 ≥ 8)) ||
  (decide (0xC02000 ≤ a) && decide (a < 0xC06000) && decide (a % 64 < 48)) ||
  (decide (0xD01000 ≤ a) && decide (a < 0xD01200) && (decide (a % 64 = 0x20) || decide (a % 64 = 0x24))) ||
  (decide (0xD80100 ≤ a) && decide (a < 0xD80200) && decide (a % 16 = 12))

/-- The RC registers of a virtual function's BAR (R418, R419). -/
def State.rcBar (s : State) (v off : Nat) : Bool :=
  (decide (0x100 ≤ off) && decide (off < 0x130)) ||
  (decide (0x4000 ≤ off) && decide (off < 0x7000) && decide ((off - 0x4000) / 64 < (s.func v).cntCount))

/-- A read returns the value, and an RC register goes back to its reset value (R11). -/
def rcRead (q : Requester) (a : Nat) (s : State) : State :=
  have w := s.regRead q a
  have t := { s with readData := w }
  match q with
  | .vf v => if s.rcBar v.val a then t.wr (vfBase v.val + a) (regReset (vfBase v.val + a)) else t
  | _ => if rcMap a then t.wr a (regReset a) else t

/-- RC_COUNTER_READ (R11). -/
def execRcCounterRead (dt : Nat) (q : Requester) (a : Nat) (s : State) : Result :=
  have s := s.elapse dt
  .next (if s.accessOk q && decide (a % 4 = 0) then rcRead q a s else s)

/-! ### VF_TIME_NS and the tails -/

/-- VF_TIME_NS_READ (R418). -/
def execVfTimeNsRead (dt : Nat) (v : Fin 256) (s : State) : Result :=
  have s := s.elapse dt
  .next (if s.accessOk (.vf v) then bcnTimeNsRead (.vf v) s else s)

/-- TX_TAIL_WRITE (R402). -/
def execTxTailWrite (dt : Nat) (q : Fin 1024) (value : Word) (s : State) : Result :=
  .next (tailWrite q.val true value.toNat (s.elapse dt))

/-- RX_TAIL_WRITE (R402). -/
def execRxTailWrite (dt : Nat) (q : Fin 1024) (value : Word) (s : State) : Result :=
  .next (tailWrite q.val false value.toNat (s.elapse dt))

end Sys2Proof.Machine
end

