-- ==== Sys2Proof/Machine/Dispatch.lean ====
section
/-!
DEFINITION. One arm per command: its meaning.
-/

namespace Sys2Proof.Machine

open Sys2Proof

/-- The effect of a command on everything but the queue. -/
def exec (i : Instr) (s : State) : Host.Outcome State Fault Refusal :=
  match i with
  | .registerWrite dt q a value hwSet buf => Sys2Proof.Machine.execRegisterWrite dt q a value hwSet buf s
  | .partialWrite dt q a be => Sys2Proof.Machine.execPartialWrite dt q a be s
  | .rcCounterRead dt q a => Sys2Proof.Machine.execRcCounterRead dt q a s
  | .bcnTimeNsRead dt q => Sys2Proof.Machine.execBcnTimeNsRead dt q s
  | .bcnRateLoRead dt => Sys2Proof.Machine.execBcnRateLoRead dt s
  | .vfTimeNsRead dt v => Sys2Proof.Machine.execVfTimeNsRead dt v s
  | .prfValueLoRead dt q g => Sys2Proof.Machine.execPrfValueLoRead dt q g s
  | .binInTs32Read dt q n => Sys2Proof.Machine.execBinInTs32Read dt q n s
  | .logWindowLastRead dt q => Sys2Proof.Machine.execLogWindowLastRead dt q s
  | .plnWindowWrite dt q off => Sys2Proof.Machine.execPlnWindowWrite dt q off s
  | .mbxStateRead dt q m => Sys2Proof.Machine.execMbxStateRead dt q m s
  | .mbxStateWrite dt q m value => Sys2Proof.Machine.execMbxStateWrite dt q m value s
  | .cdvFallShWrite dt k v => Sys2Proof.Machine.execCdvFallShWrite dt k v s
  | .cdvPeriodShWrite dt k v => Sys2Proof.Machine.execCdvPeriodShWrite dt k v s
  | .bcnTsArmWrite dt value => Sys2Proof.Machine.execBcnTsArmWrite dt value s
  | .canTxReqWrite dt c b => Sys2Proof.Machine.execCanTxReqWrite dt c b s
  | .txTailWrite dt q value => Sys2Proof.Machine.execTxTailWrite dt q value s
  | .rxTailWrite dt q value => Sys2Proof.Machine.execRxTailWrite dt q value s
  | .latchClosed dt => Sys2Proof.Machine.execLatchClosed dt s
  | .supplyOn dt => Sys2Proof.Machine.execSupplyOn dt s
  | .prechargeComplete dt => Sys2Proof.Machine.execPrechargeComplete dt s
  | .prechargeFail dt => Sys2Proof.Machine.execPrechargeFail dt s
  | .prechargeRetry dt ok => Sys2Proof.Machine.execPrechargeRetry dt ok s
  | .bootStageComplete dt pass => Sys2Proof.Machine.execBootStageComplete dt pass s
  | .imageLoaded dt => Sys2Proof.Machine.execImageLoaded dt s
  | .commissionComplete dt => Sys2Proof.Machine.execCommissionComplete dt s
  | .commissionTimeout dt => Sys2Proof.Machine.execCommissionTimeout dt s
  | .enterTest dt rsv arg => Sys2Proof.Machine.execEnterTest dt rsv arg s
  | .exitTest dt rsv arg => Sys2Proof.Machine.execExitTest dt rsv arg s
  | .enterMaintenance dt rsv arg => Sys2Proof.Machine.execEnterMaintenance dt rsv arg s
  | .exitMaintenance dt rsv arg => Sys2Proof.Machine.execExitMaintenance dt rsv arg s
  | .leaveCommission dt rsv arg => Sys2Proof.Machine.execLeaveCommission dt rsv arg s
  | .handover dt rsv arg => Sys2Proof.Machine.execHandover dt rsv arg s
  | .leaveService dt rsv arg => Sys2Proof.Machine.execLeaveService dt rsv arg s
  | .restart dt rsv arg => Sys2Proof.Machine.execRestart dt rsv arg s
  | .latchOpened dt => Sys2Proof.Machine.execLatchOpened dt s
  | .removalQuiesced dt => Sys2Proof.Machine.execRemovalQuiesced dt s
  | .safeToRemove dt => Sys2Proof.Machine.execSafeToRemove dt s
  | .removalDormant dt => Sys2Proof.Machine.execRemovalDormant dt s
  | .blockReset dt rsv arg => Sys2Proof.Machine.execBlockReset dt rsv arg s
  | .blockResetDone dt => Sys2Proof.Machine.execBlockResetDone dt s
  | .pcieReset dt => Sys2Proof.Machine.execPcieReset dt s
  | .supplyLoss dt => Sys2Proof.Machine.execSupplyLoss dt s
  | .powerFailWarn dt => Sys2Proof.Machine.execPowerFailWarn dt s
  | .holdupExpiry dt => Sys2Proof.Machine.execHoldupExpiry dt s
  | .supplyRestored dt => Sys2Proof.Machine.execSupplyRestored dt s
  | .tamper dt sensor => Sys2Proof.Machine.execTamper dt sensor s
  | .thermalReading dt die railA railB => Sys2Proof.Machine.execThermalReading dt die railA railB s
  | .loadCandidate dt rsv arg buf => Sys2Proof.Machine.execLoadCandidate dt rsv arg buf s
  | .loadDone dt err => Sys2Proof.Machine.execLoadDone dt err s
  | .reload dt rsv arg => Sys2Proof.Machine.execReload dt rsv arg s
  | .reloadApply dt => Sys2Proof.Machine.execReloadApply dt s
  | .abandon dt rsv arg => Sys2Proof.Machine.execAbandon dt rsv arg s
  | .invalidateBank dt rsv arg => Sys2Proof.Machine.execInvalidateBank dt rsv arg s
  | .setMinGen dt rsv arg => Sys2Proof.Machine.execSetMinGen dt rsv arg s
  | .nvmStore dt rsv arg => Sys2Proof.Machine.execNvmStore dt rsv arg s
  | .nvmStoreDone dt fail => Sys2Proof.Machine.execNvmStoreDone dt fail s
  | .settingsWrite dt rsv arg => Sys2Proof.Machine.execSettingsWrite dt rsv arg s
  | .settingsRevert dt rsv arg => Sys2Proof.Machine.execSettingsRevert dt rsv arg s
  | .settingsRead dt rsv arg => Sys2Proof.Machine.execSettingsRead dt rsv arg s
  | .settingsApply dt => Sys2Proof.Machine.execSettingsApply dt s
  | .frameTick dt => Sys2Proof.Machine.execFrameTick dt s
  | .keeperWake dt k => Sys2Proof.Machine.execKeeperWake dt k s
  | .commit dt => Sys2Proof.Machine.execCommit dt s
  | .kgv dt k ecc => Sys2Proof.Machine.execKgv dt k ecc s
  | .kgm dt k ecc => Sys2Proof.Machine.execKgm dt k ecc s
  | .kiv dt k ecc => Sys2Proof.Machine.execKiv dt k ecc s
  | .kim dt k ecc => Sys2Proof.Machine.execKim dt k ecc s
  | .kphr dt k ecc => Sys2Proof.Machine.execKphr dt k ecc s
  | .kphi dt k ecc => Sys2Proof.Machine.execKphi dt k ecc s
  | .kphm dt k ecc => Sys2Proof.Machine.execKphm dt k ecc s
  | .kgt dt k ecc => Sys2Proof.Machine.execKgt dt k ecc s
  | .kbin dt k ecc => Sys2Proof.Machine.execKbin dt k ecc s
  | .kbinw dt k ecc => Sys2Proof.Machine.execKbinw dt k ecc s
  | .kbinq dt k ecc => Sys2Proof.Machine.execKbinq dt k ecc s
  | .kdec dt k ecc => Sys2Proof.Machine.execKdec dt k ecc s
  | .kdset dt k ecc => Sys2Proof.Machine.execKdset dt k ecc s
  | .kdclr dt k ecc => Sys2Proof.Machine.execKdclr dt k ecc s
  | .kdput dt k ecc => Sys2Proof.Machine.execKdput dt k ecc s
  | .kslw dt k ecc => Sys2Proof.Machine.execKslw dt k ecc s
  | .kssw dt k ecc => Sys2Proof.Machine.execKssw dt k ecc s
  | .kslf dt k ecc => Sys2Proof.Machine.execKslf dt k ecc s
  | .kssf dt k ecc => Sys2Proof.Machine.execKssf dt k ecc s
  | .kevt dt k ecc => Sys2Proof.Machine.execKevt dt k ecc s
  | .kyield dt k ecc => Sys2Proof.Machine.execKyield dt k ecc s
  | .kbudg dt k ecc => Sys2Proof.Machine.execKbudg dt k ecc s
  | .kftime dt k ecc => Sys2Proof.Machine.execKftime dt k ecc s
  | .keeperCsrRead dt k ecc => Sys2Proof.Machine.execKeeperCsrRead dt k ecc s
  | .keeperBaseInstruction dt k ecc => Sys2Proof.Machine.execKeeperBaseInstruction dt k ecc s
  | .budgetExpiry dt k => Sys2Proof.Machine.execBudgetExpiry dt k s
  | .resultMergeRelease dt k => Sys2Proof.Machine.execResultMergeRelease dt k s
  | .lockstepMiscompare dt k => Sys2Proof.Machine.execLockstepMiscompare dt k s
  | .keeperSramEcc dt k data bad => Sys2Proof.Machine.execKeeperSramEcc dt k data bad s
  | .keeperReplaceApply dt => Sys2Proof.Machine.execKeeperReplaceApply dt s
  | .move dt rsv arg => Sys2Proof.Machine.execMove dt rsv arg s
  | .moveApply dt => Sys2Proof.Machine.execMoveApply dt s
  | .funcRestart dt rsv arg => Sys2Proof.Machine.execFuncRestart dt rsv arg s
  | .funcRestartApply dt => Sys2Proof.Machine.execFuncRestartApply dt s
  | .keeperReturn dt rsv arg => Sys2Proof.Machine.execKeeperReturn dt rsv arg s
  | .keeperSelftestDone dt pass => Sys2Proof.Machine.execKeeperSelftestDone dt pass s
  | .macFrameRx dt p f len bad ago => Sys2Proof.Machine.execMacFrameRx dt p f len bad ago s
  | .egressTransmit dt x pick busy => Sys2Proof.Machine.execEgressTransmit dt x pick busy s
  | .pfcFrameRx dt p enables quanta => Sys2Proof.Machine.execPfcFrameRx dt p enables quanta s
  | .pfcPauseExpiry dt p c => Sys2Proof.Machine.execPfcPauseExpiry dt p c s
  | .pfcXoffRepeat dt p c => Sys2Proof.Machine.execPfcXoffRepeat dt p c s
  | .pfcWatchdog dt p c => Sys2Proof.Machine.execPfcWatchdog dt p c s
  | .pfcWatchdogReleaseEnd dt p c => Sys2Proof.Machine.execPfcWatchdogReleaseEnd dt p c s
  | .linkDown dt p part => Sys2Proof.Machine.execLinkDown dt p part s
  | .linkUp dt p speed fec => Sys2Proof.Machine.execLinkUp dt p speed fec s
  | .holdDownExpiry dt p => Sys2Proof.Machine.execHoldDownExpiry dt p s
  | .transceiverChange dt p present mismatch txFault los => Sys2Proof.Machine.execTransceiverChange dt p present mismatch txFault los s
  | .pcsFaultChange dt p loc rem => Sys2Proof.Machine.execPcsFaultChange dt p loc rem s
  | .utilSample1s dt p util => Sys2Proof.Machine.execUtilSample1s dt p util s
  | .utilSample10ms dt p util => Sys2Proof.Machine.execUtilSample10ms dt p util s
  | .speedChangeTimeout dt p => Sys2Proof.Machine.execSpeedChangeTimeout dt p s
  | .t1sCollision dt p late r pick => Sys2Proof.Machine.execT1sCollision dt p late r pick s
  | .t1sBackoffExpiry dt p => Sys2Proof.Machine.execT1sBackoffExpiry dt p s
  | .adminDown dt p rsv arg => Sys2Proof.Machine.execAdminDown dt p rsv arg s
  | .adminUp dt p rsv arg => Sys2Proof.Machine.execAdminUp dt p rsv arg s
  | .speedPin dt p rsv arg => Sys2Proof.Machine.execSpeedPin dt p rsv arg s
  | .reseqTimeout dt out ingress cls => Sys2Proof.Machine.execReseqTimeout dt out ingress cls s
  | .planeFault dt k ecc => Sys2Proof.Machine.execPlaneFault dt k ecc s
  | .ntEntryExpiry dt mac g => Sys2Proof.Machine.execNtEntryExpiry dt mac g s
  | .supervisionTx dt g => Sys2Proof.Machine.execSupervisionTx dt g s
  | .ntFlush dt rsv arg => Sys2Proof.Machine.execNtFlush dt rsv arg s
  | .planeSelect dt rsv arg => Sys2Proof.Machine.execPlaneSelect dt rsv arg s
  | .holddownEnd dt rsv arg => Sys2Proof.Machine.execHolddownEnd dt rsv arg s
  | .ptpSyncRx dt d p complete offset residual demand refRate => Sys2Proof.Machine.execPtpSyncRx dt d p complete offset residual demand refRate s
  | .ptpAnnounceRx dt d cls utc utcValid leap59 leap61 => Sys2Proof.Machine.execPtpAnnounceRx dt d cls utc utcValid leap59 leap61 s
  | .ptpDelayMsgRx dt d p kind delay => Sys2Proof.Machine.execPtpDelayMsgRx dt d p kind delay s
  | .ptpOtherMsgRx dt p unsupported => Sys2Proof.Machine.execPtpOtherMsgRx dt p unsupported s
  | .announceReceiptTimeout dt d => Sys2Proof.Machine.execAnnounceReceiptTimeout dt d s
  | .syncMissed dt d => Sys2Proof.Machine.execSyncMissed dt d s
  | .ptpSyncTx dt d p => Sys2Proof.Machine.execPtpSyncTx dt d p s
  | .ptpAnnounceTx dt d p => Sys2Proof.Machine.execPtpAnnounceTx dt d p s
  | .ptpPdelayReqTx dt d p => Sys2Proof.Machine.execPtpPdelayReqTx dt d p s
  | .timeLost dt => Sys2Proof.Machine.execTimeLost dt s
  | .revertHoldExpiry dt d => Sys2Proof.Machine.execRevertHoldExpiry dt d s
  | .irigFrameRx dt offset demand refRate quality => Sys2Proof.Machine.execIrigFrameRx dt offset demand refRate quality s
  | .irigError dt => Sys2Proof.Machine.execIrigError dt s
  | .step dt rsv arg => Sys2Proof.Machine.execStep dt rsv arg s
  | .stepApply dt => Sys2Proof.Machine.execStepApply dt s
  | .selectDomain dt rsv arg => Sys2Proof.Machine.execSelectDomain dt rsv arg s
  | .asymMeasure dt rsv arg => Sys2Proof.Machine.execAsymMeasure dt rsv arg s
  | .asymDone dt p mean => Sys2Proof.Machine.execAsymDone dt p mean s
  | .asymApply dt rsv arg => Sys2Proof.Machine.execAsymApply dt rsv arg s
  | .asymKeep dt rsv arg => Sys2Proof.Machine.execAsymKeep dt rsv arg s
  | .secondBoundary dt => Sys2Proof.Machine.execSecondBoundary dt s
  | .ppsRise dt => Sys2Proof.Machine.execPpsRise dt s
  | .ppsFall dt => Sys2Proof.Machine.execPpsFall dt s
  | .tsCaptured dt src => Sys2Proof.Machine.execTsCaptured dt src s
  | .svFrameRx dt f => Sys2Proof.Machine.execSvFrameRx dt f s
  | .sampleDeadline dt n => Sys2Proof.Machine.execSampleDeadline dt n s
  | .substForce dt rsv arg => Sys2Proof.Machine.execSubstForce dt rsv arg s
  | .substForceApply dt => Sys2Proof.Machine.execSubstForceApply dt s
  | .substRelease dt rsv arg => Sys2Proof.Machine.execSubstRelease dt rsv arg s
  | .substReleaseApply dt => Sys2Proof.Machine.execSubstReleaseApply dt s
  | .gridSampleCompute dt k => Sys2Proof.Machine.execGridSampleCompute dt k s
  | .freqEstimate dt g => Sys2Proof.Machine.execFreqEstimate dt g s
  | .chainSync dt rsv arg => Sys2Proof.Machine.execChainSync dt rsv arg s
  | .syncDone dt => Sys2Proof.Machine.execSyncDone dt s
  | .syncLineRise dt => Sys2Proof.Machine.execSyncLineRise dt s
  | .syncLineFall dt => Sys2Proof.Machine.execSyncLineFall dt s
  | .chainFault dt ecc => Sys2Proof.Machine.execChainFault dt ecc s
  | .eccUncorr dt a => Sys2Proof.Machine.execEccUncorr dt a s
  | .scrub dt rsv arg => Sys2Proof.Machine.execScrub dt rsv arg s
  | .scrubDone dt => Sys2Proof.Machine.execScrubDone dt s
  | .pubRepeatDue dt p => Sys2Proof.Machine.execPubRepeatDue dt p s
  | .lanternTimer dt => Sys2Proof.Machine.execLanternTimer dt s
  | .peerLanternRx dt m => Sys2Proof.Machine.execPeerLanternRx dt m s
  | .peerLanternLost dt => Sys2Proof.Machine.execPeerLanternLost dt s
  | .gooseRx dt m => Sys2Proof.Machine.execGooseRx dt m s
  | .subTimeout dt n => Sys2Proof.Machine.execSubTimeout dt n s
  | .subRestart dt rsv arg => Sys2Proof.Machine.execSubRestart dt rsv arg s
  | .subRestartApply dt => Sys2Proof.Machine.execSubRestartApply dt s
  | .fogTx dt => Sys2Proof.Machine.execFogTx dt s
  | .fogRx dt p m => Sys2Proof.Machine.execFogRx dt p m s
  | .fogSlotMiss dt p => Sys2Proof.Machine.execFogSlotMiss dt p s
  | .bregLaneChange dt p lane trained => Sys2Proof.Machine.execBregLaneChange dt p lane trained s
  | .partnerAbsentTimeout dt => Sys2Proof.Machine.execPartnerAbsentTimeout dt s
  | .yieldRx dt m => Sys2Proof.Machine.execYieldRx dt m s
  | .takeover dt => Sys2Proof.Machine.execTakeover dt s
  | .digestRx dt m => Sys2Proof.Machine.execDigestRx dt m s
  | .pubMirrorRx dt m => Sys2Proof.Machine.execPubMirrorRx dt m s
  | .ctrlReqRx dt m => Sys2Proof.Machine.execCtrlReqRx dt m s
  | .ctrlGrantRx dt m => Sys2Proof.Machine.execCtrlGrantRx dt m s
  | .ctrlConfirmRx dt m => Sys2Proof.Machine.execCtrlConfirmRx dt m s
  | .ctrlAbortRx dt m => Sys2Proof.Machine.execCtrlAbortRx dt m s
  | .ctrlDeadline dt => Sys2Proof.Machine.execCtrlDeadline dt s
  | .handbackHoldExpiry dt => Sys2Proof.Machine.execHandbackHoldExpiry dt s
  | .pairStartInitiate dt => Sys2Proof.Machine.execPairStartInitiate dt s
  | .soloWaitExpiry dt => Sys2Proof.Machine.execSoloWaitExpiry dt s
  | .alignInitiate dt => Sys2Proof.Machine.execAlignInitiate dt s
  | .alignReqRx dt m lead span => Sys2Proof.Machine.execAlignReqRx dt m lead span s
  | .alignPlanRx dt m s0 => Sys2Proof.Machine.execAlignPlanRx dt m s0 s
  | .alignDataRx dt m item => Sys2Proof.Machine.execAlignDataRx dt m item s
  | .alignFrameReached dt => Sys2Proof.Machine.execAlignFrameReached dt s
  | .bulkRx dt m f => Sys2Proof.Machine.execBulkRx dt m f s
  | .align dt rsv arg => Sys2Proof.Machine.execAlign dt rsv arg s
  | .handbackNow dt rsv arg => Sys2Proof.Machine.execHandbackNow dt rsv arg s
  | .hbInhibit dt rsv arg => Sys2Proof.Machine.execHbInhibit dt rsv arg s
  | .divergeClear dt rsv arg => Sys2Proof.Machine.execDivergeClear dt rsv arg s
  | .generate dt rsv arg => Sys2Proof.Machine.execGenerate dt rsv arg s
  | .lmpImport dt rsv arg buf => Sys2Proof.Machine.execImport dt rsv arg buf s
  | .lmpUpdate dt rsv arg buf => Sys2Proof.Machine.execLmpUpdate dt rsv arg buf s
  | .lmpClear dt rsv arg => Sys2Proof.Machine.execLmpClear dt rsv arg s
  | .keyReplaceDone dt readback journal => Sys2Proof.Machine.execKeyReplaceDone dt readback journal s
  | .attest dt rsv arg buf => Sys2Proof.Machine.execAttest dt rsv arg buf s
  | .readPublic dt rsv arg => Sys2Proof.Machine.execReadPublic dt rsv arg s
  | .readCert dt rsv arg => Sys2Proof.Machine.execReadCert dt rsv arg s
  | .storeCert dt rsv arg buf => Sys2Proof.Machine.execStoreCert dt rsv arg buf s
  | .operate dt rsv arg buf => Sys2Proof.Machine.execOperate dt rsv arg buf s
  | .lmpOperationDone dt => Sys2Proof.Machine.execLmpOperationDone dt s
  | .provision dt rsv arg buf => Sys2Proof.Machine.execProvision dt rsv arg buf s
  | .deploy dt rsv arg => Sys2Proof.Machine.execDeploy dt rsv arg s
  | .slotIntegrityPass dt fails => Sys2Proof.Machine.execSlotIntegrityPass dt fails s
  | .factoryManufacture dt fw factory cert0 cert1 => Sys2Proof.Machine.execFactoryManufacture dt fw factory cert0 cert1 s
  | .arm dt rsv arg => Sys2Proof.Machine.execArm dt rsv arg s
  | .disarm dt rsv arg => Sys2Proof.Machine.execDisarm dt rsv arg s
  | .trigger dt rsv arg => Sys2Proof.Machine.execTrigger dt rsv arg s
  | .triggerApply dt => Sys2Proof.Machine.execTriggerApply dt s
  | .release dt rsv arg => Sys2Proof.Machine.execRelease dt rsv arg s
  | .copy dt rsv arg => Sys2Proof.Machine.execCopy dt rsv arg s
  | .copyDone dt v => Sys2Proof.Machine.execCopyDone dt v s
  | .preTriggerFilled dt p => Sys2Proof.Machine.execPreTriggerFilled dt p s
  | .captureEnd dt p => Sys2Proof.Machine.execCaptureEnd dt p s
  | .holdoffExpiry dt p => Sys2Proof.Machine.execHoldoffExpiry dt p s
  | .archiveDone dt => Sys2Proof.Machine.execArchiveDone dt s
  | .logRecordAccept dt => Sys2Proof.Machine.execLogRecordAccept dt s
  | .criticalNvmWrite dt ok => Sys2Proof.Machine.execCriticalNvmWrite dt ok s
  | .logFreeze dt rsv arg => Sys2Proof.Machine.execLogFreeze dt rsv arg s
  | .logUnfreeze dt rsv arg => Sys2Proof.Machine.execLogUnfreeze dt rsv arg s
  | .freezeTimeout dt => Sys2Proof.Machine.execFreezeTimeout dt s
  | .holdDrainDone dt => Sys2Proof.Machine.execHoldDrainDone dt s
  | .clearArm dt q rsv arg => Sys2Proof.Machine.execClearArm dt q rsv arg s
  | .clearConfirm dt q rsv arg => Sys2Proof.Machine.execClearConfirm dt q rsv arg s
  | .clearArmExpiry dt => Sys2Proof.Machine.execClearArmExpiry dt s
  | .pcieLinkDown dt => Sys2Proof.Machine.execPcieLinkDown dt s
  | .pcieLinkUp dt gen width => Sys2Proof.Machine.execPcieLinkUp dt gen width s
  | .vfEnableChange dt enable numVfs => Sys2Proof.Machine.execVfEnableChange dt enable numVfs s
  | .pcieFlr dt v => Sys2Proof.Machine.execPcieFlr dt v s
  | .flrDone dt v => Sys2Proof.Machine.execFlrDone dt v s
  | .hostTxFrame dt q descs f => Sys2Proof.Machine.execHostTxFrame dt q descs f s
  | .hostRxFrame dt q f ingress cls ts ago bufs => Sys2Proof.Machine.execHostRxFrame dt q f ingress cls ts ago bufs s
  | .itrExpiry dt n => Sys2Proof.Machine.execItrExpiry dt n s
  | .dmaFault dt q => Sys2Proof.Machine.execDmaFault dt q s
  | .queueAssign dt rsv arg => Sys2Proof.Machine.execQueueAssign dt rsv arg s
  | .vectorAssign dt rsv arg => Sys2Proof.Machine.execVectorAssign dt rsv arg s
  | .windowSet dt rsv arg => Sys2Proof.Machine.execWindowSet dt rsv arg s
  | .windowSetApply dt => Sys2Proof.Machine.execWindowSetApply dt s
  | .shareSet dt rsv arg => Sys2Proof.Machine.execShareSet dt rsv arg s
  | .shareSetApply dt => Sys2Proof.Machine.execShareSetApply dt s
  | .mbxBind dt rsv arg => Sys2Proof.Machine.execMbxBind dt rsv arg s
  | .classifierSet dt rsv arg buf => Sys2Proof.Machine.execClassifierSet dt rsv arg buf s
  | .grantSet dt rsv arg => Sys2Proof.Machine.execGrantSet dt rsv arg s
  | .attachSet dt rsv arg => Sys2Proof.Machine.execAttachSet dt rsv arg s
  | .vfReset dt rsv arg => Sys2Proof.Machine.execVfReset dt rsv arg s
  | .queueEnable dt v rsv arg => Sys2Proof.Machine.execQueueEnable dt v rsv arg s
  | .queueDisable dt v rsv arg => Sys2Proof.Machine.execQueueDisable dt v rsv arg s
  | .queueIdle dt q => Sys2Proof.Machine.execQueueIdle dt q s
  | .guestLoad dt v rsv arg buf => Sys2Proof.Machine.execGuestLoad dt v rsv arg buf s
  | .guestPlace dt => Sys2Proof.Machine.execGuestPlace dt s
  | .guestUnload dt v rsv arg => Sys2Proof.Machine.execGuestUnload dt v rsv arg s
  | .guestRestart dt v rsv arg => Sys2Proof.Machine.execGuestRestart dt v rsv arg s
  | .galCopy dt v rsv arg => Sys2Proof.Machine.execGalCopy dt v rsv arg s
  | .carrierPeriodBoundary dt k => Sys2Proof.Machine.execCarrierPeriodBoundary dt k s
  | .riseCompare dt k => Sys2Proof.Machine.execRiseCompare dt k s
  | .fallCompare dt k => Sys2Proof.Machine.execFallCompare dt k s
  | .deadTimeExpiry dt k => Sys2Proof.Machine.execDeadTimeExpiry dt k s
  | .blankExpiry dt k => Sys2Proof.Machine.execBlankExpiry dt k s
  | .pullinExpiry dt k => Sys2Proof.Machine.execPullinExpiry dt k s
  | .ocTrip dt k withFall => Sys2Proof.Machine.execOcTrip dt k withFall s
  | .supMeasure dt k ohm compliance => Sys2Proof.Machine.execSupMeasure dt k ohm compliance s
  | .supResume dt k => Sys2Proof.Machine.execSupResume dt k s
  | .ocClear dt rsv arg => Sys2Proof.Machine.execOcClear dt rsv arg s
  | .inputChangeAccepted dt n => Sys2Proof.Machine.execInputChangeAccepted dt n s
  | .canFrameRx dt c id esi dlc data ago => Sys2Proof.Machine.execCanFrameRx dt c id esi dlc data ago s
  | .canTxComplete dt c ok ack ago => Sys2Proof.Machine.execCanTxComplete dt c ok ack ago s
  | .canBusError dt c tx ack heavy => Sys2Proof.Machine.execCanBusError dt c tx ack heavy s
  | .busOffRecovered dt c => Sys2Proof.Machine.execBusOffRecovered dt c s
  | .canMapTimeout dt c m => Sys2Proof.Machine.execCanMapTimeout dt c m s
  | .abdCandidateTimeout dt c => Sys2Proof.Machine.execAbdCandidateTimeout dt c s
  | .recover dt c rsv arg => Sys2Proof.Machine.execRecover dt c rsv arg s
  | .abortTx dt c rsv arg => Sys2Proof.Machine.execAbortTx dt c rsv arg s
  | .abdStart dt c rsv arg => Sys2Proof.Machine.execAbdStart dt c rsv arg s
  | .listen dt c rsv arg => Sys2Proof.Machine.execListen dt c rsv arg s
  | .listenApply dt c => Sys2Proof.Machine.execListenApply dt c s
  | .snapshot dt rsv arg => Sys2Proof.Machine.execSnapshot dt rsv arg s
  | .snapshotDone dt => Sys2Proof.Machine.execSnapshotDone dt s
  | .prfFreeze dt rsv arg => Sys2Proof.Machine.execPrfFreeze dt rsv arg s
  | .prfUnfreeze dt rsv arg => Sys2Proof.Machine.execPrfUnfreeze dt rsv arg s
  | .prfClear dt rsv arg => Sys2Proof.Machine.execPrfClear dt rsv arg s
  | .msiMessageSend dt => Sys2Proof.Machine.execMsiMessageSend dt s
  | .msixUnmask dt n masked fmask enable => Sys2Proof.Machine.execMsixUnmask dt n masked fmask enable s
  | .resend dt rsv arg => Sys2Proof.Machine.execResend dt rsv arg s
  | .inputLevelChange dt n level => Sys2Proof.Machine.execInputLevelChange dt n level s
  | .backgroundScrub dt n => Sys2Proof.Machine.execBackgroundScrub dt n s

end Sys2Proof.Machine
end

