-- ==== Sys2Proof/Safety.lean ====
section
/-!
DEFINITION. The terms in which the statements speak: what a command answers, which parts of the state change, and what
every step keeps.
-/

namespace Sys2Proof.Machine

open Sys2Proof

/-- The parts of the state, one for each field of `State`. -/
inductive Part where
  | pending
  | out
  | readData
  | regs
  | cmds
  | once
  | time
  | glb
  | pwr
  | log
  | evt
  | img
  | bcn
  | ports
  | rdg
  | cdv
  | bin
  | can
  | prf
  | pln
  | svi
  | cnd
  | lmp
  | hst
  | kpr
  | gal
  | pub
  | pair
deriving DecidableEq, Repr

/-- A part is the same in two states. -/
def Part.same (p : Part) (s t : State) : Prop :=
  match p with
  | .pending => t.pending = s.pending
  | .out => t.out = s.out
  | .readData => t.readData = s.readData
  | .regs => t.regs = s.regs
  | .cmds => t.cmds = s.cmds
  | .once => t.once = s.once
  | .time => t.time = s.time
  | .glb => t.glb = s.glb
  | .pwr => t.pwr = s.pwr
  | .log => t.log = s.log
  | .evt => t.evt = s.evt
  | .img => t.img = s.img
  | .bcn => t.bcn = s.bcn
  | .ports => t.ports = s.ports
  | .rdg => t.rdg = s.rdg
  | .cdv => t.cdv = s.cdv
  | .bin => t.bin = s.bin
  | .can => t.can = s.can
  | .prf => t.prf = s.prf
  | .pln => t.pln = s.pln
  | .svi => t.svi = s.svi
  | .cnd => t.cnd = s.cnd
  | .lmp => t.lmp = s.lmp
  | .hst => t.hst = s.hst
  | .kpr => t.kpr = s.kpr
  | .gal => t.gal = s.gal
  | .pub => t.pub = s.pub
  | .pair => t.pair = s.pair

/-- Every part but those listed is the same in `t` as in `s`. -/
structure Changes (l : List Part) (s t : State) : Prop where
  same : ∀ p, p ∉ l → p.same s t

/-- A command answers a next state of which `P` holds. -/
def Answers (c : Instr) (s : State) (P : State → Prop) : Prop := ∃ t, exec c s = .next t ∧ P t

/-- The sample plane's memory is in its canonical form: addresses strictly rising, and no byte listed that equals what
an unlisted one reads as. -/
def State.MemOk (s : State) : Prop := memWf s.pln.mem = true

/-- What no operation breaks: the waiting commands stay as they are, the plane's memory keeps its canonical form, no
tamper record is lost (R339, R356) and IMG_MIN_GEN never decreases (R67). -/
structure Keep (s t : State) : Prop where
  pending : t.pending = s.pending
  mem : s.MemOk → t.MemOk
  tampers : min 65535 s.lmp.tampers ≤ t.lmp.tampers
  sensors : ∀ i, s.lmp.sensors.testBit i = true → t.lmp.sensors.testBit i = true
  minGen : s.img.minGen ≤ t.img.minGen

/-- A command register takes a command: none of its own runs and, for the global block's two registers, no mode
transition runs (R39). -/
def State.Ready (s : State) (r : Nat) : Prop :=
  (s.cmd r).pending = false ∧ ((r = 0x14 ∨ r = 0x30) → s.glb.inTransition = false)

/-- The status bit of an event source is set (R473). -/
def State.evSet (s : State) (src : Nat) : Bool :=
  match evLoc src with
  | none => false
  | some (a, b, _) => (s.rd a).getLsbD b

/-- The command `code` of a register is DONE. -/
def State.IsDone (s : State) (r code : Nat) : Prop :=
  (s.cmd r).code = code ∧ (s.cmd r).pending = false ∧ (s.cmd r).status = 2

/-- The command `code` of a register runs with the argument `arg`. -/
def State.Runs (s : State) (r code arg : Nat) : Prop :=
  (s.cmd r).code = code ∧ (s.cmd r).pending = true ∧ (s.cmd r).status = 1 ∧
    (s.cmd r).runCode = code ∧ (s.cmd r).runArg = arg

/-- A transition of the mode with its cause, as GLB_MODE and GLB_MODE_CAUSE show it (R54, R55). -/
structure Entered (m : Mode) (cause : Nat) (s t : State) : Prop where
  mode : t.glb.mode = m
  prev : t.glb.prev = s.glb.mode
  cause : t.glb.lastCause = cause

/-- No cause of a higher rank than `rank` has acted on the mode in the clock in which the next command comes (R35). -/
def State.FirstCause (s : State) (rank dt : Nat) : Prop := (s.elapse dt).asideNow rank = none

/-- The keeper instruction rows for one keeper, each with its row number. -/
def keeperRows (dt : Nat) (k : Fin 16) (ecc : Bool) : List (Instr × Nat) :=
  [(.kgv dt k ecc, 64), (.kgm dt k ecc, 65), (.kiv dt k ecc, 66), (.kim dt k ecc, 67), (.kphr dt k ecc, 68),
   (.kphi dt k ecc, 69), (.kphm dt k ecc, 70), (.kgt dt k ecc, 71), (.kbin dt k ecc, 72), (.kbinw dt k ecc, 73),
   (.kbinq dt k ecc, 74), (.kdec dt k ecc, 75)] ++
  [(.kdset dt k ecc, 76), (.kdclr dt k ecc, 77), (.kdput dt k ecc, 78), (.kslw dt k ecc, 79), (.kssw dt k ecc, 80),
   (.kslf dt k ecc, 81), (.kssf dt k ecc, 82), (.kevt dt k ecc, 83), (.kyield dt k ecc, 84), (.kbudg dt k ecc, 85),
   (.kftime dt k ecc, 86), (.keeperCsrRead dt k ecc, 87), (.keeperBaseInstruction dt k ecc, 88)]

/-- The budget cycle at which a keeper's instruction retires (R268). -/
def State.kEnd (s : State) (k : Nat) (op : KOp) (ecc : Bool) : Nat :=
  (s.keeper k).issueAt op + (s.kCostNow k op).1 + (if ecc then 2 else 0)

/-- Keeper `k`'s run `id` has retired one instruction and goes on; no other keeper, and no result in the merge, has
changed. -/
structure Retires (k id : Nat) (op : KOp) (ecc : Bool) (s t : State) : Prop where
  run : (t.keeper k).run = some id
  cycle : (t.keeper k).cycle = s.kEnd k op ecc
  instret : (t.keeper k).instret = (s.keeper k).instret + 1
  others : ∀ j, j ≠ k → t.keeper j = s.keeper j
  merge : t.kpr.merge = s.kpr.merge

/-- A keeper's registers are those of `x`, and its program counter is `pc`. -/
def Keeper.HasRegs (y x : Keeper) (pc : Nat) : Prop := y.x = x.x ∧ y.f = x.f ∧ y.pc = pc

/-- A message of the partner's with a type, its FRAME and its payload, which passes R310 while the pair unit receives. -/
structure State.BregIn (s : State) (typ : Nat) (m : List Byte) (frame : Nat) (b : List Byte) : Prop where
  on : s.pairOn = true
  ok : s.bregOk m = true
  typ : byteAt m 0 = typ
  frame : leAt m 0x0C 4 = frame
  body : slice m 16 (leAt m 2 2) = b

/-- What leaves on the two paths when the module sends a message (R310, R311). -/
def State.bregOut (s : State) (typ frame : Nat) (payload : List Byte) : List OutMsg :=
  [.breg 0 (bregMsg typ 0 s.glb.moduleId ((s.pair.pathA.seq + 1) % 2 ^ 32) frame payload),
   .breg 1 (bregMsg typ 1 s.glb.moduleId ((s.pair.pathB.seq + 1) % 2 ^ 32) frame payload)]

/-- The command register that a row writes, with the command's code and the reserved bits that it carries (R37). -/
def commandOf (i : Instr) : Option (Nat × Nat × BitVec 8) :=
  match i with
  | .enterTest _ rsv _ => some (glbCmdReg, 1, rsv)
  | .exitTest _ rsv _ => some (glbCmdReg, 2, rsv)
  | .enterMaintenance _ rsv _ => some (glbCmdReg, 3, rsv)
  | .exitMaintenance _ rsv _ => some (glbCmdReg, 4, rsv)
  | .leaveCommission _ rsv _ => some (glbCmdReg, 5, rsv)
  | .handover _ rsv _ => some (glbCmdReg, 6, rsv)
  | .leaveService _ rsv _ => some (glbCmdReg, 7, rsv)
  | .restart _ rsv _ => some (glbCmdReg, 8, rsv)
  | .blockReset _ rsv _ => some (blockResetReg, 1, rsv)
  | .loadCandidate _ rsv _ _ => some (imgCmdReg, 1, rsv)
  | .reload _ rsv _ => some (imgCmdReg, 2, rsv)
  | .abandon _ rsv _ => some (imgCmdReg, 3, rsv)
  | .invalidateBank _ rsv _ => some (imgCmdReg, 4, rsv)
  | .setMinGen _ rsv _ => some (imgCmdReg, 5, rsv)
  | .nvmStore _ rsv _ => some (imgCmdReg, 6, rsv)
  | .settingsWrite _ rsv _ => some (imgCmdReg, 7, rsv)
  | .settingsRevert _ rsv _ => some (imgCmdReg, 8, rsv)
  | .settingsRead _ rsv _ => some (imgCmdReg, 9, rsv)
  | .move _ rsv _ => some (kprCmdReg, 1, rsv)
  | .funcRestart _ rsv _ => some (kprCmdReg, 2, rsv)
  | .keeperReturn _ rsv _ => some (kprCmdReg, 3, rsv)
  | .adminDown _ p rsv _ => some (macBase p.val, 1, rsv)
  | .adminUp _ p rsv _ => some (macBase p.val, 2, rsv)
  | .speedPin _ p rsv _ => some (macBase p.val, 3, rsv)
  | .ntFlush _ rsv _ => some (rdgCmdReg, 1, rsv)
  | .planeSelect _ rsv _ => some (rdgCmdReg, 2, rsv)
  | .holddownEnd _ rsv _ => some (rdgCmdReg, 3, rsv)
  | .step _ rsv _ => some (bcnCmdReg, 1, rsv)
  | .selectDomain _ rsv _ => some (bcnCmdReg, 2, rsv)
  | .asymMeasure _ rsv _ => some (bcnCmdReg, 3, rsv)
  | .asymApply _ rsv _ => some (bcnCmdReg, 4, rsv)
  | .asymKeep _ rsv _ => some (bcnCmdReg, 5, rsv)
  | .substForce _ rsv _ => some (sviCmdReg, 1, rsv)
  | .substRelease _ rsv _ => some (sviCmdReg, 2, rsv)
  | .chainSync _ rsv _ => some (cndCmdReg, 1, rsv)
  | .scrub _ rsv _ => some (plnCmdReg, 1, rsv)
  | .subRestart _ rsv _ => some (pubCmdReg, 1, rsv)
  | .align _ rsv _ => some (pairCmdReg, 1, rsv)
  | .handbackNow _ rsv _ => some (pairCmdReg, 2, rsv)
  | .hbInhibit _ rsv _ => some (pairCmdReg, 3, rsv)
  | .divergeClear _ rsv _ => some (pairCmdReg, 4, rsv)
  | .generate _ rsv _ => some (lmpCmdReg, 1, rsv)
  | .lmpImport _ rsv _ _ => some (lmpCmdReg, 2, rsv)
  | .lmpUpdate _ rsv _ _ => some (lmpCmdReg, 3, rsv)
  | .lmpClear _ rsv _ => some (lmpCmdReg, 4, rsv)
  | .attest _ rsv _ _ => some (lmpCmdReg, 5, rsv)
  | .readPublic _ rsv _ => some (lmpCmdReg, 6, rsv)
  | .readCert _ rsv _ => some (lmpCmdReg, 7, rsv)
  | .storeCert _ rsv _ _ => some (lmpCmdReg, 8, rsv)
  | .operate _ rsv _ _ => some (lmpCmdReg, 9, rsv)
  | .provision _ rsv _ _ => some (lmpCmdReg, 10, rsv)
  | .deploy _ rsv _ => some (lmpCmdReg, 11, rsv)
  | .arm _ rsv _ => some (galCmdReg, 1, rsv)
  | .disarm _ rsv _ => some (galCmdReg, 2, rsv)
  | .trigger _ rsv _ => some (galCmdReg, 3, rsv)
  | .release _ rsv _ => some (galCmdReg, 4, rsv)
  | .copy _ rsv _ => some (galCmdReg, 5, rsv)
  | .logFreeze _ rsv _ => some (logCmdReg, 1, rsv)
  | .logUnfreeze _ rsv _ => some (logCmdReg, 2, rsv)
  | .clearArm _ _ rsv _ => some (logCmdReg, 3, rsv)
  | .clearConfirm _ _ rsv _ => some (logCmdReg, 4, rsv)
  | .queueAssign _ rsv _ => some (hstCmdReg, 1, rsv)
  | .vectorAssign _ rsv _ => some (hstCmdReg, 2, rsv)
  | .windowSet _ rsv _ => some (hstCmdReg, 3, rsv)
  | .shareSet _ rsv _ => some (hstCmdReg, 4, rsv)
  | .mbxBind _ rsv _ => some (hstCmdReg, 5, rsv)
  | .classifierSet _ rsv _ _ => some (hstCmdReg, 6, rsv)
  | .grantSet _ rsv _ => some (hstCmdReg, 7, rsv)
  | .attachSet _ rsv _ => some (hstCmdReg, 8, rsv)
  | .vfReset _ rsv _ => some (hstCmdReg, 9, rsv)
  | .queueEnable _ v rsv _ => some (vfBase v.val + 4, 1, rsv)
  | .queueDisable _ v rsv _ => some (vfBase v.val + 4, 2, rsv)
  | .guestLoad _ v rsv _ _ => some (vfBase v.val + 4, 3, rsv)
  | .guestUnload _ v rsv _ => some (vfBase v.val + 4, 4, rsv)
  | .guestRestart _ v rsv _ => some (vfBase v.val + 4, 5, rsv)
  | .galCopy _ v rsv _ => some (vfBase v.val + 4, 6, rsv)
  | .ocClear _ rsv _ => some (cdvCmdReg, 1, rsv)
  | .recover _ c rsv _ => some (canBase c.val, 1, rsv)
  | .abortTx _ c rsv _ => some (canBase c.val, 2, rsv)
  | .abdStart _ c rsv _ => some (canBase c.val, 3, rsv)
  | .listen _ c rsv _ => some (canBase c.val, 4, rsv)
  | .snapshot _ rsv _ => some (prfCmdReg, 1, rsv)
  | .prfFreeze _ rsv _ => some (prfCmdReg, 2, rsv)
  | .prfUnfreeze _ rsv _ => some (prfCmdReg, 3, rsv)
  | .prfClear _ rsv _ => some (prfCmdReg, 4, rsv)
  | .resend _ rsv _ => some (evtCmdReg, 1, rsv)
  | _ => none

end Sys2Proof.Machine
end

