-- ==== Sys2Proof/Certificates/Slice0/Obligations.lean ====
section
/-!
DEFINITION. The statements for the provers: what each command does, in the terms of Sys2Proof/Safety.lean. Where a
statement names what an open value of the spec gives, it speaks of that value only through the model's own free
function, so it holds whatever the value is.
-/

open Sys2Proof Sys2Proof.Machine

/-- One step takes the command at the front of the queue and answers what that command does, with the rest of the queue
waiting; on an empty queue the module idles, which is the model's choice (log entry 2). -/
def Obligations.StepTakesTheFront : Prop :=
  (∀ (c : Instr) (rest : List Instr) (s : State), s.pending = c :: rest →
    step s = exec c { s with pending := rest }) ∧
  (∀ s : State, s.pending = [] → step s = .next s)

/-- The module right after reset, in what the spec gives a reset value: nothing waits, the mode is BOOT, the registers
with a reset value other than 0 hold it, no event source is routed or raised and the plane's memory is empty (R54, R82,
R108, R154, R188, R218, R264, R304, R426, R469, R473, R479). -/
def Obligations.ResetState : Prop :=
  State.reset.pending = [] ∧ State.reset.glb.mode = .boot ∧ State.reset.MemOk ∧ State.reset.pln.mem = [] ∧
  (∀ e ∈ ([(0x0, 0x4F414353), (0x10, 1), (0x20038, 0xFFFFFFFF), (0x40008, 0xFF000030), (0x40030, 0x00FFFF00),
      (0x40038, 0x00FFFF00), (0x40040, 0x00FFFF00), (0x40048, 37), (0x200008, 3), (0x20000C, 0x70000000),
      (0x300020, 0xFFFFFFFF)] : List (Nat × Word)), State.reset.regRead .pf0 e.1 = e.2) ∧
  (∀ e ∈ ([(0x40000C, 3), (0x400014, 0xFFFFFFFF), (0x600014, 0xFFFFFFFF), (0x700014, 0xFF00), (0x70001C, 0xFFFFFFFF),
      (0xC00014, 0xFFFFFFFF), (0xF0001C, 6), (0xF00020, 1), (0xF00030, 0x000C0000)] : List (Nat × Word)),
    State.reset.regRead .pf0 e.1 = e.2) ∧
  (∀ k < 16, State.reset.regRead .pf0 (0x600100 + 0x10 * k) = 0x00FF0000#32) ∧
  (∀ src < 1024, State.reset.routeTarget src = 0 ∧ State.reset.evSet src = false)

/-- Every command of the table answers a next state: no row ends in a fault or a refusal. It leaves the commands that
wait as they are, and no command clears a tamper sensor's bit or lowers the tamper count (R339, R356). -/
def Obligations.EveryCommandAnswersAndKeepsTampers : Prop :=
  ∀ (c : Instr) (s : State), Answers c s (fun t =>
    t.pending = s.pending ∧ min 65535 s.lmp.tampers ≤ t.lmp.tampers ∧
    ∀ i, s.lmp.sensors.testBit i = true → t.lmp.sensors.testBit i = true)

/-- The plane's memory keeps its canonical form in every step: its addresses rise strictly and it lists no byte that
equals what an unlisted one reads as. -/
def Obligations.StepKeepsPlaneMemoryCanonical : Prop :=
  ∀ s t : State, s.MemOk → step s = .next t → t.MemOk

/-- IMG_MIN_GEN never decreases, whatever command runs; SET_MIN_GEN raises it to the running image generation; from then
on an image below it fails verification, with BAD_GENERATION where it would not fail whatever the minimum (R67). -/
def Obligations.MinGenNeverDecreases : Prop :=
  (∀ s t : State, step s = .next t → s.img.minGen ≤ t.img.minGen) ∧
  (∀ (dt : Nat) (s : State), s.Ready imgCmdReg → s.glb.mode = .maintenance → Answers (.setMinGen dt 0 0) s (fun t =>
    t.img.minGen = max s.img.minGen s.runGen)) ∧
  (∀ (s : State) (b : List Byte), (imgParse b).gen < s.img.minGen → ∃ code i y, s.verify b = .bad code i y ∧
    (code = 0x14 ∨ ∀ n, ({ s with img := { s.img with minGen := n } }).verify b = .bad code i y))

/-- The order of a command register's checks. A command written while one runs, or to the global block while its mode
changes, shows BUSY with its own code and is not checked at all: the running command keeps PENDING, nothing else changes
and no record is written. With the register free, a 1 in a reserved bit shows REFUSED_ARG and nothing changes. When the
running command completes the status shows DONE with its code. The image block's commands while a RELOAD waits are left
out here: ABANDON ends it, and a settings command with its target is refused (R8, R36, R37, R38, R39, R73, R81). -/
def Obligations.CommandRegistersCheckInOrder : Prop :=
  (∀ (i : Instr) (r code : Nat) (rsv : BitVec 8) (s : State), commandOf i = some (r, code, rsv) →
    (((s.cmd r).pending = true ∨ ((r = 0x14 ∨ r = 0x30) ∧ s.glb.inTransition = true)) →
      (r = imgCmdReg → s.img.reload = none) → Answers i s (fun t =>
        t.cmd r = { s.cmd r with code := code, status := 5 } ∧ (∀ q, q ≠ r → t.cmd q = s.cmd q) ∧
        t.log.queue = s.log.queue ∧ Changes [.cmds, .time, .log] s t)) ∧
    (s.Ready r → rsv ≠ 0 → Answers i s (fun t =>
      t.cmd r = { s.cmd r with code := code, status := 4 } ∧ (∀ q, q ≠ r → t.cmd q = s.cmd q) ∧
      t.log.queue = s.log.queue ∧ Changes [.cmds, .time, .log] s t))) ∧
  (∀ (r : Nat) (s : State), (s.cmd r).pending = true → (s.cmdDone r).IsDone r (s.cmd r).runCode)

/-- A register write by a function that is not virtual. A register whose bits are plain read and write stores those
bits; a status register's bit i becomes 0 where 1 is written to it, unless the hardware sets it in the same clock; no
other register and no other part of the module changes in the first case, and only the event delivery in the second.
In DORMANT a write has no effect (R11, R16). -/
def Obligations.RegisterWritesStoreOrClear : Prop :=
  ∀ (dt : Nat) (q : Requester) (a : Nat) (v hw : Word) (buf : List Byte) (s : State),
    (∀ f, q ≠ .vf f) → a % 4 = 0 →
    (s.glb.mode ≠ .dormant → ∀ m, rwMask a = some m → Answers (.registerWrite dt q a v hw buf) s (fun t =>
      t.rd a = v &&& m ∧ (∀ b, b ≠ a → t.rd b = s.rd b) ∧ Changes [.regs, .time, .log] s t)) ∧
    (s.glb.mode ≠ .dormant → ∀ r, evRegOf a = some r → a = r.st →
      Answers (.registerWrite dt q a v hw buf) s (fun t =>
        (∀ i < r.bits, (t.rd a).getLsbD i =
          (((s.rd a).getLsbD i && !v.getLsbD i) || (v.getLsbD i && hw.getLsbD i))) ∧
        Changes [.regs, .evt, .time, .log] s t)) ∧
    (s.glb.mode = .dormant → Answers (.registerWrite dt q a v hw buf) s (fun t => Changes [.time, .log] s t))

/-- Writes that are discarded. A write without all four byte enables leaves a record with its address, and a write into
the plane window counts and raises WINDOW_WRITE, once per second; neither changes the addressed register or the plane
(R9, R232). -/
def Obligations.DiscardedWritesAreReported : Prop :=
  (∀ (dt : Nat) (q : Requester) (a : Nat) (be : BitVec 4) (s : State),
    (∀ f, q ≠ .vf f) → s.glb.mode ≠ .dormant → be ≠ 15 → a < 0x1000000 → s.log.queue.length < 64 →
    s.classOf 5 ≠ 3 → Answers (.partialWrite dt q a be) s (fun t =>
      (∃ r ∈ t.log.queue, r.code = 5 ∧ r.block = blockOf a ∧ r.p0 = a ∧ r.p1 = be.toNat) ∧
      Changes [.time, .log] s t)) ∧
  (∀ (dt : Nat) (q : Fin 5) (off : Fin 16777216) (s : State),
    Answers (.plnWindowWrite dt q off) s (fun t =>
      t.rd 0x500020 = satInc (s.rd 0x500020) ∧ (s.once.contains (onceKey 25 0) = false → t.evSet 25 = true) ∧
      t.once.contains (onceKey 25 0) = true ∧ Changes [.regs, .once, .evt, .time, .log] s t))

/-- Reads with an effect. A read of a counter that clears on read returns it and leaves its reset value; a read of the
low part of a wide value latches the rest for its reader, and leaves what the other readers latched; a read of the
last word of the log window moves the reader's cursor past the last record shown (R11, R86, R108, R384, R413, R418,
R446, R462). -/
def Obligations.LatchingReadsComplete : Prop :=
  (∀ (dt : Nat) (q : Requester) (a : Nat) (s : State), (∀ f, q ≠ .vf f) → s.glb.mode ≠ .dormant → a % 4 = 0 →
    rcMap a = true → Answers (.rcCounterRead dt q a) s (fun t =>
      t.readData = (s.elapse dt).regRead q a ∧ t.rd a = regReset a ∧ (∀ b, b ≠ a → t.rd b = s.rd b) ∧
      Changes [.readData, .regs, .time, .log] s t)) ∧
  (∀ (dt : Nat) (q : Requester) (s : State), Answers (.bcnTimeNsRead dt q) s (fun t =>
    t.readData = BitVec.ofNat 32 (nsOf t.now) ∧
    tget t.bcn.latches (readerId q) {} = { sec := secOf t.now, frac := fracOf t.now, ts32 := ts32Of t.now } ∧
    (∀ k, k ≠ readerId q → tget t.bcn.latches k {} = tget s.bcn.latches k {}) ∧
    Changes [.readData, .bcn, .time, .log] s t)) ∧
  (∀ (dt : Nat) (v : Fin 256) (s : State), s.glb.mode ≠ .dormant → v.val ≠ 0 → s.present v.val = true →
    Answers (.vfTimeNsRead dt v) s (fun t =>
      t.readData = BitVec.ofNat 32 (nsOf t.now) ∧
      tget t.bcn.latches (5 + v.val) {} = { sec := secOf t.now, frac := fracOf t.now, ts32 := ts32Of t.now } ∧
      (∀ k, k ≠ 5 + v.val → tget t.bcn.latches k {} = tget s.bcn.latches k {}) ∧
      Changes [.readData, .bcn, .time, .log] s t)) ∧
  (∀ (dt : Nat) (s : State), Answers (.bcnRateLoRead dt) s (fun t =>
    t.readData = BitVec.ofNat 32 (toTwos 64 s.bcn.rate) ∧ t.bcn.rateHiLatch = toTwos 64 s.bcn.rate / 2 ^ 32 ∧
    t.bcn.rate = s.bcn.rate ∧ Changes [.readData, .bcn, .time, .log] s t)) ∧
  (∀ (dt : Nat) (q : Requester) (g : Fin 232) (s : State), Answers (.prfValueLoRead dt q g) s (fun t =>
    t.readData = BitVec.ofNat 32 (s.prfCtr g.val).value ∧
    tget t.prf.latches (readerId q * 256 + g.val) 0 = prfHi (s.prfCtr g.val) ∧ t.prf.ctrs = s.prf.ctrs ∧
    Changes [.readData, .prf, .time, .log] s t)) ∧
  (∀ (dt : Nat) (q : Requester) (i : Fin 16) (s : State), Answers (.binInTs32Read dt q i) s (fun t =>
    t.readData = BitVec.ofNat 32 (s.input i.val).ts32 ∧
    tget (t.input i.val).secLatch (readerId q) 0 = (s.input i.val).sec ∧
    (∀ k, k ≠ i.val → t.input k = s.input k) ∧ Changes [.readData, .bin, .time, .log] s t)) ∧
  (∀ (dt : Nat) (q : Requester) (x : LogRec) (s : State), (s.window q).getLast? = some x →
    Answers (.logWindowLastRead dt q) s (fun t =>
      (t.reader q).cursor = (x.seq + 1) % 2 ^ 32 ∧ t.log.dram = s.log.dram ∧ t.log.nvm = s.log.nvm ∧
      Changes [.readData, .time, .log] s t)) ∧
  (∀ (dt : Nat) (q : Requester) (m : Fin 4096) (s : State), s.mboxSeen q m.val = true →
    Answers (.mbxStateRead dt q m) s (fun t =>
      t.readData = BitVec.ofNat 32 (b2n (s.mbox m.val).ready * 2 ^ 31 + (s.mbox m.val).seq) ∧
      tget (t.mbox m.val).latches (readerId q) 0 = (s.mbox m.val).value ∧
      (∀ k, k ≠ m.val → t.mbox k = s.mbox k) ∧ Changes [.readData, .hst, .time, .log] s t))

/-- Writes that arm or post. A mailbox's result is consumed by its own sequence number and by no other, which counts;
the coil shadows, a time capture, a CAN buffer's request and a ring's tail take what is written, and no other channel,
buffer or queue changes (R108, R402, R413, R433, R452). -/
def Obligations.ArmingWritesComplete : Prop :=
  (∀ (dt : Nat) (q : Requester) (m : Fin 4096) (v : Word) (s : State), s.mboxOwner m.val = some (requesterFn q) →
    ((s.mbox m.val).ready = true → (s.mbox m.val).seq = v.toNat % 256 → Answers (.mbxStateWrite dt q m v) s (fun t =>
      t.mbox m.val = { s.mbox m.val with ready := false } ∧ (∀ k, k ≠ m.val → t.mbox k = s.mbox k) ∧
      Changes [.hst, .time, .log] s t)) ∧
    ((s.mbox m.val).ready = false ∨ (s.mbox m.val).seq ≠ v.toNat % 256 → Answers (.mbxStateWrite dt q m v) s (fun t =>
      (t.rd (0xC02020 + 0x40 * requesterFn q)).toNat =
        min ((s.rd (0xC02020 + 0x40 * requesterFn q)).toNat + 1) 0xFFFFFFFF ∧
      (s.once.contains (onceKey 728 0) = false → t.evSet 728 = true) ∧
      Changes [.regs, .once, .evt, .time, .log] s t))) ∧
  (∀ (dt : Nat) (k : Fin 8) (v : Word) (s : State),
    Answers (.cdvFallShWrite dt k v) s (fun t =>
      (t.coil k.val).fallSh = v.toNat % 65536 ∧ (t.coil k.val).armed = true ∧
      (∀ j, j ≠ k.val → t.coil j = s.coil j) ∧ Changes [.cdv, .out, .time, .log] s t) ∧
    (2000 ≤ v.toNat % 65536 → v.toNat % 65536 ≤ 40000 → Answers (.cdvPeriodShWrite dt k v) s (fun t =>
      (t.coil k.val).periodSh = v.toNat % 65536 ∧ (t.coil k.val).periodPending = true ∧
      (∀ j, j ≠ k.val → t.coil j = s.coil j) ∧ Changes [.cdv, .out, .time, .log] s t)) ∧
    (v.toNat % 65536 < 2000 ∨ 40000 < v.toNat % 65536 → Answers (.cdvPeriodShWrite dt k v) s (fun t =>
      (t.coil k.val).periodSh = (s.coil k.val).periodSh ∧ (t.coil k.val).writeErr = true ∧
      (∀ j, j ≠ k.val → t.coil j = s.coil j) ∧ Changes [.cdv, .out, .time, .log] s t))) ∧
  (∀ (dt : Nat) (v : Word) (s : State), v.getLsbD 8 = true → Answers (.bcnTsArmWrite dt v) s (fun t =>
    t.bcn.tsArm = true ∧ (v.getLsbD 9 = true → t.bcn.tsDone = false) ∧
    t.bcn.tsCtrl = (if v.toNat % 8 ≥ 5 then 0 else BitVec.ofNat 32 (v.toNat % 8)) ∧
    Changes [.bcn, .time, .log] s t)) ∧
  (∀ (dt : Nat) (c : Fin 2) (b : Fin 64) (s : State), Answers (.canTxReqWrite dt c b) s (fun t =>
    (canBuf (t.canCtl c.val) b.val).txReq = true ∧
    (∀ k, k ≠ b.val → canBuf (t.canCtl c.val) k = canBuf (s.canCtl c.val) k) ∧
    (∀ k, k ≠ c.val → t.canCtl k = s.canCtl k) ∧ Changes [.can, .time, .log] s t)) ∧
  (∀ (dt : Nat) (n : Fin 1024) (v : Word) (s : State),
    Answers (.txTailWrite dt n v) s (fun t =>
      t.queue n.val = { s.queue n.val with txTail := v.toNat % (s.queue n.val).txSize } ∧
      (∀ k, k ≠ n.val → t.queue k = s.queue k) ∧ Changes [.hst, .time, .log] s t) ∧
    Answers (.rxTailWrite dt n v) s (fun t =>
      t.queue n.val = { s.queue n.val with rxTail := v.toNat % (s.queue n.val).rxSize } ∧
      (∀ k, k ≠ n.val → t.queue k = s.queue k) ∧ Changes [.hst, .time, .log] s t))

/-- The performance counters' commands (R468), in every mode after BOOT. SNAPSHOT copies the value of every counter at one instant and holds the block
busy until it is DONE; FREEZE, when not frozen, and UNFREEZE, when frozen, stop and start the block; CLEAR sets one
counter, or with ARG 0xFF every counter, to 0. Elsewhere they are refused, and so is any other argument. No other part of
the module changes but the logbook, the events and the clock. -/
def Obligations.PrfCommandsComplete : Prop :=
  (∀ (dt : Nat) (s : State), s.prf.snapBusy = true → Answers (.snapshotDone dt) s (fun t =>
    t.prf = { s.prf with snapBusy := false } ∧ t.evSet 864 = true ∧ (t.cmd prfCmdReg).pending = false ∧
    (t.cmd prfCmdReg).status = 2 ∧ Changes [.cmds, .prf, .regs, .evt, .time, .log] s t)) ∧
  (∀ (dt : Nat) (s : State), s.Ready prfCmdReg → s.afterBoot = true →
    Answers (.snapshot dt 0 0) s (fun t =>
      t.Runs prfCmdReg 1 0 ∧ t.prf.snapBusy = true ∧ t.prf.snapFrame = s.frameNum ∧
      (∀ g < 232, tget t.prf.snap (2 * g) 0 = BitVec.ofNat 32 (s.prfCtr g).value) ∧
      t.prf.ctrs = s.prf.ctrs ∧ Changes [.cmds, .prf, .regs, .evt, .time, .log] s t) ∧
    (s.prf.frozen = false → Answers (.prfFreeze dt 0 0) s (fun t =>
      t.IsDone prfCmdReg 2 ∧ t.evSet 868 = true ∧ t.prf = { s.prf with frozen := true } ∧
      Changes [.cmds, .prf, .regs, .evt, .time, .log] s t)) ∧
    (s.prf.frozen = true → Answers (.prfUnfreeze dt 0 0) s (fun t =>
      t.IsDone prfCmdReg 3 ∧ t.evSet 868 = true ∧ t.prf = { s.prf with frozen := false } ∧
      Changes [.cmds, .prf, .regs, .evt, .time, .log] s t)) ∧
    (∀ arg : BitVec 16, arg.toNat < 232 → Answers (.prfClear dt 0 arg) s (fun t =>
      t.IsDone prfCmdReg 4 ∧ t.prfCtr arg.toNat = {} ∧ (∀ g, g ≠ arg.toNat → t.prfCtr g = s.prfCtr g) ∧
      t.prf.snap = s.prf.snap ∧ Changes [.cmds, .prf, .regs, .evt, .time, .log] s t)) ∧
    Answers (.prfClear dt 0 255) s (fun t =>
      t.IsDone prfCmdReg 4 ∧ (∀ g, t.prfCtr g = {}) ∧ t.prf.snap = s.prf.snap ∧
      Changes [.cmds, .prf, .regs, .evt, .time, .log] s t)) ∧
  (∀ (dt : Nat) (arg : BitVec 16) (i : Instr) (s : State), s.Ready prfCmdReg →
    ((i = .snapshot dt 0 0 ∧ s.afterBoot = false) ∨
      (i = .prfFreeze dt 0 0 ∧ (s.afterBoot = false ∨ s.prf.frozen = true)) ∨
      (i = .prfUnfreeze dt 0 0 ∧ (s.afterBoot = false ∨ s.prf.frozen = false)) ∨
      (i = .prfClear dt 0 arg ∧ (arg.toNat < 232 ∨ arg.toNat = 255) ∧ s.afterBoot = false) →
      Answers i s (fun t => (t.cmd prfCmdReg).status = 3 ∧ (t.cmd prfCmdReg).pending = false ∧
        Changes [.cmds, .regs, .evt, .time, .log] s t)) ∧
    (((i = .snapshot dt 0 arg ∨ i = .prfFreeze dt 0 arg ∨ i = .prfUnfreeze dt 0 arg) ∧ arg ≠ 0) ∨
      (i = .prfClear dt 0 arg ∧ 232 ≤ arg.toNat ∧ arg.toNat ≠ 255) →
      Answers i s (fun t => (t.cmd prfCmdReg).status = 4 ∧ (t.cmd prfCmdReg).pending = false ∧
        Changes [.cmds, .time, .log] s t)))

/-- Event delivery. A held message goes to the vector of its route: sent, or kept pending while the vector or its
function is masked, or dropped and counted while the function is absent or has MSI-X disabled (R476, R477). An unmask
sends what the vector kept. RESEND holds a message for every source whose line is 1 and whose route names a vector,
merged with one already held for the vector, and is DONE once none is left (R480, R481). -/
def Obligations.EventMessagesFollowTheirRoutes : Prop :=
  (∀ (dt : Nat) (s : State) (src n : Nat) (rest : List Nat),
    s.evt.held = src :: rest → s.evt.resend = 0 → s.routeTarget src = 1 → s.routeIndex src = n →
    (s.vec n).owned = true → s.mayCarry (s.vec n).owner src = true → (s.func (s.vec n).owner).internal = false →
    (s.present (s.vec n).owner = true → (s.func (s.vec n).owner).msixEnable = true →
      (s.vec n).masked = false → (s.func (s.vec n).owner).msixMask = false →
      Answers (.msiMessageSend dt) s (fun t =>
        t.out = s.out ++ [.msi (s.vec n).owner n] ∧ t.evt.held = rest ∧ Changes [.out, .evt, .time, .log] s t)) ∧
    (s.present (s.vec n).owner = true → (s.func (s.vec n).owner).msixEnable = true →
      ((s.vec n).masked = true ∨ (s.func (s.vec n).owner).msixMask = true) →
      Answers (.msiMessageSend dt) s (fun t =>
        t.out = s.out ∧ t.vec n = { s.vec n with pend := true, src := some src } ∧ t.evt.held = rest ∧
        Changes [.hst, .evt, .time, .log] s t)) ∧
    ((s.present (s.vec n).owner = false ∨ (s.func (s.vec n).owner).msixEnable = false) →
      Answers (.msiMessageSend dt) s (fun t =>
        t.out = s.out ∧ t.rd 0x1000C = satInc (s.rd 0x1000C) ∧ (∀ x ∈ rest, x ∈ t.evt.held) ∧
        Changes [.regs, .once, .evt, .time, .log] s t))) ∧
  (∀ (dt : Nat) (s : State) (n : Fin 2048),
    (s.vec n.val).owned = true → (s.func (s.vec n.val).owner).internal = false →
    s.present (s.vec n.val).owner = true → (s.vec n.val).pend = true →
    Answers (.msixUnmask dt n false false true) s (fun t =>
      (t.vec n.val).masked = false ∧ (t.vec n.val).pend = false ∧ .msi (s.vec n.val).owner n.val ∈ t.out ∧
      Changes [.out, .hst, .regs, .once, .evt, .time, .log] s t)) ∧
  (∀ (dt : Nat) (s : State), s.Ready evtCmdReg → s.afterStage 1 = true → (∀ x ∈ s.evt.held, x < 1024) →
    Answers (.resend dt 0 0) s (fun t =>
      (∀ src < 1024, s.line src = true → s.routeTarget src = 1 →
        ∃ x ∈ t.evt.held, x = src ∨ (s.routeTarget x = 1 ∧ s.routeIndex x = s.routeIndex src)) ∧
      (t.evt.held = [] → t.IsDone evtCmdReg 1 ∧ t.evSet 30 = true) ∧
      (t.evt.held ≠ [] → t.Runs evtCmdReg 1 0 ∧ t.evt.resend = t.evt.held.length) ∧
      Changes [.regs, .cmds, .evt, .time, .log] s t))

/-- Supply, latch and precharge without the fast clocks. In DORMANT a latch that closes and a supply that returns make
the wake logic wait for precharge, a failed precharge is latched, each unsuccessful retry is counted and the tenth is the
last, and a loss of supply ends the wait. After BOOT a dip of the supply and a latch that closes are noted only (R32,
R44, R45, R47, R486, R487). -/
def Obligations.SupplyAndLatchCommandsComplete : Prop :=
  ∀ (dt : Nat) (s : State),
    (s.glb.latchClosed = false → s.glb.mode = .dormant → Answers (.latchClosed dt) s (fun t =>
      t.glb = { s.glb with latchClosed := true } ∧ t.pwr.waitPre = s.pwr.supply ∧
      t.pwr.wakeBits.getLsbD 2 = true ∧ Changes [.glb, .pwr, .time, .log] s t)) ∧
    (s.glb.latchClosed = false → s.glb.mode ≠ .dormant → Answers (.latchClosed dt) s (fun t =>
      t.glb = { s.glb with latchClosed := true } ∧ Changes [.glb, .time, .log] s t)) ∧
    (s.pwr.supply = false → s.glb.mode = .dormant → Answers (.supplyOn dt) s (fun t =>
      t.pwr.supply = true ∧ t.pwr.waitPre = s.glb.latchClosed ∧ t.pwr.wakeBits.getLsbD 1 = true ∧
      Changes [.pwr, .time, .log] s t)) ∧
    (s.glb.mode = .dormant → s.pwr.waitPre = true → Answers (.prechargeFail dt) s (fun t =>
      t.pwr = { s.pwr with waitPre := false, preFail := true, retries := 0, retryStopped := false } ∧
      Changes [.pwr, .time, .log] s t)) ∧
    (s.glb.mode = .dormant → s.pwr.waitPre = false → s.pwr.preFail = true → s.pwr.retryStopped = false →
      s.glb.latchClosed = true → s.pwr.supply = true → Answers (.prechargeRetry dt false) s (fun t =>
        t.pwr = { s.pwr with retries := s.pwr.retries + 1, retryStopped := decide (10 ≤ s.pwr.retries + 1) } ∧
        Changes [.pwr, .time, .log] s t)) ∧
    (s.glb.mode = .dormant → Answers (.supplyLoss dt) s (fun t =>
      t.pwr = { s.pwr with supply := false, waitPre := false } ∧ Changes [.pwr, .time, .log] s t)) ∧
    (s.glb.mode ≠ .dormant → Answers (.supplyLoss dt) s (fun t =>
      t.pwr = { s.pwr with below := true } ∧ Changes [.pwr, .time, .log] s t)) ∧
    Answers (.supplyRestored dt) s (fun t =>
      t.pwr = { s.pwr with below := false, warned := false } ∧ Changes [.pwr, .time, .log] s t)

/-- Every way into BOOT: precharge that completes or a retry that finds it complete, RESTART and EXIT_MAINTENANCE. Stage
1 runs, GLB_MODE_CAUSE counts from 0 again, GLB_WAKE_CAUSE names the causes, and the time that was set is lost. Flash,
settings NVM, IMG_MIN_GEN and the lamp room's life cycle stay (R26, R32, R41, R44, R45, R54, R55). -/
def Obligations.WaysIntoBoot : Prop :=
  (∀ (dt : Nat) (s : State), s.glb.mode = .dormant →
    (s.pwr.waitPre = true ∨ (s.pwr.preFail = true ∧ s.pwr.retryStopped = false ∧ s.glb.latchClosed = true ∧
      s.pwr.supply = true)) →
    Answers (if s.pwr.waitPre = true then .prechargeComplete dt else .prechargeRetry dt true) s (fun t =>
      Entered .boot (if s.pwr.wakeBits.getLsbD 1 then 1 else 2) s t ∧ t.glb.bootStage = 1 ∧ t.glb.changes = 0 ∧
      t.glb.wakeCause = s.pwr.wakeBits ||| putB s.pwr.preFail 5 ||| putB s.pwr.tamperDormant 4 ∧
      t.pwr.preFail = false ∧ t.pwr.waitPre = false ∧ t.time.stepped = false ∧ t.img.nvm = s.img.nvm ∧
      t.img.bank0 = s.img.bank0 ∧ t.img.bank1 = s.img.bank1 ∧ t.img.minGen = s.img.minGen ∧ t.lmp = s.lmp.kept)) ∧
  (∀ (dt : Nat) (s : State) (c : Instr), s.Ready glbCmdReg → s.FirstCause 6 dt → s.glb.leaving = false →
    (c = .restart dt 0 0 ∧ (s.glb.mode = .commission ∨ s.glb.mode = .degraded)) ∨
      (c = .exitMaintenance dt 0 0 ∧ s.glb.mode = .maintenance ∧ s.img.loading = none) →
    Answers c s (fun t =>
      Entered .boot 9 s t ∧ t.glb.bootStage = 1 ∧ t.glb.changes = 0 ∧
      t.glb.wakeCause = 8#32 ||| putB s.pwr.tamperDormant 4 ∧ t.time.stepped = false ∧ t.img.nvm = s.img.nvm ∧
      t.img.bank0 = s.img.bank0 ∧ t.img.bank1 = s.img.bank1 ∧ t.img.minGen = s.img.minGen ∧ t.lmp = s.lmp.kept))

/-- The boot stages. A stage that passes sets its bit and starts the next, a passed stage 10 starts COMMISSION and the
performance counters, and a stage that fails ends BOOT in DEGRADED with its number in FAIL_STAGE. A tamper latched in
DORMANT fails stage 2 with cause 0x12. Stage 3 takes the module identifier from the lamp room, stage 8 a bank that
verifies (R42, R43, R66). -/
def Obligations.BootStagesFollowEachOther : Prop :=
  ∀ (dt : Nat) (s : State), s.glb.mode = .boot →
    (∀ n, s.glb.bootStage = n → (n = 1 ∨ n = 2 ∨ (4 ≤ n ∧ n ≤ 7)) → (n = 2 → s.pwr.tamperDormant = false) →
      Answers (.bootStageComplete dt true) s (fun t =>
        t.glb = { s.glb with bootStage := n + 1, stagePass := s.glb.stagePass + 2 ^ (n - 1) } ∧
        Changes [.glb, .time, .log] s t) ∧
      Answers (.bootStageComplete dt false) s (fun t =>
        Entered .degraded 4 s t ∧ t.glb.failStage = n ∧ t.glb.faultCause = 4)) ∧
    (s.glb.bootStage = 2 → s.pwr.tamperDormant = true → ∀ pass, Answers (.bootStageComplete dt pass) s (fun t =>
      Entered .degraded 0x12 s t ∧ t.glb.failStage = 2 ∧ t.glb.faultCause = 0x12 ∧ t.pwr.tamperDormant = false)) ∧
    (s.glb.bootStage = 3 → s.lmp.zeroed = false → 1 ≤ s.lmp.life → s.lmp.life ≤ 4 →
      Answers (.bootStageComplete dt true) s (fun t =>
        t.glb.bootStage = 4 ∧ t.glb.idValid = decide (s.lmp.life ≠ 1) ∧
        t.glb.moduleId = (if s.lmp.life = 1 then 0 else s.lmp.boundId) ∧ t.lmp.mode = 1 ∧
        Changes [.glb, .lmp, .regs, .evt, .time, .log] s t)) ∧
    (s.glb.bootStage = 3 → s.lmp.zeroed = true → ∀ pass, Answers (.bootStageComplete dt pass) s (fun t =>
      Entered .degraded 6 s t ∧ t.glb.failStage = 3)) ∧
    (s.glb.bootStage = 8 → Answers (.bootStageComplete dt true) s (fun t =>
      ((s.elapse dt).selectBank.2 = true → t.glb.bootStage = 9 ∧ t.img = (s.elapse dt).selectBank.1.img ∧
        Changes [.glb, .img, .regs, .evt, .time, .log] s t) ∧
      ((s.elapse dt).selectBank.2 = false → Entered .degraded 5 s t ∧ t.glb.failStage = 8))) ∧
    (s.glb.bootStage = 8 → Answers (.bootStageComplete dt false) s (fun t =>
      Entered .degraded 5 s t ∧ t.glb.failStage = 8)) ∧
    (s.glb.bootStage = 9 → Answers (.bootStageComplete dt true) s (fun t =>
      t.glb.bootStage = 10 ∧ t.img = (s.elapse dt).settingsResolve.img ∧
      Changes [.glb, .img, .lmp, .regs, .evt, .time, .log] s t)) ∧
    (s.glb.bootStage = 10 → Answers (.bootStageComplete dt true) s (fun t =>
      Entered .commission 3 s t ∧ t.glb.stagePass = s.glb.stagePass + 512 ∧ t.prf.running = true))

/-- From COMMISSION on. IMAGE_LOADED fills the blocks and the settings from the running image. With every condition of
R33 met, COMMISSION_COMPLETE and LEAVE_COMMISSION lead to STANDBY, ENTER_TEST to TEST and EXIT_TEST back; while frames
run they wait for the commit, and without frames they act at once. The commission timeout leads to DEGRADED with cause
0x08 (R31, R32, R33, R41, R80). -/
def Obligations.CommissioningAndTestTransitions : Prop :=
  ∀ (dt : Nat) (s : State),
    (s.glb.mode = .commission → s.img.loaded = false → s.img.run.isSome = true →
      Answers (.imageLoaded dt) s (fun t =>
        t.img.loaded = true ∧ t.img.settingsDone = true ∧ t.img.run = s.img.run ∧ t.img.nvm = s.img.nvm ∧
        t.glb = s.glb ∧ t.time = (s.elapse dt).time)) ∧
    (s.glb.mode = .commission → s.glb.inTransition = false → s.holdCommission = false → s.unmet = 0 →
      Answers (.commissionComplete dt) s (fun t =>
        (s.kpr.frames = true → t.glb = { s.glb with waiting := some .commission, inTransition := true } ∧
          Changes [.glb, .time, .log] s t) ∧
        (s.kpr.frames = false → Entered .standby 7 s t))) ∧
    (s.glb.mode = .commission → s.glb.since + s.commissionS * secUnit ≤ s.time.mono + dt → s.unmet ≠ 0 →
      Answers (.commissionTimeout dt) s (fun t => Entered .degraded 8 s t ∧ t.glb.faultCause = 8)) ∧
    (s.Ready glbCmdReg → s.FirstCause 6 dt →
      (∀ force : Bool, s.glb.mode = .standby → (s.elapse dt).r31 force = true →
        Answers (.enterTest dt 0 (if force then 1 else 0)) s (fun t =>
          (s.kpr.frames = true → t.glb = { s.glb with waiting := some .enterTest, inTransition := true } ∧
            t.Runs glbCmdReg 1 (if force then 1 else 0) ∧ Changes [.glb, .cmds, .time, .log] s t) ∧
          (s.kpr.frames = false → Entered .test 9 s t))) ∧
      (s.glb.mode = .test → Answers (.exitTest dt 0 0) s (fun t =>
        (s.kpr.frames = true → t.glb = { s.glb with waiting := some .exitTest, inTransition := true } ∧
          t.Runs glbCmdReg 2 0 ∧ Changes [.glb, .cmds, .time, .log] s t) ∧
        (s.kpr.frames = false → Entered .standby 9 s t))) ∧
      (s.glb.mode = .commission → s.unmet = 0 → Answers (.leaveCommission dt 0 0) s (fun t =>
        (s.kpr.frames = true → t.glb = { s.glb with waiting := some .leaveCommission, inTransition := true } ∧
          t.Runs glbCmdReg 5 0 ∧ t.holdCommission = false ∧ Changes [.glb, .regs, .cmds, .time, .log] s t) ∧
        (s.kpr.frames = false → Entered .standby 7 s t))))

/-- Leaving service. A latch that opens and LEAVE_SERVICE start the removal sequence: from BOOT the module becomes
DORMANT, an ACTIVE module without a handover to make yields to STANDBY with cause 0x15, and from any other mode the mode
stays. The sequence then stops flash writes, DMA and the lantern and notifies the host, sets SAFE_TO_REMOVE and lights
the indicator, and ends in DORMANT (R41, R46, R320). -/
def Obligations.RemovalSequence : Prop :=
  ∀ (dt : Nat) (s : State) (c : Instr), s.glb.mode ≠ .dormant →
    ((c = .latchOpened dt ∧ s.glb.latchClosed = true) ∨ (c = .leaveService dt 0 0 ∧ s.Ready glbCmdReg) →
      s.glb.leaving = false → Answers c s (fun t =>
        (s.glb.mode ≠ .boot → s.glb.mode ≠ .active → t.glb.mode = s.glb.mode) ∧
        t.glb.leaving = true ∧ t.glb.leaveStep = 1 ∧
        (c = .latchOpened dt → t.glb.latchClosed = false ∧ t.glb.latchOpened = true) ∧
        (s.glb.mode = .boot → Entered .dormant 0x15 s t) ∧
        (s.glb.mode = .active → s.pair.ex = 0 → s.kpr.frames = false → Entered .standby 0x15 s t) ∧
        (s.glb.mode = .active → s.pair.ex ≠ 0 → t.glb.mode = .active ∧ t.pair.exLeave = true))) ∧
    (c = .removalQuiesced dt → s.glb.leaveStep = 1 → s.glb.mode ≠ .active → Answers c s (fun t =>
      t.glb = { s.glb with leaveStep := 4 } ∧ t.pub.lanternStop = true ∧ t.pub.lantern = false ∧
      .hotPlug ∈ t.out ∧ t.img.loading = none)) ∧
    (c = .safeToRemove dt → s.glb.leaveStep = 4 → Answers c s (fun t =>
      t.glb = { s.glb with safe := true, leaveStep := 5 } ∧ t.evSet 4 = true ∧ t.out = s.out ++ [.indicator] ∧
      Changes [.glb, .out, .regs, .evt, .time, .log] s t)) ∧
    (c = .removalDormant dt → s.glb.leaveStep = 5 → Answers c s (fun t => Entered .dormant 0x15 s t))

/-- Commands and events that change the mode directly. ENTER_MAINTENANCE leads to MAINTENANCE under R31, and HANDOVER
starts the exchange of control with the module still ACTIVE. A power fail that lasts leads to DEGRADED with cause 0x11
and its end in DORMANT with cause 0x16; a second reading at the thermal limit leads to DEGRADED with cause 0x13 (R31,
R32, R41, R320, R326, R486, R495). -/
def Obligations.MaintenanceHandoverPowerAndHeat : Prop :=
  ∀ (dt : Nat) (s : State),
    (s.Ready glbCmdReg → s.FirstCause 6 dt →
      (∀ force : Bool, (s.elapse dt).maintOk force = true →
        Answers (.enterMaintenance dt 0 (if force then 1 else 0)) s (fun t => Entered .maintenance 9 s t)) ∧
      ((s.elapse dt).handoverReady = true → ((s.elapse dt).exRequest 1 false false).2 = true →
        s.glb.leaving = false → Answers (.handover dt 0 0) s (fun t =>
          t.Runs glbCmdReg 6 0 ∧ t.glb = { s.glb with waiting := some .handover } ∧ t.pair.ex = 1 ∧
          t.pair.exKind = 1 ∧ t.pair.exH = (s.frameNum + 16) % 2 ^ 32 ∧ t.out.length = s.out.length + 2 ∧
          Changes [.cmds, .glb, .pair, .out, .time, .log] s t))) ∧
    (s.pwr.below = true → s.pwr.warned = false → s.glb.mode ≠ .dormant → Answers (.powerFailWarn dt) s (fun t =>
      t.pwr = { s.pwr with warned := true } ∧
      (s.faultMode = true → Entered .degraded 0x11 s t ∧ t.glb.faultCause = 0x11) ∧
      (s.faultMode = false → t.glb = s.glb ∧ t.evSet 5 = true))) ∧
    (s.pwr.below = true → s.glb.mode ≠ .dormant → Answers (.holdupExpiry dt) s (fun t =>
      Entered .dormant 0x16 s t ∧ t.pwr.supply = false ∧ t.pwr.below = false)) ∧
    (∀ die a b : Int, s.glb.mode ≠ .dormant → Answers (.thermalReading dt die a b) s (fun t =>
      t.pwr.above = shedIn die ∧ t.pwr.under = shedOut die ∧
      t.pwr.overLimit = (decide (105000 ≤ die) || decide (95000 ≤ a) || decide (95000 ≤ b)) ∧
      (s.faultMode = false → t.glb = s.glb ∧
        t.gal.shed = max (min s.gal.shed (3 - min (shedOut die) s.pwr.under)) (min (shedIn die) s.pwr.above)) ∧
      (s.faultMode = true → s.pwr.overLimit = true → s.pwr.limit = false → t.pwr.overLimit = true →
        Entered .degraded 0x13 s t ∧ t.pwr.limit = true)))

/-- A tamper sensor zeroes the roots and is latched and counted, in every mode; CELL also stops the backup counter. In
BOOT the running stage fails with cause 0x12, an operating module enters DEGRADED with cause 0x12, and in DORMANT the
tamper waits for the next BOOT (R43, R320, R339). -/
def Obligations.TamperZeroesTheRoots : Prop :=
  ∀ (dt : Nat) (i : Fin 7) (s : State), s.tamperHeeded i.val = true → Answers (.tamper dt i) s (fun t =>
    t.lmp.zeroed = true ∧ t.lmp.factoryRoot = [] ∧ t.lmp.ownerRoot = [] ∧ t.lmp.returnRoot = [] ∧
    t.lmp.sensors.testBit i.val = true ∧ t.lmp.tampers = min 65535 (s.lmp.tampers + 1) ∧
    (i.val = 6 → t.time.backup = 0) ∧
    (s.glb.mode = .dormant → t.pwr.tamperDormant = true ∧ t.glb = s.glb) ∧
    (s.glb.mode = .boot → Entered .degraded 0x12 s t ∧ t.glb.failStage = s.glb.bootStage) ∧
    (s.faultMode = true → Entered .degraded 0x12 s t ∧ t.glb.faultCause = 0x12))

/-- GLB_BLOCK_RESET. RESET of a known instance that holds no placement runs until BLOCK_RESET_DONE, and another
instance is not touched: a coil channel is IDLE with nothing armed, and a CAN controller has empty
buffers. BLOCK_RESET_DONE ends the command DONE and raises its event (R48, R50, R51, R52). -/
def Obligations.BlockResetCompletes : Prop :=
  (∀ (dt : Nat) (arg : BitVec 16) (s : State), s.Ready blockResetReg →
    resetKnown (arg.toNat / 1024) (arg.toNat % 1024) = true →
    (arg.toNat / 1024 = 9 → s.placedOn (arg.toNat % 1024) = []) → Answers (.blockReset dt 0 arg) s (fun t =>
      t.glb = { s.glb with blockReset := some (arg.toNat / 1024, arg.toNat % 1024) } ∧
      t.Runs blockResetReg 1 arg.toNat ∧
      (arg.toNat / 1024 = 0x10 → (t.coil (arg.toNat % 1024)).armed = false ∧
        (t.coil (arg.toNat % 1024)).state = .idle ∧
        ∀ k, k ≠ arg.toNat % 1024 → t.coil k = s.coil k) ∧
      (arg.toNat / 1024 = 0x12 → (t.canCtl (arg.toNat % 1024)).bufs = [] ∧
        ∀ k, k ≠ arg.toNat % 1024 → t.canCtl k = s.canCtl k) ∧
      Changes [.bcn, .can, .cdv, .cmds, .evt, .gal, .glb, .hst, .kpr, .log, .out, .pln, .ports, .prf, .rdg, .regs,
        .time] s t)) ∧
  (∀ (dt : Nat) (s : State), s.glb.blockReset.isSome = true → Answers (.blockResetDone dt) s (fun t =>
    t.IsDone blockResetReg (s.cmd blockResetReg).runCode ∧ t.evSet 2 = true ∧
    t.glb = { s.glb with blockReset := none } ∧ Changes [.cmds, .glb, .regs, .evt, .time, .log] s t))

/-- Candidates and banks. LOAD_CANDIDATE takes the candidate's bytes and runs until LOAD_DONE, which verifies them: a
candidate that fails a check is rejected with that check's code and no bank changes, in MAINTENANCE one that passes
makes the other bank VALID, and elsewhere its class decides, PARTIAL making it PENDING (R65, R68, R69, R81). -/
def Obligations.CandidatesAreVerifiedAndClassified : Prop :=
  (∀ (dt : Nat) (buf : List Byte) (s : State), s.Ready imgCmdReg → (s.rd 0x20024).toNat % 4096 = 0 →
    384 ≤ (s.rd 0x2002C).toNat → (s.rd 0x2002C).toNat ≤ 268435456 → s.candPending = false →
    (s.computing = true → Answers (.loadCandidate dt 0 0 buf) s (fun t =>
      t.Runs imgCmdReg 1 0 ∧ t.img = { s.img with loading := some (padTo buf (s.rd 0x2002C).toNat) } ∧
      Changes [.img, .cmds, .time, .log] s t)) ∧
    (s.glb.mode = .maintenance → s.img.loading = none → Answers (.loadCandidate dt 0 0 buf) s (fun t =>
      t.img.loading = some (padTo buf (s.rd 0x2002C).toNat) ∧ t.kpr.frames = false ∧ t.glb.mode = .maintenance))) ∧
  (∀ (dt : Nat) (b : List Byte) (s : State), s.img.loading = some b →
    Answers (.loadDone dt 1) s (fun t =>
      t.img.loading = none ∧ t.img.result = 0x17 ∧ t.bank s.otherBank = { s.bank s.otherBank with state := 4 } ∧
      t.IsDone imgCmdReg (s.cmd imgCmdReg).runCode ∧ t.evSet 16 = true ∧
      Changes [.img, .cmds, .regs, .evt, .time, .log] s t) ∧
    (s.present 0 = true → Answers (.loadDone dt 0) s (fun t =>
      t.img.loading = none ∧ t.IsDone imgCmdReg (s.cmd imgCmdReg).runCode ∧ t.evSet 16 = true ∧
      Changes [.img, .cmds, .regs, .evt, .time, .log] s t ∧
      match (s.elapse dt).verify b with
      | .bad code i y =>
        t.img = { s.img with loading := none, result := code, rejIndex := i, rejType := y }
      | .ok im =>
        (s.glb.mode = .maintenance →
          t.img.result = 2 ∧ t.bank s.otherBank = { state := 3, failReason := 0, bytes := b } ∧
          t.img.cand = s.img.cand) ∧
        (s.glb.mode ≠ .maintenance → ∀ run, s.img.run = some run →
          ((classify run im).1 = 0 → t.img.result = 1 ∧ t.img.cand = some im ∧
            t.img.changedSecs = (classify run im).2 ∧
            t.bank s.otherBank = { state := 2, failReason := 0, bytes := b }) ∧
          ((classify run im).1 ≠ 0 →
            t.img = { s.img with loading := none, result := (classify run im).1 })))))

/-- Reload, ABANDON, INVALIDATE_BANK and SET_MIN_GEN. RELOAD waits for its target tick; in the gap before it the
candidate becomes the running image. ABANDON gives the candidate up, and ends a RELOAD that waits; INVALIDATE_BANK marks
its own bank only, and SET_MIN_GEN raises IMG_MIN_GEN to the running generation (R67, R70, R72, R73, R81). -/
def Obligations.ReloadAndBankCommandsComplete : Prop :=
  (∀ (dt n : Nat) (s : State), s.Ready imgCmdReg → (s.elapse dt).targetTick 0x20038 0x2003C = some n →
    s.computing = true → s.kpr.frames = true → s.candPending = true → s.img.cand.isSome = true →
    s.moveBefore n = false → Answers (.reload dt 0 0) s (fun t =>
      t.Runs imgCmdReg 2 0 ∧ t.img = { s.img with reload := some n } ∧ Changes [.img, .cmds, .time, .log] s t)) ∧
  (∀ (dt n : Nat) (run cand : Image) (s : State), s.img.reload = some n → s.img.run = some run →
    s.img.cand = some cand → s.img.reloadAtGap = false → s.kpr.open_ = false →
    n ≤ tickAtOrAfter (s.elapse dt).now s.frameRate → Answers (.reloadApply dt) s (fun t =>
      t.img.run = some cand ∧ t.img.oldGen = run.gen ∧ t.img.reloadAtGap = true ∧ t.img.reload = some n ∧
      t.glb = s.glb ∧ t.cmds = s.cmds)) ∧
  (∀ (dt : Nat) (s : State), s.img.reloadAtGap = false →
    ((s.img.reload = none ∧ s.Ready imgCmdReg ∧ s.candPending = true) ∨ s.img.reload.isSome = true) →
    Answers (.abandon dt 0 0) s (fun t =>
      t.IsDone imgCmdReg 3 ∧ t.img.result = 4 ∧ t.img.cand = none ∧ t.img.reload = none ∧
      (t.bank s.img.candBank).state ≠ 2 ∧ (s.img.reload.isSome = true → t.evSet 17 = true) ∧
      Changes [.img, .cmds, .regs, .evt, .time, .log] s t)) ∧
  (∀ (dt : Nat) (s : State), s.Ready imgCmdReg → s.glb.mode = .maintenance →
    (∀ arg : BitVec 16, arg.toNat < 2 → Answers (.invalidateBank dt 0 arg) s (fun t =>
      t.IsDone imgCmdReg 4 ∧ t.bank arg.toNat = { s.bank arg.toNat with state := 4 } ∧
      t.bank (1 - arg.toNat) = s.bank (1 - arg.toNat) ∧ Changes [.img, .cmds, .regs, .evt, .time, .log] s t)) ∧
    Answers (.setMinGen dt 0 0) s (fun t =>
      t.IsDone imgCmdReg 5 ∧ t.img = { s.img with minGen := max s.img.minGen s.runGen } ∧
      Changes [.img, .cmds, .regs, .evt, .time, .log] s t))

/-- The settings. NVM_STORE takes the masked areas and runs until its store is done: the journal commits it, or the
read-back of an area fails and the areas stay dirty. A write or revert waits for its target tick, or acts at once in
COMMISSION; it changes the working copy of its own area and the area's dirty bit. SETTINGS_READ copies a range into the
window (R75, R78, R79, R81). -/
def Obligations.SettingsCommandsComplete : Prop :=
  (∀ (dt : Nat) (s : State), s.Ready imgCmdReg → s.nvmMask ≠ 0 →
    (∀ n < 64, s.nvmMask.testBit n = true → s.areaLength n ≠ 0) → s.computing = true →
    Answers (.nvmStore dt 0 0) s (fun t =>
      t.Runs imgCmdReg 6 0 ∧
      t.img = { s.img with store := some { mask := s.nvmMask, was := 0, snapped := false, copies := [] } } ∧
      Changes [.img, .cmds, .time, .log] s t)) ∧
  (∀ (dt : Nat) (st : Store) (s : State), s.img.store = some st → st.snapped = true →
    Answers (.nvmStoreDone dt none) s (fun t =>
      t.IsDone imgCmdReg (s.cmd imgCmdReg).runCode ∧ t.evSet 18 = true ∧ t.img.store = none ∧ t.img.lastResult = 1 ∧
      t.img.storeSeq = s.img.storeSeq + 1 ∧ t.img.sel = s.img.sel ^^^ st.mask ∧
      t.img.nvm = ((s.elapse dt).storeWrite st.copies (s.img.storeSeq + 1)).img.nvm ∧ t.img.dirty = s.img.dirty ∧
      Changes [.img, .cmds, .regs, .evt, .time, .log] s t) ∧
    (∀ n : Fin 64, st.copies.any (fun e => decide (e.1 = n.val)) = true →
      Answers (.nvmStoreDone dt (some n)) s (fun t =>
        t.IsDone imgCmdReg (s.cmd imgCmdReg).runCode ∧ t.evSet 18 = true ∧ t.evSet 20 = true ∧ t.img.store = none ∧
        t.img.lastResult = 2 ∧ t.img.failArea = n.val ∧ t.img.dirty = s.img.dirty ||| st.was ∧
        t.img.sel = s.img.sel ∧ t.img.journal = s.img.journal ∧
        Changes [.img, .cmds, .regs, .evt, .time, .log] s t))) ∧
  (∀ (dt n : Nat) (s : State), s.Ready imgCmdReg → s.computing = true → s.kpr.frames = true →
    (s.elapse dt).targetTick 0x20038 0x2003C = some n → s.img.reload ≠ some n →
    (s.rangeOk = true → Answers (.settingsWrite dt 0 0) s (fun t =>
      t.Runs imgCmdReg 7 0 ∧
      t.img = { s.img with pend := some { revert := false, area := s.setRange.1, offset := s.setRange.2.1,
                                          bytes := s.setData s.setRange.2.2, target := n } } ∧
      Changes [.img, .cmds, .time, .log] s t)) ∧
    (∀ arg : BitVec 16, arg.toNat < 64 → s.areaLength arg.toNat ≠ 0 → Answers (.settingsRevert dt 0 arg) s (fun t =>
      t.Runs imgCmdReg 8 arg.toNat ∧
      t.img = { s.img with pend := some { revert := true, area := arg.toNat, offset := 0, bytes := [],
                                          target := n } } ∧
      Changes [.img, .cmds, .time, .log] s t))) ∧
  (∀ (dt : Nat) (s : State), s.Ready imgCmdReg → s.glb.mode = .commission → s.img.loaded = true →
    s.img.reload = none → s.rangeOk = true → Answers (.settingsWrite dt 0 0) s (fun t =>
      t.IsDone imgCmdReg 7 ∧ t.evSet 19 = true ∧
      tget t.img.areas s.setRange.1 [] =
        overlay (s.area s.setRange.1) s.setRange.2.1 (s.setData s.setRange.2.2) ∧
      (∀ k, k ≠ s.setRange.1 → tget t.img.areas k [] = tget s.img.areas k []) ∧
      t.img.dirty.testBit s.setRange.1 = true)) ∧
  (∀ (dt : Nat) (s : State), s.Ready imgCmdReg → s.img.loaded = true → s.rangeOk = true →
    Answers (.settingsRead dt 0 0) s (fun t =>
      t.IsDone imgCmdReg 9 ∧ t.img = s.img ∧
      (∀ i < s.setRange.2.2 / 4,
        (t.rd (0x21000 + 4 * i)).toNat = leAt (s.area s.setRange.1) (s.setRange.2.1 + 4 * i) 4) ∧
      Changes [.cmds, .regs, .evt, .time, .log] s t)) ∧
  (∀ (dt : Nat) (p : SetPend) (s : State), s.img.pend = some p → Answers (.settingsApply dt) s (fun t =>
    t.IsDone imgCmdReg (s.cmd imgCmdReg).runCode ∧ t.evSet 19 = true ∧ t.img.pend = none ∧
    (p.revert = false → tget t.img.areas p.area [] = overlay (s.area p.area) p.offset p.bytes ∧
      t.img.dirty.testBit p.area = true) ∧
    (p.revert = true → s.copyFault p.area = 0 →
      tget t.img.areas p.area [] = slice (s.nvmCopy p.area) 32 (s.areaLength p.area) ∧
      t.img.dirty.testBit p.area = false) ∧
    (p.revert = true → s.copyFault p.area ≠ 0 → t.img.areas = s.img.areas ∧ t.img.dirty = s.img.dirty) ∧
    Changes [.img, .kpr, .cmds, .regs, .evt, .time, .log] s t))

/-- The frame. FRAME_TICK takes the number of its tick and, while protection frames run, opens the frame of that number.
A keeper with a due run leaves clock gating. COMMIT closes the frame and freezes the decisions: without a function under
policy SAFE and outside an alignment the committed vector is the working vector (R27, R103, R230, R241, R284). -/
def Obligations.FramesOpenAndCommit : Prop :=
  (∀ (dt : Nat) (s : State), s.time.stepped = true → s.kpr.open_ = false →
    s.bcn.noTickBefore ≤ (s.elapse dt).tickHere → s.tickDone (s.elapse dt).tickHere = false →
    Answers (.frameTick dt) s (fun t =>
      t.bcn.tickNo = (s.elapse dt).tickHere ∧ t.bcn.tickLast = some (s.elapse dt).tickHere ∧
      (s.kpr.frames = true → t.kpr.open_ = true ∧ t.kpr.tick = (s.elapse dt).tickHere ∧ t.pln.work = s.pln.committed) ∧
      (s.kpr.frames = false → t.kpr.open_ = false))) ∧
  (∀ (dt : Nat) (k : Fin 16) (s : State), (s.keeper k.val).cond = 0 → s.kpr.frames = true →
    s.dueRuns k.val (tickAtOrAfter (s.elapse dt).now s.frameRate % 2 ^ 32) ≠ [] →
    Answers (.keeperWake dt k) s (fun t =>
      t.keeper k.val = { s.keeper k.val with awake := true } ∧ (∀ j, j ≠ k.val → t.keeper j = s.keeper j) ∧
      Changes [.kpr, .time, .log] s t)) ∧
  (∀ (dt : Nat) (s : State), s.kpr.frames = true → s.kpr.open_ = true → Answers (.commit dt) s (fun t =>
    t.kpr.open_ = false ∧ t.pair.lastCommit = s.kpr.tick % 2 ^ 32 ∧
    ((∀ f, (s.fn f).policy ≠ 1) → s.pair.items = [] → t.pln.committed = s.pln.work)))

/-- The keeper instructions that load: one grid, input or phasor value, mark or instant, binary signals and committed
decisions, a word of the state block, the budget left, the frame's time and a CSR. The instruction retires at its cost,
and its destination register takes the value, or what an unreadable load gives (R268, R275, R276, R278, R279). -/
def Obligations.KeeperLoadsComplete : Prop :=
  ∀ (dt : Nat) (k : Fin 16) (ecc : Bool) (s : State) (id len : Nat) (op : KOp) (c : Instr),
    (c, kRow op) ∈ keeperRows dt k ecc → (s.keeper k.val).run = some id → s.kFetch k.val id = .inst op len →
    s.kEnd k.val op ecc < s.fnBudget id →
    (∀ o rd a b, op = .plane o rd a b → Answers c s (fun t =>
      Retires k.val id op ecc s t ∧ (t.keeper k.val).HasRegs
        ((s.keeper k.val).setR (kDst op)
          ((s.planeLoad id o ((s.keeper k.val).xr a).toNat ((s.keeper k.val).xr b).toNat).getD (planeMiss o)))
        (((s.keeper k.val).pc + len) % 2 ^ 32))) ∧
    (∀ o rd a b, op = .vec o rd a b → Answers c s (fun t =>
      Retires k.val id op ecc s t ∧ (t.keeper k.val).HasRegs
        ((s.keeper k.val).setR (kDst op)
          ((s.vecLoad o ((s.keeper k.val).xr a).toNat ((s.keeper k.val).xr b).toNat).getD (vecMiss o)))
        (((s.keeper k.val).pc + len) % 2 ^ 32))) ∧
    (∀ f rd a off, op = .kload f rd a off → (s.keeper k.val).ea a off % 4 = 0 →
      (s.keeper k.val).ea a off < objState (s.fnObj id) → Answers c s (fun t =>
        Retires k.val id op ecc s t ∧ (t.keeper k.val).HasRegs
          ((s.keeper k.val).setR (kDst op) ((s.fn id).stateWord (s.keeper k.val).written ((s.keeper k.val).ea a off)))
          (((s.keeper k.val).pc + len) % 2 ^ 32) ∧ t.fn id = s.fn id)) ∧
    (∀ rd, op = .budg rd → Answers c s (fun t =>
      Retires k.val id op ecc s t ∧ (t.keeper k.val).HasRegs
        ((s.keeper k.val).setR rd (s.fnBudget id - s.kEnd k.val op ecc))
        (((s.keeper k.val).pc + len) % 2 ^ 32))) ∧
    (∀ rd o, op = .ftime rd o → Answers c s (fun t =>
      Retires k.val id op ecc s t ∧ (t.keeper k.val).HasRegs ((s.keeper k.val).setR rd (s.frameTime o))
        (((s.keeper k.val).pc + len) % 2 ^ 32))) ∧
    (∀ o rd src a, op = .csr o rd src a → kRow op = 87 → Answers c s (fun t =>
      Retires k.val id op ecc s t ∧ (t.keeper k.val).HasRegs
        ((s.keeper k.val).setX rd (BitVec.ofNat 32
          (s.csrRead k.val id a (s.kEnd k.val op ecc) (s.fnBudget id - s.kEnd k.val op ecc))))
        (((s.keeper k.val).pc + len) % 2 ^ 32) ∧ (t.keeper k.val).fcsr = (s.keeper k.val).fcsr))

/-- The keeper instructions that write results. A decision write is kept with the run where the function owns the
decision, and noted as not owned where it does not; a state store goes to the copy that is not selected; a software
event waits with the run where the mask allows it. The frame yield completes the run: its results wait unreleased in the
merge and the keeper goes on to its next due run (R249, R251, R277, R278, R283). -/
def Obligations.KeeperResultsComplete : Prop :=
  ∀ (dt : Nat) (k : Fin 16) (ecc : Bool) (s : State) (id len : Nat) (op : KOp) (c : Instr),
    (c, kRow op) ∈ keeperRows dt k ecc → (s.keeper k.val).run = some id → s.kFetch k.val id = .inst op len →
    s.kEnd k.val op ecc < s.fnBudget id →
    (∀ o a b, op = .dput o a b → Answers c s (fun t =>
      Retires k.val id op ecc s t ∧ (t.keeper k.val).HasRegs (s.keeper k.val) (((s.keeper k.val).pc + len) % 2 ^ 32) ∧
      t.pln = s.pln ∧
      (((s.keeper k.val).xr a).toNat < 4096 → isGuest id = false → s.owner ((s.keeper k.val).xr a).toNat = id →
        (t.keeper k.val).writes =
          (s.keeper k.val).writes.filter (fun e => decide (e.1 ≠ ((s.keeper k.val).xr a).toNat)) ++
            [(((s.keeper k.val).xr a).toNat,
              if o = 0 then true else if o = 1 then false else ((s.keeper k.val).xr b).getLsbD 0)]) ∧
      (isGuest id = true ∨ s.owner ((s.keeper k.val).xr a).toNat ≠ id →
        (t.keeper k.val).writes = (s.keeper k.val).writes ∧ (t.keeper k.val).notOwned = true))) ∧
    (∀ f a b off, op = .kstore f a b off → (s.keeper k.val).ea a off % 4 = 0 →
      (s.keeper k.val).ea a off < objState (s.fnObj id) → Answers c s (fun t =>
        Retires k.val id op ecc s t ∧
        t.fn id = (s.fn id).stateStore (s.keeper k.val).written ((s.keeper k.val).ea a off)
          (if f then (s.keeper k.val).fr b else ((s.keeper k.val).xr b).toNat) ∧
        (∀ j, j ≠ id → t.fn j = s.fn j) ∧
        (t.keeper k.val).written = (s.keeper k.val).written ||| 2 ^ ((s.keeper k.val).ea a off / 32))) ∧
    (∀ a n, op = .evt a n → Answers c s (fun t =>
      Retires k.val id op ecc s t ∧
      ((s.fnMask id).testBit n = true → (t.keeper k.val).events =
        (s.keeper k.val).events ++ [(n, ((s.keeper k.val).xr a).toNat)]) ∧
      ((s.fnMask id).testBit n = false → (t.keeper k.val).events = (s.keeper k.val).events ∧
        (t.keeper k.val).notOwned = true))) ∧
    (op = .yield → Answers c s (fun t =>
      t.kpr.merge = s.kpr.merge ++
        [{ id := id, keeper := k.val, epoch := (s.fn id).epoch, frame := s.kpr.tick,
           writes := (s.keeper k.val).writes, events := (s.keeper k.val).events,
           notOwned := (s.keeper k.val).notOwned, written := (s.keeper k.val).written, released := false,
           late := false }] ∧
      (t.keeper k.val).run = (s.keeper k.val).due.head? ∧ (∀ j, j ≠ k.val → t.keeper j = s.keeper j)))

/-- The integer base instructions of a keeper: results go to the destination register and leave x0 at 0, and jumps and
taken branches set the program counter. A run that meets a trap or the end of its
budget is stopped: nothing of it waits in the merge, its function's consecutive overruns count up to 3, and the keeper
goes on to its next due run (R249, R252, R266, R269, R273). -/
def Obligations.KeeperBaseInstructionsAndStops : Prop :=
  (∀ (dt : Nat) (k : Fin 16) (ecc : Bool) (s : State) (id len : Nat) (op : KOp),
    (s.keeper k.val).run = some id → s.kFetch k.val id = .inst op len → s.kEnd k.val op ecc < s.fnBudget id →
    (∀ x' pc', (∃ rd v, op = .lui rd v ∧ x' = (s.keeper k.val).setR rd (toTwos 32 v) ∧
          pc' = ((s.keeper k.val).pc + len) % 2 ^ 32) ∨
        (∃ rd v, op = .auipc rd v ∧ x' = (s.keeper k.val).setR rd (toTwos 32 (((s.keeper k.val).pc : Int) + v)) ∧
          pc' = ((s.keeper k.val).pc + len) % 2 ^ 32) ∨
        (∃ o rd a v, op = .aluI o rd a v ∧
          x' = (s.keeper k.val).setR rd (kAlu o ((s.keeper k.val).xr a) (BitVec.ofInt 32 v)).toNat ∧
          pc' = ((s.keeper k.val).pc + len) % 2 ^ 32) ∨
        (∃ o rd a b, op = .alu o rd a b ∧
          x' = (s.keeper k.val).setR rd (kAlu o ((s.keeper k.val).xr a) ((s.keeper k.val).xr b)).toNat ∧
          pc' = ((s.keeper k.val).pc + len) % 2 ^ 32) ∨
        (∃ o rd a b, op = .mul o rd a b ∧
          x' = (s.keeper k.val).setR rd (kMul o ((s.keeper k.val).xr a) ((s.keeper k.val).xr b)).toNat ∧
          pc' = ((s.keeper k.val).pc + len) % 2 ^ 32) ∨
        (∃ rd off, op = .jal rd off ∧
          x' = (s.keeper k.val).setX rd (BitVec.ofNat 32 (((s.keeper k.val).pc + len) % 2 ^ 32)) ∧
          pc' = toTwos 32 (((s.keeper k.val).pc : Int) + off)) ∨
        (∃ o a b off, op = .branch o a b off ∧ x' = s.keeper k.val ∧
          pc' = if kTaken o ((s.keeper k.val).xr a) ((s.keeper k.val).xr b) then
              toTwos 32 (((s.keeper k.val).pc : Int) + off)
            else ((s.keeper k.val).pc + len) % 2 ^ 32) →
      Answers (.keeperBaseInstruction dt k ecc) s (fun t =>
        Retires k.val id op ecc s t ∧ (t.keeper k.val).HasRegs x' pc'))) ∧
  (∀ (dt : Nat) (k : Fin 16) (ecc : Bool) (s : State) (id : Nat) (c : Instr), (s.keeper k.val).run = some id →
    (c = .budgetExpiry dt k ∨
      ((∃ cause, s.kFetch k.val id = .trap cause) ∧ c = .keeperBaseInstruction dt k ecc) ∨
      (∃ op len, s.kFetch k.val id = .inst op len ∧ s.fnBudget id ≤ s.kEnd k.val op ecc ∧
        (c, kRow op) ∈ keeperRows dt k ecc)) →
    Answers c s (fun t =>
      (t.fn id).consec = min 3 ((s.fn id).consec + 1) ∧ (∀ j, j ≠ id → t.fn j = s.fn j) ∧
      t.kpr.merge = s.kpr.merge ∧ t.pln = s.pln ∧ (t.keeper k.val).run = (s.keeper k.val).due.head? ∧
      (∀ j, j ≠ k.val → t.keeper j = s.keeper j)))

/-- Results and keeper faults. The merge releases a keeper's oldest unreleased result into the working vector, or drops
it where it is late or of an older epoch. A miscompare and an uncorrectable error in keeper SRAM fault the keeper, with
their causes, and its run stops; under a policy that degrades the module it enters DEGRADED with cause 0x0D or 0x0E. In
the gap before E every re-placement that is due leaves the list (R251, R254, R256, R257, R320). -/
def Obligations.ResultReleaseAndKeeperFaults : Prop :=
  (∀ (dt : Nat) (k : Fin 16) (m : Merge) (s : State),
    s.kpr.merge.find? (fun m => decide (m.keeper = k.val) && !m.released) = some m →
    Answers (.resultMergeRelease dt k) s (fun t =>
      (m.late = false → (isGuest m.id = true ∨ (s.fn m.id).epoch = m.epoch) →
        t.pln.work = m.writes.foldl (fun v e => setBit v e.1 e.2) s.pln.work ∧ (t.fn m.id).consec = 0 ∧
        { m with released := true } ∈ t.kpr.merge) ∧
      (m.late = false → isGuest m.id = false → (s.fn m.id).epoch ≠ m.epoch →
        t.pln = s.pln ∧ m ∉ t.kpr.merge ∧ t.rd 0x60001C = satInc (s.rd 0x60001C) ∧ t.evSet 453 = true) ∧
      (m.late = true → t.pln = s.pln ∧ m ∉ t.kpr.merge ∧
        t.rd 0x500024 = satAdd (s.rd 0x500024) m.writes.length) ∧
      Changes [.pln, .kpr, .regs, .evt, .time, .log] s t)) ∧
  (∀ (dt : Nat) (k : Fin 16) (c : Instr) (cause : Nat) (kind : FaultKind) (s : State),
    (c = .lockstepMiscompare dt k ∧ cause = 1 ∧ kind = .miscompare) ∨
      (∃ bad, c = .keeperSramEcc dt k false bad ∧ cause = 2 ∧ kind = .keeperEcc) ∨
      (∃ bad, c = .keeperSramEcc dt k true bad ∧ cause = 3 ∧ kind = .keeperEcc) →
    (s.keeper k.val).cond = 0 → Answers c s (fun t =>
      ((s.elapse dt).faultActs kind = false ∨ s.faultMode = false →
        (t.keeper k.val).cond = 3 ∧ (t.keeper k.val).cause = cause ∧ (t.keeper k.val).run = none ∧
        (∀ j, j ≠ k.val → t.keeper j = s.keeper j) ∧ (∃ r ∈ t.kpr.replace, r.keeper = k.val) ∧ t.glb = s.glb) ∧
      ((s.elapse dt).faultActs kind = true → s.faultMode = true → Entered .degraded (faultCode kind) s t))) ∧
  (∀ (dt : Nat) (s : State), s.kpr.open_ = false → Answers (.keeperReplaceApply dt) s (fun t =>
    t.kpr.replace =
      s.kpr.replace.filter (fun r => !decide (r.target ≤ tickAtOrAfter (s.elapse dt).now s.frameRate)) ∧
    (∀ r, s.kpr.replace = [r] → r.target ≤ tickAtOrAfter (s.elapse dt).now s.frameRate → r.failed = false →
      s.canReplace r.keeper = true →
      ∀ f ∈ s.placedOn r.keeper, (t.fn f).keeper = s.fallback r.keeper ∧ (t.fn f).moved = true)))

/-- MOVE, FUNC_RESTART and KEEPER_RETURN. Each is accepted and waits; in the gap before its target tick the functions of
a MOVE change their keeper and a faulted function starts again, and where the conditions no longer hold the command ends
REFUSED_STATE with no function changed. A self-test that passes leaves the keeper a spare, one that fails leaves it
FAULTED (R253, R260, R261, R262, R263). -/
def Obligations.MovesRestartsAndReturnsComplete : Prop :=
  (∀ (dt n : Nat) (arg : BitVec 16) (s : State), s.Ready kprCmdReg →
    (s.elapse dt).targetTick 0x600014 0x600018 = some n → 1 ≤ arg.toNat → arg.toNat ≤ 8 →
    s.moveArg (s.moveEntries arg.toNat) = true → s.kprMode = true → s.kpr.frames = true →
    s.moveOk (s.moveEntries arg.toNat) n = true → Answers (.move dt 0 arg) s (fun t =>
      t.Runs kprCmdReg 1 arg.toNat ∧ t.kpr.wait = some (.move (s.moveEntries arg.toNat) n) ∧
      (∀ e ∈ s.moveEntries arg.toNat, (t.fn e.1).movePending = true ∧ (t.fn e.1).keeper = (s.fn e.1).keeper) ∧
      Changes [.kpr, .cmds, .time, .log] s t)) ∧
  (∀ (dt n : Nat) (es : List (Nat × Nat)) (s : State), s.kpr.wait = some (.move es n) → (es.map (·.1)).Nodup →
    Answers (.moveApply dt) s (fun t =>
      t.kpr.wait = none ∧
      ((∀ e ∈ es, (s.keeper e.2).cond = 0 ∧ (s.fn e.1).state = 1) →
        (∀ e ∈ es, (t.fn e.1).keeper = e.2 ∧ (t.fn e.1).movePending = false ∧
          (t.fn e.1).epoch = ((s.fn e.1).epoch + 1) % 65536) ∧ t.kpr.commitDone = true ∧ t.cmds = s.cmds) ∧
      ((∃ e ∈ es, (s.keeper e.2).cond ≠ 0 ∨ (s.fn e.1).state ≠ 1) →
        (t.cmd kprCmdReg).status = 3 ∧ (t.cmd kprCmdReg).pending = false ∧
        ∀ f, (t.fn f).keeper = (s.fn f).keeper))) ∧
  (∀ (dt n : Nat) (arg : BitVec 16) (s : State), s.Ready kprCmdReg →
    (s.elapse dt).targetTick 0x600014 0x600018 = some n → arg.toNat / 512 % 2 = 0 → arg.toNat < 16384 →
    s.kprMode = true → s.kpr.frames = true → (s.fn (arg.toNat % 512)).state = 3 →
    ((s.fn (arg.toNat % 512)).unplaced = false ∨ s.canTake (arg.toNat % 512) (arg.toNat / 1024 % 16) = true) →
    Answers (.funcRestart dt 0 arg) s (fun t =>
      t.Runs kprCmdReg 2 arg.toNat ∧
      t.kpr = { s.kpr with wait := some (.restart (arg.toNat % 512) (arg.toNat / 1024 % 16) n) } ∧
      Changes [.kpr, .cmds, .time, .log] s t)) ∧
  (∀ (dt f k n : Nat) (s : State), s.kpr.wait = some (.restart f k n) →
    ((s.fn f).unplaced = false ∨ (s.keeper k).cond = 0) → Answers (.funcRestartApply dt) s (fun t =>
      t.kpr.wait = none ∧ t.kpr.commitDone = true ∧ (t.fn f).state = 1 ∧ (t.fn f).consec = 0 ∧
      (t.fn f).copyA = s.initState f ∧ (t.fn f).sel = 0 ∧ (t.fn f).unplaced = false ∧
      ((s.fn f).unplaced = true → (t.fn f).keeper = k) ∧ (∀ g, g ≠ f → t.fn g = s.fn g) ∧
      Changes [.kpr, .regs, .evt, .time, .log] s t)) ∧
  (∀ (dt : Nat) (arg : BitVec 16) (s : State), s.Ready kprCmdReg → arg.toNat < 16 → s.kpr.frames = true →
    (s.keeper arg.toNat).cond = 4 → Answers (.keeperReturn dt 0 arg) s (fun t =>
      t.Runs kprCmdReg 3 arg.toNat ∧ t.keeper arg.toNat = { s.keeper arg.toNat with cond := 5 } ∧
      (∀ j, j ≠ arg.toNat → t.keeper j = s.keeper j) ∧ t.kpr.wait = some (.test arg.toNat) ∧
      Changes [.kpr, .cmds, .time, .log] s t)) ∧
  (∀ (dt k : Nat) (pass : Bool) (s : State), s.kpr.wait = some (.test k) →
    Answers (.keeperSelftestDone dt pass) s (fun t =>
      t.keeper k = (if pass then { s.keeper k with cond := 0, cause := 0, spare := true }
        else { s.keeper k with cond := 3, cause := 4 }) ∧
      (∀ j, j ≠ k → t.keeper j = s.keeper j) ∧ t.kpr.wait = none ∧
      t.IsDone kprCmdReg (s.cmd kprCmdReg).runCode ∧ t.evSet 454 = true ∧
      Changes [.kpr, .cmds, .regs, .evt, .time, .log] s t))

/-- Reception and pause at a port. A frame that fails a check of R115 is counted and not forwarded; a good one for one
internal endpoint is queued there under its class, and one that no entry matches is counted. A PFC frame pauses the
classes that it enables and the port heeds, until their quanta run out or the watchdog releases them, and XOFF is
repeated while the occupancy stays high (R115, R125, R126, R135, R136). -/
def Obligations.PortsReceiveAndPause : Prop :=
  (∀ (dt : Nat) (p : Fin 33) (f : Frame) (len : BitVec 16) (ago : Nat) (s : State), s.portOn p.val = true →
    (s.port p.val).adminDown = false → s.role p.val ≠ 0 → (s.port p.val).holdDown = false → s.linkUp p.val = true →
    (∀ bad n, len.toNat < 64 → s.rxCheck p.val len.toNat bad = some n → Answers (.macFrameRx dt p f len bad ago) s (fun t =>
      t.rd (macBase p.val + 0x400 + 4 * n) = s.rd (macBase p.val + 0x400 + 4 * n) + 1 ∧
      Changes [.regs, .evt, .time, .log] s t)) ∧
    (s.rxCheck p.val len.toNat .none = none → f.etherType ≠ 0x8808 → f.red = none → f.isPtp = false →
      s.groupOf p.val = none → f.ipCode ≠ 2 → f.l4Code ≠ 2 →
      (s.routeFrame p.val f 0 s.classEnd = none → Answers (.macFrameRx dt p f len .none ago) s (fun t =>
        t.rd (epCnt p.val 7) = s.rd (epCnt p.val 7) + 1 ∧ t.rdg = s.rdg ∧ t.out = s.out)) ∧
      (∀ x cls, s.routeFrame p.val f 0 s.classEnd = some ([x], cls, none) → 33 ≤ x → x ≠ 59 → x ≠ 60 →
        s.admits x cls (cellsOf f.octets) = true → Answers (.macFrameRx dt p f len .none ago) s (fun t =>
          t.rdg.queues = s.rdg.queues ++ [{ mkQ p.val x cls f (s.time.mono + dt - ago) with
            epoch := tget s.rdg.epochs x 0 }])))) ∧
  (∀ (dt : Nat) (p : Fin 33) (en : BitVec 8) (quanta : List Nat) (s : State), s.portOn p.val = true →
    (s.port p.val).adminDown = false → s.role p.val ≠ 0 → (s.port p.val).holdDown = false →
    Answers (.pfcFrameRx dt p (some en) quanta) s (fun t =>
      (∀ c < 6, en.getLsbD c = true → s.pfcOn p.val = true → s.pfcClass p.val c = true →
        (s.port p.val).wdogReleased.contains c = false →
        (t.port p.val).paused.contains c = decide (quanta.getD c 0 ≠ 0)) ∧
      (∀ c < 6, (en.getLsbD c && s.pfcOn p.val && s.pfcClass p.val c &&
          !(s.port p.val).wdogReleased.contains c) = false →
        (t.port p.val).paused.contains c = (s.port p.val).paused.contains c) ∧
      (∀ q, q ≠ p.val → t.port q = s.port q) ∧ Changes [.ports, .regs, .evt, .time, .log] s t)) ∧
  (∀ (dt : Nat) (p : Fin 33) (c : Fin 6) (s : State),
    Answers (.pfcPauseExpiry dt p c) s (fun t =>
      t.port p.val = { s.port p.val with paused := (s.port p.val).paused.filter (· ≠ c.val) } ∧
      (∀ q, q ≠ p.val → t.port q = s.port q) ∧ Changes [.ports, .time, .log] s t) ∧
    ((s.port p.val).xoffSent.contains c.val = true →
      s.portField p.val 0xC 2 * 1024 < 2 * s.occupancy p.val c.val → Answers (.pfcXoffRepeat dt p c) s (fun t =>
        t.out = s.out ++ [.pfc p.val c.val 0xFFFF] ∧ Changes [.out, .regs, .evt, .time, .log] s t)) ∧
    ((s.port p.val).paused.contains c.val = true → Answers (.pfcWatchdog dt p c) s (fun t =>
      (t.port p.val).paused.contains c.val = false ∧ (t.port p.val).wdogReleased.contains c.val = true ∧
      (t.rd (macBase p.val + 0x18)).getLsbD 10 = true ∧ (∀ q, q ≠ p.val → t.port q = s.port q) ∧
      Changes [.ports, .regs, .evt, .time, .log] s t)) ∧
    Answers (.pfcWatchdogReleaseEnd dt p c) s (fun t =>
      t.port p.val = { s.port p.val with wdogReleased := (s.port p.val).wdogReleased.filter (· ≠ c.val) } ∧
      (∀ q, q ≠ p.val → t.port q = s.port q) ∧ Changes [.ports, .time, .log] s t))

/-- Links. A port that declares link-down reads LINK_UP 0, loses every frame queued for it, advances its epoch and is
held down where HOLD_DOWN is not 0; its link returns with the training, or at the end of the hold-down with
HOLD_RELEASED raised. A transceiver that leaves or does not fit takes the link with it, and a PCS fault is shown, counted
and noted (R111, R112, R131, R141, R142). -/
def Obligations.LinksComeAndGo : Prop :=
  (∀ (dt : Nat) (p : Fin 33) (part : Option Frame) (s : State), (p.val < 24 ∨ p.val = 32) → s.portOn p.val = true →
    (s.port p.val).adminDown = false → Answers (.linkDown dt p part) s (fun t =>
      (t.port p.val).linkUp = false ∧ (t.port p.val).trained = false ∧ (t.port p.val).speed = 0 ∧
      (t.port p.val).holdDown = decide (s.holdMs p.val ≠ 0) ∧ (∀ q ∈ t.rdg.queues, q.out ≠ p.val) ∧
      tget t.rdg.epochs p.val 0 = (tget s.rdg.epochs p.val 0 + 1) % 16 ∧
      (s.holdMs p.val ≠ 0 → t.evSet 260 = true) ∧
      Changes [.bcn, .evt, .hst, .log, .out, .ports, .rdg, .regs, .time] s t)) ∧
  (∀ (dt : Nat) (p : Fin 33) (speed : Fin 6) (fec : Bool) (s : State), (s.port p.val).adminDown = false →
    (s.port p.val).modMismatch = false → speed.val ≠ 0 → s.role p.val ≠ 0 → (s.port p.val).reneg = none →
    Answers (.linkUp dt p speed fec) s (fun t =>
      (t.port p.val).trained = true ∧ (t.port p.val).speed = speed.val ∧ (t.port p.val).fecActive = fec ∧
      ((s.port p.val).holdAtUp = true → s.holdMs p.val ≠ 0 →
        (t.port p.val).holdDown = true ∧ (t.port p.val).linkUp = (s.port p.val).linkUp) ∧
      (((s.port p.val).holdAtUp = false ∨ s.holdMs p.val = 0) → (s.port p.val).holdDown = false →
        (t.port p.val).linkUp = true) ∧
      (∀ q, q ≠ p.val → t.port q = s.port q) ∧ t.rdg = s.rdg)) ∧
  (∀ (dt : Nat) (p : Fin 33) (s : State), (s.port p.val).holdDown = true → Answers (.holdDownExpiry dt p) s (fun t =>
    (t.port p.val).holdDown = false ∧ t.evSet 261 = true ∧
    (t.port p.val).linkUp = ((s.port p.val).trained || (s.port p.val).linkUp) ∧
    (∀ q, q ≠ p.val → t.port q = s.port q) ∧ Changes [.bcn, .evt, .log, .ports, .regs, .time] s t)) ∧
  (∀ (dt : Nat) (p : Fin 33) (present mismatch txFault los : Bool) (s : State), p.val < 20 →
    Answers (.transceiverChange dt p present mismatch txFault los) s (fun t =>
      (t.port p.val).modPresent = present ∧ (t.port p.val).modMismatch = (present && mismatch) ∧
      (t.port p.val).modTxFault = (present && txFault) ∧ (t.port p.val).modLos = (present && los) ∧
      ((s.port p.val).trained = true → present = false ∨ mismatch = true → (t.port p.val).linkUp = false) ∧
      Changes [.bcn, .evt, .hst, .log, .out, .ports, .rdg, .regs, .time] s t)) ∧
  (∀ (dt : Nat) (p : Fin 33) (loc rem : Bool) (s : State), Answers (.pcsFaultChange dt p loc rem) s (fun t =>
    t.port p.val = { s.port p.val with localFault := loc, remoteFault := rem } ∧
    (loc = true → (s.port p.val).localFault = false →
      t.rd (macBase p.val + 0x4F8) = s.rd (macBase p.val + 0x4F8) + 1 ∧
      (t.rd (macBase p.val + 0x18)).getLsbD 11 = true) ∧
    (rem = true → (s.port p.val).remoteFault = false →
      t.rd (macBase p.val + 0x4FC) = s.rd (macBase p.val + 0x4FC) + 1 ∧
      (t.rd (macBase p.val + 0x18)).getLsbD 11 = true) ∧
    (∀ q, q ≠ p.val → t.port q = s.port q) ∧ Changes [.evt, .log, .ports, .regs, .time] s t))

/-- The speed of a downshift port and the T1S media access. Sixty quiet seconds start a change to the lower speed and ten
busy samples one to the higher; a change that has not come up within 3 s suspends the downshift with the link down. A
collision starts a backoff of r slots, and a late one or the sixteenth drops the frame (R127, R129). -/
def Obligations.DownshiftAndT1sComplete : Prop :=
  (∀ (dt : Nat) (p : Fin 33) (u : Fin 10001) (s : State),
    Answers (.utilSample1s dt p u) s (fun t =>
      (t.port p.val).util = min 100 (u.val / 100) ∧
      (s.shiftRuns p.val = true → s.otherReady p.val = true → s.otherMember p.val ≠ some p.val →
        (s.port p.val).low = false → u.val < 200 → s.otherHigh p.val = true →
        (59 ≤ (s.port p.val).quiet → (t.port p.val).reneg = some (higherSpeed p.val - 1) ∧
          (t.port p.val).linkUp = false) ∧
        ((s.port p.val).quiet < 59 → (t.port p.val).quiet = (s.port p.val).quiet + 1 ∧
          (t.port p.val).reneg = (s.port p.val).reneg)) ∧
      Changes [.bcn, .evt, .hst, .log, .out, .ports, .rdg, .regs, .time] s t) ∧
    (s.shiftRuns p.val = true → (s.port p.val).low = true → s.otherReady p.val = true → 2000 < u.val →
      Answers (.utilSample10ms dt p u) s (fun t =>
        (9 ≤ (s.port p.val).hot10 → (t.port p.val).reneg = some (higherSpeed p.val) ∧
          (t.port p.val).linkUp = false) ∧
        ((s.port p.val).hot10 < 9 → t.port p.val = { s.port p.val with hot10 := (s.port p.val).hot10 + 1 }) ∧
        Changes [.bcn, .evt, .hst, .log, .out, .ports, .rdg, .regs, .time] s t)) ∧
    ((s.port p.val).reneg.isSome = true → Answers (.speedChangeTimeout dt p) s (fun t =>
      (t.port p.val).reneg = none ∧ (t.port p.val).low = false ∧ (t.port p.val).suspended = true ∧
      (t.port p.val).linkUp = false ∧ (t.port p.val).holdDown = decide (s.holdMs p.val ≠ 0)))) ∧
  (∀ (dt : Nat) (p : Fin 33) (r pick : Nat) (q : QFrame) (s : State), 24 ≤ p.val → p.val < 32 →
    (s.elapse dt).egressIdle p.val = true → s.rdg.t1s.find? (fun q => decide (q.out = p.val)) = some q →
    Answers (.t1sCollision dt p true r pick) s (fun t =>
      t.rdg.t1s = s.rdg.t1s.erase q ∧ (t.port p.val).t1sTries = 0 ∧ (t.port p.val).t1sWait = none ∧
      (t.rd (macBase p.val + 0x18)).getLsbD 12 = true) ∧
    ((s.port p.val).t1sTries < 15 → Answers (.t1sCollision dt p false r pick) s (fun t =>
      t.rdg = s.rdg ∧ (t.port p.val).t1sTries = (s.port p.val).t1sTries + 1 ∧
      (t.port p.val).t1sWait = some (r % 2 ^ min ((s.port p.val).t1sTries + 1) 10)))) ∧
  (∀ (dt : Nat) (p : Fin 33) (s : State), Answers (.t1sBackoffExpiry dt p) s (fun t =>
    t.port p.val = { s.port p.val with t1sWait := none } ∧ (∀ q, q ≠ p.val → t.port q = s.port q) ∧
    Changes [.ports, .time, .log] s t))

/-- The egress side of the ridge. An idle port sends the next frame of strict priority and an internal endpoint takes it,
and it leaves its queue; a missing cell discards its frame. A group sends its supervision frame with its next sequence
number. A plane that fails leaves service, and the last one faults the module (R137, R138, R143, R145, R149). -/
def Obligations.RidgeSendsAndLosesPlanes : Prop :=
  (∀ (dt pick : Nat) (x : Fin 65) (busy : Bool) (q : QFrame) (s : State), s.nextFrame x.val pick = some q →
    (32 < x.val → Answers (.egressTransmit dt x pick busy) s (fun t =>
      t.rdg.queues = s.rdg.queues.erase q ∧ .deliver (x.val - 33) q.frame ∈ t.out)) ∧
    (x.val ≤ 32 → (s.elapse dt).nextFrame x.val pick = some q → (s.elapse dt).egressIdle x.val = true →
      s.rdg.t1s.find? (fun q => decide (q.out = x.val)) = none →
      q.epoch = tget s.rdg.epochs x.val 0 → Answers (.egressTransmit dt x pick busy) s (fun t =>
        t.rdg.queues = s.rdg.queues.erase q ∧ ∃ f, .frame x.val f false ∈ t.out))) ∧
  (∀ (dt : Nat) (out ingress : Fin 65) (cls : Fin 8) (q : QFrame) (s : State),
    s.rdg.queues.find? (fun q => decide (q.out = out.val) && decide (q.ingress = ingress.val) &&
      decide (q.cls = cls.val)) = some q → Answers (.reseqTimeout dt out ingress cls) s (fun t =>
      t.rdg.queues = s.rdg.queues.erase q ∧
      (q.epoch = tget s.rdg.epochs out.val 0 →
        t.rd (epCnt out.val 5) = s.rd (epCnt out.val 5) + 1 ∧ t.evSet 258 = true))) ∧
  (∀ (dt : Nat) (g : Fin 12) (s : State), s.afterBoot = true → g.val < s.groupCount → (s.groupPorts g.val).1 ≠ 0 →
    Answers (.supervisionTx dt g) s (fun t =>
      tget t.rdg.seqs g.val 0 = (tget s.rdg.seqs g.val 0 + 1) % 65536 ∧
      ((s.port (s.groupPorts g.val).2.1).holdDown = false →
        s.admits (s.groupPorts g.val).2.1 5 1 = true →
        ∃ q ∈ t.rdg.queues, q.out = (s.groupPorts g.val).2.1 ∧
          q.frame.red = some (s.redTag g.val (s.groupPorts g.val).2.1 (tget s.rdg.seqs g.val 0))))) ∧
  (∀ (dt : Nat) (k : Fin 2) (ecc : Bool) (s : State),
    (if k.val = 0 then s.rdg.fault0 else s.rdg.fault1) = false → Answers (.planeFault dt k ecc) s (fun t =>
      (k.val = 0 → t.rdg.fault0 = true ∧ t.rdg.plane0 = false ∧ t.rdg.plane1 = !s.rdg.fault1) ∧
      (k.val = 1 → t.rdg.fault1 = true ∧ t.rdg.plane1 = false ∧ t.rdg.plane0 = !s.rdg.fault0) ∧
      ((if k.val = 0 then s.rdg.fault1 else s.rdg.fault0) = false →
        t.evSet 256 = true ∧ Changes [.rdg, .regs, .evt, .time, .log] s t) ∧
      ((if k.val = 0 then s.rdg.fault1 else s.rdg.fault0) = true → s.faultMode = true →
        Entered .degraded (if ecc then 0x0E else 0x19) s t)))

/-- The commands of the ports and of the ridge. ADMIN_DOWN takes the port down, ADMIN_UP lets it come up and SPEED_PIN
stops or frees the downshift. A learned node entry expires, NT_FLUSH frees every learned entry and keeps the static ones,
PLANE_SELECT sets the planes that carry traffic, and HOLDDOWN_END ends one port's hold-down (R127, R130, R146, R153). -/
def Obligations.PortAndRidgeCommandsComplete : Prop :=
  (∀ (dt : Nat) (p : Fin 33) (s : State), s.Ready (macBase p.val) →
    (s.adminMode p.val = true → Answers (.adminDown dt p 0 0) s (fun t =>
      t.IsDone (macBase p.val) 1 ∧ (t.port p.val).adminDown = true ∧ (t.port p.val).linkUp = false ∧
      (t.port p.val).holdDown = false ∧ (∀ q ∈ t.rdg.queues, q.out ≠ p.val) ∧
      (t.rd (macBase p.val + 0x18)).getLsbD 14 = true)) ∧
    (s.adminMode p.val = true → (s.port p.val).adminDown = true → Answers (.adminUp dt p 0 0) s (fun t =>
      t.IsDone (macBase p.val) 2 ∧ t.port p.val = { s.port p.val with adminDown := false } ∧
      (∀ q, q ≠ p.val → t.port q = s.port q) ∧ (t.rd (macBase p.val + 0x18)).getLsbD 14 = true ∧
      Changes [.cmds, .evt, .log, .ports, .regs, .time] s t)) ∧
    (s.img.loaded = true → s.downshiftOn p.val = true →
      Answers (.speedPin dt p 0 1) s (fun t =>
        t.IsDone (macBase p.val) 3 ∧ t.port p.val = { s.port p.val with pinned := true } ∧
        (∀ q, q ≠ p.val → t.port q = s.port q) ∧ Changes [.cmds, .evt, .log, .ports, .regs, .time] s t) ∧
      Answers (.speedPin dt p 0 0) s (fun t =>
        t.IsDone (macBase p.val) 3 ∧
        t.port p.val = { s.port p.val with pinned := false, suspended := false, quiet := 0, hot10 := 0 } ∧
        (∀ q, q ≠ p.val → t.port q = s.port q) ∧ Changes [.cmds, .evt, .log, .ports, .regs, .time] s t))) ∧
  (∀ (dt : Nat) (mac : BitVec 48) (g : Fin 12) (s : State), Answers (.ntEntryExpiry dt mac g) s (fun t =>
    t.rdg = { s.rdg with
      nodes := s.rdg.nodes.filter (fun n =>
      n.static || !(decide (n.mac = mac.toNat) && decide (n.group = g.val))) } ∧
    Changes [.rdg, .time, .log] s t)) ∧
  (∀ (dt : Nat) (s : State), s.Ready rdgCmdReg →
    (s.img.loaded = true → Answers (.ntFlush dt 0 0) s (fun t =>
      t.IsDone rdgCmdReg 1 ∧ t.evSet 264 = true ∧
      t.rdg = { s.rdg with nodes := s.rdg.nodes.filter (·.static) } ∧
      Changes [.cmds, .evt, .log, .rdg, .regs, .time] s t)) ∧
    (∀ arg : BitVec 16, arg.toNat < 3 → s.inService = true → (arg.toNat ≠ 2 → s.rdg.fault0 = false) →
      (arg.toNat ≠ 1 → s.rdg.fault1 = false) → Answers (.planeSelect dt 0 arg) s (fun t =>
        t.IsDone rdgCmdReg 2 ∧ t.evSet 264 = true ∧ t.rdg.select = arg.toNat ∧
        t.rdg.plane0 = (decide (arg.toNat ≠ 2) && !s.rdg.fault0) ∧
        t.rdg.plane1 = (decide (arg.toNat ≠ 1) && !s.rdg.fault1) ∧ t.rdg.queues = s.rdg.queues ∧
        Changes [.cmds, .evt, .log, .rdg, .regs, .time] s t)) ∧
    (∀ arg : BitVec 16, arg.toNat < 24 → s.inService = true → (s.port arg.toNat).holdDown = true →
      Answers (.holddownEnd dt 0 arg) s (fun t =>
        t.IsDone rdgCmdReg 3 ∧ t.evSet 264 = true ∧ t.evSet 261 = true ∧ (t.port arg.toNat).holdDown = false ∧
        (∀ q, q ≠ arg.toNat → t.port q = s.port q) ∧
        Changes [.bcn, .cmds, .evt, .log, .ports, .regs, .time] s t)))

/-- The beacon's references. An Announce gives a domain's reference its class, UTC offset and leap indicators, a Sync on an
eligible slave port its offset less half the port's asymmetry, an IRIG-B frame that of IRIG-B, and the servo steers at
once on the selected reference in LOCKED. A timeout or a missed Sync counts against the reference, whose qualification
follows its conditions, and a held preferred domain is taken back. An offset beyond 1 ms diverges the last selected
reference (R91, R92, R94, R95, R96, R99, R101). -/
def Obligations.ReferencesFollowTheirMessages : Prop :=
  (∀ (dt : Nat) (d : Fin 2) (cls : BitVec 8) (utc : BitVec 16) (uv l59 l61 : Bool) (s : State),
    s.afterBoot = true → s.kpr.frames = true → s.bcn.newlyDiverged = false → s.domOn d.val = true →
    Answers (.ptpAnnounceRx dt d cls utc uv l59 l61) s (fun t =>
      (t.refOf d.val).present = true ∧ (t.refOf d.val).cls = cls.toNat ∧ (t.refOf d.val).utc = utc.toInt ∧
      (t.refOf d.val).utcValid = uv ∧ (t.refOf d.val).leap59 = l59 ∧ (t.refOf d.val).leap61 = l61 ∧
      (t.refOf d.val).qual = s.qualifies d.val { s.refOf d.val with
        present := true, cls := cls.toNat, timedOut := false } ∧
      (∀ r, r < 3 → r ≠ d.val → t.refOf r = s.refOf r) ∧
      Changes [.bcn, .pair, .regs, .evt, .time, .log] s t)) ∧
  (∀ (dt : Nat) (d : Fin 2) (p : Fin 24) (offset residual demand refRate : Int) (s : State),
    s.afterBoot = true → s.kpr.frames = true → s.bcn.newlyDiverged = false → s.domOn d.val = true →
    s.servoEligible d.val p.val = true → s.pathFor d.val p.val = p.val →
    within1ms (offset - s.asymNow p.val / 2) = true →
    Answers (.ptpSyncRx dt d p true offset residual demand refRate) s (fun t =>
      (t.refOf d.val).offset = offset - s.asymNow p.val / 2 ∧ (t.refOf d.val).path = p.val ∧
      (t.refOf d.val).present = true ∧ (t.refOf d.val).missed = 0 ∧ (t.refOf d.val).diverged = false ∧
      (t.refOf d.val).goodRun = (if -25600 < residual ∧ residual < 25600 then
        min ((s.refOf d.val).goodRun + 1) 16 else 0) ∧
      (s.bcn.state = .locked → s.bcn.selected = d.val → t.bcn.rate = clampInt (-rateLimit) rateLimit demand) ∧
      (s.bcn.selected ≠ d.val → t.bcn.rate = s.bcn.rate) ∧
      (∀ r, r < 3 → r ≠ d.val → t.refOf r = s.refOf r) ∧
      Changes [.bcn, .pair, .cmds, .ports, .regs, .evt, .time, .log] s t)) ∧
  (∀ (dt : Nat) (d : Fin 2) (p : Fin 24) (offset residual demand refRate : Int) (s : State),
    s.afterBoot = true → s.kpr.frames = true → s.domOn d.val = true → s.time.stepped = true →
    s.bcn.lastSel = d.val → (s.refOf d.val).diverged = false → s.ppFlag 3 = false →
    s.servoEligible d.val p.val = true → s.pathFor d.val p.val = p.val →
    within1ms (offset - s.asymNow p.val / 2) = false →
    Answers (.ptpSyncRx dt d p true offset residual demand refRate) s (fun t =>
      (t.refOf d.val).diverged = true ∧ (t.refOf d.val).qual = false ∧
      (t.bcn.selected = s.bcn.selected → t.bcn.divergedSel = true) ∧ t.evSet 70 = true)) ∧
  (∀ (dt : Nat) (d : Fin 2) (s : State),
    s.afterBoot = true → s.kpr.frames = true → s.bcn.newlyDiverged = false →
    Answers (.announceReceiptTimeout dt d) s (fun t =>
      (t.refOf d.val).present = false ∧ (t.refOf d.val).timedOut = true ∧ (t.refOf d.val).qual = false ∧
      (t.refOf d.val).path = 255 ∧ (∀ r, r < 3 → r ≠ d.val → t.refOf r = s.refOf r) ∧
      Changes [.bcn, .pair, .regs, .evt, .time, .log] s t) ∧
    Answers (.syncMissed dt d) s (fun t =>
      (t.refOf d.val).missed = min ((s.refOf d.val).missed + 1) 255 ∧
      (3 ≤ (s.refOf d.val).missed → (t.refOf d.val).qual = false) ∧
      (∀ r, r < 3 → r ≠ d.val → t.refOf r = s.refOf r) ∧
      Changes [.bcn, .pair, .regs, .evt, .time, .log] s t) ∧
    Answers (.irigError dt) s (fun t =>
      (t.refOf 2).present = false ∧ (t.refOf 2).goodRun = 0 ∧ (t.refOf 2).qual = false ∧ t.evSet 76 = true ∧
      (∀ r, r < 2 → t.refOf r = s.refOf r) ∧ Changes [.bcn, .pair, .regs, .evt, .time, .log] s t) ∧
    ((s.bcn.state = .locked ∨ s.bcn.state = .converging) → s.bcn.selected ≠ d.val →
      (s.elapse dt).heldNear d.val = true →
      (s.bcn.selected = 2 ∨ (d.val = s.preferred ∧ byteAt s.tp 0x41 = 1)) →
      Answers (.revertHoldExpiry dt d) s (fun t =>
        t.bcn.state = .converging ∧ t.bcn.selected = d.val ∧ t.bcn.lastSel = d.val ∧ t.bcn.convCount = 0 ∧
        t.evSet 66 = true ∧ Changes [.bcn, .pair, .regs, .evt, .time, .log] s t))) ∧
  (∀ (dt : Nat) (offset demand refRate : Int) (quality : BitVec 8) (s : State),
    s.afterBoot = true → s.kpr.frames = true → s.bcn.newlyDiverged = false → s.irigUse ≠ 0 →
    within1ms offset = true → Answers (.irigFrameRx dt offset demand refRate quality) s (fun t =>
      (t.refOf 2).present = true ∧ (t.refOf 2).cls = quality.toNat ∧ (t.refOf 2).offset = offset ∧
      (t.refOf 2).goodRun = min ((s.refOf 2).goodRun + 1) 16 ∧ (t.refOf 2).missed = 0 ∧
      (∀ r, r < 2 → t.refOf r = s.refOf r) ∧ Changes [.bcn, .pair, .cmds, .regs, .evt, .time, .log] s t))

/-- What the beacon sends and marks. A peer-delay request on a profile of that mechanism is answered and a response gives
the port its link delay; an unsupported message counts in counter 41; a master port sends Sync and Announce with the class
of the beacon's state, and a slave port its delay requests. A second boundary starts the once-per-second windows anew and
sets the backup counter from station time; 1PPS rises after the first step and falls; an armed capture holds station time
(R7, R89, R90, R102, R108, R503). -/
def Obligations.BeaconSendsAndMarksTime : Prop :=
  (∀ (dt : Nat) (d : Fin 2) (p : Fin 24) (delay : Int) (s : State), s.afterBoot = true → s.kpr.frames = true →
    s.bcn.newlyDiverged = false → s.domOn d.val = true →
    (peerDelay (s.domProfile d.val) = true → Answers (.ptpDelayMsgRx dt d p 0 delay) s (fun t =>
      t.out = s.out ++ [.ptp d.val p.val 3 0 (tget s.bcn.txSeq (8 * p.val + 3) 0) (s.elapse dt).now] ∧
      tget t.bcn.txSeq (8 * p.val + 3) 0 = (tget s.bcn.txSeq (8 * p.val + 3) 0 + 1) % 65536 ∧
      Changes [.out, .bcn, .ports, .pair, .time, .log] s t)) ∧
    Answers (.ptpDelayMsgRx dt d p 2 delay) s (fun t =>
      (t.port p.val).linkDelay = delay ∧ (∀ q, q ≠ p.val → t.port q = s.port q) ∧
      Changes [.ports, .pair, .time, .log] s t)) ∧
  (∀ (dt : Nat) (p : Fin 24) (s : State), s.afterBoot = true → s.kpr.frames = true → s.bcn.newlyDiverged = false →
    Answers (.ptpOtherMsgRx dt p true) s (fun t =>
      t.rd (macBase p.val + 0x400 + 4 * 41) = s.rd (macBase p.val + 0x400 + 4 * 41) + 1 ∧
      Changes [.regs, .evt, .pair, .time, .log] s t) ∧
    Answers (.ptpOtherMsgRx dt p false) s (fun t => Changes [.pair, .time, .log] s t)) ∧
  (∀ (dt : Nat) (d : Fin 2) (p : Fin 24) (c : Nat) (s : State), s.afterBoot = true →
    s.masterPort d.val p.val = true → (s.elapse dt).announceClass = some c →
    (s.bcn.selected ≠ 2 → Answers (.ptpSyncTx dt d p) s (fun t =>
      t.out = s.out ++ [.ptp d.val p.val 0 c (tget s.bcn.txSeq (8 * p.val) 0) (s.elapse dt).now] ∧
      Changes [.out, .bcn, .time, .log] s t)) ∧
    Answers (.ptpAnnounceTx dt d p) s (fun t =>
      t.out = s.out ++ [.ptp d.val p.val 1 c (tget s.bcn.txSeq (8 * p.val + 1) 0) (s.elapse dt).now] ∧
      Changes [.out, .bcn, .time, .log] s t)) ∧
  (∀ (dt : Nat) (d : Fin 2) (p : Fin 24) (s : State), s.afterBoot = true → s.domOn d.val = true →
    inMask (s.domMask d.val 4) p.val = true → Answers (.ptpPdelayReqTx dt d p) s (fun t =>
      (∃ k, k = (if peerDelay (s.domProfile d.val) then 2 else 5) ∧
        t.out = s.out ++ [.ptp d.val p.val k 0 (tget s.bcn.txSeq (8 * p.val + k) 0) (s.elapse dt).now]) ∧
      Changes [.out, .bcn, .time, .log] s t)) ∧
  (∀ (dt : Nat) (src : Fin 5) (s : State),
    (s.glb.mode ≠ .dormant → Answers (.secondBoundary dt) s (fun t =>
      t.once = [] ∧ (∀ i < 16, (t.input i).inSecond = 0) ∧
      (s.bcn.state = .locked ∨ s.bcn.state = .converging ∨ s.bcn.state = .holdover →
        t.time.backup = (s.elapse dt).time.station) ∧ Changes [.once, .bin, .time, .log] s t)) ∧
    (s.time.stepped = true → s.afterBoot = true →
      (s.bcn.ppsLast = none ∨ ∃ u, s.bcn.ppsLast = some u ∧ u + 500 * msUnit ≤ (s.elapse dt).time.mono) →
      Answers (.ppsRise dt) s (fun t =>
        t.bcn = { s.bcn with pps := true, ppsLast := some (s.elapse dt).time.mono } ∧ t.out = s.out ++ [.pps true] ∧
        Changes [.out, .bcn, .time, .log] s t)) ∧
    (s.bcn.pps = true → Answers (.ppsFall dt) s (fun t =>
      t.bcn = { s.bcn with pps := false } ∧ t.out = s.out ++ [.pps false] ∧
      Changes [.out, .bcn, .time, .log] s t)) ∧
    (s.bcn.tsArm = true → src.val = s.bcn.tsCtrl.toNat → src.val ≠ 0 → Answers (.tsCaptured dt src) s (fun t =>
      t.bcn = { s.bcn with
        tsArm := false, tsDone := true, capNs := nsOf (s.elapse dt).now, capSec := secOf (s.elapse dt).now,
        capFrac := fracOf (s.elapse dt).now } ∧
      t.evSet 78 = true ∧ Changes [.bcn, .regs, .evt, .time, .log] s t)))

/-- Steps, selection and holdover. STEP applies at once while no protection frames run and waits for the gap while they
do; a step sets station time from the reference's estimate, locks the beacon to it and counts. SELECT_DOMAIN is done at
once for the reference it is locked to and otherwise converges. 60 s in HOLDOVER raise TIME_LOST (R92, R93, R95, R97,
R107). -/
def Obligations.StepsSelectionAndHoldover : Prop :=
  (∀ (dt : Nat) (arg : BitVec 16) (s : State), s.Ready bcnCmdReg → arg.toNat < 3 → s.inCommTest = true →
    (s.refOf arg.toNat).present = true →
    ((s.refOf arg.toNat).qual = true ∨ (s.refOf arg.toNat).diverged = true) →
    (s.kpr.frames = true → Answers (.step dt 0 arg) s (fun t =>
      t.Runs bcnCmdReg 1 arg.toNat ∧ t.bcn = { s.bcn with pendStep := some arg.toNat } ∧
      Changes [.bcn, .cmds, .time, .log] s t)) ∧
    (s.kpr.frames = false → s.bcn.autoStep = none → Answers (.step dt 0 arg) s (fun t =>
      t.IsDone bcnCmdReg 1 ∧ t.bcn.pendStep = none ∧ t.bcn.selected = arg.toNat ∧ t.bcn.state = .locked ∧
      t.bcn.stepCount = (s.bcn.stepCount + 1) % 256 ∧ t.evSet 65 = true ∧ t.time.stepped = true ∧
      t.time.station = (((s.elapse dt).now : Int) + 256 * (s.refOf arg.toNat).offset).toNat))) ∧
  (∀ (dt r : Nat) (s : State), s.kpr.frames = true → s.kpr.open_ = false → r < 3 →
    ((s.bcn.pendStep = some r ∧ s.bcn.autoStep = none) ∨ (s.bcn.pendStep = none ∧ s.bcn.autoStep = some r)) →
    Answers (.stepApply dt) s (fun t =>
      t.bcn.pendStep = none ∧ t.bcn.autoStep = none ∧ t.bcn.selected = r ∧ t.bcn.state = .locked ∧
      t.bcn.stepCount = (s.bcn.stepCount + 1) % 256 ∧ t.evSet 65 = true ∧ t.time.stepped = true ∧
      t.time.station = (((s.elapse dt).now : Int) + 256 * (s.refOf r).offset).toNat ∧
      t.bcn.noTickBefore = tickAtOrAfter t.time.station s.frameRate + 1 ∧
      (s.bcn.pendStep = some r → (t.cmd bcnCmdReg).status = 2 ∧ (t.cmd bcnCmdReg).pending = false))) ∧
  (∀ (dt : Nat) (arg : BitVec 16) (s : State), s.Ready bcnCmdReg → arg.toNat < 3 → s.inOperating = true →
    refNear (s.refOf arg.toNat) = true → (arg.toNat = 2 → s.irigUse ≠ 0) →
    (s.bcn.state = .locked → s.bcn.selected = arg.toNat → Answers (.selectDomain dt 0 arg) s (fun t =>
      t.IsDone bcnCmdReg 2 ∧ t.bcn = s.bcn ∧ Changes [.cmds, .regs, .evt, .time, .log] s t)) ∧
    (s.bcn.state = .holdover ∨ (s.bcn.state = .locked ∧ s.bcn.selected ≠ arg.toNat) →
      Answers (.selectDomain dt 0 arg) s (fun t =>
        t.Runs bcnCmdReg 2 arg.toNat ∧ t.bcn.state = .converging ∧ t.bcn.selected = arg.toNat ∧
        t.bcn.convCount = 0 ∧ t.bcn.timeLost = false ∧ t.bcn.selectCmd = true ∧
        Changes [.bcn, .cmds, .regs, .evt, .time, .log] s t))) ∧
  (∀ (dt : Nat) (s : State), s.bcn.state = .holdover → s.bcn.timeLost = false →
    s.bcn.holdSince + 60 * secUnit ≤ (s.elapse dt).time.mono → (s.glb.mode ≠ .active ∨ s.fogFlag 2 = false) →
    Answers (.timeLost dt) s (fun t =>
      t.bcn = { s.bcn with timeLost := true } ∧ t.evSet 69 = true ∧
      Changes [.bcn, .regs, .evt, .time, .log] s t))

/-- Asymmetry of a port. ASYM_MEASURE starts a measurement, and the end of its window gives the measured value, which
ASYM_APPLY makes active and stored at the port's present speed and ASYM_KEEP discards. In RECOVERY a value within the
limit of the stored one is adopted, and one beyond it makes the port SUSPECT (R99, R100, R107). -/
def Obligations.AsymmetryIsMeasuredAndKept : Prop :=
  (∀ (dt : Nat) (arg : BitVec 16) (s : State), s.Ready bcnCmdReg → arg.toNat < 24 →
    ((s.inCommTest = true ∨ (s.asymOf arg.toNat).recovery = true) → s.onlyPath arg.toNat = false →
      Answers (.asymMeasure dt 0 arg) s (fun t =>
        t.Runs bcnCmdReg 3 arg.toNat ∧
        t.asymOf arg.toNat = { s.asymOf arg.toNat with
          before := (s.asymOf arg.toNat).state, state := 2, measuring := true, auto := false,
          since := (s.elapse dt).time.mono } ∧
        (∀ q, q ≠ arg.toNat → t.asymOf q = s.asymOf q) ∧ Changes [.bcn, .cmds, .time, .log] s t)) ∧
    (s.inCommTest = true → (s.asymOf arg.toNat).measDone = true → Answers (.asymApply dt 0 arg) s (fun t =>
      t.IsDone bcnCmdReg 4 ∧ t.asymNow arg.toNat = (s.asymOf arg.toNat).meas ∧
      t.asymStored arg.toNat = (s.asymOf arg.toNat).meas ∧ (t.asymOf arg.toNat).state = 1 ∧
      (t.asymOf arg.toNat).recovery = false ∧ (∀ q, q ≠ arg.toNat → t.asymOf q = s.asymOf q) ∧
      Changes [.bcn, .cmds, .regs, .evt, .time, .log] s t)) ∧
    (s.inOperating = true → ((s.asymOf arg.toNat).recovery = true ∨ (s.asymOf arg.toNat).state = 3) →
      Answers (.asymKeep dt 0 arg) s (fun t =>
        t.IsDone bcnCmdReg 5 ∧
        t.asymOf arg.toNat = { s.asymOf arg.toNat with
          recovery := false, measuring := false, state := if (s.asymOf arg.toNat).stored = [] then 0 else 1 } ∧
        (∀ q, q ≠ arg.toNat → t.asymOf q = s.asymOf q) ∧ Changes [.bcn, .cmds, .regs, .evt, .time, .log] s t))) ∧
  (∀ (dt : Nat) (p : Fin 24) (mean : Int) (s : State), s.afterBoot = true → s.kpr.frames = true →
    s.bcn.newlyDiverged = false →
    (((s.asymOf p.val).measuring = true ∧
        (s.asymOf p.val).since + leAt s.tp 0x4C 2 * secUnit ≤ (s.elapse dt).time.mono) ∨
      ((s.asymOf p.val).measuring = false ∧ (s.asymOf p.val).recovery = true ∧ s.bcn.state = .locked)) →
    Answers (.asymDone dt p mean) s (fun t =>
      (t.asymOf p.val).meas = 2 * mean ∧ (t.asymOf p.val).measDone = true ∧ (t.asymOf p.val).measuring = false ∧
      (t.asymOf p.val).recovery = false ∧
      ((s.asymOf p.val).recovery = false → (t.asymOf p.val).state = (s.asymOf p.val).before ∧
        (t.asymOf p.val).active = (s.asymOf p.val).active ∧ t.evSet 74 = true) ∧
      ((s.asymOf p.val).recovery = true →
        (2 * mean - s.asymStored p.val).natAbs ≤ leAt s.tp 0x4E 2 * 256 →
        (t.asymOf p.val).state = 1 ∧ t.asymNow p.val = 2 * mean ∧ t.asymStored p.val = 2 * mean ∧
        t.evSet 74 = true) ∧
      ((s.asymOf p.val).recovery = true →
        leAt s.tp 0x4E 2 * 256 < (2 * mean - s.asymStored p.val).natAbs →
        (t.asymOf p.val).state = 3 ∧ (t.asymOf p.val).active = (s.asymOf p.val).active ∧ t.evSet 75 = true) ∧
      ((s.asymOf p.val).measuring = true → (s.asymOf p.val).auto = false → (s.cmd bcnCmdReg).pending = true →
        (s.cmd bcnCmdReg).runCode = 3 →
        (t.cmd bcnCmdReg).status = 2 ∧ (t.cmd bcnCmdReg).pending = false) ∧
      (∀ q, q ≠ p.val → t.asymOf q = s.asymOf q) ∧
      Changes [.bcn, .cmds, .pair, .regs, .evt, .time, .log] s t))

/-- Intake of sampled values. A frame that is malformed, needs an unsupported option, belongs to no entry or is simulated
without acceptance is counted. A frame without a tag on a stream that asks for none passes its sample to the chain when it
is the next one. A deadline passes the sample as missing, with the held value, and the stream leaves OK. Forced
substitution starts and ends at its target tick (R162, R164, R176, R177, R179, R184, R187). -/
def Obligations.IntakePassesSamples : Prop :=
  (∀ (dt : Nat) (f : SvFrame) (s : State), s.img.loaded = true →
    ((f.wellFormed = false ∨ f.asdus.length = 0 ∨ 8 < f.asdus.length) → Answers (.svFrameRx dt f) s (fun t =>
      t.rd 0x300014 = satInc (s.rd 0x300014) ∧ Changes [.regs, .time, .log] s t)) ∧
    (f.wellFormed = true → f.asdus.length ≠ 0 → f.asdus.length ≤ 8 →
      (f.unsupported = true → Answers (.svFrameRx dt f) s (fun t =>
        t.rd 0x300018 = satInc (s.rd 0x300018) ∧ Changes [.regs, .time, .log] s t)) ∧
      (f.unsupported = false → s.sviMatch f = none → Answers (.svFrameRx dt f) s (fun t =>
        t.rd 0x300010 = satInc (s.rd 0x300010) ∧ t.svi = { s.svi with lastNoMatch := f.appid } ∧
        Changes [.regs, .svi, .evt, .once, .time, .log] s t)) ∧
      (∀ c, f.unsupported = false → s.sviMatch f = some c →
        (f.sim = true ∧ (s.glb.mode ≠ .test ∨ c.acceptSim = false)) ∨
          (f.sim = false ∧ (s.stream c.index).sim = true) →
        Answers (.svFrameRx dt f) s (fun t =>
          t.rd (0x320000 + 0x40 * c.index + 48) = satAdd (s.rd (0x320000 + 0x40 * c.index + 48)) 1 ∧
          Changes [.regs, .time, .log] s t)) ∧
      (∀ c a pos, f.unsupported = false → s.sviMatch f = some c → f.sim = false → (s.stream c.index).sim = false →
        c.fieldAt 0x20 1 = 0 → f.asdus = [a] → a.confRev = c.fieldAt 0x18 4 → shapeOk c f = true →
        2 ≤ (s.stream c.index).state → a.smpCnt < c.cycleCount → globalSync c a.smpSynch = true →
        (s.stream c.index).arrival = false → (s.stream c.index).waits = [] → s.pair.items = [] →
        syncPos c a.smpCnt ((s.elapse dt).now - f.ago) = pos → pos = (s.stream c.index).next →
        s.asduBad c pos ((s.elapse dt).now - f.ago) = none → Answers (.svFrameRx dt f) s (fun t =>
          (t.stream c.index).next = pos + 1 ∧ (t.stream c.index).lastTime = rateInstant pos c.rate ∧
          (t.stream c.index).vals = (asduData c a false (decide (s.glb.mode = .test))).map (·.1) ∧
          (t.stream c.index).missRun = 0 ∧
          (t.stream c.index).count = ((s.stream c.index).count + 1) % 2 ^ 32 ∧
          (t.stream c.index).smpCnt = a.smpCnt ∧
          Changes [.cnd, .evt, .log, .once, .out, .pln, .prf, .regs, .svi, .time] s t)))) ∧
  (∀ (dt : Nat) (i : Fin 2048) (c : StreamCfg) (s : State), s.streamCfg i.val = some c →
    2 ≤ (s.stream i.val).state → (s.stream i.val).state ≤ 5 → (s.stream i.val).waits = [] → s.pair.items = [] →
    deadline c s.frameRate (streamTime c (s.stream i.val) (s.stream i.val).next) ≤ (s.elapse dt).now * s.frameRate →
    Answers (.sampleDeadline dt i) s (fun t =>
      (t.stream i.val).next = (s.stream i.val).next + 1 ∧ (t.stream i.val).missRun = (s.stream i.val).missRun + 1 ∧
      (t.stream i.val).vals = (s.stream i.val).vals ∧
      (t.stream i.val).count = ((s.stream i.val).count + 1) % 2 ^ 32 ∧
      ((t.stream i.val).state = 4 ∨ (t.stream i.val).state = 5) ∧
      Changes [.cnd, .evt, .log, .once, .out, .pln, .prf, .regs, .svi, .time] s t)) ∧
  (∀ (dt n : Nat) (arg : BitVec 16) (c : StreamCfg) (s : State), s.Ready sviCmdReg →
    (s.elapse dt).targetTick 0x300020 0x300024 = some n → arg.toNat < 2048 → s.streamCfg arg.toNat = some c →
    s.inFrames = true →
    (∀ p, c.substOn = true → c.partner = some p → s.healthy p = true → Answers (.substForce dt 0 arg) s (fun t =>
      t.Runs sviCmdReg 1 arg.toNat ∧
      t.svi = { s.svi with pend := some { force := true, stream := arg.toNat, target := n } } ∧
      Changes [.svi, .cmds, .time, .log] s t)) ∧
    ((s.stream arg.toNat).forced = true → Answers (.substRelease dt 0 arg) s (fun t =>
      t.Runs sviCmdReg 2 arg.toNat ∧
      t.svi = { s.svi with pend := some { force := false, stream := arg.toNat, target := n } } ∧
      Changes [.svi, .cmds, .time, .log] s t))) ∧
  (∀ (dt : Nat) (p : SviPend) (s : State), s.svi.pend = some p →
    (p.force = true → Answers (.substForceApply dt) s (fun t =>
      t.svi.pend = none ∧ (t.stream p.stream).forced = true ∧
      (∀ c q qc, s.streamCfg p.stream = some c → c.partner = some q → s.streamCfg q = some qc →
        (s.stream p.stream).substituting = false →
        (t.stream p.stream).subst = some { start := tickTime p.target s.frameRate, stop := none }) ∧
      (t.cmd sviCmdReg).status = 2 ∧ (t.cmd sviCmdReg).pending = false ∧
      Changes [.cmds, .evt, .log, .once, .out, .pln, .prf, .regs, .svi, .time] s t)) ∧
    (p.force = false → Answers (.substReleaseApply dt) s (fun t =>
      t.svi.pend = none ∧ (t.stream p.stream).forced = false ∧
      (t.cmd sviCmdReg).status = 2 ∧ (t.cmd sviCmdReg).pending = false ∧
      Changes [.cmds, .evt, .log, .pln, .regs, .svi, .time] s t)))

/-- The chain's outputs. A slot's next grid sample is computed once its inputs exist, with the marks of its settling
inputs, and a group's next estimate takes the frequency of the first source that has run long enough, holds the last one,
or stays nominal (R199, R202, R204, R205, R209). -/
def Obligations.ChainComputesSamplesAndFrequency : Prop :=
  (∀ (dt i v tl : Nat) (k : Fin 16384) (c : StreamCfg) (p : LatPt) (s : State), s.slotCfg k.val = some (c, i) →
    (s.slot k.val).run = true →
    (0x10 ≤ c.grid i ∧ s.gridInstant c.group (c.grid i) (s.slot k.val).next = some p) ∨
      (c.grid i < 0x10 ∧ (s.latPts (gridTable c.group (c.grid i))).head? = some p ∧ p.n = (s.slot k.val).next) ∨
      (c.grid i < 0x10 ∧ ∃ q f due, (s.latPts (gridTable c.group (c.grid i))).head? = some q ∧
        q.n + 1 = (s.slot k.val).next ∧ s.stepFreq c.group q.tau false = some (f, due) ∧
        p = { n := q.n + 1, k := q.k + 1, tau := q.tau + latticeStep (cycleSize (c.grid i)) f, due := due }) →
    resample (resp (c.response i)) (s.slot k.val) p.tau = some (v, tl) →
    Answers (.gridSampleCompute dt k) s (fun t =>
      (t.slot k.val).next = p.n + 1 ∧
      (∃ o, (t.slot k.val).outs = (o :: (s.slot k.val).outs).take 256 ∧ o.n = p.n ∧ o.tau = p.tau ∧ o.value = v ∧
        o.mark = gridMark (resp (c.response i)) (s.slot k.val) tl) ∧
      (∀ j, j ≠ k.val → t.slot j = s.slot j) ∧
      Changes [.cnd, .evt, .log, .once, .out, .pln, .prf, .regs, .svi, .time] s t)) ∧
  (∀ (dt da db : Nat) (g : Fin 64) (a b : EstStep) (s : State), s.cnd.s0.isSome = true → s.groupOn g.val = true →
    1 ≤ s.sourceCount g.val → s.estSource g.val (s.group g.val).m 0 (s.group g.val).src0 = some (a, da) →
    (if 2 ≤ s.sourceCount g.val then s.estSource g.val (s.group g.val).m 1 (s.group g.val).src1 = some (b, db)
      else b = { est := {}, slew := false, clamp := false } ∧ db = 0) →
    Answers (.freqEstimate dt g) s (fun t =>
      (t.group g.val).m = (s.group g.val).m + 1 ∧ (t.group g.val).src0 = a.est ∧ (t.group g.val).src1 = b.est ∧
      (t.group g.val).hist = ({ m := (s.group g.val).m, freq := (t.group g.val).freq, due := max da db } ::
        (s.group g.val).hist).take 1024 ∧
      (12 ≤ a.est.run → (t.group g.val).freq = (dScaleRound (a.est.f.getD 0) 24).toNat ∧
        (t.group g.val).valid = true ∧ (t.group g.val).source = 1) ∧
      (a.est.run < 12 → 2 ≤ s.sourceCount g.val → 12 ≤ b.est.run →
        (t.group g.val).freq = (dScaleRound (b.est.f.getD 0) 24).toNat ∧
        (t.group g.val).valid = true ∧ (t.group g.val).source = 2) ∧
      (a.est.run < 12 → (s.sourceCount g.val < 2 ∨ b.est.run < 12) → (t.group g.val).valid = false ∧
        (t.group g.val).source = 0 ∧
        (t.group g.val).freq = (if (s.group g.val).was then (s.group g.val).freq else s.nominalF g.val) ∧
        (t.group g.val).held = (s.group g.val).was) ∧
      (∀ j, j ≠ g.val → t.group j = s.group j) ∧ Changes [.cnd, .regs, .evt, .time, .log] s t))

/-- Chain syncs. CHAIN_SYNC waits for a second boundary, or with LOCAL for the next frame tick, or applies at once while no
frames run; at its S0 the chain restarts and CHAIN_SYNC's event rises. An armed module takes the SYNC line's fall near a
second boundary and rejects any other (R104, R212, R213, R214). -/
def Obligations.ChainSyncsRestartTheChain : Prop :=
  (∀ (dt : Nat) (s : State), s.Ready cndCmdReg → s.syncMode = true → s.img.loaded = true →
    Answers (.chainSync dt 0 0) s (fun t =>
      t.Runs cndCmdReg 1 0 ∧
      t.cnd.pend = s.cnd.pend ++ [{ s0 := syncSecond (s.elapse dt).now, byCmd := true, local_ := false }] ∧
      ((s.rd 0x40000C).getLsbD 0 = true → t.cnd.drive = true ∧ t.out = s.out ++ [.syncLine true]) ∧
      ((s.rd 0x40000C).getLsbD 0 = false → t.cnd.drive = s.cnd.drive ∧ t.out = s.out) ∧
      Changes [.cnd, .cmds, .out, .time, .log] s t) ∧
    (s.kpr.frames = true → Answers (.chainSync dt 0 1) s (fun t =>
      t.Runs cndCmdReg 1 1 ∧
      t.cnd = { s.cnd with
        pend := s.cnd.pend ++
        [{ s0 := tickTime (tickAfter (s.elapse dt).now s.frameRate) s.frameRate, byCmd := true, local_ := true }] } ∧
      Changes [.cnd, .cmds, .time, .log] s t)) ∧
    (s.kpr.frames = false → s.cnd.pend = [] → Answers (.chainSync dt 0 1) s (fun t =>
      t.IsDone cndCmdReg 1 ∧ t.cnd.s0 = some (s.elapse dt).now ∧ t.cnd.pend = [] ∧ t.evSet 384 = true ∧
      Changes [.cmds, .cnd, .evt, .kpr, .log, .out, .pln, .regs, .time] s t))) ∧
  (∀ (dt : Nat) (p : SyncPend) (s : State), earliestSync s.cnd.pend = some p → p.s0 ≤ (s.elapse dt).now →
    s.syncMode = true → Answers (.syncDone dt) s (fun t =>
      t.cnd.s0 = some p.s0 ∧ t.cnd.lastS0 = p.s0 ∧ t.cnd.afterStep = false ∧
      t.cnd.pend = s.cnd.pend.filter (fun x => decide (x.s0 ≠ p.s0)) ∧
      (∀ c ∈ s.slotsUsed, (t.slot c).syncAt = some p.s0) ∧ t.kpr.synced = true ∧ t.evSet 384 = true ∧
      (p.byCmd = true → (t.cmd cndCmdReg).status = 2 ∧ (t.cmd cndCmdReg).pending = false) ∧
      Changes [.cmds, .cnd, .evt, .kpr, .log, .out, .pln, .regs, .time] s t)) ∧
  (∀ (dt : Nat) (s : State),
    (((s.rd 0x40000C).getLsbD 1 = true ∧ s.syncMode = true) → Answers (.syncLineRise dt) s (fun t =>
      t.cnd = { s.cnd with line := true, armed := some (s.elapse dt).time.mono } ∧ t.evSet 385 = true ∧
      Changes [.cnd, .regs, .evt, .time, .log] s t)) ∧
    (((s.rd 0x40000C).getLsbD 1 = false ∨ s.syncMode = false) → Answers (.syncLineRise dt) s (fun t =>
      t.cnd = { s.cnd with line := true } ∧ Changes [.cnd, .time, .log] s t)) ∧
    (s.cnd.armed = none → Answers (.syncLineFall dt) s (fun t =>
      t.cnd = { s.cnd with line := false } ∧ Changes [.cnd, .time, .log] s t)) ∧
    (∀ t0, s.cnd.armed = some t0 →
      ((s.elapse dt).time.mono < t0 + 100 * msUnit ∨
        (msUnit < (s.elapse dt).now % secUnit ∧ msUnit < secUnit - (s.elapse dt).now % secUnit)) →
      Answers (.syncLineFall dt) s (fun t =>
        t.cnd = { s.cnd with line := false, armed := none } ∧ Changes [.cnd, .time, .log] s t)) ∧
    (∀ t0, s.cnd.armed = some t0 → t0 + 100 * msUnit ≤ (s.elapse dt).time.mono →
      msUnit < (s.elapse dt).now % secUnit → secUnit - (s.elapse dt).now % secUnit ≤ msUnit →
      Answers (.syncLineFall dt) s (fun t =>
        t.cnd = { s.cnd with
          line := false, armed := none,
          pend := s.cnd.pend ++
            [{ s0 := ((s.elapse dt).now / secUnit + 1) * secUnit, byCmd := false, local_ := true }] } ∧
        Changes [.cnd, .time, .log] s t)) ∧
    (∀ t0, s.cnd.armed = some t0 → t0 + 100 * msUnit ≤ (s.elapse dt).time.mono →
      (s.elapse dt).now % secUnit ≤ msUnit → s.syncMode = true →
      s.cnd.s0 ≠ some ((s.elapse dt).now / secUnit * secUnit) →
      s.cnd.lastIn < (s.elapse dt).now / secUnit * secUnit → Answers (.syncLineFall dt) s (fun t =>
        t.cnd.line = false ∧ t.cnd.armed = none ∧ t.cnd.s0 = some ((s.elapse dt).now / secUnit * secUnit) ∧
        t.evSet 384 = true)))

/-- Errors of the chain and the sample plane. An uncorrectable slot error or a failed self-check of the chain and an
uncorrectable error outside the plane's rings fault the module; one in a ring entry is shown, counted and noted, and the
entry reads INVALID. A scrub pass ends its command. The background scrub counts the single-bit errors it corrects, and the
count stays at 0xFFFF_FFFF once it has reached it (R216, R234, R236). -/
def Obligations.PlaneErrorsAndScrubs : Prop :=
  (∀ (dt : Nat) (ecc : Bool) (s : State),
    (s.faultMode = true → Answers (.chainFault dt ecc) s (Entered .degraded (if ecc then 0x0E else 0x19) s)) ∧
    (s.faultMode = false → Answers (.chainFault dt ecc) s (fun t =>
      t.evSet 389 = true ∧ Changes [.regs, .evt, .time, .log] s t))) ∧
  (∀ (dt : Nat) (a : Fin 67108864) (s : State),
    (ringOfAddr a.val ≠ 0 → Answers (.eccUncorr dt a) s (fun t =>
      t.pln = { s.pln with eccAddr := a.val, poison := insNat s.pln.poison a.val } ∧
      t.rd 0x500018 = satInc (s.rd 0x500018) ∧ t.evSet 24 = true ∧ Changes [.pln, .regs, .evt, .time, .log] s t)) ∧
    (ringOfAddr a.val = 0 → s.faultMode = true →
      Answers (.eccUncorr dt a) s (Entered .degraded 0x0E s)) ∧
    (ringOfAddr a.val = 0 → s.faultMode = false →
      Answers (.eccUncorr dt a) s (Changes [.time, .log] s))) ∧
  (∀ (dt : Nat) (s : State),
    (s.Ready plnCmdReg → s.afterBoot = true → Answers (.scrub dt 0 0) s (fun t =>
      t.Runs plnCmdReg 1 0 ∧ t.pln = { s.pln with scrub := true } ∧ Changes [.pln, .cmds, .time, .log] s t)) ∧
    (s.pln.scrub = true → Answers (.scrubDone dt) s (fun t =>
      t.pln = { s.pln with scrub := false } ∧ t.IsDone plnCmdReg (s.cmd plnCmdReg).runCode ∧ t.evSet 27 = true ∧
      Changes [.pln, .cmds, .regs, .evt, .time, .log] s t))) ∧
  (∀ (dt n : Nat) (s : State), Answers (.backgroundScrub dt n) s (fun t =>
    (t.rd 0x500014).toNat = min ((s.rd 0x500014).toNat + n) 0xFFFFFFFF ∧
    (∀ a, a ≠ 0x500014 → t.rd a = s.rd a) ∧ Changes [.regs, .time, .log] s t))

/-- Publications and the lantern. A repeat that is due goes out with the next sqNum and the next interval, and a message
that its key slot refuses is counted. Without frames the lantern goes out every millisecond. The partner's lantern reaches
the pair unit when it is valid, two ACTIVE modules note each other, and its time runs out (R287, R288, R289, R295, R296,
R323, R324). -/
def Obligations.PublicationsAndLantern : Prop :=
  (∀ (dt : Nat) (p : Fin 1024) (s : State), s.pubSends = true → s.pubList.contains p.val = true →
    (s.elapse dt).pubDue p.val = true → Answers (.pubRepeatDue dt p) s (fun t =>
      (t.pubSt p.val).stNum = (s.pubSt p.val).stNum ∧ (t.pubSt p.val).sqNum = pubInc (s.pubSt p.val).sqNum ∧
      (t.pubSt p.val).rep = min 40 ((s.pubSt p.val).rep + 1) ∧
      (t.pubSt p.val).due = some ((s.pubSt p.val).due.getD 0 +
        pubInterval (s.pubBody p.val) (min 40 ((s.pubSt p.val).rep + 1))) ∧
      (∀ q, q ≠ p.val → t.pubSt q = s.pubSt q) ∧ p.val ∈ t.pub.touched ∧
      (s.canSign (s.pubBody p.val) = false → t.rd 0x700024 = satInc (s.rd 0x700024) ∧ t.evSet 513 = true ∧
        t.rdg = s.rdg) ∧
      Changes [.evt, .log, .once, .out, .ports, .prf, .pub, .rdg, .regs, .time] s t)) ∧
  (∀ (dt p : Nat) (s : State), s.kpr.frames = false → s.lanternId = some p → s.afterBoot = true →
    s.img.loaded = true → s.pub.lanternStop = false → Answers (.lanternTimer dt) s (fun t =>
      t.pub.lantern = true ∧ t.pub.lanKey = s.lanternKey ∧
      (s.pub.lanKey = s.lanternKey → (t.pubSt p).stNum = (s.pubSt p).stNum ∧
        (t.pubSt p).sqNum = pubInc (s.pubSt p).sqNum) ∧
      (s.pub.lanKey ≠ s.lanternKey → (t.pubSt p).stNum = pubInc (s.pubSt p).stNum ∧ (t.pubSt p).sqNum = 0) ∧
      (∀ q, q ≠ p → t.pubSt q = s.pubSt q) ∧
      Changes [.evt, .log, .once, .out, .ports, .prf, .pub, .rdg, .regs, .time] s t)) ∧
  (∀ (dt : Nat) (s : State), s.kpr.frames = true →
    Answers (.lanternTimer dt) s (Changes [.time, .log] s)) ∧
  (∀ (dt : Nat) (m : LanternMsg) (s : State), s.img.loaded = true →
    (m.wellFormed = false → Answers (.peerLanternRx dt m) s (fun t =>
      t.rd 0x70002C = satInc (s.rd 0x70002C) ∧ Changes [.regs, .time, .log] s t)) ∧
    (∀ p, m.wellFormed = true → s.lanternId = some p →
      (m.dst ≠ beAt (s.pubBody p) 0 6 ∨ m.appid ≠ leAt (s.pubBody p) 6 2 →
        Answers (.peerLanternRx dt m) s (fun t =>
          t.rd 0x700028 = satInc (s.rd 0x700028) ∧ Changes [.regs, .evt, .once, .time, .log] s t)) ∧
      (m.dst = beAt (s.pubBody p) 0 6 → m.appid = leAt (s.pubBody p) 6 2 →
        (m.suffix = s.glb.moduleId → Answers (.peerLanternRx dt m) s (Changes [.time, .log] s)) ∧
        (m.suffix ≠ s.glb.moduleId → s.single = false → m.suffix = s.partnerId →
          (byteAt (s.pubBody p) 0x0C ≠ 0 → m.tag = none → Answers (.peerLanternRx dt m) s (fun t =>
            t.rd 0x700038 = satInc (s.rd 0x700038) ∧ Changes [.regs, .time, .log] s t)) ∧
          ((byteAt (s.pubBody p) 0x0C = 0 ∨ ∃ g, m.tag = some g ∧ g.alg = byteAt (s.pubBody p) 0x0C ∧
              s.tagUsable g.keyId (leAt (s.pubBody p) 0x22 2) 0xFFFF g.alg = true ∧ g.valid = true) →
            Answers (.peerLanternRx dt m) s (fun t =>
              t.pair.lanPresent = true ∧ t.pair.lanId = m.suffix ∧ t.pair.lanMode = m.mode % 8 ∧
              t.pair.lanCount = m.count ∧ t.pair.lanUntil = (s.elapse dt).time.mono + m.ttl * msUnit ∧
              t.pair.heard = (s.elapse dt).time.mono ∧ t.pair.absent = false ∧ t.pair.rxCount = m.count ∧
              (s.glb.mode = .active → m.mode = 4 → t.evSet 583 = true ∧ t.pair.count = s.pair.count ∧
                ((s.pair.count < m.count ∨ (m.count = s.pair.count ∧ s.isPreferred = false)) →
                  t.pair.stand = some m.count)) ∧
              (s.glb.mode ≠ .active → t.pair.count = max s.pair.count m.count) ∧
              Changes [.pair, .regs, .evt, .time, .log] s t)))))) ∧
  (∀ (dt : Nat) (s : State), s.pair.lanPresent = true → s.pair.lanUntil ≤ (s.elapse dt).time.mono →
    Answers (.peerLanternLost dt) s (fun t =>
      t.pair.lanPresent = false ∧ t.evSet 518 = true ∧ Changes [.pair, .regs, .evt, .time, .log] s t))

/-- Subscriptions. A message that passes the checks is accepted once, counted, and writes the signals that the
subscription maps; one of another confRev or shape, or of a simulation that is not accepted, is counted and refused. Past
its time the subscription times out and its signals read INVALID, and a restart at its target tick makes them
NOT_RECEIVED (R298, R299, R303). -/
def Obligations.SubscriptionsFollowTheirMessages : Prop :=
  (∀ (dt : Nat) (m : GooseMsg) (s : State), s.img.loaded = true →
    (m.wellFormed = false → Answers (.gooseRx dt m) s (fun t =>
      t.rd 0x70002C = satInc (s.rd 0x70002C) ∧ Changes [.regs, .time, .log] s t)) ∧
    (m.wellFormed = true → s.subMatch m = none → Answers (.gooseRx dt m) s (fun t =>
      t.rd 0x700028 = satInc (s.rd 0x700028) ∧ Changes [.regs, .evt, .once, .time, .log] s t)) ∧
    (∀ c i, m.wellFormed = true → s.subMatch m = some c → subIndex c = i →
      (m.sim = true → m.edition = 2 → (s.glb.mode ≠ .test ∨ c.fieldAt 0x0C 1 / 2 % 2 = 0) →
        Answers (.gooseRx dt m) s (fun t =>
          t.rd (0x730000 + 0x10 * i + 4) = satInc (s.rd (0x730000 + 0x10 * i + 4)) ∧
          Changes [.regs, .time, .log] s t)) ∧
      (m.sim = false → (s.sub i).sim = false → c.fieldAt 0x0B 1 = 0 →
        (m.confRev ≠ c.fieldAt 0x10 4 → Answers (.gooseRx dt m) s (fun t =>
          t.rd (0x730000 + 0x10 * i + 4) = satInc (s.rd (0x730000 + 0x10 * i + 4)) ∧ (t.sub i).confSeen = true ∧
          ((s.sub i).confSeen = false → t.evSet 516 = true) ∧ t.pln = s.pln ∧
          Changes [.pub, .regs, .evt, .time, .log] s t)) ∧
        (∀ vals, m.confRev = c.fieldAt 0x10 4 → m.entries = c.fieldAt 0x0E 2 → m.data.length = m.entries →
          subValues m (subMaps c) = some vals → (s.sub i).pair ≠ some (m.stNum, m.sqNum) →
          Answers (.gooseRx dt m) s (fun t =>
            (t.sub i).pair = some (m.stNum, m.sqNum) ∧ (t.sub i).vals = vals ∧ (t.sub i).timedOut = false ∧
            (t.sub i).until_ = (s.elapse dt).time.mono - m.ago + m.ttl * msUnit ∧ (t.sub i).confSeen = false ∧
            t.rd (0x730000 + 0x10 * i) = satInc (s.rd (0x730000 + 0x10 * i)) ∧
            (((subMaps c).map (·.1)).Nodup → ∀ e ∈ (subMaps c).zip vals, e.1.1 < 16384 →
              t.sigVal e.1.1 = e.2.value) ∧
            (∀ b, b ∉ (subMaps c).map (·.1) → t.sigVal b = s.sigVal b) ∧
            (∀ j, j ≠ i → t.sub j = s.sub j) ∧ Changes [.pub, .pln, .regs, .time, .log] s t))))) ∧
  (∀ (dt : Nat) (i : Fin 4096) (c : StreamCfg) (s : State), s.subCfg i.val = some c →
    (s.sub i.val).pair.isSome = true → (s.sub i.val).timedOut = false →
    (s.sub i.val).until_ ≤ (s.elapse dt).time.mono → Answers (.subTimeout dt i) s (fun t =>
      (t.sub i.val) = { s.sub i.val with timedOut := true } ∧ t.evSet 514 = true ∧
      t.rd (0x730000 + 0x10 * i.val + 8) = satInc (s.rd (0x730000 + 0x10 * i.val + 8)) ∧
      (∀ e ∈ (subMaps c).zip (s.sub i.val).vals, e.1.1 < 16384 → t.sigQual e.1.1 = 2) ∧
      (∀ j, j ≠ i.val → t.sub j = s.sub j) ∧ Changes [.pub, .pln, .regs, .evt, .time, .log] s t)) ∧
  (∀ (dt n : Nat) (arg : BitVec 16) (c : StreamCfg) (s : State), s.Ready pubCmdReg →
    (s.elapse dt).targetTick 0x70001C 0x700020 = some n → arg.toNat < 4096 → s.subCfg arg.toNat = some c →
    s.inFrames = true → s.kpr.frames = true → Answers (.subRestart dt 0 arg) s (fun t =>
      t.Runs pubCmdReg 1 arg.toNat ∧ t.pub = { s.pub with wait := some (arg.toNat, n) } ∧
      Changes [.pub, .cmds, .time, .log] s t)) ∧
  (∀ (dt i n : Nat) (c : StreamCfg) (s : State), s.pub.wait = some (i, n) → s.subCfg i = some c →
    Answers (.subRestartApply dt) s (fun t =>
      t.pub.wait = none ∧ t.sub i = { sim := (s.sub i).sim } ∧
      (∀ e ∈ subMaps c, e.1 < 16384 → t.sigVal e.1 = false ∧ t.sigQual e.1 = 1) ∧
      (∀ j, j ≠ i → t.sub j = s.sub j) ∧ (t.cmd pubCmdReg).status = 2 ∧ (t.cmd pubCmdReg).pending = false ∧
      t.evSet 520 = true ∧ Changes [.pub, .pln, .cmds, .regs, .evt, .time, .log] s t))

/-- The link to the partner. FOGs go out on both paths with the module's slot, mode, flags and counts, a received FOG gives
the partner's state, a missed slot and a lane without training take a path down, and five slots missed on both lose the
fog signals. A message that fails its check is counted. Without FOG and lantern for 100 ms the partner is ABSENT
(R308, R309, R310, R312, R313, R314, R315, R323). -/
def Obligations.FogsAndPathsShowThePartner : Prop :=
  (∀ (dt : Nat) (s : State), s.pairOn = true → Answers (.fogTx dt) s (fun t =>
    t.out = s.out ++ s.bregOut 1 (s.elapse dt).fogSlot.2 (leBytes (s.elapse dt).fogSlot.1 1 ++
      leBytes (modeNum s.glb.mode) 1 ++ leBytes s.fogFlags 2 ++ leBytes s.pair.count 4 ++
      leBytes s.pair.lastCommit 4 ++ leBytes (s.cnd.lastS0 / secUnit) 4) ∧
    t.pair.fogStart = some (s.pair.fogStart.getD (s.elapse dt).time.mono) ∧
    t.pair.pathA.seq = (s.pair.pathA.seq + 1) % 2 ^ 32 ∧ t.pair.pathB.seq = (s.pair.pathB.seq + 1) % 2 ^ 32 ∧
    Changes [.pair, .out, .time, .log] s t)) ∧
  (∀ (dt frame : Nat) (p : Fin 2) (m b : List Byte) (s : State), s.BregIn 1 m frame b →
    Answers (.fogRx dt p m) s (fun t =>
      t.pair.alive = true ∧ t.pair.fog = fogOf frame b ∧ t.pair.heard = (s.elapse dt).time.mono ∧
      t.pair.absent = false ∧ t.pair.rxCount = (fogOf frame b).count ∧ t.partner = (if s.single then 0 else 1) ∧
      t.pair.count = (if s.glb.mode = .active then s.pair.count else max s.pair.count (fogOf frame b).count) ∧
      ((s.elapse dt).fogNear (fogOf frame b) 2000 = true → (t.path p.val).miss = 0 ∧
        (t.path p.val).good = min 8 ((s.path p.val).good + 1) ∧
        (7 ≤ (s.path p.val).good → ((s.path p.val).lane1 = true ∨ (s.path p.val).lane2 = true) →
          (t.path p.val).up = true)) ∧
      ((s.elapse dt).fogNear (fogOf frame b) 2000 = false → (t.path p.val).lock = 0 ∧
        (t.path p.val).miss = (s.path p.val).miss) ∧
      Changes [.cmds, .cnd, .evt, .pair, .regs, .time, .log] s t)) ∧
  (∀ (dt : Nat) (p : Fin 2) (m : List Byte) (c : Instr) (s : State), s.pairOn = true → s.bregOk m = false →
    c ∈ [.fogRx dt p m, .yieldRx dt m, .digestRx dt m, .pubMirrorRx dt m, .ctrlReqRx dt m, .ctrlGrantRx dt m,
      .ctrlConfirmRx dt m, .ctrlAbortRx dt m] →
    Answers c s (fun t => t.rd 0x80005C = satInc (s.rd 0x80005C) ∧ Changes [.pair, .regs, .time, .log] s t)) ∧
  (∀ (dt : Nat) (p : Fin 2) (s : State), s.pairOn = true → Answers (.fogSlotMiss dt p) s (fun t =>
    t.rd (0x800048 + 4 * p.val) = satInc (s.rd (0x800048 + 4 * p.val)) ∧
    (t.path p.val).good = 0 ∧ (t.path p.val).lock = 0 ∧
    (t.path p.val).miss = min 15 ((s.path p.val).miss + 1) ∧
    (4 ≤ (s.path p.val).miss → (t.path p.val).up = false) ∧ t.path (1 - p.val) = s.path (1 - p.val) ∧
    (s.pair.alive = true → 4 ≤ (s.path p.val).miss → 5 ≤ (s.path (1 - p.val)).miss →
      t.pair.alive = false ∧ t.evSet 580 = true) ∧
    (((s.path p.val).miss < 4 ∨ (s.path (1 - p.val)).miss < 5) → t.pair.alive = s.pair.alive) ∧
    Changes [.cmds, .evt, .pair, .regs, .time, .log] s t)) ∧
  (∀ (dt : Nat) (p lane : Fin 2) (trained : Bool) (s : State), Answers (.bregLaneChange dt p lane trained) s (fun t =>
    (t.path p.val).lane1 = (if lane.val = 0 then trained else (s.path p.val).lane1) ∧
    (t.path p.val).lane2 = (if lane.val = 0 then (s.path p.val).lane2 else trained) ∧
    ((t.path p.val).lane1 = false → (t.path p.val).lane2 = false →
      (t.path p.val).up = false ∧ (t.path p.val).good = 0) ∧
    (((t.path p.val).lane1 = true ∨ (t.path p.val).lane2 = true) → (t.path p.val).up = (s.path p.val).up) ∧
    t.path (1 - p.val) = s.path (1 - p.val) ∧ Changes [.cmds, .evt, .pair, .regs, .time, .log] s t)) ∧
  (∀ (dt t0 : Nat) (s : State), s.pair.fogStart = some t0 → s.pair.alive = false → s.pair.lanPresent = false →
    max t0 s.pair.heard + 100 * msUnit ≤ (s.elapse dt).time.mono → Answers (.partnerAbsentTimeout dt) s (fun t =>
      t.pair = { s.pair with absent := true } ∧ t.partner = 0 ∧ Changes [.pair, .regs, .evt, .time, .log] s t))

/-- Taking control. A YIELD of an ACTIVE partner gives an eligible module its takeover point and any other raises
PARTNER_LOST; at that point the module becomes ACTIVE with the next takeover count. A lasting solo condition starts it
alone. DIGESTs are kept or compared, mirrored counters take the place of the module's own while it does not publish, and
the inhibit and DIVERGED follow their commands (R292, R318, R319, R321, R322, R323, R328, R333). -/
def Obligations.TakeoverDigestsAndMirror : Prop :=
  (∀ (dt frame : Nat) (m b : List Byte) (s : State), s.BregIn 4 m frame b →
    (s.pair.fog.mode = 4 ∨ s.partnerActive = true) → s.glb.mode ≠ .active → s.pair.take = false →
    (s.eligible = true → Answers (.yieldRx dt m) s (fun t =>
      t.pair = { s.pair with take := true } ∧ Changes [.pair, .time, .log] s t)) ∧
    (s.eligible = false → Answers (.yieldRx dt m) s (fun t =>
      t.evSet 579 = true ∧ Changes [.regs, .evt, .time, .log] s t))) ∧
  (∀ (dt : Nat) (s : State), s.pair.take = true →
    (s.eligible = true → Answers (.takeover dt) s (fun t =>
      Entered .active (if s.glb.mode = .test then 0x17 else 0x0A) s t ∧ t.pair.take = false ∧
      t.pair.count = (max s.pair.count s.pair.rxCount + 1) % 2 ^ 32 ∧ t.evSet 577 = true)) ∧
    (s.eligible = false → Answers (.takeover dt) s (fun t =>
      t.pair = { s.pair with take := false } ∧ t.evSet 579 = true ∧
      Changes [.pair, .regs, .evt, .time, .log] s t))) ∧
  (∀ (dt : Nat) (s : State) (t0 : Nat), s.pair.solo = some t0 → s.soloCond = true → s.glb.inTransition = false →
    t0 + leAt s.pp 0x0A 2 * secUnit ≤ (s.elapse dt).time.mono →
    (s.kpr.frames = true → Answers (.soloWaitExpiry dt) s (fun t =>
      t.pair = { s.pair with solo := none, soloDue := true } ∧ t.glb = { s.glb with inTransition := true } ∧
      Changes [.pair, .glb, .time, .log] s t)) ∧
    (s.kpr.frames = false → Answers (.soloWaitExpiry dt) s (fun t =>
      Entered .active 0x0C s t ∧ t.pair.soloDue = false ∧
      t.pair.count = (max s.pair.count s.pair.rxCount + 1) % 2 ^ 32))) ∧
  (∀ (dt frame : Nat) (m b : List Byte) (s : State), s.BregIn 2 m frame b →
    ((∀ o ∈ s.pair.own, o.frame ≠ frame) → (∀ d ∈ s.pair.peer, d.frame ≠ frame) → Answers (.digestRx dt m) s (fun t =>
      t.pair.peer = (digestOf frame b :: s.pair.peer).take 8 ∧ t.pair.own = s.pair.own ∧
      t.pair.peerGen = some (digestOf frame b).gen ∧ Changes [.pair, .time, .log] s t)) ∧
    (∀ o, s.pair.own = [o] → o.frame = frame →
      (o.digest = (digestOf frame b).digest → Answers (.digestRx dt m) s (fun t =>
        t.pair.own = [] ∧ t.pair.cmpFrame = frame ∧ t.pair.cmpOwn = o.digest ∧ t.pair.cmpPeer = o.digest ∧
        t.pair.consec = 0 ∧ t.pair.matchRun = min 4800 (s.pair.matchRun + 1) ∧
        t.pair.diverged = (s.pair.diverged && !(decide (4799 ≤ s.pair.matchRun) && decide (byteAt s.pp 0x0D = 0))) ∧
        Changes [.pair, .time, .log] s t)) ∧
      (o.digest ≠ (digestOf frame b).digest → o.explainsWith (digestOf frame b) = false →
        s.explained frame o (digestOf frame b) = false → s.pair.consec < 15 → Answers (.digestRx dt m) s (fun t =>
          t.pair.own = [] ∧ t.pair.matchRun = 0 ∧ t.pair.consec = s.pair.consec + 1 ∧
          t.pair.diverged = s.pair.diverged ∧ t.rd 0x800040 = satInc (s.rd 0x800040) ∧
          t.rd 0x800044 = satInc (s.rd 0x800044) ∧
          Changes [.pair, .regs, .evt, .once, .time, .log] s t)) ∧
      (o.digest ≠ (digestOf frame b).digest → o.explainsWith (digestOf frame b) = false →
        s.explained frame o (digestOf frame b) = false → 15 ≤ s.pair.consec → s.pair.diverged = false →
        (s.glb.mode = .active ∨ byteAt s.pp 0x0D = 0) → Answers (.digestRx dt m) s (fun t =>
          t.pair.diverged = true ∧ t.pair.consec = s.pair.consec + 1 ∧ t.evSet 586 = true ∧
          Changes [.pair, .regs, .evt, .once, .time, .log] s t)))) ∧
  (∀ (dt frame : Nat) (m b : List Byte) (s : State), s.BregIn 3 m frame b → leAt b 0 2 = 1 → b.length = 32 →
    Answers (.pubMirrorRx dt m) s (fun t =>
      tget t.pub.mirrors (leAt b 4 2) {} = mirrorOf b 4 ∧
      (s.pubSends = false → s.pubList.contains (leAt b 4 2) = true →
        (t.pubSt (leAt b 4 2)).stNum = (mirrorOf b 4).stNum ∧ (t.pubSt (leAt b 4 2)).sqNum = (mirrorOf b 4).sqNum ∧
        (t.pubSt (leAt b 4 2)).crc = some (mirrorOf b 4).crc ∧
        (t.pubSt (leAt b 4 2)).flags = (mirrorOf b 4).flags) ∧
      (s.pubSends = true → t.pub.pubs = s.pub.pubs) ∧
      (∀ q, q ≠ leAt b 4 2 → t.pubSt q = s.pubSt q) ∧ Changes [.pub, .time, .log] s t)) ∧
  (∀ (dt : Nat) (s : State), s.Ready pairCmdReg → s.img.loaded = true →
    (∀ arg : BitVec 16, arg.toNat ≤ 1 → Answers (.hbInhibit dt 0 arg) s (fun t =>
      t.IsDone pairCmdReg 3 ∧ t.pair.inhibit = decide (arg.toNat = 1) ∧ t.pair.diverged = s.pair.diverged ∧
      Changes [.pair, .cmds, .regs, .evt, .time, .log] s t)) ∧
    (s.pair.diverged = true → Answers (.divergeClear dt 0 0) s (fun t =>
      t.IsDone pairCmdReg 4 ∧ t.pair.diverged = false ∧ t.pair.consec = 0 ∧ t.pair.inhibit = s.pair.inhibit ∧
      Changes [.pair, .cmds, .regs, .evt, .time, .log] s t)))

/-- The exchange that moves control at an agreed frame. A request is granted where its conditions hold and refused
otherwise, a grant is confirmed, a confirmation in time is taken, an abort ends the exchange, and so does each deadline
that it misses. The preferred module asks when its hold has run or at a pair start, HANDBACK_NOW asks at once, and a BULK
message gives its frame to the ridge (R311, R326, R327, R333). -/
def Obligations.ControlExchangesFollowTheirMessages : Prop :=
  (∀ (dt frame : Nat) (m b : List Byte) (s : State), s.BregIn 5 m frame b →
    ((s.pair.ex = 0 ∨ (s.pair.ex = 1 ∧ s.glb.mode ≠ .active)) → s.kpr.frames = true →
      s.exCond (byteAt b 0) false = true → Answers (.ctrlReqRx dt m) s (fun t =>
        t.pair.ex = 2 ∧ t.pair.exKind = byteAt b 0 ∧ t.pair.exIni = false ∧ t.pair.exH = leAt b 4 4 ∧
        t.out = s.out ++ s.bregOut 6 s.frameNum (leBytes (leAt b 4 4) 4) ∧
        Changes [.pair, .out, .time, .log] s t)) ∧
    (s.pair.ex = 0 → (s.kpr.frames = false ∨ s.exCond (byteAt b 0) false = false) →
      Answers (.ctrlReqRx dt m) s (fun t =>
        t.pair.ex = 0 ∧ t.out = s.out ++ s.bregOut 8 s.frameNum (leBytes (leAt b 4 4) 4 ++ [1#8, 0#8, 0#8, 0#8]) ∧
        Changes [.pair, .out, .time, .log] s t)) ∧
    (2 ≤ s.pair.ex ∨ (s.pair.ex = 1 ∧ s.glb.mode = .active) →
      Answers (.ctrlReqRx dt m) s (Changes [.time, .log] s))) ∧
  (∀ (dt frame : Nat) (m b : List Byte) (s : State), s.BregIn 6 m frame b →
    (s.pair.ex = 1 → leAt b 0 4 = s.pair.exH → Answers (.ctrlGrantRx dt m) s (fun t =>
      t.pair.ex = 3 ∧ t.pair.exH = s.pair.exH ∧
      t.out = s.out ++ s.bregOut 7 s.frameNum (leBytes s.pair.exH 4) ∧ Changes [.pair, .out, .time, .log] s t)) ∧
    ((s.pair.ex ≠ 1 ∨ leAt b 0 4 ≠ s.pair.exH) → Answers (.ctrlGrantRx dt m) s (Changes [.time, .log] s))) ∧
  (∀ (dt frame : Nat) (m b : List Byte) (s : State), s.BregIn 7 m frame b → s.pair.ex = 2 →
    leAt b 0 4 = s.pair.exH → frameGe s.frameNum (frameBack s.pair.exH 8) = false →
    Answers (.ctrlConfirmRx dt m) s (fun t =>
      t.pair = { s.pair with ex := 3 } ∧ Changes [.pair, .time, .log] s t)) ∧
  (∀ (dt frame : Nat) (m b : List Byte) (s : State), s.BregIn 8 m frame b → s.pair.ex ≠ 0 →
    leAt b 0 4 = s.pair.exH → s.pair.exLeave = false → Answers (.ctrlAbortRx dt m) s (fun t =>
      t.pair.ex = 0 ∧ t.pair.hold = none ∧ t.evSet 588 = true ∧ t.glb.mode = s.glb.mode ∧
      (s.pair.exNow = true → (t.cmd pairCmdReg).status = 3 ∧ (t.cmd pairCmdReg).pending = false) ∧
      Changes [.pair, .cmds, .glb, .regs, .evt, .time, .log] s t)) ∧
  (∀ (dt : Nat) (s : State), s.pair.exLeave = false →
    (s.pair.ex = 1 → frameGe s.frameNum (frameBack s.pair.exH 8) = true → Answers (.ctrlDeadline dt) s (fun t =>
      t.pair.ex = 0 ∧ t.evSet 588 = true ∧ t.out = s.out)) ∧
    (s.pair.ex = 2 → frameGe s.frameNum (frameBack s.pair.exH 8) = true → Answers (.ctrlDeadline dt) s (fun t =>
      t.pair.ex = 0 ∧ t.evSet 588 = true ∧
      t.out = s.out ++ s.bregOut 8 s.frameNum (leBytes s.pair.exH 4 ++ [2#8, 0#8, 0#8, 0#8]))) ∧
    (s.pair.ex = 3 → frameGe (frameBack s.pair.exH 2) s.frameNum = true → s.exCond s.pair.exKind s.pair.exIni = false →
      Answers (.ctrlDeadline dt) s (fun t =>
        t.pair.ex = 0 ∧ t.evSet 588 = true ∧
        t.out = s.out ++ s.bregOut 8 s.frameNum (leBytes s.pair.exH 4 ++ [3#8, 0#8, 0#8, 0#8]))) ∧
    ((s.pair.ex = 0 ∨ (s.pair.ex ≤ 2 ∧ frameGe s.frameNum (frameBack s.pair.exH 8) = false)) →
      Answers (.ctrlDeadline dt) s (Changes [.time, .log] s))) ∧
  (∀ (dt : Nat) (s : State), s.pair.ex = 0 → s.kpr.frames = true →
    (∀ t0, s.pair.hold = some t0 → t0 + s.handbackHold * secUnit ≤ (s.elapse dt).time.mono → s.handbackInit = true →
      Answers (.handbackHoldExpiry dt) s (fun t =>
        t.pair.ex = 1 ∧ t.pair.exKind = 0 ∧ t.pair.exIni = true ∧ t.pair.exH = (s.frameNum + 16) % 2 ^ 32 ∧
        t.pair.hold = none ∧
        t.out = s.out ++ s.bregOut 5 s.frameNum ([0#8, 0#8, 0#8, 0#8] ++ leBytes t.pair.exH 4) ∧
        Changes [.pair, .out, .time, .log] s t)) ∧
    (s.startInit = true → Answers (.pairStartInitiate dt) s (fun t =>
      t.pair.ex = 1 ∧ t.pair.exKind = 2 ∧ t.pair.exIni = true ∧ t.pair.exH = (s.frameNum + 16) % 2 ^ 32 ∧
      t.out = s.out ++ s.bregOut 5 s.frameNum ([2#8, 0#8, 0#8, 0#8] ++ leBytes t.pair.exH 4) ∧
      Changes [.pair, .out, .time, .log] s t)) ∧
    (s.Ready pairCmdReg → s.handbackInit = true → Answers (.handbackNow dt 0 0) s (fun t =>
      t.Runs pairCmdReg 2 0 ∧ t.pair.ex = 1 ∧ t.pair.exKind = 0 ∧ t.pair.exNow = true ∧
      t.out = s.out ++ s.bregOut 5 s.frameNum ([0#8, 0#8, 0#8, 0#8] ++ leBytes t.pair.exH 4) ∧
      Changes [.pair, .out, .cmds, .time, .log] s t))) ∧
  (∀ (dt frame : Nat) (m b : List Byte) (f : Frame) (s : State), s.BregIn 0xC m frame b →
    (s.routeFrame 61 f 0 s.classEnd = none → Answers (.bulkRx dt m f) s (fun t =>
      t.rd (epCnt 61 7) = s.rd (epCnt 61 7) + 1 ∧ Changes [.regs, .time, .log] s t)) ∧
    (∀ x cls, s.routeFrame 61 f 0 s.classEnd = some ([x], cls, none) → 33 ≤ x → s.groupOf x = none →
      s.admits x cls (cellsOf f.octets) = true →
      Answers (.bulkRx dt m f) s (fun t =>
        t.rdg.queues = s.rdg.queues ++ [{ mkQ 61 x cls f (s.elapse dt).time.mono with
          epoch := tget s.rdg.epochs x 0 }])))

/-- Alignment from the partner. A module that may align asks on its own initiative or on ALIGN, the source plans where
step and generation agree and refuses otherwise, the requester takes the plan and its items, and at the tick of
ALIGN_FRAME it is ALIGNED when every item has cut over and fails otherwise (R329, R330, R333). -/
def Obligations.AlignmentRunsToItsFrame : Prop :=
  (∀ (dt : Nat) (s : State), s.alignMay = true → s.aligning = false →
    (s.kpr.frames = true → s.pair.fog.slot ≠ 0xFF → (s.pair.fog.mode = 4 ∨ s.isPreferred = false) →
      Answers (.alignInitiate dt) s (fun t =>
        t.pair.alWait = true ∧ t.out = s.out ++ s.bregOut 9 s.frameNum
          (leBytes (s.glbVersion % 65536) 2 ++ [0#8, 0#8] ++ leBytes s.runGen 4) ∧
        Changes [.pair, .out, .time, .log] s t)) ∧
    (s.Ready pairCmdReg → Answers (.align dt 0 0) s (fun t =>
      t.Runs pairCmdReg 1 0 ∧ t.pair.alWait = true ∧ t.out = s.out ++ s.bregOut 9 s.frameNum
        (leBytes (s.glbVersion % 65536) 2 ++ [0#8, 0#8] ++ leBytes s.runGen 4) ∧
      Changes [.pair, .out, .cmds, .time, .log] s t))) ∧
  (∀ (dt : Nat) (s : State), s.alignMay = true → s.aligning = true → s.Ready pairCmdReg →
    Answers (.align dt 0 0) s (fun t => t.Runs pairCmdReg 1 0 ∧ Changes [.cmds, .time, .log] s t)) ∧
  (∀ (dt frame lead : Nat) (span : Fin 4801) (m b : List Byte) (s : State), s.BregIn 9 m frame b →
    (s.alignIsSource = true → leAt b 0 2 = s.glbVersion % 65536 → leAt b 4 4 = s.runGen →
      Answers (.alignReqRx dt m lead span) s (fun t =>
        t.pair.al = 1 ∧ t.pair.alSource = true ∧ t.pair.alStart = (s.frameNum + 2 + lead) % 2 ^ 32 ∧
        t.pair.alFrame = (t.pair.alStart + max 1 span.val) % 2 ^ 32 ∧ t.pair.alLeft = s.itemCount ∧
        t.out = s.out ++ s.bregOut 0xA s.frameNum (leBytes t.pair.alStart 4 ++ leBytes t.pair.alFrame 4) ∧
        Changes [.pair, .out, .time, .log] s t)) ∧
    ((s.alignIsSource = false ∨ leAt b 0 2 ≠ s.glbVersion % 65536 ∨ leAt b 4 4 ≠ s.runGen) →
      Answers (.alignReqRx dt m lead span) s (fun t =>
        t.out = s.out ++ s.bregOut 8 s.frameNum (leBytes 0 4 ++ [1#8, 0#8, 0#8, 0#8]) ∧ t.pair.al = s.pair.al ∧
        Changes [.pair, .out, .time, .log] s t))) ∧
  (∀ (dt frame s0 : Nat) (m b : List Byte) (s : State), s.BregIn 0xA m frame b →
    (s.pair.alWait = true → Answers (.alignPlanRx dt m s0) s (fun t =>
      t.pair = { s.pair with
        alWait := false, al := 1, alSource := false, alStart := leAt b 0 4, alFrame := leAt b 4 4,
        alLeft := s.itemCount, alS0 := s0, items := [] } ∧ Changes [.pair, .time, .log] s t)) ∧
    (s.pair.alWait = false → Answers (.alignPlanRx dt m s0) s (Changes [.time, .log] s))) ∧
  (∀ (dt frame : Nat) (m b : List Byte) (item : AlignItem) (s : State), s.BregIn 0xB m frame b →
    (s.pair.al = 1 ∨ s.pair.al = 2) → s.pair.alSource = false →
    (∀ g, item = .estimator g → byteAt b 0 = 2 → Answers (.alignDataRx dt m item) s (fun t =>
      t.group (leAt b 2 2) = g ∧ t.pair.alLeft = s.pair.alLeft - 1 ∧
      (∀ j, j ≠ leAt b 2 2 → t.group j = s.group j) ∧ Changes [.pair, .cnd, .time, .log] s t)) ∧
    (∀ l ring, item = .lattice l ring → byteAt b 0 = 1 → Answers (.alignDataRx dt m item) s (fun t =>
      t.latPts (leAt b 2 2) = l.pts ∧ t.pair.alLeft = s.pair.alLeft - 1 ∧
      Changes [.pair, .cnd, .pln, .time, .log] s t)) ∧
    (∀ y h rings, item = .slot y h rings → byteAt b 0 = 0 →
      ((((s.slot (leAt b 2 2)).ins.head?.map (fun e => e.1)).getD 0 = itemInstant item →
        Answers (.alignDataRx dt m item) s (fun t =>
          t.slot (leAt b 2 2) = y ∧ t.pair.alLeft = s.pair.alLeft - 1 ∧
          (∀ j, j ≠ leAt b 2 2 → t.slot j = s.slot j) ∧ Changes [.pair, .cnd, .pln, .svi, .time, .log] s t)) ∧
       (((s.slot (leAt b 2 2)).ins.head?.map (fun e => e.1)).getD 0 < itemInstant item →
        Answers (.alignDataRx dt m item) s (fun t =>
          t.pair = { s.pair with items := s.pair.items ++ [(0, leAt b 2 2, leAt b 4 4, item)] } ∧
          Changes [.pair, .time, .log] s t)))) ∧
    (∀ k, (k = 3 ∧ (∃ x y i n, item = .function x y i n)) ∨ (k = 4 ∧ ∃ w h, item = .decisions w h) →
      byteAt b 0 = k → frameGe s.pair.lastCommit (leAt b 4 4) = false → Answers (.alignDataRx dt m item) s (fun t =>
        t.pair = { s.pair with
          items := s.pair.items ++ [(k, if k = 3 then leAt b 2 2 else 0, leAt b 4 4, item)] } ∧
        Changes [.pair, .time, .log] s t))) ∧
  (∀ (dt : Nat) (s : State), s.pair.al = 2 → frameGe s.frameNum s.pair.alFrame = true →
    (s.pair.alSource = true → Answers (.alignFrameReached dt) s (fun t =>
      t.pair.al = 3 ∧ Changes [.pair, .time, .log] s t)) ∧
    (s.pair.alSource = false → s.pair.alLeft = 0 → Answers (.alignFrameReached dt) s (fun t =>
      t.pair.al = 3 ∧ t.cnd = { s.cnd with aligned := true } ∧ t.pair.items = [] ∧
      (s.alignedNow = false → t.evSet 391 = true) ∧
      Changes [.pair, .cnd, .cmds, .regs, .evt, .time, .log] s t)) ∧
    (s.pair.alSource = false → s.pair.alLeft ≠ 0 → Answers (.alignFrameReached dt) s (fun t =>
      t.pair.al = 4 ∧ t.cnd = s.cnd ∧ t.pair.items = [] ∧ t.evSet 588 = true ∧
      Changes [.pair, .cmds, .regs, .evt, .time, .log] s t)))

/-- The lamp room's commands start a job and answer when it ends. In the modes and life-cycle states that allow key
commands GENERATE, IMPORT, UPDATE and CLEAR prepare a replacement or a clear, with the first failing check as their
result; ATTEST, READ_PUBLIC, READ_CERT, STORE_CERT and OPERATE prepare their output; PROVISION and DEPLOY move the life
cycle. A job that needs PF0's memory fails with 0x1C while the link is down (R337, R346, R347, R349, R352, R353, R354,
R355). -/
def Obligations.LampRoomCommandsStart : Prop :=
  ∀ (dt : Nat) (arg : BitVec 16) (buf : List Byte) (s : State), s.Ready lmpCmdReg → s.lmpAligned = true →
    (s.keyLegal = true → arg.toNat < 1024 → s.atomic arg.toNat = true →
      Answers (.generate dt 0 arg) s (fun t =>
        t.Runs lmpCmdReg 1 arg.toNat ∧ t.lmp.slots = s.lmp.slots ∧
        (∃ id mat, t.lmp.job = some
          { code := 1, slot := arg.toNat, kind := 1, keyId := id, typ := s.groupType arg.toNat, origin := 1, mat := mat }) ∧
        Changes [.lmp, .cmds, .time, .log] s t) ∧
      Answers (.lmpClear dt 0 arg) s (fun t =>
        t.Runs lmpCmdReg 4 arg.toNat ∧
        t.lmp = { s.lmp with job := some { code := 4, slot := arg.toNat, kind := 3 } } ∧
        Changes [.lmp, .cmds, .time, .log] s t)) ∧
    (∀ g r m, s.keyLegal = true → arg.toNat % 32768 < 1024 → s.atomic (arg.toNat % 1024) = true →
      s.keyGroup (arg.toNat % 1024) = some g → s.kpField g 7 1 % 2 = 0 → (32768 ≤ arg.toNat ∨ s.lmp.life = 2) →
      s.importMat (arg.toNat % 1024) (decide (32768 ≤ arg.toNat)) (s.lmpArg buf) = (r, m) →
      Answers (.lmpImport dt 0 arg buf) s (fun t =>
        t.Runs lmpCmdReg 2 arg.toNat ∧
        (∃ j, t.lmp = { s.lmp with job := some j } ∧ j.code = 2 ∧ j.slot = arg.toNat % 1024 ∧
          (s.hst.gen = 0 → j.kind = 0 ∧ j.result = 0x1C) ∧
          (s.hst.gen ≠ 0 → r ≠ 1 → j.kind = 0 ∧ j.result = r) ∧
          (s.hst.gen ≠ 0 → r = 1 → j.kind = 1 ∧ j.keyId = leAt (s.lmpArg buf) 0 4 ∧
            j.typ = s.groupType (arg.toNat % 1024) ∧ j.origin = (if 32768 ≤ arg.toNat then 2 else 3) ∧ j.mat = m)) ∧
        Changes [.lmp, .cmds, .time, .log] s t)) ∧
    (∀ r m, s.updateLegal (s.lmpArg buf) = true → s.updateCheck (s.lmpArg buf) = (r, m) →
      Answers (.lmpUpdate dt 0 0 buf) s (fun t =>
        t.Runs lmpCmdReg 3 0 ∧ (∃ j, t.lmp = { s.lmp with job := some j } ∧ j.code = 3 ∧
          (s.hst.gen = 0 → j.kind = 0 ∧ j.result = 0x1C) ∧
          (s.hst.gen ≠ 0 → r ≠ 1 → j.kind = 0 ∧ j.result = r) ∧
          (s.hst.gen ≠ 0 → r = 1 → j.counter = leAt (s.lmpArg buf) 0x0C 4 ∧
            (byteAt (s.lmpArg buf) 6 = 1 → j.kind = 2 ∧ j.slot = leAt (s.lmpArg buf) 0x0A 2 ∧ j.mat = m) ∧
            (byteAt (s.lmpArg buf) 6 = 2 → j.kind = 3 ∧ j.slot = leAt (s.lmpArg buf) 0x0A 2) ∧
            (3 ≤ byteAt (s.lmpArg buf) 6 → j.kind = 4 ∧ j.life = byteAt (s.lmpArg buf) 6))) ∧
        Changes [.lmp, .cmds, .time, .log] s t)) ∧
    (arg.toNat < 1024 → s.viewLegal arg.toNat = true →
      (s.lmpFits 280 = true → Answers (.attest dt 0 arg buf) s (fun t =>
        t.Runs lmpCmdReg 5 arg.toNat ∧ (∃ j, t.lmp = { s.lmp with job := some j } ∧ j.code = 5 ∧
          (s.hst.gen = 0 → j.result = 0x1C) ∧
          (s.hst.gen ≠ 0 → (s.keyView arg.toNat).ok = false → j.result = 0x18) ∧
          (s.hst.gen ≠ 0 → (s.keyView arg.toNat).ok = true →
            j.out = (s.elapse dt).attestation arg.toNat (s.lmpArg buf))) ∧
        Changes [.lmp, .cmds, .time, .log] s t)) ∧
      (s.lmpFits 104 = true → Answers (.readPublic dt 0 arg) s (fun t =>
        t.Runs lmpCmdReg 6 arg.toNat ∧ (∃ j, t.lmp = { s.lmp with job := some j } ∧ j.code = 6 ∧
          ((s.keyView arg.toNat).ok = false → j.result = 0x18) ∧
          ((s.keyView arg.toNat).ok = true → j.out = leBytes (s.keyView arg.toNat).keyId 4 ++
            leBytes (s.keyView arg.toNat).typ 1 ++ [0#8, 0#8, 0#8] ++ padTo (s.keyView arg.toNat).pub 96)) ∧
        Changes [.lmp, .cmds, .time, .log] s t))) ∧
    (arg.toNat < 16 → s.afterStage 3 = true → s.lmpFits (tget s.lmp.certs arg.toNat {}).der.length = true →
      Answers (.readCert dt 0 arg) s (fun t =>
        t.Runs lmpCmdReg 7 arg.toNat ∧
        t.lmp = { s.lmp with job := some { code := 7, slot := 0, out := (tget s.lmp.certs arg.toNat {}).der } } ∧
        Changes [.lmp, .cmds, .time, .log] s t)) ∧
    (∀ slot pub, s.keyLegal = true → 2 ≤ arg.toNat → arg.toNat < 16 → slot = leAt (s.lmpArg buf) 0 2 → slot < 1024 →
      pub = pubOf (s.key slot).typ (s.key slot).usage (s.key slot).cur.mat → s.keyUsable slot 4 = true →
      (List.range pub.length).map (Config.certKey ((s.lmpArg buf).drop 4)) = pub →
      Answers (.storeCert dt 0 arg buf) s (fun t =>
        t.Runs lmpCmdReg 8 arg.toNat ∧
        (∃ j, t.lmp = { s.lmp with job := some j } ∧ j.code = 8 ∧ j.slot = slot ∧
          (s.hst.gen = 0 → j.result = 0x1C) ∧
          (s.hst.gen ≠ 0 → j.result = 1 ∧
            j.cert = some (arg.toNat, { der := (s.lmpArg buf).drop 4, slot := slot }))) ∧
        Changes [.lmp, .cmds, .time, .log] s t)) ∧
    (∀ op slot inLen auxLen, s.keyLegal = true → op = byteAt (s.lmpArg buf) 0 → slot = leAt (s.lmpArg buf) 2 2 →
      inLen = leAt (s.lmpArg buf) 4 4 → auxLen = leAt (s.lmpArg buf) 8 2 → slot < 1024 →
      s.lmpFits (operateLen op (s.key slot).typ inLen) = true → Answers (.operate dt 0 0 buf) s (fun t =>
        t.Runs lmpCmdReg 9 0 ∧ (∃ j, t.lmp = { s.lmp with job := some j } ∧ j.code = 9 ∧ j.slot = slot ∧
          (s.hst.gen = 0 → j.result = 0x1C) ∧
          (s.hst.gen ≠ 0 → (op = 0 ∨ 8 < op ∨ 4080 < inLen + auxLen) → j.result = 0x10) ∧
          (s.hst.gen ≠ 0 → 1 ≤ op → op ≤ 8 → inLen + auxLen ≤ 4080 → 16 + inLen + auxLen ≤ (s.lmpArg buf).length →
            (s.keyUsable slot (opClass op) = false → j.result = 0x18) ∧
            (s.keyUsable slot (opClass op) = true → (j.result, j.out) = operateOn op (s.key slot)
              (slice (s.lmpArg buf) 16 inLen) (slice (s.lmpArg buf) (16 + inLen) auxLen)))) ∧
        Changes [.lmp, .cmds, .time, .log] s t)) ∧
    (s.lmp.mode = 1 → s.lmp.life = 1 → (s.glb.mode = .commission ∨ s.glb.mode = .maintenance ∨ s.glb.mode = .degraded) →
      s.hst.gen ≠ 0 → 196 ≤ (s.lmpArg buf).length → Answers (.provision dt 0 0 buf) s (fun t =>
        t.Runs lmpCmdReg 10 0 ∧
        t.lmp = { s.lmp with job := some { code := 10, slot := 0, life := 2, provision := some (s.lmpArg buf) } } ∧
        Changes [.lmp, .cmds, .time, .log] s t)) ∧
    (s.lmp.mode = 1 → s.lmp.life = 2 → s.img.loaded = true → Answers (.deploy dt 0 0) s (fun t =>
        t.Runs lmpCmdReg 11 0 ∧ t.lmp = { s.lmp with job := some { code := 11, slot := 0, life := 3 } } ∧
        Changes [.lmp, .cmds, .time, .log] s t))

/-- The lamp room's jobs end. A replacement whose read-back or journal write fails leaves the slot as it was; one that
commits puts the new material into the copy not in use, selects it and writes the journal, a clear empties the slot, and a
life-cycle update moves the life cycle. Any other job gives its result, stores its certificate and writes its output. The
integrity pass marks a failing slot BAD, and the factory manufactures the module (R337, R342, R347, R352, R354). -/
def Obligations.LampRoomJobsComplete : Prop :=
  (∀ (dt : Nat) (readback journal : Bool) (j : LmpJob) (s : State), s.lmp.job = some j → j.kind ≠ 0 →
    Answers (.keyReplaceDone dt readback journal) s (fun t =>
      t.lmp.job = none ∧ t.lmp.resultSlot = j.slot % 1024 ∧ (t.cmd lmpCmdReg).status = 2 ∧
      (t.cmd lmpCmdReg).pending = false ∧
      (readback = false → j.kind < 3 → t.lmp.result = 0x17 ∧ t.lmp.slots = s.lmp.slots ∧ t.lmp.journal = s.lmp.journal) ∧
      ((readback = true ∨ 3 ≤ j.kind) → journal = false → t.lmp.result = 0x19 ∧ t.lmp.slots = s.lmp.slots ∧
        t.lmp.journal = s.lmp.journal) ∧
      ((readback = true ∨ 3 ≤ j.kind) → journal = true → t.lmp.result = 1 ∧
        t.lmp.journalSeq = (s.lmp.journalSeq + 1) % 2 ^ 32 ∧
        (j.kind < 3 → (t.key j.slot).keyId = j.keyId ∧ (t.key j.slot).typ = j.typ ∧
          (t.key j.slot).origin = j.origin ∧ (t.key j.slot).cur.mat = j.mat ∧ (t.key j.slot).bad = false ∧
          (t.key j.slot).sel = (if (s.key j.slot).sel = 0 then 1 else 0) ∧ t.evSet 610 = true) ∧
        (j.kind = 3 → (t.key j.slot).typ = 0 ∧ (t.key j.slot).cur.mat = [] ∧ t.evSet 610 = true) ∧
        (j.kind ≠ 4 → (∀ i, i ≠ j.slot → t.key i = s.key i) ∧ (∀ e ∈ t.lmp.certs, e.2.slot ≠ j.slot)) ∧
        (j.kind = 4 → t.lmp.slots = [] ∧ t.lmp.life = (if j.life = 3 then 4 else 5) ∧ t.evSet 612 = true)) ∧
      Changes [.lmp, .cmds, .regs, .evt, .time, .log] s t)) ∧
  (∀ (dt : Nat) (j : LmpJob) (s : State), s.lmp.job = some j → j.kind = 0 →
    Answers (.lmpOperationDone dt) s (fun t =>
      t.lmp.job = none ∧ t.lmp.resultSlot = j.slot % 1024 ∧ (t.cmd lmpCmdReg).status = 2 ∧
      (t.cmd lmpCmdReg).pending = false ∧ t.lmp.slots = s.lmp.slots ∧
      t.lmp.result = (if j.result = 1 ∧ j.out ≠ [] ∧ s.hst.gen = 0 then 0x1C else j.result) ∧
      (j.result = 1 → s.hst.gen ≠ 0 → j.out ≠ [] → t.lmp.used = j.out.length ∧ t.out = s.out ++
        [.dma 0 ((s.rd 0x900020).toNat + 2 ^ 32 * (s.rd 0x900024).toNat) j.out]) ∧
      (∀ e c, j.cert = some (e, c) → j.result = 1 → tget t.lmp.certs e {} = c) ∧
      (j.provision = none → t.lmp.life = (if j.code = 11 then 3 else s.lmp.life)) ∧
      (∀ b, j.provision = some b → t.lmp.life = 2 ∧ t.lmp.boundId = leAt b 0 2 ∧ t.lmp.ownerKey = slice b 4 96 ∧
        t.lmp.authKey = slice b 100 96) ∧
      (j.code = 3 → j.result ≠ 0x1C → t.evSet 611 = true) ∧
      Changes [.lmp, .cmds, .out, .regs, .evt, .time, .log] s t)) ∧
  (∀ (dt : Nat) (fails : List (Fin 1024)) (s : State),
    (s.lmp.mode = 1 → Answers (.slotIntegrityPass dt fails) s (fun t =>
      (∀ i ∈ fails, (s.key i.val).typ ≠ 0 → (t.key i.val).bad = true) ∧
      (∀ i, t.key i = s.key i ∨ t.key i = { s.key i with bad := true }) ∧
      Changes [.lmp, .regs, .evt, .time, .log] s t)) ∧
    (s.lmp.mode ≠ 1 → Answers (.slotIntegrityPass dt fails) s (Changes [.time, .log] s))) ∧
  (∀ (dt : Nat) (fw factory cert0 cert1 : List Byte) (s : State), (s.lmp.life = 0 ∨ s.lmp.life = 4) →
    Answers (.factoryManufacture dt fw factory cert0 cert1) s (fun t =>
      t.lmp.life = 1 ∧ t.evSet 612 = true ∧
      (s.lmp.life = 0 → t.lmp.factoryRoot = s.lmp.random 32 ∧ t.lmp.fwKey = fw ∧ t.lmp.factoryKey = factory ∧
        tget t.lmp.certs 0 {} = { der := cert0 } ∧ tget t.lmp.certs 1 {} = { der := cert1 }) ∧
      (s.lmp.life = 4 → t.lmp.returnRoot = [] ∧ (s.lmp.factoryRoot ≠ [] → t.lmp.factoryRoot = s.lmp.factoryRoot)) ∧
      Changes [.lmp, .regs, .evt, .time, .log] s t))

/-- The gallery's programs. ARM and DISARM start and stop a program, closing its record; TRIGGER captures at the next tick;
RELEASE frees a record and a HELD program goes on; COPY sends a record to memory. A program is ARMED once its pre-trigger
data reach back, closes its record at the capture's end and goes through HOLDOFF, and a closed record is archived (R364,
R365, R366, R369, R374, R376, R378). -/
def Obligations.GalleryProgramsCapture : Prop :=
  (∀ (dt : Nat) (arg : BitVec 16) (s : State), s.Ready galCmdReg → s.progUsed arg.toNat = true →
    s.kpr.frames = true →
    ((s.prog arg.toNat).state = 0 → Answers (.arm dt 0 arg) s (fun t =>
      t.IsDone galCmdReg 1 ∧ t.prog arg.toNat = { s.prog arg.toNat with
        state := 1, start := (s.elapse dt).time.mono, streams := [], cmps := [], trigger := false,
        resetWait := false } ∧
      (∀ q, q ≠ arg.toNat → t.prog q = s.prog q) ∧ Changes [.gal, .cmds, .regs, .evt, .time, .log] s t)) ∧
    ((s.prog arg.toNat).state ≠ 0 → Answers (.disarm dt 0 arg) s (fun t =>
      t.IsDone galCmdReg 2 ∧ (t.prog arg.toNat).state = 0 ∧ (t.prog arg.toNat).streams = [] ∧
      ((s.prog arg.toNat).state = 3 → (s.prog arg.toNat).cur.state = 1 →
        (t.prog arg.toNat).cur.state = 2 ∧ (t.prog arg.toNat).cur.cause = 4 ∧
        (t.prog arg.toNat).cur.end_ = (s.elapse dt).now ∧ t.evSet 641 = true) ∧
      (∀ q, q ≠ arg.toNat → t.prog q = s.prog q) ∧
      Changes [.gal, .cmds, .hst, .out, .regs, .evt, .time, .log] s t)) ∧
    (((s.prog arg.toNat).state = 1 ∨ (s.prog arg.toNat).state = 2) → Answers (.trigger dt 0 arg) s (fun t =>
      t.Runs galCmdReg 3 arg.toNat ∧ t.prog arg.toNat = { s.prog arg.toNat with trigger := true } ∧
      (∀ q, q ≠ arg.toNat → t.prog q = s.prog q) ∧ Changes [.gal, .cmds, .time, .log] s t))) ∧
  (∀ (dt : Nat) (s : State), Answers (.triggerApply dt) s (fun t =>
    (∀ p < 16, (t.prog p).trigger = false) ∧
    (∀ p < 16, (s.prog p).trigger = false → t.prog p = s.prog p) ∧
    (∀ p < 16, ∀ e, (s.prog p).trigger = true → ((s.prog p).state = 1 ∨ (s.prog p).state = 2) →
      (s.prog p).freeEntry (planFlag (s.plan p) 2) = some e →
      (t.prog p).state = 3 ∧ (t.prog p).entry = e ∧ (t.prog p).seq = ((s.prog p).seq + 1) % 2 ^ 32 ∧
      (t.prog p).cur.trig = tickTime s.bcn.tickNo s.frameRate ∧ (t.prog p).cur.manual = true ∧
      (t.prog p).cur.primary = 0x1FF ∧ (t.prog p).cur.state = 1 ∧ t.evSet 640 = true ∧
      (t.cmd galCmdReg).status = 2 ∧ (t.cmd galCmdReg).pending = false) ∧
    Changes [.gal, .cmds, .regs, .evt, .time, .log] s t)) ∧
  (∀ (dt p e : Nat) (arg : BitVec 16) (s : State), s.Ready galCmdReg → arg.toNat < 1024 → p = arg.toNat % 16 →
    e = arg.toNat / 16 → s.progUsed p = true → s.afterBoot = true → 2 ≤ ((s.prog p).rec_ e).state →
    Answers (.release dt 0 arg) s (fun t =>
      t.IsDone galCmdReg 4 ∧ (t.prog p).rec_ e = { (s.prog p).rec_ e with released := true } ∧
      (t.prog p).state = (if (s.prog p).state = 5 then 1 else (s.prog p).state) ∧
      (∀ q, q ≠ p → t.prog q = s.prog q) ∧ Changes [.gal, .cmds, .regs, .evt, .time, .log] s t)) ∧
  (∀ (dt addr : Nat) (arg : BitVec 16) (s : State), s.Ready galCmdReg →
    addr = (s.rd 0xA00010).toNat + 2 ^ 32 * (s.rd 0xA00014).toNat →
    s.copyArg arg.toNat addr (s.rd 0xA00018).toNat = true → s.copyState arg.toNat = true →
    Answers (.copy dt 0 arg) s (fun t =>
      t.Runs galCmdReg 5 arg.toNat ∧
      (0, { addr := addr, prog := arg.toNat % 16, entry := arg.toNat / 16 % 64, arch := s.copyArch arg.toNat }) ∈
        t.gal.copies ∧
      t.gal.progs = s.gal.progs ∧ Changes [.gal, .cmds, .time, .log] s t)) ∧
  (∀ (dt : Nat) (v : Fin 256) (c : GCopy) (d : List Byte) (bs : List (List Byte)) (s : State),
    s.gal.copies.find? (fun x => decide (x.1 = v.val)) = some (v.val, c) → s.present v.val = true →
    s.copyOf c.prog c.entry c.arch = some (d, bs) → Answers (.copyDone dt v) s (fun t =>
      t.gal.copies = s.gal.copies.filter (fun x => decide (x.1 ≠ v.val)) ∧
      (∃ r, t.out = s.out ++ .dma v.val c.addr (padTo d 4096 ++ bs.flatten) :: r) ∧
      (v.val = 0 → t.gal.used = bs.length + 1) ∧
      (t.cmd (if v.val = 0 then galCmdReg else vfBase v.val + 4)).status = 2 ∧
      (t.cmd (if v.val = 0 then galCmdReg else vfBase v.val + 4)).pending = false ∧
      Changes [.gal, .cmds, .hst, .out, .regs, .evt, .time, .log] s t)) ∧
  (∀ (dt : Nat) (p : Fin 16) (s : State),
    ((s.prog p.val).state = 1 → (s.prog p.val).start + planMs (s.plan p.val) 0x10 ≤ (s.elapse dt).time.mono →
      Answers (.preTriggerFilled dt p) s (fun t =>
        t.prog p.val = { s.prog p.val with state := 2 } ∧ (∀ q, q ≠ p.val → t.prog q = s.prog q) ∧
        Changes [.gal, .time, .log] s t)) ∧
    ((s.prog p.val).state = 3 → (s.prog p.val).cur.state = 1 → (s.prog p.val).cur.end_ ≤ (s.elapse dt).now →
      Answers (.captureEnd dt p) s (fun t =>
        (t.prog p.val).cur.state = 2 ∧ (t.prog p.val).cur.end_ = (s.prog p.val).cur.end_ ∧
        (t.prog p.val).cur.cause = (if planFlag (s.plan p.val) 1 = true ∧ (s.prog p.val).cur.extended = true ∧
          (s.prog p.val).cur.end_ = (s.prog p.val).cur.trig + planMs (s.plan p.val) 0x18 then 2 else 1) ∧
        (t.prog p.val).state = (if leAt (s.plan p.val) 0x1C 4 = 0 then 2 else 4) ∧ t.evSet 641 = true ∧
        (planFlag (s.plan p.val) 3 = true → (p.val, (s.prog p.val).entry) ∈ t.gal.archWait) ∧
        (∀ q, q ≠ p.val → t.prog q = s.prog q) ∧
        Changes [.gal, .hst, .out, .regs, .evt, .time, .log] s t)) ∧
    ((s.prog p.val).state = 4 →
      (if planFlag (s.plan p.val) 4 = true then leAt (s.plan p.val) 0x1C 4 ≤ (s.prog p.val).since
        else (s.prog p.val).closed + leAt (s.plan p.val) 0x1C 4 * msUnit ≤ (s.elapse dt).time.mono) →
      Answers (.holdoffExpiry dt p) s (fun t =>
        (t.prog p.val).state = (if (s.prog p.val).resetWait then 1 else 2) ∧
        (∀ q, q ≠ p.val → t.prog q = s.prog q) ∧ Changes [.gal, .time, .log] s t))) ∧
  (∀ (dt p e : Nat) (rest : List (Nat × Nat)) (s : State), s.gal.archWait = (p, e) :: rest →
    ((s.prog p).rec_ e).state = 2 → Answers (.archiveDone dt) s (fun t =>
      t.gal.archWait = rest ∧ ((t.prog p).rec_ e).archived = true ∧
      t.gal.archNext = (s.gal.archNext + 1) % 2 ^ 32 ∧ t.evSet 645 = true ∧
      (∀ q, q ≠ p → t.prog q = s.prog q) ∧ Changes [.gal, .regs, .evt, .time, .log] s t))

/-- The logbook takes records. The oldest queued record gets the next SEQ and goes to the DRAM ring, or to the hold buffer
while the ring is frozen, CRITICAL ones also wait for the NVM ring, and a full hold buffer counts a loss; after a loss a
LOST record is offered. The NVM write ends each wait, or fails with NVM_FAULT (R380, R382, R383, R387). -/
def Obligations.LogbookAcceptsRecords : Prop :=
  (∀ (dt : Nat) (r : LogRec) (rest : List LogRec) (s : State), s.log.queue = r :: rest →
    ((s.log.lostAny = false ∨ s.log.holdLoss = true) → Answers (.logRecordAccept dt) s (fun t =>
      t.log.nextSeq = (s.log.nextSeq + 1) % 2 ^ 32 ∧ t.log.queue = rest ∧
      (s.log.frozen = false → s.log.draining = false →
        t.log.dram = ringPut s.log.dram { r with seq := s.log.nextSeq } 262144 ∧ t.log.hold = s.log.hold) ∧
      ((s.log.frozen = true ∨ s.log.draining = true) → t.log.dram = s.log.dram ∧
        (s.log.hold.length < 4096 →
          t.log.hold = s.log.hold ++ [{ r with seq := s.log.nextSeq, fromHold := true }]) ∧
        (4096 ≤ s.log.hold.length → t.log.hold = s.log.hold ∧ t.log.holdLoss = true ∧ t.log.lostAny = true ∧
          t.evSet 706 = true)) ∧
      t.log.nvmWait = (if r.cls = 0 then s.log.nvmWait ++ [{ r with seq := s.log.nextSeq }] else s.log.nvmWait) ∧
      (r.cls = 0 → t.evSet 704 = true) ∧ Changes [.log, .regs, .evt, .time] s t)) ∧
    (s.log.lostAny = true → s.log.holdLoss = false → s.log.frozen = false → s.log.draining = false →
      rest.length < 64 → s.classOf 0x20 ≠ 3 → Answers (.logRecordAccept dt) s (fun t =>
        t.log.dram = ringPut s.log.dram { r with seq := s.log.nextSeq } 262144 ∧
        (∃ x ∈ t.log.queue, x.code = 0x20 ∧ x.p2 = s.log.lostFirst % 2 ^ 32) ∧ t.log.lostAny = false ∧
        Changes [.log, .regs, .evt, .time] s t))) ∧
  (∀ (dt : Nat) (r : LogRec) (rest : List LogRec) (s : State), s.log.nvmWait = r :: rest →
    Answers (.criticalNvmWrite dt true) s (fun t =>
      t.log.nvmWait = rest ∧ t.log.nvm = ringPut s.log.nvm r 16384 ∧ t.log.nvmOk = true ∧
      t.log.dram = s.log.dram ∧ Changes [.log, .time] s t) ∧
    Answers (.criticalNvmWrite dt false) s (fun t =>
      t.log.nvmWait = rest ∧ t.log.nvm = s.log.nvm ∧ t.log.nvmOk = false ∧ t.evSet 708 = true ∧
      t.log.dram = s.log.dram ∧ Changes [.log, .regs, .evt, .time] s t))

/-- Freezing and clearing the logbook. FREEZE stops the ring, UNFREEZE or the freeze limit drains the hold buffer into it
with FROM_HOLD set. A clear is armed by PF0 alone, and its confirmation by PF0 empties the rings of its scope, leaving the
CLEAR record (R387, R390, R391, R392). -/
def Obligations.LogbookFreezesAndClears : Prop :=
  (∀ (dt : Nat) (s : State), s.Ready logCmdReg →
    (s.afterStage 2 = true → s.log.frozen = false → Answers (.logFreeze dt 0 0) s (fun t =>
      t.IsDone logCmdReg 1 ∧ t.log.frozen = true ∧ t.log.frozenAt = (s.elapse dt).time.mono ∧
      t.log.dram = s.log.dram ∧ t.log.hold = s.log.hold ∧ Changes [.log, .cmds, .regs, .evt, .time] s t)) ∧
    (s.log.frozen = true → Answers (.logUnfreeze dt 0 0) s (fun t =>
      t.Runs logCmdReg 2 0 ∧ t.log.frozen = false ∧ t.log.draining = true ∧ t.log.hold = s.log.hold ∧
      Changes [.log, .cmds, .time] s t))) ∧
  (∀ (dt : Nat) (s : State),
    (s.log.frozen = true → Answers (.freezeTimeout dt) s (fun t =>
      t.log.frozen = false ∧ t.log.draining = true ∧ t.evSet 705 = true ∧ t.log.hold = s.log.hold ∧
      Changes [.log, .regs, .evt, .time] s t)) ∧
    (s.log.draining = true → s.log.lostAny = false → Answers (.holdDrainDone dt) s (fun t =>
      t.log.draining = false ∧ t.log.hold = [] ∧
      t.log.dram = s.log.hold.foldl (fun d r => ringPut d r 262144) s.log.dram ∧
      ((s.cmd logCmdReg).pending = true → (s.cmd logCmdReg).runCode = 2 →
        (t.cmd logCmdReg).status = 2 ∧ (t.cmd logCmdReg).pending = false) ∧
      Changes [.log, .cmds, .regs, .evt, .time] s t)) ∧
    Answers (.clearArmExpiry dt) s (fun t =>
      t.log = { (s.elapse dt).log with armed := 0 } ∧ Changes [.log, .time] s t)) ∧
  (∀ (dt : Nat) (q : Requester) (arg : BitVec 16) (s : State), s.Ready logCmdReg →
    (arg.toNat = 1 ∨ arg.toNat = 3) →
    (q = .pf0 → s.afterBoot = true → Answers (.clearArm dt q 0 arg) s (fun t =>
      t.IsDone logCmdReg 3 ∧ t.log.armed = arg.toNat ∧ t.log.dram = s.log.dram ∧ t.log.nvm = s.log.nvm ∧
      Changes [.log, .cmds, .regs, .evt, .time] s t)) ∧
    (q ≠ .pf0 → Answers (.clearArm dt q 0 arg) s (fun t =>
      (t.cmd logCmdReg).status = 3 ∧ t.log.armed = s.log.armed ∧
      Changes [.log, .cmds, .regs, .evt, .time] s t)) ∧
    (q = .pf0 → s.log.armed = arg.toNat → s.log.frozen = false → s.log.draining = false →
      Answers (.clearConfirm dt q 0 arg) s (fun t =>
        t.IsDone logCmdReg 4 ∧ t.log.armed = 0 ∧
        (∃ c, t.log.dram = [c] ∧ c.code = 0x21 ∧ c.seq = s.log.nextSeq ∧ c.p0 = arg.toNat) ∧
        t.log.nvm = (if arg.toNat = 3 then [] else s.log.nvm) ∧
        t.log.nextSeq = (s.log.nextSeq + 1) % 2 ^ 32 ∧ t.evSet 707 = true ∧
        Changes [.log, .cmds, .regs, .evt, .time] s t)))

/-- The host link and function resets. Training gives the link its generation and width; a link-down or a PCI Express
reset takes it away and resets every EXTERNAL function, and leaves the INTERNAL ones and the mode. A reset of a function
disables its queues, clears its mailboxes, its command register and its guests, and ends at FLR_DONE. ATTACH_SET changes
the attachment and resets the function; VF_RESET resets it (R53, R395, R396, R397, R398, R421, R422, R425). -/
def Obligations.HostLinkAndFunctionResets : Prop :=
  (∀ (dt : Nat) (gen : Fin 3) (width : Fin 4) (s : State), s.glb.mode ≠ .dormant →
    Answers (.pcieLinkUp dt gen width) s (fun t =>
      t.hst = { s.hst with gen := 3 + gen.val, width := 2 ^ width.val } ∧
      ((s.hst.gen ≠ 3 + gen.val ∨ s.hst.width ≠ 2 ^ width.val) → t.evSet 720 = true) ∧
      Changes [.hst, .evt, .regs, .time, .log] s t)) ∧
  (∀ (dt : Nat) (en : Bool) (n : Fin 256) (s : State), s.hst.gen ≠ 0 → Answers (.vfEnableChange dt en n) s (fun t =>
    t.hst = { s.hst with vfEnable := en, numVfs := n.val } ∧ Changes [.hst, .time, .log] s t)) ∧
  (∀ (dt : Nat) (s : State), s.hst.gen ≠ 0 → Answers (.pcieLinkDown dt) s (fun t =>
    t.hst.gen = 0 ∧ t.hst.width = 0 ∧ t.hst.vfEnable = s.hst.vfEnable ∧ t.hst.numVfs = s.hst.numVfs ∧
    (∀ v ∈ s.externals, (t.func v).resetting = true ∧ (t.func v).msixEnable = false) ∧
    (∀ v, v ≠ 0 → v ∉ s.externals → t.func v = s.func v) ∧ t.img.loading = none ∧ t.evSet 720 = true ∧
    Changes [.cmds, .cnd, .evt, .gal, .hst, .img, .kpr, .lmp, .log, .once, .out, .pln, .ports, .prf, .regs, .time]
      s t)) ∧
  (∀ (dt : Nat) (s : State), Answers (.pcieReset dt) s (fun t =>
    t.hst.gen = 0 ∧ t.hst.width = 0 ∧ t.hst.vfEnable = false ∧ t.hst.numVfs = 0 ∧
    (∀ v ∈ s.externals, (t.func v).resetting = true ∧ (t.func v).msixEnable = false) ∧
    (∀ v, v ≠ 0 → v ∉ s.externals → t.func v = s.func v) ∧ (s.hst.gen ≠ 0 → t.evSet 720 = true) ∧
    Changes [.cmds, .cnd, .evt, .gal, .hst, .img, .kpr, .lmp, .log, .once, .out, .pln, .ports, .prf, .regs, .time]
      s t)) ∧
  (∀ (dt : Nat) (v : Fin 256) (s : State), v.val ≠ 0 → (s.func v.val).internal = false → s.present v.val = true →
    Answers (.pcieFlr dt v) s (fun t =>
      t.func v.val = { s.func v.val with resetting := true, msixEnable := false, msixMask := false } ∧
      (∀ w, w ≠ v.val → t.func w = s.func w) ∧
      (∀ n ∈ s.ownQueues v.val, t.queue n = { owner := v.val, loc := (s.queue n).loc, owned := true }) ∧
      (∀ n, n ∉ s.ownQueues v.val → t.queue n = s.queue n) ∧
      (∀ i < (s.func v.val).mbxCount, (t.mbox ((s.func v.val).mbxFirst + i)).seq = 0 ∧
        (t.mbox ((s.func v.val).mbxFirst + i)).ready = false) ∧
      t.cmd (vfBase v.val + 4) = {} ∧
      ((∀ k, (s.keeper k).run = none) → ∀ g < 16, t.fn (512 + 16 * v.val + g) = {}) ∧
      Changes [.cmds, .cnd, .evt, .gal, .hst, .kpr, .log, .once, .out, .pln, .ports, .prf, .regs, .time] s t)) ∧
  (∀ (dt : Nat) (v : Fin 256) (s : State), (s.func v.val).resetting = true → Answers (.flrDone dt v) s (fun t =>
    t.func v.val = { s.func v.val with resetting := false } ∧ (∀ w, w ≠ v.val → t.func w = s.func w) ∧
    t.hst.lastVf = v.val ∧ t.hst.flrCount = min 65535 (s.hst.flrCount + 1) ∧ t.evSet 721 = true ∧
    (s.hst.flrCmd = some v.val → t.hst.flrCmd = none ∧ t.IsDone hstCmdReg (s.cmd hstCmdReg).runCode) ∧
    t.hst.queues = s.hst.queues ∧ Changes [.cmds, .evt, .hst, .log, .regs, .time] s t)) ∧
  (∀ (dt v : Nat) (arg : BitVec 16) (s : State), s.Ready hstCmdReg → s.loaded = true → v = arg.toNat % 256 → v ≠ 0 →
    (arg.toNat / 256 % 128 = 0 → (s.ownQueues v).all (fun n => !(s.queue n).enabled) = true →
      Answers (.attachSet dt 0 arg) s (fun t =>
        t.Runs hstCmdReg 8 arg.toNat ∧ t.hst.flrCmd = some v ∧ t.evSet 726 = true ∧
        t.func v = { s.func v with internal := decide (arg.toNat / 2 ^ 15 = 1), resetting := true } ∧
        (∀ w, w ≠ v → t.func w = s.func w) ∧
        Changes [.cmds, .cnd, .evt, .gal, .hst, .kpr, .log, .once, .out, .pln, .ports, .prf, .regs, .time] s t)) ∧
    (arg.toNat < 256 → Answers (.vfReset dt 0 arg) s (fun t =>
      t.Runs hstCmdReg 9 v ∧ t.hst.flrCmd = some v ∧ t.evSet 726 = true ∧
      t.func v = { s.func v with resetting := true } ∧ (∀ w, w ≠ v → t.func w = s.func w) ∧
      Changes [.cmds, .cnd, .evt, .gal, .hst, .kpr, .log, .once, .out, .pln, .ports, .prf, .regs, .time] s t)))

/-- The queues of a function move frames. A transmit frame that is FORBIDDEN, BAD_DESC or without a route is written back
with that STATUS and counted; one with a route enters the ridge and its descriptors stay in flight while a copy is
there; while its class is stopped the queue waits. A received frame goes to the posted buffers in order, or is counted as
discarded. A DMA error disables the queue without write-back. A vector held back by ITR fires when the interval ends
(R403, R404, R405, R406, R408, R419, R420). -/
def Obligations.HostQueuesMoveFrames : Prop :=
  (∀ (dt cls tot : Nat) (q : Fin 1024) (x : Queue) (descs : List (BitVec 16 × BitVec 8)) (f : Frame)
    (r : Option (List Nat × Nat × Option Nat)) (s : State),
    x = s.queue q.val → x.enabled = true → s.present x.owner = true → descs ≠ [] → descs.length ≤ x.txPosted →
    tot = (descs.map (fun d => d.1.toNat)).sum →
    r = (if x.owner = 0 then (s.elapse dt).routeFrame 59 f 0 s.classEnd
      else (s.elapse dt).routeFrame 59 f (s.func x.owner).classFirst (s.func x.owner).classCount) →
    cls = (match r with
      | none => frameClass f []
      | some y => y.2.1) →
    (cls ∈ s.hst.stopped ∨ x.txClass ≠ [] → Answers (.hostTxFrame dt q descs f) s (fun t =>
      t.queue q.val = { x with txClass := insNat x.txClass cls } ∧ (∀ n, n ≠ q.val → t.queue n = s.queue n) ∧
      Changes [.hst, .time, .log] s t)) ∧
    (cls ∉ s.hst.stopped → x.txClass = [] → x.txJobs = [] →
      ∀ st, st = (if tot > 9216 ∨ ∃ d ∈ descs, d.1.toNat = 0 then 5 else if hostForbidden f r = true then 3
          else if r.isNone = true then 4 else 0) →
      (st ≠ 0 → Answers (.hostTxFrame dt q descs f) s (fun t =>
        .dma x.owner (x.txBase + 32 * ((x.txHead % x.txSize + (descs.length - 1)) % x.txSize) + 0x10)
          ([0, 0, 0, 0, 0, 0] ++ leBytes st 1 ++ [1]) ∈ t.out ∧
        (t.queue q.val).txHead = (x.txHead + descs.length) % x.txSize ∧ (t.queue q.val).txJobs = [] ∧
        (∀ n, n ≠ q.val → t.queue n = s.queue n) ∧
        (st = 3 → t.rd (0xC02000 + 0x40 * x.owner + 28) = satInc (s.rd (0xC02000 + 0x40 * x.owner + 28)) ∧
          (s.once.contains (onceKey 727 0) = false → t.evSet 727 = true)) ∧
        (st = 4 → t.rd (0xC02000 + 0x40 * x.owner + 24) = satInc (s.rd (0xC02000 + 0x40 * x.owner + 24))) ∧
        Changes [.evt, .hst, .log, .once, .out, .regs, .time] s t)) ∧
      (st = 0 → Answers (.hostTxFrame dt q descs f) s (fun t =>
        ∃ n, n = (t.rdg.queues.filter (fun y => decide (y.host = some (q.val, s.hst.txId)))).length ∧
          (n = 0 → (t.queue q.val).txHead = (x.txHead + descs.length) % x.txSize ∧ (t.queue q.val).txJobs = []) ∧
          (n ≠ 0 → (t.queue q.val).txHead = x.txHead ∧ ∃ j, (t.queue q.val).txJobs = [j] ∧ j.id = s.hst.txId ∧
            j.left = n ∧ j.octets = tot ∧ j.count = descs.length ∧ j.status = 0) ∧
          t.hst.txId = s.hst.txId + 1 ∧
          Changes [.evt, .hst, .log, .once, .out, .ports, .prf, .rdg, .regs, .time] s t)))) ∧
  (∀ (dt ago need posted : Nat) (q : Fin 1024) (x : Queue) (f : Frame) (ingress : Fin 32) (cls : Fin 6) (ts : Fin 3)
    (bufs : List (BitVec 64)) (s : State), x = s.queue q.val →
    need = ((hostBytes f).length + x.bufSize - 1) / x.bufSize → posted = min x.rxPosted bufs.length →
    (x.enabled = false → Answers (.hostRxFrame dt q f ingress cls ts ago bufs) s (fun t =>
      t.rd (0xC02000 + 0x40 * x.owner + 12) = satInc (s.rd (0xC02000 + 0x40 * x.owner + 12)) ∧
      Changes [.ports, .regs, .time, .log] s t)) ∧
    (x.enabled = true → posted < need → Answers (.hostRxFrame dt q f ingress cls ts ago bufs) s (fun t =>
      t.queue q.val = { x with rxHead := (x.rxHead + posted) % x.rxSize } ∧
      t.rd (0xC02000 + 0x40 * x.owner + 8) = satInc (s.rd (0xC02000 + 0x40 * x.owner + 8)) ∧
      (∀ i < posted, ∃ b, .dma x.owner (x.rxAddr i) b ∈ t.out ∧ byteAt b 2 = 0x82) ∧
      (s.once.contains (onceKey 723 0) = false → t.evSet 723 = true) ∧
      Changes [.evt, .hst, .log, .once, .out, .ports, .regs, .time] s t)) ∧
    (x.enabled = true → need ≤ posted → Answers (.hostRxFrame dt q f ingress cls ts ago bufs) s (fun t =>
      t.queue q.val = { x with rxHead := (x.rxHead + need) % x.rxSize } ∧
      (∀ i < need, .dma x.owner (bufs.getD i 0).toNat
          (slice (hostBytes f) (i * x.bufSize) (min x.bufSize ((hostBytes f).length - i * x.bufSize))) ∈ t.out ∧
        ∃ b, .dma x.owner (x.rxAddr i) b ∈ t.out ∧ byteAt b 4 = ingress.val ∧ byteAt b 5 = cls.val ∧
          leAt b 14 2 = (if i + 1 = need then (hostBytes f).length % 65536 else 0)) ∧
      t.rd (0xC02000 + 0x40 * x.owner) = satInc (s.rd (0xC02000 + 0x40 * x.owner)) ∧
      (∀ n, n ≠ q.val → t.queue n = s.queue n) ∧
      Changes [.hst, .log, .out, .ports, .regs, .time] s t))) ∧
  (∀ (dt : Nat) (n : Fin 2048) (s : State), (s.vec n.val).due = true → Answers (.itrExpiry dt n) s (fun t =>
    (t.vec n.val).fired = some (s.elapse dt).time.mono ∧ (t.vec n.val).due = false ∧
    ((s.func (s.vec n.val).owner).internal = true → t.out = s.out ++ [.guestInt n.val]) ∧
    ((s.func (s.vec n.val).owner).internal = false → s.present (s.vec n.val).owner = true →
      (s.func (s.vec n.val).owner).msixEnable = true →
      ((s.vec n.val).masked = false → (s.func (s.vec n.val).owner).msixMask = false →
        t.out = s.out ++ [.msi (s.vec n.val).owner n.val]) ∧
      ((s.vec n.val).masked = true → (t.vec n.val).pend = true ∧ t.out = s.out)) ∧
    Changes [.hst, .log, .out, .time] s t)) ∧
  (∀ (dt : Nat) (q : Fin 1024) (x : Queue) (s : State), x = s.queue q.val → (x.enabled = true ∨ x.txJobs ≠ []) →
    Answers (.dmaFault dt q) s (fun t =>
      t.queue q.val = { x with enabled := false, faulted := true, txJobs := [], txClass := [] } ∧
      (∀ n, n ≠ q.val → t.queue n = s.queue n) ∧ (∀ o a b, .dma o a b ∈ t.out → .dma o a b ∈ s.out) ∧
      t.rd (0xC02000 + 0x40 * x.owner + 40) = satInc (s.rd (0xC02000 + 0x40 * x.owner + 40)) ∧
      t.evSet 722 = true ∧ (x.owner ≠ 0 → (t.rd (vfBase x.owner + 0x18)).getLsbD 4 = true) ∧
      Changes [.evt, .hst, .log, .out, .ports, .regs, .time] s t))

/-- Commands that move resources. QUEUE_ASSIGN and VECTOR_ASSIGN give a disabled queue or a masked vector to a function at
its lowest free local index; WINDOW_SET and SHARE_SET wait and their change applies later; MBX_BIND waits for the commit;
CLASSIFIER_SET writes an entry and GRANT_SET the grants (R399, R411, R417, R425, R428). -/
def Obligations.HostCommandsMoveResources : Prop :=
  (∀ (dt v : Nat) (arg : BitVec 16) (s : State), s.Ready hstCmdReg → s.loaded = true → v = s.hstArg 0 → v < 256 →
    (arg.toNat < 1024 → (s.queue arg.toNat).enabled = false → (s.queue arg.toNat).txJobs = [] →
      ∀ held, held = (s.ownQueues v).filter (fun n => decide (n ≠ arg.toNat)) →
      held.length < (if v = 0 then 1024 else 64) → Answers (.queueAssign dt 0 arg) s (fun t =>
        t.IsDone hstCmdReg 1 ∧ t.queue arg.toNat =
          { owner := v, owned := true, loc := lowestFree (held.map (fun m => (s.queue m).loc)) 1024 } ∧
        (∀ n, n ≠ arg.toNat → t.queue n = s.queue n) ∧ t.evSet 726 = true ∧
        (v ≠ 0 → (t.rd (vfBase v + 0x18)).getLsbD 3 = true) ∧
        Changes [.cmds, .evt, .hst, .log, .out, .regs, .time] s t)) ∧
    (arg.toNat < 2048 → (s.vec arg.toNat).masked = true →
      ∀ held, held = s.hst.vecs.filter (fun e => e.2.owned && decide (e.2.owner = v) && decide (e.1 ≠ arg.toNat)) →
      held.length < (if v = 0 then 2048 else 64) → Answers (.vectorAssign dt 0 arg) s (fun t =>
        t.IsDone hstCmdReg 2 ∧ (t.vec arg.toNat).owner = v ∧ (t.vec arg.toNat).owned = true ∧
        (t.vec arg.toNat).loc = lowestFree (held.map (fun e => e.2.loc)) 2048 ∧
        (t.vec arg.toNat).masked = true ∧ t.hst.queues = s.hst.queues ∧ t.evSet 726 = true ∧
        (v ≠ 0 → (t.rd (vfBase v + 0x18)).getLsbD 3 = true) ∧
        Changes [.cmds, .evt, .hst, .log, .out, .regs, .time] s t))) ∧
  (∀ (dt v r : Nat) (arg : BitVec 16) (s : State), s.Ready hstCmdReg → s.loaded = true → arg.toNat < 4096 →
    v = arg.toNat % 256 → r = arg.toNat / 256 →
    (∀ n, (s.elapse dt).targetTick 0xC00014 0xC00018 = some n → s.hstArg 0 % 65536 + s.hstArg 0 / 65536 ≤ 16384 →
      ((setRange (s.func v).ranges r (s.hstArg 0 % 65536, s.hstArg 0 / 65536)).map (fun e => e.2)).sum ≤ 1024 →
      Answers (.windowSet dt 0 arg) s (fun t =>
        t.Runs hstCmdReg 3 arg.toNat ∧ t.hst = { s.hst with
          window := some
            { key := 16 * v + r, first := s.hstArg 0 % 65536, count := s.hstArg 0 / 65536, target := some n } } ∧
        Changes [.hst, .cmds, .time, .log] s t)) ∧
    (∀ w, v ≠ 0 → s.hstArg 1 < 65536 → s.hstArg 0 + s.otherShares v r ≤ s.guestCycles r →
      s.guestsFit (s.guestsOn v r)
        { cycles := s.hstArg 0, imem := s.hstArg 1 % 256, dmem := s.hstArg 1 / 256 % 256 } = true →
      ((s.rd 0xC00014).toNat = 0xFFFFFFFF ∧ w = none ∨
        (s.rd 0xC00014).toNat ≠ 0xFFFFFFFF ∧ w = (s.elapse dt).targetTick 0xC00014 0xC00018 ∧ w ≠ none) →
      Answers (.shareSet dt 0 arg) s (fun t =>
        t.Runs hstCmdReg 4 arg.toNat ∧ t.hst = { s.hst with
          share := some
            { key := arg.toNat, first := s.hstArg 0, count := s.hstArg 1 % 256, dmem := s.hstArg 1 / 256 % 256,
              target := w, epoch := (s.rd 0x600010).toNat } } ∧
        Changes [.hst, .cmds, .time, .log] s t)) ∧
    (s.hstArg 0 < 2 ^ 24 → bindOk (s.hstArg 0 % 256) (s.hstArg 0 / 256) = true →
      s.mboxOwner arg.toNat = some (s.hstArg 1) → Answers (.mbxBind dt 0 arg) s (fun t =>
        t.Runs hstCmdReg 5 arg.toNat ∧ t.hst = { s.hst with
          bind := some
            { key := arg.toNat, first := s.hstArg 0 % 256, count := s.hstArg 0 / 256, target := none } } ∧
        Changes [.hst, .cmds, .time, .log] s t))) ∧
  (∀ (dt : Nat) (w : HstPend) (s : State),
    (s.hst.window = some w → Answers (.windowSetApply dt) s (fun t =>
      t.hst.window = none ∧ t.func (w.key / 16) = { s.func (w.key / 16) with
        ranges := setRange (s.func (w.key / 16)).ranges (w.key % 16)
          (if w.count = 0 then (0, 0) else (w.first, w.count)) } ∧
      (∀ v, v ≠ w.key / 16 → t.func v = s.func v) ∧
      t.IsDone hstCmdReg (s.cmd hstCmdReg).runCode ∧ t.evSet 726 = true ∧
      (w.key / 16 ≠ 0 → (t.rd (vfBase (w.key / 16) + 0x18)).getLsbD 3 = true) ∧
      Changes [.cmds, .evt, .hst, .log, .out, .regs, .time] s t)) ∧
    (s.hst.share = some w → (w.target ≠ none ∨ w.epoch ≠ (s.rd 0x600010).toNat) →
      Answers (.shareSetApply dt) s (fun t =>
        t.hst.share = none ∧
        t.vfShare (w.key % 256) (w.key / 256) = { cycles := w.first, imem := w.count, dmem := w.dmem } ∧
        t.hst.fns = s.hst.fns ∧ t.IsDone hstCmdReg (s.cmd hstCmdReg).runCode ∧ t.evSet 726 = true ∧
        Changes [.cmds, .evt, .hst, .log, .out, .regs, .time] s t))) ∧
  (∀ (dt v : Nat) (arg : BitVec 16) (b : List Byte) (s : State), s.Ready hstCmdReg → s.loaded = true →
    (b.length = 32 → arg.toNat < 8192 → v = leAt b 0x18 2 → v < 256 → (s.func v).classFirst ≤ arg.toNat →
      arg.toNat < (s.func v).classFirst + (s.func v).classCount → byteAt b 0x14 ≤ 5 →
      (leAt b 0x0C 4 ||| leAt b 0x10 4) &&& (2 ^ 32 - 1 - 0x0CFF0000) = 0 →
      Answers (.classifierSet dt 0 arg b) s (fun t =>
        t.IsDone hstCmdReg 6 ∧ tget t.hst.classes arg.toNat [] = b ∧
        (∀ n, n ≠ arg.toNat → tget t.hst.classes n [] = tget s.hst.classes n []) ∧ t.evSet 726 = true ∧
        t.hst.fns = s.hst.fns ∧ Changes [.cmds, .evt, .hst, .log, .out, .regs, .time] s t)) ∧
    (arg.toNat < 256 → s.hstArg 0 < 8 → s.hstArg 1 / 65536 ≤ 192 → s.hstArg 1 % 65536 + s.hstArg 1 / 65536 ≤ 2048 →
      Answers (.grantSet dt 0 arg) s (fun t =>
        t.IsDone hstCmdReg 7 ∧ t.func arg.toNat = { s.func arg.toNat with
          grants := s.hstArg 0, cntFirst := s.hstArg 1 % 65536, cntCount := s.hstArg 1 / 65536 } ∧
        (∀ v, v ≠ arg.toNat → t.func v = s.func v) ∧
        (arg.toNat ≠ 0 → (t.rd (vfBase arg.toNat + 0x18)).getLsbD 3 = true) ∧
        Changes [.cmds, .evt, .hst, .log, .out, .regs, .time] s t)))

/-- A function's own commands. QUEUE_ENABLE takes the configuration and keeps HEAD, QUEUE_DISABLE stops fetching and is
DONE once the queue is idle. GUEST_LOAD takes a guest, GUEST_PLACE enters it in its partition, GUEST_UNLOAD drops it and
GUEST_RESTART returns a FAULTED one to service; GAL_COPY starts a copy into the function's memory (R409, R414, R416, R418,
R427). -/
def Obligations.FunctionCommandsComplete : Prop :=
  (∀ (dt n : Nat) (v : Fin 256) (arg : BitVec 16) (x : Queue) (s : State), s.Ready (vfBase v.val + 4) →
    s.loaded = true → arg.toNat < 64 → s.localQueue v.val arg.toNat = some n → x = s.queue n →
    (fld x.qcfg 8 2 ≠ 3 → 6 ≤ fld x.qcfg 0 4 → fld x.qcfg 0 4 ≤ 12 → 6 ≤ fld x.qcfg 4 4 → fld x.qcfg 4 4 ≤ 12 →
      Answers (.queueEnable dt v 0 arg) s (fun t =>
        t.IsDone (vfBase v.val + 4) 1 ∧ t.queue n = { x with
          cfg := x.qcfg, rxBase := x.rxLo.toNat + 2 ^ 32 * x.rxHi.toNat,
          txBase := x.txLo.toNat + 2 ^ 32 * x.txHi.toNat, enabled := true, faulted := false,
          rxHead := x.rxHead % 2 ^ fld x.qcfg 0 4, txHead := x.txHead % 2 ^ fld x.qcfg 4 4 } ∧
        (∀ m, m ≠ n → t.queue m = s.queue m) ∧
        (v.val ≠ 0 → (t.rd (vfBase v.val + 0x18)).getLsbD 5 = true) ∧
        Changes [.cmds, .evt, .hst, .log, .out, .regs, .time] s t)) ∧
    Answers (.queueDisable dt v 0 arg) s (fun t =>
      t.Runs (vfBase v.val + 4) 2 arg.toNat ∧
      t.queue n = { x with enabled := false, stopping := true, txClass := [] } ∧
      (∀ m, m ≠ n → t.queue m = s.queue m) ∧ Changes [.hst, .cmds, .time, .log] s t)) ∧
  (∀ (dt : Nat) (q : Fin 1024) (x : Queue) (s : State), x = s.queue q.val → x.stopping = true → x.txJobs = [] →
    Answers (.queueIdle dt q) s (fun t =>
      t.queue q.val = { x with stopping := false } ∧ (∀ m, m ≠ q.val → t.queue m = s.queue m) ∧
      t.IsDone (vfBase x.owner + 4) (s.cmd (vfBase x.owner + 4)).runCode ∧
      Changes [.cmds, .evt, .hst, .log, .out, .regs, .time] s t)) ∧
  (∀ (dt id k : Nat) (v : Fin 256) (arg : BitVec 16) (buf b : List Byte) (g : KFunc) (s : State),
    s.Ready (vfBase v.val + 4) → s.loaded = true → s.kpr.frames = true → v.val ≠ 0 → arg.toNat < 16 →
    id = 512 + 16 * v.val + arg.toNat →
    (b = padTo buf (min 131104 (s.rd (vfBase v.val + 0x14)).toNat) → k = byteAt b 0 →
      guestOk (s.func v.val) b (s.rd (vfBase v.val + 0x14)).toNat = true →
      g = guestOf b (tickAtOrAfter ((s.elapse dt).now + 2 * secUnit / s.frameRate) s.frameRate) →
      (s.fn id).state = 0 → (s.vfShare v.val k).cycles ≠ 0 →
      (s.setFn id g).guestsFit ((s.setFn id g).guestsOn v.val k) (s.vfShare v.val k) = true →
      Answers (.guestLoad dt v 0 arg buf) s (fun t =>
        t.Runs (vfBase v.val + 4) 3 arg.toNat ∧ t.fn id = g ∧ (∀ j, j ≠ id → t.fn j = s.fn j) ∧
        Changes [.kpr, .cmds, .time, .log] s t)) ∧
    ((s.fn id).state ≠ 0 → Answers (.guestUnload dt v 0 arg) s (fun t =>
      t.IsDone (vfBase v.val + 4) 4 ∧ t.fn id = {} ∧ (∀ m ∈ t.kpr.merge, m.id ≠ id) ∧ id ∉ t.kpr.placeDone ∧
      (∀ j, j ≠ id → t.fn j = s.fn j) ∧
      Changes [.cmds, .evt, .hst, .kpr, .log, .once, .out, .prf, .regs, .time] s t)) ∧
    ((s.fn id).state = 2 → Answers (.guestRestart dt v 0 arg) s (fun t =>
      t.IsDone (vfBase v.val + 4) 5 ∧
      t.fn id = { (s.fn id).initialise (List.replicate (objState (s.fn id).obj) 0) with state := 1, consec := 0 } ∧
      (∀ j, j ≠ id → t.fn j = s.fn j) ∧ t.kpr.merge = s.kpr.merge ∧
      Changes [.cmds, .evt, .hst, .kpr, .log, .out, .regs, .time] s t))) ∧
  (∀ (dt n : Nat) (s : State), n = tickAtOrAfter (s.elapse dt).now s.frameRate → Answers (.guestPlace dt) s (fun t =>
    t.kpr.placeDone = s.kpr.placeDone ++ (s.kpr.funcs.filter (fun e => match e.2.placeAt with
      | none => false
      | some p => decide (p ≤ n))).map (fun e => e.1) ∧
    (∀ e ∈ s.kpr.funcs, (∀ x ∈ s.kpr.funcs, x.1 = e.1 → x = e) → ∀ p, e.2.placeAt = some p → p ≤ n →
      t.fn e.1 = { e.2 with placeAt := none }) ∧
    (∀ id, (∀ e ∈ s.kpr.funcs, e.1 = id → ∀ p, e.2.placeAt = some p → n < p) → t.fn id = s.fn id) ∧
    Changes [.kpr, .time, .log] s t)) ∧
  (∀ (dt addr : Nat) (v : Fin 256) (arg : BitVec 16) (s : State), s.Ready (vfBase v.val + 4) → s.loaded = true →
    v.val ≠ 0 → addr = (s.rd (vfBase v.val + 0x0C)).toNat + 2 ^ 32 * (s.rd (vfBase v.val + 0x10)).toNat →
    s.copyArg arg.toNat addr ((s.rd (vfBase v.val + 0x14)).toNat / 4096) = true →
    (s.func v.val).grants / 2 % 2 = 1 → s.copyState arg.toNat = true → Answers (.galCopy dt v 0 arg) s (fun t =>
      t.Runs (vfBase v.val + 4) 6 arg.toNat ∧
      (v.val, { addr := addr, prog := arg.toNat % 16, entry := arg.toNat / 16 % 64, arch := s.copyArch arg.toNat }) ∈
        t.gal.copies ∧
      t.gal.progs = s.gal.progs ∧ Changes [.gal, .cmds, .time, .log] s t))

/-- Coil drivers and binary inputs. A period boundary takes armed shadows together; RISE and FALL move the legs with the
dead time between them, and a pulse that is too short is skipped; pull-in ends in hold; an overcurrent turns the drive leg
off, and the last of OC_LATCH_N trip periods latches the channel until OC_CLEAR. Supervision changes after three results
that agree. An input takes a level that has stayed for the debounce time, with the time of its first sample (R430 to R440,
R443). -/
def Obligations.CoilsAndInputsFollowTheirRules : Prop :=
  (∀ (dt : Nat) (k : Fin 8) (c : Coil) (s : State), c = s.coil k.val →
    Answers (.carrierPeriodBoundary dt k) s (fun t =>
      (c.armed = true → (t.coil k.val).period = c.periodSh ∧ (t.coil k.val).rise = c.riseSh ∧
        (t.coil k.val).fall = c.fallSh ∧ (t.coil k.val).armed = false ∧ (t.coil k.val).periodPending = false ∧
        (t.coil k.val).stale = 0) ∧
      (c.armed = false → (t.coil k.val).period = c.period ∧ (t.coil k.val).rise = c.rise ∧
        (t.coil k.val).fall = c.fall ∧ (t.coil k.val).stale = c.stale + (if c.periodPending then 1 else 0) ∧
        (c.periodPending = true → c.stale = 1 → (t.coil k.val).pairStale = true ∧ t.evSet (785 + 4 * k.val) = true)) ∧
      (t.coil k.val).ocConsec = (if c.conducted && !c.tripped then 0 else c.ocConsec) ∧
      (t.coil k.val).tripped = false ∧ (t.coil k.val).state = c.state ∧
      (c.state = .pullIn → c.driveOn = false → (t.coil k.val).dead = .drive ∧ (t.coil k.val).freeOn = false) ∧
      (∀ j, j ≠ k.val → t.coil j = s.coil j) ∧ Changes [.cdv, .evt, .log, .out, .regs, .time] s t) ∧
    (c.state = .hold → c.govern = true → coilAlways c = false → c.rise ≠ c.fall →
      Answers (.riseCompare dt k) s (fun t =>
        (coilOnTime c < s.coilDead k.val + 100 → t.coil k.val = { c with skipping := true } ∧ t.out = s.out ∧
          t.rd (shortSkipAddr k.val) = satInc (s.rd (shortSkipAddr k.val)) ∧
          (s.once.contains (onceKey (787 + 4 * k.val) k.val) = false → t.evSet (787 + 4 * k.val) = true)) ∧
        (s.coilDead k.val + 100 ≤ coilOnTime c → t.regs = s.regs ∧
          (c.driveOn = false → t.coil k.val = { c with skipping := false, freeOn := false, dead := .drive }) ∧
          (c.driveOn = true → t.coil k.val = { c with skipping := false })) ∧
        (∀ j, j ≠ k.val → t.coil j = s.coil j) ∧ Changes [.cdv, .evt, .log, .once, .out, .regs, .time] s t) ∧
      Answers (.fallCompare dt k) s (fun t =>
        (c.skipping = true → t.coil k.val = { c with skipping := false } ∧ t.out = s.out) ∧
        (c.skipping = false → c.driveOn = true →
          t.coil k.val = { c with driveOn := false, blanking := false, dead := .freewheel } ∧
          t.out = s.out ++ [.coil k.val false c.freeOn]) ∧
        (∀ j, j ≠ k.val → t.coil j = s.coil j) ∧ Changes [.cdv, .log, .out, .time] s t)) ∧
    Answers (.deadTimeExpiry dt k) s (fun t =>
      (c.dead = .drive → t.coil k.val = { c with
        driveOn := true, dead := .none, conducted := true, blanking := decide (s.coilBlank k.val > 0) }) ∧
      (c.dead = .freewheel → t.coil k.val = { c with freeOn := true, dead := .none }) ∧
      (c.dead = .quiet → t.coil k.val = { c with dead := .none } ∧ t.out = s.out) ∧
      (∀ j, j ≠ k.val → t.coil j = s.coil j) ∧ Changes [.cdv, .log, .out, .time] s t) ∧
    Answers (.blankExpiry dt k) s (fun t =>
      t.coil k.val = { c with blanking := false } ∧ (∀ j, j ≠ k.val → t.coil j = s.coil j) ∧
      Changes [.cdv, .log, .time] s t) ∧
    (c.state = .pullIn → Answers (.pullinExpiry dt k) s (fun t =>
      t.coil k.val = { c with state := .hold, govern := false } ∧ (∀ j, j ≠ k.val → t.coil j = s.coil j) ∧
      Changes [.cdv, .log, .time] s t)) ∧
    (∀ wf : Bool, c.driveOn = true → c.blanking = false → Answers (.ocTrip dt k wf) s (fun t =>
      (wf = true → c.state = .hold → t.regs = s.regs ∧
        t.coil k.val = { c with driveOn := false, blanking := false, dead := .freewheel }) ∧
      ((wf = false ∨ c.state ≠ .hold) → c.tripped = false →
        t.rd (ocTripAddr k.val) = satInc (s.rd (ocTripAddr k.val)) ∧ (t.coil k.val).ocConsec = c.ocConsec + 1 ∧
        (t.coil k.val).driveOn = false ∧ (t.coil k.val).tripped = true ∧
        (c.ocConsec + 1 < s.coilLatchN k.val →
          (t.coil k.val).state = c.state ∧ (t.coil k.val).dead = .freewheel) ∧
        (s.coilLatchN k.val ≤ c.ocConsec + 1 → (t.coil k.val).state = .latched ∧ (t.coil k.val).freeOn = false ∧
          (t.coil k.val).dead = .quiet ∧ t.evSet (784 + 4 * k.val) = true)) ∧
      (∀ j, j ≠ k.val → t.coil j = s.coil j) ∧ Changes [.cdv, .evt, .log, .out, .regs, .time] s t)) ∧
    ((c.state = .idle ∨ c.state = .latched) → Answers (.supResume dt k) s (fun t =>
      t.coil k.val = { c with supPaused := false } ∧ (∀ j, j ≠ k.val → t.coil j = s.coil j) ∧
      Changes [.cdv, .log, .time] s t)) ∧
    (∀ (ohm r : Nat) (full : Bool), r = s.supClass k.val ohm full → s.coilEnabled k.val = true →
      (c.state = .idle ∨ c.state = .latched) → c.supPaused = false → byteAt s.fieldIo (coilOff k.val + 0x0D) ≠ 0 →
      Answers (.supMeasure dt k ohm full) s (fun t =>
        (t.coil k.val).ohm = min ohm 65535 ∧ (t.coil k.val).supCand = r ∧
        (t.coil k.val).supRun = (if c.supCand = r then min (c.supRun + 1) 3 else 1) ∧
        (c.supCand = r → 2 ≤ c.supRun → (t.coil k.val).sup = r ∧
          (c.sup ≠ r → t.evSet (786 + 4 * k.val) = true ∧
            ∀ b, b = leAt s.fieldIo (coilOff k.val + 0x0E) 2 → b < 16384 →
              t.sigVal b = decide (r = 1) ∧ t.sigQual b = 0)) ∧
        ((c.supCand ≠ r ∨ c.supRun < 2) → (t.coil k.val).sup = c.sup ∧ t.pln = s.pln) ∧
        (∀ j, j ≠ k.val → t.coil j = s.coil j) ∧ Changes [.cdv, .evt, .log, .pln, .regs, .time] s t))) ∧
  (∀ (dt : Nat) (arg : BitVec 16) (s : State), s.Ready cdvCmdReg → arg.toNat < 8 → s.afterBoot = true →
    (s.coil arg.toNat).state = .latched → Answers (.ocClear dt 0 arg) s (fun t =>
      t.IsDone cdvCmdReg 1 ∧ t.coil arg.toNat = { s.coil arg.toNat with state := .idle, ocConsec := 0 } ∧
      (∀ j, j ≠ arg.toNat → t.coil j = s.coil j) ∧ Changes [.cdv, .cmds, .time, .log] s t)) ∧
  (∀ (dt : Nat) (i : Fin 16) (b : BinIn) (s : State), b = s.input i.val →
    (∀ l v, b.pendLevel = some l → s.inputEnabled i.val = true → v = (l != s.inputInvert i.val) →
      Answers (.inputChangeAccepted dt i) s (fun t =>
        (t.input i.val).value = v ∧ (t.input i.val).known = true ∧ (t.input i.val).pendLevel = none ∧
        (t.input i.val).sec = b.pendSec ∧
        (t.input i.val).ts32 = (b.pendSec * 1000000000 + b.pendNs) % 2 ^ 32 ∧
        (t.input i.val).inSecond = b.inSecond + 1 ∧
        (t.input i.val).chatter = (b.chatter || decide (b.inSecond + 1 > 50)) ∧
        t.rd (0xD8010C + 0x10 * i.val) = satInc (s.rd (0xD8010C + 0x10 * i.val)) ∧
        (s.inputSignal i.val < 16384 →
          t.sigVal (s.inputSignal i.val) = v ∧ t.sigQual (s.inputSignal i.val) = 0) ∧
        (b.chatter = false → t.evSet (816 + i.val) = true) ∧
        (∀ j, j ≠ i.val → t.input j = s.input j) ∧ Changes [.bin, .evt, .log, .pln, .regs, .time] s t)) ∧
    (∀ l, b.raw ≠ l → Answers (.inputLevelChange dt i l) s (fun t =>
      (t.input i.val).raw = l ∧
      (b.known = true → l = (b.value != s.inputInvert i.val) → (t.input i.val).pendLevel = none) ∧
      ((b.known = false ∨ l ≠ (b.value != s.inputInvert i.val)) →
        (t.input i.val).pendLevel = some l ∧ (t.input i.val).pendSince = (s.elapse dt).time.mono ∧
        (t.input i.val).pendSec = secOf (s.elapse dt).now ∧
        (t.input i.val).pendNs = nsOf (s.elapse dt).now / 1000 * 1000) ∧
      (t.input i.val).value = b.value ∧ (∀ j, j ≠ i.val → t.input j = s.input j) ∧
      Changes [.bin, .log, .time] s t)))

/-- The CAN controllers. A frame is stored in the lowest matching receive buffer, with MSG_LOST when the last one was not
read; a transmission that succeeds sets TX_DONE, and one that fails is sent again, or under ONE_SHOT sets TX_FAIL; bus
errors move the counts and the error state, and recovery returns a controller to ERROR_ACTIVE. The commands start a
recovery, an abort, a bit-rate search or the listen-only mode (R450 to R457). -/
def Obligations.CanControllersFollowTheirRules : Prop :=
  (∀ (dt b ago : Nat) (c : Fin 2) (x : CanCtl) (o : CanBuf) (id : Word) (esi : Bool) (dlc : Fin 16)
    (data : List Byte) (s : State), x = s.canCtl c.val → o = canBuf x b → s.img.loaded = true →
    s.canFlag c.val 0 = true → x.err ≠ .busOff → s.canMatch c.val id = some b →
    Answers (.canFrameRx dt c id esi dlc data ago) s (fun t =>
      canBuf (t.canCtl c.val) b = { o with
        id := id, dlc := dlc.val, esi := esi, ts32 := ts32Of ((s.elapse dt).now - ago), data := padTo data 64,
        msgLost := o.msgLost || o.newData, newData := true } ∧
      (∀ i, i ≠ b → canBuf (t.canCtl c.val) i = canBuf x i) ∧ (∀ d, d ≠ c.val → t.canCtl d = s.canCtl d) ∧
      t.evSet (832 + 16 * c.val) = true ∧ (o.newData = true → t.evSet (840 + 16 * c.val) = true) ∧
      (x.listen = true → (t.canCtl c.val).rxErr = x.rxErr) ∧
      (x.listen = false → (t.canCtl c.val).rxErr = recAfterGood x.rxErr) ∧ (t.canCtl c.val).alone = false ∧
      (x.abdRun = true → 1 ≤ x.abdGood → (t.canCtl c.val).abdFound = true ∧
        (t.canCtl c.val).timing = abdTiming x.abdIndex ∧ t.evSet (839 + 16 * c.val) = true) ∧
      Changes [.can, .cmds, .evt, .log, .pln, .regs, .time] s t)) ∧
  (∀ (dt b ago : Nat) (c : Fin 2) (x : CanCtl) (o : CanBuf) (s : State), x = s.canCtl c.val → x.sending = some b →
    o = canBuf x b →
    (∀ ack : Bool, Answers (.canTxComplete dt c true ack ago) s (fun t =>
      canBuf (t.canCtl c.val) b = { o with
        txReq := false, newData := true, ts32 := ts32Of ((s.elapse dt).now - ago) } ∧
      (∀ i, i ≠ b → canBuf (t.canCtl c.val) i = canBuf x i) ∧ (t.canCtl c.val).txErr = x.txErr - 1 ∧
      t.out = s.out ++ [.canFrame c.val o.id o.dlc (o.data.take (dlcBytes (o.id.getLsbD 30) o.dlc))] ∧
      t.evSet (833 + 16 * c.val) = true ∧
      (x.abort = some b → t.IsDone (canBase c.val) (s.cmd (canBase c.val)).runCode) ∧
      (∀ d, d ≠ c.val → t.canCtl d = s.canCtl d) ∧ Changes [.can, .cmds, .evt, .log, .out, .regs, .time] s t)) ∧
    (∀ ack : Bool, Answers (.canTxComplete dt c false ack ago) s (fun t =>
      (s.canFlag c.val 5 = true → canBuf (t.canCtl c.val) b = { o with txReq := false, txDoneFail := true } ∧
        t.evSet (834 + 16 * c.val) = true) ∧
      (s.canFlag c.val 5 = false → x.abort = some b → canBuf (t.canCtl c.val) b = { o with txReq := false }) ∧
      (s.canFlag c.val 5 = false → x.abort ≠ some b → (t.canCtl c.val).bufs = x.bufs) ∧
      (ack = true → x.ackBuf = b → 15 ≤ x.ackRun → x.alone = false →
        (t.canCtl c.val).alone = true ∧ t.evSet (838 + 16 * c.val) = true) ∧
      t.out = s.out ∧ (∀ d, d ≠ c.val → t.canCtl d = s.canCtl d) ∧
      Changes [.can, .cmds, .evt, .log, .regs, .time] s t))) ∧
  (∀ (dt : Nat) (c : Fin 2) (tx ack heavy : Bool) (x y : CanCtl) (s : State), x = s.canCtl c.val → y = canAddError x tx ack heavy →
    x.err ≠ .busOff → Answers (.canBusError dt c tx ack heavy) s (fun t =>
      (t.canCtl c.val).txErr = y.txErr ∧ (t.canCtl c.val).rxErr = y.rxErr ∧ (t.canCtl c.val).bufs = x.bufs ∧
      (255 < y.txErr → (t.canCtl c.val).err = .busOff ∧ (t.canCtl c.val).sending = none ∧
        t.evSet (836 + 16 * c.val) = true) ∧
      (y.txErr ≤ 255 → (127 < y.txErr ∨ 127 < y.rxErr) → (t.canCtl c.val).err = .errorPassive ∧
        (x.err = .errorActive → t.evSet (835 + 16 * c.val) = true)) ∧
      (y.txErr ≤ 127 → y.rxErr ≤ 127 → (t.canCtl c.val).err = .errorActive) ∧
      (x.abdRun = true → (t.canCtl c.val).abdIndex = (x.abdIndex + 1) % 16 ∧ (t.canCtl c.val).abdGood = 0) ∧
      (∀ d, d ≠ c.val → t.canCtl d = s.canCtl d) ∧ Changes [.can, .evt, .log, .regs, .time] s t)) ∧
  (∀ (dt : Nat) (c : Fin 2) (x : CanCtl) (s : State), x = s.canCtl c.val →
    (x.err = .busOff → x.recovering = true → Answers (.busOffRecovered dt c) s (fun t =>
      (t.canCtl c.val).err = .errorActive ∧ (t.canCtl c.val).txErr = 0 ∧ (t.canCtl c.val).rxErr = 0 ∧
      (t.canCtl c.val).recovering = false ∧ (t.canCtl c.val).bufs = x.bufs ∧ t.evSet (837 + 16 * c.val) = true ∧
      ((s.cmd (canBase c.val)).pending = true → (s.cmd (canBase c.val)).runCode = 1 → t.IsDone (canBase c.val) 1) ∧
      (∀ d, d ≠ c.val → t.canCtl d = s.canCtl d) ∧ Changes [.can, .cmds, .evt, .log, .regs, .time] s t)) ∧
    (∀ l, x.listenPend = some l → Answers (.listenApply dt c) s (fun t =>
      (t.canCtl c.val).listen = l ∧ (t.canCtl c.val).listenPend = none ∧ (t.canCtl c.val).bufs = x.bufs ∧
      t.IsDone (canBase c.val) (s.cmd (canBase c.val)).runCode ∧
      (∀ d, d ≠ c.val → t.canCtl d = s.canCtl d) ∧ Changes [.can, .cmds, .evt, .log, .regs, .time] s t)) ∧
    (x.abdRun = true → Answers (.abdCandidateTimeout dt c) s (fun t =>
      t.canCtl c.val = { x with abdIndex := (x.abdIndex + 1) % 16, abdGood := 0 } ∧
      (∀ d, d ≠ c.val → t.canCtl d = s.canCtl d) ∧ Changes [.can, .log, .time] s t)) ∧
    (∀ (m : Fin 16) (o : Nat), o = canOff c.val + 0x20 + 8 * m.val → m.val < byteAt s.fieldIo (canOff c.val + 1) →
      leAt s.fieldIo (o + 6) 2 ≠ 0 → leAt s.fieldIo (o + 4) 2 + byteAt s.fieldIo (o + 1) ≤ 16384 →
      Answers (.canMapTimeout dt c m) s (fun t =>
        (∀ i < byteAt s.fieldIo (o + 1), s.sigQual (leAt s.fieldIo (o + 4) 2 + i) ≠ 1 →
          t.sigQual (leAt s.fieldIo (o + 4) 2 + i) = 2) ∧
        t.pln.binVal = s.pln.binVal ∧ Changes [.pln, .log, .time] s t))) ∧
  (∀ (dt : Nat) (c : Fin 2) (x : CanCtl) (s : State), x = s.canCtl c.val → s.Ready (canBase c.val) →
    s.img.loaded = true →
    (x.err = .busOff → s.canFlag c.val 4 = false → Answers (.recover dt c 0 0) s (fun t =>
      t.Runs (canBase c.val) 1 0 ∧ t.canCtl c.val = { x with recovering := true } ∧
      (∀ d, d ≠ c.val → t.canCtl d = s.canCtl d) ∧ Changes [.can, .cmds, .time, .log] s t)) ∧
    (∀ arg : BitVec 16, arg.toNat < 64 → (canBuf x arg.toNat).txReq = true → Answers (.abortTx dt c 0 arg) s (fun t =>
      (x.sending = some arg.toNat → t.Runs (canBase c.val) 2 arg.toNat ∧
        t.canCtl c.val = { x with abort := some arg.toNat }) ∧
      (x.sending ≠ some arg.toNat → t.IsDone (canBase c.val) 2 ∧
        t.canCtl c.val = canSetBuf x arg.toNat { canBuf x arg.toNat with txReq := false }) ∧
      (∀ d, d ≠ c.val → t.canCtl d = s.canCtl d) ∧ Changes [.can, .cmds, .evt, .regs, .time, .log] s t)) ∧
    (x.listen = true → s.canFlag c.val 6 = true → Answers (.abdStart dt c 0 0) s (fun t =>
      t.Runs (canBase c.val) 3 0 ∧
      t.canCtl c.val = { x with abdRun := true, abdFound := false, abdIndex := 0, abdGood := 0 } ∧
      (∀ d, d ≠ c.val → t.canCtl d = s.canCtl d) ∧ Changes [.can, .cmds, .time, .log] s t)) ∧
    (∀ arg : BitVec 16, arg.toNat < 2 → x.err ≠ .busOff → Answers (.listen dt c 0 arg) s (fun t =>
      t.Runs (canBase c.val) 4 arg.toNat ∧ t.canCtl c.val = { x with listenPend := some (decide (arg.toNat = 1)) } ∧
      (∀ d, d ≠ c.val → t.canCtl d = s.canCtl d) ∧ Changes [.can, .cmds, .time, .log] s t)))
end

