-- ==== Sys2Proof/Laws/Tables.lean ====
section
/-!
SUPPORT. Reading after writing: sparse tables, registers, and the sample plane's memory, with the canonical form that
every write of that memory keeps.
-/

set_option Elab.async false

namespace Sys2Proof.Machine

open Sys2Proof

/-! ### Sparse tables -/

theorem tget_filter_same {α : Type} (t : Tbl α) (k : Nat) (d : α) :
    tget (t.filter (fun (e : Nat × α) => decide (e.1 ≠ k))) k d = d := by
  induction t with
  | nil => rfl
  | cons e t ih =>
    by_cases h : e.1 = k
    · rw [List.filter_cons_of_neg (by simp [h])]; exact ih
    · rw [List.filter_cons_of_pos (by simp [h])]; simp only [tget, h, ↓reduceIte]; exact ih

theorem tget_filter_ne {α : Type} (t : Tbl α) {k j : Nat} (d : α) (h : j ≠ k) :
    tget (t.filter (fun (e : Nat × α) => decide (e.1 ≠ k))) j d = tget t j d := by
  induction t with
  | nil => rfl
  | cons e t ih =>
    by_cases he : e.1 = k
    · rw [List.filter_cons_of_neg (by simp [he]), ih]
      simp [tget, he, Ne.symm h]
    · rw [List.filter_cons_of_pos (by simp [he])]; simp only [tget, ih]

theorem tget_tins_same {α : Type} (t : Tbl α) (k : Nat) (v d : α) : tget (tins t k v) k d = v := by
  induction t with
  | nil => simp [tins, tget]
  | cons e t ih =>
    obtain ⟨j, w⟩ := e
    simp only [tins]
    split
    · simp [tget]
    · split
      · simp [tget]
      · rename_i h; simp [tget, Ne.symm h, ih]

theorem tget_tins_ne {α : Type} (t : Tbl α) {k j : Nat} (v d : α) (h : j ≠ k) :
    tget (tins t k v) j d = tget t j d := by
  induction t with
  | nil => simp [tins, tget, Ne.symm h]
  | cons e t ih =>
    obtain ⟨i, w⟩ := e
    simp only [tins]
    split
    · simp [tget, Ne.symm h]
    · split
      · rename_i hk; subst hk; simp [tget, Ne.symm h]
      · simp [tget, ih]

/-- A table reads what was put at a key. -/
@[simp] theorem tget_tset_same {α : Type} [DecidableEq α] (t : Tbl α) (k : Nat) (v d : α) :
    tget (tset t k v d) k d = v := by
  unfold tset
  split
  · rename_i h; rw [tget_filter_same, h]
  · exact tget_tins_same t k v d

/-- A put at one key leaves every other key as it was. -/
theorem tget_tset_ne {α : Type} [DecidableEq α] (t : Tbl α) {k j : Nat} (v d d' : α) (h : j ≠ k) :
    tget (tset t k v d) j d' = tget t j d' := by
  unfold tset
  split
  · exact tget_filter_ne t d' h
  · exact tget_tins_ne t v d' h

/-! ### Registers -/

/-- A register reads what was written to it. -/
@[simp] theorem State.rd_wr_same (s : State) (a : Nat) (v : Word) : (s.wr a v).rd a = v :=
  tget_tset_same s.regs a v (regReset a)

/-- A register write leaves every other register as it was. -/
theorem State.rd_wr_ne (s : State) {a b : Nat} (v : Word) (h : b ≠ a) : (s.wr a v).rd b = s.rd b :=
  tget_tset_ne s.regs v (regReset a) (regReset b) h

/-! ### The sample plane's memory -/

theorem memGet_append (m n : List Host.Cell) (a : Nat) (d : Byte) :
    memGet (m ++ n) a d = memGet m a (memGet n a d) := by
  induction m with
  | nil => rfl
  | cons c m ih => obtain ⟨k, v⟩ := c; simp only [List.cons_append, memGet, ih]

theorem memGet_filter_out (m : List Host.Cell) (p : Nat → Bool) {a : Nat} (d : Byte) (h : p a = false) :
    memGet (m.filter (fun (c : Host.Cell) => p c.1)) a d = d := by
  induction m with
  | nil => rfl
  | cons c m ih =>
    obtain ⟨k, v⟩ := c
    by_cases hk : p k = true
    · rw [List.filter_cons_of_pos (by exact hk)]
      have : k ≠ a := fun e => by rw [e, h] at hk; cases hk
      simp [memGet, this, ih]
    · rw [List.filter_cons_of_neg (by exact hk)]; exact ih

theorem memGet_filter_in (m : List Host.Cell) (p : Nat → Bool) {a : Nat} (d : Byte) (h : p a = true) :
    memGet (m.filter (fun (c : Host.Cell) => p c.1)) a d = memGet m a d := by
  induction m with
  | nil => rfl
  | cons c m ih =>
    obtain ⟨k, v⟩ := c
    by_cases hk : p k = true
    · rw [List.filter_cons_of_pos (by exact hk)]; simp [memGet, ih]
    · rw [List.filter_cons_of_neg (by exact hk), ih]
      have : k ≠ a := fun e => hk (e ▸ h)
      simp [memGet, this]

theorem memGet_cells_out (bs : List Byte) {a b : Nat} (d : Byte) (h : a < b ∨ b + bs.length ≤ a) :
    memGet (memCells b bs) a d = d := by
  induction bs generalizing b with
  | nil => rfl
  | cons x bs ih =>
    have h' : a < b + 1 ∨ b + 1 + bs.length ≤ a := by simp only [List.length_cons] at h; omega
    simp only [memCells]
    split
    · exact ih h'
    · have : b ≠ a := by simp only [List.length_cons] at h; omega
      simp [memGet, this, ih h']

theorem memGet_cells_in (bs : List Byte) {b i : Nat} (h : i < bs.length) :
    memGet (memCells b bs) (b + i) (plnDefault (b + i)) = bs.getD i 0 := by
  induction bs generalizing b i with
  | nil => simp at h
  | cons x bs ih =>
    cases i with
    | zero =>
      simp only [memCells]
      split
      · rename_i e
        rw [memGet_cells_out bs _ (Or.inl (by omega))]
        simp [e]
      · simp [memGet]
    | succ i =>
      have hi : i < bs.length := by simpa using h
      have e : b + (i + 1) = b + 1 + i := by omega
      have ih' := ih (b := b + 1) hi
      simp only [memCells, List.getD_cons_succ, e]
      split
      · exact ih'
      · have : b ≠ b + 1 + i := by omega
        simp only [memGet, this, ↓reduceIte]
        exact ih'

/-- A byte outside a write of the plane memory reads as before. -/
theorem memGet_memPut_out (m : List Host.Cell) (bs : List Byte) {a b : Nat} (d : Byte)
    (h : a < b ∨ b + bs.length ≤ a) : memGet (memPut m b bs) a d = memGet m a d := by
  simp only [memPut, memGet_append, memGet_cells_out bs _ h]
  by_cases h1 : a < b
  · rw [memGet_filter_in m (fun k => decide (k < b)) _ (by simpa using h1),
      memGet_filter_out m (fun k => decide (b + bs.length ≤ k)) _ (by simp; omega)]
  · have h2 : b + bs.length ≤ a := by omega
    rw [memGet_filter_out m (fun k => decide (k < b)) _ (by simpa using h1),
      memGet_filter_in m (fun k => decide (b + bs.length ≤ k)) _ (by simpa using h2)]

/-- A byte of a write of the plane memory reads as what was written. -/
theorem memGet_memPut_in (m : List Host.Cell) (bs : List Byte) {b i : Nat} (h : i < bs.length) :
    memGet (memPut m b bs) (b + i) (plnDefault (b + i)) = bs.getD i 0 := by
  simp only [memPut, memGet_append]
  rw [memGet_filter_out m (fun k => decide (k < b)) _ (by simp),
    memGet_filter_out m (fun k => decide (b + bs.length ≤ k)) _ (by simp; omega)]
  exact memGet_cells_in bs h

theorem memSorted_mono {m : List Host.Cell} {lo lo' : Nat} (h : lo ≤ lo') (hm : memSorted lo' m = true) :
    memSorted lo m = true := by
  cases m with
  | nil => rfl
  | cons c m =>
    obtain ⟨k, v⟩ := c
    simp only [memSorted, Bool.and_eq_true, decide_eq_true_eq] at hm ⊢
    exact ⟨by omega, hm.2⟩

theorem memSorted_filter {m : List Host.Cell} {lo : Nat} (p : Host.Cell → Bool) (hm : memSorted lo m = true) :
    memSorted lo (m.filter p) = true := by
  induction m generalizing lo with
  | nil => rfl
  | cons c m ih =>
    obtain ⟨k, v⟩ := c
    simp only [memSorted, Bool.and_eq_true, decide_eq_true_eq] at hm
    by_cases hp : p (k, v) = true
    · rw [List.filter_cons_of_pos hp]
      simp only [memSorted, Bool.and_eq_true, decide_eq_true_eq]
      exact ⟨hm.1, ih hm.2⟩
    · rw [List.filter_cons_of_neg hp]
      exact memSorted_mono (by omega) (ih hm.2)

theorem memSorted_append {m n : List Host.Cell} {lo hi : Nat} (hle : lo ≤ hi) (hm : memSorted lo m = true)
    (hmh : ∀ c ∈ m, c.1 < hi) (hn : memSorted hi n = true) : memSorted lo (m ++ n) = true := by
  induction m generalizing lo with
  | nil => exact memSorted_mono hle hn
  | cons c m ih =>
    obtain ⟨k, v⟩ := c
    simp only [List.cons_append, memSorted, Bool.and_eq_true, decide_eq_true_eq] at hm ⊢
    have hk : k < hi := hmh (k, v) (by simp)
    exact ⟨hm.1, ih (by omega) hm.2 fun c hc => hmh c (by simp [hc])⟩

theorem memSorted_lift {m : List Host.Cell} {lo hi : Nat} (hm : memSorted lo m = true) (h : ∀ c ∈ m, hi ≤ c.1) :
    memSorted hi m = true := by
  cases m with
  | nil => rfl
  | cons c m =>
    obtain ⟨k, v⟩ := c
    simp only [memSorted, Bool.and_eq_true, decide_eq_true_eq] at hm ⊢
    exact ⟨h (k, v) (by simp), hm.2⟩

theorem memCells_sorted (a : Nat) (bs : List Byte) : memSorted a (memCells a bs) = true := by
  induction bs generalizing a with
  | nil => rfl
  | cons b bs ih =>
    simp only [memCells]
    split
    · exact memSorted_mono (Nat.le_succ a) (ih (a + 1))
    · simp only [memSorted, Nat.le_refl, decide_true, Bool.true_and]
      exact ih (a + 1)

theorem memCells_mem {a : Nat} {bs : List Byte} {c : Host.Cell} (h : c ∈ memCells a bs) :
    a ≤ c.1 ∧ c.1 < a + bs.length ∧ c.2 ≠ plnDefault c.1 := by
  induction bs generalizing a with
  | nil => simp [memCells] at h
  | cons b bs ih =>
    simp only [memCells] at h
    simp only [List.length_cons]
    split at h
    · have := ih h; exact ⟨by omega, by omega, this.2.2⟩
    · rename_i hb
      rcases List.mem_cons.mp h with e | h
      · subst e; exact ⟨Nat.le_refl _, by simp, hb⟩
      · have := ih h; exact ⟨by omega, by omega, this.2.2⟩

/-- A write keeps the canonical form of the plane memory. -/
theorem memPut_wf {m : List Host.Cell} {a : Nat} (bs : List Byte) (h : memWf m = true) :
    memWf (memPut m a bs) = true := by
  simp only [memWf, Bool.and_eq_true, List.all_eq_true, decide_eq_true_eq] at h ⊢
  obtain ⟨hs, hd⟩ := h
  constructor
  · unfold memPut
    rw [List.append_assoc]
    refine memSorted_append (Nat.zero_le a) (memSorted_filter _ hs) ?_ ?_
    · intro c hc; simpa using (List.mem_filter.mp hc).2
    · refine memSorted_append (hi := a + bs.length) (by omega) (memCells_sorted a bs) ?_ ?_
      · intro c hc; exact (memCells_mem hc).2.1
      · refine memSorted_lift (memSorted_filter _ hs) ?_
        intro c hc; simpa using (List.mem_filter.mp hc).2
  · intro c hc
    unfold memPut at hc
    rcases List.mem_append.mp hc with hc | hc
    · rcases List.mem_append.mp hc with hc | hc
      · exact hd c (List.mem_filter.mp hc).1
      · exact (memCells_mem hc).2.2
    · exact hd c (List.mem_filter.mp hc).1

end Sys2Proof.Machine
end

