-- ==== Sys2Proof/Laws/Frame.lean ====
section
/-!
SUPPORT. Which parts of the state an operation may change, and what every operation keeps.
-/

set_option Elab.async false

namespace Sys2Proof.Machine

open Sys2Proof

theorem Changes.refl {l : List Part} (s : State) : Changes l s s := ⟨fun p _ => by cases p <;> rfl⟩

theorem Keep.refl (s : State) : Keep s s := ⟨rfl, id, Nat.min_le_right _ _, fun _ h => h, Nat.le_refl _⟩

/-- At most the parts listed differ, and what every operation keeps is kept. -/
structure Fr (l : List Part) (s t : State) : Prop where
  ch : Changes l s t
  keep : Keep s t

theorem Fr.refl {l : List Part} (s : State) : Fr l s s := ⟨.refl s, .refl s⟩

variable {l : List Part} {z : State}

/-- An update of a state that differs at most in the parts listed is such a state again. -/
theorem Fr.upd {s : State} {a0 : List Instr} {a1 : List OutMsg} {a2 : Word} {a3 : Tbl Word} {a4 : Tbl CmdStat} {a5 : List Nat} {a6 : TimeBase} {a7 : GlbUnit} {a8 : PwrUnit} {a9 : LogUnit} {a10 : EvtUnit} {a11 : ImgUnit} {a12 : BcnUnit} {a13 : Tbl Port} {a14 : RdgUnit} {a15 : Tbl Coil} {a16 : Tbl BinIn} {a17 : Tbl CanCtl} {a18 : PrfUnit} {a19 : PlnUnit} {a20 : SviUnit} {a21 : CndUnit} {a22 : LmpUnit} {a23 : HstUnit} {a24 : KprUnit} {a25 : GalUnit} {a26 : PubUnit} {a27 : PairUnit}
    (h : Fr l z s) (c0 : a0 = s.pending := by exact rfl)
    (c1 : Part.out ∈ l ∨ a1 = s.out := by exact Or.inr rfl)
    (c2 : Part.readData ∈ l ∨ a2 = s.readData := by exact Or.inr rfl)
    (c3 : Part.regs ∈ l ∨ a3 = s.regs := by exact Or.inr rfl)
    (c4 : Part.cmds ∈ l ∨ a4 = s.cmds := by exact Or.inr rfl)
    (c5 : Part.once ∈ l ∨ a5 = s.once := by exact Or.inr rfl)
    (c6 : Part.time ∈ l ∨ a6 = s.time := by exact Or.inr rfl)
    (c7 : Part.glb ∈ l ∨ a7 = s.glb := by exact Or.inr rfl)
    (c8 : Part.pwr ∈ l ∨ a8 = s.pwr := by exact Or.inr rfl)
    (c9 : Part.log ∈ l ∨ a9 = s.log := by exact Or.inr rfl)
    (c10 : Part.evt ∈ l ∨ a10 = s.evt := by exact Or.inr rfl)
    (c11 : Part.img ∈ l ∨ a11 = s.img := by exact Or.inr rfl)
    (c12 : Part.bcn ∈ l ∨ a12 = s.bcn := by exact Or.inr rfl)
    (c13 : Part.ports ∈ l ∨ a13 = s.ports := by exact Or.inr rfl)
    (c14 : Part.rdg ∈ l ∨ a14 = s.rdg := by exact Or.inr rfl)
    (c15 : Part.cdv ∈ l ∨ a15 = s.cdv := by exact Or.inr rfl)
    (c16 : Part.bin ∈ l ∨ a16 = s.bin := by exact Or.inr rfl)
    (c17 : Part.can ∈ l ∨ a17 = s.can := by exact Or.inr rfl)
    (c18 : Part.prf ∈ l ∨ a18 = s.prf := by exact Or.inr rfl)
    (c19 : Part.pln ∈ l ∨ a19 = s.pln := by exact Or.inr rfl)
    (c20 : Part.svi ∈ l ∨ a20 = s.svi := by exact Or.inr rfl)
    (c21 : Part.cnd ∈ l ∨ a21 = s.cnd := by exact Or.inr rfl)
    (c22 : Part.lmp ∈ l ∨ a22 = s.lmp := by exact Or.inr rfl)
    (c23 : Part.hst ∈ l ∨ a23 = s.hst := by exact Or.inr rfl)
    (c24 : Part.kpr ∈ l ∨ a24 = s.kpr := by exact Or.inr rfl)
    (c25 : Part.gal ∈ l ∨ a25 = s.gal := by exact Or.inr rfl)
    (c26 : Part.pub ∈ l ∨ a26 = s.pub := by exact Or.inr rfl)
    (c27 : Part.pair ∈ l ∨ a27 = s.pair := by exact Or.inr rfl)
    (km : memWf s.pln.mem = true → memWf a19.mem = true := by exact fun x => x)
    (kt : min 65535 s.lmp.tampers ≤ a22.tampers := by exact Nat.min_le_right _ _)
    (ks : ∀ i, s.lmp.sensors.testBit i = true → a22.sensors.testBit i = true := by exact fun _ h => h)
    (kg : s.img.minGen ≤ a11.minGen := by exact Nat.le_refl _) :
    Fr l z ⟨a0, a1, a2, a3, a4, a5, a6, a7, a8, a9, a10, a11, a12, a13, a14, a15, a16, a17, a18, a19, a20, a21, a22, a23, a24, a25, a26, a27⟩ where
  ch := ⟨fun p hp => by
    have h1 := h.ch.same p hp
    cases p
    · exact c0.trans h1
    · exact (c1.resolve_left hp).trans h1
    · exact (c2.resolve_left hp).trans h1
    · exact (c3.resolve_left hp).trans h1
    · exact (c4.resolve_left hp).trans h1
    · exact (c5.resolve_left hp).trans h1
    · exact (c6.resolve_left hp).trans h1
    · exact (c7.resolve_left hp).trans h1
    · exact (c8.resolve_left hp).trans h1
    · exact (c9.resolve_left hp).trans h1
    · exact (c10.resolve_left hp).trans h1
    · exact (c11.resolve_left hp).trans h1
    · exact (c12.resolve_left hp).trans h1
    · exact (c13.resolve_left hp).trans h1
    · exact (c14.resolve_left hp).trans h1
    · exact (c15.resolve_left hp).trans h1
    · exact (c16.resolve_left hp).trans h1
    · exact (c17.resolve_left hp).trans h1
    · exact (c18.resolve_left hp).trans h1
    · exact (c19.resolve_left hp).trans h1
    · exact (c20.resolve_left hp).trans h1
    · exact (c21.resolve_left hp).trans h1
    · exact (c22.resolve_left hp).trans h1
    · exact (c23.resolve_left hp).trans h1
    · exact (c24.resolve_left hp).trans h1
    · exact (c25.resolve_left hp).trans h1
    · exact (c26.resolve_left hp).trans h1
    · exact (c27.resolve_left hp).trans h1⟩
  keep := ⟨c0.trans h.keep.pending, fun x => km (h.keep.mem x), by have := h.keep.tampers; show min 65535 z.lmp.tampers ≤ a22.tampers; omega,
    fun i x => ks i (h.keep.sensors i x), Nat.le_trans h.keep.minGen kg⟩

theorem Fr.ite {a b : State} {c : Prop} [Decidable c] (ha : Fr l z a) (hb : Fr l z b) :
    Fr l z (if c then a else b) := by split <;> assumption

theorem Fr.foldl {α : Type} {f : State → α → State} {xs : List α} {s : State}
    (h : Fr l z s) (hf : ∀ s x, Fr l z s → Fr l z (f s x)) : Fr l z (xs.foldl f s) := by
  induction xs generalizing s with
  | nil => exact h
  | cons x xs ih => exact ih (hf _ _ h)

theorem Fr.foldlP {α β : Type} {f : State × β → α → State × β} {xs : List α} {s : State × β}
    (h : Fr l z s.1) (hf : ∀ s x, Fr l z s.1 → Fr l z (f s x).1) : Fr l z (xs.foldl f s).1 := by
  induction xs generalizing s with
  | nil => exact h
  | cons x xs ih => exact ih (hf _ _ h)

theorem Fr.cut {a b : State} (h : Fr l z a) (k : Fr l z a → Fr l z b) : Fr l z b := k h

theorem Fr.pair {β : Type} {a : State} {b : β} {p : State × β} (e : p = (a, b)) (h : Fr l z p.1) : Fr l z a := by
  rw [e] at h; exact h

theorem Fr.some {a : State} {p : Option State} (e : p = .some a) (h : ∀ a, p = .some a → Fr l z a) : Fr l z a := h a e

end Sys2Proof.Machine
end

