-- ==== Sys2Proof/Laws/Frame1.lean ====
section
/-!
SUPPORT. What each operation may change, and that it keeps what every operation keeps (part 1).
-/

set_option Elab.async false

namespace Sys2Proof.Machine

open Sys2Proof

variable {l : List Part} {z : State}

theorem State.setPort_fr {s : State} {p : Nat} {x : Port} (hz : Fr l z s) (hl : [.ports] ⊆ l) :
    Fr l z (State.setPort s p x) := by
  unfold State.setPort
  refine Fr.upd ?_ (c13 := .inl (hl (by decide)))
  with_reducible assumption

theorem State.setQueue_fr {s : State} {n : Nat} {q : Queue} (hz : Fr l z s) (hl : [.hst] ⊆ l) :
    Fr l z (State.setQueue s n q) := by
  unfold State.setQueue
  refine Fr.upd ?_ (c23 := .inl (hl (by decide)))
  with_reducible assumption

theorem State.abortQueue_fr {s : State} {n : Nat} (hz : Fr l z s) (hl : [.ports, .hst] ⊆ l) :
    Fr l z (State.abortQueue s n) := by
  unfold State.abortQueue
  extract_lets +onlyGivenNames q0; clear_value q0
  extract_lets +onlyGivenNames q2; refine Fr.cut (a := q2) ?_ (fun _ => ?_)
  rotate_left; clear_value q2; rotate_right; unfold q2
  refine Fr.foldl ?_ ?_
  with_reducible assumption
  intro x10_0 x10_1 x10_2
  refine Fr.ite ?_ ?_
  with_reducible apply State.setPort_fr
  with_reducible assumption
  exact List.Subset.trans (by decide) hl
  with_reducible assumption
  with_reducible apply State.setQueue_fr
  with_reducible assumption
  exact List.Subset.trans (by decide) hl

theorem State.adoptCount_fr {s : State} {n : Nat} (hz : Fr l z s) (hl : [.pair] ⊆ l) :
    Fr l z (State.adoptCount s n) := by
  unfold State.adoptCount
  refine Fr.upd ?_ (c27 := .inl (hl (by decide)))
  with_reducible assumption

theorem State.oncePer_fr {s : State} {kind : Nat} {inst : Nat} {f : State → State} (hz : Fr l z s)
    (hf : ∀ x0, Fr l z x0 → Fr l z (f x0)) (hl : [.once] ⊆ l) :
    Fr l z (State.oncePer s kind inst f) := by
  unfold State.oncePer
  refine Fr.ite ?_ ?_
  with_reducible assumption
  with_reducible apply hf
  refine Fr.upd ?_ (c5 := .inl (hl (by decide)))
  with_reducible assumption

theorem State.wr_fr {s : State} {a : Nat} {v : Word} (hz : Fr l z s) (hl : [.regs] ⊆ l) :
    Fr l z (State.wr s a v) := by
  unfold State.wr
  refine Fr.upd ?_ (c3 := .inl (hl (by decide)))
  with_reducible assumption

theorem State.count_fr {s : State} {a : Nat} (hz : Fr l z s) (hl : [.regs] ⊆ l) :
    Fr l z (State.count s a) := by
  unfold State.count
  with_reducible apply State.wr_fr
  with_reducible assumption
  exact hl

theorem State.deliver_fr {s : State} {src : Nat} (hz : Fr l z s) (hl : [.regs, .evt] ⊆ l) :
    Fr l z (State.deliver s src) := by
  unfold State.deliver
  refine Fr.ite ?_ ?_
  refine Fr.ite ?_ ?_
  with_reducible assumption
  refine Fr.upd ?_ (c10 := .inl (hl (by decide)))
  with_reducible assumption
  refine Fr.ite ?_ ?_
  extract_lets +onlyGivenNames q6; clear_value q6
  extract_lets +onlyGivenNames q8; clear_value q8
  with_reducible apply State.wr_fr
  with_reducible assumption
  exact List.Subset.trans (by decide) hl
  with_reducible assumption

theorem State.setEvent_fr {s : State} {src : Nat} (hz : Fr l z s) (hl : [.regs, .evt] ⊆ l) :
    Fr l z (State.setEvent s src) := by
  unfold State.setEvent
  split
  with_reducible assumption
  refine Fr.ite ?_ ?_
  with_reducible assumption
  extract_lets +onlyGivenNames q4; refine Fr.cut (a := q4) ?_ (fun _ => ?_)
  rotate_left; clear_value q4; rotate_right; unfold q4
  with_reducible apply State.wr_fr
  with_reducible assumption
  exact List.Subset.trans (by decide) hl
  refine Fr.ite ?_ ?_
  with_reducible apply State.deliver_fr
  with_reducible assumption
  exact hl
  with_reducible assumption

theorem State.ageErr_fr {s : State} (hz : Fr l z s) (hl : [.regs, .once, .evt] ⊆ l) :
    Fr l z (State.ageErr s) := by
  unfold State.ageErr
  with_reducible apply State.oncePer_fr
  with_reducible apply State.count_fr
  with_reducible assumption
  exact List.Subset.trans (by decide) hl
  intro x4_0 x4_1
  with_reducible apply State.setEvent_fr
  with_reducible assumption
  exact List.Subset.trans (by decide) hl
  exact List.Subset.trans (by decide) hl

theorem State.setFn_fr {s : State} {id : Nat} {x : KFunc} (hz : Fr l z s) (hl : [.kpr] ⊆ l) :
    Fr l z (State.setFn s id x) := by
  unfold State.setFn
  refine Fr.upd ?_ (c24 := .inl (hl (by decide)))
  with_reducible assumption

theorem State.alignDrop_fr {s : State} {kind : Nat} {id : Nat} (hz : Fr l z s) (hl : [.pair] ⊆ l) :
    Fr l z (State.alignDrop s kind id) := by
  unfold State.alignDrop
  refine Fr.upd ?_ (c27 := .inl (hl (by decide)))
  with_reducible assumption

theorem State.alignFn_fr {s : State} {f : Nat} {a : List Byte} {b : List Byte} {sel : Nat} {consec : Nat}
    (hz : Fr l z s) (hl : [.kpr, .pair] ⊆ l) :
    Fr l z (State.alignFn s f a b sel consec) := by
  unfold State.alignFn
  with_reducible apply State.setFn_fr
  with_reducible apply State.alignDrop_fr
  with_reducible assumption
  exact List.Subset.trans (by decide) hl
  exact List.Subset.trans (by decide) hl

theorem State.plnPut_fr {s : State} {a : Nat} {bs : List Byte} (hz : Fr l z s) (hl : [.pln] ⊆ l) :
    Fr l z (State.plnPut s a bs) := by
  unfold State.plnPut
  exact Fr.upd hz (c19 := .inl (hl (by decide))) (km := fun h => memPut_wf bs h)

theorem State.alignDec_fr {s : State} {work : BitVec 4096} {history : List Byte} (hz : Fr l z s) (hl : [.pln,
      .pair] ⊆ l) :
    Fr l z (State.alignDec s work history) := by
  unfold State.alignDec
  extract_lets +onlyGivenNames q0; refine Fr.cut (a := q0) ?_ (fun _ => ?_)
  rotate_left; clear_value q0; rotate_right; unfold q0
  with_reducible apply State.plnPut_fr
  with_reducible apply State.alignDrop_fr
  with_reducible assumption
  exact List.Subset.trans (by decide) hl
  exact List.Subset.trans (by decide) hl
  refine Fr.upd ?_ (c19 := .inl (hl (by decide)))
  with_reducible assumption

theorem State.alignFrameItems_fr {s : State} {frame : Nat} (hz : Fr l z s) (hl : [.pln, .kpr, .pair] ⊆ l) :
    Fr l z (State.alignFrameItems s frame) := by
  unfold State.alignFrameItems
  refine Fr.foldl ?_ ?_
  with_reducible assumption
  intro x2_0 x2_1 x2_2
  refine Fr.ite ?_ ?_
  split
  with_reducible apply State.alignFn_fr
  with_reducible assumption
  exact List.Subset.trans (by decide) hl
  with_reducible apply State.alignDec_fr
  with_reducible assumption
  exact List.Subset.trans (by decide) hl
  with_reducible assumption
  with_reducible assumption

theorem State.alignAtCommit_fr {s : State} {kind : Nat} {id : Nat} {x : Nat} {item : AlignItem} (hz : Fr l z s)
    (hl : [.pln, .kpr, .pair] ⊆ l) :
    Fr l z (State.alignAtCommit s kind id x item) := by
  unfold State.alignAtCommit
  extract_lets +onlyGivenNames q0; clear_value q0
  extract_lets +onlyGivenNames q2; refine Fr.cut (a := q2) ?_ (fun _ => ?_)
  rotate_left; clear_value q2; rotate_right; unfold q2
  refine Fr.upd ?_ (c27 := .inl (hl (by decide)))
  with_reducible assumption
  refine Fr.ite ?_ ?_
  with_reducible apply State.alignFrameItems_fr
  with_reducible assumption
  exact hl
  refine Fr.ite ?_ ?_
  with_reducible assumption
  with_reducible assumption

theorem State.alignBySync_fr {s : State} (hz : Fr l z s) (hl : [.cnd] ⊆ l) :
    Fr l z (State.alignBySync s) := by
  unfold State.alignBySync
  refine Fr.ite ?_ ?_
  refine Fr.upd ?_ (c21 := .inl (hl (by decide)))
  with_reducible assumption
  with_reducible assumption

theorem State.emit_fr {s : State} {m : OutMsg} (hz : Fr l z s) (hl : [.out] ⊆ l) :
    Fr l z (State.emit s m) := by
  unfold State.emit
  refine Fr.upd ?_ (c1 := .inl (hl (by decide)))
  with_reducible assumption

theorem State.alignCommit_fr {s : State} {frame : Nat} (hz : Fr l z s) (hl : [.out, .pair] ⊆ l) :
    Fr l z (State.alignCommit s frame) := by
  unfold State.alignCommit
  extract_lets +onlyGivenNames q0; clear_value q0
  refine Fr.ite ?_ ?_
  extract_lets +onlyGivenNames q3; refine Fr.cut (a := q3) ?_ (fun _ => ?_)
  rotate_left; clear_value q3; rotate_right; unfold q3
  refine Fr.foldl ?_ ?_
  with_reducible assumption
  intro x11_0 x11_1 x11_2
  with_reducible apply State.emit_fr
  with_reducible assumption
  exact List.Subset.trans (by decide) hl
  extract_lets +onlyGivenNames q15; clear_value q15
  extract_lets +onlyGivenNames q17; refine Fr.cut (a := q17) ?_ (fun _ => ?_)
  rotate_left; clear_value q17; rotate_right; unfold q17
  refine Fr.ite ?_ ?_
  refine Fr.upd ?_ (c27 := .inl (hl (by decide)))
  with_reducible assumption
  with_reducible assumption
  refine Fr.ite ?_ ?_
  extract_lets +onlyGivenNames q28; refine Fr.cut (a := q28) ?_ (fun _ => ?_)
  rotate_left; clear_value q28; rotate_right; unfold q28
  with_reducible apply State.emit_fr
  with_reducible assumption
  exact List.Subset.trans (by decide) hl
  refine Fr.upd ?_ (c27 := .inl (hl (by decide)))
  with_reducible assumption
  with_reducible assumption
  with_reducible assumption

theorem State.logLose_fr {s : State} {cls : Nat} {seq : Nat} (hz : Fr l z s) (hl : [.regs, .log, .evt] ⊆ l) :
    Fr l z (State.logLose s cls seq) := by
  unfold State.logLose
  extract_lets +onlyGivenNames q0; clear_value q0
  extract_lets +onlyGivenNames q2; clear_value q2
  extract_lets +onlyGivenNames q4; clear_value q4
  extract_lets +onlyGivenNames q6; refine Fr.cut (a := q6) ?_ (fun _ => ?_)
  rotate_left; clear_value q6; rotate_right; unfold q6
  refine Fr.upd ?_ (c9 := .inl (hl (by decide)))
  with_reducible assumption
  with_reducible apply State.setEvent_fr
  with_reducible apply State.count_fr
  with_reducible assumption
  exact List.Subset.trans (by decide) hl
  exact List.Subset.trans (by decide) hl

theorem State.logAccept_fr {s : State} {r : LogRec} (hz : Fr l z s) (hl : [.regs, .log, .evt] ⊆ l) :
    Fr l z (State.logAccept s r) := by
  unfold State.logAccept
  extract_lets +onlyGivenNames q0; clear_value q0
  extract_lets +onlyGivenNames q2; clear_value q2
  extract_lets +onlyGivenNames q4; refine Fr.cut (a := q4) ?_ (fun _ => ?_)
  rotate_left; clear_value q4; rotate_right; unfold q4
  refine Fr.upd ?_ (c9 := .inl (hl (by decide)))
  with_reducible assumption
  extract_lets +onlyGivenNames q12; clear_value q12
  extract_lets +onlyGivenNames q14; refine Fr.cut (a := q14) ?_ (fun _ => ?_)
  rotate_left; clear_value q14; rotate_right; unfold q14
  refine Fr.ite ?_ ?_
  with_reducible apply State.setEvent_fr
  refine Fr.upd ?_ (c9 := .inl (hl (by decide)))
  with_reducible assumption
  exact List.Subset.trans (by decide) hl
  with_reducible assumption
  refine Fr.ite ?_ ?_
  refine Fr.ite ?_ ?_
  with_reducible apply State.logLose_fr
  refine Fr.upd ?_ (c9 := .inl (hl (by decide)))
  with_reducible assumption
  exact hl
  refine Fr.upd ?_ (c9 := .inl (hl (by decide)))
  with_reducible assumption
  refine Fr.upd ?_ (c9 := .inl (hl (by decide)))
  with_reducible assumption

theorem State.logOffer_fr {s : State} {r : LogRec} (hz : Fr l z s) (hl : [.regs, .log, .evt] ⊆ l) :
    Fr l z (State.logOffer s r) := by
  unfold State.logOffer
  refine Fr.ite ?_ ?_
  with_reducible assumption
  refine Fr.ite ?_ ?_
  refine Fr.ite ?_ ?_
  with_reducible apply State.logAccept_fr
  with_reducible assumption
  exact hl
  with_reducible apply State.logLose_fr
  with_reducible assumption
  exact hl
  refine Fr.upd ?_ (c9 := .inl (hl (by decide)))
  with_reducible assumption

theorem State.logPut_fr {s : State} {code : Nat} {block : Nat} {inst : Nat} {p0 : Nat} {p1 : Nat} {p2 : Nat}
    (hz : Fr l z s) (hl : [.regs, .log, .evt] ⊆ l) :
    Fr l z (State.logPut s code block inst p0 p1 p2) := by
  unfold State.logPut
  with_reducible apply State.logOffer_fr
  with_reducible assumption
  exact hl

theorem State.eventRec_fr {s : State} {src : Nat} {inst : Nat} {p0 : Nat} (hz : Fr l z s) (hl : [.regs, .log,
      .evt] ⊆ l) :
    Fr l z (State.eventRec s src inst p0) := by
  unfold State.eventRec
  extract_lets +onlyGivenNames q0; clear_value q0
  with_reducible apply State.logPut_fr
  with_reducible assumption
  exact hl

theorem State.raiseRec_fr {s : State} {src : Nat} {inst : Nat} (hz : Fr l z s) (hl : [.regs, .log, .evt] ⊆ l) :
    Fr l z (State.raiseRec s src inst) := by
  unfold State.raiseRec
  with_reducible apply State.eventRec_fr
  with_reducible apply State.setEvent_fr
  with_reducible assumption
  exact List.Subset.trans (by decide) hl
  exact hl

theorem State.setCmd_fr {s : State} {reg : Nat} {c : CmdStat} (hz : Fr l z s) (hl : [.cmds] ⊆ l) :
    Fr l z (State.setCmd s reg c) := by
  unfold State.setCmd
  refine Fr.upd ?_ (c4 := .inl (hl (by decide)))
  with_reducible assumption

theorem State.raiseGlb_fr {s : State} {src : Nat} (hz : Fr l z s) (hl : [.regs, .log, .evt] ⊆ l) :
    Fr l z (State.raiseGlb s src) := by
  unfold State.raiseGlb
  with_reducible apply State.eventRec_fr
  with_reducible apply State.setEvent_fr
  with_reducible assumption
  exact List.Subset.trans (by decide) hl
  exact hl

theorem State.cmdDone_fr {s : State} {reg : Nat} (hz : Fr l z s) (hl : [.regs, .cmds, .log, .evt] ⊆ l) :
    Fr l z (State.cmdDone s reg) := by
  unfold State.cmdDone
  extract_lets +onlyGivenNames q0; clear_value q0
  extract_lets +onlyGivenNames q2; refine Fr.cut (a := q2) ?_ (fun _ => ?_)
  rotate_left; clear_value q2; rotate_right; unfold q2
  with_reducible apply State.setCmd_fr
  with_reducible assumption
  exact List.Subset.trans (by decide) hl
  split
  with_reducible assumption
  refine Fr.ite ?_ ?_
  with_reducible apply State.raiseGlb_fr
  with_reducible assumption
  exact List.Subset.trans (by decide) hl
  with_reducible apply State.setEvent_fr
  with_reducible assumption
  exact List.Subset.trans (by decide) hl

theorem State.refusedRec_fr {s : State} {reg : Nat} {code : Nat} (hz : Fr l z s) (hl : [.regs, .log, .evt] ⊆ l) :
    Fr l z (State.refusedRec s reg code) := by
  unfold State.refusedRec
  with_reducible apply State.raiseGlb_fr
  with_reducible apply State.logPut_fr
  with_reducible assumption
  exact hl
  exact hl

theorem State.cmdEndRefused_fr {s : State} {reg : Nat} (hz : Fr l z s) (hl : [.regs, .cmds, .log, .evt] ⊆ l) :
    Fr l z (State.cmdEndRefused s reg) := by
  unfold State.cmdEndRefused
  extract_lets +onlyGivenNames q0; clear_value q0
  with_reducible apply State.refusedRec_fr
  with_reducible apply State.setCmd_fr
  with_reducible assumption
  exact List.Subset.trans (by decide) hl
  exact List.Subset.trans (by decide) hl

theorem State.alignFail_fr {s : State} (hz : Fr l z s) (hl : [.regs, .cmds, .log, .evt, .pair] ⊆ l) :
    Fr l z (State.alignFail s) := by
  unfold State.alignFail
  refine Fr.ite ?_ ?_
  extract_lets +onlyGivenNames q1; clear_value q1
  extract_lets +onlyGivenNames q3; refine Fr.cut (a := q3) ?_ (fun _ => ?_)
  rotate_left; clear_value q3; rotate_right; unfold q3
  with_reducible apply State.raiseRec_fr
  refine Fr.upd ?_ (c27 := .inl (hl (by decide)))
  with_reducible assumption
  exact List.Subset.trans (by decide) hl
  extract_lets +onlyGivenNames q13; clear_value q13
  refine Fr.ite ?_ ?_
  with_reducible apply State.cmdEndRefused_fr
  with_reducible assumption
  exact List.Subset.trans (by decide) hl
  with_reducible assumption
  with_reducible assumption

theorem State.alignEnd_fr {s : State} (hz : Fr l z s) (hl : [.regs, .cmds, .log, .evt, .cnd, .pair] ⊆ l) :
    Fr l z (State.alignEnd s) := by
  unfold State.alignEnd
  refine Fr.ite ?_ ?_
  refine Fr.ite ?_ ?_
  refine Fr.upd ?_ (c27 := .inl (hl (by decide)))
  with_reducible assumption
  refine Fr.ite ?_ ?_
  extract_lets +onlyGivenNames q5; clear_value q5
  extract_lets +onlyGivenNames q7; clear_value q7
  extract_lets +onlyGivenNames q9; clear_value q9
  extract_lets +onlyGivenNames q11; clear_value q11
  extract_lets +onlyGivenNames q13; refine Fr.cut (a := q13) ?_ (fun _ => ?_)
  rotate_left; clear_value q13; rotate_right; unfold q13
  refine Fr.upd ?_ (c21 := .inl (hl (by decide))) (c27 := .inl (hl (by decide)))
  with_reducible assumption
  extract_lets +onlyGivenNames q21; refine Fr.cut (a := q21) ?_ (fun _ => ?_)
  rotate_left; clear_value q21; rotate_right; unfold q21
  refine Fr.ite ?_ ?_
  with_reducible assumption
  with_reducible apply State.raiseRec_fr
  with_reducible assumption
  exact List.Subset.trans (by decide) hl
  extract_lets +onlyGivenNames q32; clear_value q32
  refine Fr.ite ?_ ?_
  with_reducible apply State.cmdDone_fr
  with_reducible assumption
  exact List.Subset.trans (by decide) hl
  with_reducible assumption
  with_reducible apply State.alignFail_fr
  with_reducible assumption
  exact List.Subset.trans (by decide) hl
  with_reducible assumption

theorem State.bregSend_fr {s : State} {typ : Nat} {frame : Nat} {payload : List Byte} (hz : Fr l z s) (hl : [.out,
      .pair] ⊆ l) :
    Fr l z (State.bregSend s typ frame payload) := by
  unfold State.bregSend
  extract_lets +onlyGivenNames q0; clear_value q0
  extract_lets +onlyGivenNames q2; clear_value q2
  extract_lets +onlyGivenNames q4; clear_value q4
  extract_lets +onlyGivenNames q6; clear_value q6
  extract_lets +onlyGivenNames q8; clear_value q8
  extract_lets +onlyGivenNames q10; refine Fr.cut (a := q10) ?_ (fun _ => ?_)
  rotate_left; clear_value q10; rotate_right; unfold q10
  refine Fr.upd ?_ (c27 := .inl (hl (by decide)))
  with_reducible assumption
  with_reducible apply State.emit_fr
  with_reducible apply State.emit_fr
  with_reducible assumption
  exact List.Subset.trans (by decide) hl
  exact List.Subset.trans (by decide) hl

theorem State.alignPlan_fr {s : State} {lead : Nat} {span : Nat} (hz : Fr l z s) (hl : [.out, .pair] ⊆ l) :
    Fr l z (State.alignPlan s lead span) := by
  unfold State.alignPlan
  extract_lets +onlyGivenNames q0; clear_value q0
  extract_lets +onlyGivenNames q2; clear_value q2
  with_reducible apply State.bregSend_fr
  refine Fr.upd ?_ (c27 := .inl (hl (by decide)))
  with_reducible assumption
  exact hl

theorem State.alignRequest_fr {s : State} (hz : Fr l z s) (hl : [.out, .pair] ⊆ l) :
    Fr l z (State.alignRequest s) := by
  unfold State.alignRequest
  with_reducible apply State.bregSend_fr
  refine Fr.upd ?_ (c27 := .inl (hl (by decide)))
  with_reducible assumption
  exact hl

theorem State.alignSendChain_fr {s : State} (hz : Fr l z s) (hl : [.out, .pair] ⊆ l) :
    Fr l z (State.alignSendChain s) := by
  unfold State.alignSendChain
  extract_lets +onlyGivenNames q0; refine Fr.cut (a := q0) ?_ (fun _ => ?_)
  rotate_left; clear_value q0; rotate_right; unfold q0
  refine Fr.foldl ?_ ?_
  with_reducible assumption
  intro x8_0 x8_1 x8_2
  extract_lets +onlyGivenNames q9; clear_value q9
  with_reducible apply State.emit_fr
  with_reducible assumption
  exact List.Subset.trans (by decide) hl
  extract_lets +onlyGivenNames q14; refine Fr.cut (a := q14) ?_ (fun _ => ?_)
  rotate_left; clear_value q14; rotate_right; unfold q14
  refine Fr.foldl ?_ ?_
  with_reducible assumption
  intro x22_0 x22_1 x22_2
  extract_lets +onlyGivenNames q23; clear_value q23
  with_reducible apply State.emit_fr
  with_reducible assumption
  exact List.Subset.trans (by decide) hl
  extract_lets +onlyGivenNames q28; refine Fr.cut (a := q28) ?_ (fun _ => ?_)
  rotate_left; clear_value q28; rotate_right; unfold q28
  refine Fr.foldl ?_ ?_
  with_reducible assumption
  intro x36_0 x36_1 x36_2
  with_reducible apply State.emit_fr
  with_reducible assumption
  exact List.Subset.trans (by decide) hl
  refine Fr.upd ?_ (c27 := .inl (hl (by decide)))
  with_reducible assumption

theorem State.setChan_fr {s : State} {c : Nat} {x : Chan} (hz : Fr l z s) (hl : [.pln] ⊆ l) :
    Fr l z (State.setChan s c x) := by
  unfold State.setChan
  refine Fr.upd ?_ (c19 := .inl (hl (by decide)))
  with_reducible assumption

theorem State.setSlot_fr {s : State} {c : Nat} {x : Slot} (hz : Fr l z s) (hl : [.cnd] ⊆ l) :
    Fr l z (State.setSlot s c x) := by
  unfold State.setSlot
  refine Fr.upd ?_ (c21 := .inl (hl (by decide)))
  with_reducible assumption

theorem State.putRings_fr {s : State} {c : Nat} {rings : List (List Byte)} (hz : Fr l z s) (hl : [.pln] ⊆ l) :
    Fr l z (State.putRings s c rings) := by
  unfold State.putRings
  extract_lets +onlyGivenNames q0; clear_value q0
  refine Fr.foldl ?_ ?_
  with_reducible assumption
  intro x4_0 x4_1 x4_2
  with_reducible apply State.plnPut_fr
  with_reducible assumption
  exact hl

theorem State.setStream_fr {s : State} {i : Nat} {x : Stream} (hz : Fr l z s) (hl : [.svi] ⊆ l) :
    Fr l z (State.setStream s i x) := by
  unfold State.setStream
  refine Fr.upd ?_ (c20 := .inl (hl (by decide)))
  with_reducible assumption

theorem State.alignSlot_fr {s : State} {c : Nat} {n : Nat} {item : AlignItem} (hz : Fr l z s) (hl : [.pln, .svi,
      .cnd, .pair] ⊆ l) :
    Fr l z (State.alignSlot s c n item) := by
  unfold State.alignSlot
  split
  extract_lets +onlyGivenNames q1; clear_value q1
  extract_lets +onlyGivenNames q3; refine Fr.cut (a := q3) ?_ (fun _ => ?_)
  rotate_left; clear_value q3; rotate_right; unfold q3
  with_reducible apply State.setChan_fr
  with_reducible apply State.setSlot_fr
  with_reducible apply State.alignDrop_fr
  with_reducible assumption
  exact List.Subset.trans (by decide) hl
  exact List.Subset.trans (by decide) hl
  exact List.Subset.trans (by decide) hl
  extract_lets +onlyGivenNames q16; refine Fr.cut (a := q16) ?_ (fun _ => ?_)
  rotate_left; clear_value q16; rotate_right; unfold q16
  with_reducible apply State.putRings_fr
  with_reducible assumption
  exact List.Subset.trans (by decide) hl
  with_reducible apply State.setStream_fr
  with_reducible assumption
  exact List.Subset.trans (by decide) hl
  with_reducible assumption

theorem forN_fr {s : State} {n : Nat} {f : Nat → State → State} (hz : Fr l z s) (hf : ∀ x0 x1, Fr l z x1 → Fr l z
    (f x0 x1)) :
    Fr l z (forN n f s) := by
  unfold forN
  refine Fr.foldl ?_ ?_
  with_reducible assumption
  intro x2_0 x2_1 x2_2
  with_reducible apply hf
  with_reducible assumption

theorem State.alignStream_fr {s : State} {c : StreamCfg} {t : Nat} (hz : Fr l z s) (hl : [.pln, .svi, .cnd,
      .pair] ⊆ l) :
    Fr l z (State.alignStream s c t) := by
  unfold State.alignStream
  refine Fr.ite ?_ ?_
  with_reducible assumption
  with_reducible apply forN_fr
  with_reducible assumption
  intro x4_0 x4_1 x4_2
  split
  with_reducible assumption
  with_reducible apply State.alignSlot_fr
  with_reducible assumption
  exact hl

theorem State.alignTick_fr {s : State} (hz : Fr l z s) (hl : [.out, .cnd, .pair] ⊆ l) :
    Fr l z (State.alignTick s) := by
  unfold State.alignTick
  refine Fr.ite ?_ ?_
  extract_lets +onlyGivenNames q1; clear_value q1
  extract_lets +onlyGivenNames q3; refine Fr.cut (a := q3) ?_ (fun _ => ?_)
  rotate_left; clear_value q3; rotate_right; unfold q3
  refine Fr.upd ?_ (c27 := .inl (hl (by decide)))
  with_reducible assumption
  refine Fr.ite ?_ ?_
  with_reducible apply State.alignSendChain_fr
  with_reducible assumption
  exact List.Subset.trans (by decide) hl
  refine Fr.upd ?_ (c21 := .inl (hl (by decide)))
  with_reducible assumption
  with_reducible assumption

theorem State.sviDrop_fr {s : State} (hz : Fr l z s) (hl : [.regs, .cmds, .log, .evt, .svi] ⊆ l) :
    Fr l z (State.sviDrop s) := by
  unfold State.sviDrop
  refine Fr.ite ?_ ?_
  with_reducible apply State.cmdEndRefused_fr
  refine Fr.upd ?_ (c20 := .inl (hl (by decide)))
  with_reducible assumption
  exact List.Subset.trans (by decide) hl
  with_reducible assumption

theorem State.sviStep_fr {s : State} {n : Nat} (hz : Fr l z s) (hl : [.regs, .cmds, .log, .evt, .svi] ⊆ l) :
    Fr l z (State.sviStep s n) := by
  unfold State.sviStep
  split
  refine Fr.ite ?_ ?_
  with_reducible apply State.sviDrop_fr
  with_reducible assumption
  exact hl
  with_reducible assumption
  with_reducible assumption

theorem State.hstDrop_fr {s : State} (hz : Fr l z s) (hl : [.regs, .cmds, .log, .evt, .hst] ⊆ l) :
    Fr l z (State.hstDrop s) := by
  unfold State.hstDrop
  extract_lets +onlyGivenNames q0; clear_value q0
  extract_lets +onlyGivenNames q2; refine Fr.cut (a := q2) ?_ (fun _ => ?_)
  rotate_left; clear_value q2; rotate_right; unfold q2
  refine Fr.ite ?_ ?_
  with_reducible apply State.cmdEndRefused_fr
  refine Fr.upd ?_ (c23 := .inl (hl (by decide)))
  with_reducible assumption
  exact List.Subset.trans (by decide) hl
  with_reducible assumption
  split
  with_reducible assumption
  refine Fr.ite ?_ ?_
  with_reducible assumption
  with_reducible apply State.cmdEndRefused_fr
  refine Fr.upd ?_ (c23 := .inl (hl (by decide)))
  with_reducible assumption
  exact List.Subset.trans (by decide) hl

theorem State.hstStep_fr {s : State} {n : Nat} (hz : Fr l z s) (hl : [.regs, .cmds, .log, .evt, .hst] ⊆ l) :
    Fr l z (State.hstStep s n) := by
  unfold State.hstStep
  extract_lets +onlyGivenNames q0
  refine Fr.ite ?_ ?_
  with_reducible apply State.hstDrop_fr
  with_reducible assumption
  exact hl
  with_reducible assumption

theorem State.pubDrop_fr {s : State} (hz : Fr l z s) (hl : [.regs, .cmds, .log, .evt, .pub] ⊆ l) :
    Fr l z (State.pubDrop s) := by
  unfold State.pubDrop
  split
  with_reducible assumption
  with_reducible apply State.cmdEndRefused_fr
  refine Fr.upd ?_ (c26 := .inl (hl (by decide)))
  with_reducible assumption
  exact List.Subset.trans (by decide) hl

theorem State.pubStep_fr {s : State} {n : Nat} (hz : Fr l z s) (hl : [.regs, .cmds, .log, .evt, .pub] ⊆ l) :
    Fr l z (State.pubStep s n) := by
  unfold State.pubStep
  split
  refine Fr.ite ?_ ?_
  with_reducible apply State.pubDrop_fr
  with_reducible assumption
  exact hl
  with_reducible assumption
  with_reducible assumption

theorem State.reloadEnd_fr {s : State} {result : Nat} (hz : Fr l z s) (hl : [.regs, .cmds, .log, .evt, .img] ⊆ l) :
    Fr l z (State.reloadEnd s result) := by
  unfold State.reloadEnd
  extract_lets +onlyGivenNames q0
  extract_lets +onlyGivenNames q1; refine Fr.cut (a := q1) ?_ (fun _ => ?_)
  rotate_left; clear_value q1; rotate_right; unfold q1
  refine Fr.upd ?_ (c11 := .inl (hl (by decide)))
  with_reducible assumption
  with_reducible apply State.cmdDone_fr
  with_reducible apply State.setEvent_fr
  with_reducible assumption
  exact List.Subset.trans (by decide) hl
  exact List.Subset.trans (by decide) hl

theorem State.reloadDefer_fr {s : State} (hz : Fr l z s) (hl : [.regs, .cmds, .log, .evt, .img] ⊆ l) :
    Fr l z (State.reloadDefer s) := by
  unfold State.reloadDefer
  refine Fr.ite ?_ ?_
  with_reducible apply State.reloadEnd_fr
  with_reducible assumption
  exact hl
  with_reducible assumption

theorem State.setDrop_fr {s : State} (hz : Fr l z s) (hl : [.regs, .cmds, .log, .evt, .img] ⊆ l) :
    Fr l z (State.setDrop s) := by
  unfold State.setDrop
  refine Fr.ite ?_ ?_
  with_reducible apply State.cmdEndRefused_fr
  refine Fr.upd ?_ (c11 := .inl (hl (by decide)))
  with_reducible assumption
  exact List.Subset.trans (by decide) hl
  with_reducible assumption

theorem State.imgStep_fr {s : State} {n : Nat} (hz : Fr l z s) (hl : [.regs, .cmds, .log, .evt, .img] ⊆ l) :
    Fr l z (State.imgStep s n) := by
  unfold State.imgStep
  extract_lets +onlyGivenNames q0; refine Fr.cut (a := q0) ?_ (fun _ => ?_)
  rotate_left; clear_value q0; rotate_right; unfold q0
  split
  refine Fr.ite ?_ ?_
  with_reducible apply State.reloadDefer_fr
  with_reducible assumption
  exact hl
  with_reducible assumption
  with_reducible assumption
  split
  refine Fr.ite ?_ ?_
  with_reducible apply State.setDrop_fr
  with_reducible assumption
  exact hl
  with_reducible assumption
  with_reducible assumption

theorem State.kprDrop_fr {s : State} (hz : Fr l z s) (hl : [.regs, .cmds, .log, .evt, .kpr] ⊆ l) :
    Fr l z (State.kprDrop s) := by
  unfold State.kprDrop
  split
  with_reducible assumption
  with_reducible assumption
  with_reducible apply State.cmdEndRefused_fr
  refine Fr.upd ?_ (c24 := .inl (hl (by decide)))
  with_reducible assumption
  exact List.Subset.trans (by decide) hl
  extract_lets +onlyGivenNames q7; refine Fr.cut (a := q7) ?_ (fun _ => ?_)
  rotate_left; clear_value q7; rotate_right; unfold q7
  refine Fr.foldl ?_ ?_
  with_reducible assumption
  intro x15_0 x15_1 x15_2
  with_reducible apply State.setFn_fr
  with_reducible assumption
  exact List.Subset.trans (by decide) hl
  with_reducible apply State.cmdEndRefused_fr
  refine Fr.upd ?_ (c24 := .inl (hl (by decide)))
  with_reducible assumption
  exact List.Subset.trans (by decide) hl

theorem State.kprStep_fr {s : State} {old : Nat} {n : Nat} (hz : Fr l z s) (hl : [.regs, .cmds, .log, .evt,
      .kpr] ⊆ l) :
    Fr l z (State.kprStep s old n) := by
  unfold State.kprStep
  extract_lets +onlyGivenNames q0; clear_value q0
  extract_lets +onlyGivenNames q2; refine Fr.cut (a := q2) ?_ (fun _ => ?_)
  rotate_left; clear_value q2; rotate_right; unfold q2
  refine Fr.ite ?_ ?_
  with_reducible apply State.kprDrop_fr
  with_reducible assumption
  exact hl
  with_reducible assumption
  refine Fr.upd ?_ (c24 := .inl (hl (by decide)))
  with_reducible assumption

theorem State.syncAdd_fr {s : State} {s0 : Nat} {byCmd : Bool} {local_ : Bool} (hz : Fr l z s) (hl : [.out,
      .cnd] ⊆ l) :
    Fr l z (State.syncAdd s s0 byCmd local_) := by
  unfold State.syncAdd
  extract_lets +onlyGivenNames q0; clear_value q0
  extract_lets +onlyGivenNames q2; refine Fr.cut (a := q2) ?_ (fun _ => ?_)
  rotate_left; clear_value q2; rotate_right; unfold q2
  refine Fr.upd ?_ (c21 := .inl (hl (by decide)))
  with_reducible assumption
  refine Fr.ite ?_ ?_
  with_reducible apply State.emit_fr
  refine Fr.upd ?_ (c21 := .inl (hl (by decide)))
  with_reducible assumption
  exact List.Subset.trans (by decide) hl
  with_reducible assumption

theorem State.syncRequest_fr {s : State} (hz : Fr l z s) (hl : [.out, .cnd] ⊆ l) :
    Fr l z (State.syncRequest s) := by
  unfold State.syncRequest
  with_reducible apply State.syncAdd_fr
  with_reducible assumption
  exact hl

theorem State.sviNote_fr {s : State} {i : Nat} (hz : Fr l z s) (hl : [.regs, .evt] ⊆ l) :
    Fr l z (State.sviNote s i) := by
  unfold State.sviNote
  refine Fr.ite ?_ ?_
  with_reducible assumption
  extract_lets +onlyGivenNames q2; clear_value q2
  with_reducible apply State.setEvent_fr
  with_reducible apply State.wr_fr
  with_reducible assumption
  exact List.Subset.trans (by decide) hl
  exact hl

theorem State.setStreamState_fr {s : State} {i : Nat} {st : Nat} (hz : Fr l z s) (hl : [.regs, .evt, .svi] ⊆ l) :
    Fr l z (State.setStreamState s i st) := by
  unfold State.setStreamState
  refine Fr.ite ?_ ?_
  with_reducible assumption
  with_reducible apply State.sviNote_fr
  with_reducible apply State.setStream_fr
  with_reducible assumption
  exact List.Subset.trans (by decide) hl
  exact List.Subset.trans (by decide) hl

theorem State.streamWait_fr {s : State} {c : StreamCfg} (hz : Fr l z s) (hl : [.regs, .evt, .svi] ⊆ l) :
    Fr l z (State.streamWait s c) := by
  unfold State.streamWait
  extract_lets +onlyGivenNames q0; clear_value q0
  extract_lets +onlyGivenNames q2; clear_value q2
  extract_lets +onlyGivenNames q4; clear_value q4
  extract_lets +onlyGivenNames q6; refine Fr.cut (a := q6) ?_ (fun _ => ?_)
  rotate_left; clear_value q6; rotate_right; unfold q6
  with_reducible apply State.setStreamState_fr
  with_reducible assumption
  exact hl
  with_reducible apply State.setStream_fr
  with_reducible assumption
  exact List.Subset.trans (by decide) hl

theorem State.streamsPlace_fr {s : State} (hz : Fr l z s) (hl : [.regs, .evt, .svi] ⊆ l) :
    Fr l z (State.streamsPlace s) := by
  unfold State.streamsPlace
  refine Fr.foldl ?_ ?_
  with_reducible assumption
  intro x2_0 x2_1 x2_2
  refine Fr.ite ?_ ?_
  with_reducible apply State.streamWait_fr
  with_reducible assumption
  exact hl
  with_reducible apply State.setStreamState_fr
  with_reducible assumption
  exact hl

theorem State.setProg_fr {s : State} {p : Nat} {x : Prog} (hz : Fr l z s) (hl : [.gal] ⊆ l) :
    Fr l z (State.setProg s p x) := by
  unfold State.setProg
  refine Fr.upd ?_ (c25 := .inl (hl (by decide)))
  with_reducible assumption

theorem State.arming_fr {s : State} {p : Nat} (hz : Fr l z s) (hl : [.gal] ⊆ l) :
    Fr l z (State.arming s p) := by
  unfold State.arming
  extract_lets +onlyGivenNames q0; clear_value q0
  with_reducible apply State.setProg_fr
  with_reducible assumption
  exact hl

theorem State.galEvent_fr {s : State} {bit : Nat} {p : Nat} {seq : Nat} {primary : Nat} (hz : Fr l z s)
    (hl : [.regs, .log, .evt] ⊆ l) :
    Fr l z (State.galEvent s bit p seq primary) := by
  unfold State.galEvent
  with_reducible apply State.logPut_fr
  with_reducible apply State.setEvent_fr
  with_reducible assumption
  exact List.Subset.trans (by decide) hl
  exact hl

theorem State.hold_fr {s : State} {p : Nat} (hz : Fr l z s) (hl : [.regs, .log, .evt, .gal] ⊆ l) :
    Fr l z (State.hold s p) := by
  unfold State.hold
  extract_lets +onlyGivenNames q0; clear_value q0
  with_reducible apply State.galEvent_fr
  with_reducible apply State.setProg_fr
  with_reducible assumption
  exact List.Subset.trans (by decide) hl
  exact List.Subset.trans (by decide) hl

theorem State.ringPutBlock_fr {s : State} {p : Nat} {bytes : List Byte} {lastInst : Nat} (hz : Fr l z s)
    (hl : [.regs, .log, .evt, .gal] ⊆ l) :
    Fr l z (State.ringPutBlock s p bytes lastInst) := by
  unfold State.ringPutBlock
  extract_lets +onlyGivenNames q0; clear_value q0
  extract_lets +onlyGivenNames q2; clear_value q2
  extract_lets +onlyGivenNames q4; clear_value q4
  extract_lets +onlyGivenNames q6; clear_value q6
  refine Fr.ite ?_ ?_
  refine Fr.ite ?_ ?_
  with_reducible apply State.hold_fr
  with_reducible assumption
  exact hl
  with_reducible assumption
  extract_lets +onlyGivenNames q14; clear_value q14
  extract_lets +onlyGivenNames q16; clear_value q16
  extract_lets +onlyGivenNames q18; clear_value q18
  with_reducible apply State.setProg_fr
  with_reducible assumption
  exact List.Subset.trans (by decide) hl

theorem State.flushStream_fr {s : State} {p : Nat} {k : GKey} (hz : Fr l z s) (hl : [.regs, .log, .evt, .gal] ⊆ l) :
    Fr l z (State.flushStream s p k) := by
  unfold State.flushStream
  extract_lets +onlyGivenNames q0; clear_value q0
  extract_lets +onlyGivenNames q2; clear_value q2
  refine Fr.ite ?_ ?_
  with_reducible assumption
  extract_lets +onlyGivenNames q6; clear_value q6
  extract_lets +onlyGivenNames q8; refine Fr.cut (a := q8) ?_ (fun _ => ?_)
  rotate_left; clear_value q8; rotate_right; unfold q8
  with_reducible apply State.ringPutBlock_fr
  with_reducible assumption
  exact hl
  extract_lets +onlyGivenNames q17; clear_value q17
  refine Fr.ite ?_ ?_
  with_reducible assumption
  with_reducible apply State.setProg_fr
  with_reducible assumption
  exact List.Subset.trans (by decide) hl

theorem State.flushAll_fr {s : State} {p : Nat} (hz : Fr l z s) (hl : [.regs, .log, .evt, .gal] ⊆ l) :
    Fr l z (State.flushAll s p) := by
  unfold State.flushAll
  refine Fr.foldl ?_ ?_
  with_reducible assumption
  intro x2_0 x2_1 x2_2
  extract_lets +onlyGivenNames q3; clear_value q3
  extract_lets +onlyGivenNames q5; clear_value q5
  extract_lets +onlyGivenNames q7; clear_value q7
  extract_lets +onlyGivenNames q9; clear_value q9
  extract_lets +onlyGivenNames q11; clear_value q11
  with_reducible apply State.flushStream_fr
  with_reducible assumption
  exact hl

theorem State.countBy_fr {s : State} {a : Nat} {n : Nat} (hz : Fr l z s) (hl : [.regs] ⊆ l) :
    Fr l z (State.countBy s a n) := by
  unfold State.countBy
  with_reducible apply State.wr_fr
  with_reducible assumption
  exact hl

theorem State.fnCount_fr {s : State} {v : Nat} {c : Nat} {n : Nat} (hz : Fr l z s) (hl : [.regs] ⊆ l) :
    Fr l z (State.fnCount s v c n) := by
  unfold State.fnCount
  extract_lets +onlyGivenNames q0; refine Fr.cut (a := q0) ?_ (fun _ => ?_)
  rotate_left; clear_value q0; rotate_right; unfold q0
  with_reducible apply State.countBy_fr
  with_reducible assumption
  exact hl
  refine Fr.ite ?_ ?_
  with_reducible assumption
  with_reducible apply State.countBy_fr
  with_reducible assumption
  exact hl

theorem State.setVec_fr {s : State} {n : Nat} {x : Vec} (hz : Fr l z s) (hl : [.hst] ⊆ l) :
    Fr l z (State.setVec s n x) := by
  unfold State.setVec
  refine Fr.upd ?_ (c23 := .inl (hl (by decide)))
  with_reducible assumption

theorem State.fireVec_fr {s : State} {n : Nat} (hz : Fr l z s) (hl : [.out, .hst] ⊆ l) :
    Fr l z (State.fireVec s n) := by
  unfold State.fireVec
  extract_lets +onlyGivenNames q0; clear_value q0
  extract_lets +onlyGivenNames q2; clear_value q2
  refine Fr.ite ?_ ?_
  with_reducible apply State.emit_fr
  with_reducible assumption
  exact List.Subset.trans (by decide) hl
  refine Fr.ite ?_ ?_
  with_reducible assumption
  refine Fr.ite ?_ ?_
  with_reducible apply State.setVec_fr
  with_reducible assumption
  exact List.Subset.trans (by decide) hl
  with_reducible apply State.emit_fr
  with_reducible assumption
  exact List.Subset.trans (by decide) hl

theorem State.vfEvent_fr {s : State} {v : Nat} {b : Nat} (hz : Fr l z s) (hl : [.out, .regs, .hst] ⊆ l) :
    Fr l z (State.vfEvent s v b) := by
  unfold State.vfEvent
  refine Fr.ite ?_ ?_
  with_reducible assumption
  extract_lets +onlyGivenNames q2; clear_value q2
  refine Fr.ite ?_ ?_
  with_reducible assumption
  extract_lets +onlyGivenNames q6; refine Fr.cut (a := q6) ?_ (fun _ => ?_)
  rotate_left; clear_value q6; rotate_right; unfold q6
  with_reducible apply State.wr_fr
  with_reducible assumption
  exact List.Subset.trans (by decide) hl
  refine Fr.ite ?_ ?_
  split
  with_reducible assumption
  with_reducible apply State.fireVec_fr
  with_reducible assumption
  exact List.Subset.trans (by decide) hl
  with_reducible assumption

theorem State.setMbox_fr {s : State} {m : Nat} {x : Mbox} (hz : Fr l z s) (hl : [.hst] ⊆ l) :
    Fr l z (State.setMbox s m x) := by
  unfold State.setMbox
  refine Fr.upd ?_ (c23 := .inl (hl (by decide)))
  with_reducible assumption

theorem State.mboxResult_fr {s : State} {m : Nat} {v : Nat} (hz : Fr l z s) (hl : [.out, .regs, .hst] ⊆ l) :
    Fr l z (State.mboxResult s m v) := by
  unfold State.mboxResult
  extract_lets +onlyGivenNames q0; clear_value q0
  extract_lets +onlyGivenNames q2; clear_value q2
  extract_lets +onlyGivenNames q4; refine Fr.cut (a := q4) ?_ (fun _ => ?_)
  rotate_left; clear_value q4; rotate_right; unfold q4
  refine Fr.ite ?_ ?_
  with_reducible apply State.fnCount_fr
  with_reducible assumption
  exact List.Subset.trans (by decide) hl
  with_reducible assumption
  with_reducible apply State.vfEvent_fr
  with_reducible apply State.setMbox_fr
  with_reducible assumption
  exact List.Subset.trans (by decide) hl
  exact hl

theorem State.mboxSource_fr {s : State} {kind : Nat} {arg : Nat} {v : Nat} (hz : Fr l z s) (hl : [.out, .regs,
      .hst] ⊆ l) :
    Fr l z (State.mboxSource s kind arg v) := by
  unfold State.mboxSource
  refine Fr.foldl ?_ ?_
  with_reducible assumption
  intro x2_0 x2_1 x2_2
  with_reducible apply State.mboxResult_fr
  with_reducible assumption
  exact hl

theorem State.closeRec_fr {s : State} {p : Nat} {cause : Nat} {st : Nat} {end_ : Nat} (hz : Fr l z s) (hl : [.out,
      .regs, .log, .evt, .hst, .gal] ⊆ l) :
    Fr l z (State.closeRec s p cause st end_) := by
  unfold State.closeRec
  extract_lets +onlyGivenNames q0; clear_value q0
  refine Fr.ite ?_ ?_
  extract_lets +onlyGivenNames q3; refine Fr.cut (a := q3) ?_ (fun _ => ?_)
  rotate_left; clear_value q3; rotate_right; unfold q3
  with_reducible apply State.flushAll_fr
  with_reducible assumption
  exact List.Subset.trans (by decide) hl
  extract_lets +onlyGivenNames q12; clear_value q12
  extract_lets +onlyGivenNames q14; clear_value q14
  extract_lets +onlyGivenNames q16; clear_value q16
  extract_lets +onlyGivenNames q18; clear_value q18
  extract_lets +onlyGivenNames q20; refine Fr.cut (a := q20) ?_ (fun _ => ?_)
  rotate_left; clear_value q20; rotate_right; unfold q20
  with_reducible apply State.setProg_fr
  with_reducible assumption
  exact List.Subset.trans (by decide) hl
  extract_lets +onlyGivenNames q29; refine Fr.cut (a := q29) ?_ (fun _ => ?_)
  rotate_left; clear_value q29; rotate_right; unfold q29
  with_reducible apply State.mboxSource_fr
  with_reducible apply State.galEvent_fr
  with_reducible assumption
  exact List.Subset.trans (by decide) hl
  exact List.Subset.trans (by decide) hl
  extract_lets +onlyGivenNames q40; clear_value q40
  extract_lets +onlyGivenNames q42; refine Fr.cut (a := q42) ?_ (fun _ => ?_)
  rotate_left; clear_value q42; rotate_right; unfold q42
  refine Fr.ite ?_ ?_
  refine Fr.upd ?_ (c25 := .inl (hl (by decide)))
  with_reducible assumption
  with_reducible assumption
  with_reducible assumption
  with_reducible assumption

theorem State.galStep_fr {s : State} (hz : Fr l z s) (hl : [.out, .regs, .log, .evt, .hst, .gal] ⊆ l) :
    Fr l z (State.galStep s) := by
  unfold State.galStep
  with_reducible apply forN_fr
  with_reducible assumption
  intro x2_0 x2_1 x2_2
  extract_lets +onlyGivenNames q3; clear_value q3
  refine Fr.ite ?_ ?_
  with_reducible assumption
  with_reducible apply State.arming_fr
  with_reducible apply State.closeRec_fr
  with_reducible assumption
  exact hl
  exact List.Subset.trans (by decide) hl

theorem State.syncRelease_fr {s : State} (hz : Fr l z s) (hl : [.out, .cnd] ⊆ l) :
    Fr l z (State.syncRelease s) := by
  unfold State.syncRelease
  refine Fr.ite ?_ ?_
  with_reducible apply State.emit_fr
  refine Fr.upd ?_ (c21 := .inl (hl (by decide)))
  with_reducible assumption
  exact List.Subset.trans (by decide) hl
  with_reducible assumption

theorem State.syncCancel_fr {s : State} (hz : Fr l z s) (hl : [.out, .regs, .cmds, .log, .evt, .cnd] ⊆ l) :
    Fr l z (State.syncCancel s) := by
  unfold State.syncCancel
  extract_lets +onlyGivenNames q0; clear_value q0
  extract_lets +onlyGivenNames q2; refine Fr.cut (a := q2) ?_ (fun _ => ?_)
  rotate_left; clear_value q2; rotate_right; unfold q2
  with_reducible apply State.syncRelease_fr
  with_reducible assumption
  exact List.Subset.trans (by decide) hl
  extract_lets +onlyGivenNames q11; clear_value q11
  extract_lets +onlyGivenNames q13; refine Fr.cut (a := q13) ?_ (fun _ => ?_)
  rotate_left; clear_value q13; rotate_right; unfold q13
  refine Fr.upd ?_ (c21 := .inl (hl (by decide)))
  with_reducible assumption
  refine Fr.ite ?_ ?_
  with_reducible apply State.cmdEndRefused_fr
  with_reducible assumption
  exact List.Subset.trans (by decide) hl
  with_reducible assumption

theorem State.setGroup_fr {s : State} {g : Nat} {x : Group} (hz : Fr l z s) (hl : [.cnd] ⊆ l) :
    Fr l z (State.setGroup s g x) := by
  unfold State.setGroup
  refine Fr.upd ?_ (c21 := .inl (hl (by decide)))
  with_reducible assumption

theorem State.chainStep_fr {s : State} (hz : Fr l z s) (hl : [.out, .regs, .cmds, .log, .evt, .cnd] ⊆ l) :
    Fr l z (State.chainStep s) := by
  unfold State.chainStep
  extract_lets +onlyGivenNames q0; refine Fr.cut (a := q0) ?_ (fun _ => ?_)
  rotate_left; clear_value q0; rotate_right; unfold q0
  with_reducible apply State.syncCancel_fr
  with_reducible assumption
  exact hl
  extract_lets +onlyGivenNames q9; refine Fr.cut (a := q9) ?_ (fun _ => ?_)
  rotate_left; clear_value q9; rotate_right; unfold q9
  refine Fr.foldl ?_ ?_
  with_reducible assumption
  intro x17_0 x17_1 x17_2
  with_reducible apply State.setSlot_fr
  with_reducible assumption
  exact List.Subset.trans (by decide) hl
  extract_lets +onlyGivenNames q21; refine Fr.cut (a := q21) ?_ (fun _ => ?_)
  rotate_left; clear_value q21; rotate_right; unfold q21
  with_reducible apply forN_fr
  with_reducible assumption
  intro x29_0 x29_1 x29_2
  refine Fr.ite ?_ ?_
  with_reducible apply State.setGroup_fr
  with_reducible assumption
  exact List.Subset.trans (by decide) hl
  with_reducible assumption
  refine Fr.upd ?_ (c21 := .inl (hl (by decide)))
  with_reducible assumption

theorem State.plnStep_fr {s : State} (hz : Fr l z s) (hl : [.pln] ⊆ l) :
    Fr l z (State.plnStep s) := by
  unfold State.plnStep
  with_reducible apply forN_fr
  with_reducible assumption
  intro x2_0 x2_1 x2_2
  extract_lets +onlyGivenNames q3; clear_value q3
  with_reducible apply State.plnPut_fr
  with_reducible assumption
  exact hl

theorem State.stepBlocks_fr {s : State} {old : Nat} {n : Nat} (hz : Fr l z s) (hl : [.out, .regs, .cmds, .log,
      .evt, .img, .pln, .svi, .cnd, .hst, .kpr, .gal, .pub] ⊆ l) :
    Fr l z (State.stepBlocks s old n) := by
  unfold State.stepBlocks
  extract_lets +onlyGivenNames q0; refine Fr.cut (a := q0) ?_ (fun _ => ?_)
  rotate_left; clear_value q0; rotate_right; unfold q0
  with_reducible apply State.sviStep_fr
  with_reducible apply State.hstStep_fr
  with_reducible apply State.pubStep_fr
  with_reducible apply State.imgStep_fr
  with_reducible apply State.kprStep_fr
  with_reducible assumption
  exact List.Subset.trans (by decide) hl
  exact List.Subset.trans (by decide) hl
  exact List.Subset.trans (by decide) hl
  exact List.Subset.trans (by decide) hl
  exact List.Subset.trans (by decide) hl
  with_reducible apply State.syncRequest_fr
  with_reducible apply State.streamsPlace_fr
  with_reducible apply State.galStep_fr
  with_reducible apply State.chainStep_fr
  with_reducible apply State.plnStep_fr
  with_reducible assumption
  exact List.Subset.trans (by decide) hl
  exact List.Subset.trans (by decide) hl
  exact List.Subset.trans (by decide) hl
  exact List.Subset.trans (by decide) hl
  exact List.Subset.trans (by decide) hl

theorem State.setRef_fr {s : State} {r : Nat} {x : Ref} (hz : Fr l z s) (hl : [.bcn] ⊆ l) :
    Fr l z (State.setRef s r x) := by
  unfold State.setRef
  extract_lets +onlyGivenNames q0; clear_value q0
  refine Fr.ite ?_ ?_
  refine Fr.upd ?_ (c12 := .inl (hl (by decide)))
  with_reducible assumption
  refine Fr.ite ?_ ?_
  refine Fr.upd ?_ (c12 := .inl (hl (by decide)))
  with_reducible assumption
  refine Fr.upd ?_ (c12 := .inl (hl (by decide)))
  with_reducible assumption

theorem State.requalify_fr {s : State} {r : Nat} (hz : Fr l z s) (hl : [.regs, .log, .evt, .bcn] ⊆ l) :
    Fr l z (State.requalify s r) := by
  unfold State.requalify
  extract_lets +onlyGivenNames q0; clear_value q0
  extract_lets +onlyGivenNames q2; clear_value q2
  refine Fr.ite ?_ ?_
  with_reducible assumption
  refine Fr.ite ?_ ?_
  with_reducible apply State.raiseRec_fr
  with_reducible apply State.setRef_fr
  with_reducible assumption
  exact List.Subset.trans (by decide) hl
  exact List.Subset.trans (by decide) hl
  with_reducible apply State.raiseRec_fr
  with_reducible apply State.setRef_fr
  with_reducible assumption
  exact List.Subset.trans (by decide) hl
  exact List.Subset.trans (by decide) hl

theorem State.utcFrom_fr {s : State} {r : Nat} (hz : Fr l z s) (hl : [.regs, .evt, .bcn] ⊆ l) :
    Fr l z (State.utcFrom s r) := by
  unfold State.utcFrom
  extract_lets +onlyGivenNames q0; clear_value q0
  refine Fr.ite ?_ ?_
  extract_lets +onlyGivenNames q3; clear_value q3
  extract_lets +onlyGivenNames q5; clear_value q5
  extract_lets +onlyGivenNames q7; refine Fr.cut (a := q7) ?_ (fun _ => ?_)
  rotate_left; clear_value q7; rotate_right; unfold q7
  refine Fr.upd ?_ (c12 := .inl (hl (by decide)))
  with_reducible assumption
  refine Fr.ite ?_ ?_
  with_reducible apply State.setEvent_fr
  with_reducible assumption
  exact List.Subset.trans (by decide) hl
  with_reducible assumption
  with_reducible assumption

theorem State.becomeLocked_fr {s : State} (hz : Fr l z s) (hl : [.regs, .cmds, .log, .evt, .bcn] ⊆ l) :
    Fr l z (State.becomeLocked s) := by
  unfold State.becomeLocked
  extract_lets +onlyGivenNames q0; clear_value q0
  extract_lets +onlyGivenNames q2; refine Fr.cut (a := q2) ?_ (fun _ => ?_)
  rotate_left; clear_value q2; rotate_right; unfold q2
  with_reducible apply State.setEvent_fr
  refine Fr.upd ?_ (c12 := .inl (hl (by decide)))
  with_reducible assumption
  exact List.Subset.trans (by decide) hl
  refine Fr.ite ?_ ?_
  with_reducible apply State.cmdDone_fr
  refine Fr.upd ?_ (c12 := .inl (hl (by decide)))
  with_reducible assumption
  exact List.Subset.trans (by decide) hl
  with_reducible assumption

theorem State.stepBeacon_fr {s : State} {r : Nat} {delta : Int} {n : Nat} (hz : Fr l z s) (hl : [.regs, .cmds,
      .log, .evt, .bcn] ⊆ l) :
    Fr l z (State.stepBeacon s r delta n) := by
  unfold State.stepBeacon
  extract_lets +onlyGivenNames q0; clear_value q0
  extract_lets +onlyGivenNames q2; refine Fr.cut (a := q2) ?_ (fun _ => ?_)
  rotate_left; clear_value q2; rotate_right; unfold q2
  refine Fr.upd ?_ (c12 := .inl (hl (by decide)))
  with_reducible assumption
  extract_lets +onlyGivenNames q10; clear_value q10
  extract_lets +onlyGivenNames q12; refine Fr.cut (a := q12) ?_ (fun _ => ?_)
  rotate_left; clear_value q12; rotate_right; unfold q12
  with_reducible apply State.setRef_fr
  with_reducible assumption
  exact List.Subset.trans (by decide) hl
  extract_lets +onlyGivenNames q21; refine Fr.cut (a := q21) ?_ (fun _ => ?_)
  rotate_left; clear_value q21; rotate_right; unfold q21
  with_reducible apply State.requalify_fr
  with_reducible apply State.raiseRec_fr
  with_reducible assumption
  exact List.Subset.trans (by decide) hl
  exact List.Subset.trans (by decide) hl
  with_reducible apply State.utcFrom_fr
  refine Fr.ite ?_ ?_
  with_reducible assumption
  with_reducible apply State.becomeLocked_fr
  with_reducible assumption
  exact hl
  exact List.Subset.trans (by decide) hl

theorem State.stepRec_fr {s : State} {old : Nat} (hz : Fr l z s) (hl : [.regs, .log, .evt] ⊆ l) :
    Fr l z (State.stepRec s old) := by
  unfold State.stepRec
  with_reducible apply State.logOffer_fr
  with_reducible assumption
  exact hl

theorem State.applyStep_fr {s : State} {r : Nat} (hz : Fr l z s) (hl : [.out, .regs, .cmds, .once, .time, .log,
      .evt, .img, .bcn, .pln, .svi, .cnd, .hst, .kpr, .gal, .pub] ⊆ l) :
    Fr l z (State.applyStep s r) := by
  unfold State.applyStep
  extract_lets +onlyGivenNames q0; clear_value q0
  extract_lets +onlyGivenNames q2; clear_value q2
  extract_lets +onlyGivenNames q4; clear_value q4
  extract_lets +onlyGivenNames q6; clear_value q6
  extract_lets +onlyGivenNames q8; clear_value q8
  extract_lets +onlyGivenNames q10; clear_value q10
  extract_lets +onlyGivenNames q12; refine Fr.cut (a := q12) ?_ (fun _ => ?_)
  rotate_left; clear_value q12; rotate_right; unfold q12
  refine Fr.upd ?_ (c5 := .inl (hl (by decide))) (c6 := .inl (hl (by decide)))
  with_reducible assumption
  with_reducible apply State.stepBlocks_fr
  with_reducible apply State.stepBeacon_fr
  with_reducible apply State.stepRec_fr
  with_reducible assumption
  exact List.Subset.trans (by decide) hl
  exact List.Subset.trans (by decide) hl
  exact List.Subset.trans (by decide) hl

theorem State.svCount_fr {s : State} {i : Nat} {c : Nat} {n : Nat} (hz : Fr l z s) (hl : [.regs] ⊆ l) :
    Fr l z (State.svCount s i c n) := by
  unfold State.svCount
  refine Fr.foldl ?_ ?_
  with_reducible apply State.countBy_fr
  with_reducible assumption
  exact hl
  intro x4_0 x4_1 x4_2
  refine Fr.ite ?_ ?_
  with_reducible apply State.countBy_fr
  with_reducible assumption
  exact hl
  with_reducible assumption

theorem State.setPrf_fr {s : State} {g : Nat} {c : PrfCtr} (hz : Fr l z s) (hl : [.prf] ⊆ l) :
    Fr l z (State.setPrf s g c) := by
  unfold State.setPrf
  refine Fr.upd ?_ (c18 := .inl (hl (by decide)))
  with_reducible assumption

theorem State.raiseOnce_fr {s : State} {src : Nat} {inst : Nat} (hz : Fr l z s) (hl : [.regs, .once, .evt] ⊆ l) :
    Fr l z (State.raiseOnce s src inst) := by
  unfold State.raiseOnce
  with_reducible apply State.oncePer_fr
  with_reducible assumption
  intro x2_0 x2_1
  with_reducible apply State.setEvent_fr
  with_reducible assumption
  exact List.Subset.trans (by decide) hl
  exact List.Subset.trans (by decide) hl

theorem State.writeSample_fr {s : State} {g : Nat} {kind : Nat} {i : SampleInfo} (hz : Fr l z s) (hl : [.out,
      .regs, .once, .evt, .prf] ⊆ l) :
    Fr l z (State.writeSample s g kind i) := by
  unfold State.writeSample
  refine Fr.ite ?_ ?_
  with_reducible apply State.raiseOnce_fr
  with_reducible apply State.count_fr
  with_reducible assumption
  exact List.Subset.trans (by decide) hl
  exact List.Subset.trans (by decide) hl
  extract_lets +onlyGivenNames q6; clear_value q6
  extract_lets +onlyGivenNames q8; clear_value q8
  extract_lets +onlyGivenNames q10; refine Fr.cut (a := q10) ?_ (fun _ => ?_)
  rotate_left; clear_value q10; rotate_right; unfold q10
  with_reducible apply State.emit_fr
  with_reducible assumption
  exact List.Subset.trans (by decide) hl
  extract_lets +onlyGivenNames q19; clear_value q19
  extract_lets +onlyGivenNames q21; refine Fr.cut (a := q21) ?_ (fun _ => ?_)
  rotate_left; clear_value q21; rotate_right; unfold q21
  refine Fr.upd ?_ (c18 := .inl (hl (by decide)))
  with_reducible assumption
  refine Fr.ite ?_ ?_
  with_reducible apply State.setEvent_fr
  with_reducible assumption
  exact List.Subset.trans (by decide) hl
  with_reducible assumption

theorem State.prfAdd_fr {s : State} {g : Nat} {n : Nat} {kind : Nat} {smp : Option SampleInfo} (hz : Fr l z s)
    (hl : [.out, .regs, .once, .evt, .prf] ⊆ l) :
    Fr l z (State.prfAdd s g n kind smp) := by
  unfold State.prfAdd
  extract_lets +onlyGivenNames q0; clear_value q0
  extract_lets +onlyGivenNames q2; clear_value q2
  extract_lets +onlyGivenNames q4; refine Fr.cut (a := q4) ?_ (fun _ => ?_)
  rotate_left; clear_value q4; rotate_right; unfold q4
  with_reducible apply State.setPrf_fr
  with_reducible assumption
  exact List.Subset.trans (by decide) hl
  extract_lets +onlyGivenNames q13; refine Fr.cut (a := q13) ?_ (fun _ => ?_)
  rotate_left; clear_value q13; rotate_right; unfold q13
  refine Fr.ite ?_ ?_
  with_reducible apply State.setEvent_fr
  with_reducible assumption
  exact List.Subset.trans (by decide) hl
  with_reducible assumption
  split
  with_reducible assumption
  refine Fr.ite ?_ ?_
  extract_lets +onlyGivenNames q27; clear_value q27
  extract_lets +onlyGivenNames q29; clear_value q29
  extract_lets +onlyGivenNames q31; clear_value q31
  extract_lets +onlyGivenNames q33; refine Fr.cut (a := q33) ?_ (fun _ => ?_)
  rotate_left; clear_value q33; rotate_right; unfold q33
  with_reducible apply State.setPrf_fr
  with_reducible assumption
  exact List.Subset.trans (by decide) hl
  refine Fr.ite ?_ ?_
  with_reducible apply State.writeSample_fr
  with_reducible assumption
  exact hl
  with_reducible assumption
  with_reducible assumption

theorem State.prfBank_fr {s : State} {lo : Nat} {cnt : Nat} {ev : Nat} {argOk : Nat → Bool} {n : Nat} {kind : Nat}
    {smp : Option SampleInfo} (hz : Fr l z s) (hl : [.out, .regs, .once, .evt, .prf] ⊆ l) :
    Fr l z (State.prfBank s lo cnt ev argOk n kind smp) := by
  unfold State.prfBank
  refine Fr.ite ?_ ?_
  with_reducible assumption
  with_reducible apply forN_fr
  with_reducible assumption
  intro x4_0 x4_1 x4_2
  refine Fr.ite ?_ ?_
  with_reducible apply State.prfAdd_fr
  with_reducible assumption
  exact hl
  with_reducible assumption

theorem State.prfChain_fr {s : State} {ev : Nat} {n : Nat} (hz : Fr l z s) (hl : [.out, .regs, .once, .evt,
      .prf] ⊆ l) :
    Fr l z (State.prfChain s ev n) := by
  unfold State.prfChain
  with_reducible apply State.prfBank_fr
  with_reducible assumption
  exact hl

theorem State.streamRestart_fr {s : State} {cfg : StreamCfg} {t : Nat} (hz : Fr l z s) (hl : [.out, .regs, .once,
      .evt, .prf, .cnd] ⊆ l) :
    Fr l z (State.streamRestart s cfg t) := by
  unfold State.streamRestart
  with_reducible apply forN_fr
  with_reducible assumption
  intro x2_0 x2_1 x2_2
  extract_lets +onlyGivenNames q3; clear_value q3
  refine Fr.ite ?_ ?_
  with_reducible apply State.prfChain_fr
  with_reducible apply State.setSlot_fr
  with_reducible assumption
  exact List.Subset.trans (by decide) hl
  exact List.Subset.trans (by decide) hl
  with_reducible assumption

theorem State.plnGrid_fr {s : State} {c : Nat} {o : GridOut} {extra : Nat} (hz : Fr l z s) (hl : [.pln] ⊆ l) :
    Fr l z (State.plnGrid s c o extra) := by
  unfold State.plnGrid
  extract_lets +onlyGivenNames q0; refine Fr.cut (a := q0) ?_ (fun _ => ?_)
  rotate_left; clear_value q0; rotate_right; unfold q0
  with_reducible apply State.plnPut_fr
  with_reducible apply State.plnPut_fr
  with_reducible assumption
  exact hl
  exact hl
  extract_lets +onlyGivenNames q11; refine Fr.cut (a := q11) ?_ (fun _ => ?_)
  rotate_left; clear_value q11; rotate_right; unfold q11
  with_reducible apply State.plnPut_fr
  with_reducible apply State.plnPut_fr
  with_reducible assumption
  exact hl
  exact hl
  extract_lets +onlyGivenNames q22; clear_value q22
  extract_lets +onlyGivenNames q24; clear_value q24
  with_reducible apply State.setChan_fr
  with_reducible assumption
  exact hl

theorem State.prfIntake_fr {s : State} {ev : Nat} {n : Nat} (hz : Fr l z s) (hl : [.out, .regs, .once, .evt,
      .prf] ⊆ l) :
    Fr l z (State.prfIntake s ev n) := by
  unfold State.prfIntake
  with_reducible apply State.prfBank_fr
  with_reducible assumption
  exact hl

theorem State.putGrid_fr {s : State} {c : Nat} {o : GridOut} (hz : Fr l z s) (hl : [.out, .regs, .once, .evt,
      .prf, .pln] ⊆ l) :
    Fr l z (State.putGrid s c o) := by
  unfold State.putGrid
  split
  with_reducible assumption
  extract_lets +onlyGivenNames q2; clear_value q2
  extract_lets +onlyGivenNames q4; refine Fr.cut (a := q4) ?_ (fun _ => ?_)
  rotate_left; clear_value q4; rotate_right; unfold q4
  refine Fr.ite ?_ ?_
  with_reducible assumption
  with_reducible apply State.plnGrid_fr
  with_reducible assumption
  exact List.Subset.trans (by decide) hl
  split
  with_reducible assumption
  split
  with_reducible assumption
  refine Fr.ite ?_ ?_
  with_reducible apply State.prfIntake_fr
  with_reducible apply State.svCount_fr
  with_reducible apply State.plnGrid_fr
  with_reducible assumption
  exact List.Subset.trans (by decide) hl
  exact List.Subset.trans (by decide) hl
  exact List.Subset.trans (by decide) hl
  with_reducible assumption

theorem State.rewrite_fr {s : State} {c : Nat} {cfg : StreamCfg} {i : Nat} {x : Slot} {p : LatPt} (hz : Fr l z s)
    (hl : [.out, .regs, .once, .evt, .prf, .pln] ⊆ l) :
    Fr l z (State.rewrite s c cfg i x p) := by
  unfold State.rewrite
  extract_lets +onlyGivenNames q0; clear_value q0
  extract_lets +onlyGivenNames q2; clear_value q2
  extract_lets +onlyGivenNames q4; clear_value q4
  extract_lets +onlyGivenNames q6; clear_value q6
  extract_lets +onlyGivenNames q8; clear_value q8
  extract_lets +onlyGivenNames q10; clear_value q10
  with_reducible apply State.putGrid_fr
  with_reducible assumption
  exact hl

theorem State.rewriteFrom_fr {s : State} {c : Nat} {cfg : StreamCfg} {i : Nat} {x : Slot} {s0 : Nat} {fuel : Nat} {n : Nat} (hz : Fr l z s) (hl : [.out, .regs, .once, .evt, .prf, .pln] ⊆ l) :
    Fr l z (State.rewriteFrom s c cfg i x s0 fuel n) := by
  induction fuel generalizing s n with
  | zero => exact hz
  | succ fuel ih =>
    unfold State.rewriteFrom
    split
    · exact hz
    · refine Fr.ite hz (ih ?_)
      exact Fr.ite (State.rewrite_fr hz (List.Subset.trans (by decide) hl)) hz

theorem State.slotSync_fr {s : State} {c : Nat} {cfg : StreamCfg} {i : Nat} {s0 : Nat} (hz : Fr l z s)
    (hl : [.out, .regs, .once, .evt, .prf, .pln, .cnd] ⊆ l) :
    Fr l z (State.slotSync s c cfg i s0) := by
  unfold State.slotSync
  extract_lets +onlyGivenNames q0; clear_value q0
  extract_lets +onlyGivenNames q2; refine Fr.cut (a := q2) ?_ (fun _ => ?_)
  rotate_left; clear_value q2; rotate_right; unfold q2
  refine Fr.ite ?_ ?_
  with_reducible apply State.rewriteFrom_fr
  with_reducible assumption
  exact List.Subset.trans (by decide) hl
  with_reducible assumption
  with_reducible apply State.prfChain_fr
  with_reducible apply State.setSlot_fr
  with_reducible assumption
  exact List.Subset.trans (by decide) hl
  exact List.Subset.trans (by decide) hl

theorem State.slotInput_fr {s : State} {c : Nat} {cfg : StreamCfg} {i : Nat} {t : Nat} {value : Nat} {mark : Nat}
    (hz : Fr l z s) (hl : [.out, .regs, .once, .evt, .prf, .pln, .cnd] ⊆ l) :
    Fr l z (State.slotInput s c cfg i t value mark) := by
  unfold State.slotInput
  extract_lets +onlyGivenNames q0; refine Fr.cut (a := q0) ?_ (fun _ => ?_)
  rotate_left; clear_value q0; rotate_right; unfold q0
  split
  refine Fr.ite ?_ ?_
  with_reducible apply State.slotSync_fr
  with_reducible assumption
  exact hl
  with_reducible assumption
  with_reducible assumption
  extract_lets +onlyGivenNames q13; clear_value q13
  extract_lets +onlyGivenNames q15; clear_value q15
  extract_lets +onlyGivenNames q17; clear_value q17
  refine Fr.ite ?_ ?_
  split
  extract_lets +onlyGivenNames q21; clear_value q21
  with_reducible apply State.prfChain_fr
  with_reducible apply State.prfChain_fr
  with_reducible apply State.setSlot_fr
  with_reducible assumption
  exact List.Subset.trans (by decide) hl
  exact List.Subset.trans (by decide) hl
  exact List.Subset.trans (by decide) hl
  with_reducible apply State.prfChain_fr
  with_reducible apply State.setSlot_fr
  with_reducible assumption
  exact List.Subset.trans (by decide) hl
  exact List.Subset.trans (by decide) hl

theorem State.chainInput_fr {s : State} {cfg : StreamCfg} {n : Nat} {t : Nat} {data : List (Nat × Nat)}
    (hz : Fr l z s) (hl : [.out, .regs, .once, .evt, .prf, .pln, .cnd] ⊆ l) :
    Fr l z (State.chainInput s cfg n t data) := by
  unfold State.chainInput
  extract_lets +onlyGivenNames q0; clear_value q0
  extract_lets +onlyGivenNames q2; clear_value q2
  extract_lets +onlyGivenNames q4; refine Fr.cut (a := q4) ?_ (fun _ => ?_)
  rotate_left; clear_value q4; rotate_right; unfold q4
  with_reducible apply State.plnPut_fr
  with_reducible assumption
  exact List.Subset.trans (by decide) hl
  extract_lets +onlyGivenNames q13; clear_value q13
  extract_lets +onlyGivenNames q15; refine Fr.cut (a := q15) ?_ (fun _ => ?_)
  rotate_left; clear_value q15; rotate_right; unfold q15
  refine Fr.upd ?_ (c21 := .inl (hl (by decide)))
  with_reducible assumption
  with_reducible apply forN_fr
  with_reducible assumption
  intro x25_0 x25_1 x25_2
  extract_lets +onlyGivenNames q26; clear_value q26
  split
  extract_lets +onlyGivenNames q29; refine Fr.cut (a := q29) ?_ (fun _ => ?_)
  rotate_left; clear_value q29; rotate_right; unfold q29
  with_reducible apply State.plnPut_fr
  with_reducible apply State.plnPut_fr
  with_reducible assumption
  exact List.Subset.trans (by decide) hl
  exact List.Subset.trans (by decide) hl
  extract_lets +onlyGivenNames q40; clear_value q40
  extract_lets +onlyGivenNames q42; refine Fr.cut (a := q42) ?_ (fun _ => ?_)
  rotate_left; clear_value q42; rotate_right; unfold q42
  with_reducible apply State.setChan_fr
  with_reducible assumption
  exact List.Subset.trans (by decide) hl
  with_reducible apply State.slotInput_fr
  with_reducible assumption
  exact hl

theorem State.passTo_fr {s : State} {c : StreamCfg} {pos : Nat} {t : Nat} {data : List (Nat × Nat)}
    {onTime : Bool} (hz : Fr l z s) (hl : [.out, .regs, .once, .evt, .prf, .pln, .svi, .cnd, .pair] ⊆ l) :
    Fr l z (State.passTo s c pos t data onTime) := by
  unfold State.passTo
  extract_lets +onlyGivenNames q0; clear_value q0
  extract_lets +onlyGivenNames q2; clear_value q2
  extract_lets +onlyGivenNames q4; refine Fr.cut (a := q4) ?_ (fun _ => ?_)
  rotate_left; clear_value q4; rotate_right; unfold q4
  refine Fr.ite ?_ ?_
  with_reducible apply State.streamRestart_fr
  with_reducible assumption
  exact List.Subset.trans (by decide) hl
  with_reducible assumption
  extract_lets +onlyGivenNames q15; clear_value q15
  extract_lets +onlyGivenNames q17; refine Fr.cut (a := q17) ?_ (fun _ => ?_)
  rotate_left; clear_value q17; rotate_right; unfold q17
  with_reducible apply State.setStream_fr
  with_reducible assumption
  exact List.Subset.trans (by decide) hl
  extract_lets +onlyGivenNames q26; refine Fr.cut (a := q26) ?_ (fun _ => ?_)
  rotate_left; clear_value q26; rotate_right; unfold q26
  with_reducible apply State.chainInput_fr
  with_reducible assumption
  exact List.Subset.trans (by decide) hl
  extract_lets +onlyGivenNames q35; clear_value q35
  extract_lets +onlyGivenNames q37; refine Fr.cut (a := q37) ?_ (fun _ => ?_)
  rotate_left; clear_value q37; rotate_right; unfold q37
  with_reducible apply State.alignStream_fr
  with_reducible apply State.setStream_fr
  with_reducible assumption
  exact List.Subset.trans (by decide) hl
  exact List.Subset.trans (by decide) hl
  extract_lets +onlyGivenNames q48; refine Fr.cut (a := q48) ?_ (fun _ => ?_)
  rotate_left; clear_value q48; rotate_right; unfold q48
  refine Fr.ite ?_ ?_
  with_reducible apply State.svCount_fr
  with_reducible assumption
  exact List.Subset.trans (by decide) hl
  with_reducible assumption
  refine Fr.ite ?_ ?_
  with_reducible apply State.svCount_fr
  with_reducible assumption
  exact List.Subset.trans (by decide) hl
  with_reducible assumption

theorem State.copyOuts_fr {s : State} {c : StreamCfg} {src : StreamCfg} {t : Nat} {extra : Nat} (hz : Fr l z s)
    (hl : [.out, .regs, .once, .evt, .prf, .pln] ⊆ l) :
    Fr l z (State.copyOuts s c src t extra) := by
  unfold State.copyOuts
  with_reducible apply forN_fr
  with_reducible assumption
  intro x2_0 x2_1 x2_2
  refine Fr.foldl ?_ ?_
  with_reducible assumption
  intro x5_0 x5_1 x5_2
  extract_lets +onlyGivenNames q6; refine Fr.cut (a := q6) ?_ (fun _ => ?_)
  rotate_left; clear_value q6; rotate_right; unfold q6
  with_reducible apply State.plnGrid_fr
  with_reducible assumption
  exact List.Subset.trans (by decide) hl
  refine Fr.ite ?_ ?_
  with_reducible assumption
  with_reducible apply State.prfIntake_fr
  with_reducible apply State.svCount_fr
  with_reducible assumption
  exact List.Subset.trans (by decide) hl
  exact List.Subset.trans (by decide) hl

theorem State.substStart_fr {s : State} {c : StreamCfg} {t : Nat} (hz : Fr l z s) (hl : [.out, .regs, .once, .log,
      .evt, .prf, .pln, .svi] ⊆ l) :
    Fr l z (State.substStart s c t) := by
  unfold State.substStart
  split
  with_reducible assumption
  split
  with_reducible assumption
  extract_lets +onlyGivenNames q4; clear_value q4
  extract_lets +onlyGivenNames q6; clear_value q6
  extract_lets +onlyGivenNames q8; refine Fr.cut (a := q8) ?_ (fun _ => ?_)
  rotate_left; clear_value q8; rotate_right; unfold q8
  with_reducible apply State.setStream_fr
  with_reducible assumption
  exact List.Subset.trans (by decide) hl
  extract_lets +onlyGivenNames q17; refine Fr.cut (a := q17) ?_ (fun _ => ?_)
  rotate_left; clear_value q17; rotate_right; unfold q17
  with_reducible apply State.copyOuts_fr
  with_reducible assumption
  exact List.Subset.trans (by decide) hl
  with_reducible apply State.sviNote_fr
  with_reducible apply State.raiseRec_fr
  with_reducible apply State.svCount_fr
  with_reducible assumption
  exact List.Subset.trans (by decide) hl
  exact List.Subset.trans (by decide) hl
  exact List.Subset.trans (by decide) hl

theorem State.substTry_fr {s : State} {c : StreamCfg} {t : Nat} (hz : Fr l z s) (hl : [.out, .regs, .once, .log,
      .evt, .prf, .pln, .svi] ⊆ l) :
    Fr l z (State.substTry s c t) := by
  unfold State.substTry
  split
  with_reducible assumption
  refine Fr.ite ?_ ?_
  with_reducible apply State.substStart_fr
  with_reducible assumption
  exact hl
  with_reducible assumption

theorem State.turnsBad_fr {s : State} {c : StreamCfg} {t : Nat} {due : Option Nat} (hz : Fr l z s) (hl : [.out,
      .regs, .once, .log, .evt, .prf, .pln, .svi] ⊆ l) :
    Fr l z (State.turnsBad s c t due) := by
  unfold State.turnsBad
  split
  with_reducible assumption
  split
  with_reducible assumption
  extract_lets +onlyGivenNames q4; clear_value q4
  extract_lets +onlyGivenNames q6; refine Fr.cut (a := q6) ?_ (fun _ => ?_)
  rotate_left; clear_value q6; rotate_right; unfold q6
  refine Fr.ite ?_ ?_
  refine Fr.ite ?_ ?_
  with_reducible apply State.copyOuts_fr
  with_reducible apply State.setStream_fr
  with_reducible assumption
  exact List.Subset.trans (by decide) hl
  exact List.Subset.trans (by decide) hl
  with_reducible apply State.sviNote_fr
  with_reducible apply State.sviNote_fr
  with_reducible assumption
  exact List.Subset.trans (by decide) hl
  exact List.Subset.trans (by decide) hl
  with_reducible assumption
  extract_lets +onlyGivenNames q25; clear_value q25
  refine Fr.ite ?_ ?_
  with_reducible assumption
  with_reducible apply State.substTry_fr
  with_reducible assumption
  exact hl

theorem State.onTimeState_fr {s : State} {c : StreamCfg} {t : Nat} {good : Bool} (hz : Fr l z s) (hl : [.out,
      .regs, .once, .log, .evt, .prf, .pln, .svi] ⊆ l) :
    Fr l z (State.onTimeState s c t good) := by
  unfold State.onTimeState
  extract_lets +onlyGivenNames q0; clear_value q0
  extract_lets +onlyGivenNames q2; clear_value q2
  split
  refine Fr.ite ?_ ?_
  with_reducible apply State.setStreamState_fr
  with_reducible apply State.setStream_fr
  with_reducible assumption
  exact List.Subset.trans (by decide) hl
  exact List.Subset.trans (by decide) hl
  with_reducible apply State.setStreamState_fr
  with_reducible apply State.setStream_fr
  with_reducible assumption
  exact List.Subset.trans (by decide) hl
  exact List.Subset.trans (by decide) hl
  refine Fr.ite ?_ ?_
  with_reducible assumption
  with_reducible apply State.setStreamState_fr
  with_reducible apply State.turnsBad_fr
  with_reducible apply State.setStream_fr
  with_reducible assumption
  exact List.Subset.trans (by decide) hl
  exact hl
  exact List.Subset.trans (by decide) hl
  refine Fr.ite ?_ ?_
  extract_lets +onlyGivenNames q26; clear_value q26
  refine Fr.ite ?_ ?_
  with_reducible apply State.setStreamState_fr
  with_reducible apply State.setStream_fr
  with_reducible assumption
  exact List.Subset.trans (by decide) hl
  exact List.Subset.trans (by decide) hl
  with_reducible apply State.setStream_fr
  with_reducible assumption
  exact List.Subset.trans (by decide) hl
  with_reducible apply State.substTry_fr
  with_reducible apply State.setStream_fr
  with_reducible assumption
  exact List.Subset.trans (by decide) hl
  exact hl
  extract_lets +onlyGivenNames q42; refine Fr.cut (a := q42) ?_ (fun _ => ?_)
  rotate_left; clear_value q42; rotate_right; unfold q42
  with_reducible apply State.setStreamState_fr
  with_reducible apply State.setStream_fr
  with_reducible assumption
  exact List.Subset.trans (by decide) hl
  exact List.Subset.trans (by decide) hl
  with_reducible apply State.logPut_fr
  with_reducible assumption
  exact List.Subset.trans (by decide) hl
  with_reducible assumption

theorem State.partnerTry_fr {s : State} {c : StreamCfg} {was : Bool} {t : Nat} (hz : Fr l z s) (hl : [.out, .regs,
      .once, .log, .evt, .prf, .pln, .svi] ⊆ l) :
    Fr l z (State.partnerTry s c was t) := by
  unfold State.partnerTry
  split
  with_reducible assumption
  split
  with_reducible assumption
  extract_lets +onlyGivenNames q4; clear_value q4
  refine Fr.ite ?_ ?_
  with_reducible apply State.substTry_fr
  with_reducible assumption
  exact hl
  with_reducible assumption

theorem State.substEnd_fr {s : State} {c : StreamCfg} (hz : Fr l z s) (hl : [.regs, .log, .evt, .pln, .svi] ⊆ l) :
    Fr l z (State.substEnd s c) := by
  unfold State.substEnd
  extract_lets +onlyGivenNames q0; clear_value q0
  extract_lets +onlyGivenNames q2; clear_value q2
  split
  with_reducible assumption
  refine Fr.ite ?_ ?_
  extract_lets +onlyGivenNames q7; clear_value q7
  extract_lets +onlyGivenNames q9; refine Fr.cut (a := q9) ?_ (fun _ => ?_)
  rotate_left; clear_value q9; rotate_right; unfold q9
  with_reducible apply State.setStream_fr
  with_reducible assumption
  exact List.Subset.trans (by decide) hl
  extract_lets +onlyGivenNames q18; refine Fr.cut (a := q18) ?_ (fun _ => ?_)
  rotate_left; clear_value q18; rotate_right; unfold q18
  with_reducible apply forN_fr
  with_reducible assumption
  intro x26_0 x26_1 x26_2
  refine Fr.foldl ?_ ?_
  with_reducible assumption
  intro x29_0 x29_1 x29_2
  with_reducible apply State.plnGrid_fr
  with_reducible assumption
  exact List.Subset.trans (by decide) hl
  with_reducible apply State.sviNote_fr
  with_reducible apply State.raiseRec_fr
  with_reducible assumption
  exact List.Subset.trans (by decide) hl
  exact List.Subset.trans (by decide) hl
  with_reducible assumption

theorem State.passOnTime_fr {s : State} {c : StreamCfg} {w : Wait} (hz : Fr l z s) (hl : [.out, .regs, .once,
      .log, .evt, .prf, .pln, .svi, .cnd, .pair] ⊆ l) :
    Fr l z (State.passOnTime s c w) := by
  unfold State.passOnTime
  extract_lets +onlyGivenNames q0; clear_value q0
  extract_lets +onlyGivenNames q2; clear_value q2
  extract_lets +onlyGivenNames q4; refine Fr.cut (a := q4) ?_ (fun _ => ?_)
  rotate_left; clear_value q4; rotate_right; unfold q4
  with_reducible apply State.passTo_fr
  with_reducible assumption
  exact List.Subset.trans (by decide) hl
  extract_lets +onlyGivenNames q13; clear_value q13
  extract_lets +onlyGivenNames q15; refine Fr.cut (a := q15) ?_ (fun _ => ?_)
  rotate_left; clear_value q15; rotate_right; unfold q15
  with_reducible apply State.setStream_fr
  with_reducible assumption
  exact List.Subset.trans (by decide) hl
  extract_lets +onlyGivenNames q24; refine Fr.cut (a := q24) ?_ (fun _ => ?_)
  rotate_left; clear_value q24; rotate_right; unfold q24
  with_reducible apply State.onTimeState_fr
  with_reducible assumption
  exact List.Subset.trans (by decide) hl
  with_reducible apply State.partnerTry_fr
  with_reducible apply State.substEnd_fr
  with_reducible assumption
  exact List.Subset.trans (by decide) hl
  exact List.Subset.trans (by decide) hl

theorem State.replace_fr {s : State} {c : StreamCfg} {arrival : Bool} {next : Nat} {anchor : Nat} (hz : Fr l z s)
    (hl : [.out, .regs, .once, .log, .evt, .prf, .pln, .svi, .cnd, .pair] ⊆ l) :
    Fr l z (State.replace s c arrival next anchor) := by
  unfold State.replace
  extract_lets +onlyGivenNames q0; clear_value q0
  extract_lets +onlyGivenNames q2; refine Fr.cut (a := q2) ?_ (fun _ => ?_)
  rotate_left; clear_value q2; rotate_right; unfold q2
  refine Fr.foldl ?_ ?_
  with_reducible apply State.setStream_fr
  with_reducible assumption
  exact List.Subset.trans (by decide) hl
  intro x12_0 x12_1 x12_2
  with_reducible apply State.passOnTime_fr
  with_reducible assumption
  exact hl
  with_reducible apply State.setStream_fr
  with_reducible assumption
  exact List.Subset.trans (by decide) hl

theorem State.place_fr {s : State} {c : StreamCfg} {a : SvAsdu} {n : Nat} {k : Nat} {ts : Nat} (hz : Fr l z s)
    (hl : [.out, .regs, .once, .log, .evt, .prf, .pln, .svi, .cnd, .pair] ⊆ l) :
    Fr l z (State.place s c a n k ts).1 := by
  unfold State.place
  extract_lets +onlyGivenNames q0; clear_value q0
  extract_lets +onlyGivenNames q2; clear_value q2
  split
  extract_lets +onlyGivenNames q5; clear_value q5
  split
  dsimp -zeta only
  with_reducible apply State.replace_fr
  with_reducible assumption
  exact hl
  dsimp -zeta only
  with_reducible assumption
  extract_lets +onlyGivenNames q14; clear_value q14
  split
  dsimp -zeta only
  with_reducible apply State.replace_fr
  with_reducible assumption
  exact hl
  extract_lets +onlyGivenNames q21; clear_value q21
  extract_lets +onlyGivenNames q23; clear_value q23
  split
  dsimp -zeta only
  with_reducible assumption
  extract_lets +onlyGivenNames q28; clear_value q28
  extract_lets +onlyGivenNames q30; clear_value q30
  extract_lets +onlyGivenNames q32; clear_value q32
  split
  dsimp -zeta only
  with_reducible apply State.replace_fr
  with_reducible assumption
  exact hl
  dsimp -zeta only
  with_reducible assumption

theorem State.simSwitch_fr {s : State} {i : Nat} {on : Bool} (hz : Fr l z s) (hl : [.regs, .log, .evt, .svi] ⊆ l) :
    Fr l z (State.simSwitch s i on) := by
  unfold State.simSwitch
  with_reducible apply State.sviNote_fr
  with_reducible apply State.raiseRec_fr
  with_reducible apply State.setStream_fr
  with_reducible assumption
  exact List.Subset.trans (by decide) hl
  exact List.Subset.trans (by decide) hl
  exact List.Subset.trans (by decide) hl

theorem State.margin_fr {s : State} {i : Nat} {ns : Nat} (hz : Fr l z s) (hl : [.regs] ⊆ l) :
    Fr l z (State.margin s i ns) := by
  unfold State.margin
  extract_lets +onlyGivenNames q0
  refine Fr.foldl ?_ ?_
  unfold q0
  refine Fr.ite ?_ ?_
  with_reducible apply State.wr_fr
  with_reducible assumption
  exact hl
  with_reducible assumption
  intro x8_0 x8_1 x8_2
  refine Fr.ite ?_ ?_
  unfold q0
  refine Fr.ite ?_ ?_
  with_reducible apply State.wr_fr
  with_reducible assumption
  exact hl
  with_reducible assumption
  with_reducible assumption

theorem State.drainWaits_fr {s : State} {c : StreamCfg} {fuel : Nat} (hz : Fr l z s) (hl : [.out, .regs, .once, .log, .evt, .prf, .pln, .svi, .cnd, .pair] ⊆ l) :
    Fr l z (State.drainWaits s c fuel) := by
  induction fuel generalizing s with
  | zero => exact hz
  | succ fuel ih =>
    unfold State.drainWaits
    dsimp only
    split
    · exact hz
    · refine Fr.ite (ih ?_) hz
      exact State.passOnTime_fr (State.setStream_fr hz (List.Subset.trans (by decide) hl))
        (List.Subset.trans (by decide) hl)

theorem State.asduTake_fr {s : State} {c : StreamCfg} {f : SvFrame} {a : SvAsdu} {pos : Nat} {t : Nat} {ts : Nat}
    (hz : Fr l z s) (hl : [.out, .regs, .once, .log, .evt, .prf, .pln, .svi, .cnd, .pair] ⊆ l) :
    Fr l z (State.asduTake s c f a pos t ts) := by
  unfold State.asduTake
  extract_lets +onlyGivenNames q0; clear_value q0
  extract_lets +onlyGivenNames q2; refine Fr.cut (a := q2) ?_ (fun _ => ?_)
  rotate_left; clear_value q2; rotate_right; unfold q2
  refine Fr.ite ?_ ?_
  with_reducible apply State.simSwitch_fr
  with_reducible assumption
  exact List.Subset.trans (by decide) hl
  with_reducible assumption
  extract_lets +onlyGivenNames q13; clear_value q13
  extract_lets +onlyGivenNames q15; refine Fr.cut (a := q15) ?_ (fun _ => ?_)
  rotate_left; clear_value q15; rotate_right; unfold q15
  with_reducible apply State.margin_fr
  with_reducible assumption
  exact List.Subset.trans (by decide) hl
  extract_lets +onlyGivenNames q24; clear_value q24
  extract_lets +onlyGivenNames q26; refine Fr.cut (a := q26) ?_ (fun _ => ?_)
  rotate_left; clear_value q26; rotate_right; unfold q26
  with_reducible apply State.setStream_fr
  with_reducible assumption
  exact List.Subset.trans (by decide) hl
  extract_lets +onlyGivenNames q35; clear_value q35
  extract_lets +onlyGivenNames q37; clear_value q37
  extract_lets +onlyGivenNames q39; refine Fr.cut (a := q39) ?_ (fun _ => ?_)
  rotate_left; clear_value q39; rotate_right; unfold q39
  refine Fr.ite ?_ ?_
  with_reducible apply State.setStream_fr
  with_reducible assumption
  exact List.Subset.trans (by decide) hl
  with_reducible assumption
  extract_lets +onlyGivenNames q50; clear_value q50
  refine Fr.ite ?_ ?_
  with_reducible apply State.drainWaits_fr
  with_reducible apply State.passOnTime_fr
  with_reducible assumption
  exact hl
  exact hl
  with_reducible apply State.setStream_fr
  with_reducible assumption
  exact List.Subset.trans (by decide) hl

theorem State.asdu_fr {s : State} {c : StreamCfg} {f : SvFrame} {a : SvAsdu} {k : Nat} {ts : Nat} (hz : Fr l z s)
    (hl : [.out, .regs, .once, .log, .evt, .prf, .pln, .svi, .cnd, .pair] ⊆ l) :
    Fr l z (State.asdu s c f a k ts).1 := by
  unfold State.asdu
  split
  dsimp -zeta only
  with_reducible apply State.svCount_fr
  with_reducible assumption
  exact List.Subset.trans (by decide) hl
  split
  dsimp -zeta only
  with_reducible apply State.svCount_fr
  with_reducible refine Fr.pair ‹_ = (_, _)› ?_
  with_reducible apply State.place_fr
  with_reducible assumption
  exact hl
  exact List.Subset.trans (by decide) hl
  split
  dsimp -zeta only
  with_reducible apply State.svCount_fr
  with_reducible refine Fr.pair ‹_ = (_, _)› ?_
  with_reducible apply State.place_fr
  with_reducible assumption
  exact hl
  exact List.Subset.trans (by decide) hl
  dsimp -zeta only
  with_reducible apply State.asduTake_fr
  with_reducible refine Fr.pair ‹_ = (_, _)› ?_
  with_reducible apply State.place_fr
  with_reducible assumption
  exact hl
  exact hl

theorem State.asdus_fr {s : State} {c : StreamCfg} {f : SvFrame} {ts : Nat} {l1 : List SvAsdu} {k : Nat} {n : Nat} (hz : Fr l z s) (hl : [.out, .regs, .once, .log, .evt, .prf, .pln, .svi, .cnd, .pair] ⊆ l) :
    Fr l z (State.asdus s c f ts l1 k n).1 := by
  induction l1 generalizing s k n with
  | nil => exact hz
  | cons a r ih =>
    unfold State.asdus
    split
    refine ih (Fr.pair (by assumption) ?_)
    exact State.asdu_fr hz (List.Subset.trans (by decide) hl)

theorem State.setAsym_fr {s : State} {p : Nat} {a : Asym} (hz : Fr l z s) (hl : [.bcn] ⊆ l) :
    Fr l z (State.setAsym s p a) := by
  unfold State.setAsym
  refine Fr.upd ?_ (c12 := .inl (hl (by decide)))
  with_reducible assumption

theorem State.asymAdopt_fr {s : State} {p : Nat} {v : Int} (hz : Fr l z s) (hl : [.bcn] ⊆ l) :
    Fr l z (State.asymAdopt s p v) := by
  unfold State.asymAdopt
  extract_lets +onlyGivenNames q0; clear_value q0
  extract_lets +onlyGivenNames q2; clear_value q2
  with_reducible apply State.setAsym_fr
  with_reducible assumption
  exact hl

theorem State.setNode_fr {s : State} {x : Node} (hz : Fr l z s) (hl : [.rdg] ⊆ l) :
    Fr l z (State.setNode s x) := by
  unfold State.setNode
  extract_lets +onlyGivenNames q0; clear_value q0
  extract_lets +onlyGivenNames q2
  refine Fr.upd ?_ (c14 := .inl (hl (by decide)))
  with_reducible assumption

theorem State.markSeen_fr {s : State} {mac : Nat} {g : Nat} {q : Nat} {x : Bool} (hz : Fr l z s) (hl : [.rdg] ⊆ l) :
    Fr l z (State.markSeen s mac g q x) := by
  unfold State.markSeen
  split
  with_reducible assumption
  extract_lets +onlyGivenNames q2; clear_value q2
  refine Fr.ite ?_ ?_
  with_reducible apply State.setNode_fr
  with_reducible assumption
  exact hl
  with_reducible assumption

theorem State.wrapBy_fr {s : State} {a : Nat} {n : Nat} (hz : Fr l z s) (hl : [.regs] ⊆ l) :
    Fr l z (State.wrapBy s a n) := by
  unfold State.wrapBy
  with_reducible apply State.wr_fr
  with_reducible assumption
  exact hl

theorem State.epCount_fr {s : State} {x : Nat} {c : Nat} (hz : Fr l z s) (hl : [.regs] ⊆ l) :
    Fr l z (State.epCount s x c) := by
  unfold State.epCount
  with_reducible apply State.wrapBy_fr
  with_reducible assumption
  exact hl

theorem State.setCredit_fr {s : State} {p : Nat} {c : Nat} {v : Int} (hz : Fr l z s) (hl : [.rdg] ⊆ l) :
    Fr l z (State.setCredit s p c v) := by
  unfold State.setCredit
  extract_lets +onlyGivenNames q0; clear_value q0
  refine Fr.upd ?_ (c14 := .inl (hl (by decide)))
  with_reducible assumption

theorem State.prfRidge_fr {s : State} {ev : Nat} {e : Nat} {n : Nat} {smp : Option SampleInfo} (hz : Fr l z s)
    (hl : [.out, .regs, .once, .evt, .prf] ⊆ l) :
    Fr l z (State.prfRidge s ev e n smp) := by
  unfold State.prfRidge
  with_reducible apply State.prfBank_fr
  with_reducible assumption
  exact hl

theorem State.spray_fr {s : State} {x : Nat} {out : Nat} {cls : Nat} {cells : Nat} (hz : Fr l z s) (hl : [.out,
      .regs, .once, .evt, .rdg, .prf] ⊆ l) :
    Fr l z (State.spray s x out cls cells) := by
  unfold State.spray
  extract_lets +onlyGivenNames q0; clear_value q0
  extract_lets +onlyGivenNames q2; clear_value q2
  extract_lets +onlyGivenNames q4; clear_value q4
  extract_lets +onlyGivenNames q6; refine Fr.cut (a := q6) ?_ (fun _ => ?_)
  rotate_left; clear_value q6; rotate_right; unfold q6
  refine Fr.upd ?_ (c14 := .inl (hl (by decide)))
  with_reducible assumption
  extract_lets +onlyGivenNames q14; clear_value q14
  extract_lets +onlyGivenNames q16; clear_value q16
  extract_lets +onlyGivenNames q18; clear_value q18
  extract_lets +onlyGivenNames q20; refine Fr.cut (a := q20) ?_ (fun _ => ?_)
  rotate_left; clear_value q20; rotate_right; unfold q20
  with_reducible apply State.prfRidge_fr
  with_reducible assumption
  exact List.Subset.trans (by decide) hl
  refine Fr.ite ?_ ?_
  with_reducible apply State.prfRidge_fr
  with_reducible apply State.prfRidge_fr
  with_reducible assumption
  exact List.Subset.trans (by decide) hl
  exact List.Subset.trans (by decide) hl
  refine Fr.ite ?_ ?_
  with_reducible apply State.prfRidge_fr
  with_reducible assumption
  exact List.Subset.trans (by decide) hl
  with_reducible apply State.prfRidge_fr
  with_reducible assumption
  exact List.Subset.trans (by decide) hl

theorem State.stat_fr {s : State} {p : Nat} {n : Nat} {by_ : Nat} (hz : Fr l z s) (hl : [.regs, .evt] ⊆ l) :
    Fr l z (State.stat s p n by_) := by
  unfold State.stat
  extract_lets +onlyGivenNames q0; clear_value q0
  extract_lets +onlyGivenNames q2; clear_value q2
  extract_lets +onlyGivenNames q4; refine Fr.cut (a := q4) ?_ (fun _ => ?_)
  rotate_left; clear_value q4; rotate_right; unfold q4
  with_reducible apply State.wrapBy_fr
  with_reducible assumption
  exact List.Subset.trans (by decide) hl
  extract_lets +onlyGivenNames q13; clear_value q13
  refine Fr.ite ?_ ?_
  extract_lets +onlyGivenNames q16; clear_value q16
  extract_lets +onlyGivenNames q18; refine Fr.cut (a := q18) ?_ (fun _ => ?_)
  rotate_left; clear_value q18; rotate_right; unfold q18
  with_reducible apply State.wr_fr
  with_reducible assumption
  exact List.Subset.trans (by decide) hl
  refine Fr.ite ?_ ?_
  with_reducible apply State.setEvent_fr
  with_reducible assumption
  exact hl
  extract_lets +onlyGivenNames q31; clear_value q31
  with_reducible apply State.wr_fr
  with_reducible assumption
  exact List.Subset.trans (by decide) hl
  with_reducible assumption

theorem State.sendPfc_fr {s : State} {p : Nat} {c : Nat} {quanta : Nat} (hz : Fr l z s) (hl : [.out, .regs,
      .evt] ⊆ l) :
    Fr l z (State.sendPfc s p c quanta) := by
  unfold State.sendPfc
  with_reducible apply State.emit_fr
  with_reducible apply State.stat_fr
  with_reducible assumption
  exact List.Subset.trans (by decide) hl
  exact List.Subset.trans (by decide) hl

theorem State.pfcCheck_fr {s : State} {p : Nat} {c : Nat} (hz : Fr l z s) (hl : [.out, .regs, .evt, .ports] ⊆ l) :
    Fr l z (State.pfcCheck s p c) := by
  unfold State.pfcCheck
  refine Fr.ite ?_ ?_
  extract_lets +onlyGivenNames q1; clear_value q1
  extract_lets +onlyGivenNames q3; clear_value q3
  extract_lets +onlyGivenNames q5; clear_value q5
  refine Fr.ite ?_ ?_
  refine Fr.ite ?_ ?_
  with_reducible apply State.sendPfc_fr
  with_reducible apply State.setPort_fr
  with_reducible assumption
  exact List.Subset.trans (by decide) hl
  exact List.Subset.trans (by decide) hl
  with_reducible assumption
  refine Fr.ite ?_ ?_
  with_reducible apply State.sendPfc_fr
  with_reducible apply State.setPort_fr
  with_reducible assumption
  exact List.Subset.trans (by decide) hl
  exact List.Subset.trans (by decide) hl
  with_reducible assumption
  with_reducible assumption

theorem State.enqueue_fr {s : State} {q : QFrame} (hz : Fr l z s) (hl : [.out, .regs, .once, .log, .evt, .ports,
      .rdg, .prf] ⊆ l) :
    Fr l z (State.enqueue s q) := by
  unfold State.enqueue
  refine Fr.ite ?_ ?_
  extract_lets +onlyGivenNames q1; clear_value q1
  extract_lets +onlyGivenNames q3; refine Fr.cut (a := q3) ?_ (fun _ => ?_)
  rotate_left; clear_value q3; rotate_right; unfold q3
  refine Fr.ite ?_ ?_
  with_reducible apply State.setCredit_fr
  with_reducible assumption
  exact List.Subset.trans (by decide) hl
  with_reducible assumption
  extract_lets +onlyGivenNames q14; refine Fr.cut (a := q14) ?_ (fun _ => ?_)
  rotate_left; clear_value q14; rotate_right; unfold q14
  with_reducible apply State.spray_fr
  with_reducible assumption
  exact List.Subset.trans (by decide) hl
  extract_lets +onlyGivenNames q23; clear_value q23
  extract_lets +onlyGivenNames q25; refine Fr.cut (a := q25) ?_ (fun _ => ?_)
  rotate_left; clear_value q25; rotate_right; unfold q25
  refine Fr.upd ?_ (c14 := .inl (hl (by decide)))
  with_reducible assumption
  with_reducible apply State.pfcCheck_fr
  with_reducible assumption
  exact List.Subset.trans (by decide) hl
  extract_lets +onlyGivenNames q36; refine Fr.cut (a := q36) ?_ (fun _ => ?_)
  rotate_left; clear_value q36; rotate_right; unfold q36
  with_reducible apply State.epCount_fr
  with_reducible assumption
  exact List.Subset.trans (by decide) hl
  refine Fr.ite ?_ ?_
  with_reducible apply State.eventRec_fr
  with_reducible apply State.setEvent_fr
  with_reducible assumption
  exact List.Subset.trans (by decide) hl
  exact List.Subset.trans (by decide) hl
  with_reducible assumption

theorem State.authResult_fr {s : State} {mac : Nat} {g : Nat} {q : Nat} {ok : Bool} (hz : Fr l z s) (hl : [.out,
      .regs, .once, .log, .evt, .ports, .rdg, .prf] ⊆ l) :
    Fr l z (State.authResult s mac g q ok) := by
  unfold State.authResult
  split
  refine Fr.ite ?_ ?_
  with_reducible assumption
  with_reducible apply State.markSeen_fr
  with_reducible assumption
  exact List.Subset.trans (by decide) hl
  extract_lets +onlyGivenNames q6; clear_value q6
  extract_lets +onlyGivenNames q8; refine Fr.cut (a := q8) ?_ (fun _ => ?_)
  rotate_left; clear_value q8; rotate_right; unfold q8
  refine Fr.upd ?_ (c14 := .inl (hl (by decide)))
  with_reducible assumption
  refine Fr.ite ?_ ?_
  refine Fr.ite ?_ ?_
  with_reducible apply State.epCount_fr
  with_reducible assumption
  exact List.Subset.trans (by decide) hl
  with_reducible assumption
  extract_lets +onlyGivenNames q22; refine Fr.cut (a := q22) ?_ (fun _ => ?_)
  rotate_left; clear_value q22; rotate_right; unfold q22
  with_reducible apply State.markSeen_fr
  with_reducible assumption
  exact List.Subset.trans (by decide) hl
  split
  with_reducible assumption
  extract_lets +onlyGivenNames q33; clear_value q33
  with_reducible apply State.enqueue_fr
  with_reducible assumption
  exact hl

theorem State.runCmd_fr {s : State} {reg : Nat} {code : Nat} {rsv : Nat} {arg : Nat} {v : Verdict}
    {act : State → State} (hz : Fr l z s) (hact : ∀ x0, Fr l z x0 → Fr l z (act x0)) (hl : [.regs, .cmds, .log,
      .evt] ⊆ l) :
    Fr l z (State.runCmd s reg code rsv arg v act) := by
  unfold State.runCmd
  extract_lets +onlyGivenNames q0; clear_value q0
  refine Fr.ite ?_ ?_
  with_reducible apply State.setCmd_fr
  with_reducible assumption
  exact List.Subset.trans (by decide) hl
  refine Fr.ite ?_ ?_
  with_reducible apply State.setCmd_fr
  with_reducible assumption
  exact List.Subset.trans (by decide) hl
  split
  with_reducible apply State.setCmd_fr
  with_reducible assumption
  exact List.Subset.trans (by decide) hl
  with_reducible apply State.refusedRec_fr
  with_reducible apply State.setCmd_fr
  with_reducible assumption
  exact List.Subset.trans (by decide) hl
  exact List.Subset.trans (by decide) hl
  with_reducible apply hact
  with_reducible apply State.setCmd_fr
  with_reducible assumption
  exact List.Subset.trans (by decide) hl

end Sys2Proof.Machine
end

