-- ==== Sys2Proof/Laws/Frame2.lean ====
section
/-!
SUPPORT. What each operation may change, and that it keeps what every operation keeps (part 2).
-/

set_option Elab.async false

namespace Sys2Proof.Machine

open Sys2Proof

variable {l : List Part} {z : State}

theorem State.badCode_fr {s : State} {reg : Nat} {code : Nat} {rsv : Nat} {arg : Nat} (hz : Fr l z s)
    (hl : [.regs, .cmds, .log, .evt] ⊆ l) :
    Fr l z (State.badCode s reg code rsv arg) := by
  unfold State.badCode
  with_reducible apply State.runCmd_fr
  with_reducible assumption
  intro x2_0 x2_1
  assumption
  exact hl

theorem State.vfDone_fr {s : State} {v : Nat} (hz : Fr l z s) (hl : [.out, .regs, .cmds, .log, .evt, .hst] ⊆ l) :
    Fr l z (State.vfDone s v) := by
  unfold State.vfDone
  with_reducible apply State.vfEvent_fr
  with_reducible apply State.cmdDone_fr
  with_reducible assumption
  exact List.Subset.trans (by decide) hl
  exact List.Subset.trans (by decide) hl

theorem queueEnable_fr {s : State} {v : Nat} {rsv : Nat} {arg : Nat} (hz : Fr l z s) (hl : [.out, .regs, .cmds,
      .log, .evt, .hst] ⊆ l) :
    Fr l z (queueEnable v rsv arg s) := by
  unfold queueEnable
  extract_lets +onlyGivenNames q0; clear_value q0
  split
  with_reducible apply State.runCmd_fr
  with_reducible assumption
  intro x5_0 x5_1
  assumption
  exact List.Subset.trans (by decide) hl
  extract_lets +onlyGivenNames q8; clear_value q8
  extract_lets +onlyGivenNames q10
  with_reducible apply State.runCmd_fr
  with_reducible assumption
  intro x13_0 x13_1
  extract_lets +onlyGivenNames q14; clear_value q14
  with_reducible apply State.vfDone_fr
  with_reducible apply State.setQueue_fr
  with_reducible assumption
  exact List.Subset.trans (by decide) hl
  exact hl
  exact List.Subset.trans (by decide) hl

theorem queueDisable_fr {s : State} {v : Nat} {rsv : Nat} {arg : Nat} (hz : Fr l z s) (hl : [.regs, .cmds, .log,
      .evt, .hst] ⊆ l) :
    Fr l z (queueDisable v rsv arg s) := by
  unfold queueDisable
  extract_lets +onlyGivenNames q0; clear_value q0
  split
  with_reducible apply State.runCmd_fr
  with_reducible assumption
  intro x5_0 x5_1
  assumption
  exact List.Subset.trans (by decide) hl
  with_reducible apply State.runCmd_fr
  with_reducible assumption
  intro x10_0 x10_1
  with_reducible apply State.setQueue_fr
  with_reducible assumption
  exact List.Subset.trans (by decide) hl
  exact List.Subset.trans (by decide) hl

theorem guestLoad_fr {s : State} {v : Nat} {rsv : Nat} {arg : Nat} {buf : List Byte} (hz : Fr l z s) (hl : [.regs,
      .cmds, .log, .evt, .kpr] ⊆ l) :
    Fr l z (guestLoad v rsv arg buf s) := by
  unfold guestLoad
  extract_lets +onlyGivenNames q0; clear_value q0
  extract_lets +onlyGivenNames q2; clear_value q2
  extract_lets +onlyGivenNames q4; clear_value q4
  extract_lets +onlyGivenNames q6; clear_value q6
  extract_lets +onlyGivenNames q8; clear_value q8
  extract_lets +onlyGivenNames q10; clear_value q10
  extract_lets +onlyGivenNames q12; refine Fr.cut (a := q12) ?_ (fun _ => ?_)
  rotate_left; clear_value q12; rotate_right; unfold q12
  with_reducible apply State.setFn_fr
  with_reducible assumption
  exact List.Subset.trans (by decide) hl
  with_reducible apply State.runCmd_fr
  with_reducible assumption
  intro x23_0 x23_1
  with_reducible apply State.setFn_fr
  with_reducible assumption
  exact List.Subset.trans (by decide) hl
  exact List.Subset.trans (by decide) hl

theorem State.guestCmd_fr {s : State} {code : Nat} {v : Nat} {rsv : Nat} {arg : Nat} {st : Nat → Bool}
    {act : State → State} (hz : Fr l z s) (hact : ∀ x0, Fr l z x0 → Fr l z (act x0)) (hl : [.out, .regs, .cmds,
      .log, .evt, .hst] ⊆ l) :
    Fr l z (State.guestCmd s code v rsv arg st act) := by
  unfold State.guestCmd
  with_reducible apply State.runCmd_fr
  with_reducible assumption
  intro x2_0 x2_1
  with_reducible apply State.vfDone_fr
  with_reducible apply hact
  with_reducible assumption
  exact hl
  exact List.Subset.trans (by decide) hl

theorem State.setKeeper_fr {s : State} {k : Nat} {x : Keeper} (hz : Fr l z s) (hl : [.kpr] ⊆ l) :
    Fr l z (State.setKeeper s k x) := by
  unfold State.setKeeper
  refine Fr.upd ?_ (c24 := .inl (hl (by decide)))
  with_reducible assumption

theorem State.prfKeeper_fr {s : State} {k : Nat} {ev : Nat} {n : Nat} (hz : Fr l z s) (hl : [.out, .regs, .once,
      .evt, .prf] ⊆ l) :
    Fr l z (State.prfKeeper s k ev n) := by
  unfold State.prfKeeper
  with_reducible apply State.prfBank_fr
  with_reducible assumption
  exact hl

theorem State.dispatch_fr {s : State} {k : Nat} {id : Nat} (hz : Fr l z s) (hl : [.out, .regs, .once, .evt, .prf,
      .kpr] ⊆ l) :
    Fr l z (State.dispatch s k id) := by
  unfold State.dispatch
  extract_lets +onlyGivenNames q0; clear_value q0
  extract_lets +onlyGivenNames q2; clear_value q2
  extract_lets +onlyGivenNames q4; clear_value q4
  extract_lets +onlyGivenNames q6; clear_value q6
  extract_lets +onlyGivenNames q8; clear_value q8
  split
  extract_lets +onlyGivenNames q11; clear_value q11
  extract_lets +onlyGivenNames q13; clear_value q13
  extract_lets +onlyGivenNames q15; refine Fr.cut (a := q15) ?_ (fun _ => ?_)
  rotate_left; clear_value q15; rotate_right; unfold q15
  with_reducible apply State.setKeeper_fr
  with_reducible assumption
  exact List.Subset.trans (by decide) hl
  extract_lets +onlyGivenNames q24; refine Fr.cut (a := q24) ?_ (fun _ => ?_)
  rotate_left; clear_value q24; rotate_right; unfold q24
  with_reducible apply State.prfKeeper_fr
  with_reducible apply State.prfKeeper_fr
  with_reducible assumption
  exact List.Subset.trans (by decide) hl
  exact List.Subset.trans (by decide) hl
  refine Fr.ite ?_ ?_
  with_reducible apply State.prfKeeper_fr
  with_reducible assumption
  exact List.Subset.trans (by decide) hl
  with_reducible assumption

theorem State.nextRun_fr {s : State} {k : Nat} (hz : Fr l z s) (hl : [.out, .regs, .once, .evt, .prf, .kpr] ⊆ l) :
    Fr l z (State.nextRun s k) := by
  unfold State.nextRun
  extract_lets +onlyGivenNames q0; clear_value q0
  split
  with_reducible apply State.setKeeper_fr
  with_reducible assumption
  exact List.Subset.trans (by decide) hl
  with_reducible apply State.dispatch_fr
  with_reducible apply State.setKeeper_fr
  with_reducible assumption
  exact List.Subset.trans (by decide) hl
  exact hl

theorem State.guestDrop_fr {s : State} {id : Nat} (hz : Fr l z s) (hl : [.out, .regs, .once, .evt, .prf, .kpr] ⊆ l) :
    Fr l z (State.guestDrop s id) := by
  unfold State.guestDrop
  extract_lets +onlyGivenNames q0; clear_value q0
  extract_lets +onlyGivenNames q2; clear_value q2
  extract_lets +onlyGivenNames q4; refine Fr.cut (a := q4) ?_ (fun _ => ?_)
  rotate_left; clear_value q4; rotate_right; unfold q4
  with_reducible apply State.setKeeper_fr
  with_reducible assumption
  exact List.Subset.trans (by decide) hl
  extract_lets +onlyGivenNames q13; refine Fr.cut (a := q13) ?_ (fun _ => ?_)
  rotate_left; clear_value q13; rotate_right; unfold q13
  refine Fr.ite ?_ ?_
  with_reducible apply State.nextRun_fr
  with_reducible assumption
  exact hl
  with_reducible assumption
  extract_lets +onlyGivenNames q24; clear_value q24
  extract_lets +onlyGivenNames q26; refine Fr.cut (a := q26) ?_ (fun _ => ?_)
  rotate_left; clear_value q26; rotate_right; unfold q26
  refine Fr.upd ?_ (c24 := .inl (hl (by decide)))
  with_reducible assumption
  with_reducible apply State.setFn_fr
  with_reducible assumption
  exact List.Subset.trans (by decide) hl

theorem guestUnload_fr {s : State} {v : Nat} {rsv : Nat} {arg : Nat} (hz : Fr l z s) (hl : [.out, .regs, .cmds,
      .once, .log, .evt, .prf, .hst, .kpr] ⊆ l) :
    Fr l z (guestUnload v rsv arg s) := by
  unfold guestUnload
  with_reducible apply State.guestCmd_fr
  with_reducible assumption
  intro x2_0 x2_1
  with_reducible apply State.guestDrop_fr
  with_reducible assumption
  exact List.Subset.trans (by decide) hl
  exact List.Subset.trans (by decide) hl

theorem guestRestart_fr {s : State} {v : Nat} {rsv : Nat} {arg : Nat} (hz : Fr l z s) (hl : [.out, .regs, .cmds,
      .log, .evt, .hst, .kpr] ⊆ l) :
    Fr l z (guestRestart v rsv arg s) := by
  unfold guestRestart
  extract_lets +onlyGivenNames q0; clear_value q0
  with_reducible apply State.guestCmd_fr
  with_reducible assumption
  intro x4_0 x4_1
  extract_lets +onlyGivenNames q5; clear_value q5
  with_reducible apply State.setFn_fr
  with_reducible assumption
  exact List.Subset.trans (by decide) hl
  exact List.Subset.trans (by decide) hl

theorem State.copyBegin_fr {s : State} {v : Nat} {arg : Nat} {addr : Nat} (hz : Fr l z s) (hl : [.gal] ⊆ l) :
    Fr l z (State.copyBegin s v arg addr) := by
  unfold State.copyBegin
  refine Fr.upd ?_ (c25 := .inl (hl (by decide)))
  with_reducible assumption

theorem vfGalCopy_fr {s : State} {v : Nat} {rsv : Nat} {arg : Nat} (hz : Fr l z s) (hl : [.regs, .cmds, .log,
      .evt, .gal] ⊆ l) :
    Fr l z (vfGalCopy v rsv arg s) := by
  unfold vfGalCopy
  extract_lets +onlyGivenNames q0; clear_value q0
  extract_lets +onlyGivenNames q2; clear_value q2
  with_reducible apply State.runCmd_fr
  with_reducible assumption
  intro x6_0 x6_1
  with_reducible apply State.copyBegin_fr
  with_reducible assumption
  exact List.Subset.trans (by decide) hl
  exact List.Subset.trans (by decide) hl

theorem vfCommand_fr {s : State} {v : Nat} {code : Nat} {rsv : Nat} {arg : Nat} {buf : List Byte} (hz : Fr l z s)
    (hl : [.out, .regs, .cmds, .once, .log, .evt, .prf, .hst, .kpr, .gal] ⊆ l) :
    Fr l z (vfCommand v code rsv arg buf s) := by
  unfold vfCommand
  split
  with_reducible apply queueEnable_fr
  with_reducible assumption
  exact List.Subset.trans (by decide) hl
  with_reducible apply queueDisable_fr
  with_reducible assumption
  exact List.Subset.trans (by decide) hl
  with_reducible apply guestLoad_fr
  with_reducible assumption
  exact List.Subset.trans (by decide) hl
  with_reducible apply guestUnload_fr
  with_reducible assumption
  exact List.Subset.trans (by decide) hl
  with_reducible apply guestRestart_fr
  with_reducible assumption
  exact List.Subset.trans (by decide) hl
  with_reducible apply vfGalCopy_fr
  with_reducible assumption
  exact List.Subset.trans (by decide) hl
  with_reducible apply State.badCode_fr
  with_reducible assumption
  exact List.Subset.trans (by decide) hl

theorem State.vfEnableWrite_fr {s : State} {v : Nat} {x : Word} (hz : Fr l z s) (hl : [.out, .regs, .hst] ⊆ l) :
    Fr l z (State.vfEnableWrite s v x) := by
  unfold State.vfEnableWrite
  extract_lets +onlyGivenNames q0; clear_value q0
  extract_lets +onlyGivenNames q2; clear_value q2
  extract_lets +onlyGivenNames q4; refine Fr.cut (a := q4) ?_ (fun _ => ?_)
  rotate_left; clear_value q4; rotate_right; unfold q4
  with_reducible apply State.wr_fr
  with_reducible assumption
  exact List.Subset.trans (by decide) hl
  refine Fr.ite ?_ ?_
  with_reducible assumption
  split
  with_reducible assumption
  with_reducible apply State.fireVec_fr
  with_reducible assumption
  exact List.Subset.trans (by decide) hl

theorem State.setReader_fr {s : State} {q : Requester} {r : LogReader} (hz : Fr l z s) (hl : [.log] ⊆ l) :
    Fr l z (State.setReader s q r) := by
  unfold State.setReader
  refine Fr.upd ?_ (c9 := .inl (hl (by decide)))
  with_reducible assumption

theorem State.logCtrlWrite_fr {s : State} {q : Requester} {v : Word} (hz : Fr l z s) (hl : [.log] ⊆ l) :
    Fr l z (State.logCtrlWrite s q v) := by
  unfold State.logCtrlWrite
  extract_lets +onlyGivenNames q0; clear_value q0
  extract_lets +onlyGivenNames q2; clear_value q2
  with_reducible apply State.setReader_fr
  with_reducible assumption
  exact hl

theorem State.logCursorWrite_fr {s : State} {q : Requester} {v : Word} (hz : Fr l z s) (hl : [.log] ⊆ l) :
    Fr l z (State.logCursorWrite s q v) := by
  unfold State.logCursorWrite
  with_reducible apply State.setReader_fr
  with_reducible assumption
  exact hl

theorem tailWrite_fr {s : State} {n : Nat} {tx : Bool} {v : Nat} (hz : Fr l z s) (hl : [.hst] ⊆ l) :
    Fr l z (tailWrite n tx v s) := by
  unfold tailWrite
  extract_lets +onlyGivenNames q0; clear_value q0
  refine Fr.ite ?_ ?_
  with_reducible apply State.setQueue_fr
  with_reducible assumption
  exact hl
  with_reducible apply State.setQueue_fr
  with_reducible assumption
  exact hl

theorem State.queueWrite_fr {s : State} {n : Nat} {off : Nat} {v : Word} (hz : Fr l z s) (hl : [.hst] ⊆ l) :
    Fr l z (State.queueWrite s n off v) := by
  unfold State.queueWrite
  extract_lets +onlyGivenNames q0; clear_value q0
  split
  with_reducible apply State.setQueue_fr
  with_reducible assumption
  exact hl
  with_reducible apply State.setQueue_fr
  with_reducible assumption
  exact hl
  with_reducible apply State.setQueue_fr
  with_reducible assumption
  exact hl
  with_reducible apply State.setQueue_fr
  with_reducible assumption
  exact hl
  with_reducible apply State.setQueue_fr
  with_reducible assumption
  exact hl
  with_reducible apply tailWrite_fr
  with_reducible assumption
  exact hl
  with_reducible apply tailWrite_fr
  with_reducible assumption
  exact hl
  with_reducible apply State.setQueue_fr
  with_reducible assumption
  exact hl
  with_reducible assumption

theorem State.localWrite_fr {s : State} {v : Nat} {l1 : Nat} {off : Nat} {x : Word} (hz : Fr l z s)
    (hl : [.hst] ⊆ l) :
    Fr l z (State.localWrite s v l1 off x) := by
  unfold State.localWrite
  split
  with_reducible assumption
  with_reducible apply State.queueWrite_fr
  with_reducible assumption
  exact hl

theorem mbxStateWrite_fr {s : State} {q : Requester} {m : Nat} {ack : Nat} (hz : Fr l z s) (hl : [.regs, .once,
      .evt, .hst] ⊆ l) :
    Fr l z (mbxStateWrite q m ack s) := by
  unfold mbxStateWrite
  extract_lets +onlyGivenNames q0; clear_value q0
  refine Fr.ite ?_ ?_
  extract_lets +onlyGivenNames q3; clear_value q3
  refine Fr.ite ?_ ?_
  with_reducible apply State.setMbox_fr
  with_reducible assumption
  exact List.Subset.trans (by decide) hl
  with_reducible apply State.raiseOnce_fr
  with_reducible apply State.fnCount_fr
  with_reducible assumption
  exact List.Subset.trans (by decide) hl
  exact List.Subset.trans (by decide) hl
  with_reducible assumption

theorem prfHiWrite_fr {s : State} {q : Requester} {g : Nat} {v : Word} {wraps : Bool} (hz : Fr l z s)
    (hl : [.prf] ⊆ l) :
    Fr l z (prfHiWrite q g v wraps s) := by
  unfold prfHiWrite
  refine Fr.ite ?_ ?_
  extract_lets +onlyGivenNames q1; clear_value q1
  extract_lets +onlyGivenNames q3; refine Fr.cut (a := q3) ?_ (fun _ => ?_)
  rotate_left; clear_value q3; rotate_right; unfold q3
  with_reducible apply State.setPrf_fr
  with_reducible assumption
  exact hl
  refine Fr.upd ?_ (c18 := .inl (hl (by decide)))
  with_reducible assumption
  with_reducible assumption

theorem State.pageWrite_fr {s : State} {v : Nat} {off : Nat} (hz : Fr l z s) (hl : [.regs, .once, .log, .evt] ⊆ l) :
    Fr l z (State.pageWrite s v off) := by
  unfold State.pageWrite
  extract_lets +onlyGivenNames q0; clear_value q0
  with_reducible apply State.oncePer_fr
  with_reducible apply State.count_fr
  with_reducible assumption
  exact List.Subset.trans (by decide) hl
  intro x6_0 x6_1
  with_reducible apply State.eventRec_fr
  with_reducible apply State.setEvent_fr
  with_reducible assumption
  exact List.Subset.trans (by decide) hl
  exact List.Subset.trans (by decide) hl
  exact List.Subset.trans (by decide) hl

theorem State.barWrite_fr {s : State} {v : Fin 256} {off : Nat} {x : Word} {hw : Word} {buf : List Byte}
    (hz : Fr l z s) (hl : [.out, .regs, .cmds, .once, .log, .evt, .prf, .hst, .kpr, .gal] ⊆ l) :
    Fr l z (State.barWrite s v off x hw buf) := by
  unfold State.barWrite
  extract_lets +onlyGivenNames q0; clear_value q0
  extract_lets +onlyGivenNames q2; clear_value q2
  refine Fr.ite ?_ ?_
  with_reducible apply vfCommand_fr
  with_reducible assumption
  exact hl
  refine Fr.ite ?_ ?_
  with_reducible apply State.wr_fr
  with_reducible assumption
  exact List.Subset.trans (by decide) hl
  refine Fr.ite ?_ ?_
  with_reducible apply State.wr_fr
  with_reducible assumption
  exact List.Subset.trans (by decide) hl
  refine Fr.ite ?_ ?_
  with_reducible apply State.vfEnableWrite_fr
  with_reducible assumption
  exact List.Subset.trans (by decide) hl
  refine Fr.ite ?_ ?_
  with_reducible apply State.wr_fr
  with_reducible assumption
  exact List.Subset.trans (by decide) hl
  refine Fr.ite ?_ ?_
  with_reducible apply State.wr_fr
  with_reducible assumption
  exact List.Subset.trans (by decide) hl
  refine Fr.ite ?_ ?_
  with_reducible apply State.logCtrlWrite_fr
  with_reducible assumption
  exact List.Subset.trans (by decide) hl
  refine Fr.ite ?_ ?_
  with_reducible apply State.logCursorWrite_fr
  with_reducible assumption
  exact List.Subset.trans (by decide) hl
  refine Fr.ite ?_ ?_
  with_reducible apply State.localWrite_fr
  with_reducible assumption
  exact List.Subset.trans (by decide) hl
  refine Fr.ite ?_ ?_
  with_reducible apply mbxStateWrite_fr
  with_reducible assumption
  exact List.Subset.trans (by decide) hl
  refine Fr.ite ?_ ?_
  split
  with_reducible assumption
  with_reducible apply prfHiWrite_fr
  with_reducible assumption
  exact List.Subset.trans (by decide) hl
  refine Fr.ite ?_ ?_
  with_reducible apply State.pageWrite_fr
  with_reducible assumption
  exact List.Subset.trans (by decide) hl
  with_reducible assumption

theorem State.stepsNow_fr {s : State} (hz : Fr l z s) (hl : [.out, .regs, .cmds, .once, .time, .log, .evt, .img,
      .bcn, .pln, .svi, .cnd, .hst, .kpr, .gal, .pub] ⊆ l) :
    Fr l z (State.stepsNow s) := by
  unfold State.stepsNow
  extract_lets +onlyGivenNames q0; clear_value q0
  extract_lets +onlyGivenNames q2; refine Fr.cut (a := q2) ?_ (fun _ => ?_)
  rotate_left; clear_value q2; rotate_right; unfold q2
  split
  with_reducible assumption
  with_reducible apply State.cmdDone_fr
  with_reducible apply State.applyStep_fr
  refine Fr.upd ?_ (c12 := .inl (hl (by decide)))
  with_reducible assumption
  exact hl
  exact List.Subset.trans (by decide) hl
  split
  with_reducible assumption
  with_reducible apply State.applyStep_fr
  with_reducible assumption
  exact hl

theorem State.stepIfIdle_fr {s : State} (hz : Fr l z s) (hl : [.out, .regs, .cmds, .once, .time, .log, .evt, .img,
      .bcn, .pln, .svi, .cnd, .hst, .kpr, .gal, .pub] ⊆ l) :
    Fr l z (State.stepIfIdle s) := by
  unfold State.stepIfIdle
  refine Fr.ite ?_ ?_
  with_reducible assumption
  with_reducible apply State.stepsNow_fr
  with_reducible assumption
  exact hl

theorem State.cause_fr {s : State} {rank : Nat} {code : Nat} {act : State → State} (hz : Fr l z s)
    (hact : ∀ x0, Fr l z x0 → Fr l z (act x0)) (hl : [.regs, .glb, .log, .evt] ⊆ l) :
    Fr l z (State.cause s rank code act) := by
  unfold State.cause
  split
  with_reducible apply hact
  with_reducible apply State.logPut_fr
  with_reducible assumption
  exact List.Subset.trans (by decide) hl
  extract_lets +onlyGivenNames q5; refine Fr.cut (a := q5) ?_ (fun _ => ?_)
  rotate_left; clear_value q5; rotate_right; unfold q5
  with_reducible apply hact
  with_reducible assumption
  refine Fr.ite ?_ ?_
  with_reducible assumption
  refine Fr.upd ?_ (c7 := .inl (hl (by decide)))
  with_reducible assumption

theorem State.faultSet_fr {s : State} {code : Nat} {blk : Nat} {inst : Nat} (hz : Fr l z s) (hl : [.glb] ⊆ l) :
    Fr l z (State.faultSet s code blk inst) := by
  unfold State.faultSet
  refine Fr.upd ?_ (c7 := .inl (hl (by decide)))
  with_reducible assumption

theorem State.glbOvertaken_fr {s : State} (hz : Fr l z s) (hl : [.regs, .cmds, .glb, .log, .evt] ⊆ l) :
    Fr l z (State.glbOvertaken s) := by
  unfold State.glbOvertaken
  split
  with_reducible assumption
  refine Fr.upd ?_ (c7 := .inl (hl (by decide)))
  with_reducible assumption
  with_reducible apply State.cmdEndRefused_fr
  refine Fr.upd ?_ (c7 := .inl (hl (by decide)))
  with_reducible assumption
  exact List.Subset.trans (by decide) hl

theorem State.setCoil_fr {s : State} {k : Nat} {c : Coil} (hz : Fr l z s) (hl : [.out, .cdv] ⊆ l) :
    Fr l z (State.setCoil s k c) := by
  unfold State.setCoil
  extract_lets +onlyGivenNames q0; clear_value q0
  extract_lets +onlyGivenNames q2; refine Fr.cut (a := q2) ?_ (fun _ => ?_)
  rotate_left; clear_value q2; rotate_right; unfold q2
  refine Fr.upd ?_ (c15 := .inl (hl (by decide)))
  with_reducible assumption
  refine Fr.ite ?_ ?_
  with_reducible assumption
  with_reducible apply State.emit_fr
  with_reducible assumption
  exact List.Subset.trans (by decide) hl

theorem State.coilRelease_fr {s : State} {k : Nat} (hz : Fr l z s) (hl : [.out, .cdv] ⊆ l) :
    Fr l z (State.coilRelease s k) := by
  unfold State.coilRelease
  extract_lets +onlyGivenNames q0; clear_value q0
  refine Fr.ite ?_ ?_
  with_reducible apply State.setCoil_fr
  with_reducible assumption
  exact hl
  with_reducible assumption

theorem State.coilsOff_fr {s : State} (hz : Fr l z s) (hl : [.out, .cdv] ⊆ l) :
    Fr l z (State.coilsOff s) := by
  unfold State.coilsOff
  with_reducible apply forN_fr
  with_reducible assumption
  intro x2_0 x2_1 x2_2
  with_reducible apply State.coilRelease_fr
  with_reducible assumption
  exact hl

theorem State.leaveActive_fr {s : State} (hz : Fr l z s) (hl : [.out, .cdv, .pub] ⊆ l) :
    Fr l z (State.leaveActive s) := by
  unfold State.leaveActive
  extract_lets +onlyGivenNames q0; refine Fr.cut (a := q0) ?_ (fun _ => ?_)
  rotate_left; clear_value q0; rotate_right; unfold q0
  with_reducible apply State.coilsOff_fr
  with_reducible assumption
  exact List.Subset.trans (by decide) hl
  refine Fr.upd ?_ (c26 := .inl (hl (by decide)))
  with_reducible assumption

theorem State.simEnd_fr {s : State} (hz : Fr l z s) (hl : [.regs, .log, .evt, .svi] ⊆ l) :
    Fr l z (State.simEnd s) := by
  unfold State.simEnd
  refine Fr.foldl ?_ ?_
  with_reducible assumption
  intro x2_0 x2_1 x2_2
  refine Fr.ite ?_ ?_
  with_reducible apply State.simSwitch_fr
  with_reducible assumption
  exact hl
  with_reducible assumption

theorem State.setPub_fr {s : State} {p : Nat} {x : PubSt} (hz : Fr l z s) (hl : [.pub] ⊆ l) :
    Fr l z (State.setPub s p x) := by
  unfold State.setPub
  refine Fr.upd ?_ (c26 := .inl (hl (by decide)))
  with_reducible assumption

theorem State.mirrorAdopt_fr {s : State} {p : Nat} {m : Mirror} (hz : Fr l z s) (hl : [.pub] ⊆ l) :
    Fr l z (State.mirrorAdopt s p m) := by
  unfold State.mirrorAdopt
  refine Fr.ite ?_ ?_
  extract_lets +onlyGivenNames q1; clear_value q1
  extract_lets +onlyGivenNames q3; clear_value q3
  extract_lets +onlyGivenNames q5; clear_value q5
  extract_lets +onlyGivenNames q7; clear_value q7
  extract_lets +onlyGivenNames q9; clear_value q9
  extract_lets +onlyGivenNames q11; clear_value q11
  extract_lets +onlyGivenNames q13; clear_value q13
  with_reducible apply State.setPub_fr
  with_reducible assumption
  exact hl
  with_reducible assumption

theorem State.mirrorAll_fr {s : State} (hz : Fr l z s) (hl : [.pub] ⊆ l) :
    Fr l z (State.mirrorAll s) := by
  unfold State.mirrorAll
  refine Fr.foldl ?_ ?_
  with_reducible assumption
  intro x2_0 x2_1 x2_2
  with_reducible apply State.mirrorAdopt_fr
  with_reducible assumption
  exact hl

theorem State.setSub_fr {s : State} {i : Nat} {x : SubSt} (hz : Fr l z s) (hl : [.pub] ⊆ l) :
    Fr l z (State.setSub s i x) := by
  unfold State.setSub
  refine Fr.upd ?_ (c26 := .inl (hl (by decide)))
  with_reducible assumption

theorem State.setSigQual_fr {s : State} {b : Nat} {q : Nat} (hz : Fr l z s) (hl : [.pln] ⊆ l) :
    Fr l z (State.setSigQual s b q) := by
  unfold State.setSigQual
  refine Fr.ite ?_ ?_
  refine Fr.upd ?_ (c19 := .inl (hl (by decide)))
  with_reducible assumption
  with_reducible assumption

theorem State.setSig_fr {s : State} {b : Nat} {v : Bool} {q : Nat} (hz : Fr l z s) (hl : [.pln] ⊆ l) :
    Fr l z (State.setSig s b v q) := by
  unfold State.setSig
  refine Fr.ite ?_ ?_
  with_reducible apply State.setSigQual_fr
  refine Fr.upd ?_ (c19 := .inl (hl (by decide)))
  with_reducible assumption
  exact hl
  with_reducible assumption

theorem State.subWrite_fr {s : State} {c : StreamCfg} (hz : Fr l z s) (hl : [.pln] ⊆ l) :
    Fr l z (State.subWrite s c) := by
  unfold State.subWrite
  extract_lets +onlyGivenNames q0; clear_value q0
  refine Fr.foldl ?_ ?_
  with_reducible assumption
  intro x4_0 x4_1 x4_2
  with_reducible apply State.setSig_fr
  with_reducible assumption
  exact hl

theorem State.subMode_fr {s : State} (hz : Fr l z s) (hl : [.regs, .log, .evt, .pln, .pub] ⊆ l) :
    Fr l z (State.subMode s) := by
  unfold State.subMode
  refine Fr.foldl ?_ ?_
  with_reducible assumption
  intro x2_0 x2_1 x2_2
  extract_lets +onlyGivenNames q3; clear_value q3
  extract_lets +onlyGivenNames q5; clear_value q5
  extract_lets +onlyGivenNames q7; refine Fr.cut (a := q7) ?_ (fun _ => ?_)
  rotate_left; clear_value q7; rotate_right; unfold q7
  refine Fr.ite ?_ ?_
  with_reducible apply State.raiseRec_fr
  with_reducible apply State.setSub_fr
  with_reducible assumption
  exact List.Subset.trans (by decide) hl
  exact List.Subset.trans (by decide) hl
  with_reducible assumption
  refine Fr.ite ?_ ?_
  with_reducible apply State.subWrite_fr
  with_reducible assumption
  exact List.Subset.trans (by decide) hl
  with_reducible assumption

theorem State.stepDrop_fr {s : State} (hz : Fr l z s) (hl : [.regs, .cmds, .log, .evt, .bcn] ⊆ l) :
    Fr l z (State.stepDrop s) := by
  unfold State.stepDrop
  refine Fr.ite ?_ ?_
  with_reducible apply State.cmdEndRefused_fr
  refine Fr.upd ?_ (c12 := .inl (hl (by decide)))
  with_reducible assumption
  exact List.Subset.trans (by decide) hl
  with_reducible assumption

theorem State.setBank_fr {s : State} {n : Nat} {b : Bank} (hz : Fr l z s) (hl : [.img] ⊆ l) :
    Fr l z (State.setBank s n b) := by
  unfold State.setBank
  refine Fr.ite ?_ ?_
  refine Fr.upd ?_ (c11 := .inl (hl (by decide)))
  with_reducible assumption
  refine Fr.upd ?_ (c11 := .inl (hl (by decide)))
  with_reducible assumption

theorem State.candDrop_fr {s : State} (hz : Fr l z s) (hl : [.img] ⊆ l) :
    Fr l z (State.candDrop s) := by
  unfold State.candDrop
  extract_lets +onlyGivenNames q0; clear_value q0
  extract_lets +onlyGivenNames q2; clear_value q2
  extract_lets +onlyGivenNames q4; refine Fr.cut (a := q4) ?_ (fun _ => ?_)
  rotate_left; clear_value q4; rotate_right; unfold q4
  refine Fr.ite ?_ ?_
  with_reducible apply State.setBank_fr
  with_reducible assumption
  exact hl
  with_reducible assumption
  refine Fr.upd ?_ (c11 := .inl (hl (by decide)))
  with_reducible assumption

theorem State.reloadAbandon_fr {s : State} (hz : Fr l z s) (hl : [.regs, .cmds, .log, .evt, .img] ⊆ l) :
    Fr l z (State.reloadAbandon s) := by
  unfold State.reloadAbandon
  refine Fr.ite ?_ ?_
  with_reducible apply State.reloadEnd_fr
  with_reducible apply State.candDrop_fr
  with_reducible assumption
  exact List.Subset.trans (by decide) hl
  exact hl
  with_reducible assumption

theorem State.imgFramesStop_fr {s : State} (hz : Fr l z s) (hl : [.regs, .cmds, .log, .evt, .img] ⊆ l) :
    Fr l z (State.imgFramesStop s) := by
  unfold State.imgFramesStop
  with_reducible apply State.reloadAbandon_fr
  with_reducible apply State.setDrop_fr
  with_reducible assumption
  exact hl
  exact hl

theorem State.framesStop_fr {s : State} (hz : Fr l z s) (hl : [.regs, .cmds, .log, .evt, .kpr] ⊆ l) :
    Fr l z (State.framesStop s) := by
  unfold State.framesStop
  refine Fr.ite ?_ ?_
  extract_lets +onlyGivenNames q1; refine Fr.cut (a := q1) ?_ (fun _ => ?_)
  rotate_left; clear_value q1; rotate_right; unfold q1
  with_reducible apply forN_fr
  with_reducible assumption
  intro x9_0 x9_1 x9_2
  extract_lets +onlyGivenNames q10; clear_value q10
  with_reducible apply State.setKeeper_fr
  with_reducible assumption
  exact List.Subset.trans (by decide) hl
  extract_lets +onlyGivenNames q15; clear_value q15
  extract_lets +onlyGivenNames q17; refine Fr.cut (a := q17) ?_ (fun _ => ?_)
  rotate_left; clear_value q17; rotate_right; unfold q17
  refine Fr.upd ?_ (c24 := .inl (hl (by decide)))
  with_reducible assumption
  with_reducible apply State.kprDrop_fr
  with_reducible assumption
  exact hl
  with_reducible assumption

theorem State.exClose_fr {s : State} {done : Bool} (hz : Fr l z s) (hl : [.regs, .cmds, .glb, .log, .evt,
      .pair] ⊆ l) :
    Fr l z (State.exClose s done) := by
  unfold State.exClose
  extract_lets +onlyGivenNames q0; clear_value q0
  extract_lets +onlyGivenNames q2; clear_value q2
  extract_lets +onlyGivenNames q4; refine Fr.cut (a := q4) ?_ (fun _ => ?_)
  rotate_left; clear_value q4; rotate_right; unfold q4
  refine Fr.upd ?_ (c27 := .inl (hl (by decide)))
  with_reducible assumption
  extract_lets +onlyGivenNames q12; refine Fr.cut (a := q12) ?_ (fun _ => ?_)
  rotate_left; clear_value q12; rotate_right; unfold q12
  refine Fr.ite ?_ ?_
  refine Fr.ite ?_ ?_
  with_reducible apply State.cmdDone_fr
  with_reducible assumption
  exact List.Subset.trans (by decide) hl
  with_reducible apply State.cmdEndRefused_fr
  with_reducible assumption
  exact List.Subset.trans (by decide) hl
  with_reducible assumption
  refine Fr.ite ?_ ?_
  extract_lets +onlyGivenNames q28; clear_value q28
  extract_lets +onlyGivenNames q30; refine Fr.cut (a := q30) ?_ (fun _ => ?_)
  rotate_left; clear_value q30; rotate_right; unfold q30
  refine Fr.upd ?_ (c7 := .inl (hl (by decide)))
  with_reducible assumption
  refine Fr.ite ?_ ?_
  with_reducible apply State.cmdDone_fr
  with_reducible assumption
  exact List.Subset.trans (by decide) hl
  with_reducible apply State.cmdEndRefused_fr
  with_reducible assumption
  exact List.Subset.trans (by decide) hl
  with_reducible assumption

theorem State.exStop_fr {s : State} {done : Bool} (hz : Fr l z s) (hl : [.regs, .cmds, .glb, .log, .evt, .pair] ⊆ l) :
    Fr l z (State.exStop s done) := by
  unfold State.exStop
  refine Fr.ite ?_ ?_
  with_reducible assumption
  with_reducible apply State.exClose_fr
  with_reducible apply State.raiseRec_fr
  with_reducible assumption
  exact List.Subset.trans (by decide) hl
  exact hl

theorem State.ctrlSend_fr {s : State} {typ : Nat} {payload : List Byte} (hz : Fr l z s) (hl : [.out, .pair] ⊆ l) :
    Fr l z (State.ctrlSend s typ payload) := by
  unfold State.ctrlSend
  with_reducible apply State.bregSend_fr
  with_reducible assumption
  exact hl

theorem State.ctrlAbort_fr {s : State} {target : Nat} {reason : Nat} (hz : Fr l z s) (hl : [.out, .pair] ⊆ l) :
    Fr l z (State.ctrlAbort s target reason) := by
  unfold State.ctrlAbort
  with_reducible apply State.ctrlSend_fr
  with_reducible assumption
  exact hl

theorem State.exFramesStop_fr {s : State} (hz : Fr l z s) (hl : [.out, .regs, .cmds, .glb, .log, .evt, .pair] ⊆ l) :
    Fr l z (State.exFramesStop s) := by
  unfold State.exFramesStop
  with_reducible apply State.exStop_fr
  refine Fr.ite ?_ ?_
  with_reducible apply State.ctrlAbort_fr
  with_reducible assumption
  exact List.Subset.trans (by decide) hl
  with_reducible assumption
  exact List.Subset.trans (by decide) hl

theorem State.galFramesStop_fr {s : State} (hz : Fr l z s) (hl : [.out, .regs, .cmds, .log, .evt, .hst, .gal] ⊆ l) :
    Fr l z (State.galFramesStop s) := by
  unfold State.galFramesStop
  extract_lets +onlyGivenNames q0; refine Fr.cut (a := q0) ?_ (fun _ => ?_)
  rotate_left; clear_value q0; rotate_right; unfold q0
  with_reducible apply forN_fr
  with_reducible assumption
  intro x8_0 x8_1 x8_2
  extract_lets +onlyGivenNames q9; refine Fr.cut (a := q9) ?_ (fun _ => ?_)
  rotate_left; clear_value q9; rotate_right; unfold q9
  with_reducible apply State.closeRec_fr
  with_reducible assumption
  exact List.Subset.trans (by decide) hl
  extract_lets +onlyGivenNames q18; clear_value q18
  refine Fr.ite ?_ ?_
  with_reducible assumption
  extract_lets +onlyGivenNames q22; refine Fr.cut (a := q22) ?_ (fun _ => ?_)
  rotate_left; clear_value q22; rotate_right; unfold q22
  refine Fr.ite ?_ ?_
  with_reducible apply State.cmdEndRefused_fr
  with_reducible apply State.setProg_fr
  with_reducible assumption
  exact List.Subset.trans (by decide) hl
  exact List.Subset.trans (by decide) hl
  with_reducible assumption
  with_reducible apply State.setProg_fr
  with_reducible assumption
  exact List.Subset.trans (by decide) hl
  refine Fr.upd ?_ (c25 := .inl (hl (by decide)))
  with_reducible assumption

theorem State.framesStopAll_fr {s : State} (hz : Fr l z s) (hl : [.out, .regs, .cmds, .once, .time, .glb, .log,
      .evt, .img, .bcn, .pln, .svi, .cnd, .hst, .kpr, .gal, .pub, .pair] ⊆ l) :
    Fr l z (State.framesStopAll s) := by
  unfold State.framesStopAll
  refine Fr.ite ?_ ?_
  extract_lets +onlyGivenNames q1; refine Fr.cut (a := q1) ?_ (fun _ => ?_)
  rotate_left; clear_value q1; rotate_right; unfold q1
  with_reducible apply State.sviDrop_fr
  with_reducible apply State.hstDrop_fr
  with_reducible apply State.pubDrop_fr
  with_reducible apply State.imgFramesStop_fr
  with_reducible apply State.framesStop_fr
  with_reducible assumption
  exact List.Subset.trans (by decide) hl
  exact List.Subset.trans (by decide) hl
  exact List.Subset.trans (by decide) hl
  exact List.Subset.trans (by decide) hl
  exact List.Subset.trans (by decide) hl
  extract_lets +onlyGivenNames q18; refine Fr.cut (a := q18) ?_ (fun _ => ?_)
  rotate_left; clear_value q18; rotate_right; unfold q18
  with_reducible apply State.stepIfIdle_fr
  with_reducible apply State.alignFail_fr
  with_reducible apply State.exFramesStop_fr
  with_reducible apply State.galFramesStop_fr
  with_reducible assumption
  exact List.Subset.trans (by decide) hl
  exact List.Subset.trans (by decide) hl
  exact List.Subset.trans (by decide) hl
  exact List.Subset.trans (by decide) hl
  refine Fr.upd ?_ (c27 := .inl (hl (by decide)))
  with_reducible assumption
  with_reducible assumption

theorem State.raiseCount_fr {s : State} (hz : Fr l z s) (hl : [.pair] ⊆ l) :
    Fr l z (State.raiseCount s) := by
  unfold State.raiseCount
  refine Fr.upd ?_ (c27 := .inl (hl (by decide)))
  with_reducible assumption

theorem State.soloTrack_fr {s : State} (hz : Fr l z s) (hl : [.pair] ⊆ l) :
    Fr l z (State.soloTrack s) := by
  unfold State.soloTrack
  extract_lets +onlyGivenNames q0; clear_value q0
  refine Fr.ite ?_ ?_
  refine Fr.ite ?_ ?_
  with_reducible assumption
  refine Fr.upd ?_ (c27 := .inl (hl (by decide)))
  with_reducible assumption
  refine Fr.upd ?_ (c27 := .inl (hl (by decide)))
  with_reducible assumption

theorem State.holdTrack_fr {s : State} (hz : Fr l z s) (hl : [.pair] ⊆ l) :
    Fr l z (State.holdTrack s) := by
  unfold State.holdTrack
  refine Fr.ite ?_ ?_
  refine Fr.ite ?_ ?_
  with_reducible assumption
  refine Fr.upd ?_ (c27 := .inl (hl (by decide)))
  with_reducible assumption
  refine Fr.upd ?_ (c27 := .inl (hl (by decide)))
  with_reducible assumption

theorem State.pairTrack_fr {s : State} (hz : Fr l z s) (hl : [.pair] ⊆ l) :
    Fr l z (State.pairTrack s) := by
  unfold State.pairTrack
  with_reducible apply State.soloTrack_fr
  with_reducible apply State.holdTrack_fr
  with_reducible assumption
  exact hl
  exact hl

theorem State.converge_fr {s : State} {r : Nat} (hz : Fr l z s) (hl : [.regs, .log, .evt, .bcn] ⊆ l) :
    Fr l z (State.converge s r) := by
  unfold State.converge
  with_reducible apply State.utcFrom_fr
  with_reducible apply State.raiseRec_fr
  refine Fr.upd ?_ (c12 := .inl (hl (by decide)))
  with_reducible assumption
  exact List.Subset.trans (by decide) hl
  exact List.Subset.trans (by decide) hl

theorem State.holdover_fr {s : State} (hz : Fr l z s) (hl : [.regs, .log, .evt, .bcn] ⊆ l) :
    Fr l z (State.holdover s) := by
  unfold State.holdover
  extract_lets +onlyGivenNames q0; clear_value q0
  with_reducible apply State.raiseRec_fr
  refine Fr.upd ?_ (c12 := .inl (hl (by decide)))
  with_reducible assumption
  exact List.Subset.trans (by decide) hl

theorem State.loseSelected_fr {s : State} (hz : Fr l z s) (hl : [.regs, .log, .evt, .bcn] ⊆ l) :
    Fr l z (State.loseSelected s) := by
  unfold State.loseSelected
  split
  with_reducible apply State.converge_fr
  with_reducible assumption
  exact hl
  extract_lets +onlyGivenNames q4; clear_value q4
  extract_lets +onlyGivenNames q6; refine Fr.cut (a := q6) ?_ (fun _ => ?_)
  rotate_left; clear_value q6; rotate_right; unfold q6
  split
  with_reducible apply State.raiseRec_fr
  with_reducible assumption
  exact List.Subset.trans (by decide) hl
  with_reducible assumption
  with_reducible apply State.holdover_fr
  with_reducible assumption
  exact hl

theorem State.bcnEval_fr {s : State} {fresh : Option Nat} (hz : Fr l z s) (hl : [.regs, .cmds, .log, .evt,
      .bcn] ⊆ l) :
    Fr l z (State.bcnEval s fresh) := by
  unfold State.bcnEval
  split
  refine Fr.ite ?_ ?_
  split
  refine Fr.upd ?_ (c12 := .inl (hl (by decide)))
  with_reducible assumption
  with_reducible assumption
  with_reducible assumption
  extract_lets +onlyGivenNames q7; clear_value q7
  refine Fr.ite ?_ ?_
  refine Fr.ite ?_ ?_
  extract_lets +onlyGivenNames q11; clear_value q11
  extract_lets +onlyGivenNames q13; clear_value q13
  extract_lets +onlyGivenNames q15; refine Fr.cut (a := q15) ?_ (fun _ => ?_)
  rotate_left; clear_value q15; rotate_right; unfold q15
  refine Fr.upd ?_ (c12 := .inl (hl (by decide)))
  with_reducible assumption
  refine Fr.ite ?_ ?_
  refine Fr.upd ?_ (c12 := .inl (hl (by decide)))
  with_reducible assumption
  with_reducible assumption
  with_reducible assumption
  refine Fr.upd ?_ (c12 := .inl (hl (by decide)))
  with_reducible assumption
  refine Fr.ite ?_ ?_
  with_reducible assumption
  with_reducible apply State.loseSelected_fr
  with_reducible assumption
  exact List.Subset.trans (by decide) hl
  extract_lets +onlyGivenNames q35; clear_value q35
  refine Fr.ite ?_ ?_
  refine Fr.ite ?_ ?_
  refine Fr.ite ?_ ?_
  extract_lets +onlyGivenNames q40; clear_value q40
  extract_lets +onlyGivenNames q42; clear_value q42
  extract_lets +onlyGivenNames q44; refine Fr.cut (a := q44) ?_ (fun _ => ?_)
  rotate_left; clear_value q44; rotate_right; unfold q44
  refine Fr.upd ?_ (c12 := .inl (hl (by decide)))
  with_reducible assumption
  refine Fr.ite ?_ ?_
  with_reducible apply State.becomeLocked_fr
  with_reducible assumption
  exact hl
  with_reducible assumption
  refine Fr.upd ?_ (c12 := .inl (hl (by decide)))
  with_reducible assumption
  with_reducible assumption
  with_reducible apply State.loseSelected_fr
  with_reducible assumption
  exact List.Subset.trans (by decide) hl
  extract_lets +onlyGivenNames q63; clear_value q63
  refine Fr.ite ?_ ?_
  with_reducible apply State.converge_fr
  with_reducible assumption
  exact List.Subset.trans (by decide) hl
  split
  with_reducible apply State.converge_fr
  with_reducible assumption
  exact List.Subset.trans (by decide) hl
  with_reducible assumption

theorem State.modeEffects_fr {s : State} {old : Mode} {m : Mode} (hz : Fr l z s) (hl : [.out, .regs, .cmds, .once,
      .time, .glb, .log, .evt, .img, .bcn, .cdv, .pln, .svi, .cnd, .hst, .kpr, .gal, .pub, .pair] ⊆ l) :
    Fr l z (State.modeEffects s old m) := by
  unfold State.modeEffects
  extract_lets +onlyGivenNames q0; refine Fr.cut (a := q0) ?_ (fun _ => ?_)
  rotate_left; clear_value q0; rotate_right; unfold q0
  refine Fr.ite ?_ ?_
  with_reducible apply State.leaveActive_fr
  with_reducible assumption
  exact List.Subset.trans (by decide) hl
  with_reducible assumption
  extract_lets +onlyGivenNames q11; refine Fr.cut (a := q11) ?_ (fun _ => ?_)
  rotate_left; clear_value q11; rotate_right; unfold q11
  refine Fr.ite ?_ ?_
  with_reducible apply State.simEnd_fr
  with_reducible assumption
  exact List.Subset.trans (by decide) hl
  with_reducible assumption
  extract_lets +onlyGivenNames q22; refine Fr.cut (a := q22) ?_ (fun _ => ?_)
  rotate_left; clear_value q22; rotate_right; unfold q22
  refine Fr.ite ?_ ?_
  with_reducible apply State.mirrorAll_fr
  with_reducible assumption
  exact List.Subset.trans (by decide) hl
  with_reducible assumption
  extract_lets +onlyGivenNames q33; refine Fr.cut (a := q33) ?_ (fun _ => ?_)
  rotate_left; clear_value q33; rotate_right; unfold q33
  refine Fr.ite ?_ ?_
  with_reducible apply State.subMode_fr
  with_reducible assumption
  exact List.Subset.trans (by decide) hl
  with_reducible assumption
  extract_lets +onlyGivenNames q44; refine Fr.cut (a := q44) ?_ (fun _ => ?_)
  rotate_left; clear_value q44; rotate_right; unfold q44
  refine Fr.ite ?_ ?_
  with_reducible assumption
  with_reducible apply State.stepDrop_fr
  with_reducible assumption
  exact List.Subset.trans (by decide) hl
  extract_lets +onlyGivenNames q55; refine Fr.cut (a := q55) ?_ (fun _ => ?_)
  rotate_left; clear_value q55; rotate_right; unfold q55
  refine Fr.ite ?_ ?_
  with_reducible apply State.reloadAbandon_fr
  with_reducible assumption
  exact List.Subset.trans (by decide) hl
  with_reducible assumption
  extract_lets +onlyGivenNames q66; refine Fr.cut (a := q66) ?_ (fun _ => ?_)
  rotate_left; clear_value q66; rotate_right; unfold q66
  refine Fr.ite ?_ ?_
  with_reducible apply State.framesStopAll_fr
  with_reducible assumption
  exact List.Subset.trans (by decide) hl
  with_reducible assumption
  extract_lets +onlyGivenNames q77; refine Fr.cut (a := q77) ?_ (fun _ => ?_)
  rotate_left; clear_value q77; rotate_right; unfold q77
  refine Fr.ite ?_ ?_
  with_reducible apply State.raiseCount_fr
  with_reducible assumption
  exact List.Subset.trans (by decide) hl
  with_reducible assumption
  with_reducible apply State.pairTrack_fr
  refine Fr.ite ?_ ?_
  with_reducible apply State.bcnEval_fr
  with_reducible assumption
  exact List.Subset.trans (by decide) hl
  with_reducible assumption
  exact List.Subset.trans (by decide) hl

theorem State.setMode_fr {s : State} {m : Mode} {cause : Nat} (hz : Fr l z s) (hl : [.out, .regs, .cmds, .once,
      .time, .glb, .log, .evt, .img, .bcn, .cdv, .pln, .svi, .cnd, .hst, .kpr, .gal, .pub, .pair] ⊆ l) :
    Fr l z (State.setMode s m cause) := by
  unfold State.setMode
  extract_lets +onlyGivenNames q0; clear_value q0
  refine Fr.ite ?_ ?_
  with_reducible assumption
  extract_lets +onlyGivenNames q4; refine Fr.cut (a := q4) ?_ (fun _ => ?_)
  rotate_left; clear_value q4; rotate_right; unfold q4
  with_reducible apply State.glbOvertaken_fr
  with_reducible assumption
  exact List.Subset.trans (by decide) hl
  extract_lets +onlyGivenNames q13; clear_value q13
  extract_lets +onlyGivenNames q15; refine Fr.cut (a := q15) ?_ (fun _ => ?_)
  rotate_left; clear_value q15; rotate_right; unfold q15
  refine Fr.upd ?_ (c7 := .inl (hl (by decide)))
  with_reducible assumption
  with_reducible apply State.modeEffects_fr
  with_reducible apply State.raiseGlb_fr
  with_reducible apply State.logPut_fr
  with_reducible assumption
  exact List.Subset.trans (by decide) hl
  exact List.Subset.trans (by decide) hl
  exact hl

theorem State.yieldTo_fr {s : State} {cause : Nat} {m : Mode} (hz : Fr l z s) (hl : [.out, .regs, .cmds, .once,
      .time, .glb, .log, .evt, .img, .bcn, .cdv, .pln, .svi, .cnd, .hst, .kpr, .gal, .pub, .pair] ⊆ l) :
    Fr l z (State.yieldTo s cause m) := by
  unfold State.yieldTo
  extract_lets +onlyGivenNames q0; refine Fr.cut (a := q0) ?_ (fun _ => ?_)
  rotate_left; clear_value q0; rotate_right; unfold q0
  refine Fr.ite ?_ ?_
  with_reducible assumption
  with_reducible apply State.bregSend_fr
  with_reducible assumption
  exact List.Subset.trans (by decide) hl
  with_reducible apply State.setMode_fr
  with_reducible apply State.raiseRec_fr
  with_reducible assumption
  exact List.Subset.trans (by decide) hl
  exact hl

theorem State.degrade_fr {s : State} {code : Nat} {blk : Nat} {inst : Nat} (hz : Fr l z s) (hl : [.out, .regs,
      .cmds, .once, .time, .glb, .log, .evt, .img, .bcn, .cdv, .pln, .svi, .cnd, .hst, .kpr, .gal, .pub, .pair] ⊆ l) :
    Fr l z (State.degrade code blk inst s) := by
  unfold State.degrade
  refine Fr.ite ?_ ?_
  extract_lets +onlyGivenNames q1; refine Fr.cut (a := q1) ?_ (fun _ => ?_)
  rotate_left; clear_value q1; rotate_right; unfold q1
  with_reducible apply State.faultSet_fr
  with_reducible assumption
  exact List.Subset.trans (by decide) hl
  refine Fr.ite ?_ ?_
  with_reducible apply State.yieldTo_fr
  with_reducible assumption
  exact hl
  with_reducible apply State.setMode_fr
  with_reducible assumption
  exact hl
  with_reducible assumption

theorem State.fault_fr {s : State} {k : FaultKind} {blk : Nat} {inst : Nat} (hz : Fr l z s) (hl : [.out, .regs,
      .cmds, .once, .time, .glb, .log, .evt, .img, .bcn, .cdv, .pln, .svi, .cnd, .hst, .kpr, .gal, .pub, .pair] ⊆ l) :
    Fr l z (State.fault s k blk inst) := by
  unfold State.fault
  refine Fr.ite ?_ ?_
  with_reducible apply State.cause_fr
  with_reducible assumption
  intro x3_0 x3_1
  with_reducible apply State.degrade_fr
  with_reducible assumption
  exact hl
  exact List.Subset.trans (by decide) hl
  with_reducible assumption

theorem State.bcnAfter_fr {s : State} (hz : Fr l z s) (hl : [.out, .regs, .cmds, .once, .time, .glb, .log, .evt,
      .img, .bcn, .cdv, .pln, .svi, .cnd, .hst, .kpr, .gal, .pub, .pair] ⊆ l) :
    Fr l z (State.bcnAfter s) := by
  unfold State.bcnAfter
  extract_lets +onlyGivenNames q0; refine Fr.cut (a := q0) ?_ (fun _ => ?_)
  rotate_left; clear_value q0; rotate_right; unfold q0
  with_reducible apply State.stepIfIdle_fr
  with_reducible assumption
  exact List.Subset.trans (by decide) hl
  refine Fr.ite ?_ ?_
  with_reducible apply State.fault_fr
  refine Fr.upd ?_ (c12 := .inl (hl (by decide)))
  with_reducible assumption
  exact hl
  with_reducible assumption

theorem State.bcnRun_fr {s : State} {f : State → State} (hz : Fr l z s) (hf : ∀ x0, Fr l z x0 → Fr l z (f x0))
    (hl : [.out, .regs, .cmds, .once, .time, .glb, .log, .evt, .img, .bcn, .cdv, .pln, .svi, .cnd, .hst, .kpr,
      .gal, .pub, .pair] ⊆ l) :
    Fr l z (State.bcnRun s f) := by
  unfold State.bcnRun
  refine Fr.ite ?_ ?_
  with_reducible apply State.pairTrack_fr
  with_reducible apply State.bcnAfter_fr
  with_reducible apply hf
  with_reducible assumption
  exact hl
  exact List.Subset.trans (by decide) hl
  with_reducible assumption

theorem State.putEntry_fr {s : State} {p : Nat} {k : GKey} {count : Nat} {inst : Nat} {val : List Byte}
    {mark : Nat} (hz : Fr l z s) (hl : [.regs, .log, .evt, .gal] ⊆ l) :
    Fr l z (State.putEntry s p k count inst val mark) := by
  unfold State.putEntry
  extract_lets +onlyGivenNames q0; clear_value q0
  refine Fr.ite ?_ ?_
  with_reducible assumption
  extract_lets +onlyGivenNames q4; clear_value q4
  extract_lets +onlyGivenNames q6; clear_value q6
  extract_lets +onlyGivenNames q8; refine Fr.cut (a := q8) ?_ (fun _ => ?_)
  rotate_left; clear_value q8; rotate_right; unfold q8
  refine Fr.ite ?_ ?_
  with_reducible apply State.flushStream_fr
  with_reducible assumption
  exact hl
  with_reducible assumption
  extract_lets +onlyGivenNames q19; clear_value q19
  refine Fr.ite ?_ ?_
  with_reducible assumption
  extract_lets +onlyGivenNames q23; clear_value q23
  extract_lets +onlyGivenNames q25; clear_value q25
  extract_lets +onlyGivenNames q27; clear_value q27
  extract_lets +onlyGivenNames q29; refine Fr.cut (a := q29) ?_ (fun _ => ?_)
  rotate_left; clear_value q29; rotate_right; unfold q29
  with_reducible apply State.setProg_fr
  with_reducible assumption
  exact List.Subset.trans (by decide) hl
  refine Fr.ite ?_ ?_
  with_reducible apply State.flushStream_fr
  with_reducible assumption
  exact hl
  with_reducible assumption

theorem State.binWrite_fr {s : State} {p : Nat} {frame : Nat} {tick : Nat} (hz : Fr l z s) (hl : [.regs, .log,
      .evt, .gal] ⊆ l) :
    Fr l z (State.binWrite s p frame tick) := by
  unfold State.binWrite
  extract_lets +onlyGivenNames q0; clear_value q0
  extract_lets +onlyGivenNames q2; clear_value q2
  refine Fr.ite ?_ ?_
  with_reducible assumption
  extract_lets +onlyGivenNames q6; clear_value q6
  extract_lets +onlyGivenNames q8; clear_value q8
  extract_lets +onlyGivenNames q10; clear_value q10
  with_reducible apply State.putEntry_fr
  with_reducible assumption
  exact hl

theorem State.hstRec_fr {s : State} {b : Nat} {v : Nat} (hz : Fr l z s) (hl : [.regs, .log, .evt] ⊆ l) :
    Fr l z (State.hstRec s b v) := by
  unfold State.hstRec
  with_reducible apply State.eventRec_fr
  with_reducible apply State.setEvent_fr
  with_reducible assumption
  exact List.Subset.trans (by decide) hl
  exact hl

theorem State.resourceChanged_fr {s : State} {v : Nat} (hz : Fr l z s) (hl : [.out, .regs, .log, .evt, .hst] ⊆ l) :
    Fr l z (State.resourceChanged s v) := by
  unfold State.resourceChanged
  with_reducible apply State.vfEvent_fr
  with_reducible apply State.hstRec_fr
  with_reducible assumption
  exact List.Subset.trans (by decide) hl
  exact List.Subset.trans (by decide) hl

theorem State.hstNow_fr {s : State} {v : Nat} (hz : Fr l z s) (hl : [.out, .regs, .cmds, .log, .evt, .hst] ⊆ l) :
    Fr l z (State.hstNow s v) := by
  unfold State.hstNow
  with_reducible apply State.cmdDone_fr
  with_reducible apply State.resourceChanged_fr
  with_reducible assumption
  exact List.Subset.trans (by decide) hl
  exact List.Subset.trans (by decide) hl

theorem State.bindCommit_fr {s : State} (hz : Fr l z s) (hl : [.out, .regs, .cmds, .log, .evt, .hst] ⊆ l) :
    Fr l z (State.bindCommit s) := by
  unfold State.bindCommit
  split
  with_reducible assumption
  extract_lets +onlyGivenNames q2; refine Fr.cut (a := q2) ?_ (fun _ => ?_)
  rotate_left; clear_value q2; rotate_right; unfold q2
  with_reducible apply State.setMbox_fr
  with_reducible assumption
  exact List.Subset.trans (by decide) hl
  with_reducible apply State.hstNow_fr
  refine Fr.upd ?_ (c23 := .inl (hl (by decide)))
  with_reducible assumption
  exact hl

theorem State.bootFail_fr {s : State} {code : Nat} {blk : Nat} (hz : Fr l z s) (hl : [.out, .regs, .cmds, .once,
      .time, .glb, .log, .evt, .img, .bcn, .cdv, .pln, .svi, .cnd, .hst, .kpr, .gal, .pub, .pair] ⊆ l) :
    Fr l z (State.bootFail s code blk) := by
  unfold State.bootFail
  extract_lets +onlyGivenNames q0; clear_value q0
  extract_lets +onlyGivenNames q2; refine Fr.cut (a := q2) ?_ (fun _ => ?_)
  rotate_left; clear_value q2; rotate_right; unfold q2
  refine Fr.upd ?_ (c7 := .inl (hl (by decide)))
  with_reducible assumption
  with_reducible apply State.setMode_fr
  with_reducible apply State.faultSet_fr
  with_reducible apply State.raiseGlb_fr
  with_reducible assumption
  exact List.Subset.trans (by decide) hl
  exact List.Subset.trans (by decide) hl
  exact hl

theorem State.moduleReset_fr {s : State} (hz : Fr l z s) (hl : [.regs, .cmds, .once, .time, .glb, .pwr, .log, .evt, .img, .bcn, .ports, .rdg, .cdv, .bin, .can, .prf, .pln, .svi, .cnd, .lmp, .hst, .kpr, .gal, .pub, .pair] ⊆ l) :
    Fr l z (State.moduleReset s) := by
  unfold State.moduleReset
  exact Fr.upd hz (c3 := .inl (hl (by decide))) (c4 := .inl (hl (by decide))) (c5 := .inl (hl (by decide)))
    (c6 := .inl (hl (by decide))) (c7 := .inl (hl (by decide))) (c8 := .inl (hl (by decide)))
    (c9 := .inl (hl (by decide))) (c10 := .inl (hl (by decide))) (c11 := .inl (hl (by decide)))
    (c12 := .inl (hl (by decide))) (c13 := .inl (hl (by decide))) (c14 := .inl (hl (by decide)))
    (c15 := .inl (hl (by decide))) (c16 := .inl (hl (by decide))) (c17 := .inl (hl (by decide)))
    (c18 := .inl (hl (by decide))) (c19 := .inl (hl (by decide))) (c20 := .inl (hl (by decide)))
    (c21 := .inl (hl (by decide))) (c22 := .inl (hl (by decide))) (c23 := .inl (hl (by decide)))
    (c24 := .inl (hl (by decide))) (c25 := .inl (hl (by decide))) (c26 := .inl (hl (by decide)))
    (c27 := .inl (hl (by decide))) (km := fun _ => rfl)

theorem State.bootStart_fr {s : State} {bits : Word} {cause : Nat} (hz : Fr l z s) (hl : [.out, .regs, .cmds,
      .once, .time, .glb, .pwr, .log, .evt, .img, .bcn, .ports, .rdg, .cdv, .bin, .can, .prf, .pln, .svi, .cnd,
      .lmp, .hst, .kpr, .gal, .pub, .pair] ⊆ l) :
    Fr l z (State.bootStart s bits cause) := by
  unfold State.bootStart
  extract_lets +onlyGivenNames q0; clear_value q0
  extract_lets +onlyGivenNames q2; refine Fr.cut (a := q2) ?_ (fun _ => ?_)
  rotate_left; clear_value q2; rotate_right; unfold q2
  with_reducible apply State.setMode_fr
  with_reducible apply State.moduleReset_fr
  with_reducible assumption
  exact List.Subset.trans (by decide) hl
  exact List.Subset.trans (by decide) hl
  refine Fr.upd ?_ (c7 := .inl (hl (by decide)))
  with_reducible assumption

theorem State.bregRx_fr {s : State} {typ : Nat} {m : List Byte} {f : Nat → List Byte → State → State}
    (hz : Fr l z s) (hf : ∀ x0 x1 x2, Fr l z x2 → Fr l z (f x0 x1 x2)) (hl : [.regs] ⊆ l) :
    Fr l z (State.bregRx s typ m f) := by
  unfold State.bregRx
  refine Fr.ite ?_ ?_
  with_reducible assumption
  refine Fr.ite ?_ ?_
  with_reducible apply State.count_fr
  with_reducible assumption
  exact hl
  refine Fr.ite ?_ ?_
  with_reducible assumption
  with_reducible apply hf
  with_reducible assumption

theorem State.canEvent_fr {s : State} {c : Nat} {e : Nat} (hz : Fr l z s) (hl : [.regs, .log, .evt] ⊆ l) :
    Fr l z (State.canEvent s c e) := by
  unfold State.canEvent
  refine Fr.ite ?_ ?_
  with_reducible apply State.raiseRec_fr
  with_reducible assumption
  exact hl
  with_reducible apply State.setEvent_fr
  with_reducible assumption
  exact List.Subset.trans (by decide) hl

theorem State.setCan_fr {s : State} {c : Nat} {x : CanCtl} (hz : Fr l z s) (hl : [.can] ⊆ l) :
    Fr l z (State.setCan s c x) := by
  unfold State.setCan
  refine Fr.upd ?_ (c17 := .inl (hl (by decide)))
  with_reducible assumption

theorem State.canAbdFrame_fr {s : State} {c : Nat} (hz : Fr l z s) (hl : [.regs, .cmds, .log, .evt, .can] ⊆ l) :
    Fr l z (State.canAbdFrame s c) := by
  unfold State.canAbdFrame
  extract_lets +onlyGivenNames q0; clear_value q0
  refine Fr.ite ?_ ?_
  refine Fr.ite ?_ ?_
  with_reducible apply State.cmdDone_fr
  with_reducible apply State.canEvent_fr
  with_reducible apply State.setCan_fr
  with_reducible assumption
  exact List.Subset.trans (by decide) hl
  exact List.Subset.trans (by decide) hl
  exact List.Subset.trans (by decide) hl
  with_reducible apply State.setCan_fr
  with_reducible assumption
  exact List.Subset.trans (by decide) hl
  with_reducible assumption

theorem State.canAbortEnd_fr {s : State} {c : Nat} {b : Nat} (hz : Fr l z s) (hl : [.regs, .cmds, .log, .evt,
      .can] ⊆ l) :
    Fr l z (State.canAbortEnd s c b) := by
  unfold State.canAbortEnd
  extract_lets +onlyGivenNames q0; clear_value q0
  refine Fr.ite ?_ ?_
  with_reducible apply State.cmdDone_fr
  with_reducible apply State.setCan_fr
  with_reducible assumption
  exact List.Subset.trans (by decide) hl
  exact List.Subset.trans (by decide) hl
  with_reducible assumption

theorem State.canPick_fr {s : State} {c : Nat} (hz : Fr l z s) (hl : [.can] ⊆ l) :
    Fr l z (State.canPick s c) := by
  unfold State.canPick
  extract_lets +onlyGivenNames q0; clear_value q0
  refine Fr.ite ?_ ?_
  with_reducible apply State.setCan_fr
  with_reducible assumption
  exact hl
  with_reducible assumption

theorem canTxReq_fr {s : State} {c : Nat} {b : Nat} (hz : Fr l z s) (hl : [.can] ⊆ l) :
    Fr l z (canTxReq c b s) := by
  unfold canTxReq
  extract_lets +onlyGivenNames q0; clear_value q0
  with_reducible apply State.canPick_fr
  with_reducible apply State.setCan_fr
  with_reducible assumption
  exact hl
  exact hl

theorem State.canStatWrite_fr {s : State} {c : Nat} {b : Nat} {v : Word} {hw : Word} (hz : Fr l z s)
    (hl : [.can] ⊆ l) :
    Fr l z (State.canStatWrite s c b v hw) := by
  unfold State.canStatWrite
  extract_lets +onlyGivenNames q0; clear_value q0
  extract_lets +onlyGivenNames q2; clear_value q2
  extract_lets +onlyGivenNames q4
  extract_lets +onlyGivenNames q5; refine Fr.cut (a := q5) ?_ (fun _ => ?_)
  rotate_left; clear_value q5; rotate_right; unfold q5
  with_reducible apply State.setCan_fr
  with_reducible assumption
  exact hl
  refine Fr.ite ?_ ?_
  with_reducible apply canTxReq_fr
  with_reducible assumption
  exact hl
  with_reducible assumption

theorem State.canBufWrite_fr {s : State} {c : Nat} {b : Nat} {off : Nat} {v : Word} {hw : Word} (hz : Fr l z s)
    (hl : [.regs, .can] ⊆ l) :
    Fr l z (State.canBufWrite s c b off v hw) := by
  unfold State.canBufWrite
  extract_lets +onlyGivenNames q0; clear_value q0
  extract_lets +onlyGivenNames q2; clear_value q2
  extract_lets +onlyGivenNames q4; clear_value q4
  refine Fr.ite ?_ ?_
  with_reducible apply State.wr_fr
  with_reducible assumption
  exact List.Subset.trans (by decide) hl
  refine Fr.ite ?_ ?_
  with_reducible apply State.setCan_fr
  with_reducible assumption
  exact List.Subset.trans (by decide) hl
  refine Fr.ite ?_ ?_
  with_reducible apply State.wr_fr
  with_reducible assumption
  exact List.Subset.trans (by decide) hl
  refine Fr.ite ?_ ?_
  with_reducible apply State.canStatWrite_fr
  with_reducible assumption
  exact List.Subset.trans (by decide) hl
  refine Fr.ite ?_ ?_
  with_reducible apply State.setCan_fr
  with_reducible assumption
  exact List.Subset.trans (by decide) hl
  with_reducible assumption

theorem State.canCounts_fr {s : State} {c : Nat} {x : CanCtl} (hz : Fr l z s) (hl : [.regs, .log, .evt, .can] ⊆ l) :
    Fr l z (State.canCounts s c x) := by
  unfold State.canCounts
  extract_lets +onlyGivenNames q0; clear_value q0
  extract_lets +onlyGivenNames q2; clear_value q2
  extract_lets +onlyGivenNames q4; clear_value q4
  extract_lets +onlyGivenNames q6; clear_value q6
  extract_lets +onlyGivenNames q8; refine Fr.cut (a := q8) ?_ (fun _ => ?_)
  rotate_left; clear_value q8; rotate_right; unfold q8
  with_reducible apply State.setCan_fr
  with_reducible assumption
  exact List.Subset.trans (by decide) hl
  extract_lets +onlyGivenNames q17; refine Fr.cut (a := q17) ?_ (fun _ => ?_)
  rotate_left; clear_value q17; rotate_right; unfold q17
  refine Fr.ite ?_ ?_
  with_reducible apply State.canEvent_fr
  with_reducible assumption
  exact List.Subset.trans (by decide) hl
  with_reducible assumption
  refine Fr.ite ?_ ?_
  with_reducible apply State.canEvent_fr
  with_reducible assumption
  exact List.Subset.trans (by decide) hl
  with_reducible assumption

theorem State.canMapsReset_fr {s : State} {c : Nat} (hz : Fr l z s) (hl : [.pln] ⊆ l) :
    Fr l z (State.canMapsReset s c) := by
  unfold State.canMapsReset
  with_reducible apply forN_fr
  with_reducible assumption
  intro x2_0 x2_1 x2_2
  extract_lets +onlyGivenNames q3; clear_value q3
  with_reducible apply forN_fr
  with_reducible assumption
  intro x7_0 x7_1 x7_2
  with_reducible apply State.setSigQual_fr
  with_reducible assumption
  exact hl

theorem State.canLoad_fr {s : State} {c : Nat} (hz : Fr l z s) (hl : [.can, .pln] ⊆ l) :
    Fr l z (State.canLoad s c) := by
  unfold State.canLoad
  with_reducible apply State.canMapsReset_fr
  with_reducible apply State.setCan_fr
  with_reducible assumption
  exact List.Subset.trans (by decide) hl
  exact List.Subset.trans (by decide) hl

theorem mapBit_fr {s : State} {start : Nat} {sig : Nat} {data : List Byte} {i : Nat} (hz : Fr l z s)
    (hl : [.pln] ⊆ l) :
    Fr l z (mapBit start sig data i s) := by
  unfold mapBit
  extract_lets +onlyGivenNames q0; clear_value q0
  refine Fr.ite ?_ ?_
  with_reducible apply State.setSig_fr
  with_reducible assumption
  exact hl
  with_reducible apply State.setSigQual_fr
  with_reducible assumption
  exact hl

theorem State.canMaps_fr {s : State} {c : Nat} {buf : Nat} {data : List Byte} (hz : Fr l z s) (hl : [.pln] ⊆ l) :
    Fr l z (State.canMaps s c buf data) := by
  unfold State.canMaps
  with_reducible apply forN_fr
  with_reducible assumption
  intro x2_0 x2_1 x2_2
  extract_lets +onlyGivenNames q3; clear_value q3
  refine Fr.ite ?_ ?_
  with_reducible apply forN_fr
  with_reducible assumption
  intro x8_0 x8_1 x8_2
  with_reducible apply mapBit_fr
  with_reducible assumption
  exact hl
  with_reducible assumption

theorem State.canReset_fr {s : State} {c : Nat} (hz : Fr l z s) (hl : [.regs, .can, .pln] ⊆ l) :
    Fr l z (State.canReset s c) := by
  unfold State.canReset
  extract_lets +onlyGivenNames q0; refine Fr.cut (a := q0) ?_ (fun _ => ?_)
  rotate_left; clear_value q0; rotate_right; unfold q0
  refine Fr.upd ?_ (c3 := .inl (hl (by decide)))
  with_reducible assumption
  extract_lets +onlyGivenNames q8; refine Fr.cut (a := q8) ?_ (fun _ => ?_)
  rotate_left; clear_value q8; rotate_right; unfold q8
  with_reducible apply State.setCan_fr
  with_reducible assumption
  exact List.Subset.trans (by decide) hl
  with_reducible apply State.canMapsReset_fr
  with_reducible assumption
  exact List.Subset.trans (by decide) hl

theorem State.captureOpen_fr {s : State} {p : Nat} {e : Nat} {r : GRec} (hz : Fr l z s) (hl : [.regs, .log, .evt,
      .gal] ⊆ l) :
    Fr l z (State.captureOpen s p e r) := by
  unfold State.captureOpen
  with_reducible apply State.galEvent_fr
  with_reducible apply State.setProg_fr
  with_reducible assumption
  exact List.Subset.trans (by decide) hl
  exact List.Subset.trans (by decide) hl

theorem State.captureStart_fr {s : State} {p : Nat} {t : Nat} {mask : Nat} {primary : Nat} {later : Nat}
    {manual : Bool} (hz : Fr l z s) (hl : [.regs, .log, .evt, .gal] ⊆ l) :
    Fr l z (State.captureStart s p t mask primary later manual) := by
  unfold State.captureStart
  split
  with_reducible apply State.hold_fr
  with_reducible assumption
  exact hl
  with_reducible apply State.captureOpen_fr
  with_reducible assumption
  exact hl

theorem State.fill_fr {s : State} {c : Nat} {headG : Nat} {headI : Nat} (hz : Fr l z s) (hl : [.pln] ⊆ l) :
    Fr l z (State.fill s c headG headI) := by
  unfold State.fill
  extract_lets +onlyGivenNames q0; refine Fr.cut (a := q0) ?_ (fun _ => ?_)
  rotate_left; clear_value q0; rotate_right; unfold q0
  with_reducible apply State.plnPut_fr
  with_reducible apply State.plnPut_fr
  with_reducible assumption
  exact hl
  exact hl
  extract_lets +onlyGivenNames q11; refine Fr.cut (a := q11) ?_ (fun _ => ?_)
  rotate_left; clear_value q11; rotate_right; unfold q11
  with_reducible apply State.plnPut_fr
  with_reducible apply State.plnPut_fr
  with_reducible assumption
  exact hl
  exact hl
  extract_lets +onlyGivenNames q22; refine Fr.cut (a := q22) ?_ (fun _ => ?_)
  rotate_left; clear_value q22; rotate_right; unfold q22
  with_reducible apply State.plnPut_fr
  with_reducible apply State.plnPut_fr
  with_reducible assumption
  exact hl
  exact hl
  with_reducible apply State.setChan_fr
  with_reducible assumption
  exact hl

theorem State.fillStream_fr {s : State} {cfg : StreamCfg} {t : Nat} (hz : Fr l z s) (hl : [.pln] ⊆ l) :
    Fr l z (State.fillStream s cfg t) := by
  unfold State.fillStream
  with_reducible apply forN_fr
  with_reducible assumption
  intro x2_0 x2_1 x2_2
  with_reducible apply State.fill_fr
  with_reducible assumption
  exact hl

theorem State.fillAll_fr {s : State} {t : Nat} (hz : Fr l z s) (hl : [.pln] ⊆ l) :
    Fr l z (State.fillAll s t) := by
  unfold State.fillAll
  refine Fr.foldl ?_ ?_
  with_reducible assumption
  intro x2_0 x2_1 x2_2
  with_reducible apply State.fillStream_fr
  with_reducible assumption
  exact hl

theorem State.latPush_fr {s : State} {t : Nat} {p : LatPt} (hz : Fr l z s) (hl : [.cnd] ⊆ l) :
    Fr l z (State.latPush s t p) := by
  unfold State.latPush
  refine Fr.upd ?_ (c21 := .inl (hl (by decide)))
  with_reducible assumption

theorem State.latSync_fr {s : State} {g : Nat} {v : Nat} {s0 : Nat} {fuel : Nat} (hz : Fr l z s) (hl : [.cnd] ⊆ l) :
    Fr l z (State.latSync s g v s0 fuel) := by
  induction fuel generalizing s with
  | zero =>
    unfold State.latSync
    dsimp only
    split
    · exact State.latPush_fr hz (List.Subset.trans (by decide) hl)
    · exact Fr.ite hz (State.latPush_fr hz (List.Subset.trans (by decide) hl))
  | succ fuel ih =>
    unfold State.latSync
    dsimp only
    split
    · exact State.latPush_fr hz (List.Subset.trans (by decide) hl)
    · refine Fr.ite hz (Fr.ite (State.latPush_fr hz (List.Subset.trans (by decide) hl)) ?_)
      split
      · exact State.latPush_fr hz (List.Subset.trans (by decide) hl)
      · exact Fr.ite (State.latPush_fr hz (List.Subset.trans (by decide) hl))
          (ih (State.latPush_fr hz (List.Subset.trans (by decide) hl)))

theorem State.chainSync_fr {s : State} {s0 : Nat} (hz : Fr l z s) (hl : [.regs, .log, .evt, .pln, .cnd, .kpr] ⊆ l) :
    Fr l z (State.chainSync s s0) := by
  unfold State.chainSync
  extract_lets +onlyGivenNames q0; refine Fr.cut (a := q0) ?_ (fun _ => ?_)
  rotate_left; clear_value q0; rotate_right; unfold q0
  refine Fr.ite ?_ ?_
  with_reducible apply State.fillAll_fr
  with_reducible assumption
  exact List.Subset.trans (by decide) hl
  with_reducible assumption
  extract_lets +onlyGivenNames q11; refine Fr.cut (a := q11) ?_ (fun _ => ?_)
  rotate_left; clear_value q11; rotate_right; unfold q11
  refine Fr.foldl ?_ ?_
  with_reducible assumption
  intro x19_0 x19_1 x19_2
  with_reducible apply State.latSync_fr
  with_reducible assumption
  exact List.Subset.trans (by decide) hl
  extract_lets +onlyGivenNames q23; refine Fr.cut (a := q23) ?_ (fun _ => ?_)
  rotate_left; clear_value q23; rotate_right; unfold q23
  with_reducible apply forN_fr
  with_reducible assumption
  intro x31_0 x31_1 x31_2
  refine Fr.ite ?_ ?_
  with_reducible apply State.setGroup_fr
  with_reducible assumption
  exact List.Subset.trans (by decide) hl
  with_reducible assumption
  extract_lets +onlyGivenNames q37; refine Fr.cut (a := q37) ?_ (fun _ => ?_)
  rotate_left; clear_value q37; rotate_right; unfold q37
  refine Fr.foldl ?_ ?_
  with_reducible assumption
  intro x45_0 x45_1 x45_2
  with_reducible apply State.setSlot_fr
  with_reducible assumption
  exact List.Subset.trans (by decide) hl
  extract_lets +onlyGivenNames q49; clear_value q49
  extract_lets +onlyGivenNames q51; refine Fr.cut (a := q51) ?_ (fun _ => ?_)
  rotate_left; clear_value q51; rotate_right; unfold q51
  refine Fr.upd ?_ (c21 := .inl (hl (by decide)))
  with_reducible assumption
  extract_lets +onlyGivenNames q59; clear_value q59
  extract_lets +onlyGivenNames q61; refine Fr.cut (a := q61) ?_ (fun _ => ?_)
  rotate_left; clear_value q61; rotate_right; unfold q61
  refine Fr.ite ?_ ?_
  with_reducible assumption
  refine Fr.upd ?_ (c24 := .inl (hl (by decide)))
  with_reducible assumption
  with_reducible apply State.raiseRec_fr
  with_reducible assumption
  exact List.Subset.trans (by decide) hl

theorem State.chanLoad_fr {s : State} {c : StreamCfg} (hz : Fr l z s) (hl : [.pln] ⊆ l) :
    Fr l z (State.chanLoad s c) := by
  unfold State.chanLoad
  with_reducible apply forN_fr
  with_reducible assumption
  intro x2_0 x2_1 x2_2
  extract_lets +onlyGivenNames q3; clear_value q3
  with_reducible apply State.setChan_fr
  with_reducible assumption
  exact hl

theorem State.clearLosses_fr {s : State} (hz : Fr l z s) (hl : [.log] ⊆ l) :
    Fr l z (State.clearLosses s) := by
  unfold State.clearLosses
  refine Fr.upd ?_ (c9 := .inl (hl (by decide)))
  with_reducible assumption

theorem State.clearQueues_fr {s : State} {v : Nat} (hz : Fr l z s) (hl : [.ports, .hst] ⊆ l) :
    Fr l z (State.clearQueues s v) := by
  unfold State.clearQueues
  refine Fr.foldl ?_ ?_
  with_reducible assumption
  intro x2_0 x2_1 x2_2
  extract_lets +onlyGivenNames q3; refine Fr.cut (a := q3) ?_ (fun _ => ?_)
  rotate_left; clear_value q3; rotate_right; unfold q3
  with_reducible apply State.abortQueue_fr
  with_reducible assumption
  exact hl
  with_reducible apply State.setQueue_fr
  with_reducible assumption
  exact List.Subset.trans (by decide) hl

theorem State.clearRegs_fr {s : State} {lo : Nat} {hi : Nat} (hz : Fr l z s) (hl : [.regs] ⊆ l) :
    Fr l z (State.clearRegs s lo hi) := by
  unfold State.clearRegs
  refine Fr.upd ?_ (c3 := .inl (hl (by decide)))
  with_reducible assumption

theorem State.clearRings_fr {s : State} {scope : Nat} (hz : Fr l z s) (hl : [.regs, .log, .evt] ⊆ l) :
    Fr l z (State.clearRings s scope) := by
  unfold State.clearRings
  extract_lets +onlyGivenNames q0; clear_value q0
  extract_lets +onlyGivenNames q2; clear_value q2
  extract_lets +onlyGivenNames q4; clear_value q4
  extract_lets +onlyGivenNames q6; clear_value q6
  extract_lets +onlyGivenNames q8; clear_value q8
  extract_lets +onlyGivenNames q10; refine Fr.cut (a := q10) ?_ (fun _ => ?_)
  rotate_left; clear_value q10; rotate_right; unfold q10
  refine Fr.upd ?_ (c9 := .inl (hl (by decide)))
  with_reducible assumption
  extract_lets +onlyGivenNames q18; refine Fr.cut (a := q18) ?_ (fun _ => ?_)
  rotate_left; clear_value q18; rotate_right; unfold q18
  with_reducible apply State.logAccept_fr
  with_reducible assumption
  exact hl
  extract_lets +onlyGivenNames q27; clear_value q27
  extract_lets +onlyGivenNames q29; refine Fr.cut (a := q29) ?_ (fun _ => ?_)
  rotate_left; clear_value q29; rotate_right; unfold q29
  refine Fr.upd ?_ (c9 := .inl (hl (by decide)))
  with_reducible assumption
  with_reducible apply State.setEvent_fr
  with_reducible assumption
  exact List.Subset.trans (by decide) hl

theorem State.stalePart_fr {s : State} {k : Nat} {was : Coil} (hz : Fr l z s) (hl : [.out, .regs, .log, .evt,
      .cdv] ⊆ l) :
    Fr l z (State.stalePart s k was) := by
  unfold State.stalePart
  refine Fr.ite ?_ ?_
  with_reducible apply State.raiseRec_fr
  with_reducible apply State.setCoil_fr
  with_reducible assumption
  exact List.Subset.trans (by decide) hl
  exact List.Subset.trans (by decide) hl
  with_reducible assumption

theorem State.coilEnergise_fr {s : State} {k : Nat} (hz : Fr l z s) (hl : [.out, .regs, .log, .evt, .cdv] ⊆ l) :
    Fr l z (State.coilEnergise s k) := by
  unfold State.coilEnergise
  extract_lets +onlyGivenNames q0; clear_value q0
  refine Fr.ite ?_ ?_
  extract_lets +onlyGivenNames q3; clear_value q3
  extract_lets +onlyGivenNames q5; clear_value q5
  with_reducible apply State.stalePart_fr
  with_reducible apply State.setCoil_fr
  with_reducible assumption
  exact List.Subset.trans (by decide) hl
  exact hl
  with_reducible assumption

theorem State.coilReset_fr {s : State} {k : Nat} (hz : Fr l z s) (hl : [.out, .regs, .cdv] ⊆ l) :
    Fr l z (State.coilReset s k) := by
  unfold State.coilReset
  extract_lets +onlyGivenNames q0; clear_value q0
  extract_lets +onlyGivenNames q2; clear_value q2
  extract_lets +onlyGivenNames q4; clear_value q4
  extract_lets +onlyGivenNames q6; refine Fr.cut (a := q6) ?_ (fun _ => ?_)
  rotate_left; clear_value q6; rotate_right; unfold q6
  with_reducible apply State.setCoil_fr
  with_reducible assumption
  exact List.Subset.trans (by decide) hl
  with_reducible apply State.wr_fr
  with_reducible apply State.wr_fr
  with_reducible assumption
  exact List.Subset.trans (by decide) hl
  exact List.Subset.trans (by decide) hl

theorem periodShWrite_fr {s : State} {k : Nat} {v : Word} (hz : Fr l z s) (hl : [.out, .cdv] ⊆ l) :
    Fr l z (periodShWrite k v s) := by
  unfold periodShWrite
  extract_lets +onlyGivenNames q0; clear_value q0
  refine Fr.ite ?_ ?_
  with_reducible apply State.setCoil_fr
  with_reducible assumption
  exact hl
  with_reducible apply State.setCoil_fr
  with_reducible assumption
  exact hl

theorem fallShWrite_fr {s : State} {k : Nat} {v : Word} (hz : Fr l z s) (hl : [.out, .cdv] ⊆ l) :
    Fr l z (fallShWrite k v s) := by
  unfold fallShWrite
  with_reducible apply State.setCoil_fr
  with_reducible assumption
  exact hl

theorem State.coilWrite_fr {s : State} {k : Nat} {off : Nat} {v : Word} {hw : Word} (hz : Fr l z s) (hl : [.out,
      .cdv] ⊆ l) :
    Fr l z (State.coilWrite s k off v hw) := by
  unfold State.coilWrite
  extract_lets +onlyGivenNames q0; clear_value q0
  split
  with_reducible apply periodShWrite_fr
  with_reducible assumption
  exact hl
  with_reducible apply State.setCoil_fr
  with_reducible assumption
  exact hl
  with_reducible apply fallShWrite_fr
  with_reducible assumption
  exact hl
  with_reducible apply State.setCoil_fr
  with_reducible assumption
  exact hl
  with_reducible assumption

theorem State.commitAlign_fr {s : State} {frame : Nat} (hz : Fr l z s) (hl : [.out, .pln, .kpr, .pair] ⊆ l) :
    Fr l z (State.commitAlign s frame) := by
  unfold State.commitAlign
  with_reducible apply State.pairTrack_fr
  with_reducible apply State.alignCommit_fr
  with_reducible apply State.alignFrameItems_fr
  with_reducible assumption
  exact List.Subset.trans (by decide) hl
  exact List.Subset.trans (by decide) hl
  exact List.Subset.trans (by decide) hl

theorem State.divergeAct_fr {s : State} {old : State} (hz : Fr l z s) (hl : [.out, .regs, .cmds, .once, .time,
      .glb, .log, .evt, .img, .bcn, .cdv, .pln, .svi, .cnd, .hst, .kpr, .gal, .pub, .pair] ⊆ l) :
    Fr l z (State.divergeAct s old) := by
  unfold State.divergeAct
  refine Fr.ite ?_ ?_
  split
  extract_lets +onlyGivenNames q2; clear_value q2
  extract_lets +onlyGivenNames q4; refine Fr.cut (a := q4) ?_ (fun _ => ?_)
  rotate_left; clear_value q4; rotate_right; unfold q4
  refine Fr.upd ?_ (c21 := .inl (hl (by decide)))
  with_reducible assumption
  refine Fr.ite ?_ ?_
  with_reducible assumption
  with_reducible apply State.alignRequest_fr
  with_reducible assumption
  exact List.Subset.trans (by decide) hl
  with_reducible apply State.fault_fr
  with_reducible assumption
  exact hl
  with_reducible assumption
  with_reducible assumption

theorem State.explain_fr {s : State} {f : Nat} (hz : Fr l z s) (hl : [.pair] ⊆ l) :
    Fr l z (State.explain s f) := by
  unfold State.explain
  split
  refine Fr.upd ?_ (c27 := .inl (hl (by decide)))
  with_reducible assumption
  refine Fr.ite ?_ ?_
  refine Fr.upd ?_ (c27 := .inl (hl (by decide)))
  with_reducible assumption
  with_reducible assumption

theorem State.setDiverged_fr {s : State} (hz : Fr l z s) (hl : [.regs, .log, .evt, .pair] ⊆ l) :
    Fr l z (State.setDiverged s) := by
  unfold State.setDiverged
  refine Fr.ite ?_ ?_
  with_reducible assumption
  with_reducible apply State.raiseRec_fr
  refine Fr.upd ?_ (c27 := .inl (hl (by decide)))
  with_reducible assumption
  exact List.Subset.trans (by decide) hl

theorem State.compareDigests_fr {s : State} {a : Digest} {b : Digest} (hz : Fr l z s) (hl : [.regs, .once, .log,
      .evt, .pair] ⊆ l) :
    Fr l z (State.compareDigests s a b) := by
  unfold State.compareDigests
  extract_lets +onlyGivenNames q0; clear_value q0
  extract_lets +onlyGivenNames q2; refine Fr.cut (a := q2) ?_ (fun _ => ?_)
  rotate_left; clear_value q2; rotate_right; unfold q2
  refine Fr.ite ?_ ?_
  with_reducible apply State.explain_fr
  with_reducible assumption
  exact List.Subset.trans (by decide) hl
  with_reducible assumption
  extract_lets +onlyGivenNames q13; clear_value q13
  extract_lets +onlyGivenNames q15; refine Fr.cut (a := q15) ?_ (fun _ => ?_)
  rotate_left; clear_value q15; rotate_right; unfold q15
  refine Fr.upd ?_ (c27 := .inl (hl (by decide)))
  with_reducible assumption
  refine Fr.ite ?_ ?_
  extract_lets +onlyGivenNames q24; clear_value q24
  extract_lets +onlyGivenNames q26; clear_value q26
  refine Fr.upd ?_ (c27 := .inl (hl (by decide)))
  with_reducible assumption
  extract_lets +onlyGivenNames q30; clear_value q30
  extract_lets +onlyGivenNames q32; refine Fr.cut (a := q32) ?_ (fun _ => ?_)
  rotate_left; clear_value q32; rotate_right; unfold q32
  with_reducible apply State.count_fr
  refine Fr.upd ?_ (c27 := .inl (hl (by decide)))
  with_reducible assumption
  exact List.Subset.trans (by decide) hl
  extract_lets +onlyGivenNames q42; refine Fr.cut (a := q42) ?_ (fun _ => ?_)
  rotate_left; clear_value q42; rotate_right; unfold q42
  with_reducible apply State.raiseOnce_fr
  with_reducible assumption
  exact List.Subset.trans (by decide) hl
  refine Fr.ite ?_ ?_
  refine Fr.upd ?_ (c27 := .inl (hl (by decide)))
  with_reducible assumption
  extract_lets +onlyGivenNames q54; refine Fr.cut (a := q54) ?_ (fun _ => ?_)
  rotate_left; clear_value q54; rotate_right; unfold q54
  with_reducible apply State.count_fr
  with_reducible assumption
  exact List.Subset.trans (by decide) hl
  extract_lets +onlyGivenNames q63; refine Fr.cut (a := q63) ?_ (fun _ => ?_)
  rotate_left; clear_value q63; rotate_right; unfold q63
  with_reducible apply State.oncePer_fr
  with_reducible assumption
  intro x71_0 x71_1
  with_reducible apply State.eventRec_fr
  with_reducible assumption
  exact List.Subset.trans (by decide) hl
  exact List.Subset.trans (by decide) hl
  extract_lets +onlyGivenNames q76; clear_value q76
  extract_lets +onlyGivenNames q78; clear_value q78
  extract_lets +onlyGivenNames q80; refine Fr.cut (a := q80) ?_ (fun _ => ?_)
  rotate_left; clear_value q80; rotate_right; unfold q80
  refine Fr.upd ?_ (c27 := .inl (hl (by decide)))
  with_reducible assumption
  refine Fr.ite ?_ ?_
  with_reducible apply State.setDiverged_fr
  with_reducible assumption
  exact List.Subset.trans (by decide) hl
  with_reducible assumption

theorem State.digestMeet_fr {s : State} {d : Digest} (hz : Fr l z s) (hl : [.regs, .once, .log, .evt, .pair] ⊆ l) :
    Fr l z (State.digestMeet s d) := by
  unfold State.digestMeet
  split
  with_reducible apply State.compareDigests_fr
  refine Fr.upd ?_ (c27 := .inl (hl (by decide)))
  with_reducible assumption
  exact hl
  refine Fr.upd ?_ (c27 := .inl (hl (by decide)))
  with_reducible assumption

theorem State.digestPair_fr {s : State} {d : Digest} (hz : Fr l z s) (hl : [.out, .regs, .once, .log, .evt,
      .pair] ⊆ l) :
    Fr l z (State.digestPair s d) := by
  unfold State.digestPair
  extract_lets +onlyGivenNames q0; refine Fr.cut (a := q0) ?_ (fun _ => ?_)
  rotate_left; clear_value q0; rotate_right; unfold q0
  with_reducible apply State.bregSend_fr
  with_reducible assumption
  exact List.Subset.trans (by decide) hl
  extract_lets +onlyGivenNames q9; refine Fr.cut (a := q9) ?_ (fun _ => ?_)
  rotate_left; clear_value q9; rotate_right; unfold q9
  refine Fr.ite ?_ ?_
  with_reducible apply State.explain_fr
  with_reducible assumption
  exact List.Subset.trans (by decide) hl
  with_reducible assumption
  extract_lets +onlyGivenNames q20; clear_value q20
  extract_lets +onlyGivenNames q22; clear_value q22
  extract_lets +onlyGivenNames q24; refine Fr.cut (a := q24) ?_ (fun _ => ?_)
  rotate_left; clear_value q24; rotate_right; unfold q24
  refine Fr.ite ?_ ?_
  refine Fr.upd ?_ (c27 := .inl (hl (by decide)))
  with_reducible assumption
  with_reducible assumption
  with_reducible apply State.digestMeet_fr
  with_reducible assumption
  exact List.Subset.trans (by decide) hl

theorem State.digestCommit_fr {s : State} {frame : Nat} (hz : Fr l z s) (hl : [.out, .regs, .once, .log, .evt,
      .pub, .pair] ⊆ l) :
    Fr l z (State.digestCommit s frame) := by
  unfold State.digestCommit
  extract_lets +onlyGivenNames q0; clear_value q0
  extract_lets +onlyGivenNames q2; clear_value q2
  extract_lets +onlyGivenNames q4; refine Fr.cut (a := q4) ?_ (fun _ => ?_)
  rotate_left; clear_value q4; rotate_right; unfold q4
  refine Fr.upd ?_ (c26 := .inl (hl (by decide)))
  with_reducible assumption
  refine Fr.ite ?_ ?_
  with_reducible assumption
  with_reducible apply State.digestPair_fr
  with_reducible assumption
  exact List.Subset.trans (by decide) hl

theorem State.commitDigest_fr {s : State} {frame : Nat} (hz : Fr l z s) (hl : [.out, .regs, .cmds, .once, .time,
      .glb, .log, .evt, .img, .bcn, .cdv, .pln, .svi, .cnd, .hst, .kpr, .gal, .pub, .pair] ⊆ l) :
    Fr l z (State.commitDigest s frame) := by
  unfold State.commitDigest
  with_reducible apply State.divergeAct_fr
  with_reducible apply State.digestCommit_fr
  with_reducible assumption
  exact List.Subset.trans (by decide) hl
  exact hl

theorem State.overrunCount_fr {s : State} {k : Nat} {id : Nat} (hz : Fr l z s) (hl : [.out, .regs, .once, .log,
      .evt, .prf, .hst, .kpr] ⊆ l) :
    Fr l z (State.overrunCount s k id) := by
  unfold State.overrunCount
  extract_lets +onlyGivenNames q0; clear_value q0
  extract_lets +onlyGivenNames q2; clear_value q2
  extract_lets +onlyGivenNames q4; refine Fr.cut (a := q4) ?_ (fun _ => ?_)
  rotate_left; clear_value q4; rotate_right; unfold q4
  with_reducible apply State.prfKeeper_fr
  with_reducible assumption
  exact List.Subset.trans (by decide) hl
  refine Fr.ite ?_ ?_
  extract_lets +onlyGivenNames q14; clear_value q14
  extract_lets +onlyGivenNames q16; refine Fr.cut (a := q16) ?_ (fun _ => ?_)
  rotate_left; clear_value q16; rotate_right; unfold q16
  with_reducible apply State.fnCount_fr
  with_reducible apply State.setFn_fr
  with_reducible assumption
  exact List.Subset.trans (by decide) hl
  exact List.Subset.trans (by decide) hl
  refine Fr.ite ?_ ?_
  with_reducible apply State.hstRec_fr
  with_reducible apply State.vfEvent_fr
  with_reducible apply State.setFn_fr
  with_reducible assumption
  exact List.Subset.trans (by decide) hl
  exact List.Subset.trans (by decide) hl
  exact List.Subset.trans (by decide) hl
  with_reducible assumption
  extract_lets +onlyGivenNames q36; refine Fr.cut (a := q36) ?_ (fun _ => ?_)
  rotate_left; clear_value q36; rotate_right; unfold q36
  with_reducible apply State.count_fr
  with_reducible apply State.setFn_fr
  with_reducible assumption
  exact List.Subset.trans (by decide) hl
  exact List.Subset.trans (by decide) hl
  extract_lets +onlyGivenNames q47; refine Fr.cut (a := q47) ?_ (fun _ => ?_)
  rotate_left; clear_value q47; rotate_right; unfold q47
  with_reducible apply State.raiseOnce_fr
  with_reducible assumption
  exact List.Subset.trans (by decide) hl
  with_reducible apply State.oncePer_fr
  with_reducible assumption
  intro x58_0 x58_1
  with_reducible apply State.logPut_fr
  with_reducible assumption
  exact List.Subset.trans (by decide) hl
  exact List.Subset.trans (by decide) hl

theorem State.missCommit_fr {s : State} (hz : Fr l z s) (hl : [.out, .regs, .once, .log, .evt, .prf, .hst,
      .kpr] ⊆ l) :
    Fr l z (State.missCommit s) := by
  unfold State.missCommit
  extract_lets +onlyGivenNames q0; clear_value q0
  extract_lets +onlyGivenNames q2; clear_value q2
  extract_lets +onlyGivenNames q4; refine Fr.cut (a := q4) ?_ (fun _ => ?_)
  rotate_left; clear_value q4; rotate_right; unfold q4
  refine Fr.upd ?_ (c24 := .inl (hl (by decide)))
  with_reducible assumption
  refine Fr.foldl ?_ ?_
  with_reducible assumption
  intro x14_0 x14_1 x14_2
  with_reducible apply State.overrunCount_fr
  with_reducible assumption
  exact hl

theorem State.runCycles_fr {s : State} {k : Nat} {id : Nat} {cycles : Nat} (hz : Fr l z s) (hl : [.regs, .kpr] ⊆ l) :
    Fr l z (State.runCycles s k id cycles) := by
  unfold State.runCycles
  extract_lets +onlyGivenNames q0; clear_value q0
  extract_lets +onlyGivenNames q2; refine Fr.cut (a := q2) ?_ (fun _ => ?_)
  rotate_left; clear_value q2; rotate_right; unfold q2
  with_reducible apply State.setKeeper_fr
  with_reducible assumption
  exact List.Subset.trans (by decide) hl
  extract_lets +onlyGivenNames q11; clear_value q11
  extract_lets +onlyGivenNames q13; refine Fr.cut (a := q13) ?_ (fun _ => ?_)
  rotate_left; clear_value q13; rotate_right; unfold q13
  with_reducible apply State.setFn_fr
  with_reducible assumption
  exact List.Subset.trans (by decide) hl
  refine Fr.ite ?_ ?_
  with_reducible assumption
  extract_lets +onlyGivenNames q24; clear_value q24
  with_reducible apply State.wr_fr
  with_reducible assumption
  exact List.Subset.trans (by decide) hl

theorem State.runOver_fr {s : State} {k : Nat} {id : Nat} {cycles : Nat} (hz : Fr l z s) (hl : [.out, .regs,
      .once, .log, .evt, .prf, .hst, .kpr] ⊆ l) :
    Fr l z (State.runOver s k id cycles) := by
  unfold State.runOver
  with_reducible apply State.nextRun_fr
  with_reducible apply State.overrunCount_fr
  with_reducible apply State.runCycles_fr
  with_reducible assumption
  exact List.Subset.trans (by decide) hl
  exact hl
  exact List.Subset.trans (by decide) hl

theorem State.stopRuns_fr {s : State} (hz : Fr l z s) (hl : [.out, .regs, .once, .log, .evt, .prf, .hst, .kpr] ⊆ l) :
    Fr l z (State.stopRuns s) := by
  unfold State.stopRuns
  with_reducible apply forN_fr
  with_reducible assumption
  intro x2_0 x2_1 x2_2
  extract_lets +onlyGivenNames q3; clear_value q3
  extract_lets +onlyGivenNames q5; refine Fr.cut (a := q5) ?_ (fun _ => ?_)
  rotate_left; clear_value q5; rotate_right; unfold q5
  with_reducible apply State.setKeeper_fr
  with_reducible assumption
  exact List.Subset.trans (by decide) hl
  split
  with_reducible assumption
  with_reducible apply State.runOver_fr
  with_reducible assumption
  exact hl

theorem State.mergeCommit_fr {s : State} {m : Merge} (hz : Fr l z s) (hl : [.kpr] ⊆ l) :
    Fr l z (State.mergeCommit s m) := by
  unfold State.mergeCommit
  extract_lets +onlyGivenNames q0; clear_value q0
  with_reducible apply State.setFn_fr
  with_reducible assumption
  exact hl

theorem State.fnFault_fr {s : State} {f : Nat} (hz : Fr l z s) (hl : [.regs, .log, .evt, .kpr] ⊆ l) :
    Fr l z (State.fnFault s f) := by
  unfold State.fnFault
  with_reducible apply State.raiseRec_fr
  with_reducible apply State.setFn_fr
  with_reducible assumption
  exact List.Subset.trans (by decide) hl
  exact List.Subset.trans (by decide) hl

theorem State.safeValues_fr {s : State} (hz : Fr l z s) (hl : [.pln] ⊆ l) :
    Fr l z (State.safeValues s) := by
  unfold State.safeValues
  extract_lets +onlyGivenNames q0; clear_value q0
  refine Fr.ite ?_ ?_
  with_reducible assumption
  refine Fr.upd ?_ (c19 := .inl (hl (by decide)))
  with_reducible assumption

theorem State.plnFlags_fr {s : State} {frame : Nat} (hz : Fr l z s) (hl : [.pln] ⊆ l) :
    Fr l z (State.plnFlags s frame) := by
  unfold State.plnFlags
  extract_lets +onlyGivenNames q0; clear_value q0
  with_reducible apply State.plnPut_fr
  with_reducible assumption
  exact hl

theorem State.plnCommit_fr {s : State} {frame : Nat} {late : BitVec 4096} (hz : Fr l z s) (hl : [.pln] ⊆ l) :
    Fr l z (State.plnCommit s frame late) := by
  unfold State.plnCommit
  extract_lets +onlyGivenNames q0; clear_value q0
  extract_lets +onlyGivenNames q2
  extract_lets +onlyGivenNames q3; refine Fr.cut (a := q3) ?_ (fun _ => ?_)
  rotate_left; clear_value q3; rotate_right; unfold q3
  refine Fr.upd ?_ (c19 := .inl (hl (by decide)))
  with_reducible assumption
  extract_lets +onlyGivenNames q11; refine Fr.cut (a := q11) ?_ (fun _ => ?_)
  rotate_left; clear_value q11; rotate_right; unfold q11
  with_reducible apply State.plnPut_fr
  with_reducible assumption
  exact hl
  extract_lets +onlyGivenNames q20; refine Fr.cut (a := q20) ?_ (fun _ => ?_)
  rotate_left; clear_value q20; rotate_right; unfold q20
  with_reducible apply State.plnPut_fr
  with_reducible assumption
  exact hl
  with_reducible apply State.plnFlags_fr
  with_reducible assumption
  exact hl

theorem State.kprCommitDone_fr {s : State} (hz : Fr l z s) (hl : [.regs, .cmds, .log, .evt, .kpr] ⊆ l) :
    Fr l z (State.kprCommitDone s) := by
  unfold State.kprCommitDone
  refine Fr.ite ?_ ?_
  with_reducible apply State.cmdDone_fr
  refine Fr.upd ?_ (c24 := .inl (hl (by decide)))
  with_reducible assumption
  exact List.Subset.trans (by decide) hl
  with_reducible assumption

theorem State.keepersClose_fr {s : State} (hz : Fr l z s) (hl : [.regs, .kpr] ⊆ l) :
    Fr l z (State.keepersClose s) := by
  unfold State.keepersClose
  with_reducible apply forN_fr
  with_reducible assumption
  intro x2_0 x2_1 x2_2
  extract_lets +onlyGivenNames q3; clear_value q3
  extract_lets +onlyGivenNames q5; refine Fr.cut (a := q5) ?_ (fun _ => ?_)
  rotate_left; clear_value q5; rotate_right; unfold q5
  with_reducible apply State.setKeeper_fr
  with_reducible assumption
  exact List.Subset.trans (by decide) hl
  extract_lets +onlyGivenNames q14; clear_value q14
  with_reducible apply State.wr_fr
  with_reducible assumption
  exact List.Subset.trans (by decide) hl

theorem State.swEvent_fr {s : State} {before : Word} {id : Nat} {n : Nat} {v : Nat} (hz : Fr l z s) (hl : [.regs,
      .once, .log, .evt] ⊆ l) :
    Fr l z (State.swEvent s before id n v) := by
  unfold State.swEvent
  extract_lets +onlyGivenNames q0; clear_value q0
  extract_lets +onlyGivenNames q2; clear_value q2
  extract_lets +onlyGivenNames q4; refine Fr.cut (a := q4) ?_ (fun _ => ?_)
  rotate_left; clear_value q4; rotate_right; unfold q4
  with_reducible apply State.wr_fr
  with_reducible assumption
  exact List.Subset.trans (by decide) hl
  extract_lets +onlyGivenNames q13; refine Fr.cut (a := q13) ?_ (fun _ => ?_)
  rotate_left; clear_value q13; rotate_right; unfold q13
  refine Fr.ite ?_ ?_
  with_reducible apply State.raiseOnce_fr
  with_reducible apply State.count_fr
  with_reducible assumption
  exact List.Subset.trans (by decide) hl
  exact List.Subset.trans (by decide) hl
  with_reducible assumption
  extract_lets +onlyGivenNames q26; refine Fr.cut (a := q26) ?_ (fun _ => ?_)
  rotate_left; clear_value q26; rotate_right; unfold q26
  with_reducible apply State.oncePer_fr
  with_reducible assumption
  intro x34_0 x34_1
  with_reducible apply State.logPut_fr
  with_reducible assumption
  exact List.Subset.trans (by decide) hl
  exact List.Subset.trans (by decide) hl
  refine Fr.ite ?_ ?_
  with_reducible assumption
  with_reducible apply State.setEvent_fr
  with_reducible assumption
  exact List.Subset.trans (by decide) hl

theorem State.swEvents_fr {s : State} (hz : Fr l z s) (hl : [.regs, .once, .log, .evt] ⊆ l) :
    Fr l z (State.swEvents s) := by
  unfold State.swEvents
  extract_lets +onlyGivenNames q0; refine Fr.cut (a := q0) ?_ (fun _ => ?_)
  rotate_left; clear_value q0; rotate_right; unfold q0
  with_reducible assumption
  extract_lets +onlyGivenNames q7; clear_value q7
  refine Fr.foldlP ?_ ?_
  dsimp -zeta only
  with_reducible assumption
  intro x12_0 x12_1 x12_2
  extract_lets +onlyGivenNames q13; clear_value q13
  dsimp -zeta only
  with_reducible apply State.swEvent_fr
  with_reducible assumption
  exact hl

theorem State.kprCommit_fr {s : State} (hz : Fr l z s) (hl : [.out, .regs, .cmds, .once, .log, .evt, .prf, .pln,
      .hst, .kpr] ⊆ l) :
    Fr l z (State.kprCommit s) := by
  unfold State.kprCommit
  extract_lets +onlyGivenNames q0; refine Fr.cut (a := q0) ?_ (fun _ => ?_)
  rotate_left; clear_value q0; rotate_right; unfold q0
  with_reducible apply State.missCommit_fr
  with_reducible apply State.stopRuns_fr
  with_reducible assumption
  exact List.Subset.trans (by decide) hl
  exact List.Subset.trans (by decide) hl
  extract_lets +onlyGivenNames q11; refine Fr.cut (a := q11) ?_ (fun _ => ?_)
  rotate_left; clear_value q11; rotate_right; unfold q11
  refine Fr.foldl ?_ ?_
  with_reducible assumption
  intro x19_0 x19_1 x19_2
  with_reducible apply State.mergeCommit_fr
  with_reducible assumption
  exact List.Subset.trans (by decide) hl
  extract_lets +onlyGivenNames q23; refine Fr.cut (a := q23) ?_ (fun _ => ?_)
  rotate_left; clear_value q23; rotate_right; unfold q23
  refine Fr.foldl ?_ ?_
  with_reducible assumption
  intro x31_0 x31_1 x31_2
  with_reducible apply State.fnFault_fr
  with_reducible assumption
  exact List.Subset.trans (by decide) hl
  extract_lets +onlyGivenNames q35; refine Fr.cut (a := q35) ?_ (fun _ => ?_)
  rotate_left; clear_value q35; rotate_right; unfold q35
  with_reducible apply State.safeValues_fr
  with_reducible assumption
  exact List.Subset.trans (by decide) hl
  extract_lets +onlyGivenNames q44; refine Fr.cut (a := q44) ?_ (fun _ => ?_)
  rotate_left; clear_value q44; rotate_right; unfold q44
  with_reducible apply State.plnCommit_fr
  with_reducible assumption
  exact List.Subset.trans (by decide) hl
  extract_lets +onlyGivenNames q53; refine Fr.cut (a := q53) ?_ (fun _ => ?_)
  rotate_left; clear_value q53; rotate_right; unfold q53
  with_reducible apply State.kprCommitDone_fr
  with_reducible apply State.keepersClose_fr
  with_reducible apply State.swEvents_fr
  with_reducible assumption
  exact List.Subset.trans (by decide) hl
  exact List.Subset.trans (by decide) hl
  exact List.Subset.trans (by decide) hl
  refine Fr.upd ?_ (c24 := .inl (hl (by decide)))
  with_reducible assumption

end Sys2Proof.Machine
end

