-- ==== Sys2Proof/Laws/Frame3.lean ====
section
/-!
SUPPORT. What each operation may change, and that it keeps what every operation keeps (part 3).
-/

set_option Elab.async false

namespace Sys2Proof.Machine

open Sys2Proof

variable {l : List Part} {z : State}

theorem State.commitFrame_fr {s : State} {frame : Nat} (hz : Fr l z s) (hl : [.out, .regs, .cmds, .once, .time,
      .glb, .log, .evt, .img, .bcn, .cdv, .prf, .pln, .svi, .cnd, .hst, .kpr, .gal, .pub, .pair] ⊆ l) :
    Fr l z (State.commitFrame s frame) := by
  unfold State.commitFrame
  extract_lets +onlyGivenNames q0; refine Fr.cut (a := q0) ?_ (fun _ => ?_)
  rotate_left; clear_value q0; rotate_right; unfold q0
  with_reducible apply State.kprCommit_fr
  with_reducible assumption
  exact List.Subset.trans (by decide) hl
  extract_lets +onlyGivenNames q9; clear_value q9
  extract_lets +onlyGivenNames q11; refine Fr.cut (a := q11) ?_ (fun _ => ?_)
  rotate_left; clear_value q11; rotate_right; unfold q11
  refine Fr.upd ?_ (c27 := .inl (hl (by decide)))
  with_reducible assumption
  refine Fr.foldl ?_ ?_
  with_reducible assumption
  intro x21_0 x21_1 x21_2
  with_reducible apply State.fault_fr
  with_reducible assumption
  exact List.Subset.trans (by decide) hl

theorem State.pubFirst_fr {s : State} (hz : Fr l z s) (hl : [.pub] ⊆ l) :
    Fr l z (State.pubFirst s) := by
  unfold State.pubFirst
  extract_lets +onlyGivenNames q0; refine Fr.cut (a := q0) ?_ (fun _ => ?_)
  rotate_left; clear_value q0; rotate_right; unfold q0
  refine Fr.ite ?_ ?_
  refine Fr.foldl ?_ ?_
  with_reducible assumption
  intro x9_0 x9_1 x9_2
  with_reducible apply State.setPub_fr
  with_reducible assumption
  exact hl
  with_reducible apply State.mirrorAll_fr
  with_reducible assumption
  exact hl
  refine Fr.upd ?_ (c26 := .inl (hl (by decide)))
  with_reducible assumption

theorem State.keyErr_fr {s : State} {p : Nat} (hz : Fr l z s) (hl : [.regs, .once, .log, .evt] ⊆ l) :
    Fr l z (State.keyErr s p) := by
  unfold State.keyErr
  with_reducible apply State.oncePer_fr
  with_reducible apply State.setEvent_fr
  with_reducible apply State.count_fr
  with_reducible assumption
  exact List.Subset.trans (by decide) hl
  exact List.Subset.trans (by decide) hl
  intro x6_0 x6_1
  with_reducible apply State.eventRec_fr
  with_reducible assumption
  exact List.Subset.trans (by decide) hl
  exact List.Subset.trans (by decide) hl

theorem State.dropHeld_fr {s : State} {outs : List Nat} (hz : Fr l z s) (hl : [.regs] ⊆ l) :
    Fr l z (State.dropHeld s outs).1 := by
  unfold State.dropHeld
  extract_lets +onlyGivenNames q0
  dsimp -zeta only
  refine Fr.foldl ?_ ?_
  with_reducible assumption
  intro x4_0 x4_1 x4_2
  with_reducible apply State.epCount_fr
  with_reducible assumption
  exact hl

theorem State.nextSeq_fr {s : State} {g : Nat} (hz : Fr l z s) (hl : [.rdg] ⊆ l) :
    Fr l z (State.nextSeq s g).1 := by
  unfold State.nextSeq
  extract_lets +onlyGivenNames q0; clear_value q0
  dsimp -zeta only
  refine Fr.upd ?_ (c14 := .inl (hl (by decide)))
  with_reducible assumption

theorem State.sendOwn_fr {s : State} {q : QFrame} {outs : List Nat} (hz : Fr l z s) (hl : [.out, .regs, .once,
      .log, .evt, .ports, .rdg, .prf] ⊆ l) :
    Fr l z (State.sendOwn s q outs) := by
  unfold State.sendOwn
  extract_lets +onlyGivenNames q0; clear_value q0
  extract_lets +onlyGivenNames q2; clear_value q2
  extract_lets +onlyGivenNames q4; refine Fr.cut (a := q4) ?_ (fun _ => ?_)
  rotate_left; clear_value q4; rotate_right; unfold q4
  refine Fr.foldl ?_ ?_
  with_reducible assumption
  intro x12_0 x12_1 x12_2
  with_reducible apply State.enqueue_fr
  with_reducible assumption
  exact hl
  refine Fr.foldl ?_ ?_
  with_reducible assumption
  intro x18_0 x18_1 x18_2
  split
  extract_lets +onlyGivenNames q20; clear_value q20
  extract_lets +onlyGivenNames q22
  unfold q22
  refine Fr.ite ?_ ?_
  with_reducible apply State.epCount_fr
  refine Fr.ite ?_ ?_
  with_reducible apply State.epCount_fr
  with_reducible refine Fr.pair ‹_ = (_, _)› ?_
  with_reducible apply State.nextSeq_fr
  with_reducible assumption
  exact List.Subset.trans (by decide) hl
  exact List.Subset.trans (by decide) hl
  extract_lets +onlyGivenNames q33; clear_value q33
  with_reducible apply State.enqueue_fr
  with_reducible refine Fr.pair ‹_ = (_, _)› ?_
  with_reducible apply State.nextSeq_fr
  with_reducible assumption
  exact List.Subset.trans (by decide) hl
  exact hl
  exact List.Subset.trans (by decide) hl
  extract_lets +onlyGivenNames q42; clear_value q42
  extract_lets +onlyGivenNames q44; clear_value q44
  with_reducible apply State.enqueue_fr
  refine Fr.ite ?_ ?_
  with_reducible apply State.epCount_fr
  with_reducible refine Fr.pair ‹_ = (_, _)› ?_
  with_reducible apply State.nextSeq_fr
  with_reducible assumption
  exact List.Subset.trans (by decide) hl
  exact List.Subset.trans (by decide) hl
  with_reducible apply State.enqueue_fr
  with_reducible refine Fr.pair ‹_ = (_, _)› ?_
  with_reducible apply State.nextSeq_fr
  with_reducible assumption
  exact List.Subset.trans (by decide) hl
  exact hl
  exact hl

theorem State.pubOut_fr {s : State} {b : List Byte} {f : Frame} (hz : Fr l z s) (hl : [.out, .regs, .once, .log,
      .evt, .ports, .rdg, .prf] ⊆ l) :
    Fr l z (State.pubOut s b f) := by
  unfold State.pubOut
  extract_lets +onlyGivenNames q0; clear_value q0
  split
  with_reducible apply State.sendOwn_fr
  with_reducible refine Fr.pair ‹_ = (_, _)› ?_
  with_reducible apply State.dropHeld_fr
  with_reducible assumption
  exact List.Subset.trans (by decide) hl
  exact hl

theorem State.pubSend_fr {s : State} {p : Nat} (hz : Fr l z s) (hl : [.out, .regs, .once, .log, .evt, .ports,
      .rdg, .prf, .pub] ⊆ l) :
    Fr l z (State.pubSend s p) := by
  unfold State.pubSend
  extract_lets +onlyGivenNames q0; clear_value q0
  extract_lets +onlyGivenNames q2; clear_value q2
  extract_lets +onlyGivenNames q4; clear_value q4
  extract_lets +onlyGivenNames q6; refine Fr.cut (a := q6) ?_ (fun _ => ?_)
  rotate_left; clear_value q6; rotate_right; unfold q6
  refine Fr.upd ?_ (c26 := .inl (hl (by decide)))
  with_reducible assumption
  refine Fr.ite ?_ ?_
  with_reducible apply State.keyErr_fr
  with_reducible assumption
  exact List.Subset.trans (by decide) hl
  extract_lets +onlyGivenNames q18; clear_value q18
  extract_lets +onlyGivenNames q20; clear_value q20
  extract_lets +onlyGivenNames q22; clear_value q22
  extract_lets +onlyGivenNames q24; refine Fr.cut (a := q24) ?_ (fun _ => ?_)
  rotate_left; clear_value q24; rotate_right; unfold q24
  refine Fr.ite ?_ ?_
  with_reducible apply State.setPub_fr
  with_reducible assumption
  exact List.Subset.trans (by decide) hl
  with_reducible assumption
  with_reducible apply State.pubOut_fr
  with_reducible assumption
  exact List.Subset.trans (by decide) hl

theorem State.pubChange_fr {s : State} {p : Nat} (hz : Fr l z s) (hl : [.out, .regs, .once, .log, .evt, .ports,
      .rdg, .prf, .pub] ⊆ l) :
    Fr l z (State.pubChange s p) := by
  unfold State.pubChange
  extract_lets +onlyGivenNames q0; clear_value q0
  extract_lets +onlyGivenNames q2; clear_value q2
  with_reducible apply State.pubSend_fr
  with_reducible apply State.setPub_fr
  with_reducible assumption
  exact List.Subset.trans (by decide) hl
  exact hl

theorem State.pubRepeat_fr {s : State} {p : Nat} {first : Bool} (hz : Fr l z s) (hl : [.out, .regs, .once, .log,
      .evt, .ports, .rdg, .prf, .pub] ⊆ l) :
    Fr l z (State.pubRepeat s p first) := by
  unfold State.pubRepeat
  extract_lets +onlyGivenNames q0; clear_value q0
  extract_lets +onlyGivenNames q2; clear_value q2
  extract_lets +onlyGivenNames q4; clear_value q4
  extract_lets +onlyGivenNames q6; clear_value q6
  with_reducible apply State.pubSend_fr
  with_reducible apply State.setPub_fr
  with_reducible assumption
  exact List.Subset.trans (by decide) hl
  exact hl

theorem State.pubBurst_fr {s : State} {first : Bool} (hz : Fr l z s) (hl : [.out, .regs, .once, .log, .evt,
      .ports, .rdg, .prf, .pub] ⊆ l) :
    Fr l z (State.pubBurst s first) := by
  unfold State.pubBurst
  extract_lets +onlyGivenNames q0; clear_value q0
  extract_lets +onlyGivenNames q2; refine Fr.cut (a := q2) ?_ (fun _ => ?_)
  rotate_left; clear_value q2; rotate_right; unfold q2
  refine Fr.foldl ?_ ?_
  with_reducible assumption
  intro x10_0 x10_1 x10_2
  with_reducible apply State.setPub_fr
  with_reducible assumption
  exact List.Subset.trans (by decide) hl
  refine Fr.ite ?_ ?_
  extract_lets +onlyGivenNames q15; clear_value q15
  extract_lets +onlyGivenNames q17; clear_value q17
  extract_lets +onlyGivenNames q19; clear_value q19
  extract_lets +onlyGivenNames q21; refine Fr.cut (a := q21) ?_ (fun _ => ?_)
  rotate_left; clear_value q21; rotate_right; unfold q21
  refine Fr.foldl ?_ ?_
  with_reducible assumption
  intro x29_0 x29_1 x29_2
  with_reducible apply State.pubChange_fr
  with_reducible assumption
  exact hl
  extract_lets +onlyGivenNames q33; refine Fr.cut (a := q33) ?_ (fun _ => ?_)
  rotate_left; clear_value q33; rotate_right; unfold q33
  refine Fr.foldl ?_ ?_
  with_reducible assumption
  intro x41_0 x41_1 x41_2
  with_reducible apply State.pubRepeat_fr
  with_reducible assumption
  exact hl
  refine Fr.upd ?_ (c26 := .inl (hl (by decide)))
  with_reducible assumption
  refine Fr.upd ?_ (c26 := .inl (hl (by decide)))
  with_reducible assumption

theorem State.tripApply_fr {s : State} (hz : Fr l z s) (hl : [.out, .regs, .log, .evt, .cdv] ⊆ l) :
    Fr l z (State.tripApply s) := by
  unfold State.tripApply
  refine Fr.ite ?_ ?_
  with_reducible apply forN_fr
  with_reducible assumption
  intro x3_0 x3_1 x3_2
  refine Fr.ite ?_ ?_
  with_reducible apply State.coilEnergise_fr
  with_reducible assumption
  exact hl
  with_reducible apply State.coilRelease_fr
  with_reducible assumption
  exact List.Subset.trans (by decide) hl
  with_reducible assumption

theorem State.tripCommit_fr {s : State} (hz : Fr l z s) (hl : [.out, .regs, .log, .evt, .cdv, .pub] ⊆ l) :
    Fr l z (State.tripCommit s) := by
  unfold State.tripCommit
  extract_lets +onlyGivenNames q0; clear_value q0
  extract_lets +onlyGivenNames q2; clear_value q2
  extract_lets +onlyGivenNames q4; clear_value q4
  extract_lets +onlyGivenNames q6; refine Fr.cut (a := q6) ?_ (fun _ => ?_)
  rotate_left; clear_value q6; rotate_right; unfold q6
  refine Fr.upd ?_ (c26 := .inl (hl (by decide)))
  with_reducible assumption
  extract_lets +onlyGivenNames q14; refine Fr.cut (a := q14) ?_ (fun _ => ?_)
  rotate_left; clear_value q14; rotate_right; unfold q14
  with_reducible apply forN_fr
  with_reducible assumption
  intro x22_0 x22_1 x22_2
  refine Fr.ite ?_ ?_
  with_reducible apply State.raiseRec_fr
  with_reducible assumption
  exact List.Subset.trans (by decide) hl
  with_reducible assumption
  with_reducible apply State.tripApply_fr
  with_reducible assumption
  exact List.Subset.trans (by decide) hl

theorem State.pubCommit_fr {s : State} {frame : Nat} (hz : Fr l z s) (hl : [.out, .regs, .once, .log, .evt,
      .ports, .rdg, .cdv, .prf, .pub] ⊆ l) :
    Fr l z (State.pubCommit s frame) := by
  unfold State.pubCommit
  extract_lets +onlyGivenNames q0; clear_value q0
  extract_lets +onlyGivenNames q2; clear_value q2
  extract_lets +onlyGivenNames q4; refine Fr.cut (a := q4) ?_ (fun _ => ?_)
  rotate_left; clear_value q4; rotate_right; unfold q4
  refine Fr.ite ?_ ?_
  with_reducible apply State.pubFirst_fr
  with_reducible assumption
  exact List.Subset.trans (by decide) hl
  with_reducible assumption
  extract_lets +onlyGivenNames q15; clear_value q15
  extract_lets +onlyGivenNames q17; refine Fr.cut (a := q17) ?_ (fun _ => ?_)
  rotate_left; clear_value q17; rotate_right; unfold q17
  refine Fr.upd ?_ (c26 := .inl (hl (by decide)))
  with_reducible assumption
  with_reducible apply State.pubBurst_fr
  with_reducible apply State.tripCommit_fr
  with_reducible assumption
  exact List.Subset.trans (by decide) hl
  exact List.Subset.trans (by decide) hl

theorem State.giveComplete_fr {s : State} {n : Nat} (hz : Fr l z s) (hl : [.svi] ⊆ l) :
    Fr l z (State.giveComplete s n) := by
  unfold State.giveComplete
  extract_lets +onlyGivenNames q0; clear_value q0
  refine Fr.upd ?_ (c20 := .inl (hl (by decide)))
  with_reducible assumption

theorem State.mirrorSend_fr {s : State} {frame : Nat} (hz : Fr l z s) (hl : [.out, .pub, .pair] ⊆ l) :
    Fr l z (State.mirrorSend s frame) := by
  unfold State.mirrorSend
  extract_lets +onlyGivenNames q0; clear_value q0
  extract_lets +onlyGivenNames q2; refine Fr.cut (a := q2) ?_ (fun _ => ?_)
  rotate_left; clear_value q2; rotate_right; unfold q2
  with_reducible assumption
  extract_lets +onlyGivenNames q9; clear_value q9
  extract_lets +onlyGivenNames q11; refine Fr.cut (a := q11) ?_ (fun _ => ?_)
  rotate_left; clear_value q11; rotate_right; unfold q11
  refine Fr.upd ?_ (c26 := .inl (hl (by decide)))
  with_reducible assumption
  refine Fr.ite ?_ ?_
  with_reducible assumption
  with_reducible apply State.bregSend_fr
  with_reducible assumption
  exact List.Subset.trans (by decide) hl

theorem State.reloadCommit_fr {s : State} (hz : Fr l z s) (hl : [.regs, .cmds, .log, .evt, .img] ⊆ l) :
    Fr l z (State.reloadCommit s) := by
  unfold State.reloadCommit
  refine Fr.ite ?_ ?_
  extract_lets +onlyGivenNames q1; clear_value q1
  extract_lets +onlyGivenNames q3; clear_value q3
  extract_lets +onlyGivenNames q5; refine Fr.cut (a := q5) ?_ (fun _ => ?_)
  rotate_left; clear_value q5; rotate_right; unfold q5
  with_reducible apply State.setBank_fr
  with_reducible assumption
  exact List.Subset.trans (by decide) hl
  extract_lets +onlyGivenNames q14; clear_value q14
  extract_lets +onlyGivenNames q16; clear_value q16
  extract_lets +onlyGivenNames q18
  extract_lets +onlyGivenNames q19; refine Fr.cut (a := q19) ?_ (fun _ => ?_)
  rotate_left; clear_value q19; rotate_right; unfold q19
  refine Fr.upd ?_ (c11 := .inl (hl (by decide)))
  with_reducible assumption
  with_reducible apply State.reloadEnd_fr
  with_reducible apply State.logPut_fr
  with_reducible assumption
  exact List.Subset.trans (by decide) hl
  exact hl
  with_reducible assumption

theorem State.placeCommit_fr {s : State} (hz : Fr l z s) (hl : [.out, .regs, .cmds, .log, .evt, .hst, .kpr] ⊆ l) :
    Fr l z (State.placeCommit s) := by
  unfold State.placeCommit
  extract_lets +onlyGivenNames q0; clear_value q0
  refine Fr.foldl ?_ ?_
  refine Fr.upd ?_ (c24 := .inl (hl (by decide)))
  with_reducible assumption
  intro x5_0 x5_1 x5_2
  with_reducible apply State.vfDone_fr
  with_reducible assumption
  exact List.Subset.trans (by decide) hl

theorem State.mboxCommit_fr {s : State} {old : State} {evs : List Nat} (hz : Fr l z s) (hl : [.out, .regs,
      .hst] ⊆ l) :
    Fr l z (State.mboxCommit s old evs) := by
  unfold State.mboxCommit
  extract_lets +onlyGivenNames q0; refine Fr.cut (a := q0) ?_ (fun _ => ?_)
  rotate_left; clear_value q0; rotate_right; unfold q0
  refine Fr.foldl ?_ ?_
  with_reducible assumption
  intro x8_0 x8_1 x8_2
  refine Fr.ite ?_ ?_
  with_reducible apply State.mboxSource_fr
  with_reducible assumption
  exact hl
  with_reducible assumption
  refine Fr.foldl ?_ ?_
  with_reducible assumption
  intro x16_0 x16_1 x16_2
  extract_lets +onlyGivenNames q17; clear_value q17
  refine Fr.ite ?_ ?_
  with_reducible assumption
  with_reducible apply State.mboxSource_fr
  with_reducible assumption
  exact hl

theorem State.commitOthers_fr {s : State} {old : State} {frame : Nat} (hz : Fr l z s) (hl : [.out, .regs, .cmds,
      .once, .time, .glb, .log, .evt, .img, .bcn, .ports, .rdg, .cdv, .prf, .pln, .svi, .cnd, .hst, .kpr, .gal,
      .pub, .pair] ⊆ l) :
    Fr l z (State.commitOthers s old frame) := by
  unfold State.commitOthers
  extract_lets +onlyGivenNames q0; refine Fr.cut (a := q0) ?_ (fun _ => ?_)
  rotate_left; clear_value q0; rotate_right; unfold q0
  with_reducible apply State.pubCommit_fr
  with_reducible apply State.giveComplete_fr
  with_reducible assumption
  exact List.Subset.trans (by decide) hl
  exact List.Subset.trans (by decide) hl
  extract_lets +onlyGivenNames q11; refine Fr.cut (a := q11) ?_ (fun _ => ?_)
  rotate_left; clear_value q11; rotate_right; unfold q11
  with_reducible apply State.commitDigest_fr
  with_reducible apply State.mirrorSend_fr
  with_reducible assumption
  exact List.Subset.trans (by decide) hl
  exact List.Subset.trans (by decide) hl
  with_reducible apply State.reloadCommit_fr
  with_reducible apply State.placeCommit_fr
  with_reducible apply State.bindCommit_fr
  with_reducible apply State.mboxCommit_fr
  with_reducible assumption
  exact List.Subset.trans (by decide) hl
  exact List.Subset.trans (by decide) hl
  exact List.Subset.trans (by decide) hl
  exact List.Subset.trans (by decide) hl

theorem State.completionInt_fr {s : State} {n : Nat} {itr : Nat} (hz : Fr l z s) (hl : [.out, .hst] ⊆ l) :
    Fr l z (State.completionInt s n itr) := by
  unfold State.completionInt
  extract_lets +onlyGivenNames q0; clear_value q0
  extract_lets +onlyGivenNames q2; clear_value q2
  refine Fr.ite ?_ ?_
  with_reducible apply State.setVec_fr
  with_reducible assumption
  exact List.Subset.trans (by decide) hl
  with_reducible apply State.fireVec_fr
  with_reducible apply State.setVec_fr
  with_reducible assumption
  exact List.Subset.trans (by decide) hl
  exact hl

theorem State.copyEnd_fr {s : State} {v : Nat} {used : Nat} (hz : Fr l z s) (hl : [.out, .regs, .cmds, .log, .evt,
      .hst, .gal] ⊆ l) :
    Fr l z (State.copyEnd s v used) := by
  unfold State.copyEnd
  refine Fr.ite ?_ ?_
  with_reducible apply State.cmdDone_fr
  refine Fr.upd ?_ (c25 := .inl (hl (by decide)))
  with_reducible assumption
  exact List.Subset.trans (by decide) hl
  with_reducible apply State.vfEvent_fr
  with_reducible apply State.cmdDone_fr
  with_reducible assumption
  exact List.Subset.trans (by decide) hl
  exact List.Subset.trans (by decide) hl

theorem State.queueInt_fr {s : State} {n : Nat} {tx : Bool} (hz : Fr l z s) (hl : [.out, .hst] ⊆ l) :
    Fr l z (State.queueInt s n tx) := by
  unfold State.queueInt
  extract_lets +onlyGivenNames q0; clear_value q0
  split
  with_reducible assumption
  with_reducible apply State.completionInt_fr
  with_reducible assumption
  exact hl

theorem State.writeBack_fr {s : State} {n : Nat} {q : Queue} {j : TxJob} {rest : List TxJob} (hz : Fr l z s)
    (hl : [.out, .regs, .ports, .hst] ⊆ l) :
    Fr l z (State.writeBack s n q j rest) := by
  unfold State.writeBack
  extract_lets +onlyGivenNames q0
  extract_lets +onlyGivenNames q1; clear_value q1
  extract_lets +onlyGivenNames q3; refine Fr.cut (a := q3) ?_ (fun _ => ?_)
  rotate_left; clear_value q3; rotate_right; unfold q3
  refine Fr.foldl ?_ ?_
  with_reducible assumption
  intro x11_0 x11_1 x11_2
  with_reducible apply State.emit_fr
  with_reducible assumption
  exact List.Subset.trans (by decide) hl
  extract_lets +onlyGivenNames q15; refine Fr.cut (a := q15) ?_ (fun _ => ?_)
  rotate_left; clear_value q15; rotate_right; unfold q15
  with_reducible apply State.emit_fr
  with_reducible assumption
  exact List.Subset.trans (by decide) hl
  extract_lets +onlyGivenNames q24; clear_value q24
  extract_lets +onlyGivenNames q26; refine Fr.cut (a := q26) ?_ (fun _ => ?_)
  rotate_left; clear_value q26; rotate_right; unfold q26
  refine Fr.ite ?_ ?_
  with_reducible apply State.setPort_fr
  with_reducible assumption
  exact List.Subset.trans (by decide) hl
  with_reducible assumption
  extract_lets +onlyGivenNames q37; refine Fr.cut (a := q37) ?_ (fun _ => ?_)
  rotate_left; clear_value q37; rotate_right; unfold q37
  refine Fr.ite ?_ ?_
  with_reducible apply State.fnCount_fr
  with_reducible apply State.fnCount_fr
  with_reducible assumption
  exact List.Subset.trans (by decide) hl
  exact List.Subset.trans (by decide) hl
  with_reducible assumption
  extract_lets +onlyGivenNames q50; refine Fr.cut (a := q50) ?_ (fun _ => ?_)
  rotate_left; clear_value q50; rotate_right; unfold q50
  with_reducible apply State.setQueue_fr
  with_reducible assumption
  exact List.Subset.trans (by decide) hl
  refine Fr.ite ?_ ?_
  with_reducible apply State.queueInt_fr
  with_reducible assumption
  exact List.Subset.trans (by decide) hl
  with_reducible assumption

theorem State.drain_fr {s : State} {n : Nat} {fuel : Nat} (hz : Fr l z s) (hl : [.out, .regs, .ports, .hst] ⊆ l) :
    Fr l z (State.drain s n fuel) := by
  induction fuel generalizing s with
  | zero => exact hz
  | succ fuel ih =>
    unfold State.drain
    dsimp only
    split
    · exact hz
    · exact Fr.ite hz (ih (State.writeBack_fr hz (List.Subset.trans (by decide) hl)))

theorem State.onJob_fr {s : State} {n : Nat} {id : Nat} {f : TxJob → TxJob} (hz : Fr l z s) (hl : [.out, .regs,
      .ports, .hst] ⊆ l) :
    Fr l z (State.onJob s n id f) := by
  unfold State.onJob
  extract_lets +onlyGivenNames q0; clear_value q0
  extract_lets +onlyGivenNames q2; clear_value q2
  extract_lets +onlyGivenNames q4
  extract_lets +onlyGivenNames q5; refine Fr.cut (a := q5) ?_ (fun _ => ?_)
  rotate_left; clear_value q5; rotate_right; unfold q5
  with_reducible apply State.fnCount_fr
  with_reducible assumption
  exact List.Subset.trans (by decide) hl
  with_reducible apply State.drain_fr
  with_reducible apply State.setQueue_fr
  with_reducible assumption
  exact List.Subset.trans (by decide) hl
  exact hl

theorem State.copyGone_fr {s : State} {h : Option (Nat × Nat)} (hz : Fr l z s) (hl : [.out, .regs, .ports,
      .hst] ⊆ l) :
    Fr l z (State.copyGone s h) := by
  unfold State.copyGone
  split
  with_reducible assumption
  with_reducible apply State.onJob_fr
  with_reducible assumption
  exact hl

theorem State.copySent_fr {s : State} {h : Nat × Nat} {port : Nat} {time : Option Nat} {held : Bool} {lost : Bool}
    (hz : Fr l z s) (hl : [.out, .regs, .ports, .hst] ⊆ l) :
    Fr l z (State.copySent s h port time held lost) := by
  unfold State.copySent
  with_reducible apply State.onJob_fr
  with_reducible assumption
  exact hl

theorem State.copyStop_fr {s : State} {v : Nat} (hz : Fr l z s) (hl : [.out, .regs, .cmds, .log, .evt, .hst,
      .gal] ⊆ l) :
    Fr l z (State.copyStop s v) := by
  unfold State.copyStop
  refine Fr.ite ?_ ?_
  with_reducible apply State.copyEnd_fr
  refine Fr.upd ?_ (c25 := .inl (hl (by decide)))
  with_reducible assumption
  exact hl
  with_reducible assumption

theorem State.deliverTo_fr {s : State} {q : QFrame} (hz : Fr l z s) (hl : [.out, .regs, .once, .evt, .ports, .prf,
      .hst] ⊆ l) :
    Fr l z (State.deliverTo s q) := by
  unfold State.deliverTo
  extract_lets +onlyGivenNames q0; clear_value q0
  extract_lets +onlyGivenNames q2; clear_value q2
  extract_lets +onlyGivenNames q4; refine Fr.cut (a := q4) ?_ (fun _ => ?_)
  rotate_left; clear_value q4; rotate_right; unfold q4
  with_reducible apply State.prfRidge_fr
  with_reducible assumption
  exact List.Subset.trans (by decide) hl
  extract_lets +onlyGivenNames q13; refine Fr.cut (a := q13) ?_ (fun _ => ?_)
  rotate_left; clear_value q13; rotate_right; unfold q13
  with_reducible apply State.emit_fr
  with_reducible assumption
  exact List.Subset.trans (by decide) hl
  split
  with_reducible assumption
  with_reducible apply State.copySent_fr
  with_reducible assumption
  exact List.Subset.trans (by decide) hl

theorem State.hostPressure_fr {s : State} {c : Nat} (hz : Fr l z s) (hl : [.hst] ⊆ l) :
    Fr l z (State.hostPressure s c) := by
  unfold State.hostPressure
  extract_lets +onlyGivenNames q0; clear_value q0
  extract_lets +onlyGivenNames q2; clear_value q2
  refine Fr.ite ?_ ?_
  refine Fr.upd ?_ (c23 := .inl (hl (by decide)))
  with_reducible assumption
  refine Fr.ite ?_ ?_
  refine Fr.upd ?_ (c23 := .inl (hl (by decide)))
  with_reducible assumption
  with_reducible assumption

theorem State.dequeue_fr {s : State} {q : QFrame} (hz : Fr l z s) (hl : [.out, .regs, .evt, .ports, .rdg, .hst] ⊆ l) :
    Fr l z (State.dequeue s q) := by
  unfold State.dequeue
  extract_lets +onlyGivenNames q0; clear_value q0
  extract_lets +onlyGivenNames q2; refine Fr.cut (a := q2) ?_ (fun _ => ?_)
  rotate_left; clear_value q2; rotate_right; unfold q2
  refine Fr.upd ?_ (c14 := .inl (hl (by decide)))
  with_reducible assumption
  extract_lets +onlyGivenNames q10; refine Fr.cut (a := q10) ?_ (fun _ => ?_)
  rotate_left; clear_value q10; rotate_right; unfold q10
  refine Fr.ite ?_ ?_
  with_reducible apply State.hostPressure_fr
  with_reducible assumption
  exact List.Subset.trans (by decide) hl
  with_reducible apply State.pfcCheck_fr
  with_reducible assumption
  exact List.Subset.trans (by decide) hl
  refine Fr.ite ?_ ?_
  with_reducible apply State.setCredit_fr
  with_reducible assumption
  exact List.Subset.trans (by decide) hl
  with_reducible assumption

theorem State.digestRx_fr {s : State} {frame : Nat} {b : List Byte} (hz : Fr l z s) (hl : [.regs, .once, .log,
      .evt, .pair] ⊆ l) :
    Fr l z (State.digestRx s frame b) := by
  unfold State.digestRx
  extract_lets +onlyGivenNames q0; clear_value q0
  extract_lets +onlyGivenNames q2; clear_value q2
  extract_lets +onlyGivenNames q4; refine Fr.cut (a := q4) ?_ (fun _ => ?_)
  rotate_left; clear_value q4; rotate_right; unfold q4
  refine Fr.upd ?_ (c27 := .inl (hl (by decide)))
  with_reducible assumption
  extract_lets +onlyGivenNames q12; refine Fr.cut (a := q12) ?_ (fun _ => ?_)
  rotate_left; clear_value q12; rotate_right; unfold q12
  refine Fr.ite ?_ ?_
  with_reducible apply State.explain_fr
  with_reducible assumption
  exact List.Subset.trans (by decide) hl
  with_reducible assumption
  split
  with_reducible apply State.compareDigests_fr
  refine Fr.upd ?_ (c27 := .inl (hl (by decide)))
  with_reducible assumption
  exact hl
  refine Fr.ite ?_ ?_
  with_reducible assumption
  refine Fr.upd ?_ (c27 := .inl (hl (by decide)))
  with_reducible assumption

theorem State.divergeCheck_fr {s : State} {r : Nat} (hz : Fr l z s) (hl : [.regs, .log, .evt, .bcn] ⊆ l) :
    Fr l z (State.divergeCheck s r) := by
  unfold State.divergeCheck
  extract_lets +onlyGivenNames q0; clear_value q0
  refine Fr.ite ?_ ?_
  extract_lets +onlyGivenNames q3; refine Fr.cut (a := q3) ?_ (fun _ => ?_)
  rotate_left; clear_value q3; rotate_right; unfold q3
  with_reducible apply State.setRef_fr
  with_reducible assumption
  exact List.Subset.trans (by decide) hl
  extract_lets +onlyGivenNames q12; clear_value q12
  extract_lets +onlyGivenNames q14; refine Fr.cut (a := q14) ?_ (fun _ => ?_)
  rotate_left; clear_value q14; rotate_right; unfold q14
  with_reducible apply State.raiseRec_fr
  refine Fr.upd ?_ (c12 := .inl (hl (by decide)))
  with_reducible assumption
  exact List.Subset.trans (by decide) hl
  refine Fr.ite ?_ ?_
  with_reducible apply State.holdover_fr
  with_reducible assumption
  exact hl
  with_reducible assumption
  with_reducible assumption

theorem State.macRec_fr {s : State} {p : Nat} {b : Nat} (hz : Fr l z s) (hl : [.regs, .log, .evt] ⊆ l) :
    Fr l z (State.macRec s p b) := by
  unfold State.macRec
  refine Fr.ite ?_ ?_
  with_reducible apply State.eventRec_fr
  with_reducible assumption
  exact hl
  with_reducible assumption

theorem State.macEvent_fr {s : State} {p : Nat} {b : Nat} (hz : Fr l z s) (hl : [.regs, .evt] ⊆ l) :
    Fr l z (State.macEvent s p b) := by
  unfold State.macEvent
  refine Fr.ite ?_ ?_
  with_reducible apply State.setEvent_fr
  with_reducible assumption
  exact hl
  with_reducible apply State.wr_fr
  with_reducible assumption
  exact List.Subset.trans (by decide) hl

theorem State.setLink_fr {s : State} {p : Nat} {up : Bool} (hz : Fr l z s) (hl : [.regs, .log, .evt, .ports] ⊆ l) :
    Fr l z (State.setLink s p up) := by
  unfold State.setLink
  refine Fr.ite ?_ ?_
  with_reducible assumption
  with_reducible apply State.macRec_fr
  with_reducible apply State.macEvent_fr
  with_reducible apply State.setPort_fr
  with_reducible assumption
  exact List.Subset.trans (by decide) hl
  exact List.Subset.trans (by decide) hl
  exact List.Subset.trans (by decide) hl

theorem State.pathLost_fr {s : State} {p : Nat} (hz : Fr l z s) (hl : [.bcn] ⊆ l) :
    Fr l z (State.pathLost s p) := by
  unfold State.pathLost
  extract_lets +onlyGivenNames q0
  unfold q0
  refine Fr.ite ?_ ?_
  with_reducible apply State.setRef_fr
  refine Fr.ite ?_ ?_
  with_reducible apply State.setRef_fr
  with_reducible assumption
  exact hl
  with_reducible assumption
  exact hl
  refine Fr.ite ?_ ?_
  with_reducible apply State.setRef_fr
  with_reducible assumption
  exact hl
  with_reducible assumption

theorem State.flushPort_fr {s : State} {p : Nat} (hz : Fr l z s) (hl : [.out, .regs, .evt, .ports, .rdg, .hst] ⊆ l) :
    Fr l z (State.flushPort s p) := by
  unfold State.flushPort
  extract_lets +onlyGivenNames q0
  extract_lets +onlyGivenNames q1; clear_value q1
  extract_lets +onlyGivenNames q3; clear_value q3
  extract_lets +onlyGivenNames q5; clear_value q5
  extract_lets +onlyGivenNames q7; refine Fr.cut (a := q7) ?_ (fun _ => ?_)
  rotate_left; clear_value q7; rotate_right; unfold q7
  refine Fr.upd ?_ (c14 := .inl (hl (by decide)))
  with_reducible assumption
  extract_lets +onlyGivenNames q15; clear_value q15
  extract_lets +onlyGivenNames q17; refine Fr.cut (a := q17) ?_ (fun _ => ?_)
  rotate_left; clear_value q17; rotate_right; unfold q17
  with_reducible apply State.setPort_fr
  with_reducible assumption
  exact List.Subset.trans (by decide) hl
  extract_lets +onlyGivenNames q26; refine Fr.cut (a := q26) ?_ (fun _ => ?_)
  rotate_left; clear_value q26; rotate_right; unfold q26
  with_reducible apply State.wrapBy_fr
  with_reducible assumption
  exact List.Subset.trans (by decide) hl
  refine Fr.foldl ?_ ?_
  with_reducible assumption
  intro x37_0 x37_1 x37_2
  with_reducible apply State.copyGone_fr
  with_reducible apply State.pfcCheck_fr
  with_reducible assumption
  exact List.Subset.trans (by decide) hl
  exact List.Subset.trans (by decide) hl

theorem State.dropLink_fr {s : State} {p : Nat} (hz : Fr l z s) (hl : [.out, .regs, .log, .evt, .bcn, .ports,
      .rdg, .hst] ⊆ l) :
    Fr l z (State.dropLink s p) := by
  unfold State.dropLink
  extract_lets +onlyGivenNames q0; refine Fr.cut (a := q0) ?_ (fun _ => ?_)
  rotate_left; clear_value q0; rotate_right; unfold q0
  with_reducible apply State.setLink_fr
  with_reducible assumption
  exact List.Subset.trans (by decide) hl
  extract_lets +onlyGivenNames q9; clear_value q9
  extract_lets +onlyGivenNames q11; refine Fr.cut (a := q11) ?_ (fun _ => ?_)
  rotate_left; clear_value q11; rotate_right; unfold q11
  with_reducible apply State.setPort_fr
  with_reducible assumption
  exact List.Subset.trans (by decide) hl
  with_reducible apply State.pathLost_fr
  with_reducible apply State.flushPort_fr
  with_reducible assumption
  exact List.Subset.trans (by decide) hl
  exact List.Subset.trans (by decide) hl

theorem State.duplicate_fr {s : State} {p : Nat} {g : Nat} {f : Frame} {q : Nat} (hz : Fr l z s) (hl : [.regs,
      .log, .evt, .rdg] ⊆ l) :
    Fr l z (State.duplicate s p g f q) := by
  unfold State.duplicate
  split
  with_reducible apply State.epCount_fr
  with_reducible assumption
  exact List.Subset.trans (by decide) hl
  refine Fr.ite ?_ ?_
  with_reducible apply State.epCount_fr
  with_reducible assumption
  exact List.Subset.trans (by decide) hl
  refine Fr.ite ?_ ?_
  with_reducible apply State.eventRec_fr
  with_reducible apply State.setEvent_fr
  with_reducible apply State.wrapBy_fr
  with_reducible assumption
  exact List.Subset.trans (by decide) hl
  exact List.Subset.trans (by decide) hl
  exact List.Subset.trans (by decide) hl
  refine Fr.upd ?_ (c14 := .inl (hl (by decide)))
  with_reducible assumption

theorem State.elapse_fr {s : State} {dt : Nat} (hz : Fr l z s) (hl : [.time, .log] ⊆ l) :
    Fr l z (State.elapse s dt) := by
  unfold State.elapse
  extract_lets +onlyGivenNames q0; clear_value q0
  extract_lets +onlyGivenNames q2; clear_value q2
  extract_lets +onlyGivenNames q4; clear_value q4
  extract_lets +onlyGivenNames q6; clear_value q6
  extract_lets +onlyGivenNames q8; refine Fr.cut (a := q8) ?_ (fun _ => ?_)
  rotate_left; clear_value q8; rotate_right; unfold q8
  refine Fr.ite ?_ ?_
  with_reducible assumption
  refine Fr.upd ?_ (c9 := .inl (hl (by decide)))
  with_reducible assumption
  refine Fr.ite ?_ ?_
  refine Fr.upd ?_ (c6 := .inl (hl (by decide)))
  with_reducible assumption
  refine Fr.upd ?_ (c6 := .inl (hl (by decide)))
  with_reducible assumption

theorem State.enterRecovery_fr {s : State} {p : Nat} (hz : Fr l z s) (hl : [.regs, .log, .evt, .bcn] ⊆ l) :
    Fr l z (State.enterRecovery s p) := by
  unfold State.enterRecovery
  refine Fr.ite ?_ ?_
  extract_lets +onlyGivenNames q1; clear_value q1
  extract_lets +onlyGivenNames q3; refine Fr.cut (a := q3) ?_ (fun _ => ?_)
  rotate_left; clear_value q3; rotate_right; unfold q3
  with_reducible apply State.setAsym_fr
  with_reducible assumption
  exact List.Subset.trans (by decide) hl
  extract_lets +onlyGivenNames q12
  extract_lets +onlyGivenNames q13; clear_value q13
  refine Fr.ite ?_ ?_
  extract_lets +onlyGivenNames q16; refine Fr.cut (a := q16) ?_ (fun _ => ?_)
  rotate_left; clear_value q16; rotate_right; unfold q16
  refine Fr.foldl ?_ ?_
  with_reducible assumption
  intro x24_0 x24_1 x24_2
  with_reducible apply State.setAsym_fr
  with_reducible assumption
  exact List.Subset.trans (by decide) hl
  with_reducible apply State.logPut_fr
  with_reducible assumption
  exact List.Subset.trans (by decide) hl
  with_reducible assumption
  with_reducible assumption

theorem State.recoverPort_fr {s : State} {p : Nat} (hz : Fr l z s) (hl : [.regs, .log, .evt, .bcn, .ports] ⊆ l) :
    Fr l z (State.recoverPort s p) := by
  unfold State.recoverPort
  with_reducible apply State.enterRecovery_fr
  with_reducible apply State.setPort_fr
  with_reducible assumption
  exact List.Subset.trans (by decide) hl
  exact List.Subset.trans (by decide) hl

theorem State.endHold_fr {s : State} {p : Nat} (hz : Fr l z s) (hl : [.regs, .log, .evt, .bcn, .ports] ⊆ l) :
    Fr l z (State.endHold s p) := by
  unfold State.endHold
  refine Fr.ite ?_ ?_
  extract_lets +onlyGivenNames q1; clear_value q1
  extract_lets +onlyGivenNames q3; refine Fr.cut (a := q3) ?_ (fun _ => ?_)
  rotate_left; clear_value q3; rotate_right; unfold q3
  with_reducible apply State.setPort_fr
  with_reducible assumption
  exact List.Subset.trans (by decide) hl
  extract_lets +onlyGivenNames q12; refine Fr.cut (a := q12) ?_ (fun _ => ?_)
  rotate_left; clear_value q12; rotate_right; unfold q12
  with_reducible apply State.eventRec_fr
  with_reducible apply State.setEvent_fr
  with_reducible assumption
  exact List.Subset.trans (by decide) hl
  exact List.Subset.trans (by decide) hl
  refine Fr.ite ?_ ?_
  with_reducible apply State.recoverPort_fr
  with_reducible apply State.setLink_fr
  with_reducible assumption
  exact List.Subset.trans (by decide) hl
  exact hl
  with_reducible apply State.setPort_fr
  with_reducible assumption
  exact List.Subset.trans (by decide) hl
  with_reducible assumption

theorem State.toHoldoff_fr {s : State} {p : Nat} (hz : Fr l z s) (hl : [.gal] ⊆ l) :
    Fr l z (State.toHoldoff s p) := by
  unfold State.toHoldoff
  extract_lets +onlyGivenNames q0; clear_value q0
  with_reducible apply State.setProg_fr
  with_reducible assumption
  exact hl

theorem State.envTest_fr {s : State} {p : Nat} {i : Nat} {seen : List GSeen} (hz : Fr l z s) (hl : [.out, .regs,
      .log, .evt, .hst, .gal] ⊆ l) :
    Fr l z (State.envTest s p i seen) := by
  unfold State.envTest
  extract_lets +onlyGivenNames q0; clear_value q0
  extract_lets +onlyGivenNames q2; clear_value q2
  extract_lets +onlyGivenNames q4; clear_value q4
  refine Fr.ite ?_ ?_
  with_reducible assumption
  extract_lets +onlyGivenNames q8; clear_value q8
  extract_lets +onlyGivenNames q10; clear_value q10
  split
  extract_lets +onlyGivenNames q13; refine Fr.cut (a := q13) ?_ (fun _ => ?_)
  rotate_left; clear_value q13; rotate_right; unfold q13
  with_reducible apply State.setProg_fr
  with_reducible assumption
  exact List.Subset.trans (by decide) hl
  split
  with_reducible assumption
  extract_lets +onlyGivenNames q24; clear_value q24
  extract_lets +onlyGivenNames q26; clear_value q26
  extract_lets +onlyGivenNames q28; clear_value q28
  extract_lets +onlyGivenNames q30; refine Fr.cut (a := q30) ?_ (fun _ => ?_)
  rotate_left; clear_value q30; rotate_right; unfold q30
  with_reducible apply State.setProg_fr
  with_reducible assumption
  exact List.Subset.trans (by decide) hl
  extract_lets +onlyGivenNames q39; refine Fr.cut (a := q39) ?_ (fun _ => ?_)
  rotate_left; clear_value q39; rotate_right; unfold q39
  with_reducible apply State.galEvent_fr
  with_reducible assumption
  exact List.Subset.trans (by decide) hl
  extract_lets +onlyGivenNames q48; clear_value q48
  refine Fr.ite ?_ ?_
  with_reducible assumption
  extract_lets +onlyGivenNames q52; refine Fr.cut (a := q52) ?_ (fun _ => ?_)
  rotate_left; clear_value q52; rotate_right; unfold q52
  with_reducible apply State.closeRec_fr
  with_reducible assumption
  exact hl
  refine Fr.ite ?_ ?_
  with_reducible apply State.setProg_fr
  with_reducible assumption
  exact List.Subset.trans (by decide) hl
  with_reducible apply State.toHoldoff_fr
  with_reducible assumption
  exact List.Subset.trans (by decide) hl

theorem State.evEnableWrite_fr {s : State} {r : EvReg} {v : Word} (hz : Fr l z s) (hl : [.regs, .evt] ⊆ l) :
    Fr l z (State.evEnableWrite s r v) := by
  unfold State.evEnableWrite
  extract_lets +onlyGivenNames q0; clear_value q0
  extract_lets +onlyGivenNames q2; refine Fr.cut (a := q2) ?_ (fun _ => ?_)
  rotate_left; clear_value q2; rotate_right; unfold q2
  with_reducible apply State.wr_fr
  with_reducible assumption
  exact List.Subset.trans (by decide) hl
  refine Fr.foldl ?_ ?_
  with_reducible assumption
  intro x13_0 x13_1 x13_2
  refine Fr.ite ?_ ?_
  with_reducible apply State.deliver_fr
  with_reducible assumption
  exact hl
  with_reducible assumption

theorem State.evStatusWrite_fr {s : State} {r : EvReg} {v : Word} {hw : Word} (hz : Fr l z s) (hl : [.regs,
      .evt] ⊆ l) :
    Fr l z (State.evStatusWrite s r v hw) := by
  unfold State.evStatusWrite
  extract_lets +onlyGivenNames q0; clear_value q0
  extract_lets +onlyGivenNames q2; refine Fr.cut (a := q2) ?_ (fun _ => ?_)
  rotate_left; clear_value q2; rotate_right; unfold q2
  with_reducible apply State.wr_fr
  with_reducible assumption
  exact List.Subset.trans (by decide) hl
  refine Fr.foldl ?_ ?_
  with_reducible assumption
  intro x13_0 x13_1 x13_2
  refine Fr.ite ?_ ?_
  with_reducible apply State.deliver_fr
  with_reducible assumption
  exact hl
  with_reducible assumption

theorem State.evtWrite_fr {s : State} {a : Nat} {v : Word} {hw : Word} (hz : Fr l z s) (hl : [.regs] ⊆ l) :
    Fr l z (State.evtWrite s a v hw) := by
  unfold State.evtWrite
  refine Fr.ite ?_ ?_
  with_reducible apply State.wr_fr
  with_reducible assumption
  exact hl
  refine Fr.ite ?_ ?_
  with_reducible apply State.wr_fr
  with_reducible assumption
  exact hl
  with_reducible assumption

theorem State.exEnd_fr {s : State} {done : Bool} (hz : Fr l z s) (hl : [.out, .regs, .cmds, .once, .time, .glb,
      .log, .evt, .img, .bcn, .cdv, .pln, .svi, .cnd, .hst, .kpr, .gal, .pub, .pair] ⊆ l) :
    Fr l z (State.exEnd s done) := by
  unfold State.exEnd
  extract_lets +onlyGivenNames q0; clear_value q0
  extract_lets +onlyGivenNames q2; refine Fr.cut (a := q2) ?_ (fun _ => ?_)
  rotate_left; clear_value q2; rotate_right; unfold q2
  with_reducible apply State.exStop_fr
  with_reducible assumption
  exact List.Subset.trans (by decide) hl
  refine Fr.ite ?_ ?_
  with_reducible apply State.yieldTo_fr
  with_reducible assumption
  exact hl
  with_reducible assumption

theorem State.exCommit_fr {s : State} {frame : Nat} (hz : Fr l z s) (hl : [.out, .regs, .cmds, .once, .time, .glb,
      .log, .evt, .img, .bcn, .cdv, .pln, .svi, .cnd, .hst, .kpr, .gal, .pub, .pair] ⊆ l) :
    Fr l z (State.exCommit s frame) := by
  unfold State.exCommit
  extract_lets +onlyGivenNames q0; clear_value q0
  refine Fr.ite ?_ ?_
  extract_lets +onlyGivenNames q3; clear_value q3
  extract_lets +onlyGivenNames q5; refine Fr.cut (a := q5) ?_ (fun _ => ?_)
  rotate_left; clear_value q5; rotate_right; unfold q5
  refine Fr.ite ?_ ?_
  refine Fr.ite ?_ ?_
  with_reducible apply State.cause_fr
  with_reducible assumption
  intro x15_0 x15_1
  with_reducible apply State.setMode_fr
  with_reducible assumption
  exact hl
  exact List.Subset.trans (by decide) hl
  with_reducible assumption
  refine Fr.ite ?_ ?_
  with_reducible apply State.cause_fr
  with_reducible assumption
  intro x24_0 x24_1
  with_reducible apply State.setMode_fr
  with_reducible assumption
  exact hl
  exact List.Subset.trans (by decide) hl
  with_reducible assumption
  with_reducible apply State.exEnd_fr
  with_reducible assumption
  exact hl
  with_reducible assumption

theorem State.exDeadline_fr {s : State} (hz : Fr l z s) (hl : [.out, .regs, .cmds, .once, .time, .glb, .log, .evt,
      .img, .bcn, .cdv, .pln, .svi, .cnd, .hst, .kpr, .gal, .pub, .pair] ⊆ l) :
    Fr l z (State.exDeadline s) := by
  unfold State.exDeadline
  extract_lets +onlyGivenNames q0; clear_value q0
  refine Fr.ite ?_ ?_
  with_reducible apply State.exEnd_fr
  with_reducible assumption
  exact hl
  refine Fr.ite ?_ ?_
  with_reducible apply State.exEnd_fr
  with_reducible apply State.ctrlAbort_fr
  with_reducible assumption
  exact List.Subset.trans (by decide) hl
  exact hl
  refine Fr.ite ?_ ?_
  with_reducible apply State.exEnd_fr
  with_reducible apply State.ctrlAbort_fr
  with_reducible assumption
  exact List.Subset.trans (by decide) hl
  exact hl
  with_reducible assumption

theorem State.exRespond_fr {s : State} {kind : Nat} {target : Nat} (hz : Fr l z s) (hl : [.out, .pair] ⊆ l) :
    Fr l z (State.exRespond s kind target) := by
  unfold State.exRespond
  refine Fr.ite ?_ ?_
  with_reducible apply State.ctrlSend_fr
  refine Fr.upd ?_ (c27 := .inl (hl (by decide)))
  with_reducible assumption
  exact hl
  with_reducible apply State.ctrlAbort_fr
  refine Fr.upd ?_ (c27 := .inl (hl (by decide)))
  with_reducible assumption
  exact hl

theorem State.exReq_fr {s : State} {kind : Nat} {target : Nat} (hz : Fr l z s) (hl : [.out, .regs, .cmds, .glb,
      .log, .evt, .pair] ⊆ l) :
    Fr l z (State.exReq s kind target) := by
  unfold State.exReq
  split
  with_reducible apply State.exRespond_fr
  with_reducible assumption
  exact List.Subset.trans (by decide) hl
  refine Fr.ite ?_ ?_
  with_reducible assumption
  extract_lets +onlyGivenNames q6; refine Fr.cut (a := q6) ?_ (fun _ => ?_)
  rotate_left; clear_value q6; rotate_right; unfold q6
  with_reducible apply State.exRespond_fr
  with_reducible assumption
  exact List.Subset.trans (by decide) hl
  refine Fr.ite ?_ ?_
  with_reducible apply State.exClose_fr
  with_reducible assumption
  exact List.Subset.trans (by decide) hl
  with_reducible assumption
  with_reducible assumption

theorem State.exRequest_fr {s : State} {kind : Nat} {leave : Bool} {now : Bool} (hz : Fr l z s) (hl : [.out,
      .pair] ⊆ l) :
    Fr l z (State.exRequest s kind leave now).1 := by
  unfold State.exRequest
  split
  dsimp -zeta only
  with_reducible assumption
  extract_lets +onlyGivenNames q3; clear_value q3
  extract_lets +onlyGivenNames q5; refine Fr.cut (a := q5) ?_ (fun _ => ?_)
  rotate_left; clear_value q5; rotate_right; unfold q5
  refine Fr.upd ?_ (c27 := .inl (hl (by decide)))
  with_reducible assumption
  split
  extract_lets +onlyGivenNames q14; clear_value q14
  extract_lets +onlyGivenNames q16; clear_value q16
  extract_lets +onlyGivenNames q18; refine Fr.cut (a := q18) ?_ (fun _ => ?_)
  rotate_left; clear_value q18; rotate_right; unfold q18
  refine Fr.upd ?_ (c27 := .inl (hl (by decide)))
  with_reducible assumption
  dsimp -zeta only
  with_reducible apply State.ctrlSend_fr
  with_reducible assumption
  exact hl
  dsimp -zeta only
  with_reducible assumption

theorem State.setInput_fr {s : State} {i : Nat} {b : BinIn} (hz : Fr l z s) (hl : [.bin] ⊆ l) :
    Fr l z (State.setInput s i b) := by
  unfold State.setInput
  refine Fr.upd ?_ (c16 := .inl (hl (by decide)))
  with_reducible assumption

theorem State.fieldLoad_fr {s : State} (hz : Fr l z s) (hl : [.out, .cdv, .bin, .pln] ⊆ l) :
    Fr l z (State.fieldLoad s) := by
  unfold State.fieldLoad
  extract_lets +onlyGivenNames q0; refine Fr.cut (a := q0) ?_ (fun _ => ?_)
  rotate_left; clear_value q0; rotate_right; unfold q0
  with_reducible apply forN_fr
  with_reducible assumption
  intro x8_0 x8_1 x8_2
  with_reducible apply State.setCoil_fr
  with_reducible assumption
  exact List.Subset.trans (by decide) hl
  with_reducible apply forN_fr
  with_reducible assumption
  intro x14_0 x14_1 x14_2
  extract_lets +onlyGivenNames q15; clear_value q15
  refine Fr.ite ?_ ?_
  extract_lets +onlyGivenNames q18; refine Fr.cut (a := q18) ?_ (fun _ => ?_)
  rotate_left; clear_value q18; rotate_right; unfold q18
  with_reducible apply State.setInput_fr
  with_reducible assumption
  exact List.Subset.trans (by decide) hl
  refine Fr.ite ?_ ?_
  with_reducible assumption
  with_reducible apply State.setSig_fr
  with_reducible assumption
  exact List.Subset.trans (by decide) hl
  with_reducible assumption

theorem State.setArea_fr {s : State} {n : Nat} {b : List Byte} (hz : Fr l z s) (hl : [.img] ⊆ l) :
    Fr l z (State.setArea s n b) := by
  unfold State.setArea
  refine Fr.upd ?_ (c11 := .inl (hl (by decide)))
  with_reducible assumption

theorem State.setDirty_fr {s : State} {n : Nat} {v : Bool} (hz : Fr l z s) (hl : [.img] ⊆ l) :
    Fr l z (State.setDirty s n v) := by
  unfold State.setDirty
  extract_lets +onlyGivenNames q0; clear_value q0
  extract_lets +onlyGivenNames q2; clear_value q2
  refine Fr.upd ?_ (c11 := .inl (hl (by decide)))
  with_reducible assumption

theorem State.fillArea_fr {s : State} {n : Nat} (hz : Fr l z s) (hl : [.regs, .log, .evt, .img] ⊆ l) :
    Fr l z (State.fillArea s n) := by
  unfold State.fillArea
  refine Fr.ite ?_ ?_
  with_reducible assumption
  extract_lets +onlyGivenNames q2; clear_value q2
  refine Fr.ite ?_ ?_
  with_reducible apply State.setArea_fr
  with_reducible assumption
  exact List.Subset.trans (by decide) hl
  extract_lets +onlyGivenNames q8; refine Fr.cut (a := q8) ?_ (fun _ => ?_)
  rotate_left; clear_value q8; rotate_right; unfold q8
  with_reducible apply State.setDirty_fr
  with_reducible apply State.setArea_fr
  with_reducible assumption
  exact List.Subset.trans (by decide) hl
  exact List.Subset.trans (by decide) hl
  extract_lets +onlyGivenNames q19; refine Fr.cut (a := q19) ?_ (fun _ => ?_)
  rotate_left; clear_value q19; rotate_right; unfold q19
  with_reducible apply State.logPut_fr
  with_reducible assumption
  exact List.Subset.trans (by decide) hl
  extract_lets +onlyGivenNames q28; refine Fr.cut (a := q28) ?_ (fun _ => ?_)
  rotate_left; clear_value q28; rotate_right; unfold q28
  with_reducible apply State.setEvent_fr
  with_reducible assumption
  exact List.Subset.trans (by decide) hl
  extract_lets +onlyGivenNames q37; refine Fr.cut (a := q37) ?_ (fun _ => ?_)
  rotate_left; clear_value q37; rotate_right; unfold q37
  refine Fr.ite ?_ ?_
  with_reducible apply State.setEvent_fr
  with_reducible assumption
  exact List.Subset.trans (by decide) hl
  with_reducible assumption
  refine Fr.upd ?_ (c11 := .inl (hl (by decide)))
  with_reducible assumption

theorem State.fillSettings_fr {s : State} (hz : Fr l z s) (hl : [.regs, .log, .evt, .img] ⊆ l) :
    Fr l z (State.fillSettings s) := by
  unfold State.fillSettings
  extract_lets +onlyGivenNames q0
  extract_lets +onlyGivenNames q1; refine Fr.cut (a := q1) ?_ (fun _ => ?_)
  rotate_left; clear_value q1; rotate_right; unfold q1
  refine Fr.upd ?_ (c11 := .inl (hl (by decide)))
  with_reducible assumption
  extract_lets +onlyGivenNames q9; refine Fr.cut (a := q9) ?_ (fun _ => ?_)
  rotate_left; clear_value q9; rotate_right; unfold q9
  with_reducible apply forN_fr
  with_reducible assumption
  intro x17_0 x17_1 x17_2
  with_reducible apply State.fillArea_fr
  with_reducible assumption
  exact hl
  refine Fr.upd ?_ (c11 := .inl (hl (by decide)))
  with_reducible assumption

theorem State.fillSums_fr {s : State} {q : QFrame} {f : Frame} (hz : Fr l z s) (hl : [.regs, .evt] ⊆ l) :
    Fr l z (State.fillSums s q f).1 := by
  unfold State.fillSums
  extract_lets +onlyGivenNames q0; clear_value q0
  split
  dsimp -zeta only
  with_reducible apply State.stat_fr
  with_reducible assumption
  exact hl
  dsimp -zeta only
  with_reducible assumption

theorem State.setFunc_fr {s : State} {v : Nat} {x : Func} (hz : Fr l z s) (hl : [.hst] ⊆ l) :
    Fr l z (State.setFunc s v x) := by
  unfold State.setFunc
  refine Fr.upd ?_ (c23 := .inl (hl (by decide)))
  with_reducible assumption

theorem State.flrStart_fr {s : State} {v : Nat} (hz : Fr l z s) (hl : [.out, .regs, .cmds, .once, .evt, .ports,
      .prf, .pln, .cnd, .hst, .kpr, .gal] ⊆ l) :
    Fr l z (State.flrStart s v) := by
  unfold State.flrStart
  extract_lets +onlyGivenNames q0; clear_value q0
  extract_lets +onlyGivenNames q2; clear_value q2
  extract_lets +onlyGivenNames q4; refine Fr.cut (a := q4) ?_ (fun _ => ?_)
  rotate_left; clear_value q4; rotate_right; unfold q4
  with_reducible apply State.clearQueues_fr
  with_reducible assumption
  exact List.Subset.trans (by decide) hl
  extract_lets +onlyGivenNames q13; clear_value q13
  extract_lets +onlyGivenNames q15; refine Fr.cut (a := q15) ?_ (fun _ => ?_)
  rotate_left; clear_value q15; rotate_right; unfold q15
  refine Fr.upd ?_ (c25 := .inl (hl (by decide)))
  with_reducible assumption
  extract_lets +onlyGivenNames q23; refine Fr.cut (a := q23) ?_ (fun _ => ?_)
  rotate_left; clear_value q23; rotate_right; unfold q23
  with_reducible apply forN_fr
  with_reducible assumption
  intro x31_0 x31_1 x31_2
  extract_lets +onlyGivenNames q32; clear_value q32
  with_reducible apply State.setMbox_fr
  with_reducible assumption
  exact List.Subset.trans (by decide) hl
  extract_lets +onlyGivenNames q37; refine Fr.cut (a := q37) ?_ (fun _ => ?_)
  rotate_left; clear_value q37; rotate_right; unfold q37
  refine Fr.upd ?_ (c3 := .inl (hl (by decide)))
  with_reducible assumption
  extract_lets +onlyGivenNames q45; refine Fr.cut (a := q45) ?_ (fun _ => ?_)
  rotate_left; clear_value q45; rotate_right; unfold q45
  with_reducible apply State.setCmd_fr
  with_reducible assumption
  exact List.Subset.trans (by decide) hl
  extract_lets +onlyGivenNames q54; refine Fr.cut (a := q54) ?_ (fun _ => ?_)
  rotate_left; clear_value q54; rotate_right; unfold q54
  with_reducible apply forN_fr
  with_reducible assumption
  intro x62_0 x62_1 x62_2
  with_reducible apply State.guestDrop_fr
  with_reducible assumption
  exact List.Subset.trans (by decide) hl
  extract_lets +onlyGivenNames q66; refine Fr.cut (a := q66) ?_ (fun _ => ?_)
  rotate_left; clear_value q66; rotate_right; unfold q66
  with_reducible apply forN_fr
  with_reducible assumption
  intro x74_0 x74_1 x74_2
  split
  with_reducible assumption
  with_reducible apply State.fillStream_fr
  with_reducible apply State.streamRestart_fr
  with_reducible assumption
  exact List.Subset.trans (by decide) hl
  exact List.Subset.trans (by decide) hl
  with_reducible apply State.setFunc_fr
  with_reducible assumption
  exact List.Subset.trans (by decide) hl

theorem State.flrByCmd_fr {s : State} {v : Nat} (hz : Fr l z s) (hl : [.out, .regs, .cmds, .once, .log, .evt,
      .ports, .prf, .pln, .cnd, .hst, .kpr, .gal] ⊆ l) :
    Fr l z (State.flrByCmd s v) := by
  unfold State.flrByCmd
  extract_lets +onlyGivenNames q0; refine Fr.cut (a := q0) ?_ (fun _ => ?_)
  rotate_left; clear_value q0; rotate_right; unfold q0
  with_reducible apply State.flrStart_fr
  with_reducible assumption
  exact List.Subset.trans (by decide) hl
  with_reducible apply State.hstRec_fr
  refine Fr.upd ?_ (c23 := .inl (hl (by decide)))
  with_reducible assumption
  exact List.Subset.trans (by decide) hl

theorem State.fnLoad_fr {s : State} {b : List Byte} {i : Nat} (hz : Fr l z s) (hl : [.kpr] ⊆ l) :
    Fr l z (State.fnLoad s b i) := by
  unfold State.fnLoad
  extract_lets +onlyGivenNames q0; clear_value q0
  extract_lets +onlyGivenNames q2; clear_value q2
  extract_lets +onlyGivenNames q4; clear_value q4
  extract_lets +onlyGivenNames q6; clear_value q6
  with_reducible apply State.setFn_fr
  with_reducible assumption
  exact hl

theorem State.fnReload_fr {s : State} {f : Nat} {old : List Byte} (hz : Fr l z s) (hl : [.kpr] ⊆ l) :
    Fr l z (State.fnReload s f old) := by
  unfold State.fnReload
  extract_lets +onlyGivenNames q0; clear_value q0
  extract_lets +onlyGivenNames q2; clear_value q2
  refine Fr.ite ?_ ?_
  with_reducible apply State.setFn_fr
  with_reducible assumption
  exact hl
  extract_lets +onlyGivenNames q8; clear_value q8
  extract_lets +onlyGivenNames q10; clear_value q10
  extract_lets +onlyGivenNames q12; clear_value q12
  extract_lets +onlyGivenNames q14; clear_value q14
  with_reducible apply State.setFn_fr
  with_reducible assumption
  exact hl

theorem State.heard_fr {s : State} (hz : Fr l z s) (hl : [.pair] ⊆ l) :
    Fr l z (State.heard s) := by
  unfold State.heard
  refine Fr.upd ?_ (c27 := .inl (hl (by decide)))
  with_reducible assumption

theorem State.setPath_fr {s : State} {p : Nat} {x : PathSt} (hz : Fr l z s) (hl : [.pair] ⊆ l) :
    Fr l z (State.setPath s p x) := by
  unfold State.setPath
  refine Fr.upd ?_ (c27 := .inl (hl (by decide)))
  with_reducible assumption

theorem State.setUp_fr {s : State} {p : Nat} {up : Bool} (hz : Fr l z s) (hl : [.regs, .cmds, .log, .evt,
      .pair] ⊆ l) :
    Fr l z (State.setUp s p up) := by
  unfold State.setUp
  refine Fr.ite ?_ ?_
  with_reducible assumption
  extract_lets +onlyGivenNames q2; clear_value q2
  extract_lets +onlyGivenNames q4; refine Fr.cut (a := q4) ?_ (fun _ => ?_)
  rotate_left; clear_value q4; rotate_right; unfold q4
  with_reducible apply State.raiseRec_fr
  with_reducible apply State.setPath_fr
  with_reducible assumption
  exact List.Subset.trans (by decide) hl
  exact List.Subset.trans (by decide) hl
  refine Fr.ite ?_ ?_
  with_reducible assumption
  with_reducible apply State.alignFail_fr
  with_reducible assumption
  exact hl

theorem State.pathFog_fr {s : State} {p : Nat} {f : Fog} (hz : Fr l z s) (hl : [.regs, .cmds, .log, .evt,
      .pair] ⊆ l) :
    Fr l z (State.pathFog s p f) := by
  unfold State.pathFog
  extract_lets +onlyGivenNames q0; clear_value q0
  extract_lets +onlyGivenNames q2; clear_value q2
  refine Fr.ite ?_ ?_
  extract_lets +onlyGivenNames q5; clear_value q5
  extract_lets +onlyGivenNames q7; refine Fr.cut (a := q7) ?_ (fun _ => ?_)
  rotate_left; clear_value q7; rotate_right; unfold q7
  with_reducible apply State.setPath_fr
  with_reducible assumption
  exact List.Subset.trans (by decide) hl
  refine Fr.ite ?_ ?_
  with_reducible apply State.setUp_fr
  with_reducible assumption
  exact hl
  with_reducible assumption
  with_reducible apply State.setPath_fr
  with_reducible assumption
  exact List.Subset.trans (by decide) hl

theorem State.fogRx_fr {s : State} {p : Nat} {frame : Nat} {b : List Byte} (hz : Fr l z s) (hl : [.regs, .cmds,
      .log, .evt, .cnd, .pair] ⊆ l) :
    Fr l z (State.fogRx s p frame b) := by
  unfold State.fogRx
  extract_lets +onlyGivenNames q0; clear_value q0
  extract_lets +onlyGivenNames q2; refine Fr.cut (a := q2) ?_ (fun _ => ?_)
  rotate_left; clear_value q2; rotate_right; unfold q2
  with_reducible apply State.heard_fr
  with_reducible assumption
  exact List.Subset.trans (by decide) hl
  extract_lets +onlyGivenNames q11; clear_value q11
  extract_lets +onlyGivenNames q13; refine Fr.cut (a := q13) ?_ (fun _ => ?_)
  rotate_left; clear_value q13; rotate_right; unfold q13
  with_reducible apply State.adoptCount_fr
  refine Fr.upd ?_ (c27 := .inl (hl (by decide)))
  with_reducible assumption
  exact List.Subset.trans (by decide) hl
  with_reducible apply State.alignBySync_fr
  with_reducible apply State.pathFog_fr
  with_reducible assumption
  exact List.Subset.trans (by decide) hl
  exact List.Subset.trans (by decide) hl

theorem State.tcFrame_fr {s : State} {q : QFrame} (hz : Fr l z s) (hl : [.regs, .evt, .rdg] ⊆ l) :
    Fr l z (State.tcFrame s q).1 := by
  unfold State.tcFrame
  split
  dsimp -zeta only
  with_reducible assumption
  extract_lets +onlyGivenNames q3; clear_value q3
  extract_lets +onlyGivenNames q5; clear_value q5
  split
  split
  split
  dsimp -zeta only
  refine Fr.upd ?_ (c14 := .inl (hl (by decide)))
  with_reducible assumption
  dsimp -zeta only
  with_reducible assumption
  dsimp -zeta only
  with_reducible apply State.stat_fr
  with_reducible assumption
  exact List.Subset.trans (by decide) hl
  split
  extract_lets +onlyGivenNames q20
  split
  dsimp -zeta only
  with_reducible apply State.wrapBy_fr
  with_reducible assumption
  exact List.Subset.trans (by decide) hl
  dsimp -zeta only
  refine Fr.upd ?_ (c14 := .inl (hl (by decide)))
  with_reducible assumption
  dsimp -zeta only
  with_reducible assumption

theorem State.statFrame_fr {s : State} {p : Nat} {f : Frame} {n : Nat} {band : Nat} {typ : Nat} {vlan : Nat}
    (hz : Fr l z s) (hl : [.regs, .evt] ⊆ l) :
    Fr l z (State.statFrame s p f n band typ vlan) := by
  unfold State.statFrame
  extract_lets +onlyGivenNames q0; refine Fr.cut (a := q0) ?_ (fun _ => ?_)
  rotate_left; clear_value q0; rotate_right; unfold q0
  with_reducible apply State.stat_fr
  with_reducible assumption
  exact hl
  extract_lets +onlyGivenNames q9; refine Fr.cut (a := q9) ?_ (fun _ => ?_)
  rotate_left; clear_value q9; rotate_right; unfold q9
  with_reducible apply State.stat_fr
  with_reducible assumption
  exact hl
  extract_lets +onlyGivenNames q18; refine Fr.cut (a := q18) ?_ (fun _ => ?_)
  rotate_left; clear_value q18; rotate_right; unfold q18
  with_reducible apply State.stat_fr
  with_reducible assumption
  exact hl
  extract_lets +onlyGivenNames q27; refine Fr.cut (a := q27) ?_ (fun _ => ?_)
  rotate_left; clear_value q27; rotate_right; unfold q27
  with_reducible apply State.stat_fr
  with_reducible assumption
  exact hl
  extract_lets +onlyGivenNames q36; refine Fr.cut (a := q36) ?_ (fun _ => ?_)
  rotate_left; clear_value q36; rotate_right; unfold q36
  refine Fr.ite ?_ ?_
  with_reducible apply State.stat_fr
  with_reducible assumption
  exact hl
  with_reducible assumption
  extract_lets +onlyGivenNames q47; refine Fr.cut (a := q47) ?_ (fun _ => ?_)
  rotate_left; clear_value q47; rotate_right; unfold q47
  refine Fr.ite ?_ ?_
  with_reducible apply State.stat_fr
  with_reducible assumption
  exact hl
  with_reducible assumption
  extract_lets +onlyGivenNames q58; refine Fr.cut (a := q58) ?_ (fun _ => ?_)
  rotate_left; clear_value q58; rotate_right; unfold q58
  refine Fr.ite ?_ ?_
  with_reducible apply State.stat_fr
  with_reducible assumption
  exact hl
  with_reducible assumption
  refine Fr.ite ?_ ?_
  with_reducible assumption
  with_reducible apply State.stat_fr
  with_reducible assumption
  exact hl

theorem State.txStamp_fr {s : State} {q : QFrame} (hz : Fr l z s) (hl : [.out, .regs, .evt, .ports, .hst] ⊆ l) :
    Fr l z (State.txStamp s q) := by
  unfold State.txStamp
  split
  with_reducible assumption
  refine Fr.ite ?_ ?_
  refine Fr.ite ?_ ?_
  extract_lets +onlyGivenNames q4; clear_value q4
  extract_lets +onlyGivenNames q6; refine Fr.cut (a := q6) ?_ (fun _ => ?_)
  rotate_left; clear_value q6; rotate_right; unfold q6
  with_reducible apply State.setPort_fr
  with_reducible assumption
  exact List.Subset.trans (by decide) hl
  with_reducible apply State.copySent_fr
  with_reducible assumption
  exact List.Subset.trans (by decide) hl
  with_reducible apply State.copySent_fr
  with_reducible apply State.macEvent_fr
  with_reducible apply State.stat_fr
  with_reducible assumption
  exact List.Subset.trans (by decide) hl
  exact List.Subset.trans (by decide) hl
  exact List.Subset.trans (by decide) hl
  with_reducible apply State.copySent_fr
  with_reducible assumption
  exact List.Subset.trans (by decide) hl

theorem State.sendOut_fr {s : State} {q : QFrame} (hz : Fr l z s) (hl : [.out, .regs, .once, .evt, .ports, .rdg,
      .prf, .hst] ⊆ l) :
    Fr l z (State.sendOut s q) := by
  unfold State.sendOut
  split
  split
  extract_lets +onlyGivenNames q2; clear_value q2
  extract_lets +onlyGivenNames q4; refine Fr.cut (a := q4) ?_ (fun _ => ?_)
  rotate_left; clear_value q4; rotate_right; unfold q4
  with_reducible apply State.statFrame_fr
  with_reducible refine Fr.pair ‹_ = (_, _)› ?_
  with_reducible apply State.fillSums_fr
  with_reducible refine Fr.pair ‹_ = (_, _)› ?_
  with_reducible apply State.tcFrame_fr
  with_reducible assumption
  exact List.Subset.trans (by decide) hl
  exact List.Subset.trans (by decide) hl
  exact List.Subset.trans (by decide) hl
  extract_lets +onlyGivenNames q19; clear_value q19
  extract_lets +onlyGivenNames q21; refine Fr.cut (a := q21) ?_ (fun _ => ?_)
  rotate_left; clear_value q21; rotate_right; unfold q21
  with_reducible apply State.setPort_fr
  with_reducible assumption
  exact List.Subset.trans (by decide) hl
  extract_lets +onlyGivenNames q30; clear_value q30
  extract_lets +onlyGivenNames q32; clear_value q32
  extract_lets +onlyGivenNames q34; refine Fr.cut (a := q34) ?_ (fun _ => ?_)
  rotate_left; clear_value q34; rotate_right; unfold q34
  with_reducible apply State.prfRidge_fr
  with_reducible assumption
  exact List.Subset.trans (by decide) hl
  extract_lets +onlyGivenNames q43; refine Fr.cut (a := q43) ?_ (fun _ => ?_)
  rotate_left; clear_value q43; rotate_right; unfold q43
  refine Fr.ite ?_ ?_
  with_reducible apply State.prfRidge_fr
  with_reducible assumption
  exact List.Subset.trans (by decide) hl
  with_reducible assumption
  with_reducible apply State.txStamp_fr
  with_reducible apply State.emit_fr
  with_reducible assumption
  exact List.Subset.trans (by decide) hl
  exact List.Subset.trans (by decide) hl

theorem State.forward_fr {s : State} {q : QFrame} (hz : Fr l z s) (hl : [.out, .regs, .once, .log, .evt, .ports,
      .rdg, .prf, .hst] ⊆ l) :
    Fr l z (State.forward s q) := by
  unfold State.forward
  refine Fr.ite ?_ ?_
  extract_lets +onlyGivenNames q1; refine Fr.cut (a := q1) ?_ (fun _ => ?_)
  rotate_left; clear_value q1; rotate_right; unfold q1
  with_reducible apply State.spray_fr
  with_reducible assumption
  exact List.Subset.trans (by decide) hl
  extract_lets +onlyGivenNames q10; refine Fr.cut (a := q10) ?_ (fun _ => ?_)
  rotate_left; clear_value q10; rotate_right; unfold q10
  with_reducible apply State.prfRidge_fr
  with_reducible apply State.epCount_fr
  with_reducible assumption
  exact List.Subset.trans (by decide) hl
  exact List.Subset.trans (by decide) hl
  with_reducible apply State.sendOut_fr
  with_reducible assumption
  exact List.Subset.trans (by decide) hl
  with_reducible apply State.enqueue_fr
  with_reducible assumption
  exact List.Subset.trans (by decide) hl

theorem State.lanternAge_fr {s : State} (hz : Fr l z s) (hl : [.pair] ⊆ l) :
    Fr l z (State.lanternAge s) := by
  unfold State.lanternAge
  refine Fr.upd ?_ (c27 := .inl (hl (by decide)))
  with_reducible assumption

theorem State.lanternSend_fr {s : State} {ttl : Nat} (hz : Fr l z s) (hl : [.out, .regs, .once, .log, .evt,
      .ports, .rdg, .prf, .pub] ⊆ l) :
    Fr l z (State.lanternSend s ttl) := by
  unfold State.lanternSend
  split
  refine Fr.upd ?_ (c26 := .inl (hl (by decide)))
  with_reducible assumption
  refine Fr.ite ?_ ?_
  extract_lets +onlyGivenNames q4; clear_value q4
  extract_lets +onlyGivenNames q6; clear_value q6
  extract_lets +onlyGivenNames q8; clear_value q8
  extract_lets +onlyGivenNames q10; clear_value q10
  extract_lets +onlyGivenNames q12; refine Fr.cut (a := q12) ?_ (fun _ => ?_)
  rotate_left; clear_value q12; rotate_right; unfold q12
  with_reducible apply State.setPub_fr
  with_reducible assumption
  exact List.Subset.trans (by decide) hl
  extract_lets +onlyGivenNames q21; clear_value q21
  extract_lets +onlyGivenNames q23; refine Fr.cut (a := q23) ?_ (fun _ => ?_)
  rotate_left; clear_value q23; rotate_right; unfold q23
  refine Fr.upd ?_ (c26 := .inl (hl (by decide)))
  with_reducible assumption
  refine Fr.ite ?_ ?_
  with_reducible apply State.keyErr_fr
  with_reducible assumption
  exact List.Subset.trans (by decide) hl
  extract_lets +onlyGivenNames q35; clear_value q35
  extract_lets +onlyGivenNames q37; clear_value q37
  with_reducible apply State.pubOut_fr
  with_reducible assumption
  exact List.Subset.trans (by decide) hl
  refine Fr.upd ?_ (c26 := .inl (hl (by decide)))
  with_reducible assumption

theorem State.kprTick_fr {s : State} {n : Nat} (hz : Fr l z s) (hl : [.out, .regs, .once, .log, .evt, .prf,
      .kpr] ⊆ l) :
    Fr l z (State.kprTick s n) := by
  unfold State.kprTick
  extract_lets +onlyGivenNames q0; clear_value q0
  extract_lets +onlyGivenNames q2; clear_value q2
  extract_lets +onlyGivenNames q4; refine Fr.cut (a := q4) ?_ (fun _ => ?_)
  rotate_left; clear_value q4; rotate_right; unfold q4
  refine Fr.upd ?_ (c24 := .inl (hl (by decide)))
  with_reducible assumption
  extract_lets +onlyGivenNames q12; refine Fr.cut (a := q12) ?_ (fun _ => ?_)
  rotate_left; clear_value q12; rotate_right; unfold q12
  with_reducible apply forN_fr
  with_reducible assumption
  intro x20_0 x20_1 x20_2
  extract_lets +onlyGivenNames q21; clear_value q21
  refine Fr.ite ?_ ?_
  with_reducible assumption
  with_reducible apply State.nextRun_fr
  with_reducible apply State.setKeeper_fr
  with_reducible assumption
  exact List.Subset.trans (by decide) hl
  exact List.Subset.trans (by decide) hl
  refine Fr.foldl ?_ ?_
  with_reducible assumption
  intro x32_0 x32_1 x32_2
  with_reducible apply State.raiseRec_fr
  with_reducible assumption
  exact List.Subset.trans (by decide) hl

theorem State.subCount_fr {s : State} {i : Nat} {c : Nat} (hz : Fr l z s) (hl : [.regs] ⊆ l) :
    Fr l z (State.subCount s i c) := by
  unfold State.subCount
  with_reducible apply State.count_fr
  with_reducible assumption
  exact hl

theorem State.subTimeout_fr {s : State} {c : StreamCfg} (hz : Fr l z s) (hl : [.regs, .log, .evt, .pln, .pub] ⊆ l) :
    Fr l z (State.subTimeout s c) := by
  unfold State.subTimeout
  extract_lets +onlyGivenNames q0; clear_value q0
  with_reducible apply State.raiseRec_fr
  with_reducible apply State.subCount_fr
  with_reducible apply State.subWrite_fr
  with_reducible apply State.setSub_fr
  with_reducible assumption
  exact List.Subset.trans (by decide) hl
  exact List.Subset.trans (by decide) hl
  exact List.Subset.trans (by decide) hl
  exact List.Subset.trans (by decide) hl

theorem State.subTick_fr {s : State} (hz : Fr l z s) (hl : [.regs, .log, .evt, .pln, .pub] ⊆ l) :
    Fr l z (State.subTick s) := by
  unfold State.subTick
  refine Fr.foldl ?_ ?_
  with_reducible assumption
  intro x2_0 x2_1 x2_2
  extract_lets +onlyGivenNames q3; clear_value q3
  refine Fr.ite ?_ ?_
  with_reducible apply State.subTimeout_fr
  with_reducible assumption
  exact hl
  with_reducible assumption

theorem State.headAdvance_fr {s : State} {tick : Nat} {settleLeft : Nat} {c : Nat} (hz : Fr l z s) (hl : [.pln] ⊆ l) :
    Fr l z (State.headAdvance s tick settleLeft c) := by
  unfold State.headAdvance
  extract_lets +onlyGivenNames q0; clear_value q0
  split
  split
  with_reducible apply State.setChan_fr
  with_reducible assumption
  exact hl

theorem State.headsAdvance_fr {s : State} {n : Nat} (hz : Fr l z s) (hl : [.pln] ⊆ l) :
    Fr l z (State.headsAdvance s n) := by
  unfold State.headsAdvance
  refine Fr.foldl ?_ ?_
  with_reducible assumption
  intro x2_0 x2_1 x2_2
  with_reducible apply forN_fr
  with_reducible assumption
  intro x5_0 x5_1 x5_2
  extract_lets +onlyGivenNames q6; clear_value q6
  with_reducible apply State.headAdvance_fr
  with_reducible assumption
  exact hl

theorem State.storeSnap_fr {s : State} (hz : Fr l z s) (hl : [.img] ⊆ l) :
    Fr l z (State.storeSnap s) := by
  unfold State.storeSnap
  split
  with_reducible assumption
  refine Fr.ite ?_ ?_
  with_reducible assumption
  extract_lets +onlyGivenNames q4; clear_value q4
  extract_lets +onlyGivenNames q6; clear_value q6
  refine Fr.upd ?_ (c11 := .inl (hl (by decide)))
  with_reducible assumption

theorem State.plnFreeze_fr {s : State} {frame : Nat} {tick : Nat} (hz : Fr l z s) (hl : [.pln] ⊆ l) :
    Fr l z (State.plnFreeze s frame tick) := by
  unfold State.plnFreeze
  extract_lets +onlyGivenNames q0; clear_value q0
  extract_lets +onlyGivenNames q2; refine Fr.cut (a := q2) ?_ (fun _ => ?_)
  rotate_left; clear_value q2; rotate_right; unfold q2
  with_reducible apply State.plnPut_fr
  with_reducible assumption
  exact hl
  extract_lets +onlyGivenNames q11; refine Fr.cut (a := q11) ?_ (fun _ => ?_)
  rotate_left; clear_value q11; rotate_right; unfold q11
  with_reducible apply State.plnPut_fr
  with_reducible assumption
  exact hl
  extract_lets +onlyGivenNames q20; refine Fr.cut (a := q20) ?_ (fun _ => ?_)
  rotate_left; clear_value q20; rotate_right; unfold q20
  with_reducible apply State.plnPut_fr
  with_reducible assumption
  exact hl
  refine Fr.upd ?_ (c19 := .inl (hl (by decide)))
  with_reducible assumption

theorem State.tickPlane_fr {s : State} {n : Nat} (hz : Fr l z s) (hl : [.regs, .log, .evt, .img, .pln, .pub] ⊆ l) :
    Fr l z (State.tickPlane s n) := by
  unfold State.tickPlane
  extract_lets +onlyGivenNames q0; refine Fr.cut (a := q0) ?_ (fun _ => ?_)
  rotate_left; clear_value q0; rotate_right; unfold q0
  with_reducible apply State.subTick_fr
  with_reducible apply State.headsAdvance_fr
  with_reducible assumption
  exact List.Subset.trans (by decide) hl
  exact List.Subset.trans (by decide) hl
  with_reducible apply State.storeSnap_fr
  with_reducible apply State.plnFreeze_fr
  with_reducible assumption
  exact List.Subset.trans (by decide) hl
  exact List.Subset.trans (by decide) hl

theorem State.shedMark_fr {s : State} {p : Nat} {r : Nat} {d : Red} (hz : Fr l z s) (hl : [.gal] ⊆ l) :
    Fr l z (State.shedMark s p r d) := by
  unfold State.shedMark
  extract_lets +onlyGivenNames q0; clear_value q0
  extract_lets +onlyGivenNames q2; clear_value q2
  extract_lets +onlyGivenNames q4; clear_value q4
  extract_lets +onlyGivenNames q6; clear_value q6
  with_reducible apply State.setProg_fr
  with_reducible assumption
  exact hl

theorem State.minMaxIn_fr {s : State} {p : Nat} {k : GKey} {c : Nat} {n : Nat} (hz : Fr l z s) (hl : [.regs, .log,
      .evt, .gal] ⊆ l) :
    Fr l z (State.minMaxIn s p k c n) := by
  unfold State.minMaxIn
  extract_lets +onlyGivenNames q0; clear_value q0
  extract_lets +onlyGivenNames q2; clear_value q2
  extract_lets +onlyGivenNames q4; clear_value q4
  refine Fr.ite ?_ ?_
  extract_lets +onlyGivenNames q7; refine Fr.cut (a := q7) ?_ (fun _ => ?_)
  rotate_left; clear_value q7; rotate_right; unfold q7
  with_reducible apply State.setProg_fr
  with_reducible assumption
  exact List.Subset.trans (by decide) hl
  refine Fr.ite ?_ ?_
  extract_lets +onlyGivenNames q17; clear_value q17
  extract_lets +onlyGivenNames q19; clear_value q19
  extract_lets +onlyGivenNames q21; clear_value q21
  extract_lets +onlyGivenNames q23; clear_value q23
  with_reducible apply State.putEntry_fr
  with_reducible assumption
  exact hl
  with_reducible assumption
  with_reducible apply State.setProg_fr
  with_reducible assumption
  exact List.Subset.trans (by decide) hl

theorem State.redWrite_fr {s : State} {p : Nat} {r : Nat} {d : Red} {v : GSeen} (hz : Fr l z s) (hl : [.regs,
      .log, .evt, .gal] ⊆ l) :
    Fr l z (State.redWrite s p r d v) := by
  unfold State.redWrite
  extract_lets +onlyGivenNames q0; clear_value q0
  extract_lets +onlyGivenNames q2; clear_value q2
  extract_lets +onlyGivenNames q4; clear_value q4
  split
  refine Fr.foldl ?_ ?_
  with_reducible assumption
  intro x9_0 x9_1 x9_2
  with_reducible apply State.putEntry_fr
  with_reducible assumption
  exact hl
  refine Fr.foldl ?_ ?_
  with_reducible assumption
  intro x15_0 x15_1 x15_2
  with_reducible apply State.putEntry_fr
  with_reducible assumption
  exact hl
  refine Fr.foldl ?_ ?_
  with_reducible assumption
  intro x21_0 x21_1 x21_2
  with_reducible apply State.minMaxIn_fr
  with_reducible assumption
  exact hl
  refine Fr.foldl ?_ ?_
  with_reducible assumption
  intro x27_0 x27_1 x27_2
  split
  with_reducible apply State.putEntry_fr
  with_reducible assumption
  exact hl
  refine Fr.foldl ?_ ?_
  with_reducible assumption
  intro x34_0 x34_1 x34_2
  with_reducible apply State.putEntry_fr
  with_reducible assumption
  exact hl

theorem State.instWrite_fr {s : State} {p : Nat} {seen : List GSeen} (hz : Fr l z s) (hl : [.regs, .log, .evt,
      .gal] ⊆ l) :
    Fr l z (State.instWrite s p seen) := by
  unfold State.instWrite
  extract_lets +onlyGivenNames q0; clear_value q0
  extract_lets +onlyGivenNames q2; refine Fr.cut (a := q2) ?_ (fun _ => ?_)
  rotate_left; clear_value q2; rotate_right; unfold q2
  refine Fr.foldl ?_ ?_
  with_reducible assumption
  intro x10_0 x10_1 x10_2
  split
  with_reducible assumption
  refine Fr.foldl ?_ ?_
  with_reducible assumption
  intro x15_0 x15_1 x15_2
  extract_lets +onlyGivenNames q16; clear_value q16
  with_reducible apply State.putEntry_fr
  with_reducible assumption
  exact hl
  refine Fr.foldl ?_ ?_
  with_reducible assumption
  intro x23_0 x23_1 x23_2
  split
  with_reducible assumption
  refine Fr.foldl ?_ ?_
  with_reducible assumption
  intro x28_0 x28_1 x28_2
  extract_lets +onlyGivenNames q29; clear_value q29
  with_reducible apply State.putEntry_fr
  with_reducible assumption
  exact hl

theorem State.progWrite_fr {s : State} {p : Nat} {frame : Nat} {tick : Nat} {seen : List GSeen} (hz : Fr l z s)
    (hl : [.regs, .log, .evt, .gal] ⊆ l) :
    Fr l z (State.progWrite s p frame tick seen) := by
  unfold State.progWrite
  extract_lets +onlyGivenNames q0; clear_value q0
  extract_lets +onlyGivenNames q2; refine Fr.cut (a := q2) ?_ (fun _ => ?_)
  rotate_left; clear_value q2; rotate_right; unfold q2
  refine Fr.foldl ?_ ?_
  with_reducible assumption
  intro x10_0 x10_1 x10_2
  refine Fr.ite ?_ ?_
  with_reducible apply State.shedMark_fr
  with_reducible assumption
  exact List.Subset.trans (by decide) hl
  refine Fr.foldl ?_ ?_
  with_reducible assumption
  intro x17_0 x17_1 x17_2
  with_reducible apply State.redWrite_fr
  with_reducible assumption
  exact hl
  with_reducible apply State.instWrite_fr
  with_reducible apply State.binWrite_fr
  with_reducible assumption
  exact hl
  exact hl

theorem State.triggerDone_fr {s : State} {p : Nat} (hz : Fr l z s) (hl : [.regs, .cmds, .log, .evt, .gal] ⊆ l) :
    Fr l z (State.triggerDone s p) := by
  unfold State.triggerDone
  refine Fr.ite ?_ ?_
  with_reducible apply State.cmdDone_fr
  with_reducible apply State.setProg_fr
  with_reducible assumption
  exact List.Subset.trans (by decide) hl
  exact List.Subset.trans (by decide) hl
  with_reducible assumption

theorem State.progConditions_fr {s : State} {p : Nat} {met : List (Nat × Nat)} (hz : Fr l z s) (hl : [.regs,
      .cmds, .log, .evt, .gal] ⊆ l) :
    Fr l z (State.progConditions s p met) := by
  unfold State.progConditions
  extract_lets +onlyGivenNames q0; clear_value q0
  extract_lets +onlyGivenNames q2; clear_value q2
  split
  with_reducible assumption
  extract_lets +onlyGivenNames q6; clear_value q6
  extract_lets +onlyGivenNames q8; clear_value q8
  extract_lets +onlyGivenNames q10; clear_value q10
  extract_lets +onlyGivenNames q12; clear_value q12
  split
  with_reducible apply State.triggerDone_fr
  with_reducible apply State.captureStart_fr
  with_reducible assumption
  exact List.Subset.trans (by decide) hl
  exact hl
  with_reducible apply State.triggerDone_fr
  with_reducible apply State.captureStart_fr
  with_reducible assumption
  exact List.Subset.trans (by decide) hl
  exact hl
  extract_lets +onlyGivenNames q25; clear_value q25
  extract_lets +onlyGivenNames q27; clear_value q27
  extract_lets +onlyGivenNames q29; clear_value q29
  with_reducible apply State.setProg_fr
  with_reducible assumption
  exact List.Subset.trans (by decide) hl
  extract_lets +onlyGivenNames q34; refine Fr.cut (a := q34) ?_ (fun _ => ?_)
  rotate_left; clear_value q34; rotate_right; unfold q34
  with_reducible apply State.countBy_fr
  with_reducible assumption
  exact List.Subset.trans (by decide) hl
  extract_lets +onlyGivenNames q43; clear_value q43
  refine Fr.ite ?_ ?_
  with_reducible apply State.setProg_fr
  with_reducible assumption
  exact List.Subset.trans (by decide) hl
  with_reducible apply State.setProg_fr
  with_reducible assumption
  exact List.Subset.trans (by decide) hl
  with_reducible apply State.countBy_fr
  with_reducible assumption
  exact List.Subset.trans (by decide) hl
  with_reducible assumption

theorem State.progTick_fr {s : State} {p : Nat} {frame : Nat} {tick : Nat} {seen : List GSeen} (hz : Fr l z s)
    (hl : [.out, .regs, .cmds, .log, .evt, .hst, .gal] ⊆ l) :
    Fr l z (State.progTick s p frame tick seen) := by
  unfold State.progTick
  extract_lets +onlyGivenNames q0; clear_value q0
  extract_lets +onlyGivenNames q2; refine Fr.cut (a := q2) ?_ (fun _ => ?_)
  rotate_left; clear_value q2; rotate_right; unfold q2
  refine Fr.ite ?_ ?_
  with_reducible apply State.arming_fr
  with_reducible assumption
  exact List.Subset.trans (by decide) hl
  with_reducible assumption
  refine Fr.ite ?_ ?_
  with_reducible assumption
  extract_lets +onlyGivenNames q15; refine Fr.cut (a := q15) ?_ (fun _ => ?_)
  rotate_left; clear_value q15; rotate_right; unfold q15
  refine Fr.ite ?_ ?_
  with_reducible assumption
  with_reducible apply State.progWrite_fr
  with_reducible assumption
  exact List.Subset.trans (by decide) hl
  split
  extract_lets +onlyGivenNames q27; clear_value q27
  extract_lets +onlyGivenNames q29; refine Fr.cut (a := q29) ?_ (fun _ => ?_)
  rotate_left; clear_value q29; rotate_right; unfold q29
  with_reducible apply State.setProg_fr
  with_reducible assumption
  exact List.Subset.trans (by decide) hl
  extract_lets +onlyGivenNames q38; refine Fr.cut (a := q38) ?_ (fun _ => ?_)
  rotate_left; clear_value q38; rotate_right; unfold q38
  with_reducible apply State.progConditions_fr
  with_reducible assumption
  exact List.Subset.trans (by decide) hl
  with_reducible apply forN_fr
  with_reducible assumption
  intro x49_0 x49_1 x49_2
  with_reducible apply State.envTest_fr
  with_reducible assumption
  exact List.Subset.trans (by decide) hl

theorem State.galTick_fr {s : State} {frame : Nat} {tick : Nat} {seen : List GSeen} (hz : Fr l z s) (hl : [.out,
      .regs, .cmds, .log, .evt, .hst, .gal] ⊆ l) :
    Fr l z (State.galTick s frame tick seen) := by
  unfold State.galTick
  extract_lets +onlyGivenNames q0; refine Fr.cut (a := q0) ?_ (fun _ => ?_)
  rotate_left; clear_value q0; rotate_right; unfold q0
  refine Fr.foldl ?_ ?_
  with_reducible assumption
  intro x8_0 x8_1 x8_2
  with_reducible apply State.progTick_fr
  with_reducible assumption
  exact hl
  refine Fr.upd ?_ (c25 := .inl (hl (by decide)))
  with_reducible assumption

theorem State.frameBegin_fr {s : State} {n : Nat} (hz : Fr l z s) (hl : [.out, .regs, .cmds, .once, .log, .evt,
      .img, .ports, .rdg, .prf, .pln, .hst, .kpr, .gal, .pub, .pair] ⊆ l) :
    Fr l z (State.frameBegin s n) := by
  unfold State.frameBegin
  extract_lets +onlyGivenNames q0; clear_value q0
  extract_lets +onlyGivenNames q2; refine Fr.cut (a := q2) ?_ (fun _ => ?_)
  rotate_left; clear_value q2; rotate_right; unfold q2
  with_reducible apply State.lanternAge_fr
  with_reducible apply State.lanternSend_fr
  with_reducible apply State.kprTick_fr
  with_reducible apply State.tickPlane_fr
  with_reducible assumption
  exact List.Subset.trans (by decide) hl
  exact List.Subset.trans (by decide) hl
  exact List.Subset.trans (by decide) hl
  exact List.Subset.trans (by decide) hl
  with_reducible apply State.galTick_fr
  with_reducible assumption
  exact List.Subset.trans (by decide) hl

theorem State.functionReload_fr {s : State} {f : Nat} {old : List Byte} {new : List Byte} (hz : Fr l z s)
    (hl : [.img, .kpr] ⊆ l) :
    Fr l z (State.functionReload s f old new) := by
  unfold State.functionReload
  extract_lets +onlyGivenNames q0; clear_value q0
  extract_lets +onlyGivenNames q2; refine Fr.cut (a := q2) ?_ (fun _ => ?_)
  rotate_left; clear_value q2; rotate_right; unfold q2
  refine Fr.ite ?_ ?_
  with_reducible assumption
  with_reducible apply State.setDirty_fr
  with_reducible apply State.setArea_fr
  with_reducible assumption
  exact List.Subset.trans (by decide) hl
  exact List.Subset.trans (by decide) hl
  with_reducible apply State.fnReload_fr
  with_reducible assumption
  exact List.Subset.trans (by decide) hl

theorem State.kprSettings_fr {s : State} (hz : Fr l z s) (hl : [.kpr] ⊆ l) :
    Fr l z (State.kprSettings s) := by
  unfold State.kprSettings
  refine Fr.foldl ?_ ?_
  with_reducible assumption
  intro x2_0 x2_1 x2_2
  extract_lets +onlyGivenNames q3; clear_value q3
  extract_lets +onlyGivenNames q5; clear_value q5
  refine Fr.ite ?_ ?_
  with_reducible assumption
  with_reducible apply State.setFn_fr
  with_reducible assumption
  exact hl

theorem State.functionsReload_fr {s : State} {run : Image} {cand : Image} (hz : Fr l z s) (hl : [.img, .kpr] ⊆ l) :
    Fr l z (State.functionsReload s run cand) := by
  unfold State.functionsReload
  extract_lets +onlyGivenNames q0; refine Fr.cut (a := q0) ?_ (fun _ => ?_)
  rotate_left; clear_value q0; rotate_right; unfold q0
  refine Fr.foldl ?_ ?_
  with_reducible assumption
  intro x8_0 x8_1 x8_2
  refine Fr.ite ?_ ?_
  with_reducible apply State.functionReload_fr
  with_reducible assumption
  exact hl
  with_reducible assumption
  with_reducible apply State.kprSettings_fr
  with_reducible assumption
  exact List.Subset.trans (by decide) hl

theorem State.galAbort_fr {s : State} {p : Nat} {cause : Nat} (hz : Fr l z s) (hl : [.out, .regs, .log, .evt,
      .hst, .gal] ⊆ l) :
    Fr l z (State.galAbort s p cause) := by
  unfold State.galAbort
  with_reducible apply State.closeRec_fr
  with_reducible assumption
  exact hl

theorem State.galLoad_fr {s : State} (hz : Fr l z s) (hl : [.gal] ⊆ l) :
    Fr l z (State.galLoad s) := by
  unfold State.galLoad
  extract_lets +onlyGivenNames q0; clear_value q0
  extract_lets +onlyGivenNames q2; refine Fr.cut (a := q2) ?_ (fun _ => ?_)
  rotate_left; clear_value q2; rotate_right; unfold q2
  refine Fr.upd ?_ (c25 := .inl (hl (by decide)))
  with_reducible assumption
  refine Fr.foldl ?_ ?_
  with_reducible assumption
  intro x12_0 x12_1 x12_2
  refine Fr.ite ?_ ?_
  with_reducible apply State.arming_fr
  with_reducible assumption
  exact hl
  with_reducible assumption

theorem State.galReload_fr {s : State} {p : Nat} (hz : Fr l z s) (hl : [.gal] ⊆ l) :
    Fr l z (State.galReload s p) := by
  unfold State.galReload
  refine Fr.ite ?_ ?_
  with_reducible apply State.setProg_fr
  with_reducible assumption
  exact hl
  with_reducible apply State.arming_fr
  with_reducible assumption
  exact hl

theorem State.galReset_fr {s : State} {p : Nat} (hz : Fr l z s) (hl : [.out, .regs, .cmds, .log, .evt, .hst,
      .gal] ⊆ l) :
    Fr l z (State.galReset s p) := by
  unfold State.galReset
  extract_lets +onlyGivenNames q0; refine Fr.cut (a := q0) ?_ (fun _ => ?_)
  rotate_left; clear_value q0; rotate_right; unfold q0
  with_reducible apply State.galAbort_fr
  with_reducible assumption
  exact List.Subset.trans (by decide) hl
  extract_lets +onlyGivenNames q9; clear_value q9
  extract_lets +onlyGivenNames q11; refine Fr.cut (a := q11) ?_ (fun _ => ?_)
  rotate_left; clear_value q11; rotate_right; unfold q11
  refine Fr.ite ?_ ?_
  with_reducible apply State.cmdEndRefused_fr
  with_reducible apply State.setProg_fr
  with_reducible assumption
  exact List.Subset.trans (by decide) hl
  exact List.Subset.trans (by decide) hl
  with_reducible assumption
  refine Fr.ite ?_ ?_
  with_reducible assumption
  with_reducible apply State.setProg_fr
  with_reducible assumption
  exact List.Subset.trans (by decide) hl

theorem State.glbCommit_fr {s : State} (hz : Fr l z s) (hl : [.out, .regs, .cmds, .once, .time, .glb, .log, .evt,
      .img, .bcn, .cdv, .pln, .svi, .cnd, .hst, .kpr, .gal, .pub, .pair] ⊆ l) :
    Fr l z (State.glbCommit s) := by
  unfold State.glbCommit
  extract_lets +onlyGivenNames q0; clear_value q0
  extract_lets +onlyGivenNames q2; clear_value q2
  extract_lets +onlyGivenNames q4; refine Fr.cut (a := q4) ?_ (fun _ => ?_)
  rotate_left; clear_value q4; rotate_right; unfold q4
  refine Fr.upd ?_ (c7 := .inl (hl (by decide)))
  with_reducible assumption
  split
  with_reducible apply State.setMode_fr
  with_reducible assumption
  exact hl
  with_reducible apply State.cmdDone_fr
  with_reducible apply State.setMode_fr
  with_reducible assumption
  exact hl
  exact List.Subset.trans (by decide) hl
  with_reducible apply State.cmdDone_fr
  with_reducible apply State.setMode_fr
  with_reducible assumption
  exact hl
  exact List.Subset.trans (by decide) hl
  with_reducible apply State.cmdDone_fr
  with_reducible apply State.setMode_fr
  with_reducible assumption
  exact hl
  exact List.Subset.trans (by decide) hl
  with_reducible assumption
  with_reducible assumption

theorem State.glbRun_fr {s : State} {code : Nat} {rsv : Nat} {arg : Nat} {argOk : Bool} {stateOk : Bool}
    {act : State → State} (hz : Fr l z s) (hact : ∀ x0, Fr l z x0 → Fr l z (act x0)) (hl : [.regs, .cmds, .log,
      .evt] ⊆ l) :
    Fr l z (State.glbRun s code rsv arg argOk stateOk act) := by
  unfold State.glbRun
  split
  with_reducible apply State.runCmd_fr
  with_reducible assumption
  intro x3_0 x3_1
  with_reducible apply hact
  with_reducible assumption
  exact hl
  extract_lets +onlyGivenNames q7; refine Fr.cut (a := q7) ?_ (fun _ => ?_)
  rotate_left; clear_value q7; rotate_right; unfold q7
  refine Fr.ite ?_ ?_
  with_reducible apply State.logPut_fr
  with_reducible assumption
  exact List.Subset.trans (by decide) hl
  with_reducible assumption
  with_reducible apply State.runCmd_fr
  with_reducible assumption
  intro x20_0 x20_1
  with_reducible apply hact
  with_reducible assumption
  exact hl

theorem State.glbWait_fr {s : State} {w : GlbWait} (hz : Fr l z s) (hl : [.out, .regs, .cmds, .once, .time, .glb,
      .log, .evt, .img, .bcn, .cdv, .pln, .svi, .cnd, .hst, .kpr, .gal, .pub, .pair] ⊆ l) :
    Fr l z (State.glbWait s w) := by
  unfold State.glbWait
  extract_lets +onlyGivenNames q0; clear_value q0
  extract_lets +onlyGivenNames q2; refine Fr.cut (a := q2) ?_ (fun _ => ?_)
  rotate_left; clear_value q2; rotate_right; unfold q2
  refine Fr.upd ?_ (c7 := .inl (hl (by decide)))
  with_reducible assumption
  refine Fr.ite ?_ ?_
  with_reducible assumption
  with_reducible apply State.glbCommit_fr
  with_reducible assumption
  exact hl

theorem State.latTo_fr {s : State} {g : Nat} {v : Nat} {n : Nat} {fuel : Nat} (hz : Fr l z s) (hl : [.cnd] ⊆ l) :
    Fr l z (State.latTo s g v n fuel) := by
  induction fuel generalizing s with
  | zero => exact hz
  | succ fuel ih =>
    unfold State.latTo
    split
    · exact hz
    · refine Fr.ite hz ?_
      split
      · exact hz
      · exact ih (State.latPush_fr hz (List.Subset.trans (by decide) hl))

theorem State.gridSample_fr {s : State} {c : Nat} {cfg : StreamCfg} {i : Nat} {p : LatPt} (hz : Fr l z s)
    (hl : [.out, .regs, .once, .evt, .prf, .pln, .cnd] ⊆ l) :
    Fr l z (State.gridSample s c cfg i p) := by
  unfold State.gridSample
  extract_lets +onlyGivenNames q0; clear_value q0
  extract_lets +onlyGivenNames q2; clear_value q2
  split
  with_reducible assumption
  extract_lets +onlyGivenNames q6; clear_value q6
  extract_lets +onlyGivenNames q8; clear_value q8
  extract_lets +onlyGivenNames q10; clear_value q10
  split
  extract_lets +onlyGivenNames q13; clear_value q13
  extract_lets +onlyGivenNames q15; refine Fr.cut (a := q15) ?_ (fun _ => ?_)
  rotate_left; clear_value q15; rotate_right; unfold q15
  with_reducible apply State.setSlot_fr
  with_reducible assumption
  exact List.Subset.trans (by decide) hl
  extract_lets +onlyGivenNames q24; refine Fr.cut (a := q24) ?_ (fun _ => ?_)
  rotate_left; clear_value q24; rotate_right; unfold q24
  with_reducible apply State.plnPut_fr
  with_reducible assumption
  exact List.Subset.trans (by decide) hl
  with_reducible apply State.prfChain_fr
  with_reducible apply State.prfChain_fr
  with_reducible apply State.putGrid_fr
  with_reducible assumption
  exact List.Subset.trans (by decide) hl
  exact List.Subset.trans (by decide) hl
  exact List.Subset.trans (by decide) hl

theorem State.gridCompute_fr {s : State} {c : Nat} (hz : Fr l z s) (hl : [.out, .regs, .once, .evt, .prf, .pln,
      .cnd] ⊆ l) :
    Fr l z (State.gridCompute s c) := by
  unfold State.gridCompute
  split
  with_reducible assumption
  refine Fr.ite ?_ ?_
  extract_lets +onlyGivenNames q3; clear_value q3
  extract_lets +onlyGivenNames q5; clear_value q5
  extract_lets +onlyGivenNames q7; refine Fr.cut (a := q7) ?_ (fun _ => ?_)
  rotate_left; clear_value q7; rotate_right; unfold q7
  refine Fr.ite ?_ ?_
  with_reducible apply State.latTo_fr
  with_reducible assumption
  exact List.Subset.trans (by decide) hl
  with_reducible assumption
  split
  with_reducible assumption
  with_reducible apply State.gridSample_fr
  with_reducible assumption
  exact hl
  with_reducible assumption

theorem State.groupEvents_fr {s : State} {g : Nat} {old : Group} {new : Group} (hz : Fr l z s) (hl : [.regs, .log,
      .evt] ⊆ l) :
    Fr l z (State.groupEvents s g old new) := by
  unfold State.groupEvents
  extract_lets +onlyGivenNames q0; refine Fr.cut (a := q0) ?_ (fun _ => ?_)
  rotate_left; clear_value q0; rotate_right; unfold q0
  refine Fr.ite ?_ ?_
  with_reducible apply State.raiseRec_fr
  with_reducible assumption
  exact hl
  with_reducible assumption
  extract_lets +onlyGivenNames q11; refine Fr.cut (a := q11) ?_ (fun _ => ?_)
  rotate_left; clear_value q11; rotate_right; unfold q11
  refine Fr.ite ?_ ?_
  with_reducible apply State.raiseRec_fr
  with_reducible assumption
  exact hl
  with_reducible assumption
  refine Fr.ite ?_ ?_
  with_reducible apply State.raiseRec_fr
  with_reducible assumption
  exact hl
  with_reducible assumption

end Sys2Proof.Machine
end

