-- ==== Sys2Proof/Laws/Frame4.lean ====
section
/-!
SUPPORT. What each operation may change, and that it keeps what every operation keeps (part 4).
-/

set_option Elab.async false

namespace Sys2Proof.Machine

open Sys2Proof

variable {l : List Part} {z : State}

theorem State.guestsLost_fr {s : State} {k : Nat} (hz : Fr l z s) (hl : [.out, .regs, .log, .evt, .hst, .kpr] ⊆ l) :
    Fr l z (State.guestsLost s k) := by
  unfold State.guestsLost
  extract_lets +onlyGivenNames q0; clear_value q0
  refine Fr.foldl ?_ ?_
  with_reducible assumption
  intro x4_0 x4_1 x4_2
  with_reducible apply State.hstRec_fr
  with_reducible apply State.vfEvent_fr
  with_reducible apply State.setFn_fr
  with_reducible assumption
  exact List.Subset.trans (by decide) hl
  exact List.Subset.trans (by decide) hl
  exact List.Subset.trans (by decide) hl

theorem State.hstLoad_fr {s : State} (hz : Fr l z s) (hl : [.hst] ⊆ l) :
    Fr l z (State.hstLoad s) := by
  unfold State.hstLoad
  extract_lets +onlyGivenNames q0; clear_value q0
  refine Fr.ite ?_ ?_
  with_reducible assumption
  extract_lets +onlyGivenNames q4; refine Fr.cut (a := q4) ?_ (fun _ => ?_)
  rotate_left; clear_value q4; rotate_right; unfold q4
  with_reducible apply forN_fr
  with_reducible assumption
  intro x12_0 x12_1 x12_2
  extract_lets +onlyGivenNames q13; clear_value q13
  extract_lets +onlyGivenNames q15; clear_value q15
  extract_lets +onlyGivenNames q17; refine Fr.cut (a := q17) ?_ (fun _ => ?_)
  rotate_left; clear_value q17; rotate_right; unfold q17
  with_reducible apply State.setFunc_fr
  with_reducible assumption
  exact hl
  extract_lets +onlyGivenNames q26; refine Fr.cut (a := q26) ?_ (fun _ => ?_)
  rotate_left; clear_value q26; rotate_right; unfold q26
  with_reducible apply forN_fr
  with_reducible assumption
  intro x34_0 x34_1 x34_2
  with_reducible apply State.setQueue_fr
  with_reducible assumption
  exact hl
  with_reducible apply forN_fr
  with_reducible assumption
  intro x40_0 x40_1 x40_2
  extract_lets +onlyGivenNames q41; clear_value q41
  with_reducible apply State.setVec_fr
  with_reducible assumption
  exact hl
  extract_lets +onlyGivenNames q46; clear_value q46
  extract_lets +onlyGivenNames q48; refine Fr.cut (a := q48) ?_ (fun _ => ?_)
  rotate_left; clear_value q48; rotate_right; unfold q48
  with_reducible apply forN_fr
  with_reducible assumption
  intro x56_0 x56_1 x56_2
  extract_lets +onlyGivenNames q57; clear_value q57
  with_reducible apply State.setMbox_fr
  with_reducible assumption
  exact hl
  with_reducible apply forN_fr
  with_reducible assumption
  intro x64_0 x64_1 x64_2
  extract_lets +onlyGivenNames q65; clear_value q65
  extract_lets +onlyGivenNames q67; clear_value q67
  refine Fr.upd ?_ (c23 := .inl (hl (by decide)))
  with_reducible assumption

theorem State.inputsSecond_fr {s : State} (hz : Fr l z s) (hl : [.bin] ⊆ l) :
    Fr l z (State.inputsSecond s) := by
  unfold State.inputsSecond
  with_reducible apply forN_fr
  with_reducible assumption
  intro x2_0 x2_1 x2_2
  extract_lets +onlyGivenNames q3; clear_value q3
  with_reducible apply State.setInput_fr
  with_reducible assumption
  exact hl

theorem State.journalPut_fr {s : State} {r : List Byte} (hz : Fr l z s) (hl : [.lmp] ⊆ l) :
    Fr l z (State.journalPut s r) := by
  unfold State.journalPut
  extract_lets +onlyGivenNames q0; clear_value q0
  refine Fr.upd ?_ (c22 := .inl (hl (by decide)))
  with_reducible assumption

theorem State.setKey_fr {s : State} {i : Nat} {k : KeySlot} (hz : Fr l z s) (hl : [.lmp] ⊆ l) :
    Fr l z (State.setKey s i k) := by
  unfold State.setKey
  refine Fr.upd ?_ (c22 := .inl (hl (by decide)))
  with_reducible assumption

theorem State.journalResolve_fr {s : State} (hz : Fr l z s) (hl : [.regs, .log, .evt, .lmp] ⊆ l) :
    Fr l z (State.journalResolve s) := by
  unfold State.journalResolve
  refine Fr.foldl ?_ ?_
  with_reducible assumption
  intro x2_0 x2_1 x2_2
  extract_lets +onlyGivenNames q3; clear_value q3
  extract_lets +onlyGivenNames q5; clear_value q5
  extract_lets +onlyGivenNames q7; clear_value q7
  extract_lets +onlyGivenNames q9; clear_value q9
  extract_lets +onlyGivenNames q11
  extract_lets +onlyGivenNames q12; refine Fr.cut (a := q12) ?_ (fun _ => ?_)
  rotate_left; clear_value q12; rotate_right; unfold q12
  refine Fr.upd ?_ (c22 := .inl (hl (by decide)))
  with_reducible assumption
  refine Fr.ite ?_ ?_
  extract_lets +onlyGivenNames q21; clear_value q21
  extract_lets +onlyGivenNames q23; clear_value q23
  extract_lets +onlyGivenNames q25; refine Fr.cut (a := q25) ?_ (fun _ => ?_)
  rotate_left; clear_value q25; rotate_right; unfold q25
  refine Fr.ite ?_ ?_
  with_reducible apply State.setKey_fr
  with_reducible assumption
  exact List.Subset.trans (by decide) hl
  with_reducible apply State.setKey_fr
  with_reducible assumption
  exact List.Subset.trans (by decide) hl
  with_reducible apply State.logPut_fr
  with_reducible assumption
  exact List.Subset.trans (by decide) hl
  with_reducible assumption

theorem State.replaceFail_fr {s : State} {k : Nat} (hz : Fr l z s) (hl : [.regs, .log, .evt, .kpr] ⊆ l) :
    Fr l z (State.replaceFail s k) := by
  unfold State.replaceFail
  extract_lets +onlyGivenNames q0; refine Fr.cut (a := q0) ?_ (fun _ => ?_)
  rotate_left; clear_value q0; rotate_right; unfold q0
  refine Fr.foldl ?_ ?_
  with_reducible assumption
  intro x8_0 x8_1 x8_2
  refine Fr.ite ?_ ?_
  with_reducible assumption
  with_reducible apply State.fnFault_fr
  with_reducible assumption
  exact hl
  with_reducible apply State.raiseRec_fr
  with_reducible assumption
  exact List.Subset.trans (by decide) hl

theorem State.keeperFault_fr {s : State} {k : Nat} {cause : Nat} (hz : Fr l z s) (hl : [.out, .regs, .cmds, .log,
      .evt, .hst, .kpr] ⊆ l) :
    Fr l z (State.keeperFault s k cause) := by
  unfold State.keeperFault
  extract_lets +onlyGivenNames q0; clear_value q0
  refine Fr.ite ?_ ?_
  with_reducible assumption
  extract_lets +onlyGivenNames q4; refine Fr.cut (a := q4) ?_ (fun _ => ?_)
  rotate_left; clear_value q4; rotate_right; unfold q4
  with_reducible apply State.setKeeper_fr
  with_reducible assumption
  exact List.Subset.trans (by decide) hl
  extract_lets +onlyGivenNames q13; refine Fr.cut (a := q13) ?_ (fun _ => ?_)
  rotate_left; clear_value q13; rotate_right; unfold q13
  with_reducible apply State.logPut_fr
  with_reducible apply State.setEvent_fr
  with_reducible assumption
  exact List.Subset.trans (by decide) hl
  exact List.Subset.trans (by decide) hl
  extract_lets +onlyGivenNames q24; refine Fr.cut (a := q24) ?_ (fun _ => ?_)
  rotate_left; clear_value q24; rotate_right; unfold q24
  refine Fr.ite ?_ ?_
  with_reducible apply State.kprDrop_fr
  with_reducible assumption
  exact List.Subset.trans (by decide) hl
  with_reducible assumption
  extract_lets +onlyGivenNames q35; refine Fr.cut (a := q35) ?_ (fun _ => ?_)
  rotate_left; clear_value q35; rotate_right; unfold q35
  refine Fr.foldl ?_ ?_
  with_reducible assumption
  intro x43_0 x43_1 x43_2
  refine Fr.ite ?_ ?_
  with_reducible apply State.setFn_fr
  with_reducible assumption
  exact List.Subset.trans (by decide) hl
  with_reducible assumption
  extract_lets +onlyGivenNames q49; refine Fr.cut (a := q49) ?_ (fun _ => ?_)
  rotate_left; clear_value q49; rotate_right; unfold q49
  with_reducible apply State.guestsLost_fr
  with_reducible assumption
  exact List.Subset.trans (by decide) hl
  extract_lets +onlyGivenNames q58; clear_value q58
  extract_lets +onlyGivenNames q60; clear_value q60
  extract_lets +onlyGivenNames q62; clear_value q62
  extract_lets +onlyGivenNames q64; refine Fr.cut (a := q64) ?_ (fun _ => ?_)
  rotate_left; clear_value q64; rotate_right; unfold q64
  refine Fr.upd ?_ (c24 := .inl (hl (by decide)))
  with_reducible assumption
  refine Fr.ite ?_ ?_
  with_reducible assumption
  with_reducible apply State.replaceFail_fr
  with_reducible assumption
  exact List.Subset.trans (by decide) hl

theorem State.prfKeeperReset_fr {s : State} {k : Nat} (hz : Fr l z s) (hl : [.regs, .prf] ⊆ l) :
    Fr l z (State.prfKeeperReset s k) := by
  unfold State.prfKeeperReset
  with_reducible apply forN_fr
  with_reducible assumption
  intro x2_0 x2_1 x2_2
  with_reducible apply State.wr_fr
  with_reducible apply State.setPrf_fr
  with_reducible assumption
  exact List.Subset.trans (by decide) hl
  exact List.Subset.trans (by decide) hl

theorem State.keeperReset_fr {s : State} {k : Nat} (hz : Fr l z s) (hl : [.out, .regs, .log, .evt, .prf, .hst,
      .kpr] ⊆ l) :
    Fr l z (State.keeperReset s k) := by
  unfold State.keeperReset
  with_reducible apply State.prfKeeperReset_fr
  with_reducible apply State.guestsLost_fr
  with_reducible apply State.setKeeper_fr
  with_reducible assumption
  exact List.Subset.trans (by decide) hl
  exact List.Subset.trans (by decide) hl
  exact List.Subset.trans (by decide) hl

theorem State.keyCounter_fr {s : State} {j : LmpJob} (hz : Fr l z s) (hl : [.lmp] ⊆ l) :
    Fr l z (State.keyCounter s j) := by
  unfold State.keyCounter
  refine Fr.ite ?_ ?_
  with_reducible assumption
  extract_lets +onlyGivenNames q2; clear_value q2
  refine Fr.upd ?_ (c22 := .inl (hl (by decide)))
  with_reducible assumption

theorem State.lifeChange_fr {s : State} {life : Nat} (hz : Fr l z s) (hl : [.regs, .log, .evt, .lmp] ⊆ l) :
    Fr l z (State.lifeChange s life) := by
  unfold State.lifeChange
  with_reducible apply State.raiseRec_fr
  refine Fr.upd ?_ (c22 := .inl (hl (by decide)))
  with_reducible assumption
  exact List.Subset.trans (by decide) hl

theorem State.lifeUpdate_fr {s : State} {kind : Nat} (hz : Fr l z s) (hl : [.regs, .log, .evt, .lmp] ⊆ l) :
    Fr l z (State.lifeUpdate s kind) := by
  unfold State.lifeUpdate
  extract_lets +onlyGivenNames q0
  refine Fr.ite ?_ ?_
  with_reducible apply State.lifeChange_fr
  refine Fr.upd ?_ (c22 := .inl (hl (by decide)))
  with_reducible assumption
  exact hl
  with_reducible apply State.lifeChange_fr
  refine Fr.upd ?_ (c22 := .inl (hl (by decide)))
  with_reducible assumption
  exact hl

theorem State.keyCommit_fr {s : State} {j : LmpJob} (hz : Fr l z s) (hl : [.regs, .log, .evt, .lmp] ⊆ l) :
    Fr l z (State.keyCommit s j) := by
  unfold State.keyCommit
  extract_lets +onlyGivenNames q0; clear_value q0
  extract_lets +onlyGivenNames q2; clear_value q2
  extract_lets +onlyGivenNames q4; clear_value q4
  extract_lets +onlyGivenNames q6; refine Fr.cut (a := q6) ?_ (fun _ => ?_)
  rotate_left; clear_value q6; rotate_right; unfold q6
  with_reducible apply State.keyCounter_fr
  with_reducible apply State.journalPut_fr
  with_reducible assumption
  exact List.Subset.trans (by decide) hl
  exact List.Subset.trans (by decide) hl
  refine Fr.ite ?_ ?_
  with_reducible apply State.lifeUpdate_fr
  with_reducible assumption
  exact hl
  with_reducible apply State.raiseRec_fr
  with_reducible apply State.setKey_fr
  refine Fr.upd ?_ (c22 := .inl (hl (by decide)))
  with_reducible assumption
  exact List.Subset.trans (by decide) hl
  exact List.Subset.trans (by decide) hl

theorem State.keyMismatches_fr {s : State} (hz : Fr l z s) (hl : [.regs, .log, .evt, .lmp] ⊆ l) :
    Fr l z (State.keyMismatches s) := by
  unfold State.keyMismatches
  refine Fr.foldl ?_ ?_
  with_reducible assumption
  intro x2_0 x2_1 x2_2
  extract_lets +onlyGivenNames q3; clear_value q3
  split
  with_reducible assumption
  refine Fr.ite ?_ ?_
  with_reducible apply State.logPut_fr
  with_reducible apply State.setEvent_fr
  with_reducible apply State.setKey_fr
  with_reducible assumption
  exact List.Subset.trans (by decide) hl
  exact List.Subset.trans (by decide) hl
  exact List.Subset.trans (by decide) hl
  with_reducible assumption

theorem State.kprLoad_fr {s : State} (hz : Fr l z s) (hl : [.kpr] ⊆ l) :
    Fr l z (State.kprLoad s) := by
  unfold State.kprLoad
  extract_lets +onlyGivenNames q0; clear_value q0
  extract_lets +onlyGivenNames q2; refine Fr.cut (a := q2) ?_ (fun _ => ?_)
  rotate_left; clear_value q2; rotate_right; unfold q2
  refine Fr.upd ?_ (c24 := .inl (hl (by decide)))
  with_reducible assumption
  extract_lets +onlyGivenNames q10; refine Fr.cut (a := q10) ?_ (fun _ => ?_)
  rotate_left; clear_value q10; rotate_right; unfold q10
  with_reducible apply forN_fr
  with_reducible assumption
  intro x18_0 x18_1 x18_2
  with_reducible apply State.fnLoad_fr
  with_reducible assumption
  exact hl
  with_reducible apply forN_fr
  with_reducible assumption
  intro x24_0 x24_1 x24_2
  refine Fr.ite ?_ ?_
  with_reducible apply State.setKeeper_fr
  with_reducible assumption
  exact hl
  with_reducible assumption

theorem State.lampBoot_fr {s : State} {selfTest : Bool} (hz : Fr l z s) (hl : [.regs, .log, .evt, .lmp] ⊆ l) :
    Fr l z (State.lampBoot s selfTest) := by
  unfold State.lampBoot
  extract_lets +onlyGivenNames q0
  extract_lets +onlyGivenNames q1
  extract_lets +onlyGivenNames q2; refine Fr.cut (a := q2) ?_ (fun _ => ?_)
  rotate_left; clear_value q2; rotate_right; unfold q2
  refine Fr.upd ?_ (c22 := .inl (hl (by decide)))
  with_reducible assumption
  refine Fr.ite ?_ ?_
  with_reducible apply State.raiseRec_fr
  with_reducible assumption
  exact List.Subset.trans (by decide) hl
  with_reducible assumption

theorem State.lanternTake_fr {s : State} {m : LanternMsg} (hz : Fr l z s) (hl : [.regs, .log, .evt, .pair] ⊆ l) :
    Fr l z (State.lanternTake s m) := by
  unfold State.lanternTake
  extract_lets +onlyGivenNames q0; clear_value q0
  extract_lets +onlyGivenNames q2; refine Fr.cut (a := q2) ?_ (fun _ => ?_)
  rotate_left; clear_value q2; rotate_right; unfold q2
  refine Fr.upd ?_ (c27 := .inl (hl (by decide)))
  with_reducible assumption
  extract_lets +onlyGivenNames q10; refine Fr.cut (a := q10) ?_ (fun _ => ?_)
  rotate_left; clear_value q10; rotate_right; unfold q10
  with_reducible apply State.heard_fr
  with_reducible assumption
  exact List.Subset.trans (by decide) hl
  refine Fr.ite ?_ ?_
  extract_lets +onlyGivenNames q20; clear_value q20
  extract_lets +onlyGivenNames q22; clear_value q22
  extract_lets +onlyGivenNames q24; refine Fr.cut (a := q24) ?_ (fun _ => ?_)
  rotate_left; clear_value q24; rotate_right; unfold q24
  refine Fr.upd ?_ (c27 := .inl (hl (by decide)))
  with_reducible assumption
  with_reducible apply State.raiseRec_fr
  with_reducible assumption
  exact List.Subset.trans (by decide) hl
  with_reducible apply State.adoptCount_fr
  with_reducible assumption
  exact List.Subset.trans (by decide) hl

theorem State.leaveActiveMode_fr {s : State} (hz : Fr l z s) (hl : [.out, .regs, .cmds, .once, .time, .glb, .log,
      .evt, .img, .bcn, .cdv, .pln, .svi, .cnd, .hst, .kpr, .gal, .pub, .pair] ⊆ l) :
    Fr l z (State.leaveActiveMode s) := by
  unfold State.leaveActiveMode
  refine Fr.ite ?_ ?_
  refine Fr.upd ?_ (c27 := .inl (hl (by decide)))
  with_reducible assumption
  refine Fr.ite ?_ ?_
  with_reducible apply State.exRequest_fr
  with_reducible assumption
  exact List.Subset.trans (by decide) hl
  with_reducible apply State.yieldTo_fr
  with_reducible assumption
  exact hl

theorem State.leaveOperating_fr {s : State} (hz : Fr l z s) (hl : [.out, .regs, .cmds, .once, .time, .glb, .log,
      .evt, .img, .bcn, .cdv, .pln, .svi, .cnd, .hst, .kpr, .gal, .pub, .pair] ⊆ l) :
    Fr l z (State.leaveOperating s) := by
  unfold State.leaveOperating
  extract_lets +onlyGivenNames q0; refine Fr.cut (a := q0) ?_ (fun _ => ?_)
  rotate_left; clear_value q0; rotate_right; unfold q0
  with_reducible apply State.pairTrack_fr
  with_reducible apply State.reloadAbandon_fr
  with_reducible assumption
  exact List.Subset.trans (by decide) hl
  exact List.Subset.trans (by decide) hl
  refine Fr.ite ?_ ?_
  with_reducible apply State.leaveActiveMode_fr
  with_reducible assumption
  exact hl
  with_reducible assumption

theorem State.waitPrecharge_fr {s : State} {bits : Word} {go : Bool} (hz : Fr l z s) (hl : [.pwr] ⊆ l) :
    Fr l z (State.waitPrecharge s bits go) := by
  unfold State.waitPrecharge
  extract_lets +onlyGivenNames q0; clear_value q0
  refine Fr.upd ?_ (c8 := .inl (hl (by decide)))
  with_reducible assumption

theorem State.toDormant_fr {s : State} {cause : Nat} (hz : Fr l z s) (hl : [.out, .regs, .cmds, .once, .time,
      .glb, .pwr, .log, .evt, .img, .bcn, .cdv, .pln, .svi, .cnd, .hst, .kpr, .gal, .pub, .pair] ⊆ l) :
    Fr l z (State.toDormant cause s) := by
  unfold State.toDormant
  extract_lets +onlyGivenNames q0; refine Fr.cut (a := q0) ?_ (fun _ => ?_)
  rotate_left; clear_value q0; rotate_right; unfold q0
  with_reducible apply State.setMode_fr
  with_reducible assumption
  exact List.Subset.trans (by decide) hl
  refine Fr.ite ?_ ?_
  with_reducible apply State.waitPrecharge_fr
  with_reducible assumption
  exact List.Subset.trans (by decide) hl
  with_reducible assumption

theorem State.leaveStart_fr {s : State} (hz : Fr l z s) (hl : [.out, .regs, .cmds, .once, .time, .glb, .pwr, .log,
      .evt, .img, .bcn, .cdv, .pln, .svi, .cnd, .hst, .kpr, .gal, .pub, .pair] ⊆ l) :
    Fr l z (State.leaveStart s) := by
  unfold State.leaveStart
  refine Fr.ite ?_ ?_
  with_reducible assumption
  extract_lets +onlyGivenNames q2; clear_value q2
  extract_lets +onlyGivenNames q4; refine Fr.cut (a := q4) ?_ (fun _ => ?_)
  rotate_left; clear_value q4; rotate_right; unfold q4
  with_reducible apply State.raiseGlb_fr
  refine Fr.upd ?_ (c7 := .inl (hl (by decide)))
  with_reducible assumption
  exact List.Subset.trans (by decide) hl
  refine Fr.ite ?_ ?_
  with_reducible apply State.toDormant_fr
  with_reducible assumption
  exact hl
  with_reducible apply State.leaveOperating_fr
  with_reducible assumption
  exact List.Subset.trans (by decide) hl

theorem State.startHold_fr {s : State} {p : Nat} (hz : Fr l z s) (hl : [.regs, .log, .evt, .ports] ⊆ l) :
    Fr l z (State.startHold s p) := by
  unfold State.startHold
  extract_lets +onlyGivenNames q0; clear_value q0
  extract_lets +onlyGivenNames q2; refine Fr.cut (a := q2) ?_ (fun _ => ?_)
  rotate_left; clear_value q2; rotate_right; unfold q2
  with_reducible apply State.setPort_fr
  with_reducible assumption
  exact List.Subset.trans (by decide) hl
  with_reducible apply State.eventRec_fr
  with_reducible apply State.setEvent_fr
  with_reducible assumption
  exact List.Subset.trans (by decide) hl
  exact List.Subset.trans (by decide) hl

theorem State.linkDown_fr {s : State} {p : Nat} (hz : Fr l z s) (hl : [.out, .regs, .log, .evt, .bcn, .ports,
      .rdg, .hst] ⊆ l) :
    Fr l z (State.linkDown s p) := by
  unfold State.linkDown
  extract_lets +onlyGivenNames q0; refine Fr.cut (a := q0) ?_ (fun _ => ?_)
  rotate_left; clear_value q0; rotate_right; unfold q0
  with_reducible apply State.dropLink_fr
  with_reducible apply State.stat_fr
  with_reducible assumption
  exact List.Subset.trans (by decide) hl
  exact hl
  refine Fr.ite ?_ ?_
  with_reducible apply State.setPort_fr
  with_reducible assumption
  exact List.Subset.trans (by decide) hl
  with_reducible apply State.startHold_fr
  with_reducible assumption
  exact List.Subset.trans (by decide) hl

theorem State.msixReset_fr {s : State} {v : Nat} (hz : Fr l z s) (hl : [.hst] ⊆ l) :
    Fr l z (State.msixReset s v) := by
  unfold State.msixReset
  extract_lets +onlyGivenNames q0; clear_value q0
  extract_lets +onlyGivenNames q2; refine Fr.cut (a := q2) ?_ (fun _ => ?_)
  rotate_left; clear_value q2; rotate_right; unfold q2
  with_reducible apply State.setFunc_fr
  with_reducible assumption
  exact hl
  refine Fr.upd ?_ (c23 := .inl (hl (by decide)))
  with_reducible assumption

theorem State.lmpResult_fr {s : State} {r : Nat} {slot : Nat} {used : Nat} (hz : Fr l z s) (hl : [.lmp] ⊆ l) :
    Fr l z (State.lmpResult s r slot used) := by
  unfold State.lmpResult
  refine Fr.upd ?_ (c22 := .inl (hl (by decide)))
  with_reducible assumption

theorem State.lmpAbort_fr {s : State} (hz : Fr l z s) (hl : [.regs, .cmds, .log, .evt, .lmp] ⊆ l) :
    Fr l z (State.lmpAbort s) := by
  unfold State.lmpAbort
  split
  with_reducible assumption
  refine Fr.ite ?_ ?_
  with_reducible apply State.cmdDone_fr
  with_reducible apply State.lmpResult_fr
  with_reducible assumption
  exact List.Subset.trans (by decide) hl
  exact List.Subset.trans (by decide) hl
  with_reducible assumption

theorem State.loadEnd_fr {s : State} {result : Nat} (hz : Fr l z s) (hl : [.regs, .cmds, .log, .evt, .img] ⊆ l) :
    Fr l z (State.loadEnd s result) := by
  unfold State.loadEnd
  with_reducible apply State.cmdDone_fr
  with_reducible apply State.setEvent_fr
  refine Fr.upd ?_ (c11 := .inl (hl (by decide)))
  with_reducible assumption
  exact List.Subset.trans (by decide) hl
  exact List.Subset.trans (by decide) hl

theorem State.loadStop_fr {s : State} (hz : Fr l z s) (hl : [.regs, .cmds, .log, .evt, .img] ⊆ l) :
    Fr l z (State.loadStop s) := by
  unfold State.loadStop
  refine Fr.ite ?_ ?_
  with_reducible apply State.loadEnd_fr
  with_reducible assumption
  exact hl
  with_reducible assumption

theorem State.pf0Stop_fr {s : State} (hz : Fr l z s) (hl : [.out, .regs, .cmds, .log, .evt, .img, .ports, .lmp,
      .hst, .gal] ⊆ l) :
    Fr l z (State.pf0Stop s) := by
  unfold State.pf0Stop
  with_reducible apply State.copyStop_fr
  with_reducible apply State.lmpAbort_fr
  with_reducible apply State.loadStop_fr
  with_reducible apply State.clearQueues_fr
  with_reducible assumption
  exact List.Subset.trans (by decide) hl
  exact List.Subset.trans (by decide) hl
  exact List.Subset.trans (by decide) hl
  exact List.Subset.trans (by decide) hl

theorem State.linkLost_fr {s : State} (hz : Fr l z s) (hl : [.out, .regs, .cmds, .once, .log, .evt, .img, .ports,
      .prf, .pln, .cnd, .lmp, .hst, .kpr, .gal] ⊆ l) :
    Fr l z (State.linkLost s) := by
  unfold State.linkLost
  extract_lets +onlyGivenNames q0; clear_value q0
  extract_lets +onlyGivenNames q2; refine Fr.cut (a := q2) ?_ (fun _ => ?_)
  rotate_left; clear_value q2; rotate_right; unfold q2
  refine Fr.foldl ?_ ?_
  with_reducible assumption
  intro x10_0 x10_1 x10_2
  with_reducible apply State.msixReset_fr
  with_reducible apply State.flrStart_fr
  with_reducible assumption
  exact List.Subset.trans (by decide) hl
  exact List.Subset.trans (by decide) hl
  extract_lets +onlyGivenNames q16; clear_value q16
  extract_lets +onlyGivenNames q18; clear_value q18
  extract_lets +onlyGivenNames q20; refine Fr.cut (a := q20) ?_ (fun _ => ?_)
  rotate_left; clear_value q20; rotate_right; unfold q20
  with_reducible apply State.msixReset_fr
  with_reducible apply State.pf0Stop_fr
  refine Fr.upd ?_ (c23 := .inl (hl (by decide)))
  with_reducible assumption
  exact List.Subset.trans (by decide) hl
  exact List.Subset.trans (by decide) hl
  refine Fr.ite ?_ ?_
  with_reducible assumption
  with_reducible apply State.hstRec_fr
  with_reducible assumption
  exact List.Subset.trans (by decide) hl

theorem State.lmpStart_fr {s : State} {j : LmpJob} (hz : Fr l z s) (hl : [.lmp] ⊆ l) :
    Fr l z (State.lmpStart s j) := by
  unfold State.lmpStart
  refine Fr.upd ?_ (c22 := .inl (hl (by decide)))
  with_reducible assumption

theorem State.loadAbort_fr {s : State} (hz : Fr l z s) (hl : [.regs, .cmds, .log, .evt, .img] ⊆ l) :
    Fr l z (State.loadAbort s) := by
  unfold State.loadAbort
  refine Fr.ite ?_ ?_
  extract_lets +onlyGivenNames q1; clear_value q1
  extract_lets +onlyGivenNames q3; clear_value q3
  extract_lets +onlyGivenNames q5; refine Fr.cut (a := q5) ?_ (fun _ => ?_)
  rotate_left; clear_value q5; rotate_right; unfold q5
  with_reducible apply State.setBank_fr
  with_reducible assumption
  exact List.Subset.trans (by decide) hl
  with_reducible apply State.cmdEndRefused_fr
  refine Fr.upd ?_ (c11 := .inl (hl (by decide)))
  with_reducible assumption
  exact List.Subset.trans (by decide) hl
  with_reducible assumption

theorem rdgLoad_fr {s : State} (hz : Fr l z s) (hl : [.rdg] ⊆ l) :
    Fr l z (rdgLoad s) := by
  unfold rdgLoad
  extract_lets +onlyGivenNames q0; clear_value q0
  extract_lets +onlyGivenNames q2; clear_value q2
  extract_lets +onlyGivenNames q4; clear_value q4
  extract_lets +onlyGivenNames q6; clear_value q6
  refine Fr.upd ?_ (c14 := .inl (hl (by decide)))
  with_reducible assumption

theorem State.subRestart_fr {s : State} {c : StreamCfg} (hz : Fr l z s) (hl : [.pln, .pub] ⊆ l) :
    Fr l z (State.subRestart s c) := by
  unfold State.subRestart
  extract_lets +onlyGivenNames q0; clear_value q0
  extract_lets +onlyGivenNames q2; refine Fr.cut (a := q2) ?_ (fun _ => ?_)
  rotate_left; clear_value q2; rotate_right; unfold q2
  with_reducible apply State.setSub_fr
  with_reducible assumption
  exact List.Subset.trans (by decide) hl
  refine Fr.foldl ?_ ?_
  with_reducible assumption
  intro x13_0 x13_1 x13_2
  with_reducible apply State.setSig_fr
  with_reducible assumption
  exact List.Subset.trans (by decide) hl

theorem State.pubLoad_fr {s : State} (hz : Fr l z s) (hl : [.pln, .pub] ⊆ l) :
    Fr l z (State.pubLoad s) := by
  unfold State.pubLoad
  extract_lets +onlyGivenNames q0; refine Fr.cut (a := q0) ?_ (fun _ => ?_)
  rotate_left; clear_value q0; rotate_right; unfold q0
  refine Fr.upd ?_ (c26 := .inl (hl (by decide)))
  with_reducible assumption
  refine Fr.foldl ?_ ?_
  with_reducible assumption
  intro x10_0 x10_1 x10_2
  with_reducible apply State.subRestart_fr
  with_reducible assumption
  exact hl

theorem State.sviLoad_fr {s : State} (hz : Fr l z s) (hl : [.regs, .evt, .svi] ⊆ l) :
    Fr l z (State.sviLoad s) := by
  unfold State.sviLoad
  with_reducible apply State.streamsPlace_fr
  refine Fr.upd ?_ (c20 := .inl (hl (by decide)))
  with_reducible assumption
  exact hl

theorem State.loadBlocks_fr {s : State} (hz : Fr l z s) (hl : [.out, .regs, .log, .evt, .img, .bcn, .rdg, .cdv,
      .bin, .can, .pln, .svi, .lmp, .hst, .kpr, .gal, .pub] ⊆ l) :
    Fr l z (State.loadBlocks s) := by
  unfold State.loadBlocks
  extract_lets +onlyGivenNames q0
  extract_lets +onlyGivenNames q1; clear_value q1
  extract_lets +onlyGivenNames q3; refine Fr.cut (a := q3) ?_ (fun _ => ?_)
  rotate_left; clear_value q3; rotate_right; unfold q3
  refine Fr.upd ?_ (c11 := .inl (hl (by decide))) (c12 := .inl (hl (by decide)))
  with_reducible assumption
  extract_lets +onlyGivenNames q11; refine Fr.cut (a := q11) ?_ (fun _ => ?_)
  rotate_left; clear_value q11; rotate_right; unfold q11
  with_reducible apply rdgLoad_fr
  with_reducible assumption
  exact List.Subset.trans (by decide) hl
  extract_lets +onlyGivenNames q20; refine Fr.cut (a := q20) ?_ (fun _ => ?_)
  rotate_left; clear_value q20; rotate_right; unfold q20
  with_reducible apply State.canLoad_fr
  with_reducible apply State.canLoad_fr
  with_reducible apply State.fieldLoad_fr
  with_reducible apply State.fillSettings_fr
  with_reducible assumption
  exact List.Subset.trans (by decide) hl
  exact List.Subset.trans (by decide) hl
  exact List.Subset.trans (by decide) hl
  exact List.Subset.trans (by decide) hl
  extract_lets +onlyGivenNames q35; refine Fr.cut (a := q35) ?_ (fun _ => ?_)
  rotate_left; clear_value q35; rotate_right; unfold q35
  refine Fr.foldl ?_ ?_
  with_reducible apply State.hstLoad_fr
  with_reducible assumption
  exact List.Subset.trans (by decide) hl
  intro x45_0 x45_1 x45_2
  with_reducible apply State.chanLoad_fr
  with_reducible assumption
  exact List.Subset.trans (by decide) hl
  extract_lets +onlyGivenNames q49; refine Fr.cut (a := q49) ?_ (fun _ => ?_)
  rotate_left; clear_value q49; rotate_right; unfold q49
  with_reducible apply State.galLoad_fr
  with_reducible apply State.pubLoad_fr
  with_reducible apply State.fillAll_fr
  with_reducible apply State.sviLoad_fr
  with_reducible apply State.kprLoad_fr
  with_reducible assumption
  exact List.Subset.trans (by decide) hl
  exact List.Subset.trans (by decide) hl
  exact List.Subset.trans (by decide) hl
  exact List.Subset.trans (by decide) hl
  exact List.Subset.trans (by decide) hl
  with_reducible apply State.keyMismatches_fr
  with_reducible assumption
  exact List.Subset.trans (by decide) hl

theorem State.note_fr {s : State} {p : Nat} {b : Nat} (hz : Fr l z s) (hl : [.regs, .log, .evt] ⊆ l) :
    Fr l z (State.note s p b) := by
  unfold State.note
  refine Fr.ite ?_ ?_
  with_reducible assumption
  with_reducible apply State.macRec_fr
  with_reducible apply State.macEvent_fr
  with_reducible apply State.macEvent_fr
  with_reducible assumption
  exact List.Subset.trans (by decide) hl
  exact List.Subset.trans (by decide) hl
  exact hl

theorem State.macDone_fr {s : State} {p : Nat} (hz : Fr l z s) (hl : [.regs, .cmds, .log, .evt] ⊆ l) :
    Fr l z (State.macDone s p) := by
  unfold State.macDone
  with_reducible apply State.note_fr
  with_reducible apply State.cmdDone_fr
  with_reducible assumption
  exact hl
  exact List.Subset.trans (by decide) hl

theorem windowWrite_fr {s : State} {q : Nat} {off : Nat} (hz : Fr l z s) (hl : [.regs, .once, .log, .evt] ⊆ l) :
    Fr l z (windowWrite q off s) := by
  unfold windowWrite
  extract_lets +onlyGivenNames q0; clear_value q0
  with_reducible apply State.oncePer_fr
  with_reducible apply State.count_fr
  with_reducible assumption
  exact List.Subset.trans (by decide) hl
  intro x6_0 x6_1
  with_reducible apply State.eventRec_fr
  with_reducible apply State.setEvent_fr
  with_reducible assumption
  exact List.Subset.trans (by decide) hl
  exact List.Subset.trans (by decide) hl
  exact List.Subset.trans (by decide) hl

theorem commissionComplete_fr {s : State} (hz : Fr l z s) (hl : [.out, .regs, .cmds, .once, .time, .glb, .log,
      .evt, .img, .bcn, .cdv, .pln, .svi, .cnd, .hst, .kpr, .gal, .pub, .pair] ⊆ l) :
    Fr l z (commissionComplete s) := by
  unfold commissionComplete
  refine Fr.ite ?_ ?_
  with_reducible apply State.glbWait_fr
  with_reducible assumption
  exact hl
  with_reducible assumption

theorem bcnTsCtrlWrite_fr {s : State} {v : Word} (hz : Fr l z s) (hl : [.bcn] ⊆ l) :
    Fr l z (bcnTsCtrlWrite v s) := by
  unfold bcnTsCtrlWrite
  extract_lets +onlyGivenNames q0; clear_value q0
  refine Fr.upd ?_ (c12 := .inl (hl (by decide)))
  with_reducible assumption

theorem State.prfWrite_fr {s : State} {q : Requester} {a : Nat} {v : Word} {hw : Word} (hz : Fr l z s)
    (hl : [.regs, .prf] ⊆ l) :
    Fr l z (State.prfWrite s q a v hw) := by
  unfold State.prfWrite
  refine Fr.ite ?_ ?_
  with_reducible apply State.wr_fr
  with_reducible assumption
  exact List.Subset.trans (by decide) hl
  refine Fr.ite ?_ ?_
  refine Fr.ite ?_ ?_
  with_reducible apply prfHiWrite_fr
  with_reducible assumption
  exact List.Subset.trans (by decide) hl
  refine Fr.ite ?_ ?_
  with_reducible assumption
  with_reducible apply State.wr_fr
  with_reducible assumption
  exact List.Subset.trans (by decide) hl
  with_reducible assumption

theorem State.ownWrite_fr {s : State} {q : Requester} {a : Nat} {v : Word} {hw : Word} (hz : Fr l z s)
    (hl : [.out, .regs, .cmds, .once, .time, .glb, .log, .evt, .img, .bcn, .cdv, .can, .prf, .pln, .svi, .cnd,
      .hst, .kpr, .gal, .pub, .pair] ⊆ l) :
    Fr l z (State.ownWrite s q a v hw) := by
  unfold State.ownWrite
  refine Fr.ite ?_ ?_
  with_reducible apply commissionComplete_fr
  with_reducible apply State.wr_fr
  with_reducible assumption
  exact List.Subset.trans (by decide) hl
  exact List.Subset.trans (by decide) hl
  refine Fr.ite ?_ ?_
  refine Fr.upd ?_ (c7 := .inl (hl (by decide)))
  with_reducible assumption
  refine Fr.ite ?_ ?_
  with_reducible apply State.evtWrite_fr
  with_reducible assumption
  exact List.Subset.trans (by decide) hl
  refine Fr.ite ?_ ?_
  with_reducible apply bcnTsCtrlWrite_fr
  with_reducible assumption
  exact List.Subset.trans (by decide) hl
  refine Fr.ite ?_ ?_
  with_reducible apply State.wr_fr
  with_reducible assumption
  exact List.Subset.trans (by decide) hl
  refine Fr.ite ?_ ?_
  with_reducible apply State.wr_fr
  with_reducible assumption
  exact List.Subset.trans (by decide) hl
  refine Fr.ite ?_ ?_
  refine Fr.upd ?_ (c19 := .inl (hl (by decide)))
  with_reducible assumption
  refine Fr.ite ?_ ?_
  with_reducible apply State.logCtrlWrite_fr
  with_reducible assumption
  exact List.Subset.trans (by decide) hl
  refine Fr.ite ?_ ?_
  with_reducible apply State.logCursorWrite_fr
  with_reducible assumption
  exact List.Subset.trans (by decide) hl
  refine Fr.ite ?_ ?_
  with_reducible apply State.localWrite_fr
  with_reducible assumption
  exact List.Subset.trans (by decide) hl
  refine Fr.ite ?_ ?_
  with_reducible apply mbxStateWrite_fr
  with_reducible assumption
  exact List.Subset.trans (by decide) hl
  refine Fr.ite ?_ ?_
  with_reducible apply State.coilWrite_fr
  with_reducible assumption
  exact List.Subset.trans (by decide) hl
  refine Fr.ite ?_ ?_
  with_reducible apply State.canBufWrite_fr
  with_reducible assumption
  exact List.Subset.trans (by decide) hl
  refine Fr.ite ?_ ?_
  with_reducible apply State.canBufWrite_fr
  with_reducible assumption
  exact List.Subset.trans (by decide) hl
  refine Fr.ite ?_ ?_
  with_reducible apply State.prfWrite_fr
  with_reducible assumption
  exact List.Subset.trans (by decide) hl
  with_reducible assumption

theorem adminDown_fr {s : State} {p : Nat} {rsv : Nat} {arg : Nat} (hz : Fr l z s) (hl : [.out, .regs, .cmds,
      .log, .evt, .bcn, .ports, .rdg, .hst] ⊆ l) :
    Fr l z (adminDown p rsv arg s) := by
  unfold adminDown
  with_reducible apply State.runCmd_fr
  with_reducible assumption
  intro x2_0 x2_1
  extract_lets +onlyGivenNames q3; refine Fr.cut (a := q3) ?_ (fun _ => ?_)
  rotate_left; clear_value q3; rotate_right; unfold q3
  with_reducible apply State.dropLink_fr
  with_reducible assumption
  exact List.Subset.trans (by decide) hl
  with_reducible apply State.macDone_fr
  with_reducible apply State.setPort_fr
  with_reducible assumption
  exact List.Subset.trans (by decide) hl
  exact List.Subset.trans (by decide) hl
  exact List.Subset.trans (by decide) hl

theorem adminUp_fr {s : State} {p : Nat} {rsv : Nat} {arg : Nat} (hz : Fr l z s) (hl : [.regs, .cmds, .log, .evt,
      .ports] ⊆ l) :
    Fr l z (adminUp p rsv arg s) := by
  unfold adminUp
  with_reducible apply State.runCmd_fr
  with_reducible assumption
  intro x2_0 x2_1
  with_reducible apply State.macDone_fr
  with_reducible apply State.setPort_fr
  with_reducible assumption
  exact List.Subset.trans (by decide) hl
  exact List.Subset.trans (by decide) hl
  exact List.Subset.trans (by decide) hl

theorem speedPin_fr {s : State} {p : Nat} {rsv : Nat} {arg : Nat} (hz : Fr l z s) (hl : [.regs, .cmds, .log, .evt,
      .ports] ⊆ l) :
    Fr l z (speedPin p rsv arg s) := by
  unfold speedPin
  with_reducible apply State.runCmd_fr
  with_reducible assumption
  intro x2_0 x2_1
  extract_lets +onlyGivenNames q3; clear_value q3
  extract_lets +onlyGivenNames q5; clear_value q5
  with_reducible apply State.macDone_fr
  with_reducible apply State.setPort_fr
  with_reducible assumption
  exact List.Subset.trans (by decide) hl
  exact List.Subset.trans (by decide) hl
  exact List.Subset.trans (by decide) hl

theorem macCommand_fr {s : State} {p : Nat} {code : Nat} {rsv : Nat} {arg : Nat} (hz : Fr l z s) (hl : [.out,
      .regs, .cmds, .log, .evt, .bcn, .ports, .rdg, .hst] ⊆ l) :
    Fr l z (macCommand p code rsv arg s) := by
  unfold macCommand
  split
  with_reducible apply adminDown_fr
  with_reducible assumption
  exact hl
  with_reducible apply adminUp_fr
  with_reducible assumption
  exact List.Subset.trans (by decide) hl
  with_reducible apply speedPin_fr
  with_reducible assumption
  exact List.Subset.trans (by decide) hl
  with_reducible apply State.badCode_fr
  with_reducible assumption
  exact List.Subset.trans (by decide) hl

theorem enterTest_fr {s : State} {rsv : Nat} {arg : Nat} (hz : Fr l z s) (hl : [.out, .regs, .cmds, .once, .time,
      .glb, .log, .evt, .img, .bcn, .cdv, .pln, .svi, .cnd, .hst, .kpr, .gal, .pub, .pair] ⊆ l) :
    Fr l z (enterTest rsv arg s) := by
  unfold enterTest
  with_reducible apply State.glbRun_fr
  with_reducible assumption
  intro x2_0 x2_1
  with_reducible apply State.glbWait_fr
  with_reducible assumption
  exact hl
  exact List.Subset.trans (by decide) hl

theorem exitTest_fr {s : State} {rsv : Nat} {arg : Nat} (hz : Fr l z s) (hl : [.out, .regs, .cmds, .once, .time,
      .glb, .log, .evt, .img, .bcn, .cdv, .pln, .svi, .cnd, .hst, .kpr, .gal, .pub, .pair] ⊆ l) :
    Fr l z (exitTest rsv arg s) := by
  unfold exitTest
  with_reducible apply State.glbRun_fr
  with_reducible assumption
  intro x2_0 x2_1
  with_reducible apply State.glbWait_fr
  with_reducible assumption
  exact hl
  exact List.Subset.trans (by decide) hl

theorem enterMaintenance_fr {s : State} {rsv : Nat} {arg : Nat} (hz : Fr l z s) (hl : [.out, .regs, .cmds, .once,
      .time, .glb, .log, .evt, .img, .bcn, .cdv, .pln, .svi, .cnd, .hst, .kpr, .gal, .pub, .pair] ⊆ l) :
    Fr l z (enterMaintenance rsv arg s) := by
  unfold enterMaintenance
  with_reducible apply State.glbRun_fr
  with_reducible assumption
  intro x2_0 x2_1
  with_reducible apply State.cause_fr
  with_reducible assumption
  intro x5_0 x5_1
  with_reducible apply State.cmdDone_fr
  with_reducible apply State.setMode_fr
  with_reducible assumption
  exact hl
  exact List.Subset.trans (by decide) hl
  exact List.Subset.trans (by decide) hl
  exact List.Subset.trans (by decide) hl

theorem State.restart_fr {s : State} (hz : Fr l z s) (hl : [.out, .regs, .cmds, .once, .time, .glb, .pwr, .log,
      .evt, .img, .bcn, .ports, .rdg, .cdv, .bin, .can, .prf, .pln, .svi, .cnd, .lmp, .hst, .kpr, .gal, .pub,
      .pair] ⊆ l) :
    Fr l z (State.restart s) := by
  unfold State.restart
  with_reducible apply State.bootStart_fr
  with_reducible assumption
  exact hl

theorem exitMaintenance_fr {s : State} {rsv : Nat} {arg : Nat} (hz : Fr l z s) (hl : [.out, .regs, .cmds, .once,
      .time, .glb, .pwr, .log, .evt, .img, .bcn, .ports, .rdg, .cdv, .bin, .can, .prf, .pln, .svi, .cnd, .lmp,
      .hst, .kpr, .gal, .pub, .pair] ⊆ l) :
    Fr l z (exitMaintenance rsv arg s) := by
  unfold exitMaintenance
  with_reducible apply State.glbRun_fr
  with_reducible assumption
  intro x2_0 x2_1
  with_reducible apply State.cause_fr
  with_reducible assumption
  intro x5_0 x5_1
  with_reducible apply State.restart_fr
  with_reducible assumption
  exact hl
  exact List.Subset.trans (by decide) hl
  exact List.Subset.trans (by decide) hl

theorem leaveCommission_fr {s : State} {rsv : Nat} {arg : Nat} (hz : Fr l z s) (hl : [.out, .regs, .cmds, .once,
      .time, .glb, .log, .evt, .img, .bcn, .cdv, .pln, .svi, .cnd, .hst, .kpr, .gal, .pub, .pair] ⊆ l) :
    Fr l z (leaveCommission rsv arg s) := by
  unfold leaveCommission
  with_reducible apply State.glbRun_fr
  with_reducible assumption
  intro x2_0 x2_1
  with_reducible apply State.glbWait_fr
  with_reducible apply State.wr_fr
  with_reducible assumption
  exact List.Subset.trans (by decide) hl
  exact hl
  exact List.Subset.trans (by decide) hl

theorem handover_fr {s : State} {rsv : Nat} {arg : Nat} (hz : Fr l z s) (hl : [.out, .regs, .cmds, .glb, .log,
      .evt, .pair] ⊆ l) :
    Fr l z (handover rsv arg s) := by
  unfold handover
  with_reducible apply State.glbRun_fr
  with_reducible assumption
  intro x2_0 x2_1
  extract_lets +onlyGivenNames q3; clear_value q3
  extract_lets +onlyGivenNames q5; refine Fr.cut (a := q5) ?_ (fun _ => ?_)
  rotate_left; clear_value q5; rotate_right; unfold q5
  refine Fr.upd ?_ (c7 := .inl (hl (by decide)))
  with_reducible assumption
  with_reducible apply State.exRequest_fr
  with_reducible assumption
  exact List.Subset.trans (by decide) hl
  exact List.Subset.trans (by decide) hl

theorem leaveService_fr {s : State} {rsv : Nat} {arg : Nat} (hz : Fr l z s) (hl : [.out, .regs, .cmds, .once,
      .time, .glb, .pwr, .log, .evt, .img, .bcn, .cdv, .pln, .svi, .cnd, .hst, .kpr, .gal, .pub, .pair] ⊆ l) :
    Fr l z (leaveService rsv arg s) := by
  unfold leaveService
  with_reducible apply State.runCmd_fr
  with_reducible assumption
  intro x2_0 x2_1
  with_reducible apply State.cause_fr
  with_reducible assumption
  intro x5_0 x5_1
  with_reducible apply State.leaveStart_fr
  with_reducible assumption
  exact hl
  exact List.Subset.trans (by decide) hl
  exact List.Subset.trans (by decide) hl

theorem glbRestart_fr {s : State} {rsv : Nat} {arg : Nat} (hz : Fr l z s) (hl : [.out, .regs, .cmds, .once, .time,
      .glb, .pwr, .log, .evt, .img, .bcn, .ports, .rdg, .cdv, .bin, .can, .prf, .pln, .svi, .cnd, .lmp, .hst,
      .kpr, .gal, .pub, .pair] ⊆ l) :
    Fr l z (glbRestart rsv arg s) := by
  unfold glbRestart
  with_reducible apply State.glbRun_fr
  with_reducible assumption
  intro x2_0 x2_1
  with_reducible apply State.cause_fr
  with_reducible assumption
  intro x5_0 x5_1
  with_reducible apply State.restart_fr
  with_reducible assumption
  exact hl
  exact List.Subset.trans (by decide) hl
  exact List.Subset.trans (by decide) hl

theorem glbCommand_fr {s : State} {code : Nat} {rsv : Nat} {arg : Nat} (hz : Fr l z s) (hl : [.out, .regs, .cmds,
      .once, .time, .glb, .pwr, .log, .evt, .img, .bcn, .ports, .rdg, .cdv, .bin, .can, .prf, .pln, .svi, .cnd,
      .lmp, .hst, .kpr, .gal, .pub, .pair] ⊆ l) :
    Fr l z (glbCommand code rsv arg s) := by
  unfold glbCommand
  refine Fr.ite ?_ ?_
  with_reducible apply enterTest_fr
  with_reducible assumption
  exact List.Subset.trans (by decide) hl
  refine Fr.ite ?_ ?_
  with_reducible apply exitTest_fr
  with_reducible assumption
  exact List.Subset.trans (by decide) hl
  refine Fr.ite ?_ ?_
  with_reducible apply enterMaintenance_fr
  with_reducible assumption
  exact List.Subset.trans (by decide) hl
  refine Fr.ite ?_ ?_
  with_reducible apply exitMaintenance_fr
  with_reducible assumption
  exact hl
  refine Fr.ite ?_ ?_
  with_reducible apply leaveCommission_fr
  with_reducible assumption
  exact List.Subset.trans (by decide) hl
  refine Fr.ite ?_ ?_
  with_reducible apply handover_fr
  with_reducible assumption
  exact List.Subset.trans (by decide) hl
  refine Fr.ite ?_ ?_
  with_reducible apply leaveService_fr
  with_reducible assumption
  exact List.Subset.trans (by decide) hl
  refine Fr.ite ?_ ?_
  with_reducible apply glbRestart_fr
  with_reducible assumption
  exact hl
  with_reducible apply State.badCode_fr
  with_reducible assumption
  exact List.Subset.trans (by decide) hl

theorem State.portReset_fr {s : State} {p : Nat} (hz : Fr l z s) (hl : [.out, .regs, .log, .evt, .bcn, .ports,
      .rdg, .hst] ⊆ l) :
    Fr l z (State.portReset s p) := by
  unfold State.portReset
  extract_lets +onlyGivenNames q0; refine Fr.cut (a := q0) ?_ (fun _ => ?_)
  rotate_left; clear_value q0; rotate_right; unfold q0
  refine Fr.ite ?_ ?_
  with_reducible apply State.flushPort_fr
  with_reducible assumption
  exact List.Subset.trans (by decide) hl
  refine Fr.ite ?_ ?_
  with_reducible assumption
  with_reducible apply State.linkDown_fr
  with_reducible assumption
  exact hl
  extract_lets +onlyGivenNames q15; clear_value q15
  extract_lets +onlyGivenNames q17; clear_value q17
  extract_lets +onlyGivenNames q19; refine Fr.cut (a := q19) ?_ (fun _ => ?_)
  rotate_left; clear_value q19; rotate_right; unfold q19
  with_reducible apply State.setPort_fr
  with_reducible assumption
  exact List.Subset.trans (by decide) hl
  extract_lets +onlyGivenNames q28; clear_value q28
  with_reducible apply State.wr_fr
  with_reducible apply State.wr_fr
  with_reducible apply State.clearRegs_fr
  with_reducible assumption
  exact List.Subset.trans (by decide) hl
  exact List.Subset.trans (by decide) hl
  exact List.Subset.trans (by decide) hl

theorem State.resetInstance_fr {s : State} {blk : Nat} {inst : Nat} (hz : Fr l z s) (hl : [.out, .regs, .cmds,
      .log, .evt, .bcn, .ports, .rdg, .cdv, .can, .prf, .pln, .hst, .kpr, .gal] ⊆ l) :
    Fr l z (State.resetInstance s blk inst) := by
  unfold State.resetInstance
  split
  with_reducible apply State.portReset_fr
  with_reducible assumption
  exact List.Subset.trans (by decide) hl
  with_reducible apply State.keeperReset_fr
  with_reducible assumption
  exact List.Subset.trans (by decide) hl
  with_reducible apply State.galReset_fr
  with_reducible assumption
  exact List.Subset.trans (by decide) hl
  with_reducible apply State.coilReset_fr
  with_reducible assumption
  exact List.Subset.trans (by decide) hl
  with_reducible apply State.canReset_fr
  with_reducible assumption
  exact List.Subset.trans (by decide) hl
  with_reducible assumption

theorem blockReset_fr {s : State} {rsv : Nat} {arg : Nat} (hz : Fr l z s) (hl : [.out, .regs, .cmds, .glb, .log,
      .evt, .bcn, .ports, .rdg, .cdv, .can, .prf, .pln, .hst, .kpr, .gal] ⊆ l) :
    Fr l z (blockReset rsv arg s) := by
  unfold blockReset
  extract_lets +onlyGivenNames q0; clear_value q0
  extract_lets +onlyGivenNames q2; clear_value q2
  with_reducible apply State.runCmd_fr
  with_reducible assumption
  intro x6_0 x6_1
  extract_lets +onlyGivenNames q7; refine Fr.cut (a := q7) ?_ (fun _ => ?_)
  rotate_left; clear_value q7; rotate_right; unfold q7
  with_reducible apply State.logPut_fr
  with_reducible assumption
  exact List.Subset.trans (by decide) hl
  extract_lets +onlyGivenNames q16; refine Fr.cut (a := q16) ?_ (fun _ => ?_)
  rotate_left; clear_value q16; rotate_right; unfold q16
  with_reducible apply State.resetInstance_fr
  with_reducible assumption
  exact List.Subset.trans (by decide) hl
  refine Fr.upd ?_ (c7 := .inl (hl (by decide)))
  with_reducible assumption
  exact List.Subset.trans (by decide) hl

theorem blockResetCommand_fr {s : State} {code : Nat} {rsv : Nat} {arg : Nat} (hz : Fr l z s) (hl : [.out, .regs,
      .cmds, .glb, .log, .evt, .bcn, .ports, .rdg, .cdv, .can, .prf, .pln, .hst, .kpr, .gal] ⊆ l) :
    Fr l z (blockResetCommand code rsv arg s) := by
  unfold blockResetCommand
  refine Fr.ite ?_ ?_
  with_reducible apply blockReset_fr
  with_reducible assumption
  exact hl
  with_reducible apply State.badCode_fr
  with_reducible assumption
  exact List.Subset.trans (by decide) hl

theorem evtResend_fr {s : State} {rsv : Nat} {arg : Nat} (hz : Fr l z s) (hl : [.regs, .cmds, .log, .evt] ⊆ l) :
    Fr l z (evtResend rsv arg s) := by
  unfold evtResend
  with_reducible apply State.runCmd_fr
  with_reducible assumption
  intro x2_0 x2_1
  extract_lets +onlyGivenNames q3; refine Fr.cut (a := q3) ?_ (fun _ => ?_)
  rotate_left; clear_value q3; rotate_right; unfold q3
  refine Fr.foldl ?_ ?_
  with_reducible assumption
  intro x11_0 x11_1 x11_2
  with_reducible apply State.deliver_fr
  with_reducible assumption
  exact List.Subset.trans (by decide) hl
  extract_lets +onlyGivenNames q15; clear_value q15
  refine Fr.ite ?_ ?_
  with_reducible apply State.cmdDone_fr
  with_reducible assumption
  exact hl
  refine Fr.upd ?_ (c10 := .inl (hl (by decide)))
  with_reducible assumption
  exact hl

theorem evtCommand_fr {s : State} {code : Nat} {rsv : Nat} {arg : Nat} (hz : Fr l z s) (hl : [.regs, .cmds, .log,
      .evt] ⊆ l) :
    Fr l z (evtCommand code rsv arg s) := by
  unfold evtCommand
  refine Fr.ite ?_ ?_
  with_reducible apply evtResend_fr
  with_reducible assumption
  exact hl
  with_reducible apply State.badCode_fr
  with_reducible assumption
  exact hl

theorem loadCandidate_fr {s : State} {rsv : Nat} {arg : Nat} {buf : List Byte} (hz : Fr l z s) (hl : [.regs,
      .cmds, .log, .evt, .img] ⊆ l) :
    Fr l z (loadCandidate rsv arg buf s) := by
  unfold loadCandidate
  extract_lets +onlyGivenNames q0; clear_value q0
  with_reducible apply State.runCmd_fr
  with_reducible assumption
  intro x4_0 x4_1
  refine Fr.upd ?_ (c11 := .inl (hl (by decide)))
  with_reducible assumption
  exact List.Subset.trans (by decide) hl

theorem loadCandidateNow_fr {s : State} {rsv : Nat} {arg : Nat} {buf : List Byte} (hz : Fr l z s) (hl : [.out,
      .regs, .cmds, .once, .time, .glb, .log, .evt, .img, .bcn, .pln, .svi, .cnd, .hst, .kpr, .gal, .pub,
      .pair] ⊆ l) :
    Fr l z (loadCandidateNow rsv arg buf s) := by
  unfold loadCandidateNow
  extract_lets +onlyGivenNames q0; refine Fr.cut (a := q0) ?_ (fun _ => ?_)
  rotate_left; clear_value q0; rotate_right; unfold q0
  with_reducible apply loadCandidate_fr
  with_reducible assumption
  exact List.Subset.trans (by decide) hl
  refine Fr.ite ?_ ?_
  with_reducible apply State.framesStopAll_fr
  with_reducible assumption
  exact hl
  with_reducible assumption

theorem reload_fr {s : State} {rsv : Nat} {arg : Nat} (hz : Fr l z s) (hl : [.regs, .cmds, .log, .evt, .img] ⊆ l) :
    Fr l z (reload rsv arg s) := by
  unfold reload
  split
  with_reducible apply State.runCmd_fr
  with_reducible assumption
  intro x3_0 x3_1
  assumption
  exact List.Subset.trans (by decide) hl
  with_reducible apply State.runCmd_fr
  with_reducible assumption
  intro x8_0 x8_1
  refine Fr.upd ?_ (c11 := .inl (hl (by decide)))
  with_reducible assumption
  exact List.Subset.trans (by decide) hl

theorem abandon_fr {s : State} {rsv : Nat} {arg : Nat} (hz : Fr l z s) (hl : [.regs, .cmds, .log, .evt, .img] ⊆ l) :
    Fr l z (abandon rsv arg s) := by
  unfold abandon
  extract_lets +onlyGivenNames q0; clear_value q0
  extract_lets +onlyGivenNames q2; refine Fr.cut (a := q2) ?_ (fun _ => ?_)
  rotate_left; clear_value q2; rotate_right; unfold q2
  refine Fr.ite ?_ ?_
  with_reducible apply State.reloadAbandon_fr
  with_reducible assumption
  exact hl
  with_reducible assumption
  with_reducible apply State.runCmd_fr
  with_reducible assumption
  intro x15_0 x15_1
  extract_lets +onlyGivenNames q16; refine Fr.cut (a := q16) ?_ (fun _ => ?_)
  rotate_left; clear_value q16; rotate_right; unfold q16
  with_reducible apply State.candDrop_fr
  with_reducible assumption
  exact List.Subset.trans (by decide) hl
  with_reducible apply State.cmdDone_fr
  refine Fr.upd ?_ (c11 := .inl (hl (by decide)))
  with_reducible assumption
  exact List.Subset.trans (by decide) hl
  exact List.Subset.trans (by decide) hl

theorem invalidateBank_fr {s : State} {rsv : Nat} {arg : Nat} (hz : Fr l z s) (hl : [.regs, .cmds, .log, .evt,
      .img] ⊆ l) :
    Fr l z (invalidateBank rsv arg s) := by
  unfold invalidateBank
  with_reducible apply State.runCmd_fr
  with_reducible assumption
  intro x2_0 x2_1
  with_reducible apply State.cmdDone_fr
  with_reducible apply State.setBank_fr
  with_reducible assumption
  exact List.Subset.trans (by decide) hl
  exact List.Subset.trans (by decide) hl
  exact List.Subset.trans (by decide) hl

theorem setMinGen_fr {s : State} {rsv : Nat} {arg : Nat} (hz : Fr l z s) (hl : [.regs, .cmds, .log, .evt, .img] ⊆ l) :
    Fr l z (setMinGen rsv arg s) := by
  unfold setMinGen
  refine State.runCmd_fr hz (fun x0 h0 => ?_) (List.Subset.trans (by decide) hl)
  exact State.cmdDone_fr (Fr.upd h0 (c11 := .inl (hl (by decide))) (kg := Nat.le_max_left _ _)) (List.Subset.trans (by decide) hl)

theorem nvmStore_fr {s : State} {rsv : Nat} {arg : Nat} (hz : Fr l z s) (hl : [.regs, .cmds, .log, .evt, .img] ⊆ l) :
    Fr l z (nvmStore rsv arg s) := by
  unfold nvmStore
  extract_lets +onlyGivenNames q0; clear_value q0
  with_reducible apply State.runCmd_fr
  with_reducible assumption
  intro x4_0 x4_1
  extract_lets +onlyGivenNames q5
  extract_lets +onlyGivenNames q6; refine Fr.cut (a := q6) ?_ (fun _ => ?_)
  rotate_left; clear_value q6; rotate_right; unfold q6
  refine Fr.upd ?_ (c11 := .inl (hl (by decide)))
  with_reducible assumption
  refine Fr.ite ?_ ?_
  with_reducible apply State.storeSnap_fr
  with_reducible assumption
  exact List.Subset.trans (by decide) hl
  with_reducible assumption
  exact List.Subset.trans (by decide) hl

theorem State.setApply_fr {s : State} {p : SetPend} (hz : Fr l z s) (hl : [.regs, .cmds, .log, .evt, .img,
      .kpr] ⊆ l) :
    Fr l z (State.setApply s p) := by
  unfold State.setApply
  extract_lets +onlyGivenNames q0; refine Fr.cut (a := q0) ?_ (fun _ => ?_)
  rotate_left; clear_value q0; rotate_right; unfold q0
  refine Fr.ite ?_ ?_
  refine Fr.ite ?_ ?_
  with_reducible apply State.setDirty_fr
  with_reducible apply State.setArea_fr
  with_reducible assumption
  exact List.Subset.trans (by decide) hl
  exact List.Subset.trans (by decide) hl
  with_reducible assumption
  with_reducible apply State.setDirty_fr
  with_reducible apply State.setArea_fr
  with_reducible assumption
  exact List.Subset.trans (by decide) hl
  exact List.Subset.trans (by decide) hl
  extract_lets +onlyGivenNames q19
  extract_lets +onlyGivenNames q20; refine Fr.cut (a := q20) ?_ (fun _ => ?_)
  rotate_left; clear_value q20; rotate_right; unfold q20
  refine Fr.upd ?_ (c11 := .inl (hl (by decide)))
  with_reducible assumption
  with_reducible apply State.cmdDone_fr
  with_reducible apply State.setEvent_fr
  with_reducible apply State.kprSettings_fr
  with_reducible assumption
  exact List.Subset.trans (by decide) hl
  exact List.Subset.trans (by decide) hl
  exact List.Subset.trans (by decide) hl

theorem State.setAccept_fr {s : State} {p : SetPend} (hz : Fr l z s) (hl : [.regs, .cmds, .log, .evt, .img,
      .kpr] ⊆ l) :
    Fr l z (State.setAccept s p) := by
  unfold State.setAccept
  refine Fr.ite ?_ ?_
  with_reducible apply State.setApply_fr
  with_reducible assumption
  exact hl
  refine Fr.upd ?_ (c11 := .inl (hl (by decide)))
  with_reducible assumption

theorem State.settingsCmd_fr {s : State} {code : Nat} {rsv : Nat} {arg : Nat} {argOk : Bool} {p : Nat → SetPend}
    (hz : Fr l z s) (hl : [.regs, .cmds, .log, .evt, .img, .kpr] ⊆ l) :
    Fr l z (State.settingsCmd s code rsv arg argOk p) := by
  unfold State.settingsCmd
  split
  with_reducible apply State.runCmd_fr
  with_reducible assumption
  intro x3_0 x3_1
  assumption
  exact List.Subset.trans (by decide) hl
  refine Fr.ite ?_ ?_
  extract_lets +onlyGivenNames q7; clear_value q7
  with_reducible apply State.refusedRec_fr
  with_reducible apply State.setCmd_fr
  with_reducible assumption
  exact List.Subset.trans (by decide) hl
  exact List.Subset.trans (by decide) hl
  with_reducible apply State.runCmd_fr
  with_reducible assumption
  intro x16_0 x16_1
  with_reducible apply State.setAccept_fr
  with_reducible assumption
  exact hl
  exact List.Subset.trans (by decide) hl

theorem settingsWrite_fr {s : State} {rsv : Nat} {arg : Nat} (hz : Fr l z s) (hl : [.regs, .cmds, .log, .evt,
      .img, .kpr] ⊆ l) :
    Fr l z (settingsWrite rsv arg s) := by
  unfold settingsWrite
  split
  extract_lets +onlyGivenNames q1; clear_value q1
  with_reducible apply State.settingsCmd_fr
  with_reducible assumption
  exact hl

theorem settingsRevert_fr {s : State} {rsv : Nat} {arg : Nat} (hz : Fr l z s) (hl : [.regs, .cmds, .log, .evt,
      .img, .kpr] ⊆ l) :
    Fr l z (settingsRevert rsv arg s) := by
  unfold settingsRevert
  with_reducible apply State.settingsCmd_fr
  with_reducible assumption
  exact hl

theorem settingsRead_fr {s : State} {rsv : Nat} {arg : Nat} (hz : Fr l z s) (hl : [.regs, .cmds, .log, .evt] ⊆ l) :
    Fr l z (settingsRead rsv arg s) := by
  unfold settingsRead
  with_reducible apply State.runCmd_fr
  with_reducible assumption
  intro x2_0 x2_1
  split
  extract_lets +onlyGivenNames q4; clear_value q4
  with_reducible apply State.cmdDone_fr
  with_reducible apply forN_fr
  with_reducible assumption
  intro x9_0 x9_1 x9_2
  with_reducible apply State.wr_fr
  with_reducible assumption
  exact List.Subset.trans (by decide) hl
  exact hl
  exact hl

theorem imgCommand_fr {s : State} {code : Nat} {rsv : Nat} {arg : Nat} {buf : List Byte} (hz : Fr l z s)
    (hl : [.out, .regs, .cmds, .once, .time, .glb, .log, .evt, .img, .bcn, .pln, .svi, .cnd, .hst, .kpr, .gal,
      .pub, .pair] ⊆ l) :
    Fr l z (imgCommand code rsv arg buf s) := by
  unfold imgCommand
  refine Fr.ite ?_ ?_
  with_reducible apply loadCandidateNow_fr
  with_reducible assumption
  exact hl
  refine Fr.ite ?_ ?_
  with_reducible apply reload_fr
  with_reducible assumption
  exact List.Subset.trans (by decide) hl
  refine Fr.ite ?_ ?_
  with_reducible apply abandon_fr
  with_reducible assumption
  exact List.Subset.trans (by decide) hl
  refine Fr.ite ?_ ?_
  with_reducible apply invalidateBank_fr
  with_reducible assumption
  exact List.Subset.trans (by decide) hl
  refine Fr.ite ?_ ?_
  with_reducible apply setMinGen_fr
  with_reducible assumption
  exact List.Subset.trans (by decide) hl
  refine Fr.ite ?_ ?_
  with_reducible apply nvmStore_fr
  with_reducible assumption
  exact List.Subset.trans (by decide) hl
  refine Fr.ite ?_ ?_
  with_reducible apply settingsWrite_fr
  with_reducible assumption
  exact List.Subset.trans (by decide) hl
  refine Fr.ite ?_ ?_
  with_reducible apply settingsRevert_fr
  with_reducible assumption
  exact List.Subset.trans (by decide) hl
  refine Fr.ite ?_ ?_
  with_reducible apply settingsRead_fr
  with_reducible assumption
  exact List.Subset.trans (by decide) hl
  with_reducible apply State.badCode_fr
  with_reducible assumption
  exact List.Subset.trans (by decide) hl

theorem bcnStep_fr {s : State} {rsv : Nat} {arg : Nat} (hz : Fr l z s) (hl : [.out, .regs, .cmds, .once, .time,
      .log, .evt, .img, .bcn, .pln, .svi, .cnd, .hst, .kpr, .gal, .pub] ⊆ l) :
    Fr l z (bcnStep rsv arg s) := by
  unfold bcnStep
  with_reducible apply State.runCmd_fr
  with_reducible assumption
  intro x2_0 x2_1
  with_reducible apply State.stepIfIdle_fr
  refine Fr.upd ?_ (c12 := .inl (hl (by decide)))
  with_reducible assumption
  exact hl
  exact List.Subset.trans (by decide) hl

theorem selectDomain_fr {s : State} {rsv : Nat} {arg : Nat} (hz : Fr l z s) (hl : [.regs, .cmds, .log, .evt,
      .bcn] ⊆ l) :
    Fr l z (selectDomain rsv arg s) := by
  unfold selectDomain
  with_reducible apply State.runCmd_fr
  with_reducible assumption
  intro x2_0 x2_1
  refine Fr.ite ?_ ?_
  with_reducible apply State.cmdDone_fr
  with_reducible assumption
  exact List.Subset.trans (by decide) hl
  extract_lets +onlyGivenNames q7; clear_value q7
  extract_lets +onlyGivenNames q9; refine Fr.cut (a := q9) ?_ (fun _ => ?_)
  rotate_left; clear_value q9; rotate_right; unfold q9
  refine Fr.ite ?_ ?_
  refine Fr.upd ?_ (c12 := .inl (hl (by decide)))
  with_reducible assumption
  with_reducible apply State.converge_fr
  with_reducible assumption
  exact List.Subset.trans (by decide) hl
  refine Fr.upd ?_ (c12 := .inl (hl (by decide)))
  with_reducible assumption
  exact List.Subset.trans (by decide) hl

theorem asymMeasure_fr {s : State} {rsv : Nat} {arg : Nat} (hz : Fr l z s) (hl : [.regs, .cmds, .log, .evt,
      .bcn] ⊆ l) :
    Fr l z (asymMeasure rsv arg s) := by
  unfold asymMeasure
  with_reducible apply State.runCmd_fr
  with_reducible assumption
  intro x2_0 x2_1
  extract_lets +onlyGivenNames q3; clear_value q3
  with_reducible apply State.setAsym_fr
  with_reducible assumption
  exact List.Subset.trans (by decide) hl
  exact List.Subset.trans (by decide) hl

theorem asymApply_fr {s : State} {rsv : Nat} {arg : Nat} (hz : Fr l z s) (hl : [.regs, .cmds, .log, .evt, .bcn] ⊆ l) :
    Fr l z (asymApply rsv arg s) := by
  unfold asymApply
  with_reducible apply State.runCmd_fr
  with_reducible assumption
  intro x2_0 x2_1
  with_reducible apply State.cmdDone_fr
  with_reducible apply State.asymAdopt_fr
  with_reducible assumption
  exact List.Subset.trans (by decide) hl
  exact List.Subset.trans (by decide) hl
  exact List.Subset.trans (by decide) hl

theorem asymKeep_fr {s : State} {rsv : Nat} {arg : Nat} (hz : Fr l z s) (hl : [.regs, .cmds, .log, .evt, .bcn] ⊆ l) :
    Fr l z (asymKeep rsv arg s) := by
  unfold asymKeep
  extract_lets +onlyGivenNames q0; clear_value q0
  with_reducible apply State.runCmd_fr
  with_reducible assumption
  intro x4_0 x4_1
  with_reducible apply State.cmdDone_fr
  with_reducible apply State.setAsym_fr
  with_reducible assumption
  exact List.Subset.trans (by decide) hl
  exact List.Subset.trans (by decide) hl
  exact List.Subset.trans (by decide) hl

theorem bcnCommand_fr {s : State} {code : Nat} {rsv : Nat} {arg : Nat} (hz : Fr l z s) (hl : [.out, .regs, .cmds,
      .once, .time, .log, .evt, .img, .bcn, .pln, .svi, .cnd, .hst, .kpr, .gal, .pub] ⊆ l) :
    Fr l z (bcnCommand code rsv arg s) := by
  unfold bcnCommand
  refine Fr.ite ?_ ?_
  with_reducible apply bcnStep_fr
  with_reducible assumption
  exact hl
  refine Fr.ite ?_ ?_
  with_reducible apply selectDomain_fr
  with_reducible assumption
  exact List.Subset.trans (by decide) hl
  refine Fr.ite ?_ ?_
  with_reducible apply asymMeasure_fr
  with_reducible assumption
  exact List.Subset.trans (by decide) hl
  refine Fr.ite ?_ ?_
  with_reducible apply asymApply_fr
  with_reducible assumption
  exact List.Subset.trans (by decide) hl
  refine Fr.ite ?_ ?_
  with_reducible apply asymKeep_fr
  with_reducible assumption
  exact List.Subset.trans (by decide) hl
  with_reducible apply State.badCode_fr
  with_reducible assumption
  exact List.Subset.trans (by decide) hl

theorem ntFlush_fr {s : State} {rsv : Nat} {arg : Nat} (hz : Fr l z s) (hl : [.regs, .cmds, .log, .evt, .rdg] ⊆ l) :
    Fr l z (ntFlush rsv arg s) := by
  unfold ntFlush
  with_reducible apply State.runCmd_fr
  with_reducible assumption
  intro x2_0 x2_1
  with_reducible apply State.cmdDone_fr
  refine Fr.upd ?_ (c14 := .inl (hl (by decide)))
  with_reducible assumption
  exact List.Subset.trans (by decide) hl
  exact List.Subset.trans (by decide) hl

theorem State.planesNow_fr {s : State} (hz : Fr l z s) (hl : [.rdg] ⊆ l) :
    Fr l z (State.planesNow s) := by
  unfold State.planesNow
  extract_lets +onlyGivenNames q0; clear_value q0
  refine Fr.upd ?_ (c14 := .inl (hl (by decide)))
  with_reducible assumption

theorem planeSelect_fr {s : State} {rsv : Nat} {arg : Nat} (hz : Fr l z s) (hl : [.regs, .cmds, .log, .evt,
      .rdg] ⊆ l) :
    Fr l z (planeSelect rsv arg s) := by
  unfold planeSelect
  with_reducible apply State.runCmd_fr
  with_reducible assumption
  intro x2_0 x2_1
  with_reducible apply State.cmdDone_fr
  with_reducible apply State.planesNow_fr
  refine Fr.upd ?_ (c14 := .inl (hl (by decide)))
  with_reducible assumption
  exact List.Subset.trans (by decide) hl
  exact List.Subset.trans (by decide) hl
  exact List.Subset.trans (by decide) hl

theorem holddownEnd_fr {s : State} {rsv : Nat} {arg : Nat} (hz : Fr l z s) (hl : [.regs, .cmds, .log, .evt, .bcn,
      .ports] ⊆ l) :
    Fr l z (holddownEnd rsv arg s) := by
  unfold holddownEnd
  with_reducible apply State.runCmd_fr
  with_reducible assumption
  intro x2_0 x2_1
  with_reducible apply State.cmdDone_fr
  with_reducible apply State.endHold_fr
  with_reducible assumption
  exact List.Subset.trans (by decide) hl
  exact List.Subset.trans (by decide) hl
  exact List.Subset.trans (by decide) hl

theorem rdgCommand_fr {s : State} {code : Nat} {rsv : Nat} {arg : Nat} (hz : Fr l z s) (hl : [.regs, .cmds, .log,
      .evt, .bcn, .ports, .rdg] ⊆ l) :
    Fr l z (rdgCommand code rsv arg s) := by
  unfold rdgCommand
  split
  with_reducible apply ntFlush_fr
  with_reducible assumption
  exact List.Subset.trans (by decide) hl
  with_reducible apply planeSelect_fr
  with_reducible assumption
  exact List.Subset.trans (by decide) hl
  with_reducible apply holddownEnd_fr
  with_reducible assumption
  exact List.Subset.trans (by decide) hl
  with_reducible apply State.badCode_fr
  with_reducible assumption
  exact List.Subset.trans (by decide) hl

theorem State.sviPlan_fr {s : State} {code : Nat} {rsv : Nat} {arg : Nat} {ok : Bool} (hz : Fr l z s)
    (hl : [.regs, .cmds, .log, .evt, .svi] ⊆ l) :
    Fr l z (State.sviPlan s code rsv arg ok) := by
  unfold State.sviPlan
  extract_lets +onlyGivenNames q0; clear_value q0
  with_reducible apply State.runCmd_fr
  with_reducible assumption
  intro x4_0 x4_1
  refine Fr.upd ?_ (c20 := .inl (hl (by decide)))
  with_reducible assumption
  exact List.Subset.trans (by decide) hl

theorem substForce_fr {s : State} {rsv : Nat} {arg : Nat} (hz : Fr l z s) (hl : [.regs, .cmds, .log, .evt,
      .svi] ⊆ l) :
    Fr l z (substForce rsv arg s) := by
  unfold substForce
  extract_lets +onlyGivenNames q0; clear_value q0
  with_reducible apply State.sviPlan_fr
  with_reducible assumption
  exact hl

theorem substRelease_fr {s : State} {rsv : Nat} {arg : Nat} (hz : Fr l z s) (hl : [.regs, .cmds, .log, .evt,
      .svi] ⊆ l) :
    Fr l z (substRelease rsv arg s) := by
  unfold substRelease
  with_reducible apply State.sviPlan_fr
  with_reducible assumption
  exact hl

theorem sviCommand_fr {s : State} {code : Nat} {rsv : Nat} {arg : Nat} (hz : Fr l z s) (hl : [.regs, .cmds, .log,
      .evt, .svi] ⊆ l) :
    Fr l z (sviCommand code rsv arg s) := by
  unfold sviCommand
  split
  with_reducible apply substForce_fr
  with_reducible assumption
  exact hl
  with_reducible apply substRelease_fr
  with_reducible assumption
  exact hl
  with_reducible apply State.badCode_fr
  with_reducible assumption
  exact List.Subset.trans (by decide) hl

theorem State.syncApply_fr {s : State} {p : SyncPend} {same : List SyncPend} (hz : Fr l z s) (hl : [.out, .regs,
      .cmds, .log, .evt, .pln, .cnd, .kpr] ⊆ l) :
    Fr l z (State.syncApply s p same) := by
  unfold State.syncApply
  extract_lets +onlyGivenNames q0; clear_value q0
  extract_lets +onlyGivenNames q2; refine Fr.cut (a := q2) ?_ (fun _ => ?_)
  rotate_left; clear_value q2; rotate_right; unfold q2
  refine Fr.ite ?_ ?_
  with_reducible apply State.syncRelease_fr
  with_reducible assumption
  exact List.Subset.trans (by decide) hl
  with_reducible assumption
  refine Fr.ite ?_ ?_
  extract_lets +onlyGivenNames q14; refine Fr.cut (a := q14) ?_ (fun _ => ?_)
  rotate_left; clear_value q14; rotate_right; unfold q14
  with_reducible apply State.chainSync_fr
  with_reducible assumption
  exact List.Subset.trans (by decide) hl
  extract_lets +onlyGivenNames q23; clear_value q23
  extract_lets +onlyGivenNames q25; refine Fr.cut (a := q25) ?_ (fun _ => ?_)
  rotate_left; clear_value q25; rotate_right; unfold q25
  refine Fr.upd ?_ (c21 := .inl (hl (by decide)))
  with_reducible assumption
  refine Fr.ite ?_ ?_
  with_reducible apply State.cmdDone_fr
  with_reducible assumption
  exact List.Subset.trans (by decide) hl
  with_reducible assumption
  refine Fr.ite ?_ ?_
  with_reducible apply State.cmdEndRefused_fr
  with_reducible assumption
  exact List.Subset.trans (by decide) hl
  with_reducible assumption

theorem State.syncDue_fr {s : State} (hz : Fr l z s) (hl : [.out, .regs, .cmds, .log, .evt, .pln, .cnd, .kpr] ⊆ l) :
    Fr l z (State.syncDue s) := by
  unfold State.syncDue
  split
  with_reducible assumption
  extract_lets +onlyGivenNames q2; clear_value q2
  extract_lets +onlyGivenNames q4; clear_value q4
  extract_lets +onlyGivenNames q6; refine Fr.cut (a := q6) ?_ (fun _ => ?_)
  rotate_left; clear_value q6; rotate_right; unfold q6
  refine Fr.upd ?_ (c21 := .inl (hl (by decide)))
  with_reducible assumption
  with_reducible apply State.syncApply_fr
  with_reducible assumption
  exact hl

theorem chainSyncCmd_fr {s : State} {rsv : Nat} {arg : Nat} (hz : Fr l z s) (hl : [.out, .regs, .cmds, .log, .evt,
      .pln, .cnd, .kpr] ⊆ l) :
    Fr l z (chainSyncCmd rsv arg s) := by
  unfold chainSyncCmd
  with_reducible apply State.runCmd_fr
  with_reducible assumption
  intro x2_0 x2_1
  refine Fr.ite ?_ ?_
  with_reducible apply State.syncAdd_fr
  with_reducible assumption
  exact List.Subset.trans (by decide) hl
  refine Fr.ite ?_ ?_
  with_reducible apply State.syncAdd_fr
  with_reducible assumption
  exact List.Subset.trans (by decide) hl
  with_reducible apply State.syncDue_fr
  with_reducible apply State.syncAdd_fr
  with_reducible assumption
  exact List.Subset.trans (by decide) hl
  exact hl
  exact List.Subset.trans (by decide) hl

theorem cndCommand_fr {s : State} {code : Nat} {rsv : Nat} {arg : Nat} (hz : Fr l z s) (hl : [.out, .regs, .cmds,
      .log, .evt, .pln, .cnd, .kpr] ⊆ l) :
    Fr l z (cndCommand code rsv arg s) := by
  unfold cndCommand
  refine Fr.ite ?_ ?_
  with_reducible apply chainSyncCmd_fr
  with_reducible assumption
  exact hl
  with_reducible apply State.badCode_fr
  with_reducible assumption
  exact List.Subset.trans (by decide) hl

theorem scrub_fr {s : State} {rsv : Nat} {arg : Nat} (hz : Fr l z s) (hl : [.regs, .cmds, .log, .evt, .pln] ⊆ l) :
    Fr l z (scrub rsv arg s) := by
  unfold scrub
  with_reducible apply State.runCmd_fr
  with_reducible assumption
  intro x2_0 x2_1
  refine Fr.upd ?_ (c19 := .inl (hl (by decide)))
  with_reducible assumption
  exact List.Subset.trans (by decide) hl

theorem plnCommand_fr {s : State} {code : Nat} {rsv : Nat} {arg : Nat} (hz : Fr l z s) (hl : [.regs, .cmds, .log,
      .evt, .pln] ⊆ l) :
    Fr l z (plnCommand code rsv arg s) := by
  unfold plnCommand
  refine Fr.ite ?_ ?_
  with_reducible apply scrub_fr
  with_reducible assumption
  exact hl
  with_reducible apply State.badCode_fr
  with_reducible assumption
  exact List.Subset.trans (by decide) hl

theorem move_fr {s : State} {rsv : Nat} {arg : Nat} (hz : Fr l z s) (hl : [.regs, .cmds, .log, .evt, .kpr] ⊆ l) :
    Fr l z (move rsv arg s) := by
  unfold move
  extract_lets +onlyGivenNames q0; clear_value q0
  split
  with_reducible apply State.runCmd_fr
  with_reducible assumption
  intro x5_0 x5_1
  assumption
  exact List.Subset.trans (by decide) hl
  with_reducible apply State.runCmd_fr
  with_reducible assumption
  intro x10_0 x10_1
  extract_lets +onlyGivenNames q11; refine Fr.cut (a := q11) ?_ (fun _ => ?_)
  rotate_left; clear_value q11; rotate_right; unfold q11
  refine Fr.foldl ?_ ?_
  with_reducible assumption
  intro x19_0 x19_1 x19_2
  with_reducible apply State.setFn_fr
  with_reducible assumption
  exact List.Subset.trans (by decide) hl
  refine Fr.upd ?_ (c24 := .inl (hl (by decide)))
  with_reducible assumption
  exact List.Subset.trans (by decide) hl

theorem funcRestart_fr {s : State} {rsv : Nat} {arg : Nat} (hz : Fr l z s) (hl : [.regs, .cmds, .log, .evt,
      .kpr] ⊆ l) :
    Fr l z (funcRestart rsv arg s) := by
  unfold funcRestart
  extract_lets +onlyGivenNames q0; clear_value q0
  extract_lets +onlyGivenNames q2; clear_value q2
  split
  with_reducible apply State.runCmd_fr
  with_reducible assumption
  intro x7_0 x7_1
  assumption
  exact List.Subset.trans (by decide) hl
  with_reducible apply State.runCmd_fr
  with_reducible assumption
  intro x12_0 x12_1
  refine Fr.upd ?_ (c24 := .inl (hl (by decide)))
  with_reducible assumption
  exact List.Subset.trans (by decide) hl

theorem keeperReturn_fr {s : State} {rsv : Nat} {arg : Nat} (hz : Fr l z s) (hl : [.regs, .cmds, .log, .evt,
      .kpr] ⊆ l) :
    Fr l z (keeperReturn rsv arg s) := by
  unfold keeperReturn
  with_reducible apply State.runCmd_fr
  with_reducible assumption
  intro x2_0 x2_1
  extract_lets +onlyGivenNames q3; clear_value q3
  extract_lets +onlyGivenNames q5; refine Fr.cut (a := q5) ?_ (fun _ => ?_)
  rotate_left; clear_value q5; rotate_right; unfold q5
  with_reducible apply State.setKeeper_fr
  with_reducible assumption
  exact List.Subset.trans (by decide) hl
  refine Fr.upd ?_ (c24 := .inl (hl (by decide)))
  with_reducible assumption
  exact List.Subset.trans (by decide) hl

theorem kprCommand_fr {s : State} {code : Nat} {rsv : Nat} {arg : Nat} (hz : Fr l z s) (hl : [.regs, .cmds, .log,
      .evt, .kpr] ⊆ l) :
    Fr l z (kprCommand code rsv arg s) := by
  unfold kprCommand
  refine Fr.ite ?_ ?_
  with_reducible apply move_fr
  with_reducible assumption
  exact hl
  refine Fr.ite ?_ ?_
  with_reducible apply funcRestart_fr
  with_reducible assumption
  exact hl
  refine Fr.ite ?_ ?_
  with_reducible apply keeperReturn_fr
  with_reducible assumption
  exact hl
  with_reducible apply State.badCode_fr
  with_reducible assumption
  exact List.Subset.trans (by decide) hl

theorem subRestartCmd_fr {s : State} {rsv : Nat} {arg : Nat} (hz : Fr l z s) (hl : [.regs, .cmds, .log, .evt,
      .pub] ⊆ l) :
    Fr l z (subRestartCmd rsv arg s) := by
  unfold subRestartCmd
  extract_lets +onlyGivenNames q0; clear_value q0
  with_reducible apply State.runCmd_fr
  with_reducible assumption
  intro x4_0 x4_1
  refine Fr.upd ?_ (c26 := .inl (hl (by decide)))
  with_reducible assumption
  exact List.Subset.trans (by decide) hl

theorem pubCommand_fr {s : State} {code : Nat} {rsv : Nat} {arg : Nat} (hz : Fr l z s) (hl : [.regs, .cmds, .log,
      .evt, .pub] ⊆ l) :
    Fr l z (pubCommand code rsv arg s) := by
  unfold pubCommand
  refine Fr.ite ?_ ?_
  with_reducible apply subRestartCmd_fr
  with_reducible assumption
  exact hl
  with_reducible apply State.badCode_fr
  with_reducible assumption
  exact List.Subset.trans (by decide) hl

theorem pairAlign_fr {s : State} {rsv : Nat} {arg : Nat} (hz : Fr l z s) (hl : [.out, .regs, .cmds, .log, .evt,
      .pair] ⊆ l) :
    Fr l z (pairAlign rsv arg s) := by
  unfold pairAlign
  with_reducible apply State.runCmd_fr
  with_reducible assumption
  intro x2_0 x2_1
  refine Fr.ite ?_ ?_
  with_reducible assumption
  with_reducible apply State.alignRequest_fr
  with_reducible assumption
  exact List.Subset.trans (by decide) hl
  exact List.Subset.trans (by decide) hl

theorem handbackNow_fr {s : State} {rsv : Nat} {arg : Nat} (hz : Fr l z s) (hl : [.out, .regs, .cmds, .log, .evt,
      .pair] ⊆ l) :
    Fr l z (handbackNow rsv arg s) := by
  unfold handbackNow
  with_reducible apply State.runCmd_fr
  with_reducible assumption
  intro x2_0 x2_1
  with_reducible apply State.exRequest_fr
  with_reducible assumption
  exact List.Subset.trans (by decide) hl
  exact List.Subset.trans (by decide) hl

theorem hbInhibit_fr {s : State} {rsv : Nat} {arg : Nat} (hz : Fr l z s) (hl : [.regs, .cmds, .log, .evt,
      .pair] ⊆ l) :
    Fr l z (hbInhibit rsv arg s) := by
  unfold hbInhibit
  with_reducible apply State.runCmd_fr
  with_reducible assumption
  intro x2_0 x2_1
  with_reducible apply State.pairTrack_fr
  with_reducible apply State.cmdDone_fr
  refine Fr.upd ?_ (c27 := .inl (hl (by decide)))
  with_reducible assumption
  exact List.Subset.trans (by decide) hl
  exact List.Subset.trans (by decide) hl
  exact List.Subset.trans (by decide) hl

theorem divergeClear_fr {s : State} {rsv : Nat} {arg : Nat} (hz : Fr l z s) (hl : [.regs, .cmds, .log, .evt,
      .pair] ⊆ l) :
    Fr l z (divergeClear rsv arg s) := by
  unfold divergeClear
  with_reducible apply State.runCmd_fr
  with_reducible assumption
  intro x2_0 x2_1
  with_reducible apply State.pairTrack_fr
  with_reducible apply State.cmdDone_fr
  refine Fr.upd ?_ (c27 := .inl (hl (by decide)))
  with_reducible assumption
  exact List.Subset.trans (by decide) hl
  exact List.Subset.trans (by decide) hl
  exact List.Subset.trans (by decide) hl

theorem pairCommand_fr {s : State} {code : Nat} {rsv : Nat} {arg : Nat} (hz : Fr l z s) (hl : [.out, .regs, .cmds,
      .log, .evt, .pair] ⊆ l) :
    Fr l z (pairCommand code rsv arg s) := by
  unfold pairCommand
  refine Fr.ite ?_ ?_
  with_reducible apply pairAlign_fr
  with_reducible assumption
  exact hl
  refine Fr.ite ?_ ?_
  with_reducible apply handbackNow_fr
  with_reducible assumption
  exact hl
  refine Fr.ite ?_ ?_
  with_reducible apply hbInhibit_fr
  with_reducible assumption
  exact List.Subset.trans (by decide) hl
  refine Fr.ite ?_ ?_
  with_reducible apply divergeClear_fr
  with_reducible assumption
  exact List.Subset.trans (by decide) hl
  with_reducible apply State.badCode_fr
  with_reducible assumption
  exact List.Subset.trans (by decide) hl

theorem lmpGenerate_fr {s : State} {rsv : Nat} {arg : Nat} (hz : Fr l z s) (hl : [.regs, .cmds, .log, .evt,
      .lmp] ⊆ l) :
    Fr l z (lmpGenerate rsv arg s) := by
  unfold lmpGenerate
  with_reducible apply State.runCmd_fr
  with_reducible assumption
  intro x2_0 x2_1
  extract_lets +onlyGivenNames q3; clear_value q3
  split
  extract_lets +onlyGivenNames q6; clear_value q6
  with_reducible apply State.lmpStart_fr
  refine Fr.upd ?_ (c22 := .inl (hl (by decide)))
  with_reducible assumption
  exact List.Subset.trans (by decide) hl
  exact List.Subset.trans (by decide) hl

theorem lmpImport_fr {s : State} {rsv : Nat} {arg : Nat} {buf : List Byte} (hz : Fr l z s) (hl : [.regs, .cmds,
      .log, .evt, .lmp] ⊆ l) :
    Fr l z (lmpImport rsv arg buf s) := by
  unfold lmpImport
  extract_lets +onlyGivenNames q0; clear_value q0
  extract_lets +onlyGivenNames q2; clear_value q2
  extract_lets +onlyGivenNames q4; clear_value q4
  with_reducible apply State.runCmd_fr
  with_reducible assumption
  intro x8_0 x8_1
  extract_lets +onlyGivenNames q9; clear_value q9
  refine Fr.ite ?_ ?_
  with_reducible apply State.lmpStart_fr
  with_reducible assumption
  exact List.Subset.trans (by decide) hl
  split
  with_reducible apply State.lmpStart_fr
  with_reducible assumption
  exact List.Subset.trans (by decide) hl
  with_reducible apply State.lmpStart_fr
  with_reducible assumption
  exact List.Subset.trans (by decide) hl
  exact List.Subset.trans (by decide) hl

theorem lmpUpdate_fr {s : State} {rsv : Nat} {arg : Nat} {buf : List Byte} (hz : Fr l z s) (hl : [.regs, .cmds,
      .log, .evt, .lmp] ⊆ l) :
    Fr l z (lmpUpdate rsv arg buf s) := by
  unfold lmpUpdate
  extract_lets +onlyGivenNames q0; clear_value q0
  with_reducible apply State.runCmd_fr
  with_reducible assumption
  intro x4_0 x4_1
  extract_lets +onlyGivenNames q5; clear_value q5
  extract_lets +onlyGivenNames q7; clear_value q7
  refine Fr.ite ?_ ?_
  with_reducible apply State.lmpStart_fr
  with_reducible assumption
  exact List.Subset.trans (by decide) hl
  split
  refine Fr.ite ?_ ?_
  with_reducible apply State.lmpStart_fr
  with_reducible assumption
  exact List.Subset.trans (by decide) hl
  refine Fr.ite ?_ ?_
  with_reducible apply State.lmpStart_fr
  with_reducible assumption
  exact List.Subset.trans (by decide) hl
  with_reducible apply State.lmpStart_fr
  with_reducible assumption
  exact List.Subset.trans (by decide) hl
  with_reducible apply State.lmpStart_fr
  with_reducible assumption
  exact List.Subset.trans (by decide) hl
  exact List.Subset.trans (by decide) hl

theorem lmpClear_fr {s : State} {rsv : Nat} {arg : Nat} (hz : Fr l z s) (hl : [.regs, .cmds, .log, .evt, .lmp] ⊆ l) :
    Fr l z (lmpClear rsv arg s) := by
  unfold lmpClear
  with_reducible apply State.runCmd_fr
  with_reducible assumption
  intro x2_0 x2_1
  with_reducible apply State.lmpStart_fr
  with_reducible assumption
  exact List.Subset.trans (by decide) hl
  exact List.Subset.trans (by decide) hl

theorem lmpAttest_fr {s : State} {rsv : Nat} {arg : Nat} {buf : List Byte} (hz : Fr l z s) (hl : [.regs, .cmds,
      .log, .evt, .lmp] ⊆ l) :
    Fr l z (lmpAttest rsv arg buf s) := by
  unfold lmpAttest
  with_reducible apply State.runCmd_fr
  with_reducible assumption
  intro x2_0 x2_1
  refine Fr.ite ?_ ?_
  with_reducible apply State.lmpStart_fr
  with_reducible assumption
  exact List.Subset.trans (by decide) hl
  refine Fr.ite ?_ ?_
  with_reducible apply State.lmpStart_fr
  with_reducible assumption
  exact List.Subset.trans (by decide) hl
  with_reducible apply State.lmpStart_fr
  with_reducible assumption
  exact List.Subset.trans (by decide) hl
  exact List.Subset.trans (by decide) hl

theorem lmpReadPublic_fr {s : State} {rsv : Nat} {arg : Nat} (hz : Fr l z s) (hl : [.regs, .cmds, .log, .evt,
      .lmp] ⊆ l) :
    Fr l z (lmpReadPublic rsv arg s) := by
  unfold lmpReadPublic
  with_reducible apply State.runCmd_fr
  with_reducible assumption
  intro x2_0 x2_1
  extract_lets +onlyGivenNames q3; clear_value q3
  refine Fr.ite ?_ ?_
  with_reducible apply State.lmpStart_fr
  with_reducible assumption
  exact List.Subset.trans (by decide) hl
  with_reducible apply State.lmpStart_fr
  with_reducible assumption
  exact List.Subset.trans (by decide) hl
  exact List.Subset.trans (by decide) hl

theorem lmpReadCert_fr {s : State} {rsv : Nat} {arg : Nat} (hz : Fr l z s) (hl : [.regs, .cmds, .log, .evt,
      .lmp] ⊆ l) :
    Fr l z (lmpReadCert rsv arg s) := by
  unfold lmpReadCert
  extract_lets +onlyGivenNames q0; clear_value q0
  with_reducible apply State.runCmd_fr
  with_reducible assumption
  intro x4_0 x4_1
  with_reducible apply State.lmpStart_fr
  with_reducible assumption
  exact List.Subset.trans (by decide) hl
  exact List.Subset.trans (by decide) hl

theorem lmpStoreCert_fr {s : State} {rsv : Nat} {arg : Nat} {buf : List Byte} (hz : Fr l z s) (hl : [.regs, .cmds,
      .log, .evt, .lmp] ⊆ l) :
    Fr l z (lmpStoreCert rsv arg buf s) := by
  unfold lmpStoreCert
  extract_lets +onlyGivenNames q0; clear_value q0
  extract_lets +onlyGivenNames q2; clear_value q2
  extract_lets +onlyGivenNames q4; clear_value q4
  extract_lets +onlyGivenNames q6; clear_value q6
  extract_lets +onlyGivenNames q8; clear_value q8
  with_reducible apply State.runCmd_fr
  with_reducible assumption
  intro x12_0 x12_1
  refine Fr.ite ?_ ?_
  with_reducible apply State.lmpStart_fr
  with_reducible assumption
  exact List.Subset.trans (by decide) hl
  with_reducible apply State.lmpStart_fr
  with_reducible assumption
  exact List.Subset.trans (by decide) hl
  exact List.Subset.trans (by decide) hl

theorem lmpOperate_fr {s : State} {rsv : Nat} {arg : Nat} {buf : List Byte} (hz : Fr l z s) (hl : [.regs, .cmds,
      .log, .evt, .lmp] ⊆ l) :
    Fr l z (lmpOperate rsv arg buf s) := by
  unfold lmpOperate
  extract_lets +onlyGivenNames q0; clear_value q0
  extract_lets +onlyGivenNames q2; clear_value q2
  extract_lets +onlyGivenNames q4; clear_value q4
  extract_lets +onlyGivenNames q6; clear_value q6
  extract_lets +onlyGivenNames q8; clear_value q8
  with_reducible apply State.runCmd_fr
  with_reducible assumption
  intro x12_0 x12_1
  refine Fr.ite ?_ ?_
  with_reducible apply State.lmpStart_fr
  with_reducible assumption
  exact List.Subset.trans (by decide) hl
  refine Fr.ite ?_ ?_
  with_reducible apply State.lmpStart_fr
  with_reducible assumption
  exact List.Subset.trans (by decide) hl
  refine Fr.ite ?_ ?_
  split
  with_reducible apply State.lmpStart_fr
  with_reducible assumption
  exact List.Subset.trans (by decide) hl
  with_reducible apply State.lmpStart_fr
  with_reducible assumption
  exact List.Subset.trans (by decide) hl
  exact List.Subset.trans (by decide) hl

theorem lmpProvision_fr {s : State} {rsv : Nat} {arg : Nat} {buf : List Byte} (hz : Fr l z s) (hl : [.regs, .cmds,
      .log, .evt, .lmp] ⊆ l) :
    Fr l z (lmpProvision rsv arg buf s) := by
  unfold lmpProvision
  extract_lets +onlyGivenNames q0; clear_value q0
  with_reducible apply State.runCmd_fr
  with_reducible assumption
  intro x4_0 x4_1
  refine Fr.ite ?_ ?_
  with_reducible apply State.lmpStart_fr
  with_reducible assumption
  exact List.Subset.trans (by decide) hl
  refine Fr.ite ?_ ?_
  with_reducible apply State.lmpStart_fr
  with_reducible assumption
  exact List.Subset.trans (by decide) hl
  with_reducible apply State.lmpStart_fr
  with_reducible assumption
  exact List.Subset.trans (by decide) hl
  exact List.Subset.trans (by decide) hl

theorem lmpDeploy_fr {s : State} {rsv : Nat} {arg : Nat} (hz : Fr l z s) (hl : [.regs, .cmds, .log, .evt, .lmp] ⊆ l) :
    Fr l z (lmpDeploy rsv arg s) := by
  unfold lmpDeploy
  with_reducible apply State.runCmd_fr
  with_reducible assumption
  intro x2_0 x2_1
  with_reducible apply State.lmpStart_fr
  with_reducible assumption
  exact List.Subset.trans (by decide) hl
  exact List.Subset.trans (by decide) hl

theorem lmpCommand_fr {s : State} {code : Nat} {rsv : Nat} {arg : Nat} {buf : List Byte} (hz : Fr l z s)
    (hl : [.regs, .cmds, .log, .evt, .lmp] ⊆ l) :
    Fr l z (lmpCommand code rsv arg buf s) := by
  unfold lmpCommand
  split
  with_reducible apply lmpGenerate_fr
  with_reducible assumption
  exact hl
  with_reducible apply lmpImport_fr
  with_reducible assumption
  exact hl
  with_reducible apply lmpUpdate_fr
  with_reducible assumption
  exact hl
  with_reducible apply lmpClear_fr
  with_reducible assumption
  exact hl
  with_reducible apply lmpAttest_fr
  with_reducible assumption
  exact hl
  with_reducible apply lmpReadPublic_fr
  with_reducible assumption
  exact hl
  with_reducible apply lmpReadCert_fr
  with_reducible assumption
  exact hl
  with_reducible apply lmpStoreCert_fr
  with_reducible assumption
  exact hl
  with_reducible apply lmpOperate_fr
  with_reducible assumption
  exact hl
  with_reducible apply lmpProvision_fr
  with_reducible assumption
  exact hl
  with_reducible apply lmpDeploy_fr
  with_reducible assumption
  exact hl
  with_reducible apply State.badCode_fr
  with_reducible assumption
  exact List.Subset.trans (by decide) hl

theorem galArm_fr {s : State} {rsv : Nat} {arg : Nat} (hz : Fr l z s) (hl : [.regs, .cmds, .log, .evt, .gal] ⊆ l) :
    Fr l z (galArm rsv arg s) := by
  unfold galArm
  with_reducible apply State.runCmd_fr
  with_reducible assumption
  intro x2_0 x2_1
  with_reducible apply State.cmdDone_fr
  with_reducible apply State.arming_fr
  with_reducible assumption
  exact List.Subset.trans (by decide) hl
  exact List.Subset.trans (by decide) hl
  exact List.Subset.trans (by decide) hl

theorem galDisarm_fr {s : State} {rsv : Nat} {arg : Nat} (hz : Fr l z s) (hl : [.out, .regs, .cmds, .log, .evt,
      .hst, .gal] ⊆ l) :
    Fr l z (galDisarm rsv arg s) := by
  unfold galDisarm
  with_reducible apply State.runCmd_fr
  with_reducible assumption
  intro x2_0 x2_1
  extract_lets +onlyGivenNames q3; refine Fr.cut (a := q3) ?_ (fun _ => ?_)
  rotate_left; clear_value q3; rotate_right; unfold q3
  with_reducible apply State.closeRec_fr
  with_reducible assumption
  exact List.Subset.trans (by decide) hl
  with_reducible apply State.cmdDone_fr
  with_reducible apply State.setProg_fr
  with_reducible assumption
  exact List.Subset.trans (by decide) hl
  exact List.Subset.trans (by decide) hl
  exact List.Subset.trans (by decide) hl

theorem galTrigger_fr {s : State} {rsv : Nat} {arg : Nat} (hz : Fr l z s) (hl : [.regs, .cmds, .log, .evt,
      .gal] ⊆ l) :
    Fr l z (galTrigger rsv arg s) := by
  unfold galTrigger
  with_reducible apply State.runCmd_fr
  with_reducible assumption
  intro x2_0 x2_1
  with_reducible apply State.setProg_fr
  with_reducible assumption
  exact List.Subset.trans (by decide) hl
  exact List.Subset.trans (by decide) hl

theorem galRelease_fr {s : State} {rsv : Nat} {arg : Nat} (hz : Fr l z s) (hl : [.regs, .cmds, .log, .evt,
      .gal] ⊆ l) :
    Fr l z (galRelease rsv arg s) := by
  unfold galRelease
  extract_lets +onlyGivenNames q0; clear_value q0
  extract_lets +onlyGivenNames q2; clear_value q2
  with_reducible apply State.runCmd_fr
  with_reducible assumption
  intro x6_0 x6_1
  extract_lets +onlyGivenNames q7; clear_value q7
  extract_lets +onlyGivenNames q9; clear_value q9
  extract_lets +onlyGivenNames q11; refine Fr.cut (a := q11) ?_ (fun _ => ?_)
  rotate_left; clear_value q11; rotate_right; unfold q11
  with_reducible apply State.setProg_fr
  with_reducible assumption
  exact List.Subset.trans (by decide) hl
  extract_lets +onlyGivenNames q20; refine Fr.cut (a := q20) ?_ (fun _ => ?_)
  rotate_left; clear_value q20; rotate_right; unfold q20
  refine Fr.ite ?_ ?_
  with_reducible apply State.arming_fr
  with_reducible assumption
  exact List.Subset.trans (by decide) hl
  with_reducible assumption
  with_reducible apply State.cmdDone_fr
  with_reducible assumption
  exact List.Subset.trans (by decide) hl
  exact List.Subset.trans (by decide) hl

theorem galCopy_fr {s : State} {rsv : Nat} {arg : Nat} (hz : Fr l z s) (hl : [.regs, .cmds, .log, .evt, .gal] ⊆ l) :
    Fr l z (galCopy rsv arg s) := by
  unfold galCopy
  extract_lets +onlyGivenNames q0; clear_value q0
  with_reducible apply State.runCmd_fr
  with_reducible assumption
  intro x4_0 x4_1
  with_reducible apply State.copyBegin_fr
  with_reducible assumption
  exact List.Subset.trans (by decide) hl
  exact List.Subset.trans (by decide) hl

theorem galCommand_fr {s : State} {code : Nat} {rsv : Nat} {arg : Nat} (hz : Fr l z s) (hl : [.out, .regs, .cmds,
      .log, .evt, .hst, .gal] ⊆ l) :
    Fr l z (galCommand code rsv arg s) := by
  unfold galCommand
  refine Fr.ite ?_ ?_
  with_reducible apply galArm_fr
  with_reducible assumption
  exact List.Subset.trans (by decide) hl
  refine Fr.ite ?_ ?_
  with_reducible apply galDisarm_fr
  with_reducible assumption
  exact hl
  refine Fr.ite ?_ ?_
  with_reducible apply galTrigger_fr
  with_reducible assumption
  exact List.Subset.trans (by decide) hl
  refine Fr.ite ?_ ?_
  with_reducible apply galRelease_fr
  with_reducible assumption
  exact List.Subset.trans (by decide) hl
  refine Fr.ite ?_ ?_
  with_reducible apply galCopy_fr
  with_reducible assumption
  exact List.Subset.trans (by decide) hl
  with_reducible apply State.badCode_fr
  with_reducible assumption
  exact List.Subset.trans (by decide) hl

theorem logFreeze_fr {s : State} {rsv : Nat} {arg : Nat} (hz : Fr l z s) (hl : [.regs, .cmds, .log, .evt] ⊆ l) :
    Fr l z (logFreeze rsv arg s) := by
  unfold logFreeze
  with_reducible apply State.runCmd_fr
  with_reducible assumption
  intro x2_0 x2_1
  with_reducible apply State.cmdDone_fr
  refine Fr.upd ?_ (c9 := .inl (hl (by decide)))
  with_reducible assumption
  exact hl
  exact hl

theorem logUnfreeze_fr {s : State} {rsv : Nat} {arg : Nat} (hz : Fr l z s) (hl : [.regs, .cmds, .log, .evt] ⊆ l) :
    Fr l z (logUnfreeze rsv arg s) := by
  unfold logUnfreeze
  with_reducible apply State.runCmd_fr
  with_reducible assumption
  intro x2_0 x2_1
  refine Fr.upd ?_ (c9 := .inl (hl (by decide)))
  with_reducible assumption
  exact hl

theorem clearArm_fr {s : State} {q : Requester} {rsv : Nat} {arg : Nat} (hz : Fr l z s) (hl : [.regs, .cmds, .log,
      .evt] ⊆ l) :
    Fr l z (clearArm q rsv arg s) := by
  unfold clearArm
  with_reducible apply State.runCmd_fr
  with_reducible assumption
  intro x2_0 x2_1
  with_reducible apply State.cmdDone_fr
  refine Fr.upd ?_ (c9 := .inl (hl (by decide)))
  with_reducible assumption
  exact hl
  exact hl

theorem clearConfirm_fr {s : State} {q : Requester} {rsv : Nat} {arg : Nat} (hz : Fr l z s) (hl : [.regs, .cmds,
      .log, .evt] ⊆ l) :
    Fr l z (clearConfirm q rsv arg s) := by
  unfold clearConfirm
  with_reducible apply State.runCmd_fr
  with_reducible assumption
  intro x2_0 x2_1
  with_reducible apply State.cmdDone_fr
  with_reducible apply State.clearRings_fr
  with_reducible assumption
  exact List.Subset.trans (by decide) hl
  exact hl
  exact hl

theorem logCommand_fr {s : State} {q : Requester} {code : Nat} {rsv : Nat} {arg : Nat} (hz : Fr l z s)
    (hl : [.regs, .cmds, .log, .evt] ⊆ l) :
    Fr l z (logCommand q code rsv arg s) := by
  unfold logCommand
  refine Fr.ite ?_ ?_
  with_reducible apply logFreeze_fr
  with_reducible assumption
  exact hl
  refine Fr.ite ?_ ?_
  with_reducible apply logUnfreeze_fr
  with_reducible assumption
  exact hl
  refine Fr.ite ?_ ?_
  with_reducible apply clearArm_fr
  with_reducible assumption
  exact hl
  refine Fr.ite ?_ ?_
  with_reducible apply clearConfirm_fr
  with_reducible assumption
  exact hl
  with_reducible apply State.badCode_fr
  with_reducible assumption
  exact hl

end Sys2Proof.Machine
end

