-- ==== Sys2Proof/Laws/Frame5.lean ====
section
/-!
SUPPORT. What each operation may change, and that it keeps what every operation keeps (part 5).
-/

set_option Elab.async false

namespace Sys2Proof.Machine

open Sys2Proof

variable {l : List Part} {z : State}

theorem State.tellOwner_fr {s : State} {owned : Bool} {o : Nat} {v : Nat} (hz : Fr l z s) (hl : [.out, .regs,
      .hst] ⊆ l) :
    Fr l z (State.tellOwner s owned o v) := by
  unfold State.tellOwner
  refine Fr.ite ?_ ?_
  with_reducible apply State.vfEvent_fr
  with_reducible assumption
  exact hl
  with_reducible assumption

theorem queueAssign_fr {s : State} {rsv : Nat} {arg : Nat} (hz : Fr l z s) (hl : [.out, .regs, .cmds, .log, .evt,
      .hst] ⊆ l) :
    Fr l z (queueAssign rsv arg s) := by
  unfold queueAssign
  extract_lets +onlyGivenNames q0; clear_value q0
  extract_lets +onlyGivenNames q2; clear_value q2
  extract_lets +onlyGivenNames q4; clear_value q4
  extract_lets +onlyGivenNames q6; clear_value q6
  with_reducible apply State.runCmd_fr
  with_reducible assumption
  intro x10_0 x10_1
  extract_lets +onlyGivenNames q11; clear_value q11
  with_reducible apply State.hstNow_fr
  with_reducible apply State.tellOwner_fr
  with_reducible apply State.setQueue_fr
  with_reducible assumption
  exact List.Subset.trans (by decide) hl
  exact List.Subset.trans (by decide) hl
  exact hl
  exact List.Subset.trans (by decide) hl

theorem vectorAssign_fr {s : State} {rsv : Nat} {arg : Nat} (hz : Fr l z s) (hl : [.out, .regs, .cmds, .log, .evt,
      .hst] ⊆ l) :
    Fr l z (vectorAssign rsv arg s) := by
  unfold vectorAssign
  extract_lets +onlyGivenNames q0; clear_value q0
  extract_lets +onlyGivenNames q2; clear_value q2
  extract_lets +onlyGivenNames q4; clear_value q4
  extract_lets +onlyGivenNames q6; clear_value q6
  with_reducible apply State.runCmd_fr
  with_reducible assumption
  intro x10_0 x10_1
  extract_lets +onlyGivenNames q11; clear_value q11
  with_reducible apply State.hstNow_fr
  with_reducible apply State.tellOwner_fr
  with_reducible apply State.setVec_fr
  with_reducible assumption
  exact List.Subset.trans (by decide) hl
  exact List.Subset.trans (by decide) hl
  exact hl
  exact List.Subset.trans (by decide) hl

theorem windowSet_fr {s : State} {rsv : Nat} {arg : Nat} (hz : Fr l z s) (hl : [.regs, .cmds, .log, .evt, .hst] ⊆ l) :
    Fr l z (windowSet rsv arg s) := by
  unfold windowSet
  extract_lets +onlyGivenNames q0; clear_value q0
  extract_lets +onlyGivenNames q2; clear_value q2
  extract_lets +onlyGivenNames q4; clear_value q4
  extract_lets +onlyGivenNames q6; clear_value q6
  extract_lets +onlyGivenNames q8; clear_value q8
  split
  with_reducible apply State.runCmd_fr
  with_reducible assumption
  intro x13_0 x13_1
  assumption
  exact List.Subset.trans (by decide) hl
  with_reducible apply State.runCmd_fr
  with_reducible assumption
  intro x18_0 x18_1
  refine Fr.upd ?_ (c23 := .inl (hl (by decide)))
  with_reducible assumption
  exact List.Subset.trans (by decide) hl

theorem shareSet_fr {s : State} {rsv : Nat} {arg : Nat} (hz : Fr l z s) (hl : [.regs, .cmds, .log, .evt, .hst] ⊆ l) :
    Fr l z (shareSet rsv arg s) := by
  unfold shareSet
  extract_lets +onlyGivenNames q0; clear_value q0
  extract_lets +onlyGivenNames q2; clear_value q2
  extract_lets +onlyGivenNames q4; clear_value q4
  extract_lets +onlyGivenNames q6; clear_value q6
  extract_lets +onlyGivenNames q8; clear_value q8
  with_reducible apply State.runCmd_fr
  with_reducible assumption
  intro x12_0 x12_1
  refine Fr.upd ?_ (c23 := .inl (hl (by decide)))
  with_reducible assumption
  exact List.Subset.trans (by decide) hl

theorem mbxBind_fr {s : State} {rsv : Nat} {arg : Nat} (hz : Fr l z s) (hl : [.regs, .cmds, .log, .evt, .hst] ⊆ l) :
    Fr l z (mbxBind rsv arg s) := by
  unfold mbxBind
  extract_lets +onlyGivenNames q0; clear_value q0
  extract_lets +onlyGivenNames q2; clear_value q2
  with_reducible apply State.runCmd_fr
  with_reducible assumption
  intro x6_0 x6_1
  refine Fr.upd ?_ (c23 := .inl (hl (by decide)))
  with_reducible assumption
  exact List.Subset.trans (by decide) hl

theorem classifierSet_fr {s : State} {rsv : Nat} {arg : Nat} {buf : List Byte} (hz : Fr l z s) (hl : [.out, .regs,
      .cmds, .log, .evt, .hst] ⊆ l) :
    Fr l z (classifierSet rsv arg buf s) := by
  unfold classifierSet
  extract_lets +onlyGivenNames q0; clear_value q0
  extract_lets +onlyGivenNames q2; clear_value q2
  extract_lets +onlyGivenNames q4; clear_value q4
  extract_lets +onlyGivenNames q6; clear_value q6
  extract_lets +onlyGivenNames q8; clear_value q8
  with_reducible apply State.runCmd_fr
  with_reducible assumption
  intro x12_0 x12_1
  with_reducible apply State.hstNow_fr
  refine Fr.upd ?_ (c23 := .inl (hl (by decide)))
  with_reducible assumption
  exact hl
  exact List.Subset.trans (by decide) hl

theorem grantSet_fr {s : State} {rsv : Nat} {arg : Nat} (hz : Fr l z s) (hl : [.out, .regs, .cmds, .log, .evt,
      .hst] ⊆ l) :
    Fr l z (grantSet rsv arg s) := by
  unfold grantSet
  extract_lets +onlyGivenNames q0; clear_value q0
  extract_lets +onlyGivenNames q2; clear_value q2
  extract_lets +onlyGivenNames q4; clear_value q4
  with_reducible apply State.runCmd_fr
  with_reducible assumption
  intro x8_0 x8_1
  extract_lets +onlyGivenNames q9; clear_value q9
  extract_lets +onlyGivenNames q11; clear_value q11
  extract_lets +onlyGivenNames q13; refine Fr.cut (a := q13) ?_ (fun _ => ?_)
  rotate_left; clear_value q13; rotate_right; unfold q13
  refine Fr.ite ?_ ?_
  with_reducible assumption
  refine Fr.upd ?_ (c3 := .inl (hl (by decide)))
  with_reducible assumption
  with_reducible apply State.cmdDone_fr
  with_reducible apply State.vfEvent_fr
  with_reducible apply State.setFunc_fr
  with_reducible assumption
  exact List.Subset.trans (by decide) hl
  exact List.Subset.trans (by decide) hl
  exact List.Subset.trans (by decide) hl
  exact List.Subset.trans (by decide) hl

theorem attachSet_fr {s : State} {rsv : Nat} {arg : Nat} (hz : Fr l z s) (hl : [.out, .regs, .cmds, .once, .log,
      .evt, .ports, .prf, .pln, .cnd, .hst, .kpr, .gal] ⊆ l) :
    Fr l z (attachSet rsv arg s) := by
  unfold attachSet
  extract_lets +onlyGivenNames q0; clear_value q0
  with_reducible apply State.runCmd_fr
  with_reducible assumption
  intro x4_0 x4_1
  with_reducible apply State.flrByCmd_fr
  with_reducible apply State.setFunc_fr
  with_reducible assumption
  exact List.Subset.trans (by decide) hl
  exact hl
  exact List.Subset.trans (by decide) hl

theorem vfReset_fr {s : State} {rsv : Nat} {arg : Nat} (hz : Fr l z s) (hl : [.out, .regs, .cmds, .once, .log,
      .evt, .ports, .prf, .pln, .cnd, .hst, .kpr, .gal] ⊆ l) :
    Fr l z (vfReset rsv arg s) := by
  unfold vfReset
  with_reducible apply State.runCmd_fr
  with_reducible assumption
  intro x2_0 x2_1
  with_reducible apply State.flrByCmd_fr
  with_reducible assumption
  exact hl
  exact List.Subset.trans (by decide) hl

theorem hstCommand_fr {s : State} {code : Nat} {rsv : Nat} {arg : Nat} {buf : List Byte} (hz : Fr l z s)
    (hl : [.out, .regs, .cmds, .once, .log, .evt, .ports, .prf, .pln, .cnd, .hst, .kpr, .gal] ⊆ l) :
    Fr l z (hstCommand code rsv arg buf s) := by
  unfold hstCommand
  split
  with_reducible apply queueAssign_fr
  with_reducible assumption
  exact List.Subset.trans (by decide) hl
  with_reducible apply vectorAssign_fr
  with_reducible assumption
  exact List.Subset.trans (by decide) hl
  with_reducible apply windowSet_fr
  with_reducible assumption
  exact List.Subset.trans (by decide) hl
  with_reducible apply shareSet_fr
  with_reducible assumption
  exact List.Subset.trans (by decide) hl
  with_reducible apply mbxBind_fr
  with_reducible assumption
  exact List.Subset.trans (by decide) hl
  with_reducible apply classifierSet_fr
  with_reducible assumption
  exact List.Subset.trans (by decide) hl
  with_reducible apply grantSet_fr
  with_reducible assumption
  exact List.Subset.trans (by decide) hl
  with_reducible apply attachSet_fr
  with_reducible assumption
  exact hl
  with_reducible apply vfReset_fr
  with_reducible assumption
  exact hl
  with_reducible apply State.badCode_fr
  with_reducible assumption
  exact List.Subset.trans (by decide) hl

theorem ocClear_fr {s : State} {rsv : Nat} {arg : Nat} (hz : Fr l z s) (hl : [.out, .regs, .cmds, .log, .evt,
      .cdv] ⊆ l) :
    Fr l z (ocClear rsv arg s) := by
  unfold ocClear
  with_reducible apply State.runCmd_fr
  with_reducible assumption
  intro x2_0 x2_1
  with_reducible apply State.cmdDone_fr
  with_reducible apply State.setCoil_fr
  with_reducible assumption
  exact List.Subset.trans (by decide) hl
  exact List.Subset.trans (by decide) hl
  exact List.Subset.trans (by decide) hl

theorem cdvCommand_fr {s : State} {code : Nat} {rsv : Nat} {arg : Nat} (hz : Fr l z s) (hl : [.out, .regs, .cmds,
      .log, .evt, .cdv] ⊆ l) :
    Fr l z (cdvCommand code rsv arg s) := by
  unfold cdvCommand
  refine Fr.ite ?_ ?_
  with_reducible apply ocClear_fr
  with_reducible assumption
  exact hl
  with_reducible apply State.badCode_fr
  with_reducible assumption
  exact List.Subset.trans (by decide) hl

theorem canRecover_fr {s : State} {c : Nat} {rsv : Nat} {arg : Nat} (hz : Fr l z s) (hl : [.regs, .cmds, .log,
      .evt, .can] ⊆ l) :
    Fr l z (canRecover c rsv arg s) := by
  unfold canRecover
  with_reducible apply State.runCmd_fr
  with_reducible assumption
  intro x2_0 x2_1
  with_reducible apply State.setCan_fr
  with_reducible assumption
  exact List.Subset.trans (by decide) hl
  exact List.Subset.trans (by decide) hl

theorem abortTx_fr {s : State} {c : Nat} {rsv : Nat} {arg : Nat} (hz : Fr l z s) (hl : [.regs, .cmds, .log, .evt,
      .can] ⊆ l) :
    Fr l z (abortTx c rsv arg s) := by
  unfold abortTx
  with_reducible apply State.runCmd_fr
  with_reducible assumption
  intro x2_0 x2_1
  extract_lets +onlyGivenNames q3; clear_value q3
  refine Fr.ite ?_ ?_
  with_reducible apply State.setCan_fr
  with_reducible assumption
  exact List.Subset.trans (by decide) hl
  with_reducible apply State.cmdDone_fr
  with_reducible apply State.setCan_fr
  with_reducible assumption
  exact List.Subset.trans (by decide) hl
  exact List.Subset.trans (by decide) hl
  exact List.Subset.trans (by decide) hl

theorem abdStart_fr {s : State} {c : Nat} {rsv : Nat} {arg : Nat} (hz : Fr l z s) (hl : [.regs, .cmds, .log, .evt,
      .can] ⊆ l) :
    Fr l z (abdStart c rsv arg s) := by
  unfold abdStart
  with_reducible apply State.runCmd_fr
  with_reducible assumption
  intro x2_0 x2_1
  with_reducible apply State.setCan_fr
  with_reducible assumption
  exact List.Subset.trans (by decide) hl
  exact List.Subset.trans (by decide) hl

theorem canListen_fr {s : State} {c : Nat} {rsv : Nat} {arg : Nat} (hz : Fr l z s) (hl : [.regs, .cmds, .log,
      .evt, .can] ⊆ l) :
    Fr l z (canListen c rsv arg s) := by
  unfold canListen
  with_reducible apply State.runCmd_fr
  with_reducible assumption
  intro x2_0 x2_1
  with_reducible apply State.setCan_fr
  with_reducible assumption
  exact List.Subset.trans (by decide) hl
  exact List.Subset.trans (by decide) hl

theorem canCommand_fr {s : State} {c : Nat} {code : Nat} {rsv : Nat} {arg : Nat} (hz : Fr l z s) (hl : [.regs,
      .cmds, .log, .evt, .can] ⊆ l) :
    Fr l z (canCommand c code rsv arg s) := by
  unfold canCommand
  refine Fr.ite ?_ ?_
  with_reducible apply canRecover_fr
  with_reducible assumption
  exact hl
  refine Fr.ite ?_ ?_
  with_reducible apply abortTx_fr
  with_reducible assumption
  exact hl
  refine Fr.ite ?_ ?_
  with_reducible apply abdStart_fr
  with_reducible assumption
  exact hl
  refine Fr.ite ?_ ?_
  with_reducible apply canListen_fr
  with_reducible assumption
  exact hl
  with_reducible apply State.badCode_fr
  with_reducible assumption
  exact List.Subset.trans (by decide) hl

theorem snapshot_fr {s : State} {rsv : Nat} {arg : Nat} (hz : Fr l z s) (hl : [.regs, .cmds, .log, .evt, .prf] ⊆ l) :
    Fr l z (snapshot rsv arg s) := by
  unfold snapshot
  with_reducible apply State.runCmd_fr
  with_reducible assumption
  intro x2_0 x2_1
  extract_lets +onlyGivenNames q3; clear_value q3
  refine Fr.upd ?_ (c18 := .inl (hl (by decide)))
  with_reducible assumption
  exact List.Subset.trans (by decide) hl

theorem prfFreeze_fr {s : State} {rsv : Nat} {arg : Nat} (hz : Fr l z s) (hl : [.regs, .cmds, .log, .evt, .prf] ⊆ l) :
    Fr l z (prfFreeze rsv arg s) := by
  unfold prfFreeze
  with_reducible apply State.runCmd_fr
  with_reducible assumption
  intro x2_0 x2_1
  with_reducible apply State.cmdDone_fr
  refine Fr.upd ?_ (c18 := .inl (hl (by decide)))
  with_reducible assumption
  exact List.Subset.trans (by decide) hl
  exact List.Subset.trans (by decide) hl

theorem prfUnfreeze_fr {s : State} {rsv : Nat} {arg : Nat} (hz : Fr l z s) (hl : [.regs, .cmds, .log, .evt,
      .prf] ⊆ l) :
    Fr l z (prfUnfreeze rsv arg s) := by
  unfold prfUnfreeze
  with_reducible apply State.runCmd_fr
  with_reducible assumption
  intro x2_0 x2_1
  with_reducible apply State.cmdDone_fr
  refine Fr.upd ?_ (c18 := .inl (hl (by decide)))
  with_reducible assumption
  exact List.Subset.trans (by decide) hl
  exact List.Subset.trans (by decide) hl

theorem prfClear_fr {s : State} {rsv : Nat} {arg : Nat} (hz : Fr l z s) (hl : [.regs, .cmds, .log, .evt, .prf] ⊆ l) :
    Fr l z (prfClear rsv arg s) := by
  unfold prfClear
  with_reducible apply State.runCmd_fr
  with_reducible assumption
  intro x2_0 x2_1
  with_reducible apply State.cmdDone_fr
  refine Fr.ite ?_ ?_
  refine Fr.upd ?_ (c18 := .inl (hl (by decide)))
  with_reducible assumption
  with_reducible apply State.setPrf_fr
  with_reducible assumption
  exact List.Subset.trans (by decide) hl
  exact List.Subset.trans (by decide) hl
  exact List.Subset.trans (by decide) hl

theorem prfCommand_fr {s : State} {code : Nat} {rsv : Nat} {arg : Nat} (hz : Fr l z s) (hl : [.regs, .cmds, .log,
      .evt, .prf] ⊆ l) :
    Fr l z (prfCommand code rsv arg s) := by
  unfold prfCommand
  refine Fr.ite ?_ ?_
  with_reducible apply snapshot_fr
  with_reducible assumption
  exact hl
  refine Fr.ite ?_ ?_
  with_reducible apply prfFreeze_fr
  with_reducible assumption
  exact hl
  refine Fr.ite ?_ ?_
  with_reducible apply prfUnfreeze_fr
  with_reducible assumption
  exact hl
  refine Fr.ite ?_ ?_
  with_reducible apply prfClear_fr
  with_reducible assumption
  exact hl
  with_reducible apply State.badCode_fr
  with_reducible assumption
  exact List.Subset.trans (by decide) hl

theorem State.cmdWrite_fr {s : State} {q : Requester} {a code rsv arg : Nat} {buf : List Byte} (hz : Fr l z s)
    (hl : [.out, .regs, .cmds, .once, .time, .glb, .pwr, .log, .evt, .img, .bcn, .ports, .rdg, .cdv, .bin, .can, .prf, .pln, .svi, .cnd, .lmp, .hst, .kpr, .gal, .pub, .pair] ⊆ l) : ∀ t, s.cmdWrite q a code rsv arg buf = some t → Fr l z t := by
  intro t h
  unfold State.cmdWrite at h
  split at h
  · split at h
    · cases h; exact macCommand_fr hz (List.Subset.trans (by decide) hl)
    · cases h
  · split at h <;> cases h
    · exact glbCommand_fr hz (List.Subset.trans (by decide) hl)
    · exact blockResetCommand_fr hz (List.Subset.trans (by decide) hl)
    · exact evtCommand_fr hz (List.Subset.trans (by decide) hl)
    · exact imgCommand_fr hz (List.Subset.trans (by decide) hl)
    · exact bcnCommand_fr hz (List.Subset.trans (by decide) hl)
    · exact rdgCommand_fr hz (List.Subset.trans (by decide) hl)
    · exact sviCommand_fr hz (List.Subset.trans (by decide) hl)
    · exact cndCommand_fr hz (List.Subset.trans (by decide) hl)
    · exact plnCommand_fr hz (List.Subset.trans (by decide) hl)
    · exact kprCommand_fr hz (List.Subset.trans (by decide) hl)
    · exact pubCommand_fr hz (List.Subset.trans (by decide) hl)
    · exact pairCommand_fr hz (List.Subset.trans (by decide) hl)
    · exact lmpCommand_fr hz (List.Subset.trans (by decide) hl)
    · exact galCommand_fr hz (List.Subset.trans (by decide) hl)
    · exact logCommand_fr hz (List.Subset.trans (by decide) hl)
    · exact hstCommand_fr hz (List.Subset.trans (by decide) hl)
    · exact cdvCommand_fr hz (List.Subset.trans (by decide) hl)
    · exact canCommand_fr hz (List.Subset.trans (by decide) hl)
    · exact canCommand_fr hz (List.Subset.trans (by decide) hl)
    · exact prfCommand_fr hz (List.Subset.trans (by decide) hl)

theorem State.mapWrite_fr {s : State} {q : Requester} {a : Nat} {v : Word} {hw : Word} {buf : List Byte} (hz : Fr l z s) (hl : [.out, .regs, .cmds, .once, .time, .glb, .pwr, .log, .evt, .img, .bcn, .ports, .rdg, .cdv, .bin, .can, .prf, .pln, .svi, .cnd, .lmp, .hst, .kpr, .gal, .pub, .pair] ⊆ l) :
    Fr l z (State.mapWrite s q a v hw buf) := by
  unfold State.mapWrite
  refine Fr.ite (Fr.ite (windowWrite_fr hz (List.Subset.trans (by decide) hl)) hz) ?_
  split
  · exact State.cmdWrite_fr hz (List.Subset.trans (by decide) hl) _ ‹_›
  · split
    · exact Fr.ite (State.evStatusWrite_fr hz (List.Subset.trans (by decide) hl)) (State.evEnableWrite_fr hz (List.Subset.trans (by decide) hl))
    · split
      · exact State.wr_fr hz (List.Subset.trans (by decide) hl)
      · exact State.ownWrite_fr hz (List.Subset.trans (by decide) hl)

theorem State.mergeWrites_fr {s : State} {ws : List (Nat × Bool)} (hz : Fr l z s) (hl : [.pln] ⊆ l) :
    Fr l z (State.mergeWrites s ws) := by
  unfold State.mergeWrites
  refine Fr.upd ?_ (c19 := .inl (hl (by decide)))
  with_reducible assumption

theorem State.mergeRelease_fr {s : State} {m : Merge} (hz : Fr l z s) (hl : [.regs, .evt, .pln, .kpr] ⊆ l) :
    Fr l z (State.mergeRelease s m) := by
  unfold State.mergeRelease
  extract_lets +onlyGivenNames q0; clear_value q0
  extract_lets +onlyGivenNames q2; clear_value q2
  extract_lets +onlyGivenNames q4; refine Fr.cut (a := q4) ?_ (fun _ => ?_)
  rotate_left; clear_value q4; rotate_right; unfold q4
  refine Fr.upd ?_ (c24 := .inl (hl (by decide)))
  with_reducible assumption
  extract_lets +onlyGivenNames q12; clear_value q12
  refine Fr.ite ?_ ?_
  with_reducible apply State.countBy_fr
  with_reducible assumption
  exact List.Subset.trans (by decide) hl
  refine Fr.ite ?_ ?_
  with_reducible apply State.setEvent_fr
  with_reducible apply State.count_fr
  with_reducible assumption
  exact List.Subset.trans (by decide) hl
  exact List.Subset.trans (by decide) hl
  extract_lets +onlyGivenNames q24; refine Fr.cut (a := q24) ?_ (fun _ => ?_)
  rotate_left; clear_value q24; rotate_right; unfold q24
  refine Fr.upd ?_ (c24 := .inl (hl (by decide)))
  with_reducible assumption
  with_reducible apply State.mergeWrites_fr
  with_reducible apply State.setFn_fr
  with_reducible assumption
  exact List.Subset.trans (by decide) hl
  exact List.Subset.trans (by decide) hl

theorem State.mirrorRx_fr {s : State} {b : List Byte} (hz : Fr l z s) (hl : [.pub] ⊆ l) :
    Fr l z (State.mirrorRx s b) := by
  unfold State.mirrorRx
  refine Fr.foldl ?_ ?_
  with_reducible assumption
  intro x2_0 x2_1 x2_2
  extract_lets +onlyGivenNames q3; clear_value q3
  extract_lets +onlyGivenNames q5; clear_value q5
  extract_lets +onlyGivenNames q7; clear_value q7
  extract_lets +onlyGivenNames q9; clear_value q9
  extract_lets +onlyGivenNames q11; refine Fr.cut (a := q11) ?_ (fun _ => ?_)
  rotate_left; clear_value q11; rotate_right; unfold q11
  refine Fr.upd ?_ (c26 := .inl (hl (by decide)))
  with_reducible assumption
  refine Fr.ite ?_ ?_
  with_reducible assumption
  with_reducible apply State.mirrorAdopt_fr
  with_reducible assumption
  exact hl

theorem State.soloCommit_fr {s : State} (hz : Fr l z s) (hl : [.out, .regs, .cmds, .once, .time, .glb, .log, .evt,
      .img, .bcn, .cdv, .pln, .svi, .cnd, .hst, .kpr, .gal, .pub, .pair] ⊆ l) :
    Fr l z (State.soloCommit s) := by
  unfold State.soloCommit
  refine Fr.ite ?_ ?_
  extract_lets +onlyGivenNames q1; clear_value q1
  extract_lets +onlyGivenNames q3; clear_value q3
  extract_lets +onlyGivenNames q5; refine Fr.cut (a := q5) ?_ (fun _ => ?_)
  rotate_left; clear_value q5; rotate_right; unfold q5
  refine Fr.upd ?_ (c7 := .inl (hl (by decide))) (c27 := .inl (hl (by decide)))
  with_reducible assumption
  refine Fr.ite ?_ ?_
  with_reducible apply State.cause_fr
  with_reducible assumption
  intro x16_0 x16_1
  with_reducible apply State.setMode_fr
  with_reducible assumption
  exact hl
  exact List.Subset.trans (by decide) hl
  with_reducible assumption
  with_reducible assumption

theorem State.standCommit_fr {s : State} (hz : Fr l z s) (hl : [.out, .regs, .cmds, .once, .time, .glb, .log,
      .evt, .img, .bcn, .cdv, .pln, .svi, .cnd, .hst, .kpr, .gal, .pub, .pair] ⊆ l) :
    Fr l z (State.standCommit s) := by
  unfold State.standCommit
  split
  with_reducible assumption
  extract_lets +onlyGivenNames q2; clear_value q2
  extract_lets +onlyGivenNames q4; refine Fr.cut (a := q4) ?_ (fun _ => ?_)
  rotate_left; clear_value q4; rotate_right; unfold q4
  refine Fr.upd ?_ (c27 := .inl (hl (by decide)))
  with_reducible assumption
  refine Fr.ite ?_ ?_
  extract_lets +onlyGivenNames q13; refine Fr.cut (a := q13) ?_ (fun _ => ?_)
  rotate_left; clear_value q13; rotate_right; unfold q13
  with_reducible apply State.cause_fr
  with_reducible assumption
  intro x21_0 x21_1
  with_reducible apply State.setMode_fr
  with_reducible assumption
  exact hl
  exact List.Subset.trans (by decide) hl
  with_reducible apply State.raiseRec_fr
  refine Fr.upd ?_ (c27 := .inl (hl (by decide)))
  with_reducible assumption
  exact List.Subset.trans (by decide) hl
  with_reducible assumption

theorem State.modeCommit_fr {s : State} {frame : Nat} (hz : Fr l z s) (hl : [.out, .regs, .cmds, .once, .time,
      .glb, .log, .evt, .img, .bcn, .cdv, .pln, .svi, .cnd, .hst, .kpr, .gal, .pub, .pair] ⊆ l) :
    Fr l z (State.modeCommit s frame) := by
  unfold State.modeCommit
  with_reducible apply State.soloCommit_fr
  with_reducible apply State.exCommit_fr
  with_reducible apply State.glbCommit_fr
  with_reducible apply State.standCommit_fr
  with_reducible assumption
  exact hl
  exact hl
  exact hl
  exact hl

theorem State.moveOne_fr {s : State} {e : Nat × Nat} (hz : Fr l z s) (hl : [.kpr] ⊆ l) :
    Fr l z (State.moveOne s e) := by
  unfold State.moveOne
  with_reducible apply State.setFn_fr
  with_reducible assumption
  exact hl

theorem State.routeDrop_fr {s : State} {src : Nat} (hz : Fr l z s) (hl : [.regs, .once, .log, .evt] ⊆ l) :
    Fr l z (State.routeDrop s src) := by
  unfold State.routeDrop
  with_reducible apply State.oncePer_fr
  with_reducible apply State.count_fr
  with_reducible assumption
  exact List.Subset.trans (by decide) hl
  intro x4_0 x4_1
  with_reducible apply State.eventRec_fr
  with_reducible apply State.setEvent_fr
  with_reducible assumption
  exact List.Subset.trans (by decide) hl
  exact List.Subset.trans (by decide) hl
  exact List.Subset.trans (by decide) hl

theorem State.msiTo_fr {s : State} {src : Nat} {n : Nat} (hz : Fr l z s) (hl : [.out, .regs, .once, .log, .evt,
      .hst] ⊆ l) :
    Fr l z (State.msiTo s src n) := by
  unfold State.msiTo
  extract_lets +onlyGivenNames q0; clear_value q0
  extract_lets +onlyGivenNames q2; clear_value q2
  refine Fr.ite ?_ ?_
  with_reducible apply State.routeDrop_fr
  with_reducible assumption
  exact List.Subset.trans (by decide) hl
  refine Fr.ite ?_ ?_
  with_reducible apply State.emit_fr
  with_reducible assumption
  exact List.Subset.trans (by decide) hl
  refine Fr.ite ?_ ?_
  with_reducible apply State.routeDrop_fr
  with_reducible assumption
  exact List.Subset.trans (by decide) hl
  refine Fr.ite ?_ ?_
  with_reducible apply State.setVec_fr
  with_reducible assumption
  exact List.Subset.trans (by decide) hl
  with_reducible apply State.emit_fr
  with_reducible assumption
  exact List.Subset.trans (by decide) hl

theorem State.msiSend_fr {s : State} {src : Nat} (hz : Fr l z s) (hl : [.out, .regs, .once, .log, .evt, .hst] ⊆ l) :
    Fr l z (State.msiSend s src) := by
  unfold State.msiSend
  refine Fr.ite ?_ ?_
  with_reducible apply State.msiTo_fr
  with_reducible assumption
  exact hl
  refine Fr.ite ?_ ?_
  with_reducible apply State.deliver_fr
  with_reducible assumption
  exact List.Subset.trans (by decide) hl
  with_reducible assumption

theorem State.msixRelease_fr {s : State} {n : Nat} (hz : Fr l z s) (hl : [.out, .regs, .once, .log, .evt, .hst] ⊆ l) :
    Fr l z (State.msixRelease s n) := by
  unfold State.msixRelease
  extract_lets +onlyGivenNames q0; clear_value q0
  extract_lets +onlyGivenNames q2; clear_value q2
  refine Fr.ite ?_ ?_
  with_reducible assumption
  extract_lets +onlyGivenNames q6; refine Fr.cut (a := q6) ?_ (fun _ => ?_)
  rotate_left; clear_value q6; rotate_right; unfold q6
  with_reducible apply State.setVec_fr
  with_reducible assumption
  exact List.Subset.trans (by decide) hl
  refine Fr.ite ?_ ?_
  with_reducible apply State.emit_fr
  with_reducible assumption
  exact List.Subset.trans (by decide) hl
  split
  with_reducible assumption
  with_reducible apply State.routeDrop_fr
  with_reducible assumption
  exact List.Subset.trans (by decide) hl

theorem State.newSpeed_fr {s : State} {p : Nat} {speed : Nat} {fec : Bool} (hz : Fr l z s) (hl : [.regs, .log,
      .evt, .ports] ⊆ l) :
    Fr l z (State.newSpeed s p speed fec) := by
  unfold State.newSpeed
  extract_lets +onlyGivenNames q0; clear_value q0
  extract_lets +onlyGivenNames q2; refine Fr.cut (a := q2) ?_ (fun _ => ?_)
  rotate_left; clear_value q2; rotate_right; unfold q2
  with_reducible apply State.setPort_fr
  with_reducible assumption
  exact List.Subset.trans (by decide) hl
  refine Fr.ite ?_ ?_
  with_reducible apply State.note_fr
  with_reducible apply State.stat_fr
  with_reducible assumption
  exact List.Subset.trans (by decide) hl
  exact List.Subset.trans (by decide) hl
  with_reducible assumption

theorem State.noMatch_fr {s : State} (hz : Fr l z s) (hl : [.regs, .once, .evt] ⊆ l) :
    Fr l z (State.noMatch s) := by
  unfold State.noMatch
  with_reducible apply State.raiseOnce_fr
  with_reducible apply State.count_fr
  with_reducible assumption
  exact List.Subset.trans (by decide) hl
  exact hl

theorem State.nodeCheck_fr {s : State} {mac : Nat} {g : Nat} {q : Nat} (hz : Fr l z s) (hl : [.regs, .rdg] ⊆ l) :
    Fr l z (State.nodeCheck s mac g q).1 := by
  unfold State.nodeCheck
  split
  split
  dsimp -zeta only
  with_reducible assumption
  dsimp -zeta only
  with_reducible apply State.setNode_fr
  with_reducible assumption
  exact List.Subset.trans (by decide) hl
  split
  dsimp -zeta only
  with_reducible apply State.setNode_fr
  with_reducible assumption
  exact List.Subset.trans (by decide) hl
  extract_lets +onlyGivenNames q13; clear_value q13
  split
  dsimp -zeta only
  with_reducible apply State.setNode_fr
  with_reducible assumption
  exact List.Subset.trans (by decide) hl
  extract_lets +onlyGivenNames q20; clear_value q20
  split
  split
  dsimp -zeta only
  with_reducible assumption
  dsimp -zeta only
  with_reducible apply State.setNode_fr
  with_reducible assumption
  exact List.Subset.trans (by decide) hl
  dsimp -zeta only
  with_reducible apply State.wrapBy_fr
  with_reducible assumption
  exact List.Subset.trans (by decide) hl

theorem State.pubReload_fr {s : State} {p : Nat} {old : List Byte} (hz : Fr l z s) (hl : [.pub] ⊆ l) :
    Fr l z (State.pubReload s p old) := by
  unfold State.pubReload
  extract_lets +onlyGivenNames q0; clear_value q0
  extract_lets +onlyGivenNames q2; clear_value q2
  refine Fr.ite ?_ ?_
  with_reducible assumption
  with_reducible apply State.setPub_fr
  with_reducible assumption
  exact hl

theorem State.outputsReload_fr {s : State} {run : Image} (hz : Fr l z s) (hl : [.gal, .pub] ⊆ l) :
    Fr l z (State.outputsReload s run) := by
  unfold State.outputsReload
  refine Fr.foldl ?_ ?_
  with_reducible assumption
  intro x2_0 x2_1 x2_2
  refine Fr.ite ?_ ?_
  with_reducible apply State.pubReload_fr
  with_reducible assumption
  exact List.Subset.trans (by decide) hl
  refine Fr.ite ?_ ?_
  with_reducible apply State.galReload_fr
  with_reducible assumption
  exact List.Subset.trans (by decide) hl
  with_reducible assumption

theorem State.pairNote_fr {s : State} {old : State} (hz : Fr l z s) (hl : [.regs, .log, .evt] ⊆ l) :
    Fr l z (State.pairNote s old) := by
  unfold State.pairNote
  extract_lets +onlyGivenNames q0; refine Fr.cut (a := q0) ?_ (fun _ => ?_)
  rotate_left; clear_value q0; rotate_right; unfold q0
  refine Fr.ite ?_ ?_
  with_reducible assumption
  with_reducible apply State.raiseRec_fr
  with_reducible assumption
  exact hl
  refine Fr.ite ?_ ?_
  with_reducible apply State.raiseRec_fr
  with_reducible assumption
  exact hl
  with_reducible assumption

theorem State.pairTick_fr {s : State} (hz : Fr l z s) (hl : [.out, .regs, .cmds, .once, .time, .glb, .log, .evt,
      .img, .bcn, .cdv, .pln, .svi, .cnd, .hst, .kpr, .gal, .pub, .pair] ⊆ l) :
    Fr l z (State.pairTick s) := by
  unfold State.pairTick
  with_reducible apply State.pairTrack_fr
  with_reducible apply State.alignEnd_fr
  with_reducible apply State.exDeadline_fr
  with_reducible apply State.alignTick_fr
  with_reducible assumption
  exact List.Subset.trans (by decide) hl
  exact hl
  exact List.Subset.trans (by decide) hl
  exact List.Subset.trans (by decide) hl

theorem State.partnerNote_fr {s : State} {c : StreamCfg} (hz : Fr l z s) (hl : [.regs, .evt] ⊆ l) :
    Fr l z (State.partnerNote s c) := by
  unfold State.partnerNote
  split
  with_reducible assumption
  refine Fr.ite ?_ ?_
  with_reducible apply State.sviNote_fr
  with_reducible apply State.sviNote_fr
  with_reducible assumption
  exact hl
  exact hl
  with_reducible assumption

theorem State.passMissing_fr {s : State} {c : StreamCfg} (hz : Fr l z s) (hl : [.out, .regs, .once, .log, .evt,
      .prf, .pln, .svi, .cnd, .pair] ⊆ l) :
    Fr l z (State.passMissing s c) := by
  unfold State.passMissing
  extract_lets +onlyGivenNames q0; clear_value q0
  extract_lets +onlyGivenNames q2; clear_value q2
  extract_lets +onlyGivenNames q4; clear_value q4
  extract_lets +onlyGivenNames q6; clear_value q6
  extract_lets +onlyGivenNames q8; clear_value q8
  extract_lets +onlyGivenNames q10; clear_value q10
  extract_lets +onlyGivenNames q12; clear_value q12
  extract_lets +onlyGivenNames q14; clear_value q14
  extract_lets +onlyGivenNames q16; clear_value q16
  extract_lets +onlyGivenNames q18; clear_value q18
  extract_lets +onlyGivenNames q20; refine Fr.cut (a := q20) ?_ (fun _ => ?_)
  rotate_left; clear_value q20; rotate_right; unfold q20
  with_reducible apply State.setStream_fr
  with_reducible assumption
  exact List.Subset.trans (by decide) hl
  extract_lets +onlyGivenNames q29; clear_value q29
  extract_lets +onlyGivenNames q31; refine Fr.cut (a := q31) ?_ (fun _ => ?_)
  rotate_left; clear_value q31; rotate_right; unfold q31
  refine Fr.upd ?_ (c20 := .inl (hl (by decide)))
  with_reducible assumption
  extract_lets +onlyGivenNames q39; refine Fr.cut (a := q39) ?_ (fun _ => ?_)
  rotate_left; clear_value q39; rotate_right; unfold q39
  with_reducible apply State.passTo_fr
  with_reducible assumption
  exact List.Subset.trans (by decide) hl
  extract_lets +onlyGivenNames q48; refine Fr.cut (a := q48) ?_ (fun _ => ?_)
  rotate_left; clear_value q48; rotate_right; unfold q48
  with_reducible apply State.svCount_fr
  with_reducible assumption
  exact List.Subset.trans (by decide) hl
  extract_lets +onlyGivenNames q57; refine Fr.cut (a := q57) ?_ (fun _ => ?_)
  rotate_left; clear_value q57; rotate_right; unfold q57
  refine Fr.ite ?_ ?_
  with_reducible apply State.svCount_fr
  with_reducible assumption
  exact List.Subset.trans (by decide) hl
  with_reducible assumption
  extract_lets +onlyGivenNames q68; clear_value q68
  extract_lets +onlyGivenNames q70; clear_value q70
  extract_lets +onlyGivenNames q72; refine Fr.cut (a := q72) ?_ (fun _ => ?_)
  rotate_left; clear_value q72; rotate_right; unfold q72
  refine Fr.ite ?_ ?_
  with_reducible apply State.turnsBad_fr
  with_reducible assumption
  exact List.Subset.trans (by decide) hl
  refine Fr.ite ?_ ?_
  with_reducible apply State.substTry_fr
  with_reducible assumption
  exact List.Subset.trans (by decide) hl
  with_reducible assumption
  extract_lets +onlyGivenNames q87; refine Fr.cut (a := q87) ?_ (fun _ => ?_)
  rotate_left; clear_value q87; rotate_right; unfold q87
  refine Fr.ite ?_ ?_
  with_reducible apply State.setStreamState_fr
  with_reducible assumption
  exact List.Subset.trans (by decide) hl
  with_reducible assumption
  refine Fr.ite ?_ ?_
  with_reducible apply State.substTry_fr
  with_reducible apply State.raiseRec_fr
  with_reducible apply State.setStreamState_fr
  with_reducible assumption
  exact List.Subset.trans (by decide) hl
  exact List.Subset.trans (by decide) hl
  exact List.Subset.trans (by decide) hl
  with_reducible assumption

theorem State.placeChange_fr {s : State} (hz : Fr l z s) (hl : [.regs, .kpr] ⊆ l) :
    Fr l z (State.placeChange s) := by
  unfold State.placeChange
  refine Fr.ite ?_ ?_
  with_reducible assumption
  extract_lets +onlyGivenNames q2; clear_value q2
  extract_lets +onlyGivenNames q4; refine Fr.cut (a := q4) ?_ (fun _ => ?_)
  rotate_left; clear_value q4; rotate_right; unfold q4
  refine Fr.upd ?_ (c24 := .inl (hl (by decide)))
  with_reducible assumption
  with_reducible apply State.wr_fr
  with_reducible assumption
  exact List.Subset.trans (by decide) hl

theorem State.planeOut_fr {s : State} {k : Nat} (hz : Fr l z s) (hl : [.regs, .log, .evt, .rdg] ⊆ l) :
    Fr l z (State.planeOut s k) := by
  unfold State.planeOut
  extract_lets +onlyGivenNames q0; clear_value q0
  extract_lets +onlyGivenNames q2; clear_value q2
  with_reducible apply State.eventRec_fr
  with_reducible apply State.setEvent_fr
  refine Fr.upd ?_ (c14 := .inl (hl (by decide)))
  with_reducible assumption
  exact List.Subset.trans (by decide) hl
  exact List.Subset.trans (by decide) hl

theorem State.plansClose_fr {s : State} (hz : Fr l z s) (hl : [.out, .regs, .log, .evt, .hst, .gal] ⊆ l) :
    Fr l z (State.plansClose s) := by
  unfold State.plansClose
  refine Fr.foldl ?_ ?_
  with_reducible assumption
  intro x2_0 x2_1 x2_2
  refine Fr.ite ?_ ?_
  with_reducible apply State.galAbort_fr
  with_reducible assumption
  exact hl
  with_reducible assumption

theorem State.prfMem_fr {s : State} {ev : Nat} {n : Nat} (hz : Fr l z s) (hl : [.out, .regs, .once, .evt, .prf] ⊆ l) :
    Fr l z (State.prfMem s ev n) := by
  unfold State.prfMem
  with_reducible apply State.prfBank_fr
  with_reducible assumption
  exact hl

theorem State.provision_fr {s : State} {b : List Byte} (hz : Fr l z s) (hl : [.regs, .log, .evt, .lmp] ⊆ l) :
    Fr l z (State.provision s b) := by
  unfold State.provision
  extract_lets +onlyGivenNames q0
  with_reducible apply State.lifeChange_fr
  refine Fr.upd ?_ (c22 := .inl (hl (by decide)))
  with_reducible assumption
  exact hl

theorem State.pubTakeover_fr {s : State} (hz : Fr l z s) (hl : [.out, .regs, .once, .log, .evt, .ports, .rdg,
      .cdv, .prf, .pub] ⊆ l) :
    Fr l z (State.pubTakeover s) := by
  unfold State.pubTakeover
  extract_lets +onlyGivenNames q0; refine Fr.cut (a := q0) ?_ (fun _ => ?_)
  rotate_left; clear_value q0; rotate_right; unfold q0
  with_reducible apply State.pubFirst_fr
  with_reducible assumption
  exact List.Subset.trans (by decide) hl
  extract_lets +onlyGivenNames q9; clear_value q9
  extract_lets +onlyGivenNames q11; refine Fr.cut (a := q11) ?_ (fun _ => ?_)
  rotate_left; clear_value q11; rotate_right; unfold q11
  refine Fr.upd ?_ (c26 := .inl (hl (by decide)))
  with_reducible assumption
  with_reducible apply State.pubBurst_fr
  with_reducible apply State.tripApply_fr
  with_reducible assumption
  exact List.Subset.trans (by decide) hl
  exact List.Subset.trans (by decide) hl

theorem State.raiseRecOnce_fr {s : State} {src : Nat} {inst : Nat} (hz : Fr l z s) (hl : [.regs, .once, .log,
      .evt] ⊆ l) :
    Fr l z (State.raiseRecOnce s src inst) := by
  unfold State.raiseRecOnce
  with_reducible apply State.oncePer_fr
  with_reducible assumption
  intro x2_0 x2_1
  with_reducible apply State.raiseRec_fr
  with_reducible assumption
  exact List.Subset.trans (by decide) hl
  exact List.Subset.trans (by decide) hl

theorem State.servo_fr {s : State} {demand : Int} {refRate : Int} (hz : Fr l z s) (hl : [.regs, .log, .evt,
      .bcn] ⊆ l) :
    Fr l z (State.servo s demand refRate) := by
  unfold State.servo
  split
  extract_lets +onlyGivenNames q1; clear_value q1
  extract_lets +onlyGivenNames q3; clear_value q3
  extract_lets +onlyGivenNames q5; clear_value q5
  extract_lets +onlyGivenNames q7; refine Fr.cut (a := q7) ?_ (fun _ => ?_)
  rotate_left; clear_value q7; rotate_right; unfold q7
  refine Fr.upd ?_ (c12 := .inl (hl (by decide)))
  with_reducible assumption
  refine Fr.ite ?_ ?_
  with_reducible apply State.raiseRec_fr
  with_reducible assumption
  exact List.Subset.trans (by decide) hl
  with_reducible assumption
  extract_lets +onlyGivenNames q20; clear_value q20
  extract_lets +onlyGivenNames q22; clear_value q22
  extract_lets +onlyGivenNames q24; clear_value q24
  extract_lets +onlyGivenNames q26; refine Fr.cut (a := q26) ?_ (fun _ => ?_)
  rotate_left; clear_value q26; rotate_right; unfold q26
  refine Fr.upd ?_ (c12 := .inl (hl (by decide)))
  with_reducible assumption
  refine Fr.ite ?_ ?_
  with_reducible apply State.raiseRec_fr
  with_reducible assumption
  exact List.Subset.trans (by decide) hl
  with_reducible assumption
  with_reducible assumption

theorem State.refMeasure_fr {s : State} {r : Nat} {path : Nat} {offset : Int} {residual : Int} {demand : Int}
    {refRate : Int} (hz : Fr l z s) (hl : [.regs, .cmds, .log, .evt, .bcn] ⊆ l) :
    Fr l z (State.refMeasure s r path offset residual demand refRate) := by
  unfold State.refMeasure
  extract_lets +onlyGivenNames q0; clear_value q0
  extract_lets +onlyGivenNames q2; clear_value q2
  extract_lets +onlyGivenNames q4; clear_value q4
  extract_lets +onlyGivenNames q6; refine Fr.cut (a := q6) ?_ (fun _ => ?_)
  rotate_left; clear_value q6; rotate_right; unfold q6
  with_reducible apply State.setRef_fr
  with_reducible assumption
  exact List.Subset.trans (by decide) hl
  extract_lets +onlyGivenNames q15; refine Fr.cut (a := q15) ?_ (fun _ => ?_)
  rotate_left; clear_value q15; rotate_right; unfold q15
  with_reducible apply State.divergeCheck_fr
  with_reducible assumption
  exact List.Subset.trans (by decide) hl
  extract_lets +onlyGivenNames q24; refine Fr.cut (a := q24) ?_ (fun _ => ?_)
  rotate_left; clear_value q24; rotate_right; unfold q24
  with_reducible apply State.requalify_fr
  with_reducible assumption
  exact List.Subset.trans (by decide) hl
  extract_lets +onlyGivenNames q33; refine Fr.cut (a := q33) ?_ (fun _ => ?_)
  rotate_left; clear_value q33; rotate_right; unfold q33
  refine Fr.ite ?_ ?_
  with_reducible apply State.servo_fr
  with_reducible assumption
  exact List.Subset.trans (by decide) hl
  with_reducible assumption
  with_reducible apply State.bcnEval_fr
  with_reducible assumption
  exact hl

theorem State.regWrite_fr {s : State} {q : Requester} {a : Nat} {v : Word} {hw : Word} {buf : List Byte}
    (hz : Fr l z s) (hl : [.out, .regs, .cmds, .once, .time, .glb, .pwr, .log, .evt, .img, .bcn, .ports, .rdg,
      .cdv, .bin, .can, .prf, .pln, .svi, .cnd, .lmp, .hst, .kpr, .gal, .pub, .pair] ⊆ l) :
    Fr l z (State.regWrite s q a v hw buf) := by
  unfold State.regWrite
  refine Fr.ite ?_ ?_
  split
  with_reducible apply State.barWrite_fr
  with_reducible assumption
  exact List.Subset.trans (by decide) hl
  with_reducible apply State.mapWrite_fr
  with_reducible assumption
  exact hl
  with_reducible assumption

theorem State.subsReload_fr {s : State} {run : Image} {cand : Image} (hz : Fr l z s) (hl : [.pln, .pub] ⊆ l) :
    Fr l z (State.subsReload s run cand) := by
  unfold State.subsReload
  extract_lets +onlyGivenNames q0; clear_value q0
  extract_lets +onlyGivenNames q2; clear_value q2
  refine Fr.foldl ?_ ?_
  refine Fr.foldl ?_ ?_
  with_reducible assumption
  intro x7_0 x7_1 x7_2
  with_reducible apply State.subRestart_fr
  with_reducible assumption
  exact hl
  intro x11_0 x11_1 x11_2
  with_reducible apply State.subRestart_fr
  with_reducible assumption
  exact hl

theorem State.streamLeave_fr {s : State} {c : StreamCfg} (hz : Fr l z s) (hl : [.regs, .evt, .pln, .svi, .cnd] ⊆ l) :
    Fr l z (State.streamLeave s c) := by
  unfold State.streamLeave
  extract_lets +onlyGivenNames q0; refine Fr.cut (a := q0) ?_ (fun _ => ?_)
  rotate_left; clear_value q0; rotate_right; unfold q0
  with_reducible apply forN_fr
  with_reducible assumption
  intro x8_0 x8_1 x8_2
  with_reducible apply State.setSlot_fr
  with_reducible apply State.setChan_fr
  with_reducible assumption
  exact List.Subset.trans (by decide) hl
  exact List.Subset.trans (by decide) hl
  refine Fr.ite ?_ ?_
  with_reducible assumption
  with_reducible apply State.setStream_fr
  with_reducible apply State.setStreamState_fr
  with_reducible assumption
  exact List.Subset.trans (by decide) hl
  exact List.Subset.trans (by decide) hl

theorem State.slotReload_fr {s : State} {c : StreamCfg} {i : Nat} {t : Nat} (hz : Fr l z s) (hl : [.cnd] ⊆ l) :
    Fr l z (State.slotReload s c i t) := by
  unfold State.slotReload
  extract_lets +onlyGivenNames q0; clear_value q0
  split
  with_reducible apply State.setSlot_fr
  with_reducible assumption
  exact hl
  refine Fr.ite ?_ ?_
  with_reducible apply State.setSlot_fr
  with_reducible assumption
  exact hl
  refine Fr.ite ?_ ?_
  with_reducible apply State.setSlot_fr
  with_reducible assumption
  exact hl
  with_reducible apply State.setSlot_fr
  with_reducible assumption
  exact hl

theorem State.streamEnter_fr {s : State} {c : StreamCfg} {t : Nat} (hz : Fr l z s) (hl : [.regs, .evt, .pln, .svi,
      .cnd] ⊆ l) :
    Fr l z (State.streamEnter s c t) := by
  unfold State.streamEnter
  extract_lets +onlyGivenNames q0; clear_value q0
  extract_lets +onlyGivenNames q2; refine Fr.cut (a := q2) ?_ (fun _ => ?_)
  rotate_left; clear_value q2; rotate_right; unfold q2
  with_reducible apply State.chanLoad_fr
  with_reducible assumption
  exact List.Subset.trans (by decide) hl
  extract_lets +onlyGivenNames q11; refine Fr.cut (a := q11) ?_ (fun _ => ?_)
  rotate_left; clear_value q11; rotate_right; unfold q11
  with_reducible apply forN_fr
  with_reducible assumption
  intro x19_0 x19_1 x19_2
  with_reducible apply State.slotReload_fr
  with_reducible assumption
  exact List.Subset.trans (by decide) hl
  extract_lets +onlyGivenNames q23; refine Fr.cut (a := q23) ?_ (fun _ => ?_)
  rotate_left; clear_value q23; rotate_right; unfold q23
  with_reducible apply State.fillStream_fr
  with_reducible assumption
  exact List.Subset.trans (by decide) hl
  extract_lets +onlyGivenNames q32; refine Fr.cut (a := q32) ?_ (fun _ => ?_)
  rotate_left; clear_value q32; rotate_right; unfold q32
  with_reducible apply State.streamWait_fr
  with_reducible assumption
  exact List.Subset.trans (by decide) hl
  extract_lets +onlyGivenNames q41; clear_value q41
  with_reducible apply State.setStream_fr
  with_reducible assumption
  exact List.Subset.trans (by decide) hl

theorem State.substReload_fr {s : State} {c : StreamCfg} {t : Nat} (hz : Fr l z s) (hl : [.out, .regs, .once,
      .log, .evt, .prf, .pln, .svi] ⊆ l) :
    Fr l z (State.substReload s c t) := by
  unfold State.substReload
  refine Fr.ite ?_ ?_
  split
  with_reducible assumption
  with_reducible apply State.copyOuts_fr
  with_reducible assumption
  exact List.Subset.trans (by decide) hl
  with_reducible apply State.substTry_fr
  with_reducible assumption
  exact hl

theorem State.streamsReload_fr {s : State} {run : Image} {cand : Image} {t : Nat} (hz : Fr l z s) (hl : [.out,
      .regs, .once, .log, .evt, .prf, .pln, .svi, .cnd] ⊆ l) :
    Fr l z (State.streamsReload s run cand t) := by
  unfold State.streamsReload
  extract_lets +onlyGivenNames q0; clear_value q0
  extract_lets +onlyGivenNames q2; clear_value q2
  extract_lets +onlyGivenNames q4; refine Fr.cut (a := q4) ?_ (fun _ => ?_)
  rotate_left; clear_value q4; rotate_right; unfold q4
  refine Fr.foldl ?_ ?_
  with_reducible assumption
  intro x12_0 x12_1 x12_2
  with_reducible apply State.streamLeave_fr
  with_reducible assumption
  exact List.Subset.trans (by decide) hl
  extract_lets +onlyGivenNames q16; refine Fr.cut (a := q16) ?_ (fun _ => ?_)
  rotate_left; clear_value q16; rotate_right; unfold q16
  refine Fr.foldl ?_ ?_
  with_reducible assumption
  intro x24_0 x24_1 x24_2
  with_reducible apply State.streamEnter_fr
  with_reducible assumption
  exact List.Subset.trans (by decide) hl
  refine Fr.foldl ?_ ?_
  with_reducible assumption
  intro x30_0 x30_1 x30_2
  with_reducible apply State.substReload_fr
  with_reducible apply State.partnerNote_fr
  with_reducible assumption
  exact List.Subset.trans (by decide) hl
  exact List.Subset.trans (by decide) hl

theorem State.reloadNow_fr {s : State} {run : Image} {cand : Image} {n : Nat} (hz : Fr l z s) (hl : [.out, .regs,
      .once, .log, .evt, .img, .prf, .pln, .svi, .cnd, .hst, .kpr, .gal, .pub] ⊆ l) :
    Fr l z (State.reloadNow s run cand n) := by
  unfold State.reloadNow
  extract_lets +onlyGivenNames q0; clear_value q0
  extract_lets +onlyGivenNames q2; refine Fr.cut (a := q2) ?_ (fun _ => ?_)
  rotate_left; clear_value q2; rotate_right; unfold q2
  with_reducible apply State.plansClose_fr
  with_reducible assumption
  exact List.Subset.trans (by decide) hl
  extract_lets +onlyGivenNames q11
  extract_lets +onlyGivenNames q12; refine Fr.cut (a := q12) ?_ (fun _ => ?_)
  rotate_left; clear_value q12; rotate_right; unfold q12
  refine Fr.upd ?_ (c11 := .inl (hl (by decide)))
  with_reducible assumption
  with_reducible apply State.outputsReload_fr
  with_reducible apply State.functionsReload_fr
  with_reducible apply State.subsReload_fr
  with_reducible apply State.streamsReload_fr
  with_reducible assumption
  exact List.Subset.trans (by decide) hl
  exact List.Subset.trans (by decide) hl
  exact List.Subset.trans (by decide) hl
  exact List.Subset.trans (by decide) hl

theorem State.unplaceAll_fr {s : State} {k : Nat} (hz : Fr l z s) (hl : [.regs, .kpr] ⊆ l) :
    Fr l z (State.unplaceAll s k) := by
  unfold State.unplaceAll
  split
  with_reducible assumption
  refine Fr.foldl ?_ ?_
  with_reducible apply State.placeChange_fr
  with_reducible assumption
  exact hl
  intro x6_0 x6_1 x6_2
  with_reducible apply State.setFn_fr
  with_reducible assumption
  exact List.Subset.trans (by decide) hl

theorem State.replaceOne_fr {s : State} {k : Nat} {f : Nat} (hz : Fr l z s) (hl : [.kpr] ⊆ l) :
    Fr l z (State.replaceOne s k f) := by
  unfold State.replaceOne
  extract_lets +onlyGivenNames q0; clear_value q0
  extract_lets +onlyGivenNames q2; clear_value q2
  with_reducible apply State.setFn_fr
  with_reducible assumption
  exact hl

theorem State.replaceNow_fr {s : State} {r : Replace} (hz : Fr l z s) (hl : [.regs, .log, .evt, .kpr] ⊆ l) :
    Fr l z (State.replaceNow s r) := by
  unfold State.replaceNow
  extract_lets +onlyGivenNames q0; clear_value q0
  extract_lets +onlyGivenNames q2; clear_value q2
  extract_lets +onlyGivenNames q4; refine Fr.cut (a := q4) ?_ (fun _ => ?_)
  rotate_left; clear_value q4; rotate_right; unfold q4
  refine Fr.upd ?_ (c24 := .inl (hl (by decide)))
  with_reducible assumption
  refine Fr.ite ?_ ?_
  with_reducible apply State.unplaceAll_fr
  with_reducible assumption
  exact List.Subset.trans (by decide) hl
  refine Fr.ite ?_ ?_
  extract_lets +onlyGivenNames q17; clear_value q17
  extract_lets +onlyGivenNames q19; refine Fr.cut (a := q19) ?_ (fun _ => ?_)
  rotate_left; clear_value q19; rotate_right; unfold q19
  refine Fr.ite ?_ ?_
  with_reducible assumption
  with_reducible apply State.placeChange_fr
  with_reducible assumption
  exact List.Subset.trans (by decide) hl
  extract_lets +onlyGivenNames q30; refine Fr.cut (a := q30) ?_ (fun _ => ?_)
  rotate_left; clear_value q30; rotate_right; unfold q30
  refine Fr.foldl ?_ ?_
  with_reducible assumption
  intro x38_0 x38_1 x38_2
  with_reducible apply State.replaceOne_fr
  with_reducible assumption
  exact List.Subset.trans (by decide) hl
  refine Fr.upd ?_ (c24 := .inl (hl (by decide)))
  with_reducible assumption
  with_reducible apply State.unplaceAll_fr
  with_reducible apply State.replaceFail_fr
  with_reducible assumption
  exact hl
  exact List.Subset.trans (by decide) hl

theorem State.resendStep_fr {s : State} (hz : Fr l z s) (hl : [.regs, .cmds, .log, .evt] ⊆ l) :
    Fr l z (State.resendStep s) := by
  unfold State.resendStep
  refine Fr.ite ?_ ?_
  with_reducible assumption
  extract_lets +onlyGivenNames q2; clear_value q2
  extract_lets +onlyGivenNames q4; clear_value q4
  extract_lets +onlyGivenNames q6; refine Fr.cut (a := q6) ?_ (fun _ => ?_)
  rotate_left; clear_value q6; rotate_right; unfold q6
  refine Fr.upd ?_ (c10 := .inl (hl (by decide)))
  with_reducible assumption
  refine Fr.ite ?_ ?_
  with_reducible apply State.cmdDone_fr
  with_reducible assumption
  exact hl
  with_reducible assumption

theorem State.tsRxPtp_fr {s : State} {p : Nat} (hz : Fr l z s) (hl : [.ports] ⊆ l) :
    Fr l z (State.tsRxPtp s p) := by
  unfold State.tsRxPtp
  extract_lets +onlyGivenNames q0; clear_value q0
  refine Fr.ite ?_ ?_
  with_reducible apply State.setPort_fr
  with_reducible assumption
  exact hl
  with_reducible assumption

theorem State.tsRxHost_fr {s : State} {p : Nat} (hz : Fr l z s) (hl : [.regs, .evt, .ports] ⊆ l) :
    Fr l z (State.tsRxHost s p) := by
  unfold State.tsRxHost
  extract_lets +onlyGivenNames q0; clear_value q0
  refine Fr.ite ?_ ?_
  with_reducible apply State.setPort_fr
  with_reducible assumption
  exact List.Subset.trans (by decide) hl
  with_reducible apply State.macEvent_fr
  with_reducible apply State.stat_fr
  with_reducible assumption
  exact List.Subset.trans (by decide) hl
  exact List.Subset.trans (by decide) hl

theorem State.route_fr {s : State} {p : Nat} {f : Frame} {rxTime : Nat} (hz : Fr l z s) (hl : [.out, .regs, .once,
      .log, .evt, .ports, .rdg, .prf, .hst] ⊆ l) :
    Fr l z (State.route s p f rxTime) := by
  unfold State.route
  extract_lets +onlyGivenNames q0; clear_value q0
  extract_lets +onlyGivenNames q2; clear_value q2
  extract_lets +onlyGivenNames q4; clear_value q4
  extract_lets +onlyGivenNames q6; clear_value q6
  extract_lets +onlyGivenNames q8; clear_value q8
  extract_lets +onlyGivenNames q10; refine Fr.cut (a := q10) ?_ (fun _ => ?_)
  rotate_left; clear_value q10; rotate_right; unfold q10
  split
  with_reducible assumption
  refine Fr.ite ?_ ?_
  with_reducible apply State.epCount_fr
  with_reducible assumption
  exact List.Subset.trans (by decide) hl
  with_reducible apply State.forward_fr
  with_reducible assumption
  exact hl
  split
  refine Fr.ite ?_ ?_
  with_reducible assumption
  with_reducible apply State.epCount_fr
  with_reducible assumption
  exact List.Subset.trans (by decide) hl
  split
  extract_lets +onlyGivenNames q32; clear_value q32
  extract_lets +onlyGivenNames q34; refine Fr.cut (a := q34) ?_ (fun _ => ?_)
  rotate_left; clear_value q34; rotate_right; unfold q34
  refine Fr.ite ?_ ?_
  with_reducible apply State.tsRxPtp_fr
  with_reducible refine Fr.pair ‹_ = (_, _)› ?_
  with_reducible apply State.dropHeld_fr
  with_reducible assumption
  exact List.Subset.trans (by decide) hl
  exact List.Subset.trans (by decide) hl
  with_reducible refine Fr.pair ‹_ = (_, _)› ?_
  with_reducible apply State.dropHeld_fr
  with_reducible assumption
  exact List.Subset.trans (by decide) hl
  extract_lets +onlyGivenNames q51; refine Fr.cut (a := q51) ?_ (fun _ => ?_)
  rotate_left; clear_value q51; rotate_right; unfold q51
  refine Fr.ite ?_ ?_
  with_reducible apply State.tsRxHost_fr
  with_reducible assumption
  exact List.Subset.trans (by decide) hl
  with_reducible assumption
  extract_lets +onlyGivenNames q62; clear_value q62
  extract_lets +onlyGivenNames q64; refine Fr.cut (a := q64) ?_ (fun _ => ?_)
  rotate_left; clear_value q64; rotate_right; unfold q64
  split
  refine Fr.ite ?_ ?_
  refine Fr.upd ?_ (c14 := .inl (hl (by decide)))
  with_reducible assumption
  with_reducible assumption
  with_reducible assumption
  refine Fr.foldl ?_ ?_
  with_reducible assumption
  intro x78_0 x78_1 x78_2
  with_reducible apply State.forward_fr
  with_reducible assumption
  exact hl

theorem State.ridgeRx_fr {s : State} {p : Nat} {f : Frame} {rxTime : Nat} (hz : Fr l z s) (hl : [.out, .regs,
      .once, .log, .evt, .ports, .rdg, .prf, .hst] ⊆ l) :
    Fr l z (State.ridgeRx s p f rxTime) := by
  unfold State.ridgeRx
  split
  refine Fr.ite ?_ ?_
  with_reducible apply State.route_fr
  with_reducible assumption
  exact hl
  refine Fr.ite ?_ ?_
  with_reducible assumption
  split
  with_reducible apply State.route_fr
  with_reducible refine Fr.pair ‹_ = (_, _)› ?_
  with_reducible apply State.nodeCheck_fr
  with_reducible assumption
  exact List.Subset.trans (by decide) hl
  exact hl
  with_reducible apply State.duplicate_fr
  with_reducible refine Fr.pair ‹_ = (_, _)› ?_
  with_reducible apply State.nodeCheck_fr
  with_reducible assumption
  exact List.Subset.trans (by decide) hl
  exact List.Subset.trans (by decide) hl
  with_reducible apply State.route_fr
  with_reducible apply State.raiseRecOnce_fr
  with_reducible apply State.wrapBy_fr
  with_reducible refine Fr.pair ‹_ = (_, _)› ?_
  with_reducible apply State.nodeCheck_fr
  with_reducible assumption
  exact List.Subset.trans (by decide) hl
  exact List.Subset.trans (by decide) hl
  exact List.Subset.trans (by decide) hl
  exact hl
  refine Fr.ite ?_ ?_
  with_reducible assumption
  with_reducible apply State.route_fr
  with_reducible assumption
  exact hl
  with_reducible apply State.route_fr
  with_reducible assumption
  exact hl

theorem State.ridgeSend_fr {s : State} {e : Nat} {f : Frame} {ipSum : Bool} {l4Sum : Bool} (hz : Fr l z s)
    (hl : [.out, .regs, .once, .log, .evt, .ports, .rdg, .prf] ⊆ l) :
    Fr l z (State.ridgeSend s e f ipSum l4Sum) := by
  unfold State.ridgeSend
  extract_lets +onlyGivenNames q0; clear_value q0
  split
  with_reducible apply State.epCount_fr
  with_reducible assumption
  exact List.Subset.trans (by decide) hl
  split
  with_reducible apply State.sendOwn_fr
  with_reducible refine Fr.pair ‹_ = (_, _)› ?_
  with_reducible apply State.dropHeld_fr
  with_reducible assumption
  exact List.Subset.trans (by decide) hl
  exact hl

theorem State.ringEcc_fr {s : State} {a : Nat} (hz : Fr l z s) (hl : [.regs, .log, .evt, .pln] ⊆ l) :
    Fr l z (State.ringEcc s a) := by
  unfold State.ringEcc
  extract_lets +onlyGivenNames q0
  extract_lets +onlyGivenNames q1; refine Fr.cut (a := q1) ?_ (fun _ => ?_)
  rotate_left; clear_value q1; rotate_right; unfold q1
  refine Fr.upd ?_ (c19 := .inl (hl (by decide)))
  with_reducible assumption
  with_reducible apply State.raiseRec_fr
  with_reducible apply State.count_fr
  with_reducible assumption
  exact List.Subset.trans (by decide) hl
  exact List.Subset.trans (by decide) hl

theorem State.runComplete_fr {s : State} {k : Nat} {id : Nat} {cycles : Nat} (hz : Fr l z s) (hl : [.out, .regs,
      .once, .evt, .prf, .kpr] ⊆ l) :
    Fr l z (State.runComplete s k id cycles) := by
  unfold State.runComplete
  extract_lets +onlyGivenNames q0; clear_value q0
  extract_lets +onlyGivenNames q2; clear_value q2
  extract_lets +onlyGivenNames q4; refine Fr.cut (a := q4) ?_ (fun _ => ?_)
  rotate_left; clear_value q4; rotate_right; unfold q4
  with_reducible apply State.runCycles_fr
  with_reducible assumption
  exact List.Subset.trans (by decide) hl
  with_reducible apply State.nextRun_fr
  refine Fr.upd ?_ (c24 := .inl (hl (by decide)))
  with_reducible assumption
  exact hl

theorem State.runDecides_fr {s : State} {k : Nat} {id : Nat} {d : Nat} {v : Bool} (hz : Fr l z s) (hl : [.out,
      .regs, .once, .evt, .prf, .kpr] ⊆ l) :
    Fr l z (State.runDecides s k id d v) := by
  unfold State.runDecides
  extract_lets +onlyGivenNames q0; clear_value q0
  extract_lets +onlyGivenNames q2; refine Fr.cut (a := q2) ?_ (fun _ => ?_)
  rotate_left; clear_value q2; rotate_right; unfold q2
  with_reducible apply State.prfKeeper_fr
  with_reducible assumption
  exact List.Subset.trans (by decide) hl
  refine Fr.ite ?_ ?_
  with_reducible apply State.setKeeper_fr
  with_reducible assumption
  exact List.Subset.trans (by decide) hl
  with_reducible apply State.setKeeper_fr
  with_reducible assumption
  exact List.Subset.trans (by decide) hl

theorem State.runEvent_fr {s : State} {k : Nat} {id : Nat} {n : Nat} {v : Nat} (hz : Fr l z s) (hl : [.kpr] ⊆ l) :
    Fr l z (State.runEvent s k id n v) := by
  unfold State.runEvent
  extract_lets +onlyGivenNames q0; clear_value q0
  refine Fr.ite ?_ ?_
  with_reducible apply State.setKeeper_fr
  with_reducible assumption
  exact hl
  with_reducible apply State.setKeeper_fr
  with_reducible assumption
  exact hl

theorem State.runTrap_fr {s : State} {k : Nat} {id : Nat} {cause : Nat} {pc : Nat} {cycles : Nat} (hz : Fr l z s)
    (hl : [.out, .regs, .once, .log, .evt, .prf, .hst, .kpr] ⊆ l) :
    Fr l z (State.runTrap s k id cause pc cycles) := by
  unfold State.runTrap
  extract_lets +onlyGivenNames q0; clear_value q0
  extract_lets +onlyGivenNames q2; refine Fr.cut (a := q2) ?_ (fun _ => ?_)
  rotate_left; clear_value q2; rotate_right; unfold q2
  with_reducible apply State.oncePer_fr
  with_reducible assumption
  intro x10_0 x10_1
  with_reducible apply State.logPut_fr
  with_reducible assumption
  exact List.Subset.trans (by decide) hl
  exact List.Subset.trans (by decide) hl
  with_reducible apply State.runOver_fr
  with_reducible assumption
  exact hl

theorem State.rxFree_fr {s : State} {p : Nat} {ts : Nat} (hz : Fr l z s) (hl : [.ports] ⊆ l) :
    Fr l z (State.rxFree s p ts) := by
  unfold State.rxFree
  refine Fr.ite ?_ ?_
  with_reducible apply State.setPort_fr
  with_reducible assumption
  exact hl
  with_reducible assumption

theorem State.wrongModule_fr {s : State} {b : List Byte} (hz : Fr l z s) (hl : [.regs, .log, .evt] ⊆ l) :
    Fr l z (State.wrongModule s b) := by
  unfold State.wrongModule
  extract_lets +onlyGivenNames q0; clear_value q0
  with_reducible apply State.logPut_fr
  with_reducible assumption
  exact hl

theorem State.tryBank_fr {s : State} {n : Nat} (hz : Fr l z s) (hl : [.regs, .log, .evt, .img] ⊆ l) :
    Fr l z (State.tryBank s n).1 := by
  unfold State.tryBank
  extract_lets +onlyGivenNames q0; clear_value q0
  split
  dsimp -zeta only
  refine Fr.upd ?_ (c11 := .inl (hl (by decide)))
  with_reducible assumption
  extract_lets +onlyGivenNames q6; refine Fr.cut (a := q6) ?_ (fun _ => ?_)
  rotate_left; clear_value q6; rotate_right; unfold q6
  with_reducible apply State.setBank_fr
  with_reducible assumption
  exact List.Subset.trans (by decide) hl
  extract_lets +onlyGivenNames q15; refine Fr.cut (a := q15) ?_ (fun _ => ?_)
  rotate_left; clear_value q15; rotate_right; unfold q15
  refine Fr.ite ?_ ?_
  with_reducible apply State.wrongModule_fr
  with_reducible assumption
  exact List.Subset.trans (by decide) hl
  with_reducible assumption
  dsimp -zeta only
  with_reducible apply State.logPut_fr
  with_reducible assumption
  exact List.Subset.trans (by decide) hl

theorem State.selectBank_fr {s : State} (hz : Fr l z s) (hl : [.regs, .log, .evt, .img] ⊆ l) :
    Fr l z (State.selectBank s).1 := by
  unfold State.selectBank
  extract_lets +onlyGivenNames q0; clear_value q0
  extract_lets +onlyGivenNames q2; clear_value q2
  extract_lets +onlyGivenNames q4; clear_value q4
  extract_lets +onlyGivenNames q6; clear_value q6
  extract_lets +onlyGivenNames q8; refine Fr.cut (a := q8) ?_ (fun _ => ?_)
  rotate_left; clear_value q8; rotate_right; unfold q8
  refine Fr.ite ?_ ?_
  with_reducible apply State.logPut_fr
  with_reducible assumption
  exact List.Subset.trans (by decide) hl
  with_reducible assumption
  extract_lets +onlyGivenNames q19; clear_value q19
  split
  extract_lets +onlyGivenNames q22; refine Fr.cut (a := q22) ?_ (fun _ => ?_)
  rotate_left; clear_value q22; rotate_right; unfold q22
  refine Fr.foldl ?_ ?_
  with_reducible refine Fr.pair ‹_ = (_, _)› ?_
  refine Fr.foldlP ?_ ?_
  dsimp -zeta only
  with_reducible assumption
  intro x33_0 x33_1 x33_2
  split
  with_reducible assumption
  with_reducible apply State.tryBank_fr
  with_reducible assumption
  exact hl
  intro x39_0 x39_1 x39_2
  extract_lets +onlyGivenNames q40; clear_value q40
  refine Fr.ite ?_ ?_
  with_reducible apply State.setBank_fr
  with_reducible assumption
  exact List.Subset.trans (by decide) hl
  with_reducible assumption
  dsimp -zeta only
  refine Fr.upd ?_ (c11 := .inl (hl (by decide)))
  with_reducible assumption

theorem State.sendPtp_fr {s : State} {d : Nat} {p : Nat} {kind : Nat} {cls : Nat} (hz : Fr l z s) (hl : [.out,
      .bcn] ⊆ l) :
    Fr l z (State.sendPtp s d p kind cls) := by
  unfold State.sendPtp
  extract_lets +onlyGivenNames q0; clear_value q0
  extract_lets +onlyGivenNames q2; clear_value q2
  extract_lets +onlyGivenNames q4; refine Fr.cut (a := q4) ?_ (fun _ => ?_)
  rotate_left; clear_value q4; rotate_right; unfold q4
  refine Fr.upd ?_ (c12 := .inl (hl (by decide)))
  with_reducible assumption
  with_reducible apply State.emit_fr
  with_reducible assumption
  exact List.Subset.trans (by decide) hl

theorem State.setBackup_fr {s : State} (hz : Fr l z s) (hl : [.time] ⊆ l) :
    Fr l z (State.setBackup s) := by
  unfold State.setBackup
  split
  refine Fr.upd ?_ (c6 := .inl (hl (by decide)))
  with_reducible assumption
  refine Fr.upd ?_ (c6 := .inl (hl (by decide)))
  with_reducible assumption
  refine Fr.upd ?_ (c6 := .inl (hl (by decide)))
  with_reducible assumption
  with_reducible assumption

theorem State.setShed_fr {s : State} {l1 : Nat} (hz : Fr l z s) (hl : [.regs, .log, .evt, .gal] ⊆ l) :
    Fr l z (State.setShed s l1) := by
  unfold State.setShed
  refine Fr.ite ?_ ?_
  with_reducible assumption
  extract_lets +onlyGivenNames q2; clear_value q2
  extract_lets +onlyGivenNames q4; refine Fr.cut (a := q4) ?_ (fun _ => ?_)
  rotate_left; clear_value q4; rotate_right; unfold q4
  refine Fr.upd ?_ (c25 := .inl (hl (by decide)))
  with_reducible assumption
  with_reducible apply State.logPut_fr
  with_reducible apply State.setEvent_fr
  with_reducible assumption
  exact List.Subset.trans (by decide) hl
  exact List.Subset.trans (by decide) hl

theorem State.settingsResolve_fr {s : State} (hz : Fr l z s) (hl : [.img] ⊆ l) :
    Fr l z (State.settingsResolve s) := by
  unfold State.settingsResolve
  extract_lets +onlyGivenNames q0; clear_value q0
  split
  extract_lets +onlyGivenNames q3; clear_value q3
  refine Fr.upd ?_ (c11 := .inl (hl (by decide)))
  with_reducible assumption

theorem State.shaperRec_fr {s : State} {p : Nat} (hz : Fr l z s) (hl : [.regs, .log, .evt] ⊆ l) :
    Fr l z (State.shaperRec s p) := by
  unfold State.shaperRec
  refine Fr.ite ?_ ?_
  with_reducible apply State.macRec_fr
  with_reducible assumption
  exact hl
  with_reducible assumption

theorem State.slotBad_fr {s : State} {slot : Nat} (hz : Fr l z s) (hl : [.regs, .log, .evt, .lmp] ⊆ l) :
    Fr l z (State.slotBad s slot) := by
  unfold State.slotBad
  refine Fr.ite ?_ ?_
  with_reducible assumption
  with_reducible apply State.raiseRec_fr
  with_reducible apply State.setKey_fr
  with_reducible assumption
  exact List.Subset.trans (by decide) hl
  exact List.Subset.trans (by decide) hl

theorem State.stagePass_fr {s : State} (hz : Fr l z s) (hl : [.out, .regs, .cmds, .once, .time, .glb, .log, .evt,
      .img, .bcn, .cdv, .prf, .pln, .svi, .cnd, .hst, .kpr, .gal, .pub, .pair] ⊆ l) :
    Fr l z (State.stagePass s) := by
  unfold State.stagePass
  extract_lets +onlyGivenNames q0; clear_value q0
  extract_lets +onlyGivenNames q2; clear_value q2
  extract_lets +onlyGivenNames q4; refine Fr.cut (a := q4) ?_ (fun _ => ?_)
  rotate_left; clear_value q4; rotate_right; unfold q4
  refine Fr.upd ?_ (c7 := .inl (hl (by decide)))
  with_reducible assumption
  refine Fr.ite ?_ ?_
  extract_lets +onlyGivenNames q13; clear_value q13
  extract_lets +onlyGivenNames q15; refine Fr.cut (a := q15) ?_ (fun _ => ?_)
  rotate_left; clear_value q15; rotate_right; unfold q15
  with_reducible apply State.logPut_fr
  with_reducible assumption
  exact List.Subset.trans (by decide) hl
  with_reducible apply State.setMode_fr
  refine Fr.upd ?_ (c18 := .inl (hl (by decide)))
  with_reducible assumption
  exact List.Subset.trans (by decide) hl
  with_reducible assumption

theorem State.startSpeed_fr {s : State} {p : Nat} {speed : Nat} (hz : Fr l z s) (hl : [.out, .regs, .log, .evt,
      .bcn, .ports, .rdg, .hst] ⊆ l) :
    Fr l z (State.startSpeed s p speed) := by
  unfold State.startSpeed
  extract_lets +onlyGivenNames q0; refine Fr.cut (a := q0) ?_ (fun _ => ?_)
  rotate_left; clear_value q0; rotate_right; unfold q0
  with_reducible apply State.dropLink_fr
  with_reducible assumption
  exact hl
  with_reducible apply State.setPort_fr
  with_reducible assumption
  exact List.Subset.trans (by decide) hl

theorem State.stomp_fr {s : State} {p : Nat} {f : Frame} (hz : Fr l z s) (hl : [.out, .regs, .log, .evt] ⊆ l) :
    Fr l z (State.stomp s p f) := by
  unfold State.stomp
  extract_lets +onlyGivenNames q0; refine Fr.cut (a := q0) ?_ (fun _ => ?_)
  rotate_left; clear_value q0; rotate_right; unfold q0
  with_reducible apply State.emit_fr
  with_reducible apply State.epCount_fr
  with_reducible assumption
  exact List.Subset.trans (by decide) hl
  exact List.Subset.trans (by decide) hl
  with_reducible apply State.eventRec_fr
  with_reducible apply State.setEvent_fr
  with_reducible assumption
  exact List.Subset.trans (by decide) hl
  exact List.Subset.trans (by decide) hl

theorem State.stompAll_fr {s : State} {p : Nat} {f : Frame} (hz : Fr l z s) (hl : [.out, .regs, .log, .evt] ⊆ l) :
    Fr l z (State.stompAll s p f) := by
  unfold State.stompAll
  refine Fr.foldl ?_ ?_
  with_reducible assumption
  intro x2_0 x2_1 x2_2
  with_reducible apply State.stomp_fr
  with_reducible apply State.epCount_fr
  with_reducible assumption
  exact List.Subset.trans (by decide) hl
  exact hl

theorem State.storeWrite_fr {s : State} {l1 : List (Nat × List Byte)} {seq : Nat} (hz : Fr l z s) (hl : [.img] ⊆ l) :
    Fr l z (State.storeWrite s l1 seq) := by
  unfold State.storeWrite
  refine Fr.foldl ?_ ?_
  with_reducible assumption
  intro x2_0 x2_1 x2_2
  extract_lets +onlyGivenNames q3; clear_value q3
  refine Fr.upd ?_ (c11 := .inl (hl (by decide)))
  with_reducible assumption

theorem State.subAccept_fr {s : State} {c : StreamCfg} {m : GooseMsg} {sim : Bool} {vals : List SubVal}
    (hz : Fr l z s) (hl : [.regs, .log, .evt, .pln, .pub] ⊆ l) :
    Fr l z (State.subAccept s c m sim vals) := by
  unfold State.subAccept
  extract_lets +onlyGivenNames q0; clear_value q0
  extract_lets +onlyGivenNames q2; clear_value q2
  refine Fr.ite ?_ ?_
  with_reducible assumption
  extract_lets +onlyGivenNames q6; refine Fr.cut (a := q6) ?_ (fun _ => ?_)
  rotate_left; clear_value q6; rotate_right; unfold q6
  with_reducible apply State.setSub_fr
  with_reducible assumption
  exact List.Subset.trans (by decide) hl
  extract_lets +onlyGivenNames q15; refine Fr.cut (a := q15) ?_ (fun _ => ?_)
  rotate_left; clear_value q15; rotate_right; unfold q15
  with_reducible apply State.subCount_fr
  with_reducible assumption
  exact List.Subset.trans (by decide) hl
  extract_lets +onlyGivenNames q24; refine Fr.cut (a := q24) ?_ (fun _ => ?_)
  rotate_left; clear_value q24; rotate_right; unfold q24
  refine Fr.ite ?_ ?_
  with_reducible apply State.raiseRec_fr
  with_reducible assumption
  exact List.Subset.trans (by decide) hl
  with_reducible assumption
  with_reducible apply State.subWrite_fr
  with_reducible assumption
  exact List.Subset.trans (by decide) hl

theorem State.subCheck_fr {s : State} {c : StreamCfg} {m : GooseMsg} {sim : Bool} (hz : Fr l z s) (hl : [.regs,
      .log, .evt, .pln, .pub] ⊆ l) :
    Fr l z (State.subCheck s c m sim) := by
  unfold State.subCheck
  extract_lets +onlyGivenNames q0; clear_value q0
  refine Fr.ite ?_ ?_
  extract_lets +onlyGivenNames q3; refine Fr.cut (a := q3) ?_ (fun _ => ?_)
  rotate_left; clear_value q3; rotate_right; unfold q3
  with_reducible apply State.subCount_fr
  with_reducible assumption
  exact List.Subset.trans (by decide) hl
  refine Fr.ite ?_ ?_
  with_reducible assumption
  with_reducible apply State.raiseRec_fr
  with_reducible apply State.setSub_fr
  with_reducible assumption
  exact List.Subset.trans (by decide) hl
  exact List.Subset.trans (by decide) hl
  refine Fr.ite ?_ ?_
  with_reducible apply State.subCount_fr
  with_reducible assumption
  exact List.Subset.trans (by decide) hl
  split
  with_reducible apply State.subCount_fr
  with_reducible assumption
  exact List.Subset.trans (by decide) hl
  with_reducible apply State.subAccept_fr
  with_reducible assumption
  exact hl

theorem State.tellRidge_fr {s : State} {src : Nat} {red : Option (Nat × Nat)} {ok : Bool} (hz : Fr l z s)
    (hl : [.out, .regs, .once, .log, .evt, .ports, .rdg, .prf] ⊆ l) :
    Fr l z (State.tellRidge s src red ok) := by
  unfold State.tellRidge
  split
  with_reducible assumption
  with_reducible apply State.authResult_fr
  with_reducible assumption
  exact hl

theorem State.subVerify_fr {s : State} {c : StreamCfg} {m : GooseMsg} {sim : Bool} (hz : Fr l z s) (hl : [.out,
      .regs, .once, .log, .evt, .ports, .rdg, .prf, .pln, .pub] ⊆ l) :
    Fr l z (State.subVerify s c m sim) := by
  unfold State.subVerify
  extract_lets +onlyGivenNames q0; clear_value q0
  extract_lets +onlyGivenNames q2; clear_value q2
  extract_lets +onlyGivenNames q4
  refine Fr.ite ?_ ?_
  with_reducible apply State.subCheck_fr
  with_reducible assumption
  exact List.Subset.trans (by decide) hl
  split
  refine Fr.ite ?_ ?_
  unfold q4
  with_reducible apply State.tellRidge_fr
  with_reducible apply State.raiseRecOnce_fr
  with_reducible apply State.subCount_fr
  with_reducible apply State.subCount_fr
  with_reducible assumption
  exact List.Subset.trans (by decide) hl
  exact List.Subset.trans (by decide) hl
  exact List.Subset.trans (by decide) hl
  exact List.Subset.trans (by decide) hl
  with_reducible apply State.subCheck_fr
  with_reducible apply State.tellRidge_fr
  with_reducible assumption
  exact List.Subset.trans (by decide) hl
  exact List.Subset.trans (by decide) hl
  refine Fr.ite ?_ ?_
  with_reducible apply State.subCheck_fr
  with_reducible apply State.tellRidge_fr
  with_reducible assumption
  exact List.Subset.trans (by decide) hl
  exact List.Subset.trans (by decide) hl
  unfold q4
  with_reducible apply State.tellRidge_fr
  with_reducible apply State.raiseRecOnce_fr
  with_reducible apply State.subCount_fr
  with_reducible apply State.subCount_fr
  with_reducible assumption
  exact List.Subset.trans (by decide) hl
  exact List.Subset.trans (by decide) hl
  exact List.Subset.trans (by decide) hl
  exact List.Subset.trans (by decide) hl

theorem State.supSignal_fr {s : State} {k : Nat} {sup : Nat} (hz : Fr l z s) (hl : [.pln] ⊆ l) :
    Fr l z (State.supSignal s k sup) := by
  unfold State.supSignal
  extract_lets +onlyGivenNames q0; clear_value q0
  refine Fr.ite ?_ ?_
  with_reducible assumption
  with_reducible apply State.setSig_fr
  with_reducible assumption
  exact hl

theorem State.sviAccept_fr {s : State} {c : StreamCfg} {f : SvFrame} {ts : Nat} (hz : Fr l z s) (hl : [.out,
      .regs, .once, .log, .evt, .prf, .pln, .svi, .cnd, .pair] ⊆ l) :
    Fr l z (State.sviAccept s c f ts) := by
  unfold State.sviAccept
  extract_lets +onlyGivenNames q0; clear_value q0
  refine Fr.ite ?_ ?_
  extract_lets +onlyGivenNames q3; refine Fr.cut (a := q3) ?_ (fun _ => ?_)
  rotate_left; clear_value q3; rotate_right; unfold q3
  with_reducible apply State.svCount_fr
  with_reducible assumption
  exact List.Subset.trans (by decide) hl
  extract_lets +onlyGivenNames q12; clear_value q12
  extract_lets +onlyGivenNames q14; refine Fr.cut (a := q14) ?_ (fun _ => ?_)
  rotate_left; clear_value q14; rotate_right; unfold q14
  refine Fr.ite ?_ ?_
  with_reducible assumption
  with_reducible apply State.raiseRec_fr
  with_reducible apply State.setStream_fr
  with_reducible assumption
  exact List.Subset.trans (by decide) hl
  exact List.Subset.trans (by decide) hl
  with_reducible apply State.sviNote_fr
  with_reducible assumption
  exact List.Subset.trans (by decide) hl
  refine Fr.ite ?_ ?_
  with_reducible apply State.svCount_fr
  with_reducible assumption
  exact List.Subset.trans (by decide) hl
  refine Fr.ite ?_ ?_
  with_reducible apply State.svCount_fr
  with_reducible assumption
  exact List.Subset.trans (by decide) hl
  split
  refine Fr.ite ?_ ?_
  with_reducible refine Fr.pair ‹_ = (_, _)› ?_
  with_reducible apply State.asdus_fr
  with_reducible assumption
  exact hl
  with_reducible apply State.prfIntake_fr
  with_reducible apply State.prfIntake_fr
  with_reducible apply State.svCount_fr
  with_reducible refine Fr.pair ‹_ = (_, _)› ?_
  with_reducible apply State.asdus_fr
  with_reducible assumption
  exact hl
  exact List.Subset.trans (by decide) hl
  exact List.Subset.trans (by decide) hl
  exact List.Subset.trans (by decide) hl

theorem State.sviAuthFail_fr {s : State} {i : Nat} (hz : Fr l z s) (hl : [.regs, .once, .log, .evt] ⊆ l) :
    Fr l z (State.sviAuthFail s i) := by
  unfold State.sviAuthFail
  with_reducible apply State.sviNote_fr
  with_reducible apply State.raiseRecOnce_fr
  with_reducible apply State.svCount_fr
  with_reducible assumption
  exact List.Subset.trans (by decide) hl
  exact hl
  exact List.Subset.trans (by decide) hl

theorem State.sviVerify_fr {s : State} {c : StreamCfg} {f : SvFrame} {ts : Nat} (hz : Fr l z s) (hl : [.out,
      .regs, .once, .log, .evt, .ports, .rdg, .prf, .pln, .svi, .cnd, .pair] ⊆ l) :
    Fr l z (State.sviVerify s c f ts) := by
  unfold State.sviVerify
  extract_lets +onlyGivenNames q0; clear_value q0
  extract_lets +onlyGivenNames q2; clear_value q2
  refine Fr.ite ?_ ?_
  with_reducible apply State.sviAccept_fr
  with_reducible assumption
  exact List.Subset.trans (by decide) hl
  split
  refine Fr.ite ?_ ?_
  with_reducible apply State.tellRidge_fr
  with_reducible apply State.svCount_fr
  with_reducible assumption
  exact List.Subset.trans (by decide) hl
  exact List.Subset.trans (by decide) hl
  with_reducible apply State.sviAccept_fr
  with_reducible apply State.tellRidge_fr
  with_reducible assumption
  exact List.Subset.trans (by decide) hl
  exact List.Subset.trans (by decide) hl
  extract_lets +onlyGivenNames q20; refine Fr.cut (a := q20) ?_ (fun _ => ?_)
  rotate_left; clear_value q20; rotate_right; unfold q20
  with_reducible apply State.prfIntake_fr
  with_reducible assumption
  exact List.Subset.trans (by decide) hl
  refine Fr.ite ?_ ?_
  with_reducible apply State.sviAccept_fr
  with_reducible apply State.tellRidge_fr
  with_reducible assumption
  exact List.Subset.trans (by decide) hl
  exact List.Subset.trans (by decide) hl
  with_reducible apply State.tellRidge_fr
  with_reducible apply State.sviAuthFail_fr
  with_reducible apply State.prfIntake_fr
  with_reducible assumption
  exact List.Subset.trans (by decide) hl
  exact List.Subset.trans (by decide) hl
  exact List.Subset.trans (by decide) hl

theorem State.syncReject_fr {s : State} (hz : Fr l z s) (hl : [.regs, .log, .evt] ⊆ l) :
    Fr l z (State.syncReject s) := by
  unfold State.syncReject
  with_reducible apply State.logPut_fr
  with_reducible assumption
  exact hl

theorem State.t1sDrop_fr {s : State} {p : Nat} {n : Nat} {q : QFrame} (hz : Fr l z s) (hl : [.out, .regs, .log,
      .evt, .ports, .rdg, .hst] ⊆ l) :
    Fr l z (State.t1sDrop s p n q) := by
  unfold State.t1sDrop
  extract_lets +onlyGivenNames q0; clear_value q0
  extract_lets +onlyGivenNames q2; refine Fr.cut (a := q2) ?_ (fun _ => ?_)
  rotate_left; clear_value q2; rotate_right; unfold q2
  refine Fr.upd ?_ (c14 := .inl (hl (by decide)))
  with_reducible assumption
  extract_lets +onlyGivenNames q10; clear_value q10
  extract_lets +onlyGivenNames q12; refine Fr.cut (a := q12) ?_ (fun _ => ?_)
  rotate_left; clear_value q12; rotate_right; unfold q12
  with_reducible apply State.setPort_fr
  with_reducible assumption
  exact List.Subset.trans (by decide) hl
  with_reducible apply State.copyGone_fr
  with_reducible apply State.note_fr
  with_reducible apply State.stat_fr
  with_reducible assumption
  exact List.Subset.trans (by decide) hl
  exact List.Subset.trans (by decide) hl
  exact List.Subset.trans (by decide) hl

theorem State.tagStep_fr {s : State} {k : Nat} {r : TagRec} (hz : Fr l z s) (hl : [.prf] ⊆ l) :
    Fr l z (State.tagStep s k r) := by
  unfold State.tagStep
  refine Fr.ite ?_ ?_
  extract_lets +onlyGivenNames q1; clear_value q1
  extract_lets +onlyGivenNames q3; clear_value q3
  extract_lets +onlyGivenNames q5; refine Fr.cut (a := q5) ?_ (fun _ => ?_)
  rotate_left; clear_value q5; rotate_right; unfold q5
  refine Fr.ite ?_ ?_
  refine Fr.upd ?_ (c18 := .inl (hl (by decide)))
  with_reducible assumption
  with_reducible assumption
  extract_lets +onlyGivenNames q15; clear_value q15
  refine Fr.ite ?_ ?_
  extract_lets +onlyGivenNames q18; clear_value q18
  refine Fr.upd ?_ (c18 := .inl (hl (by decide)))
  with_reducible assumption
  refine Fr.upd ?_ (c18 := .inl (hl (by decide)))
  with_reducible assumption
  with_reducible assumption

theorem State.takeCause_fr {s : State} {kind : Nat} (hz : Fr l z s) (hl : [.regs, .log, .evt, .pair] ⊆ l) :
    Fr l z (State.takeCause s kind) := by
  unfold State.takeCause
  refine Fr.ite ?_ ?_
  with_reducible assumption
  refine Fr.ite ?_ ?_
  refine Fr.upd ?_ (c27 := .inl (hl (by decide)))
  with_reducible assumption
  with_reducible apply State.eventRec_fr
  with_reducible apply State.setEvent_fr
  with_reducible assumption
  exact List.Subset.trans (by decide) hl
  exact List.Subset.trans (by decide) hl

theorem State.takeNow_fr {s : State} (hz : Fr l z s) (hl : [.out, .regs, .cmds, .once, .time, .glb, .log, .evt,
      .img, .bcn, .ports, .rdg, .cdv, .prf, .pln, .svi, .cnd, .hst, .kpr, .gal, .pub, .pair] ⊆ l) :
    Fr l z (State.takeNow s) := by
  unfold State.takeNow
  refine Fr.ite ?_ ?_
  extract_lets +onlyGivenNames q1; refine Fr.cut (a := q1) ?_ (fun _ => ?_)
  rotate_left; clear_value q1; rotate_right; unfold q1
  with_reducible apply State.setMode_fr
  with_reducible assumption
  exact List.Subset.trans (by decide) hl
  with_reducible apply State.mirrorSend_fr
  with_reducible apply State.raiseRec_fr
  with_reducible apply State.lanternSend_fr
  with_reducible apply State.pubTakeover_fr
  with_reducible assumption
  exact List.Subset.trans (by decide) hl
  exact List.Subset.trans (by decide) hl
  exact List.Subset.trans (by decide) hl
  exact List.Subset.trans (by decide) hl
  with_reducible apply State.eventRec_fr
  with_reducible apply State.setEvent_fr
  with_reducible assumption
  exact List.Subset.trans (by decide) hl
  exact List.Subset.trans (by decide) hl

theorem State.tamperLatch_fr {s : State} {sensor : Nat} (hz : Fr l z s) (hl : [.lmp] ⊆ l) :
    Fr l z (State.tamperLatch s sensor) := by
  unfold State.tamperLatch
  dsimp only
  refine Fr.upd hz (c22 := .inl (hl (by decide))) (kt := ?_) (ks := fun i h => ?_)
  · show min 65535 s.lmp.tampers ≤ min 65535 (s.lmp.tampers + 1)
    omega
  · simp [Nat.testBit_or, h]

theorem State.tamperReport_fr {s : State} (hz : Fr l z s) (hl : [.regs, .log, .evt] ⊆ l) :
    Fr l z (State.tamperReport s) := by
  unfold State.tamperReport
  with_reducible apply State.raiseRec_fr
  with_reducible apply State.raiseGlb_fr
  with_reducible apply State.logPut_fr
  with_reducible assumption
  exact hl
  exact hl
  exact hl

theorem State.wake_fr {s : State} (hz : Fr l z s) (hl : [.out, .regs, .cmds, .once, .time, .glb, .pwr, .log, .evt,
      .img, .bcn, .ports, .rdg, .cdv, .bin, .can, .prf, .pln, .svi, .cnd, .lmp, .hst, .kpr, .gal, .pub, .pair] ⊆ l) :
    Fr l z (State.wake s) := by
  unfold State.wake
  extract_lets +onlyGivenNames q0; clear_value q0
  extract_lets +onlyGivenNames q2; clear_value q2
  extract_lets +onlyGivenNames q4; clear_value q4
  extract_lets +onlyGivenNames q6; refine Fr.cut (a := q6) ?_ (fun _ => ?_)
  rotate_left; clear_value q6; rotate_right; unfold q6
  refine Fr.upd ?_ (c8 := .inl (hl (by decide)))
  with_reducible assumption
  with_reducible apply State.bootStart_fr
  with_reducible assumption
  exact hl

theorem alignDataRx_fr {s : State} {m : List Byte} {item : AlignItem} (hz : Fr l z s) (hl : [.regs, .pln, .svi,
      .cnd, .kpr, .pair] ⊆ l) :
    Fr l z (alignDataRx m item s) := by
  unfold alignDataRx
  with_reducible apply State.bregRx_fr
  with_reducible assumption
  intro x2_0 x2_1 x2_2 x2_3
  extract_lets +onlyGivenNames q3; clear_value q3
  extract_lets +onlyGivenNames q5; clear_value q5
  refine Fr.ite ?_ ?_
  split
  extract_lets +onlyGivenNames q9; clear_value q9
  refine Fr.ite ?_ ?_
  with_reducible apply State.alignSlot_fr
  with_reducible assumption
  exact List.Subset.trans (by decide) hl
  refine Fr.ite ?_ ?_
  refine Fr.upd ?_ (c27 := .inl (hl (by decide)))
  with_reducible assumption
  with_reducible assumption
  extract_lets +onlyGivenNames q19; refine Fr.cut (a := q19) ?_ (fun _ => ?_)
  rotate_left; clear_value q19; rotate_right; unfold q19
  with_reducible apply State.plnPut_fr
  with_reducible apply State.alignDrop_fr
  with_reducible assumption
  exact List.Subset.trans (by decide) hl
  exact List.Subset.trans (by decide) hl
  refine Fr.upd ?_ (c21 := .inl (hl (by decide)))
  with_reducible assumption
  with_reducible apply State.setGroup_fr
  with_reducible apply State.alignDrop_fr
  with_reducible assumption
  exact List.Subset.trans (by decide) hl
  exact List.Subset.trans (by decide) hl
  with_reducible apply State.alignAtCommit_fr
  with_reducible assumption
  exact List.Subset.trans (by decide) hl
  with_reducible apply State.alignAtCommit_fr
  with_reducible assumption
  exact List.Subset.trans (by decide) hl
  with_reducible assumption
  with_reducible assumption
  exact List.Subset.trans (by decide) hl

theorem alignInitiate_fr {s : State} (hz : Fr l z s) (hl : [.out, .pair] ⊆ l) :
    Fr l z (alignInitiate s) := by
  unfold alignInitiate
  refine Fr.ite ?_ ?_
  with_reducible apply State.alignRequest_fr
  with_reducible assumption
  exact hl
  with_reducible assumption

theorem alignPlanRx_fr {s : State} {m : List Byte} {s0 : Nat} (hz : Fr l z s) (hl : [.regs, .pair] ⊆ l) :
    Fr l z (alignPlanRx m s0 s) := by
  unfold alignPlanRx
  with_reducible apply State.bregRx_fr
  with_reducible assumption
  intro x2_0 x2_1 x2_2 x2_3
  refine Fr.ite ?_ ?_
  refine Fr.upd ?_ (c27 := .inl (hl (by decide)))
  with_reducible assumption
  with_reducible assumption
  exact List.Subset.trans (by decide) hl

theorem alignReqRx_fr {s : State} {m : List Byte} {lead : Nat} {span : Nat} (hz : Fr l z s) (hl : [.out, .regs,
      .pair] ⊆ l) :
    Fr l z (alignReqRx m lead span s) := by
  unfold alignReqRx
  with_reducible apply State.bregRx_fr
  with_reducible assumption
  intro x2_0 x2_1 x2_2 x2_3
  refine Fr.ite ?_ ?_
  with_reducible apply State.alignPlan_fr
  with_reducible assumption
  exact List.Subset.trans (by decide) hl
  with_reducible apply State.ctrlAbort_fr
  with_reducible assumption
  exact List.Subset.trans (by decide) hl
  exact List.Subset.trans (by decide) hl

theorem announceTimeout_fr {s : State} {d : Nat} (hz : Fr l z s) (hl : [.regs, .cmds, .log, .evt, .bcn] ⊆ l) :
    Fr l z (announceTimeout d s) := by
  unfold announceTimeout
  extract_lets +onlyGivenNames q0; clear_value q0
  with_reducible apply State.bcnEval_fr
  with_reducible apply State.requalify_fr
  with_reducible apply State.setRef_fr
  with_reducible assumption
  exact List.Subset.trans (by decide) hl
  exact List.Subset.trans (by decide) hl
  exact hl

theorem archiveDone_fr {s : State} (hz : Fr l z s) (hl : [.regs, .log, .evt, .gal] ⊆ l) :
    Fr l z (archiveDone s) := by
  unfold archiveDone
  split
  with_reducible assumption
  extract_lets +onlyGivenNames q2; clear_value q2
  extract_lets +onlyGivenNames q4; refine Fr.cut (a := q4) ?_ (fun _ => ?_)
  rotate_left; clear_value q4; rotate_right; unfold q4
  refine Fr.upd ?_ (c25 := .inl (hl (by decide)))
  with_reducible assumption
  extract_lets +onlyGivenNames q12; clear_value q12
  extract_lets +onlyGivenNames q14; clear_value q14
  refine Fr.ite ?_ ?_
  extract_lets +onlyGivenNames q17; clear_value q17
  extract_lets +onlyGivenNames q19; refine Fr.cut (a := q19) ?_ (fun _ => ?_)
  rotate_left; clear_value q19; rotate_right; unfold q19
  with_reducible apply State.setProg_fr
  with_reducible assumption
  exact List.Subset.trans (by decide) hl
  extract_lets +onlyGivenNames q28; clear_value q28
  extract_lets +onlyGivenNames q30; clear_value q30
  extract_lets +onlyGivenNames q32; clear_value q32
  extract_lets +onlyGivenNames q34; refine Fr.cut (a := q34) ?_ (fun _ => ?_)
  rotate_left; clear_value q34; rotate_right; unfold q34
  refine Fr.upd ?_ (c25 := .inl (hl (by decide)))
  with_reducible assumption
  with_reducible apply State.galEvent_fr
  with_reducible assumption
  exact List.Subset.trans (by decide) hl
  with_reducible assumption

theorem asymDone_fr {s : State} {p : Nat} {mean : Int} (hz : Fr l z s) (hl : [.regs, .cmds, .log, .evt, .bcn] ⊆ l) :
    Fr l z (asymDone p mean s) := by
  unfold asymDone
  extract_lets +onlyGivenNames q0; clear_value q0
  refine Fr.ite ?_ ?_
  extract_lets +onlyGivenNames q3; clear_value q3
  extract_lets +onlyGivenNames q5; clear_value q5
  extract_lets +onlyGivenNames q7; clear_value q7
  extract_lets +onlyGivenNames q9; refine Fr.cut (a := q9) ?_ (fun _ => ?_)
  rotate_left; clear_value q9; rotate_right; unfold q9
  with_reducible apply State.setAsym_fr
  with_reducible assumption
  exact List.Subset.trans (by decide) hl
  extract_lets +onlyGivenNames q18; clear_value q18
  extract_lets +onlyGivenNames q20; clear_value q20
  extract_lets +onlyGivenNames q22; refine Fr.cut (a := q22) ?_ (fun _ => ?_)
  rotate_left; clear_value q22; rotate_right; unfold q22
  refine Fr.ite ?_ ?_
  refine Fr.ite ?_ ?_
  with_reducible apply State.raiseRec_fr
  with_reducible apply State.asymAdopt_fr
  with_reducible assumption
  exact List.Subset.trans (by decide) hl
  exact List.Subset.trans (by decide) hl
  with_reducible apply State.raiseRec_fr
  with_reducible apply State.setAsym_fr
  with_reducible assumption
  exact List.Subset.trans (by decide) hl
  exact List.Subset.trans (by decide) hl
  with_reducible apply State.raiseRec_fr
  with_reducible assumption
  exact List.Subset.trans (by decide) hl
  refine Fr.ite ?_ ?_
  with_reducible apply State.cmdDone_fr
  with_reducible assumption
  exact List.Subset.trans (by decide) hl
  with_reducible assumption
  with_reducible assumption

theorem bcnRateLoRead_fr {s : State} (hz : Fr l z s) (hl : [.readData, .bcn] ⊆ l) :
    Fr l z (bcnRateLoRead s) := by
  unfold bcnRateLoRead
  extract_lets +onlyGivenNames q0; clear_value q0
  refine Fr.upd ?_ (c2 := .inl (hl (by decide))) (c12 := .inl (hl (by decide)))
  with_reducible assumption

theorem bcnTimeNsRead_fr {s : State} {q : Requester} (hz : Fr l z s) (hl : [.readData, .bcn] ⊆ l) :
    Fr l z (bcnTimeNsRead q s) := by
  unfold bcnTimeNsRead
  extract_lets +onlyGivenNames q0; clear_value q0
  extract_lets +onlyGivenNames q2; clear_value q2
  refine Fr.upd ?_ (c2 := .inl (hl (by decide))) (c12 := .inl (hl (by decide)))
  with_reducible assumption

theorem binTs32Read_fr {s : State} {q : Requester} {i : Nat} (hz : Fr l z s) (hl : [.readData, .bin] ⊆ l) :
    Fr l z (binTs32Read q i s) := by
  unfold binTs32Read
  extract_lets +onlyGivenNames q0; clear_value q0
  extract_lets +onlyGivenNames q2; refine Fr.cut (a := q2) ?_ (fun _ => ?_)
  rotate_left; clear_value q2; rotate_right; unfold q2
  with_reducible apply State.setInput_fr
  with_reducible assumption
  exact List.Subset.trans (by decide) hl
  refine Fr.upd ?_ (c2 := .inl (hl (by decide)))
  with_reducible assumption

theorem blockResetDone_fr {s : State} (hz : Fr l z s) (hl : [.regs, .cmds, .glb, .log, .evt] ⊆ l) :
    Fr l z (blockResetDone s) := by
  unfold blockResetDone
  refine Fr.ite ?_ ?_
  with_reducible apply State.cmdDone_fr
  refine Fr.upd ?_ (c7 := .inl (hl (by decide)))
  with_reducible assumption
  exact List.Subset.trans (by decide) hl
  with_reducible assumption

theorem bootStage_fr {s : State} {pass : Bool} (hz : Fr l z s) (hl : [.out, .regs, .cmds, .once, .time, .glb,
      .pwr, .log, .evt, .img, .bcn, .cdv, .prf, .pln, .svi, .cnd, .lmp, .hst, .kpr, .gal, .pub, .pair] ⊆ l) :
    Fr l z (bootStage pass s) := by
  unfold bootStage
  refine Fr.ite ?_ ?_
  split
  refine Fr.ite ?_ ?_
  extract_lets +onlyGivenNames q3; clear_value q3
  extract_lets +onlyGivenNames q5; refine Fr.cut (a := q5) ?_ (fun _ => ?_)
  rotate_left; clear_value q5; rotate_right; unfold q5
  refine Fr.upd ?_ (c8 := .inl (hl (by decide)))
  with_reducible assumption
  with_reducible apply State.bootFail_fr
  with_reducible apply State.tamperReport_fr
  with_reducible assumption
  exact List.Subset.trans (by decide) hl
  exact List.Subset.trans (by decide) hl
  refine Fr.ite ?_ ?_
  with_reducible apply State.stagePass_fr
  with_reducible assumption
  exact List.Subset.trans (by decide) hl
  with_reducible apply State.bootFail_fr
  with_reducible assumption
  exact List.Subset.trans (by decide) hl
  extract_lets +onlyGivenNames q25; refine Fr.cut (a := q25) ?_ (fun _ => ?_)
  rotate_left; clear_value q25; rotate_right; unfold q25
  with_reducible apply State.lampBoot_fr
  with_reducible assumption
  exact List.Subset.trans (by decide) hl
  refine Fr.ite ?_ ?_
  extract_lets +onlyGivenNames q35; clear_value q35
  with_reducible apply State.stagePass_fr
  refine Fr.upd ?_ (c7 := .inl (hl (by decide)))
  with_reducible assumption
  exact List.Subset.trans (by decide) hl
  with_reducible apply State.bootFail_fr
  with_reducible assumption
  exact List.Subset.trans (by decide) hl
  split
  refine Fr.ite ?_ ?_
  with_reducible apply State.stagePass_fr
  with_reducible refine Fr.pair ‹_ = (_, _)› ?_
  split
  with_reducible apply State.selectBank_fr
  with_reducible assumption
  exact List.Subset.trans (by decide) hl
  dsimp -zeta only
  with_reducible assumption
  exact List.Subset.trans (by decide) hl
  with_reducible apply State.bootFail_fr
  with_reducible refine Fr.pair ‹_ = (_, _)› ?_
  split
  with_reducible apply State.selectBank_fr
  with_reducible assumption
  exact List.Subset.trans (by decide) hl
  dsimp -zeta only
  with_reducible assumption
  exact List.Subset.trans (by decide) hl
  refine Fr.ite ?_ ?_
  with_reducible apply State.stagePass_fr
  with_reducible apply State.journalResolve_fr
  with_reducible apply State.settingsResolve_fr
  with_reducible assumption
  exact List.Subset.trans (by decide) hl
  exact List.Subset.trans (by decide) hl
  exact List.Subset.trans (by decide) hl
  with_reducible apply State.bootFail_fr
  with_reducible assumption
  exact List.Subset.trans (by decide) hl
  refine Fr.ite ?_ ?_
  with_reducible apply State.stagePass_fr
  with_reducible assumption
  exact List.Subset.trans (by decide) hl
  with_reducible apply State.bootFail_fr
  with_reducible assumption
  exact List.Subset.trans (by decide) hl
  with_reducible assumption

end Sys2Proof.Machine
end

