-- ==== Sys2Proof/Laws/Frame6.lean ====
section
/-!
SUPPORT. What each operation may change, and that it keeps what every operation keeps (part 6).
-/

set_option Elab.async false

namespace Sys2Proof.Machine

open Sys2Proof

variable {l : List Part} {z : State}

theorem bregLaneChange_fr {s : State} {p : Nat} {lane : Nat} {trained : Bool} (hz : Fr l z s) (hl : [.regs, .cmds,
      .log, .evt, .pair] ⊆ l) :
    Fr l z (bregLaneChange p lane trained s) := by
  unfold bregLaneChange
  extract_lets +onlyGivenNames q0; clear_value q0
  extract_lets +onlyGivenNames q2; clear_value q2
  refine Fr.ite ?_ ?_
  with_reducible apply State.setPath_fr
  with_reducible assumption
  exact List.Subset.trans (by decide) hl
  with_reducible apply State.setUp_fr
  with_reducible apply State.setPath_fr
  with_reducible assumption
  exact List.Subset.trans (by decide) hl
  exact hl

theorem budgetExpiry_fr {s : State} {k : Nat} (hz : Fr l z s) (hl : [.out, .regs, .once, .log, .evt, .prf, .hst,
      .kpr] ⊆ l) :
    Fr l z (budgetExpiry k s) := by
  unfold budgetExpiry
  split
  with_reducible assumption
  with_reducible apply State.runOver_fr
  with_reducible assumption
  exact hl

theorem busOffRecovered_fr {s : State} {c : Nat} (hz : Fr l z s) (hl : [.regs, .cmds, .log, .evt, .can] ⊆ l) :
    Fr l z (busOffRecovered c s) := by
  unfold busOffRecovered
  extract_lets +onlyGivenNames q0; clear_value q0
  refine Fr.ite ?_ ?_
  extract_lets +onlyGivenNames q3; refine Fr.cut (a := q3) ?_ (fun _ => ?_)
  rotate_left; clear_value q3; rotate_right; unfold q3
  with_reducible apply State.canEvent_fr
  with_reducible apply State.setCan_fr
  with_reducible assumption
  exact List.Subset.trans (by decide) hl
  exact List.Subset.trans (by decide) hl
  extract_lets +onlyGivenNames q14; clear_value q14
  with_reducible apply State.canPick_fr
  refine Fr.ite ?_ ?_
  with_reducible apply State.cmdDone_fr
  with_reducible assumption
  exact List.Subset.trans (by decide) hl
  with_reducible assumption
  exact List.Subset.trans (by decide) hl
  with_reducible assumption

theorem canBusError_fr {s : State} {c : Nat} {tx : Bool} {ack : Bool} {heavy : Bool} (hz : Fr l z s) (hl : [.regs,
      .log, .evt, .can] ⊆ l) :
    Fr l z (canBusError c tx ack heavy s) := by
  unfold canBusError
  extract_lets +onlyGivenNames q0; clear_value q0
  refine Fr.ite ?_ ?_
  with_reducible assumption
  with_reducible apply State.canCounts_fr
  with_reducible assumption
  exact hl

theorem canFrameRx_fr {s : State} {c : Nat} {id : Word} {esi : Bool} {dlc : Nat} {data : List Byte} {ago : Nat}
    (hz : Fr l z s) (hl : [.regs, .cmds, .log, .evt, .can, .pln] ⊆ l) :
    Fr l z (canFrameRx c id esi dlc data ago s) := by
  unfold canFrameRx
  extract_lets +onlyGivenNames q0; clear_value q0
  refine Fr.ite ?_ ?_
  with_reducible assumption
  extract_lets +onlyGivenNames q4; clear_value q4
  extract_lets +onlyGivenNames q6; clear_value q6
  extract_lets +onlyGivenNames q8; refine Fr.cut (a := q8) ?_ (fun _ => ?_)
  rotate_left; clear_value q8; rotate_right; unfold q8
  with_reducible apply State.canAbdFrame_fr
  with_reducible apply State.canCounts_fr
  with_reducible assumption
  exact List.Subset.trans (by decide) hl
  exact List.Subset.trans (by decide) hl
  split
  with_reducible assumption
  extract_lets +onlyGivenNames q21; clear_value q21
  extract_lets +onlyGivenNames q23; clear_value q23
  extract_lets +onlyGivenNames q25; refine Fr.cut (a := q25) ?_ (fun _ => ?_)
  rotate_left; clear_value q25; rotate_right; unfold q25
  with_reducible apply State.setCan_fr
  with_reducible assumption
  exact List.Subset.trans (by decide) hl
  extract_lets +onlyGivenNames q34; refine Fr.cut (a := q34) ?_ (fun _ => ?_)
  rotate_left; clear_value q34; rotate_right; unfold q34
  refine Fr.ite ?_ ?_
  with_reducible apply State.canEvent_fr
  with_reducible assumption
  exact List.Subset.trans (by decide) hl
  with_reducible assumption
  with_reducible apply State.canEvent_fr
  with_reducible apply State.canMaps_fr
  with_reducible assumption
  exact List.Subset.trans (by decide) hl
  exact List.Subset.trans (by decide) hl

theorem canMapTimeout_fr {s : State} {c : Nat} {m : Nat} (hz : Fr l z s) (hl : [.pln] ⊆ l) :
    Fr l z (canMapTimeout c m s) := by
  unfold canMapTimeout
  extract_lets +onlyGivenNames q0; clear_value q0
  refine Fr.ite ?_ ?_
  extract_lets +onlyGivenNames q3; clear_value q3
  with_reducible apply forN_fr
  with_reducible assumption
  intro x7_0 x7_1 x7_2
  refine Fr.ite ?_ ?_
  with_reducible assumption
  with_reducible apply State.setSigQual_fr
  with_reducible assumption
  exact hl
  with_reducible assumption

theorem canTxComplete_fr {s : State} {c : Nat} {ok : Bool} {ack : Bool} {ago : Nat} (hz : Fr l z s) (hl : [.out,
      .regs, .cmds, .log, .evt, .can] ⊆ l) :
    Fr l z (canTxComplete c ok ack ago s) := by
  unfold canTxComplete
  extract_lets +onlyGivenNames q0; refine Fr.cut (a := q0) ?_ (fun _ => ?_)
  rotate_left; clear_value q0; rotate_right; unfold q0
  with_reducible apply State.canPick_fr
  with_reducible assumption
  exact List.Subset.trans (by decide) hl
  extract_lets +onlyGivenNames q9; clear_value q9
  split
  with_reducible assumption
  extract_lets +onlyGivenNames q13; clear_value q13
  refine Fr.ite ?_ ?_
  extract_lets +onlyGivenNames q16; clear_value q16
  extract_lets +onlyGivenNames q18; refine Fr.cut (a := q18) ?_ (fun _ => ?_)
  rotate_left; clear_value q18; rotate_right; unfold q18
  with_reducible apply State.canEvent_fr
  with_reducible apply State.canCounts_fr
  with_reducible assumption
  exact List.Subset.trans (by decide) hl
  exact List.Subset.trans (by decide) hl
  extract_lets +onlyGivenNames q29; refine Fr.cut (a := q29) ?_ (fun _ => ?_)
  rotate_left; clear_value q29; rotate_right; unfold q29
  with_reducible apply State.emit_fr
  with_reducible assumption
  exact List.Subset.trans (by decide) hl
  with_reducible apply State.canPick_fr
  with_reducible apply State.canAbortEnd_fr
  with_reducible assumption
  exact List.Subset.trans (by decide) hl
  exact List.Subset.trans (by decide) hl
  extract_lets +onlyGivenNames q43; clear_value q43
  extract_lets +onlyGivenNames q45; clear_value q45
  extract_lets +onlyGivenNames q47; clear_value q47
  extract_lets +onlyGivenNames q49; refine Fr.cut (a := q49) ?_ (fun _ => ?_)
  rotate_left; clear_value q49; rotate_right; unfold q49
  with_reducible apply State.setCan_fr
  with_reducible assumption
  exact List.Subset.trans (by decide) hl
  extract_lets +onlyGivenNames q58; refine Fr.cut (a := q58) ?_ (fun _ => ?_)
  rotate_left; clear_value q58; rotate_right; unfold q58
  refine Fr.ite ?_ ?_
  with_reducible apply State.canEvent_fr
  with_reducible assumption
  exact List.Subset.trans (by decide) hl
  with_reducible assumption
  extract_lets +onlyGivenNames q69; clear_value q69
  refine Fr.ite ?_ ?_
  extract_lets +onlyGivenNames q72; refine Fr.cut (a := q72) ?_ (fun _ => ?_)
  rotate_left; clear_value q72; rotate_right; unfold q72
  with_reducible apply State.canEvent_fr
  with_reducible apply State.setCan_fr
  with_reducible assumption
  exact List.Subset.trans (by decide) hl
  exact List.Subset.trans (by decide) hl
  with_reducible apply State.canPick_fr
  with_reducible apply State.canAbortEnd_fr
  with_reducible assumption
  exact List.Subset.trans (by decide) hl
  exact List.Subset.trans (by decide) hl
  refine Fr.ite ?_ ?_
  with_reducible apply State.canPick_fr
  with_reducible apply State.canAbortEnd_fr
  with_reducible apply State.setCan_fr
  with_reducible assumption
  exact List.Subset.trans (by decide) hl
  exact List.Subset.trans (by decide) hl
  exact List.Subset.trans (by decide) hl
  with_reducible apply State.canPick_fr
  with_reducible assumption
  exact List.Subset.trans (by decide) hl

theorem captureEnd_fr {s : State} {p : Nat} (hz : Fr l z s) (hl : [.out, .regs, .log, .evt, .hst, .gal] ⊆ l) :
    Fr l z (captureEnd p s) := by
  unfold captureEnd
  extract_lets +onlyGivenNames q0; clear_value q0
  extract_lets +onlyGivenNames q2; clear_value q2
  extract_lets +onlyGivenNames q4; clear_value q4
  refine Fr.ite ?_ ?_
  extract_lets +onlyGivenNames q7; clear_value q7
  with_reducible apply State.toHoldoff_fr
  with_reducible apply State.closeRec_fr
  with_reducible assumption
  exact hl
  exact List.Subset.trans (by decide) hl
  with_reducible assumption

theorem chainFault_fr {s : State} {ecc : Bool} (hz : Fr l z s) (hl : [.out, .regs, .cmds, .once, .time, .glb,
      .log, .evt, .img, .bcn, .cdv, .pln, .svi, .cnd, .hst, .kpr, .gal, .pub, .pair] ⊆ l) :
    Fr l z (chainFault ecc s) := by
  unfold chainFault
  with_reducible apply State.fault_fr
  with_reducible apply State.raiseRec_fr
  with_reducible assumption
  exact List.Subset.trans (by decide) hl
  exact hl

theorem clearDisarm_fr {s : State} (hz : Fr l z s) (hl : [.log] ⊆ l) :
    Fr l z (clearDisarm s) := by
  unfold clearDisarm
  refine Fr.upd ?_ (c9 := .inl (hl (by decide)))
  with_reducible assumption

theorem commissionTimeout_fr {s : State} (hz : Fr l z s) (hl : [.out, .regs, .cmds, .once, .time, .glb, .log,
      .evt, .img, .bcn, .cdv, .pln, .svi, .cnd, .hst, .kpr, .gal, .pub, .pair] ⊆ l) :
    Fr l z (commissionTimeout s) := by
  unfold commissionTimeout
  refine Fr.ite ?_ ?_
  extract_lets +onlyGivenNames q1; clear_value q1
  extract_lets +onlyGivenNames q3; refine Fr.cut (a := q3) ?_ (fun _ => ?_)
  rotate_left; clear_value q3; rotate_right; unfold q3
  with_reducible apply State.logPut_fr
  with_reducible assumption
  exact List.Subset.trans (by decide) hl
  with_reducible apply State.setMode_fr
  with_reducible apply State.faultSet_fr
  with_reducible assumption
  exact List.Subset.trans (by decide) hl
  exact hl
  with_reducible assumption

theorem commit_fr {s : State} (hz : Fr l z s) (hl : [.out, .regs, .cmds, .once, .time, .glb, .log, .evt, .img,
      .bcn, .ports, .rdg, .cdv, .prf, .pln, .svi, .cnd, .hst, .kpr, .gal, .pub, .pair] ⊆ l) :
    Fr l z (commit s) := by
  unfold commit
  refine Fr.ite ?_ ?_
  extract_lets +onlyGivenNames q1; clear_value q1
  extract_lets +onlyGivenNames q3; refine Fr.cut (a := q3) ?_ (fun _ => ?_)
  rotate_left; clear_value q3; rotate_right; unfold q3
  with_reducible apply State.plnFlags_fr
  with_reducible apply State.modeCommit_fr
  with_reducible apply State.commitFrame_fr
  with_reducible assumption
  exact List.Subset.trans (by decide) hl
  exact List.Subset.trans (by decide) hl
  exact List.Subset.trans (by decide) hl
  with_reducible apply State.commitAlign_fr
  with_reducible apply State.commitOthers_fr
  with_reducible assumption
  exact hl
  exact List.Subset.trans (by decide) hl
  with_reducible assumption

theorem copyDone_fr {s : State} {v : Nat} (hz : Fr l z s) (hl : [.out, .regs, .cmds, .log, .evt, .hst, .gal] ⊆ l) :
    Fr l z (copyDone v s) := by
  unfold copyDone
  split
  with_reducible assumption
  extract_lets +onlyGivenNames q2; clear_value q2
  extract_lets +onlyGivenNames q4; refine Fr.cut (a := q4) ?_ (fun _ => ?_)
  rotate_left; clear_value q4; rotate_right; unfold q4
  refine Fr.upd ?_ (c25 := .inl (hl (by decide)))
  with_reducible assumption
  split
  with_reducible apply State.copyEnd_fr
  with_reducible assumption
  exact hl
  with_reducible apply State.copyEnd_fr
  with_reducible apply State.emit_fr
  with_reducible assumption
  exact List.Subset.trans (by decide) hl
  exact hl

theorem criticalNvmWrite_fr {s : State} {ok : Bool} (hz : Fr l z s) (hl : [.regs, .log, .evt] ⊆ l) :
    Fr l z (criticalNvmWrite ok s) := by
  unfold criticalNvmWrite
  split
  with_reducible assumption
  refine Fr.ite ?_ ?_
  refine Fr.upd ?_ (c9 := .inl (hl (by decide)))
  with_reducible assumption
  with_reducible apply State.setEvent_fr
  refine Fr.upd ?_ (c9 := .inl (hl (by decide)))
  with_reducible assumption
  exact List.Subset.trans (by decide) hl

theorem ctrlAbortRx_fr {s : State} {m : List Byte} (hz : Fr l z s) (hl : [.out, .regs, .cmds, .once, .time, .glb,
      .log, .evt, .img, .bcn, .cdv, .pln, .svi, .cnd, .hst, .kpr, .gal, .pub, .pair] ⊆ l) :
    Fr l z (ctrlAbortRx m s) := by
  unfold ctrlAbortRx
  with_reducible apply State.bregRx_fr
  with_reducible assumption
  intro x2_0 x2_1 x2_2 x2_3
  refine Fr.ite ?_ ?_
  with_reducible apply State.exEnd_fr
  with_reducible assumption
  exact hl
  refine Fr.ite ?_ ?_
  with_reducible apply State.alignFail_fr
  with_reducible assumption
  exact List.Subset.trans (by decide) hl
  with_reducible assumption
  exact List.Subset.trans (by decide) hl

theorem ctrlConfirmRx_fr {s : State} {m : List Byte} (hz : Fr l z s) (hl : [.regs, .pair] ⊆ l) :
    Fr l z (ctrlConfirmRx m s) := by
  unfold ctrlConfirmRx
  with_reducible apply State.bregRx_fr
  with_reducible assumption
  intro x2_0 x2_1 x2_2 x2_3
  refine Fr.ite ?_ ?_
  refine Fr.upd ?_ (c27 := .inl (hl (by decide)))
  with_reducible assumption
  with_reducible assumption
  exact List.Subset.trans (by decide) hl

theorem ctrlGrantRx_fr {s : State} {m : List Byte} (hz : Fr l z s) (hl : [.out, .regs, .pair] ⊆ l) :
    Fr l z (ctrlGrantRx m s) := by
  unfold ctrlGrantRx
  with_reducible apply State.bregRx_fr
  with_reducible assumption
  intro x2_0 x2_1 x2_2 x2_3
  refine Fr.ite ?_ ?_
  with_reducible apply State.ctrlSend_fr
  refine Fr.upd ?_ (c27 := .inl (hl (by decide)))
  with_reducible assumption
  exact List.Subset.trans (by decide) hl
  with_reducible assumption
  exact List.Subset.trans (by decide) hl

theorem ctrlReqRx_fr {s : State} {m : List Byte} (hz : Fr l z s) (hl : [.out, .regs, .cmds, .glb, .log, .evt,
      .pair] ⊆ l) :
    Fr l z (ctrlReqRx m s) := by
  unfold ctrlReqRx
  with_reducible apply State.bregRx_fr
  with_reducible assumption
  intro x2_0 x2_1 x2_2 x2_3
  with_reducible apply State.exReq_fr
  with_reducible assumption
  exact hl
  exact List.Subset.trans (by decide) hl

theorem deadTimeExpiry_fr {s : State} {k : Nat} (hz : Fr l z s) (hl : [.out, .cdv] ⊆ l) :
    Fr l z (deadTimeExpiry k s) := by
  unfold deadTimeExpiry
  extract_lets +onlyGivenNames q0; clear_value q0
  split
  with_reducible assumption
  with_reducible apply State.setCoil_fr
  with_reducible assumption
  exact hl
  with_reducible apply State.setCoil_fr
  with_reducible assumption
  exact hl
  with_reducible apply State.setCoil_fr
  with_reducible assumption
  exact hl

theorem digestRxRow_fr {s : State} {m : List Byte} (hz : Fr l z s) (hl : [.out, .regs, .cmds, .once, .time, .glb,
      .log, .evt, .img, .bcn, .cdv, .pln, .svi, .cnd, .hst, .kpr, .gal, .pub, .pair] ⊆ l) :
    Fr l z (digestRxRow m s) := by
  unfold digestRxRow
  with_reducible apply State.pairTrack_fr
  with_reducible apply State.divergeAct_fr
  with_reducible apply State.bregRx_fr
  with_reducible assumption
  intro x4_0 x4_1 x4_2 x4_3
  with_reducible apply State.digestRx_fr
  with_reducible assumption
  exact List.Subset.trans (by decide) hl
  exact List.Subset.trans (by decide) hl
  exact hl
  exact List.Subset.trans (by decide) hl

theorem dmaFault_fr {s : State} {n : Nat} (hz : Fr l z s) (hl : [.out, .regs, .log, .evt, .ports, .hst] ⊆ l) :
    Fr l z (dmaFault n s) := by
  unfold dmaFault
  extract_lets +onlyGivenNames q0; clear_value q0
  refine Fr.ite ?_ ?_
  extract_lets +onlyGivenNames q3; refine Fr.cut (a := q3) ?_ (fun _ => ?_)
  rotate_left; clear_value q3; rotate_right; unfold q3
  with_reducible apply State.abortQueue_fr
  with_reducible assumption
  exact List.Subset.trans (by decide) hl
  extract_lets +onlyGivenNames q12; clear_value q12
  extract_lets +onlyGivenNames q14; refine Fr.cut (a := q14) ?_ (fun _ => ?_)
  rotate_left; clear_value q14; rotate_right; unfold q14
  with_reducible apply State.setQueue_fr
  with_reducible assumption
  exact List.Subset.trans (by decide) hl
  with_reducible apply State.hstRec_fr
  with_reducible apply State.vfEvent_fr
  with_reducible apply State.fnCount_fr
  with_reducible assumption
  exact List.Subset.trans (by decide) hl
  exact List.Subset.trans (by decide) hl
  exact List.Subset.trans (by decide) hl
  with_reducible assumption

theorem eccUncorr_fr {s : State} {a : Nat} (hz : Fr l z s) (hl : [.out, .regs, .cmds, .once, .time, .glb, .log,
      .evt, .img, .bcn, .cdv, .pln, .svi, .cnd, .hst, .kpr, .gal, .pub, .pair] ⊆ l) :
    Fr l z (eccUncorr a s) := by
  unfold eccUncorr
  refine Fr.ite ?_ ?_
  with_reducible apply State.ringEcc_fr
  with_reducible assumption
  exact List.Subset.trans (by decide) hl
  with_reducible apply State.fault_fr
  with_reducible assumption
  exact hl

theorem egressTransmit_fr {s : State} {x : Nat} {pick : Nat} {busy : Bool} (hz : Fr l z s) (hl : [.out, .regs,
      .once, .evt, .ports, .rdg, .prf, .hst] ⊆ l) :
    Fr l z (egressTransmit x pick busy s) := by
  unfold egressTransmit
  refine Fr.ite ?_ ?_
  split
  with_reducible assumption
  with_reducible apply State.deliverTo_fr
  with_reducible apply State.dequeue_fr
  with_reducible assumption
  exact List.Subset.trans (by decide) hl
  exact List.Subset.trans (by decide) hl
  refine Fr.ite ?_ ?_
  split
  with_reducible apply State.sendOut_fr
  refine Fr.upd ?_ (c14 := .inl (hl (by decide)))
  with_reducible assumption
  exact hl
  split
  with_reducible assumption
  extract_lets +onlyGivenNames q16; refine Fr.cut (a := q16) ?_ (fun _ => ?_)
  rotate_left; clear_value q16; rotate_right; unfold q16
  with_reducible apply State.dequeue_fr
  with_reducible assumption
  exact List.Subset.trans (by decide) hl
  extract_lets +onlyGivenNames q25; refine Fr.cut (a := q25) ?_ (fun _ => ?_)
  rotate_left; clear_value q25; rotate_right; unfold q25
  refine Fr.ite ?_ ?_
  with_reducible apply State.stat_fr
  with_reducible assumption
  exact List.Subset.trans (by decide) hl
  with_reducible assumption
  refine Fr.ite ?_ ?_
  with_reducible apply State.sendOut_fr
  with_reducible assumption
  exact hl
  with_reducible apply State.copyGone_fr
  with_reducible assumption
  exact List.Subset.trans (by decide) hl
  with_reducible assumption

theorem factoryManufacture_fr {s : State} {fw : List Byte} {factory : List Byte} {cert0 : List Byte} {cert1 : List Byte} (hz : Fr l z s) (hl : [.regs, .log, .evt, .lmp] ⊆ l) :
    Fr l z (factoryManufacture fw factory cert0 cert1 s) := by
  unfold factoryManufacture
  dsimp only
  refine Fr.ite ?_ (Fr.ite ?_ hz)
  · exact State.lifeChange_fr (Fr.upd hz (c22 := .inl (hl (by decide)))) hl
  · refine State.lifeChange_fr (Fr.upd hz (c22 := .inl (hl (by decide))) (kt := ?_) (ks := fun i h => ?_)) hl
    · split <;> exact Nat.min_le_right _ _
    · split <;> exact h

theorem fallCompare_fr {s : State} {k : Nat} (hz : Fr l z s) (hl : [.out, .cdv] ⊆ l) :
    Fr l z (fallCompare k s) := by
  unfold fallCompare
  extract_lets +onlyGivenNames q0; clear_value q0
  refine Fr.ite ?_ ?_
  refine Fr.ite ?_ ?_
  with_reducible apply State.setCoil_fr
  with_reducible assumption
  exact hl
  with_reducible apply State.setCoil_fr
  with_reducible assumption
  exact hl
  with_reducible assumption

theorem flrDone_fr {s : State} {v : Nat} (hz : Fr l z s) (hl : [.regs, .cmds, .log, .evt, .hst] ⊆ l) :
    Fr l z (flrDone v s) := by
  unfold flrDone
  extract_lets +onlyGivenNames q0; clear_value q0
  refine Fr.ite ?_ ?_
  extract_lets +onlyGivenNames q3; refine Fr.cut (a := q3) ?_ (fun _ => ?_)
  rotate_left; clear_value q3; rotate_right; unfold q3
  with_reducible apply State.setFunc_fr
  with_reducible assumption
  exact List.Subset.trans (by decide) hl
  extract_lets +onlyGivenNames q12; clear_value q12
  extract_lets +onlyGivenNames q14; refine Fr.cut (a := q14) ?_ (fun _ => ?_)
  rotate_left; clear_value q14; rotate_right; unfold q14
  refine Fr.upd ?_ (c23 := .inl (hl (by decide)))
  with_reducible assumption
  extract_lets +onlyGivenNames q22; refine Fr.cut (a := q22) ?_ (fun _ => ?_)
  rotate_left; clear_value q22; rotate_right; unfold q22
  with_reducible apply State.hstRec_fr
  with_reducible assumption
  exact List.Subset.trans (by decide) hl
  refine Fr.ite ?_ ?_
  with_reducible apply State.cmdDone_fr
  refine Fr.upd ?_ (c23 := .inl (hl (by decide)))
  with_reducible assumption
  exact List.Subset.trans (by decide) hl
  with_reducible assumption
  with_reducible assumption

theorem fogRx_fr {s : State} {p : Nat} {m : List Byte} (hz : Fr l z s) (hl : [.regs, .cmds, .log, .evt, .cnd,
      .pair] ⊆ l) :
    Fr l z (fogRx p m s) := by
  unfold fogRx
  with_reducible apply State.pairTrack_fr
  with_reducible apply State.pairNote_fr
  with_reducible apply State.bregRx_fr
  with_reducible assumption
  intro x4_0 x4_1 x4_2 x4_3
  with_reducible apply State.fogRx_fr
  with_reducible assumption
  exact hl
  exact List.Subset.trans (by decide) hl
  exact List.Subset.trans (by decide) hl
  exact List.Subset.trans (by decide) hl

theorem fogSlotMiss_fr {s : State} {p : Nat} (hz : Fr l z s) (hl : [.regs, .cmds, .log, .evt, .pair] ⊆ l) :
    Fr l z (fogSlotMiss p s) := by
  unfold fogSlotMiss
  refine Fr.ite ?_ ?_
  extract_lets +onlyGivenNames q1; refine Fr.cut (a := q1) ?_ (fun _ => ?_)
  rotate_left; clear_value q1; rotate_right; unfold q1
  with_reducible assumption
  extract_lets +onlyGivenNames q8; refine Fr.cut (a := q8) ?_ (fun _ => ?_)
  rotate_left; clear_value q8; rotate_right; unfold q8
  with_reducible apply State.count_fr
  with_reducible assumption
  exact List.Subset.trans (by decide) hl
  extract_lets +onlyGivenNames q17; clear_value q17
  extract_lets +onlyGivenNames q19; refine Fr.cut (a := q19) ?_ (fun _ => ?_)
  rotate_left; clear_value q19; rotate_right; unfold q19
  with_reducible apply State.setPath_fr
  with_reducible assumption
  exact List.Subset.trans (by decide) hl
  extract_lets +onlyGivenNames q28; refine Fr.cut (a := q28) ?_ (fun _ => ?_)
  rotate_left; clear_value q28; rotate_right; unfold q28
  refine Fr.ite ?_ ?_
  with_reducible apply State.setUp_fr
  with_reducible assumption
  exact hl
  with_reducible assumption
  refine Fr.ite ?_ ?_
  extract_lets +onlyGivenNames q40; clear_value q40
  extract_lets +onlyGivenNames q42; clear_value q42
  extract_lets +onlyGivenNames q44; refine Fr.cut (a := q44) ?_ (fun _ => ?_)
  rotate_left; clear_value q44; rotate_right; unfold q44
  with_reducible apply State.raiseRec_fr
  refine Fr.upd ?_ (c27 := .inl (hl (by decide)))
  with_reducible assumption
  exact List.Subset.trans (by decide) hl
  extract_lets +onlyGivenNames q54; refine Fr.cut (a := q54) ?_ (fun _ => ?_)
  rotate_left; clear_value q54; rotate_right; unfold q54
  with_reducible apply State.pairNote_fr
  with_reducible assumption
  exact List.Subset.trans (by decide) hl
  refine Fr.ite ?_ ?_
  with_reducible apply State.takeCause_fr
  with_reducible assumption
  exact List.Subset.trans (by decide) hl
  with_reducible assumption
  with_reducible assumption
  with_reducible assumption

theorem fogTx_fr {s : State} (hz : Fr l z s) (hl : [.out, .pair] ⊆ l) :
    Fr l z (fogTx s) := by
  unfold fogTx
  refine Fr.ite ?_ ?_
  split
  extract_lets +onlyGivenNames q2; clear_value q2
  extract_lets +onlyGivenNames q4; refine Fr.cut (a := q4) ?_ (fun _ => ?_)
  rotate_left; clear_value q4; rotate_right; unfold q4
  refine Fr.ite ?_ ?_
  with_reducible assumption
  refine Fr.upd ?_ (c27 := .inl (hl (by decide)))
  with_reducible assumption
  with_reducible apply State.bregSend_fr
  with_reducible assumption
  exact hl
  with_reducible assumption

theorem frameTick_fr {s : State} (hz : Fr l z s) (hl : [.out, .regs, .cmds, .once, .time, .glb, .log, .evt, .img,
      .bcn, .ports, .rdg, .cdv, .prf, .pln, .svi, .cnd, .hst, .kpr, .gal, .pub, .pair] ⊆ l) :
    Fr l z (frameTick s) := by
  unfold frameTick
  extract_lets +onlyGivenNames q0; clear_value q0
  refine Fr.ite ?_ ?_
  with_reducible assumption
  extract_lets +onlyGivenNames q4; clear_value q4
  extract_lets +onlyGivenNames q6; refine Fr.cut (a := q6) ?_ (fun _ => ?_)
  rotate_left; clear_value q6; rotate_right; unfold q6
  refine Fr.upd ?_ (c12 := .inl (hl (by decide)))
  with_reducible assumption
  with_reducible apply State.pairTick_fr
  refine Fr.ite ?_ ?_
  with_reducible apply State.frameBegin_fr
  with_reducible assumption
  exact List.Subset.trans (by decide) hl
  with_reducible assumption
  exact List.Subset.trans (by decide) hl

theorem freezeTimeout_fr {s : State} {sameClock : Bool} (hz : Fr l z s) (hl : [.regs, .log, .evt] ⊆ l) :
    Fr l z (freezeTimeout sameClock s) := by
  unfold freezeTimeout
  refine Fr.ite ?_ ?_
  with_reducible apply State.setEvent_fr
  refine Fr.upd ?_ (c9 := .inl (hl (by decide)))
  with_reducible assumption
  exact List.Subset.trans (by decide) hl
  refine Fr.ite ?_ ?_
  with_reducible apply State.setEvent_fr
  with_reducible assumption
  exact List.Subset.trans (by decide) hl
  with_reducible assumption

theorem freqEstimate_fr {s : State} {g : Nat} (hz : Fr l z s) (hl : [.regs, .log, .evt, .cnd] ⊆ l) :
    Fr l z (freqEstimate g s) := by
  unfold freqEstimate
  refine Fr.ite ?_ ?_
  extract_lets +onlyGivenNames q1; clear_value q1
  extract_lets +onlyGivenNames q3; clear_value q3
  extract_lets +onlyGivenNames q5; clear_value q5
  split
  refine Fr.ite ?_ ?_
  with_reducible assumption
  extract_lets +onlyGivenNames q10; clear_value q10
  extract_lets +onlyGivenNames q12; clear_value q12
  with_reducible apply State.groupEvents_fr
  with_reducible apply State.setGroup_fr
  with_reducible assumption
  exact List.Subset.trans (by decide) hl
  exact List.Subset.trans (by decide) hl
  with_reducible assumption
  with_reducible assumption

theorem funcRestartApply_fr {s : State} (hz : Fr l z s) (hl : [.regs, .cmds, .log, .evt, .kpr] ⊆ l) :
    Fr l z (funcRestartApply s) := by
  unfold funcRestartApply
  split
  extract_lets +onlyGivenNames q1; clear_value q1
  refine Fr.ite ?_ ?_
  with_reducible apply State.kprDrop_fr
  with_reducible assumption
  exact hl
  extract_lets +onlyGivenNames q7; refine Fr.cut (a := q7) ?_ (fun _ => ?_)
  rotate_left; clear_value q7; rotate_right; unfold q7
  refine Fr.ite ?_ ?_
  with_reducible apply State.placeChange_fr
  with_reducible assumption
  exact List.Subset.trans (by decide) hl
  with_reducible assumption
  extract_lets +onlyGivenNames q18; clear_value q18
  extract_lets +onlyGivenNames q20; clear_value q20
  extract_lets +onlyGivenNames q22; refine Fr.cut (a := q22) ?_ (fun _ => ?_)
  rotate_left; clear_value q22; rotate_right; unfold q22
  with_reducible apply State.setFn_fr
  with_reducible assumption
  exact List.Subset.trans (by decide) hl
  extract_lets +onlyGivenNames q31; refine Fr.cut (a := q31) ?_ (fun _ => ?_)
  rotate_left; clear_value q31; rotate_right; unfold q31
  with_reducible apply State.logPut_fr
  with_reducible assumption
  exact List.Subset.trans (by decide) hl
  refine Fr.upd ?_ (c24 := .inl (hl (by decide)))
  with_reducible assumption
  with_reducible assumption

theorem gooseRx_fr {s : State} {m : GooseMsg} (hz : Fr l z s) (hl : [.out, .regs, .once, .log, .evt, .ports, .rdg,
      .prf, .pln, .pub] ⊆ l) :
    Fr l z (gooseRx m s) := by
  unfold gooseRx
  refine Fr.ite ?_ ?_
  with_reducible assumption
  refine Fr.ite ?_ ?_
  with_reducible apply State.count_fr
  with_reducible assumption
  exact List.Subset.trans (by decide) hl
  split
  with_reducible apply State.noMatch_fr
  with_reducible assumption
  exact List.Subset.trans (by decide) hl
  extract_lets +onlyGivenNames q10; clear_value q10
  extract_lets +onlyGivenNames q12; clear_value q12
  refine Fr.ite ?_ ?_
  with_reducible apply State.subCount_fr
  with_reducible assumption
  exact List.Subset.trans (by decide) hl
  with_reducible apply State.subVerify_fr
  with_reducible assumption
  exact hl

theorem gridSampleCompute_fr {s : State} {k : Nat} (hz : Fr l z s) (hl : [.out, .regs, .once, .log, .evt, .prf,
      .pln, .svi, .cnd] ⊆ l) :
    Fr l z (gridSampleCompute k s) := by
  unfold gridSampleCompute
  split
  with_reducible assumption
  extract_lets +onlyGivenNames q2; clear_value q2
  extract_lets +onlyGivenNames q4; refine Fr.cut (a := q4) ?_ (fun _ => ?_)
  rotate_left; clear_value q4; rotate_right; unfold q4
  with_reducible apply State.gridCompute_fr
  with_reducible assumption
  exact List.Subset.trans (by decide) hl
  with_reducible apply State.partnerTry_fr
  with_reducible apply State.substEnd_fr
  with_reducible assumption
  exact List.Subset.trans (by decide) hl
  exact List.Subset.trans (by decide) hl

theorem guestPlace_fr {s : State} (hz : Fr l z s) (hl : [.kpr] ⊆ l) :
    Fr l z (guestPlace s) := by
  unfold guestPlace
  extract_lets +onlyGivenNames q0; clear_value q0
  refine Fr.foldl ?_ ?_
  with_reducible assumption
  intro x4_0 x4_1 x4_2
  split
  with_reducible assumption
  refine Fr.ite ?_ ?_
  extract_lets +onlyGivenNames q8; clear_value q8
  extract_lets +onlyGivenNames q10; refine Fr.cut (a := q10) ?_ (fun _ => ?_)
  rotate_left; clear_value q10; rotate_right; unfold q10
  with_reducible apply State.setFn_fr
  with_reducible assumption
  exact hl
  refine Fr.upd ?_ (c24 := .inl (hl (by decide)))
  with_reducible assumption
  with_reducible assumption

theorem handbackHoldExpiry_fr {s : State} (hz : Fr l z s) (hl : [.out, .pair] ⊆ l) :
    Fr l z (handbackHoldExpiry s) := by
  unfold handbackHoldExpiry
  split
  with_reducible assumption
  refine Fr.ite ?_ ?_
  with_reducible apply State.exRequest_fr
  with_reducible assumption
  exact hl
  with_reducible assumption

theorem holdDrainDone_fr {s : State} (hz : Fr l z s) (hl : [.regs, .cmds, .log, .evt] ⊆ l) :
    Fr l z (holdDrainDone s) := by
  unfold holdDrainDone
  refine Fr.ite ?_ ?_
  extract_lets +onlyGivenNames q1; clear_value q1
  extract_lets +onlyGivenNames q3; refine Fr.cut (a := q3) ?_ (fun _ => ?_)
  rotate_left; clear_value q3; rotate_right; unfold q3
  refine Fr.upd ?_ (c9 := .inl (hl (by decide)))
  with_reducible assumption
  extract_lets +onlyGivenNames q11; refine Fr.cut (a := q11) ?_ (fun _ => ?_)
  rotate_left; clear_value q11; rotate_right; unfold q11
  refine Fr.ite ?_ ?_
  with_reducible apply State.logAccept_fr
  with_reducible apply State.clearLosses_fr
  with_reducible assumption
  exact List.Subset.trans (by decide) hl
  exact List.Subset.trans (by decide) hl
  with_reducible assumption
  refine Fr.ite ?_ ?_
  with_reducible apply State.cmdDone_fr
  with_reducible assumption
  exact hl
  with_reducible assumption
  with_reducible assumption

theorem holdoffExpiry_fr {s : State} {p : Nat} (hz : Fr l z s) (hl : [.gal] ⊆ l) :
    Fr l z (holdoffExpiry p s) := by
  unfold holdoffExpiry
  extract_lets +onlyGivenNames q0; clear_value q0
  extract_lets +onlyGivenNames q2; clear_value q2
  extract_lets +onlyGivenNames q4; clear_value q4
  extract_lets +onlyGivenNames q6; clear_value q6
  refine Fr.ite ?_ ?_
  refine Fr.ite ?_ ?_
  with_reducible apply State.arming_fr
  with_reducible assumption
  exact hl
  with_reducible apply State.setProg_fr
  with_reducible assumption
  exact hl
  with_reducible assumption

theorem holdupExpiry_fr {s : State} (hz : Fr l z s) (hl : [.out, .regs, .cmds, .once, .time, .glb, .pwr, .log,
      .evt, .img, .bcn, .cdv, .pln, .svi, .cnd, .hst, .kpr, .gal, .pub, .pair] ⊆ l) :
    Fr l z (holdupExpiry s) := by
  unfold holdupExpiry
  refine Fr.ite ?_ ?_
  with_reducible apply State.cause_fr
  refine Fr.upd ?_ (c8 := .inl (hl (by decide)))
  with_reducible assumption
  intro x4_0 x4_1
  with_reducible apply State.toDormant_fr
  with_reducible assumption
  exact hl
  exact List.Subset.trans (by decide) hl
  with_reducible assumption

theorem hostRx_fr {s : State} {n : Nat} {f : Frame} {ingress : Nat} {cls : Nat} {ts : Nat} {ago : Nat}
    {bufs : List Nat} (hz : Fr l z s) (hl : [.out, .regs, .once, .evt, .ports, .hst] ⊆ l) :
    Fr l z (hostRx n f ingress cls ts ago bufs s) := by
  unfold hostRx
  extract_lets +onlyGivenNames q0; clear_value q0
  extract_lets +onlyGivenNames q2; refine Fr.cut (a := q2) ?_ (fun _ => ?_)
  rotate_left; clear_value q2; rotate_right; unfold q2
  with_reducible apply State.rxFree_fr
  with_reducible assumption
  exact List.Subset.trans (by decide) hl
  refine Fr.ite ?_ ?_
  with_reducible apply State.fnCount_fr
  with_reducible assumption
  exact List.Subset.trans (by decide) hl
  extract_lets +onlyGivenNames q15; clear_value q15
  extract_lets +onlyGivenNames q17; clear_value q17
  extract_lets +onlyGivenNames q19; clear_value q19
  extract_lets +onlyGivenNames q21; clear_value q21
  refine Fr.ite ?_ ?_
  extract_lets +onlyGivenNames q24; refine Fr.cut (a := q24) ?_ (fun _ => ?_)
  rotate_left; clear_value q24; rotate_right; unfold q24
  with_reducible apply forN_fr
  with_reducible assumption
  intro x32_0 x32_1 x32_2
  with_reducible apply State.emit_fr
  with_reducible assumption
  exact List.Subset.trans (by decide) hl
  extract_lets +onlyGivenNames q36; refine Fr.cut (a := q36) ?_ (fun _ => ?_)
  rotate_left; clear_value q36; rotate_right; unfold q36
  with_reducible apply State.setQueue_fr
  with_reducible assumption
  exact List.Subset.trans (by decide) hl
  with_reducible apply State.raiseOnce_fr
  with_reducible apply State.fnCount_fr
  with_reducible assumption
  exact List.Subset.trans (by decide) hl
  exact List.Subset.trans (by decide) hl
  extract_lets +onlyGivenNames q50; refine Fr.cut (a := q50) ?_ (fun _ => ?_)
  rotate_left; clear_value q50; rotate_right; unfold q50
  with_reducible apply forN_fr
  with_reducible assumption
  intro x58_0 x58_1 x58_2
  extract_lets +onlyGivenNames q59; clear_value q59
  extract_lets +onlyGivenNames q61; clear_value q61
  extract_lets +onlyGivenNames q63; clear_value q63
  extract_lets +onlyGivenNames q65; refine Fr.cut (a := q65) ?_ (fun _ => ?_)
  rotate_left; clear_value q65; rotate_right; unfold q65
  with_reducible apply State.emit_fr
  with_reducible assumption
  exact List.Subset.trans (by decide) hl
  with_reducible apply State.emit_fr
  with_reducible assumption
  exact List.Subset.trans (by decide) hl
  extract_lets +onlyGivenNames q77; refine Fr.cut (a := q77) ?_ (fun _ => ?_)
  rotate_left; clear_value q77; rotate_right; unfold q77
  with_reducible apply State.setQueue_fr
  with_reducible assumption
  exact List.Subset.trans (by decide) hl
  with_reducible apply State.queueInt_fr
  with_reducible apply State.fnCount_fr
  with_reducible apply State.fnCount_fr
  with_reducible assumption
  exact List.Subset.trans (by decide) hl
  exact List.Subset.trans (by decide) hl
  exact List.Subset.trans (by decide) hl

theorem hostTx_fr {s : State} {n : Nat} {descs : List (Nat × Nat)} {f : Frame} (hz : Fr l z s) (hl : [.out, .regs,
      .once, .log, .evt, .ports, .rdg, .prf, .hst] ⊆ l) :
    Fr l z (hostTx n descs f s) := by
  unfold hostTx
  extract_lets +onlyGivenNames q0; clear_value q0
  extract_lets +onlyGivenNames q2; clear_value q2
  extract_lets +onlyGivenNames q4; clear_value q4
  refine Fr.ite ?_ ?_
  with_reducible assumption
  extract_lets +onlyGivenNames q8; clear_value q8
  extract_lets +onlyGivenNames q10; clear_value q10
  extract_lets +onlyGivenNames q12; clear_value q12
  refine Fr.ite ?_ ?_
  with_reducible apply State.setQueue_fr
  with_reducible assumption
  exact List.Subset.trans (by decide) hl
  extract_lets +onlyGivenNames q18; clear_value q18
  extract_lets +onlyGivenNames q20; clear_value q20
  extract_lets +onlyGivenNames q22; clear_value q22
  extract_lets +onlyGivenNames q24; clear_value q24
  extract_lets +onlyGivenNames q26; refine Fr.cut (a := q26) ?_ (fun _ => ?_)
  rotate_left; clear_value q26; rotate_right; unfold q26
  refine Fr.upd ?_ (c23 := .inl (hl (by decide)))
  with_reducible assumption
  extract_lets +onlyGivenNames q34
  refine Fr.ite ?_ ?_
  unfold q34
  with_reducible apply State.drain_fr
  with_reducible apply State.setQueue_fr
  with_reducible assumption
  exact List.Subset.trans (by decide) hl
  exact List.Subset.trans (by decide) hl
  refine Fr.ite ?_ ?_
  with_reducible apply State.raiseOnce_fr
  unfold q34
  with_reducible apply State.drain_fr
  with_reducible apply State.setQueue_fr
  with_reducible apply State.fnCount_fr
  with_reducible assumption
  exact List.Subset.trans (by decide) hl
  exact List.Subset.trans (by decide) hl
  exact List.Subset.trans (by decide) hl
  exact List.Subset.trans (by decide) hl
  split
  unfold q34
  with_reducible apply State.drain_fr
  with_reducible apply State.setQueue_fr
  with_reducible apply State.fnCount_fr
  with_reducible apply State.epCount_fr
  with_reducible assumption
  exact List.Subset.trans (by decide) hl
  exact List.Subset.trans (by decide) hl
  exact List.Subset.trans (by decide) hl
  exact List.Subset.trans (by decide) hl
  split
  extract_lets +onlyGivenNames q65; clear_value q65
  extract_lets +onlyGivenNames q67; refine Fr.cut (a := q67) ?_ (fun _ => ?_)
  rotate_left; clear_value q67; rotate_right; unfold q67
  with_reducible apply State.sendOwn_fr
  with_reducible refine Fr.pair ‹_ = (_, _)› ?_
  with_reducible apply State.dropHeld_fr
  with_reducible assumption
  exact List.Subset.trans (by decide) hl
  exact List.Subset.trans (by decide) hl
  extract_lets +onlyGivenNames q79; clear_value q79
  extract_lets +onlyGivenNames q81; refine Fr.cut (a := q81) ?_ (fun _ => ?_)
  rotate_left; clear_value q81; rotate_right; unfold q81
  with_reducible apply State.hostPressure_fr
  with_reducible assumption
  exact List.Subset.trans (by decide) hl
  refine Fr.ite ?_ ?_
  unfold q34
  with_reducible apply State.drain_fr
  with_reducible apply State.setQueue_fr
  with_reducible apply State.fnCount_fr
  with_reducible assumption
  exact List.Subset.trans (by decide) hl
  exact List.Subset.trans (by decide) hl
  exact List.Subset.trans (by decide) hl
  with_reducible apply State.setQueue_fr
  with_reducible assumption
  exact List.Subset.trans (by decide) hl

theorem imageLoaded_fr {s : State} (hz : Fr l z s) (hl : [.out, .regs, .log, .evt, .img, .bcn, .rdg, .cdv, .bin,
      .can, .pln, .svi, .lmp, .hst, .kpr, .gal, .pub, .pair] ⊆ l) :
    Fr l z (imageLoaded s) := by
  unfold imageLoaded
  refine Fr.ite ?_ ?_
  with_reducible apply State.pairTrack_fr
  with_reducible apply State.loadBlocks_fr
  with_reducible assumption
  exact List.Subset.trans (by decide) hl
  exact List.Subset.trans (by decide) hl
  with_reducible assumption

theorem inputAccepted_fr {s : State} {i : Nat} (hz : Fr l z s) (hl : [.regs, .log, .evt, .bin, .pln] ⊆ l) :
    Fr l z (inputAccepted i s) := by
  unfold inputAccepted
  extract_lets +onlyGivenNames q0; clear_value q0
  split
  with_reducible assumption
  refine Fr.ite ?_ ?_
  extract_lets +onlyGivenNames q5; clear_value q5
  extract_lets +onlyGivenNames q7; clear_value q7
  extract_lets +onlyGivenNames q9; refine Fr.cut (a := q9) ?_ (fun _ => ?_)
  rotate_left; clear_value q9; rotate_right; unfold q9
  with_reducible apply State.setInput_fr
  with_reducible assumption
  exact List.Subset.trans (by decide) hl
  extract_lets +onlyGivenNames q18; refine Fr.cut (a := q18) ?_ (fun _ => ?_)
  rotate_left; clear_value q18; rotate_right; unfold q18
  with_reducible apply State.count_fr
  with_reducible assumption
  exact List.Subset.trans (by decide) hl
  extract_lets +onlyGivenNames q27; refine Fr.cut (a := q27) ?_ (fun _ => ?_)
  rotate_left; clear_value q27; rotate_right; unfold q27
  refine Fr.ite ?_ ?_
  with_reducible assumption
  with_reducible apply State.setSig_fr
  with_reducible assumption
  exact List.Subset.trans (by decide) hl
  refine Fr.ite ?_ ?_
  with_reducible assumption
  with_reducible apply State.raiseRec_fr
  with_reducible assumption
  exact List.Subset.trans (by decide) hl
  with_reducible assumption

theorem inputLevel_fr {s : State} {i : Nat} {level : Bool} (hz : Fr l z s) (hl : [.bin] ⊆ l) :
    Fr l z (inputLevel i level s) := by
  unfold inputLevel
  extract_lets +onlyGivenNames q0; clear_value q0
  refine Fr.ite ?_ ?_
  with_reducible assumption
  extract_lets +onlyGivenNames q4; clear_value q4
  refine Fr.ite ?_ ?_
  with_reducible apply State.setInput_fr
  with_reducible assumption
  exact hl
  with_reducible apply State.setInput_fr
  with_reducible assumption
  exact hl

theorem integrityPass_fr {s : State} {fails : List (Fin 1024)} (hz : Fr l z s) (hl : [.regs, .log, .evt, .lmp] ⊆ l) :
    Fr l z (integrityPass fails s) := by
  unfold integrityPass
  refine Fr.ite ?_ ?_
  refine Fr.foldl ?_ ?_
  with_reducible assumption
  intro x3_0 x3_1 x3_2
  extract_lets +onlyGivenNames q4; clear_value q4
  refine Fr.ite ?_ ?_
  with_reducible apply State.slotBad_fr
  with_reducible assumption
  exact hl
  with_reducible assumption
  with_reducible assumption

theorem irigError_fr {s : State} (hz : Fr l z s) (hl : [.regs, .cmds, .log, .evt, .bcn] ⊆ l) :
    Fr l z (irigError s) := by
  unfold irigError
  extract_lets +onlyGivenNames q0; clear_value q0
  extract_lets +onlyGivenNames q2; refine Fr.cut (a := q2) ?_ (fun _ => ?_)
  rotate_left; clear_value q2; rotate_right; unfold q2
  with_reducible apply State.setRef_fr
  with_reducible assumption
  exact List.Subset.trans (by decide) hl
  with_reducible apply State.bcnEval_fr
  with_reducible apply State.requalify_fr
  with_reducible apply State.raiseRec_fr
  with_reducible assumption
  exact List.Subset.trans (by decide) hl
  exact List.Subset.trans (by decide) hl
  exact hl

theorem irigFrame_fr {s : State} {offset : Int} {demand : Int} {refRate : Int} {quality : Nat} (hz : Fr l z s)
    (hl : [.regs, .cmds, .log, .evt, .bcn] ⊆ l) :
    Fr l z (irigFrame offset demand refRate quality s) := by
  unfold irigFrame
  refine Fr.ite ?_ ?_
  with_reducible assumption
  extract_lets +onlyGivenNames q2; clear_value q2
  extract_lets +onlyGivenNames q4; refine Fr.cut (a := q4) ?_ (fun _ => ?_)
  rotate_left; clear_value q4; rotate_right; unfold q4
  with_reducible apply State.setRef_fr
  with_reducible assumption
  exact List.Subset.trans (by decide) hl
  with_reducible apply State.refMeasure_fr
  with_reducible assumption
  exact hl

/-- What an instruction's effect gives keeps the frame. -/
def Done.Frame (l : List Part) (z : State) (d : Done) : Prop := ∀ s, d = .ok s → Fr l z s

theorem Done.Frame.trap {c : Nat} : Done.Frame l z (.trap c) := fun _ h => nomatch h

theorem Done.Frame.ok {s : State} (h : Fr l z s) : Done.Frame l z (.ok s) := fun _ e => Done.ok.inj e ▸ h

theorem Done.Frame.ite {a b : Done} {c : Prop} [Decidable c] (ha : a.Frame l z) (hb : b.Frame l z) :
    (if c then a else b).Frame l z := by split <;> assumption

theorem State.kReg_fr {s : State} {k r v : Nat} (hz : Fr l z s) (hl : [.kpr] ⊆ l) : (s.kReg k r v).Frame l z :=
  .ok (State.setKeeper_fr hz hl)

theorem State.kLoad_fr {s : State} {k id a n : Nat} {f : Nat → Done} (hf : ∀ v, (f v).Frame l z) :
    (s.kLoad k id a n f).Frame l z := by
  unfold State.kLoad
  refine .ite .trap ?_
  split
  · exact .trap
  · exact hf _

theorem State.kStore_fr {s : State} {k id a n v : Nat} (hz : Fr l z s) (hl : [.kpr] ⊆ l) :
    (s.kStore k id a n v).Frame l z := by
  unfold State.kStore
  exact .ite .trap (.ite (.ok (State.setKeeper_fr hz hl)) .trap)

theorem State.kCsr_fr {s : State} {k id op rd src a cycle left : Nat} (hz : Fr l z s) (hl : [.kpr] ⊆ l) :
    (s.kCsr k id op rd src a cycle left).Frame l z := by
  unfold State.kCsr
  exact .ite .trap (.ok (State.setKeeper_fr hz hl))

theorem State.kEffect_fr {s : State} {k id : Nat} {op : KOp} {at_ cycle left : Nat} (hz : Fr l z s)
    (hl : [.out, .regs, .once, .evt, .prf, .kpr] ⊆ l) : (s.kEffect k id op at_ cycle left).Frame l z := by
  have hk : [Part.kpr] ⊆ l := (List.Subset.trans (by decide) hl)
  have hp : Fr l z (s.prfKeeper k 3 1) := State.prfKeeper_fr hz (List.Subset.trans (by decide) hl)
  cases op with
  | illegal => exact .trap
  | lui => exact State.kReg_fr hz hk
  | auipc => exact State.kReg_fr hz hk
  | jal => exact .ok (State.setKeeper_fr hz hk)
  | jalr => exact .ok (State.setKeeper_fr hz hk)
  | branch => exact .ite (.ok (State.setKeeper_fr hz hk)) (.ok hz)
  | load => exact State.kLoad_fr fun _ => State.kReg_fr hz hk
  | store => exact State.kStore_fr hz hk
  | aluI => exact State.kReg_fr hz hk
  | alu => exact State.kReg_fr hz hk
  | mul => exact State.kReg_fr hz hk
  | fence => exact .ok hz
  | csr => exact State.kCsr_fr hz hk
  | flw => exact State.kLoad_fr fun _ => State.kReg_fr hz hk
  | fsw => exact State.kStore_fr hz hk
  | fma => unfold State.kEffect; dsimp only; split <;> first | exact .trap | exact .ok (State.setKeeper_fr hz hk)
  | fop => unfold State.kEffect; dsimp only; split <;> first | exact .trap | exact .ok (State.setKeeper_fr hz hk)
  | plane =>
    unfold State.kEffect; dsimp only; split
    · exact State.kReg_fr (State.ageErr_fr hp (List.Subset.trans (by decide) hl)) hk
    · exact State.kReg_fr hp hk
  | vec =>
    unfold State.kEffect; dsimp only; split
    · exact State.kReg_fr (State.ageErr_fr hp (List.Subset.trans (by decide) hl)) hk
    · exact State.kReg_fr hp hk
  | dput => exact .ok (State.runDecides_fr hz (List.Subset.trans (by decide) hl))
  | kload => exact .ite .trap (State.kReg_fr hz hk)
  | kstore =>
    refine .ite .trap (.ok (State.setKeeper_fr (State.setFn_fr ?_ (List.Subset.trans (by decide) hl)) hk))
    exact Fr.ite hz (State.prfKeeper_fr hz (List.Subset.trans (by decide) hl))
  | evt => exact .ok (State.runEvent_fr hz (List.Subset.trans (by decide) hl))
  | yield => exact .ok hz
  | budg => exact State.kReg_fr hz hk
  | ftime => exact State.kReg_fr hz hk

theorem keeperInst_fr {s : State} {row : Nat} {k : Nat} {ecc : Bool} (hz : Fr l z s) (hl : [.out, .regs, .once,
      .log, .evt, .prf, .hst, .kpr] ⊆ l) :
    Fr l z (keeperInst row k ecc s) := by
  unfold keeperInst
  extract_lets +onlyGivenNames q0; clear_value q0
  split
  with_reducible assumption
  split
  refine Fr.ite ?_ ?_
  with_reducible apply State.runTrap_fr
  with_reducible assumption
  exact hl
  with_reducible assumption
  refine Fr.ite ?_ ?_
  with_reducible assumption
  extract_lets +onlyGivenNames q12; clear_value q12
  extract_lets +onlyGivenNames q14; clear_value q14
  split
  extract_lets +onlyGivenNames q17; clear_value q17
  extract_lets +onlyGivenNames q19; refine Fr.cut (a := q19) ?_ (fun _ => ?_)
  rotate_left; clear_value q19; rotate_right; unfold q19
  refine Fr.ite ?_ ?_
  with_reducible apply State.prfKeeper_fr
  with_reducible assumption
  exact List.Subset.trans (by decide) hl
  with_reducible assumption
  extract_lets +onlyGivenNames q30; refine Fr.cut (a := q30) ?_ (fun _ => ?_)
  rotate_left; clear_value q30; rotate_right; unfold q30
  with_reducible apply State.prfKeeper_fr
  with_reducible apply State.prfKeeper_fr
  with_reducible assumption
  exact List.Subset.trans (by decide) hl
  exact List.Subset.trans (by decide) hl
  extract_lets +onlyGivenNames q41; refine Fr.cut (a := q41) ?_ (fun _ => ?_)
  rotate_left; clear_value q41; rotate_right; unfold q41
  refine Fr.ite ?_ ?_
  with_reducible apply State.prfKeeper_fr
  with_reducible assumption
  exact List.Subset.trans (by decide) hl
  with_reducible assumption
  extract_lets +onlyGivenNames q52; clear_value q52
  refine Fr.ite ?_ ?_
  with_reducible apply State.runOver_fr
  with_reducible apply State.tagStep_fr
  with_reducible assumption
  exact List.Subset.trans (by decide) hl
  exact hl
  extract_lets +onlyGivenNames q60; refine Fr.cut (a := q60) ?_ (fun _ => ?_)
  rotate_left; clear_value q60; rotate_right; unfold q60
  with_reducible apply State.setKeeper_fr
  with_reducible assumption
  exact List.Subset.trans (by decide) hl
  split
  with_reducible apply State.runTrap_fr
  with_reducible apply State.tagStep_fr
  with_reducible assumption
  exact List.Subset.trans (by decide) hl
  exact hl
  extract_lets +onlyGivenNames q75; refine Fr.cut (a := q75) ?_ (fun _ => ?_)
  rotate_left; clear_value q75; rotate_right; unfold q75
  with_reducible apply State.prfKeeper_fr
  with_reducible apply State.tagStep_fr
  refine State.kEffect_fr ?_ ?_ _ ‹_ = Done.ok _›
  with_reducible assumption
  exact List.Subset.trans (by decide) hl
  exact List.Subset.trans (by decide) hl
  exact List.Subset.trans (by decide) hl
  split
  with_reducible apply State.runComplete_fr
  with_reducible assumption
  exact List.Subset.trans (by decide) hl
  extract_lets +onlyGivenNames q92; clear_value q92
  with_reducible apply State.setKeeper_fr
  with_reducible assumption
  exact List.Subset.trans (by decide) hl

theorem keeperReplaceApply_fr {s : State} (hz : Fr l z s) (hl : [.regs, .log, .evt, .kpr] ⊆ l) :
    Fr l z (keeperReplaceApply s) := by
  unfold keeperReplaceApply
  extract_lets +onlyGivenNames q0; clear_value q0
  refine Fr.foldl ?_ ?_
  with_reducible assumption
  intro x4_0 x4_1 x4_2
  with_reducible apply State.replaceNow_fr
  with_reducible assumption
  exact hl

theorem keeperSelftestDone_fr {s : State} {pass : Bool} (hz : Fr l z s) (hl : [.regs, .cmds, .log, .evt, .kpr] ⊆ l) :
    Fr l z (keeperSelftestDone pass s) := by
  unfold keeperSelftestDone
  split
  extract_lets +onlyGivenNames q1; clear_value q1
  extract_lets +onlyGivenNames q3; refine Fr.cut (a := q3) ?_ (fun _ => ?_)
  rotate_left; clear_value q3; rotate_right; unfold q3
  with_reducible apply State.setKeeper_fr
  with_reducible assumption
  exact List.Subset.trans (by decide) hl
  with_reducible apply State.cmdDone_fr
  refine Fr.upd ?_ (c24 := .inl (hl (by decide)))
  with_reducible assumption
  exact List.Subset.trans (by decide) hl
  with_reducible assumption

theorem keeperSramEcc_fr {s : State} {k : Nat} {data : Bool} {bad : Option Nat} (hz : Fr l z s) (hl : [.out,
      .regs, .cmds, .once, .time, .glb, .log, .evt, .img, .bcn, .cdv, .pln, .svi, .cnd, .hst, .kpr, .gal, .pub,
      .pair] ⊆ l) :
    Fr l z (keeperSramEcc k data bad s) := by
  unfold keeperSramEcc
  refine Fr.ite ?_ ?_
  extract_lets +onlyGivenNames q1; refine Fr.cut (a := q1) ?_ (fun _ => ?_)
  rotate_left; clear_value q1; rotate_right; unfold q1
  split
  with_reducible assumption
  refine Fr.ite ?_ ?_
  with_reducible apply State.setFn_fr
  with_reducible assumption
  exact List.Subset.trans (by decide) hl
  with_reducible assumption
  with_reducible apply State.fault_fr
  with_reducible apply State.keeperFault_fr
  with_reducible assumption
  exact List.Subset.trans (by decide) hl
  exact hl
  with_reducible assumption

theorem keeperWake_fr {s : State} {k : Nat} (hz : Fr l z s) (hl : [.kpr] ⊆ l) :
    Fr l z (keeperWake k s) := by
  unfold keeperWake
  extract_lets +onlyGivenNames q0; clear_value q0
  extract_lets +onlyGivenNames q2; clear_value q2
  refine Fr.ite ?_ ?_
  with_reducible apply State.setKeeper_fr
  with_reducible assumption
  exact hl
  with_reducible assumption

theorem keyReplaceDone_fr {s : State} {readback : Bool} {journal : Bool} (hz : Fr l z s) (hl : [.regs, .cmds,
      .log, .evt, .lmp] ⊆ l) :
    Fr l z (keyReplaceDone readback journal s) := by
  unfold keyReplaceDone
  split
  with_reducible assumption
  refine Fr.ite ?_ ?_
  with_reducible assumption
  refine Fr.ite ?_ ?_
  with_reducible apply State.cmdDone_fr
  with_reducible apply State.lmpResult_fr
  with_reducible assumption
  exact List.Subset.trans (by decide) hl
  exact List.Subset.trans (by decide) hl
  refine Fr.ite ?_ ?_
  with_reducible apply State.cmdDone_fr
  with_reducible apply State.lmpResult_fr
  with_reducible assumption
  exact List.Subset.trans (by decide) hl
  exact List.Subset.trans (by decide) hl
  with_reducible apply State.cmdDone_fr
  with_reducible apply State.lmpResult_fr
  with_reducible apply State.keyCommit_fr
  with_reducible assumption
  exact List.Subset.trans (by decide) hl
  exact List.Subset.trans (by decide) hl
  exact List.Subset.trans (by decide) hl

theorem lanternTimer_fr {s : State} (hz : Fr l z s) (hl : [.out, .regs, .once, .log, .evt, .ports, .rdg, .prf,
      .pub] ⊆ l) :
    Fr l z (lanternTimer s) := by
  unfold lanternTimer
  refine Fr.ite ?_ ?_
  with_reducible assumption
  with_reducible apply State.lanternSend_fr
  with_reducible assumption
  exact hl

theorem latchClosed_fr {s : State} (hz : Fr l z s) (hl : [.glb, .pwr] ⊆ l) :
    Fr l z (latchClosed s) := by
  unfold latchClosed
  refine Fr.ite ?_ ?_
  with_reducible assumption
  extract_lets +onlyGivenNames q2; clear_value q2
  extract_lets +onlyGivenNames q4; refine Fr.cut (a := q4) ?_ (fun _ => ?_)
  rotate_left; clear_value q4; rotate_right; unfold q4
  refine Fr.upd ?_ (c7 := .inl (hl (by decide)))
  with_reducible assumption
  refine Fr.ite ?_ ?_
  with_reducible apply State.waitPrecharge_fr
  with_reducible assumption
  exact List.Subset.trans (by decide) hl
  with_reducible assumption

theorem latchOpened_fr {s : State} (hz : Fr l z s) (hl : [.out, .regs, .cmds, .once, .time, .glb, .pwr, .log,
      .evt, .img, .bcn, .cdv, .pln, .svi, .cnd, .hst, .kpr, .gal, .pub, .pair] ⊆ l) :
    Fr l z (latchOpened s) := by
  unfold latchOpened
  refine Fr.ite ?_ ?_
  extract_lets +onlyGivenNames q1; clear_value q1
  extract_lets +onlyGivenNames q3; refine Fr.cut (a := q3) ?_ (fun _ => ?_)
  rotate_left; clear_value q3; rotate_right; unfold q3
  refine Fr.upd ?_ (c7 := .inl (hl (by decide)))
  with_reducible assumption
  refine Fr.ite ?_ ?_
  refine Fr.upd ?_ (c8 := .inl (hl (by decide)))
  with_reducible assumption
  with_reducible apply State.cause_fr
  with_reducible assumption
  intro x16_0 x16_1
  with_reducible apply State.leaveStart_fr
  with_reducible assumption
  exact hl
  exact List.Subset.trans (by decide) hl
  with_reducible assumption

theorem linkDownNow_fr {s : State} {p : Nat} {part : Option Frame} (hz : Fr l z s) (hl : [.out, .regs, .log, .evt,
      .bcn, .ports, .rdg, .hst] ⊆ l) :
    Fr l z (linkDownNow p part s) := by
  unfold linkDownNow
  refine Fr.ite ?_ ?_
  with_reducible assumption
  extract_lets +onlyGivenNames q2; refine Fr.cut (a := q2) ?_ (fun _ => ?_)
  rotate_left; clear_value q2; rotate_right; unfold q2
  split
  with_reducible assumption
  refine Fr.ite ?_ ?_
  with_reducible apply State.stompAll_fr
  with_reducible assumption
  exact List.Subset.trans (by decide) hl
  with_reducible assumption
  with_reducible apply State.linkDown_fr
  with_reducible assumption
  exact hl

theorem linkTrain_fr {s : State} {gen : Nat} {width : Nat} (hz : Fr l z s) (hl : [.regs, .log, .evt, .hst] ⊆ l) :
    Fr l z (linkTrain gen width s) := by
  unfold linkTrain
  refine Fr.ite ?_ ?_
  with_reducible assumption
  extract_lets +onlyGivenNames q2; clear_value q2
  extract_lets +onlyGivenNames q4; refine Fr.cut (a := q4) ?_ (fun _ => ?_)
  rotate_left; clear_value q4; rotate_right; unfold q4
  refine Fr.upd ?_ (c23 := .inl (hl (by decide)))
  with_reducible assumption
  refine Fr.ite ?_ ?_
  with_reducible assumption
  with_reducible apply State.hstRec_fr
  with_reducible assumption
  exact List.Subset.trans (by decide) hl

theorem linkTrains_fr {s : State} {p : Nat} {speed : Nat} {fec : Bool} (hz : Fr l z s) (hl : [.regs, .log, .evt,
      .bcn, .ports] ⊆ l) :
    Fr l z (linkTrains p speed fec s) := by
  unfold linkTrains
  extract_lets +onlyGivenNames q0; clear_value q0
  refine Fr.ite ?_ ?_
  with_reducible assumption
  split
  refine Fr.ite ?_ ?_
  extract_lets +onlyGivenNames q6; refine Fr.cut (a := q6) ?_ (fun _ => ?_)
  rotate_left; clear_value q6; rotate_right; unfold q6
  with_reducible apply State.setPort_fr
  with_reducible assumption
  exact List.Subset.trans (by decide) hl
  extract_lets +onlyGivenNames q15; refine Fr.cut (a := q15) ?_ (fun _ => ?_)
  rotate_left; clear_value q15; rotate_right; unfold q15
  with_reducible apply State.setLink_fr
  with_reducible apply State.newSpeed_fr
  with_reducible assumption
  exact List.Subset.trans (by decide) hl
  exact List.Subset.trans (by decide) hl
  extract_lets +onlyGivenNames q26; refine Fr.cut (a := q26) ?_ (fun _ => ?_)
  rotate_left; clear_value q26; rotate_right; unfold q26
  with_reducible apply State.macRec_fr
  with_reducible assumption
  exact List.Subset.trans (by decide) hl
  refine Fr.ite ?_ ?_
  with_reducible apply State.shaperRec_fr
  with_reducible assumption
  exact List.Subset.trans (by decide) hl
  with_reducible assumption
  with_reducible assumption
  extract_lets +onlyGivenNames q41; refine Fr.cut (a := q41) ?_ (fun _ => ?_)
  rotate_left; clear_value q41; rotate_right; unfold q41
  with_reducible apply State.newSpeed_fr
  with_reducible assumption
  exact List.Subset.trans (by decide) hl
  refine Fr.ite ?_ ?_
  with_reducible apply State.startHold_fr
  with_reducible assumption
  exact List.Subset.trans (by decide) hl
  refine Fr.ite ?_ ?_
  with_reducible assumption
  extract_lets +onlyGivenNames q56; clear_value q56
  extract_lets +onlyGivenNames q58; refine Fr.cut (a := q58) ?_ (fun _ => ?_)
  rotate_left; clear_value q58; rotate_right; unfold q58
  with_reducible apply State.setLink_fr
  with_reducible apply State.setPort_fr
  with_reducible assumption
  exact List.Subset.trans (by decide) hl
  exact List.Subset.trans (by decide) hl
  refine Fr.ite ?_ ?_
  with_reducible apply State.recoverPort_fr
  with_reducible assumption
  exact hl
  with_reducible assumption

theorem listenApply_fr {s : State} {c : Nat} (hz : Fr l z s) (hl : [.regs, .cmds, .log, .evt, .can] ⊆ l) :
    Fr l z (listenApply c s) := by
  unfold listenApply
  extract_lets +onlyGivenNames q0; clear_value q0
  split
  with_reducible assumption
  with_reducible apply State.canPick_fr
  with_reducible apply State.cmdDone_fr
  with_reducible apply State.setCan_fr
  with_reducible assumption
  exact List.Subset.trans (by decide) hl
  exact List.Subset.trans (by decide) hl
  exact List.Subset.trans (by decide) hl

theorem lmpOperationDone_fr {s : State} (hz : Fr l z s) (hl : [.out, .regs, .cmds, .log, .evt, .lmp] ⊆ l) :
    Fr l z (lmpOperationDone s) := by
  unfold lmpOperationDone
  split
  with_reducible assumption
  refine Fr.ite ?_ ?_
  with_reducible assumption
  extract_lets +onlyGivenNames q4; refine Fr.cut (a := q4) ?_ (fun _ => ?_)
  rotate_left; clear_value q4; rotate_right; unfold q4
  refine Fr.ite ?_ ?_
  with_reducible apply State.raiseRec_fr
  with_reducible assumption
  exact List.Subset.trans (by decide) hl
  with_reducible assumption
  extract_lets +onlyGivenNames q15
  extract_lets +onlyGivenNames q16; refine Fr.cut (a := q16) ?_ (fun _ => ?_)
  rotate_left; clear_value q16; rotate_right; unfold q16
  split
  refine Fr.ite ?_ ?_
  refine Fr.upd ?_ (c22 := .inl (hl (by decide)))
  with_reducible assumption
  with_reducible assumption
  with_reducible assumption
  extract_lets +onlyGivenNames q28; refine Fr.cut (a := q28) ?_ (fun _ => ?_)
  rotate_left; clear_value q28; rotate_right; unfold q28
  split
  with_reducible apply State.provision_fr
  with_reducible assumption
  exact List.Subset.trans (by decide) hl
  refine Fr.ite ?_ ?_
  with_reducible apply State.lifeChange_fr
  with_reducible assumption
  exact List.Subset.trans (by decide) hl
  with_reducible assumption
  extract_lets +onlyGivenNames q43; clear_value q43
  extract_lets +onlyGivenNames q45; refine Fr.cut (a := q45) ?_ (fun _ => ?_)
  rotate_left; clear_value q45; rotate_right; unfold q45
  refine Fr.ite ?_ ?_
  with_reducible apply State.emit_fr
  with_reducible assumption
  exact List.Subset.trans (by decide) hl
  with_reducible assumption
  extract_lets +onlyGivenNames q56; clear_value q56
  with_reducible apply State.cmdDone_fr
  with_reducible apply State.lmpResult_fr
  with_reducible assumption
  exact List.Subset.trans (by decide) hl
  exact List.Subset.trans (by decide) hl

theorem loadDone_fr {s : State} {err : Nat} (hz : Fr l z s) (hl : [.regs, .cmds, .log, .evt, .img] ⊆ l) :
    Fr l z (loadDone err s) := by
  unfold loadDone
  split
  with_reducible assumption
  extract_lets +onlyGivenNames q2; clear_value q2
  refine Fr.ite ?_ ?_
  with_reducible apply State.loadEnd_fr
  with_reducible apply State.setBank_fr
  with_reducible assumption
  exact List.Subset.trans (by decide) hl
  exact hl
  split
  extract_lets +onlyGivenNames q11; refine Fr.cut (a := q11) ?_ (fun _ => ?_)
  rotate_left; clear_value q11; rotate_right; unfold q11
  refine Fr.ite ?_ ?_
  with_reducible apply State.wrongModule_fr
  with_reducible assumption
  exact List.Subset.trans (by decide) hl
  with_reducible assumption
  with_reducible apply State.loadEnd_fr
  refine Fr.upd ?_ (c11 := .inl (hl (by decide)))
  with_reducible assumption
  exact hl
  extract_lets +onlyGivenNames q26
  refine Fr.ite ?_ ?_
  refine Fr.ite ?_ ?_
  with_reducible apply State.loadEnd_fr
  unfold q26
  with_reducible apply State.setBank_fr
  with_reducible assumption
  exact List.Subset.trans (by decide) hl
  exact hl
  with_reducible apply State.loadEnd_fr
  unfold q26
  with_reducible apply State.setBank_fr
  with_reducible assumption
  exact List.Subset.trans (by decide) hl
  exact hl
  split
  with_reducible apply State.loadEnd_fr
  with_reducible assumption
  exact hl
  split
  refine Fr.ite ?_ ?_
  with_reducible apply State.loadEnd_fr
  with_reducible assumption
  exact hl
  refine Fr.ite ?_ ?_
  with_reducible apply State.loadEnd_fr
  unfold q26
  with_reducible apply State.setBank_fr
  with_reducible assumption
  exact List.Subset.trans (by decide) hl
  exact hl
  extract_lets +onlyGivenNames q57; refine Fr.cut (a := q57) ?_ (fun _ => ?_)
  rotate_left; clear_value q57; rotate_right; unfold q57
  unfold q26
  with_reducible apply State.setBank_fr
  with_reducible assumption
  exact List.Subset.trans (by decide) hl
  with_reducible apply State.loadEnd_fr
  refine Fr.upd ?_ (c11 := .inl (hl (by decide)))
  with_reducible assumption
  exact hl

theorem lockstepMiscompare_fr {s : State} {k : Nat} (hz : Fr l z s) (hl : [.out, .regs, .cmds, .once, .time, .glb,
      .log, .evt, .img, .bcn, .cdv, .pln, .svi, .cnd, .hst, .kpr, .gal, .pub, .pair] ⊆ l) :
    Fr l z (lockstepMiscompare k s) := by
  unfold lockstepMiscompare
  refine Fr.ite ?_ ?_
  with_reducible apply State.fault_fr
  with_reducible apply State.keeperFault_fr
  with_reducible assumption
  exact List.Subset.trans (by decide) hl
  exact hl
  with_reducible assumption

theorem logRecordAccept_fr {s : State} (hz : Fr l z s) (hl : [.regs, .log, .evt] ⊆ l) :
    Fr l z (logRecordAccept s) := by
  unfold logRecordAccept
  split
  with_reducible assumption
  extract_lets +onlyGivenNames q2; clear_value q2
  extract_lets +onlyGivenNames q4; refine Fr.cut (a := q4) ?_ (fun _ => ?_)
  rotate_left; clear_value q4; rotate_right; unfold q4
  refine Fr.upd ?_ (c9 := .inl (hl (by decide)))
  with_reducible assumption
  extract_lets +onlyGivenNames q12; refine Fr.cut (a := q12) ?_ (fun _ => ?_)
  rotate_left; clear_value q12; rotate_right; unfold q12
  with_reducible apply State.logAccept_fr
  with_reducible assumption
  exact hl
  refine Fr.ite ?_ ?_
  with_reducible apply State.logOffer_fr
  with_reducible apply State.clearLosses_fr
  with_reducible assumption
  exact List.Subset.trans (by decide) hl
  exact hl
  with_reducible assumption

theorem pfcRx_fr {s : State} {p : Nat} {enables : Option (BitVec 8)} {quanta : List Nat} (hz : Fr l z s)
    (hl : [.regs, .evt, .ports] ⊆ l) :
    Fr l z (pfcRx p enables quanta s) := by
  unfold pfcRx
  refine Fr.ite ?_ ?_
  with_reducible assumption
  refine Fr.ite ?_ ?_
  with_reducible apply State.stat_fr
  with_reducible assumption
  exact List.Subset.trans (by decide) hl
  extract_lets +onlyGivenNames q6; clear_value q6
  extract_lets +onlyGivenNames q8; clear_value q8
  refine Fr.ite ?_ ?_
  with_reducible apply State.stat_fr
  with_reducible assumption
  exact List.Subset.trans (by decide) hl
  extract_lets +onlyGivenNames q14; clear_value q14
  with_reducible apply State.stat_fr
  with_reducible apply State.setPort_fr
  with_reducible assumption
  exact List.Subset.trans (by decide) hl
  exact List.Subset.trans (by decide) hl

theorem macFrameRx_fr {s : State} {p : Nat} {f : Frame} {len : Nat} {bad : RxBad} {ago : Nat} (hz : Fr l z s)
    (hl : [.out, .regs, .once, .log, .evt, .ports, .rdg, .prf, .hst] ⊆ l) :
    Fr l z (macFrameRx p f len bad ago s) := by
  unfold macFrameRx
  refine Fr.ite ?_ ?_
  with_reducible assumption
  refine Fr.ite ?_ ?_
  with_reducible apply State.stat_fr
  with_reducible assumption
  exact List.Subset.trans (by decide) hl
  refine Fr.ite ?_ ?_
  with_reducible assumption
  split
  extract_lets +onlyGivenNames q9; refine Fr.cut (a := q9) ?_ (fun _ => ?_)
  rotate_left; clear_value q9; rotate_right; unfold q9
  with_reducible apply State.stat_fr
  with_reducible assumption
  exact List.Subset.trans (by decide) hl
  refine Fr.ite ?_ ?_
  with_reducible apply State.stompAll_fr
  with_reducible assumption
  exact List.Subset.trans (by decide) hl
  with_reducible assumption
  refine Fr.ite ?_ ?_
  with_reducible apply pfcRx_fr
  with_reducible assumption
  exact List.Subset.trans (by decide) hl
  extract_lets +onlyGivenNames q27; refine Fr.cut (a := q27) ?_ (fun _ => ?_)
  rotate_left; clear_value q27; rotate_right; unfold q27
  with_reducible apply State.statFrame_fr
  with_reducible assumption
  exact List.Subset.trans (by decide) hl
  extract_lets +onlyGivenNames q36; refine Fr.cut (a := q36) ?_ (fun _ => ?_)
  rotate_left; clear_value q36; rotate_right; unfold q36
  refine Fr.ite ?_ ?_
  with_reducible apply State.stat_fr
  with_reducible assumption
  exact List.Subset.trans (by decide) hl
  with_reducible assumption
  extract_lets +onlyGivenNames q47; refine Fr.cut (a := q47) ?_ (fun _ => ?_)
  rotate_left; clear_value q47; rotate_right; unfold q47
  refine Fr.ite ?_ ?_
  with_reducible apply State.stat_fr
  with_reducible assumption
  exact List.Subset.trans (by decide) hl
  with_reducible assumption
  with_reducible apply State.ridgeRx_fr
  with_reducible assumption
  exact hl

theorem mbxStateRead_fr {s : State} {q : Requester} {m : Nat} (hz : Fr l z s) (hl : [.readData, .hst] ⊆ l) :
    Fr l z (mbxStateRead q m s) := by
  unfold mbxStateRead
  refine Fr.ite ?_ ?_
  extract_lets +onlyGivenNames q1; clear_value q1
  extract_lets +onlyGivenNames q3; refine Fr.cut (a := q3) ?_ (fun _ => ?_)
  rotate_left; clear_value q3; rotate_right; unfold q3
  with_reducible apply State.setMbox_fr
  with_reducible assumption
  exact List.Subset.trans (by decide) hl
  refine Fr.upd ?_ (c2 := .inl (hl (by decide)))
  with_reducible assumption
  refine Fr.upd ?_ (c2 := .inl (hl (by decide)))
  with_reducible assumption

theorem mergeStep_fr {s : State} {k : Nat} (hz : Fr l z s) (hl : [.regs, .evt, .pln, .kpr] ⊆ l) :
    Fr l z (mergeStep k s) := by
  unfold mergeStep
  split
  with_reducible assumption
  with_reducible apply State.mergeRelease_fr
  with_reducible assumption
  exact hl

theorem moveApply_fr {s : State} (hz : Fr l z s) (hl : [.regs, .cmds, .log, .evt, .kpr] ⊆ l) :
    Fr l z (moveApply s) := by
  unfold moveApply
  split
  refine Fr.ite ?_ ?_
  extract_lets +onlyGivenNames q2; refine Fr.cut (a := q2) ?_ (fun _ => ?_)
  rotate_left; clear_value q2; rotate_right; unfold q2
  refine Fr.foldl ?_ ?_
  with_reducible apply State.placeChange_fr
  with_reducible assumption
  exact List.Subset.trans (by decide) hl
  intro x12_0 x12_1 x12_2
  with_reducible apply State.moveOne_fr
  with_reducible assumption
  exact List.Subset.trans (by decide) hl
  refine Fr.upd ?_ (c24 := .inl (hl (by decide)))
  with_reducible assumption
  with_reducible apply State.kprDrop_fr
  with_reducible assumption
  exact hl
  with_reducible assumption

theorem msiMessageSend_fr {s : State} (hz : Fr l z s) (hl : [.out, .regs, .cmds, .once, .log, .evt, .hst] ⊆ l) :
    Fr l z (msiMessageSend s) := by
  unfold msiMessageSend
  split
  with_reducible assumption
  with_reducible apply State.resendStep_fr
  with_reducible apply State.msiSend_fr
  refine Fr.upd ?_ (c10 := .inl (hl (by decide)))
  with_reducible assumption
  exact List.Subset.trans (by decide) hl
  exact List.Subset.trans (by decide) hl

theorem msixUnmask_fr {s : State} {n : Nat} {masked : Bool} {fmask : Bool} {enable : Bool} (hz : Fr l z s)
    (hl : [.out, .regs, .once, .log, .evt, .hst] ⊆ l) :
    Fr l z (msixUnmask n masked fmask enable s) := by
  unfold msixUnmask
  extract_lets +onlyGivenNames q0; clear_value q0
  refine Fr.ite ?_ ?_
  with_reducible assumption
  extract_lets +onlyGivenNames q4; refine Fr.cut (a := q4) ?_ (fun _ => ?_)
  rotate_left; clear_value q4; rotate_right; unfold q4
  with_reducible apply State.setVec_fr
  with_reducible assumption
  exact List.Subset.trans (by decide) hl
  extract_lets +onlyGivenNames q13; clear_value q13
  extract_lets +onlyGivenNames q15; refine Fr.cut (a := q15) ?_ (fun _ => ?_)
  rotate_left; clear_value q15; rotate_right; unfold q15
  with_reducible apply State.setFunc_fr
  with_reducible assumption
  exact List.Subset.trans (by decide) hl
  refine Fr.foldl ?_ ?_
  with_reducible assumption
  intro x26_0 x26_1 x26_2
  with_reducible apply State.msixRelease_fr
  with_reducible assumption
  exact hl

theorem ntExpire_fr {s : State} {mac : Nat} {g : Nat} (hz : Fr l z s) (hl : [.rdg] ⊆ l) :
    Fr l z (ntExpire mac g s) := by
  unfold ntExpire
  refine Fr.upd ?_ (c14 := .inl (hl (by decide)))
  with_reducible assumption

theorem nvmStoreDone_fr {s : State} {fail : Option Nat} (hz : Fr l z s) (hl : [.regs, .cmds, .log, .evt, .img] ⊆ l) :
    Fr l z (nvmStoreDone fail s) := by
  unfold nvmStoreDone
  extract_lets +onlyGivenNames q0; refine Fr.cut (a := q0) ?_ (fun _ => ?_)
  rotate_left; clear_value q0; rotate_right; unfold q0
  with_reducible apply State.storeSnap_fr
  with_reducible assumption
  exact List.Subset.trans (by decide) hl
  split
  with_reducible assumption
  extract_lets +onlyGivenNames q11; clear_value q11
  extract_lets +onlyGivenNames q13; clear_value q13
  split
  extract_lets +onlyGivenNames q16; refine Fr.cut (a := q16) ?_ (fun _ => ?_)
  rotate_left; clear_value q16; rotate_right; unfold q16
  with_reducible apply State.storeWrite_fr
  with_reducible assumption
  exact List.Subset.trans (by decide) hl
  extract_lets +onlyGivenNames q25
  extract_lets +onlyGivenNames q26; refine Fr.cut (a := q26) ?_ (fun _ => ?_)
  rotate_left; clear_value q26; rotate_right; unfold q26
  refine Fr.upd ?_ (c11 := .inl (hl (by decide)))
  with_reducible assumption
  with_reducible apply State.cmdDone_fr
  with_reducible apply State.setEvent_fr
  with_reducible apply State.setEvent_fr
  with_reducible assumption
  exact List.Subset.trans (by decide) hl
  exact List.Subset.trans (by decide) hl
  exact List.Subset.trans (by decide) hl
  extract_lets +onlyGivenNames q41; refine Fr.cut (a := q41) ?_ (fun _ => ?_)
  rotate_left; clear_value q41; rotate_right; unfold q41
  with_reducible apply State.storeWrite_fr
  with_reducible assumption
  exact List.Subset.trans (by decide) hl
  extract_lets +onlyGivenNames q50; clear_value q50
  extract_lets +onlyGivenNames q52; clear_value q52
  extract_lets +onlyGivenNames q54
  extract_lets +onlyGivenNames q55; refine Fr.cut (a := q55) ?_ (fun _ => ?_)
  rotate_left; clear_value q55; rotate_right; unfold q55
  refine Fr.upd ?_ (c11 := .inl (hl (by decide)))
  with_reducible assumption
  with_reducible apply State.cmdDone_fr
  with_reducible apply State.setEvent_fr
  with_reducible assumption
  exact List.Subset.trans (by decide) hl
  exact List.Subset.trans (by decide) hl

theorem ocTrip_fr {s : State} {k : Nat} {withFall : Bool} (hz : Fr l z s) (hl : [.out, .regs, .log, .evt, .cdv] ⊆ l) :
    Fr l z (ocTrip k withFall s) := by
  unfold ocTrip
  extract_lets +onlyGivenNames q0; clear_value q0
  refine Fr.ite ?_ ?_
  with_reducible assumption
  refine Fr.ite ?_ ?_
  with_reducible apply State.setCoil_fr
  with_reducible assumption
  exact List.Subset.trans (by decide) hl
  refine Fr.ite ?_ ?_
  with_reducible apply State.setCoil_fr
  with_reducible assumption
  exact List.Subset.trans (by decide) hl
  extract_lets +onlyGivenNames q12; clear_value q12
  extract_lets +onlyGivenNames q14; refine Fr.cut (a := q14) ?_ (fun _ => ?_)
  rotate_left; clear_value q14; rotate_right; unfold q14
  with_reducible apply State.count_fr
  with_reducible assumption
  exact List.Subset.trans (by decide) hl
  refine Fr.ite ?_ ?_
  with_reducible apply State.raiseRec_fr
  with_reducible apply State.setCoil_fr
  with_reducible assumption
  exact List.Subset.trans (by decide) hl
  exact List.Subset.trans (by decide) hl
  with_reducible apply State.setCoil_fr
  with_reducible assumption
  exact List.Subset.trans (by decide) hl

theorem partialWrite_fr {s : State} {q : Requester} {a : Nat} {be : Nat} (hz : Fr l z s) (hl : [.regs, .once,
      .log, .evt] ⊆ l) :
    Fr l z (partialWrite q a be s) := by
  unfold partialWrite
  refine Fr.ite ?_ ?_
  split
  refine Fr.ite ?_ ?_
  with_reducible apply State.pageWrite_fr
  with_reducible assumption
  exact hl
  with_reducible apply State.logPut_fr
  with_reducible assumption
  exact List.Subset.trans (by decide) hl
  refine Fr.ite ?_ ?_
  with_reducible apply windowWrite_fr
  with_reducible assumption
  exact hl
  refine Fr.ite ?_ ?_
  with_reducible assumption
  with_reducible apply State.logPut_fr
  with_reducible assumption
  exact List.Subset.trans (by decide) hl
  with_reducible assumption

theorem partnerAbsentTimeout_fr {s : State} (hz : Fr l z s) (hl : [.regs, .log, .evt, .pair] ⊆ l) :
    Fr l z (partnerAbsentTimeout s) := by
  unfold partnerAbsentTimeout
  split
  with_reducible assumption
  refine Fr.ite ?_ ?_
  with_reducible assumption
  with_reducible apply State.pairNote_fr
  refine Fr.upd ?_ (c27 := .inl (hl (by decide)))
  with_reducible assumption
  exact List.Subset.trans (by decide) hl

theorem pcieFlr_fr {s : State} {v : Nat} (hz : Fr l z s) (hl : [.out, .regs, .cmds, .once, .evt, .ports, .prf,
      .pln, .cnd, .hst, .kpr, .gal] ⊆ l) :
    Fr l z (pcieFlr v s) := by
  unfold pcieFlr
  refine Fr.ite ?_ ?_
  with_reducible apply State.msixReset_fr
  with_reducible apply State.flrStart_fr
  with_reducible assumption
  exact hl
  exact List.Subset.trans (by decide) hl
  with_reducible assumption

theorem pcieReset_fr {s : State} (hz : Fr l z s) (hl : [.out, .regs, .cmds, .once, .log, .evt, .img, .ports, .prf,
      .pln, .cnd, .lmp, .hst, .kpr, .gal] ⊆ l) :
    Fr l z (pcieReset s) := by
  unfold pcieReset
  extract_lets +onlyGivenNames q0; refine Fr.cut (a := q0) ?_ (fun _ => ?_)
  rotate_left; clear_value q0; rotate_right; unfold q0
  with_reducible apply State.linkLost_fr
  with_reducible assumption
  exact hl
  refine Fr.upd ?_ (c23 := .inl (hl (by decide)))
  with_reducible assumption

theorem pcsFault_fr {s : State} {p : Nat} {loc : Bool} {rem : Bool} (hz : Fr l z s) (hl : [.regs, .log, .evt,
      .ports] ⊆ l) :
    Fr l z (pcsFault p loc rem s) := by
  unfold pcsFault
  extract_lets +onlyGivenNames q0; clear_value q0
  extract_lets +onlyGivenNames q2; refine Fr.cut (a := q2) ?_ (fun _ => ?_)
  rotate_left; clear_value q2; rotate_right; unfold q2
  with_reducible apply State.setPort_fr
  with_reducible assumption
  exact List.Subset.trans (by decide) hl
  extract_lets +onlyGivenNames q11; refine Fr.cut (a := q11) ?_ (fun _ => ?_)
  rotate_left; clear_value q11; rotate_right; unfold q11
  refine Fr.ite ?_ ?_
  with_reducible apply State.stat_fr
  with_reducible assumption
  exact List.Subset.trans (by decide) hl
  with_reducible assumption
  extract_lets +onlyGivenNames q22; refine Fr.cut (a := q22) ?_ (fun _ => ?_)
  rotate_left; clear_value q22; rotate_right; unfold q22
  refine Fr.ite ?_ ?_
  with_reducible apply State.stat_fr
  with_reducible assumption
  exact List.Subset.trans (by decide) hl
  with_reducible assumption
  refine Fr.ite ?_ ?_
  with_reducible apply State.note_fr
  with_reducible assumption
  exact List.Subset.trans (by decide) hl
  with_reducible assumption

theorem peerLanternLost_fr {s : State} (hz : Fr l z s) (hl : [.regs, .log, .evt, .pair] ⊆ l) :
    Fr l z (peerLanternLost s) := by
  unfold peerLanternLost
  refine Fr.ite ?_ ?_
  extract_lets +onlyGivenNames q1; clear_value q1
  extract_lets +onlyGivenNames q3; clear_value q3
  extract_lets +onlyGivenNames q5; refine Fr.cut (a := q5) ?_ (fun _ => ?_)
  rotate_left; clear_value q5; rotate_right; unfold q5
  with_reducible apply State.raiseRec_fr
  refine Fr.upd ?_ (c27 := .inl (hl (by decide)))
  with_reducible assumption
  exact List.Subset.trans (by decide) hl
  extract_lets +onlyGivenNames q15; refine Fr.cut (a := q15) ?_ (fun _ => ?_)
  rotate_left; clear_value q15; rotate_right; unfold q15
  with_reducible apply State.pairNote_fr
  with_reducible assumption
  exact List.Subset.trans (by decide) hl
  with_reducible apply State.pairTrack_fr
  refine Fr.ite ?_ ?_
  with_reducible apply State.takeCause_fr
  with_reducible assumption
  exact hl
  with_reducible assumption
  exact List.Subset.trans (by decide) hl
  with_reducible assumption

theorem peerLanternRx_fr {s : State} {m : LanternMsg} (hz : Fr l z s) (hl : [.regs, .once, .log, .evt, .pair] ⊆ l) :
    Fr l z (peerLanternRx m s) := by
  unfold peerLanternRx
  refine Fr.ite ?_ ?_
  with_reducible assumption
  refine Fr.ite ?_ ?_
  with_reducible apply State.count_fr
  with_reducible assumption
  exact List.Subset.trans (by decide) hl
  split
  with_reducible apply State.noMatch_fr
  with_reducible assumption
  exact List.Subset.trans (by decide) hl
  extract_lets +onlyGivenNames q10; clear_value q10
  extract_lets +onlyGivenNames q12; clear_value q12
  refine Fr.ite ?_ ?_
  with_reducible apply State.noMatch_fr
  with_reducible assumption
  exact List.Subset.trans (by decide) hl
  refine Fr.ite ?_ ?_
  with_reducible assumption
  refine Fr.ite ?_ ?_
  with_reducible apply State.noMatch_fr
  with_reducible assumption
  exact List.Subset.trans (by decide) hl
  extract_lets +onlyGivenNames q24; clear_value q24
  refine Fr.ite ?_ ?_
  with_reducible apply State.count_fr
  with_reducible assumption
  exact List.Subset.trans (by decide) hl
  with_reducible apply State.pairTrack_fr
  with_reducible apply State.pairNote_fr
  with_reducible apply State.lanternTake_fr
  with_reducible assumption
  exact List.Subset.trans (by decide) hl
  exact List.Subset.trans (by decide) hl
  exact List.Subset.trans (by decide) hl

theorem periodBoundary_fr {s : State} {k : Nat} (hz : Fr l z s) (hl : [.out, .regs, .log, .evt, .cdv] ⊆ l) :
    Fr l z (periodBoundary k s) := by
  unfold periodBoundary
  extract_lets +onlyGivenNames q0; clear_value q0
  extract_lets +onlyGivenNames q2; clear_value q2
  extract_lets +onlyGivenNames q4; clear_value q4
  extract_lets +onlyGivenNames q6; clear_value q6
  extract_lets +onlyGivenNames q8; clear_value q8
  extract_lets +onlyGivenNames q10; clear_value q10
  with_reducible apply State.stalePart_fr
  with_reducible apply State.setCoil_fr
  with_reducible assumption
  exact List.Subset.trans (by decide) hl
  exact hl

theorem pfcWatchdog_fr {s : State} {p : Nat} {c : Nat} (hz : Fr l z s) (hl : [.regs, .log, .evt, .ports] ⊆ l) :
    Fr l z (pfcWatchdog p c s) := by
  unfold pfcWatchdog
  extract_lets +onlyGivenNames q0; clear_value q0
  refine Fr.ite ?_ ?_
  extract_lets +onlyGivenNames q3; refine Fr.cut (a := q3) ?_ (fun _ => ?_)
  rotate_left; clear_value q3; rotate_right; unfold q3
  with_reducible apply State.setPort_fr
  with_reducible assumption
  exact List.Subset.trans (by decide) hl
  extract_lets +onlyGivenNames q12; clear_value q12
  extract_lets +onlyGivenNames q14; refine Fr.cut (a := q14) ?_ (fun _ => ?_)
  rotate_left; clear_value q14; rotate_right; unfold q14
  with_reducible apply State.note_fr
  with_reducible apply State.stat_fr
  with_reducible assumption
  exact List.Subset.trans (by decide) hl
  exact List.Subset.trans (by decide) hl
  refine Fr.ite ?_ ?_
  with_reducible apply State.macRec_fr
  with_reducible assumption
  exact List.Subset.trans (by decide) hl
  with_reducible assumption
  with_reducible assumption

theorem planeFault_fr {s : State} {k : Nat} {ecc : Bool} (hz : Fr l z s) (hl : [.out, .regs, .cmds, .once, .time,
      .glb, .log, .evt, .img, .bcn, .rdg, .cdv, .pln, .svi, .cnd, .hst, .kpr, .gal, .pub, .pair] ⊆ l) :
    Fr l z (planeFault k ecc s) := by
  unfold planeFault
  extract_lets +onlyGivenNames q0; clear_value q0
  extract_lets +onlyGivenNames q2; clear_value q2
  refine Fr.ite ?_ ?_
  with_reducible assumption
  refine Fr.ite ?_ ?_
  with_reducible apply State.fault_fr
  with_reducible apply State.planeOut_fr
  with_reducible assumption
  exact List.Subset.trans (by decide) hl
  exact List.Subset.trans (by decide) hl
  with_reducible apply State.planeOut_fr
  with_reducible assumption
  exact List.Subset.trans (by decide) hl

theorem powerFailWarn_fr {s : State} (hz : Fr l z s) (hl : [.out, .regs, .cmds, .once, .time, .glb, .pwr, .log,
      .evt, .img, .bcn, .cdv, .pln, .svi, .cnd, .hst, .kpr, .gal, .pub, .pair] ⊆ l) :
    Fr l z (powerFailWarn s) := by
  unfold powerFailWarn
  refine Fr.ite ?_ ?_
  with_reducible apply State.fault_fr
  with_reducible apply State.raiseGlb_fr
  refine Fr.upd ?_ (c8 := .inl (hl (by decide)))
  with_reducible assumption
  exact List.Subset.trans (by decide) hl
  exact List.Subset.trans (by decide) hl
  with_reducible assumption

theorem ppsFall_fr {s : State} (hz : Fr l z s) (hl : [.out, .bcn] ⊆ l) :
    Fr l z (ppsFall s) := by
  unfold ppsFall
  refine Fr.ite ?_ ?_
  with_reducible apply State.emit_fr
  refine Fr.upd ?_ (c12 := .inl (hl (by decide)))
  with_reducible assumption
  exact List.Subset.trans (by decide) hl
  with_reducible assumption

theorem ppsRise_fr {s : State} (hz : Fr l z s) (hl : [.out, .bcn] ⊆ l) :
    Fr l z (ppsRise s) := by
  unfold ppsRise
  extract_lets +onlyGivenNames q0; clear_value q0
  refine Fr.ite ?_ ?_
  with_reducible apply State.emit_fr
  refine Fr.upd ?_ (c12 := .inl (hl (by decide)))
  with_reducible assumption
  exact List.Subset.trans (by decide) hl
  with_reducible assumption

theorem preTriggerFilled_fr {s : State} {p : Nat} (hz : Fr l z s) (hl : [.gal] ⊆ l) :
    Fr l z (preTriggerFilled p s) := by
  unfold preTriggerFilled
  extract_lets +onlyGivenNames q0; clear_value q0
  refine Fr.ite ?_ ?_
  with_reducible apply State.setProg_fr
  with_reducible assumption
  exact hl
  with_reducible assumption

theorem prechargeComplete_fr {s : State} (hz : Fr l z s) (hl : [.out, .regs, .cmds, .once, .time, .glb, .pwr,
      .log, .evt, .img, .bcn, .ports, .rdg, .cdv, .bin, .can, .prf, .pln, .svi, .cnd, .lmp, .hst, .kpr, .gal,
      .pub, .pair] ⊆ l) :
    Fr l z (prechargeComplete s) := by
  unfold prechargeComplete
  refine Fr.ite ?_ ?_
  with_reducible apply State.wake_fr
  with_reducible assumption
  exact hl
  with_reducible assumption

theorem prechargeFail_fr {s : State} (hz : Fr l z s) (hl : [.pwr] ⊆ l) :
    Fr l z (prechargeFail s) := by
  unfold prechargeFail
  refine Fr.ite ?_ ?_
  refine Fr.upd ?_ (c8 := .inl (hl (by decide)))
  with_reducible assumption
  with_reducible assumption

theorem prechargeRetry_fr {s : State} {ok : Bool} (hz : Fr l z s) (hl : [.out, .regs, .cmds, .once, .time, .glb,
      .pwr, .log, .evt, .img, .bcn, .ports, .rdg, .cdv, .bin, .can, .prf, .pln, .svi, .cnd, .lmp, .hst, .kpr,
      .gal, .pub, .pair] ⊆ l) :
    Fr l z (prechargeRetry ok s) := by
  unfold prechargeRetry
  extract_lets +onlyGivenNames q0; clear_value q0
  refine Fr.ite ?_ ?_
  refine Fr.ite ?_ ?_
  with_reducible apply State.wake_fr
  with_reducible assumption
  exact hl
  refine Fr.upd ?_ (c8 := .inl (hl (by decide)))
  with_reducible assumption
  with_reducible assumption

theorem prfLoRead_fr {s : State} {q : Requester} {g : Nat} (hz : Fr l z s) (hl : [.readData, .prf] ⊆ l) :
    Fr l z (prfLoRead q g s) := by
  unfold prfLoRead
  extract_lets +onlyGivenNames q0; clear_value q0
  refine Fr.upd ?_ (c2 := .inl (hl (by decide))) (c18 := .inl (hl (by decide)))
  with_reducible assumption

theorem ptpAnnounce_fr {s : State} {d : Nat} {cls : Nat} {utc : Int} {utcValid : Bool} {leap59 : Bool}
    {leap61 : Bool} (hz : Fr l z s) (hl : [.regs, .cmds, .log, .evt, .bcn] ⊆ l) :
    Fr l z (ptpAnnounce d cls utc utcValid leap59 leap61 s) := by
  unfold ptpAnnounce
  refine Fr.ite ?_ ?_
  extract_lets +onlyGivenNames q1; clear_value q1
  extract_lets +onlyGivenNames q3; refine Fr.cut (a := q3) ?_ (fun _ => ?_)
  rotate_left; clear_value q3; rotate_right; unfold q3
  with_reducible apply State.setRef_fr
  with_reducible assumption
  exact List.Subset.trans (by decide) hl
  with_reducible apply State.bcnEval_fr
  with_reducible apply State.requalify_fr
  with_reducible apply State.utcFrom_fr
  with_reducible assumption
  exact List.Subset.trans (by decide) hl
  exact List.Subset.trans (by decide) hl
  exact hl
  with_reducible assumption

theorem ptpAnnounceTx_fr {s : State} {d : Nat} {p : Nat} (hz : Fr l z s) (hl : [.out, .bcn] ⊆ l) :
    Fr l z (ptpAnnounceTx d p s) := by
  unfold ptpAnnounceTx
  split
  with_reducible assumption
  refine Fr.ite ?_ ?_
  with_reducible apply State.sendPtp_fr
  with_reducible assumption
  exact hl
  with_reducible assumption

theorem ptpDelayMsg_fr {s : State} {d : Nat} {p : Nat} {kind : Nat} {delay : Int} (hz : Fr l z s) (hl : [.out,
      .bcn, .ports] ⊆ l) :
    Fr l z (ptpDelayMsg d p kind delay s) := by
  unfold ptpDelayMsg
  extract_lets +onlyGivenNames q0; clear_value q0
  extract_lets +onlyGivenNames q2; refine Fr.cut (a := q2) ?_ (fun _ => ?_)
  rotate_left; clear_value q2; rotate_right; unfold q2
  with_reducible apply State.setPort_fr
  with_reducible assumption
  exact List.Subset.trans (by decide) hl
  refine Fr.ite ?_ ?_
  refine Fr.ite ?_ ?_
  refine Fr.ite ?_ ?_
  with_reducible apply State.sendPtp_fr
  with_reducible assumption
  exact List.Subset.trans (by decide) hl
  with_reducible assumption
  refine Fr.ite ?_ ?_
  refine Fr.ite ?_ ?_
  with_reducible apply State.sendPtp_fr
  with_reducible assumption
  exact List.Subset.trans (by decide) hl
  with_reducible assumption
  with_reducible apply State.setPort_fr
  with_reducible assumption
  exact List.Subset.trans (by decide) hl
  with_reducible assumption

theorem ptpDelayReqTx_fr {s : State} {d : Nat} {p : Nat} (hz : Fr l z s) (hl : [.out, .bcn] ⊆ l) :
    Fr l z (ptpDelayReqTx d p s) := by
  unfold ptpDelayReqTx
  extract_lets +onlyGivenNames q0; clear_value q0
  extract_lets +onlyGivenNames q2; clear_value q2
  refine Fr.ite ?_ ?_
  with_reducible apply State.sendPtp_fr
  with_reducible assumption
  exact hl
  with_reducible assumption

theorem ptpOther_fr {s : State} {p : Nat} {unsupported : Bool} (hz : Fr l z s) (hl : [.regs, .evt] ⊆ l) :
    Fr l z (ptpOther p unsupported s) := by
  unfold ptpOther
  refine Fr.ite ?_ ?_
  with_reducible apply State.stat_fr
  with_reducible assumption
  exact hl
  with_reducible assumption

theorem ptpSyncMeasure_fr {s : State} {d : Nat} {p : Nat} {complete : Bool} {offset : Int} {residual : Int}
    {demand : Int} {refRate : Int} (hz : Fr l z s) (hl : [.regs, .cmds, .log, .evt, .bcn, .ports] ⊆ l) :
    Fr l z (ptpSyncMeasure d p complete offset residual demand refRate s) := by
  unfold ptpSyncMeasure
  extract_lets +onlyGivenNames q0; clear_value q0
  extract_lets +onlyGivenNames q2; refine Fr.cut (a := q2) ?_ (fun _ => ?_)
  rotate_left; clear_value q2; rotate_right; unfold q2
  with_reducible apply State.setPort_fr
  with_reducible assumption
  exact List.Subset.trans (by decide) hl
  refine Fr.ite ?_ ?_
  with_reducible assumption
  refine Fr.ite ?_ ?_
  with_reducible apply State.setRef_fr
  with_reducible assumption
  exact List.Subset.trans (by decide) hl
  refine Fr.ite ?_ ?_
  with_reducible apply State.refMeasure_fr
  with_reducible assumption
  exact List.Subset.trans (by decide) hl
  with_reducible assumption

theorem ptpSyncTx_fr {s : State} {d : Nat} {p : Nat} (hz : Fr l z s) (hl : [.out, .bcn] ⊆ l) :
    Fr l z (ptpSyncTx d p s) := by
  unfold ptpSyncTx
  refine Fr.ite ?_ ?_
  with_reducible apply State.sendPtp_fr
  with_reducible assumption
  exact hl
  with_reducible assumption

theorem pubMirrorRx_fr {s : State} {m : List Byte} (hz : Fr l z s) (hl : [.regs, .pub] ⊆ l) :
    Fr l z (pubMirrorRx m s) := by
  unfold pubMirrorRx
  with_reducible apply State.bregRx_fr
  with_reducible assumption
  intro x2_0 x2_1 x2_2 x2_3
  with_reducible apply State.mirrorRx_fr
  with_reducible assumption
  exact List.Subset.trans (by decide) hl
  exact List.Subset.trans (by decide) hl

theorem pubRepeatDue_fr {s : State} {p : Nat} (hz : Fr l z s) (hl : [.out, .regs, .once, .log, .evt, .ports, .rdg,
      .prf, .pub] ⊆ l) :
    Fr l z (pubRepeatDue p s) := by
  unfold pubRepeatDue
  refine Fr.ite ?_ ?_
  with_reducible apply State.pubRepeat_fr
  with_reducible assumption
  exact hl
  with_reducible assumption

theorem pullinExpiry_fr {s : State} {k : Nat} (hz : Fr l z s) (hl : [.out, .cdv] ⊆ l) :
    Fr l z (pullinExpiry k s) := by
  unfold pullinExpiry
  extract_lets +onlyGivenNames q0; clear_value q0
  refine Fr.ite ?_ ?_
  with_reducible apply State.setCoil_fr
  with_reducible assumption
  exact hl
  with_reducible assumption

theorem queueIdle_fr {s : State} {n : Nat} (hz : Fr l z s) (hl : [.out, .regs, .cmds, .log, .evt, .hst] ⊆ l) :
    Fr l z (queueIdle n s) := by
  unfold queueIdle
  extract_lets +onlyGivenNames q0; clear_value q0
  refine Fr.ite ?_ ?_
  with_reducible apply State.vfDone_fr
  with_reducible apply State.setQueue_fr
  with_reducible assumption
  exact List.Subset.trans (by decide) hl
  exact hl
  with_reducible assumption

theorem rcRead_fr {s : State} {q : Requester} {a : Nat} (hz : Fr l z s) (hl : [.readData, .regs] ⊆ l) :
    Fr l z (rcRead q a s) := by
  unfold rcRead
  extract_lets +onlyGivenNames q0; clear_value q0
  extract_lets +onlyGivenNames q2; refine Fr.cut (a := q2) ?_ (fun _ => ?_)
  rotate_left; clear_value q2; rotate_right; unfold q2
  refine Fr.upd ?_ (c2 := .inl (hl (by decide)))
  with_reducible assumption
  split
  refine Fr.ite ?_ ?_
  with_reducible apply State.wr_fr
  with_reducible assumption
  exact List.Subset.trans (by decide) hl
  with_reducible assumption
  refine Fr.ite ?_ ?_
  with_reducible apply State.wr_fr
  with_reducible assumption
  exact List.Subset.trans (by decide) hl
  with_reducible assumption

theorem reloadApply_fr {s : State} (hz : Fr l z s) (hl : [.out, .regs, .once, .log, .evt, .img, .prf, .pln, .svi,
      .cnd, .hst, .kpr, .gal, .pub] ⊆ l) :
    Fr l z (reloadApply s) := by
  unfold reloadApply
  split
  refine Fr.ite ?_ ?_
  with_reducible apply State.reloadNow_fr
  with_reducible assumption
  exact hl
  with_reducible assumption
  with_reducible assumption

theorem removalDormant_fr {s : State} (hz : Fr l z s) (hl : [.out, .regs, .cmds, .once, .time, .glb, .pwr, .log,
      .evt, .img, .bcn, .cdv, .pln, .svi, .cnd, .hst, .kpr, .gal, .pub, .pair] ⊆ l) :
    Fr l z (removalDormant s) := by
  unfold removalDormant
  refine Fr.ite ?_ ?_
  with_reducible apply State.toDormant_fr
  with_reducible assumption
  exact hl
  with_reducible assumption

theorem removalQuiesced_fr {s : State} (hz : Fr l z s) (hl : [.out, .regs, .cmds, .glb, .log, .evt, .img, .ports,
      .lmp, .hst, .gal, .pub] ⊆ l) :
    Fr l z (removalQuiesced s) := by
  unfold removalQuiesced
  refine Fr.ite ?_ ?_
  extract_lets +onlyGivenNames q1; refine Fr.cut (a := q1) ?_ (fun _ => ?_)
  rotate_left; clear_value q1; rotate_right; unfold q1
  with_reducible apply State.pf0Stop_fr
  with_reducible apply State.loadAbort_fr
  with_reducible assumption
  exact List.Subset.trans (by decide) hl
  exact List.Subset.trans (by decide) hl
  extract_lets +onlyGivenNames q12; refine Fr.cut (a := q12) ?_ (fun _ => ?_)
  rotate_left; clear_value q12; rotate_right; unfold q12
  refine Fr.foldl ?_ ?_
  with_reducible assumption
  intro x20_0 x20_1 x20_2
  refine Fr.ite ?_ ?_
  with_reducible assumption
  with_reducible apply State.clearQueues_fr
  with_reducible assumption
  exact List.Subset.trans (by decide) hl
  extract_lets +onlyGivenNames q26; refine Fr.cut (a := q26) ?_ (fun _ => ?_)
  rotate_left; clear_value q26; rotate_right; unfold q26
  with_reducible apply State.emit_fr
  with_reducible assumption
  exact List.Subset.trans (by decide) hl
  refine Fr.upd ?_ (c7 := .inl (hl (by decide))) (c26 := .inl (hl (by decide)))
  with_reducible assumption
  with_reducible assumption

end Sys2Proof.Machine
end

