-- ==== Sys2Proof/Laws/Frame7.lean ====
section
/-!
SUPPORT. What each operation may change, and that it keeps what every operation keeps (part 7).
-/

set_option Elab.async false

namespace Sys2Proof.Machine

open Sys2Proof

variable {l : List Part} {z : State}

theorem replaceApply_fr {s : State} (hz : Fr l z s) (hl : [.regs, .cmds, .log, .evt, .img, .kpr] ⊆ l) :
    Fr l z (replaceApply s) := by
  unfold replaceApply
  refine Fr.ite ?_ ?_
  with_reducible assumption
  extract_lets +onlyGivenNames q2; refine Fr.cut (a := q2) ?_ (fun _ => ?_)
  rotate_left; clear_value q2; rotate_right; unfold q2
  refine Fr.ite ?_ ?_
  with_reducible apply State.reloadDefer_fr
  with_reducible assumption
  exact List.Subset.trans (by decide) hl
  with_reducible assumption
  with_reducible apply keeperReplaceApply_fr
  with_reducible assumption
  exact List.Subset.trans (by decide) hl

theorem reseqTimeout_fr {s : State} {out : Nat} {x : Nat} {cls : Nat} (hz : Fr l z s) (hl : [.out, .regs, .evt,
      .ports, .rdg, .hst] ⊆ l) :
    Fr l z (reseqTimeout out x cls s) := by
  unfold reseqTimeout
  extract_lets +onlyGivenNames q0
  split
  with_reducible assumption
  extract_lets +onlyGivenNames q3; clear_value q3
  extract_lets +onlyGivenNames q5; refine Fr.cut (a := q5) ?_ (fun _ => ?_)
  rotate_left; clear_value q5; rotate_right; unfold q5
  refine Fr.upd ?_ (c14 := .inl (hl (by decide)))
  with_reducible assumption
  extract_lets +onlyGivenNames q13; refine Fr.cut (a := q13) ?_ (fun _ => ?_)
  rotate_left; clear_value q13; rotate_right; unfold q13
  with_reducible apply State.copyGone_fr
  with_reducible assumption
  exact List.Subset.trans (by decide) hl
  refine Fr.ite ?_ ?_
  with_reducible apply State.pfcCheck_fr
  with_reducible apply State.setEvent_fr
  with_reducible apply State.epCount_fr
  with_reducible assumption
  exact List.Subset.trans (by decide) hl
  exact List.Subset.trans (by decide) hl
  exact List.Subset.trans (by decide) hl
  with_reducible apply State.pfcCheck_fr
  with_reducible assumption
  exact List.Subset.trans (by decide) hl

theorem revertHold_fr {s : State} {d : Nat} (hz : Fr l z s) (hl : [.regs, .log, .evt, .bcn] ⊆ l) :
    Fr l z (revertHold d s) := by
  unfold revertHold
  extract_lets +onlyGivenNames q0; clear_value q0
  refine Fr.ite ?_ ?_
  with_reducible apply State.converge_fr
  with_reducible assumption
  exact hl
  with_reducible assumption

theorem riseCompare_fr {s : State} {k : Nat} (hz : Fr l z s) (hl : [.out, .regs, .once, .evt, .cdv] ⊆ l) :
    Fr l z (riseCompare k s) := by
  unfold riseCompare
  extract_lets +onlyGivenNames q0; clear_value q0
  refine Fr.ite ?_ ?_
  refine Fr.ite ?_ ?_
  with_reducible apply State.raiseOnce_fr
  with_reducible apply State.count_fr
  with_reducible apply State.setCoil_fr
  with_reducible assumption
  exact List.Subset.trans (by decide) hl
  exact List.Subset.trans (by decide) hl
  exact List.Subset.trans (by decide) hl
  with_reducible apply State.setCoil_fr
  with_reducible assumption
  exact List.Subset.trans (by decide) hl
  with_reducible assumption

theorem safeToRemove_fr {s : State} (hz : Fr l z s) (hl : [.out, .regs, .glb, .log, .evt] ⊆ l) :
    Fr l z (safeToRemove s) := by
  unfold safeToRemove
  refine Fr.ite ?_ ?_
  with_reducible apply State.emit_fr
  with_reducible apply State.raiseGlb_fr
  refine Fr.upd ?_ (c7 := .inl (hl (by decide)))
  with_reducible assumption
  exact List.Subset.trans (by decide) hl
  exact List.Subset.trans (by decide) hl
  with_reducible assumption

theorem sampleDeadline_fr {s : State} {i : Nat} (hz : Fr l z s) (hl : [.out, .regs, .once, .log, .evt, .prf, .pln,
      .svi, .cnd, .pair] ⊆ l) :
    Fr l z (sampleDeadline i s) := by
  unfold sampleDeadline
  split
  with_reducible assumption
  extract_lets +onlyGivenNames q2; clear_value q2
  refine Fr.ite ?_ ?_
  with_reducible assumption
  refine Fr.ite ?_ ?_
  with_reducible apply State.drainWaits_fr
  with_reducible apply State.passMissing_fr
  with_reducible assumption
  exact hl
  exact hl
  with_reducible assumption

theorem scrubDone_fr {s : State} (hz : Fr l z s) (hl : [.regs, .cmds, .log, .evt, .pln] ⊆ l) :
    Fr l z (scrubDone s) := by
  unfold scrubDone
  refine Fr.ite ?_ ?_
  with_reducible apply State.cmdDone_fr
  refine Fr.upd ?_ (c19 := .inl (hl (by decide)))
  with_reducible assumption
  exact List.Subset.trans (by decide) hl
  with_reducible assumption

theorem secondBoundary_fr {s : State} (hz : Fr l z s) (hl : [.once, .time, .bin] ⊆ l) :
    Fr l z (secondBoundary s) := by
  unfold secondBoundary
  refine Fr.ite ?_ ?_
  with_reducible assumption
  with_reducible apply State.inputsSecond_fr
  with_reducible apply State.setBackup_fr
  refine Fr.upd ?_ (c5 := .inl (hl (by decide)))
  with_reducible assumption
  exact List.Subset.trans (by decide) hl
  exact List.Subset.trans (by decide) hl

theorem settingsApply_fr {s : State} (hz : Fr l z s) (hl : [.regs, .cmds, .log, .evt, .img, .kpr] ⊆ l) :
    Fr l z (settingsApply s) := by
  unfold settingsApply
  split
  with_reducible assumption
  with_reducible apply State.setApply_fr
  with_reducible assumption
  exact hl

theorem shareSetApply_fr {s : State} (hz : Fr l z s) (hl : [.out, .regs, .cmds, .log, .evt, .hst] ⊆ l) :
    Fr l z (shareSetApply s) := by
  unfold shareSetApply
  split
  with_reducible assumption
  refine Fr.ite ?_ ?_
  with_reducible assumption
  extract_lets +onlyGivenNames q4; clear_value q4
  extract_lets +onlyGivenNames q6; clear_value q6
  with_reducible apply State.hstNow_fr
  refine Fr.upd ?_ (c23 := .inl (hl (by decide)))
  with_reducible assumption
  exact hl

theorem snapshotDone_fr {s : State} (hz : Fr l z s) (hl : [.regs, .cmds, .log, .evt, .prf] ⊆ l) :
    Fr l z (snapshotDone s) := by
  unfold snapshotDone
  refine Fr.ite ?_ ?_
  with_reducible apply State.cmdDone_fr
  with_reducible apply State.setEvent_fr
  refine Fr.upd ?_ (c18 := .inl (hl (by decide)))
  with_reducible assumption
  exact List.Subset.trans (by decide) hl
  exact List.Subset.trans (by decide) hl
  with_reducible assumption

theorem soloWaitExpiry_fr {s : State} (hz : Fr l z s) (hl : [.out, .regs, .cmds, .once, .time, .glb, .log, .evt,
      .img, .bcn, .cdv, .pln, .svi, .cnd, .hst, .kpr, .gal, .pub, .pair] ⊆ l) :
    Fr l z (soloWaitExpiry s) := by
  unfold soloWaitExpiry
  split
  with_reducible assumption
  refine Fr.ite ?_ ?_
  extract_lets +onlyGivenNames q3; clear_value q3
  extract_lets +onlyGivenNames q5; clear_value q5
  extract_lets +onlyGivenNames q7; refine Fr.cut (a := q7) ?_ (fun _ => ?_)
  rotate_left; clear_value q7; rotate_right; unfold q7
  refine Fr.upd ?_ (c7 := .inl (hl (by decide))) (c27 := .inl (hl (by decide)))
  with_reducible assumption
  refine Fr.ite ?_ ?_
  with_reducible assumption
  with_reducible apply State.soloCommit_fr
  with_reducible assumption
  exact hl
  with_reducible assumption

theorem speedTimeout_fr {s : State} {p : Nat} (hz : Fr l z s) (hl : [.out, .regs, .log, .evt, .bcn, .ports, .rdg,
      .hst] ⊆ l) :
    Fr l z (speedTimeout p s) := by
  unfold speedTimeout
  refine Fr.ite ?_ ?_
  extract_lets +onlyGivenNames q1; clear_value q1
  extract_lets +onlyGivenNames q3; refine Fr.cut (a := q3) ?_ (fun _ => ?_)
  rotate_left; clear_value q3; rotate_right; unfold q3
  with_reducible apply State.setPort_fr
  with_reducible assumption
  exact List.Subset.trans (by decide) hl
  with_reducible apply State.macRec_fr
  with_reducible apply State.linkDown_fr
  with_reducible assumption
  exact hl
  exact List.Subset.trans (by decide) hl
  with_reducible assumption

theorem stepApply_fr {s : State} (hz : Fr l z s) (hl : [.out, .regs, .cmds, .once, .time, .log, .evt, .img, .bcn,
      .pln, .svi, .cnd, .hst, .kpr, .gal, .pub] ⊆ l) :
    Fr l z (stepApply s) := by
  unfold stepApply
  refine Fr.ite ?_ ?_
  with_reducible assumption
  with_reducible apply State.stepsNow_fr
  with_reducible assumption
  exact hl

theorem subRestartApply_fr {s : State} (hz : Fr l z s) (hl : [.regs, .cmds, .log, .evt, .pln, .pub] ⊆ l) :
    Fr l z (subRestartApply s) := by
  unfold subRestartApply
  split
  with_reducible assumption
  extract_lets +onlyGivenNames q2; clear_value q2
  extract_lets +onlyGivenNames q4; refine Fr.cut (a := q4) ?_ (fun _ => ?_)
  rotate_left; clear_value q4; rotate_right; unfold q4
  refine Fr.upd ?_ (c26 := .inl (hl (by decide)))
  with_reducible assumption
  extract_lets +onlyGivenNames q12; refine Fr.cut (a := q12) ?_ (fun _ => ?_)
  rotate_left; clear_value q12; rotate_right; unfold q12
  split
  with_reducible assumption
  with_reducible apply State.subRestart_fr
  with_reducible assumption
  exact List.Subset.trans (by decide) hl
  with_reducible apply State.cmdDone_fr
  with_reducible assumption
  exact List.Subset.trans (by decide) hl

theorem subTimeout_fr {s : State} {i : Nat} (hz : Fr l z s) (hl : [.regs, .log, .evt, .pln, .pub] ⊆ l) :
    Fr l z (subTimeout i s) := by
  unfold subTimeout
  split
  with_reducible assumption
  extract_lets +onlyGivenNames q2; clear_value q2
  refine Fr.ite ?_ ?_
  with_reducible apply State.subTimeout_fr
  with_reducible assumption
  exact hl
  with_reducible assumption

theorem substForceApply_fr {s : State} (hz : Fr l z s) (hl : [.out, .regs, .cmds, .once, .log, .evt, .prf, .pln,
      .svi] ⊆ l) :
    Fr l z (substForceApply s) := by
  unfold substForceApply
  split
  with_reducible assumption
  refine Fr.ite ?_ ?_
  extract_lets +onlyGivenNames q3; clear_value q3
  extract_lets +onlyGivenNames q5; refine Fr.cut (a := q5) ?_ (fun _ => ?_)
  rotate_left; clear_value q5; rotate_right; unfold q5
  refine Fr.upd ?_ (c20 := .inl (hl (by decide)))
  with_reducible assumption
  extract_lets +onlyGivenNames q13; clear_value q13
  extract_lets +onlyGivenNames q15; refine Fr.cut (a := q15) ?_ (fun _ => ?_)
  rotate_left; clear_value q15; rotate_right; unfold q15
  with_reducible apply State.setStream_fr
  with_reducible assumption
  exact List.Subset.trans (by decide) hl
  extract_lets +onlyGivenNames q24; refine Fr.cut (a := q24) ?_ (fun _ => ?_)
  rotate_left; clear_value q24; rotate_right; unfold q24
  split
  with_reducible assumption
  refine Fr.ite ?_ ?_
  with_reducible assumption
  with_reducible apply State.substStart_fr
  with_reducible assumption
  exact List.Subset.trans (by decide) hl
  with_reducible apply State.cmdDone_fr
  with_reducible assumption
  exact List.Subset.trans (by decide) hl
  with_reducible assumption

theorem substReleaseApply_fr {s : State} (hz : Fr l z s) (hl : [.regs, .cmds, .log, .evt, .pln, .svi] ⊆ l) :
    Fr l z (substReleaseApply s) := by
  unfold substReleaseApply
  split
  with_reducible assumption
  refine Fr.ite ?_ ?_
  with_reducible assumption
  extract_lets +onlyGivenNames q4; clear_value q4
  extract_lets +onlyGivenNames q6; refine Fr.cut (a := q6) ?_ (fun _ => ?_)
  rotate_left; clear_value q6; rotate_right; unfold q6
  refine Fr.upd ?_ (c20 := .inl (hl (by decide)))
  with_reducible assumption
  extract_lets +onlyGivenNames q14; clear_value q14
  extract_lets +onlyGivenNames q16; refine Fr.cut (a := q16) ?_ (fun _ => ?_)
  rotate_left; clear_value q16; rotate_right; unfold q16
  with_reducible apply State.setStream_fr
  with_reducible assumption
  exact List.Subset.trans (by decide) hl
  extract_lets +onlyGivenNames q25; refine Fr.cut (a := q25) ?_ (fun _ => ?_)
  rotate_left; clear_value q25; rotate_right; unfold q25
  split
  with_reducible assumption
  with_reducible apply State.substEnd_fr
  with_reducible assumption
  exact List.Subset.trans (by decide) hl
  with_reducible apply State.cmdDone_fr
  with_reducible assumption
  exact List.Subset.trans (by decide) hl

theorem supMeasure_fr {s : State} {k : Nat} {ohm : Nat} {compliance : Bool} (hz : Fr l z s) (hl : [.out, .regs,
      .log, .evt, .cdv, .pln] ⊆ l) :
    Fr l z (supMeasure k ohm compliance s) := by
  unfold supMeasure
  extract_lets +onlyGivenNames q0; clear_value q0
  refine Fr.ite ?_ ?_
  extract_lets +onlyGivenNames q3; clear_value q3
  extract_lets +onlyGivenNames q5; clear_value q5
  extract_lets +onlyGivenNames q7; clear_value q7
  refine Fr.ite ?_ ?_
  with_reducible apply State.raiseRec_fr
  with_reducible apply State.supSignal_fr
  with_reducible apply State.setCoil_fr
  with_reducible assumption
  exact List.Subset.trans (by decide) hl
  exact List.Subset.trans (by decide) hl
  exact List.Subset.trans (by decide) hl
  with_reducible apply State.setCoil_fr
  with_reducible assumption
  exact List.Subset.trans (by decide) hl
  with_reducible assumption

theorem supResume_fr {s : State} {k : Nat} (hz : Fr l z s) (hl : [.out, .cdv] ⊆ l) :
    Fr l z (supResume k s) := by
  unfold supResume
  extract_lets +onlyGivenNames q0; clear_value q0
  refine Fr.ite ?_ ?_
  with_reducible apply State.setCoil_fr
  with_reducible assumption
  exact hl
  with_reducible assumption

theorem supervisionTx_fr {s : State} {g : Nat} (hz : Fr l z s) (hl : [.out, .regs, .once, .log, .evt, .ports,
      .rdg, .prf] ⊆ l) :
    Fr l z (supervisionTx g s) := by
  unfold supervisionTx
  refine Fr.ite ?_ ?_
  split
  refine Fr.foldl ?_ ?_
  with_reducible refine Fr.pair ‹_ = (_, _)› ?_
  with_reducible apply State.nextSeq_fr
  with_reducible assumption
  exact List.Subset.trans (by decide) hl
  intro x7_0 x7_1 x7_2
  refine Fr.ite ?_ ?_
  with_reducible apply State.epCount_fr
  with_reducible assumption
  exact List.Subset.trans (by decide) hl
  with_reducible apply State.enqueue_fr
  with_reducible assumption
  exact hl
  with_reducible assumption

theorem supplyLoss_fr {s : State} (hz : Fr l z s) (hl : [.pwr] ⊆ l) :
    Fr l z (supplyLoss s) := by
  unfold supplyLoss
  refine Fr.ite ?_ ?_
  refine Fr.upd ?_ (c8 := .inl (hl (by decide)))
  with_reducible assumption
  refine Fr.upd ?_ (c8 := .inl (hl (by decide)))
  with_reducible assumption

theorem supplyOn_fr {s : State} (hz : Fr l z s) (hl : [.pwr] ⊆ l) :
    Fr l z (supplyOn s) := by
  unfold supplyOn
  refine Fr.ite ?_ ?_
  with_reducible assumption
  extract_lets +onlyGivenNames q2; clear_value q2
  extract_lets +onlyGivenNames q4; refine Fr.cut (a := q4) ?_ (fun _ => ?_)
  rotate_left; clear_value q4; rotate_right; unfold q4
  refine Fr.upd ?_ (c8 := .inl (hl (by decide)))
  with_reducible assumption
  refine Fr.ite ?_ ?_
  with_reducible apply State.waitPrecharge_fr
  with_reducible assumption
  exact hl
  with_reducible assumption

theorem supplyRestored_fr {s : State} (hz : Fr l z s) (hl : [.pwr] ⊆ l) :
    Fr l z (supplyRestored s) := by
  unfold supplyRestored
  refine Fr.upd ?_ (c8 := .inl (hl (by decide)))
  with_reducible assumption

theorem svFrameRx_fr {s : State} {f : SvFrame} (hz : Fr l z s) (hl : [.out, .regs, .once, .log, .evt, .ports,
      .rdg, .prf, .pln, .svi, .cnd, .pair] ⊆ l) :
    Fr l z (svFrameRx f s) := by
  unfold svFrameRx
  refine Fr.ite ?_ ?_
  with_reducible assumption
  refine Fr.ite ?_ ?_
  with_reducible apply State.count_fr
  with_reducible assumption
  exact List.Subset.trans (by decide) hl
  refine Fr.ite ?_ ?_
  with_reducible apply State.count_fr
  with_reducible assumption
  exact List.Subset.trans (by decide) hl
  split
  with_reducible apply State.raiseOnce_fr
  with_reducible apply State.count_fr
  refine Fr.upd ?_ (c20 := .inl (hl (by decide)))
  with_reducible assumption
  exact List.Subset.trans (by decide) hl
  exact List.Subset.trans (by decide) hl
  extract_lets +onlyGivenNames q17; clear_value q17
  extract_lets +onlyGivenNames q19; clear_value q19
  refine Fr.ite ?_ ?_
  with_reducible apply State.svCount_fr
  with_reducible assumption
  exact List.Subset.trans (by decide) hl
  with_reducible apply State.sviVerify_fr
  with_reducible assumption
  exact hl

theorem syncDone_fr {s : State} (hz : Fr l z s) (hl : [.out, .regs, .cmds, .log, .evt, .pln, .cnd, .kpr] ⊆ l) :
    Fr l z (syncDone s) := by
  unfold syncDone
  split
  with_reducible assumption
  refine Fr.ite ?_ ?_
  with_reducible apply State.syncDue_fr
  with_reducible assumption
  exact hl
  with_reducible assumption

theorem syncLineFall_fr {s : State} (hz : Fr l z s) (hl : [.out, .regs, .cmds, .log, .evt, .pln, .cnd, .kpr] ⊆ l) :
    Fr l z (syncLineFall s) := by
  unfold syncLineFall
  extract_lets +onlyGivenNames q0; clear_value q0
  extract_lets +onlyGivenNames q2; refine Fr.cut (a := q2) ?_ (fun _ => ?_)
  rotate_left; clear_value q2; rotate_right; unfold q2
  refine Fr.upd ?_ (c21 := .inl (hl (by decide)))
  with_reducible assumption
  split
  with_reducible assumption
  extract_lets +onlyGivenNames q12; clear_value q12
  extract_lets +onlyGivenNames q14; refine Fr.cut (a := q14) ?_ (fun _ => ?_)
  rotate_left; clear_value q14; rotate_right; unfold q14
  refine Fr.upd ?_ (c21 := .inl (hl (by decide)))
  with_reducible assumption
  extract_lets +onlyGivenNames q22; clear_value q22
  extract_lets +onlyGivenNames q24; clear_value q24
  refine Fr.ite ?_ ?_
  with_reducible apply State.syncReject_fr
  with_reducible assumption
  exact List.Subset.trans (by decide) hl
  refine Fr.ite ?_ ?_
  refine Fr.ite ?_ ?_
  with_reducible assumption
  refine Fr.ite ?_ ?_
  with_reducible apply State.syncReject_fr
  with_reducible assumption
  exact List.Subset.trans (by decide) hl
  extract_lets +onlyGivenNames q37; clear_value q37
  extract_lets +onlyGivenNames q39; clear_value q39
  extract_lets +onlyGivenNames q41; clear_value q41
  extract_lets +onlyGivenNames q43; refine Fr.cut (a := q43) ?_ (fun _ => ?_)
  rotate_left; clear_value q43; rotate_right; unfold q43
  refine Fr.upd ?_ (c21 := .inl (hl (by decide)))
  with_reducible assumption
  with_reducible apply State.syncApply_fr
  with_reducible assumption
  exact hl
  refine Fr.ite ?_ ?_
  with_reducible apply State.syncAdd_fr
  with_reducible assumption
  exact List.Subset.trans (by decide) hl
  with_reducible apply State.syncReject_fr
  with_reducible assumption
  exact List.Subset.trans (by decide) hl

theorem syncLineRise_fr {s : State} (hz : Fr l z s) (hl : [.regs, .log, .evt, .cnd] ⊆ l) :
    Fr l z (syncLineRise s) := by
  unfold syncLineRise
  extract_lets +onlyGivenNames q0; clear_value q0
  extract_lets +onlyGivenNames q2; refine Fr.cut (a := q2) ?_ (fun _ => ?_)
  rotate_left; clear_value q2; rotate_right; unfold q2
  refine Fr.upd ?_ (c21 := .inl (hl (by decide)))
  with_reducible assumption
  refine Fr.ite ?_ ?_
  with_reducible apply State.raiseRec_fr
  refine Fr.upd ?_ (c21 := .inl (hl (by decide)))
  with_reducible assumption
  exact List.Subset.trans (by decide) hl
  with_reducible assumption

theorem syncMissed_fr {s : State} {d : Nat} (hz : Fr l z s) (hl : [.regs, .cmds, .log, .evt, .bcn] ⊆ l) :
    Fr l z (syncMissed d s) := by
  unfold syncMissed
  extract_lets +onlyGivenNames q0; clear_value q0
  with_reducible apply State.bcnEval_fr
  with_reducible apply State.requalify_fr
  with_reducible apply State.setRef_fr
  with_reducible assumption
  exact List.Subset.trans (by decide) hl
  exact List.Subset.trans (by decide) hl
  exact hl

theorem State.t1sAttempt_fr {s : State} {p pick : Nat} (hz : Fr l z s) (hl : [.out, .regs, .evt, .ports, .rdg, .hst] ⊆ l) :
    ∀ x, s.t1sAttempt p pick = some x → Fr l z x.1 := by
  intro x h
  unfold State.t1sAttempt at h
  split at h
  · cases h; exact hz
  · split at h
    · cases h
    · cases h; exact Fr.upd (State.dequeue_fr hz (List.Subset.trans (by decide) hl)) (c14 := .inl (hl (by decide)))

theorem t1sCollision_fr {s : State} {p : Nat} {late : Bool} {r : Nat} {pick : Nat} (hz : Fr l z s) (hl : [.out, .regs, .log, .evt, .ports, .rdg, .hst] ⊆ l) :
    Fr l z (t1sCollision p late r pick s) := by
  unfold t1sCollision
  refine Fr.ite ?_ hz
  split
  · exact hz
  · rename_i e
    have h := State.t1sAttempt_fr hz (List.Subset.trans (by decide) hl) _ e
    refine Fr.ite (State.t1sDrop_fr h (List.Subset.trans (by decide) hl)) ?_
    refine Fr.ite (State.t1sDrop_fr (State.stat_fr h (List.Subset.trans (by decide) hl)) (List.Subset.trans (by decide) hl)) ?_
    exact State.setPort_fr (State.stat_fr h (List.Subset.trans (by decide) hl)) (List.Subset.trans (by decide) hl)

theorem takeover_fr {s : State} (hz : Fr l z s) (hl : [.out, .regs, .cmds, .once, .time, .glb, .log, .evt, .img,
      .bcn, .ports, .rdg, .cdv, .prf, .pln, .svi, .cnd, .hst, .kpr, .gal, .pub, .pair] ⊆ l) :
    Fr l z (takeover s) := by
  unfold takeover
  refine Fr.ite ?_ ?_
  extract_lets +onlyGivenNames q1; clear_value q1
  extract_lets +onlyGivenNames q3; refine Fr.cut (a := q3) ?_ (fun _ => ?_)
  rotate_left; clear_value q3; rotate_right; unfold q3
  refine Fr.upd ?_ (c27 := .inl (hl (by decide)))
  with_reducible assumption
  with_reducible apply State.cause_fr
  with_reducible assumption
  intro x13_0 x13_1
  with_reducible apply State.takeNow_fr
  with_reducible assumption
  exact hl
  exact List.Subset.trans (by decide) hl
  with_reducible assumption

theorem tamper_fr {s : State} {sensor : Nat} (hz : Fr l z s) (hl : [.out, .regs, .cmds, .once, .time, .glb, .pwr,
      .log, .evt, .img, .bcn, .cdv, .pln, .svi, .cnd, .lmp, .hst, .kpr, .gal, .pub, .pair] ⊆ l) :
    Fr l z (tamper sensor s) := by
  unfold tamper
  refine Fr.ite ?_ ?_
  with_reducible assumption
  extract_lets +onlyGivenNames q2; refine Fr.cut (a := q2) ?_ (fun _ => ?_)
  rotate_left; clear_value q2; rotate_right; unfold q2
  with_reducible apply State.tamperLatch_fr
  with_reducible assumption
  exact List.Subset.trans (by decide) hl
  extract_lets +onlyGivenNames q11; clear_value q11
  extract_lets +onlyGivenNames q13; refine Fr.cut (a := q13) ?_ (fun _ => ?_)
  rotate_left; clear_value q13; rotate_right; unfold q13
  refine Fr.ite ?_ ?_
  refine Fr.upd ?_ (c6 := .inl (hl (by decide)))
  with_reducible assumption
  with_reducible assumption
  refine Fr.ite ?_ ?_
  refine Fr.upd ?_ (c8 := .inl (hl (by decide)))
  with_reducible assumption
  extract_lets +onlyGivenNames q26; refine Fr.cut (a := q26) ?_ (fun _ => ?_)
  rotate_left; clear_value q26; rotate_right; unfold q26
  with_reducible apply State.tamperReport_fr
  with_reducible assumption
  exact List.Subset.trans (by decide) hl
  refine Fr.ite ?_ ?_
  with_reducible apply State.bootFail_fr
  with_reducible assumption
  exact List.Subset.trans (by decide) hl
  with_reducible apply State.fault_fr
  with_reducible assumption
  exact List.Subset.trans (by decide) hl

theorem thermalReading_fr {s : State} {die : Int} {railA : Int} {railB : Int} (hz : Fr l z s) (hl : [.out, .regs,
      .cmds, .once, .time, .glb, .pwr, .log, .evt, .img, .bcn, .cdv, .pln, .svi, .cnd, .hst, .kpr, .gal, .pub,
      .pair] ⊆ l) :
    Fr l z (thermalReading die railA railB s) := by
  unfold thermalReading
  refine Fr.ite ?_ ?_
  with_reducible assumption
  extract_lets +onlyGivenNames q2; clear_value q2
  extract_lets +onlyGivenNames q4; clear_value q4
  extract_lets +onlyGivenNames q6; clear_value q6
  extract_lets +onlyGivenNames q8; clear_value q8
  extract_lets +onlyGivenNames q10; clear_value q10
  extract_lets +onlyGivenNames q12; clear_value q12
  extract_lets +onlyGivenNames q14; clear_value q14
  extract_lets +onlyGivenNames q16; refine Fr.cut (a := q16) ?_ (fun _ => ?_)
  rotate_left; clear_value q16; rotate_right; unfold q16
  refine Fr.upd ?_ (c8 := .inl (hl (by decide)))
  with_reducible assumption
  extract_lets +onlyGivenNames q24; refine Fr.cut (a := q24) ?_ (fun _ => ?_)
  rotate_left; clear_value q24; rotate_right; unfold q24
  refine Fr.ite ?_ ?_
  with_reducible apply State.raiseGlb_fr
  with_reducible assumption
  exact List.Subset.trans (by decide) hl
  with_reducible assumption
  extract_lets +onlyGivenNames q35; refine Fr.cut (a := q35) ?_ (fun _ => ?_)
  rotate_left; clear_value q35; rotate_right; unfold q35
  with_reducible apply State.setShed_fr
  with_reducible assumption
  exact List.Subset.trans (by decide) hl
  refine Fr.ite ?_ ?_
  with_reducible apply State.fault_fr
  with_reducible assumption
  exact List.Subset.trans (by decide) hl
  with_reducible assumption

theorem timeLost_fr {s : State} (hz : Fr l z s) (hl : [.out, .regs, .cmds, .once, .time, .glb, .log, .evt, .img,
      .bcn, .cdv, .pln, .svi, .cnd, .hst, .kpr, .gal, .pub, .pair] ⊆ l) :
    Fr l z (timeLost s) := by
  unfold timeLost
  refine Fr.ite ?_ ?_
  with_reducible apply State.fault_fr
  with_reducible apply State.raiseRec_fr
  refine Fr.upd ?_ (c12 := .inl (hl (by decide)))
  with_reducible assumption
  exact List.Subset.trans (by decide) hl
  exact hl
  with_reducible assumption

theorem transceiver_fr {s : State} {p : Nat} {present : Bool} {mismatch : Bool} {txFault : Bool} {los : Bool}
    (hz : Fr l z s) (hl : [.out, .regs, .log, .evt, .bcn, .ports, .rdg, .hst] ⊆ l) :
    Fr l z (transceiver p present mismatch txFault los s) := by
  unfold transceiver
  refine Fr.ite ?_ ?_
  extract_lets +onlyGivenNames q1; clear_value q1
  extract_lets +onlyGivenNames q3; refine Fr.cut (a := q3) ?_ (fun _ => ?_)
  rotate_left; clear_value q3; rotate_right; unfold q3
  with_reducible apply State.setPort_fr
  with_reducible assumption
  exact List.Subset.trans (by decide) hl
  extract_lets +onlyGivenNames q12; refine Fr.cut (a := q12) ?_ (fun _ => ?_)
  rotate_left; clear_value q12; rotate_right; unfold q12
  refine Fr.ite ?_ ?_
  with_reducible apply State.note_fr
  with_reducible assumption
  exact List.Subset.trans (by decide) hl
  with_reducible assumption
  refine Fr.ite ?_ ?_
  with_reducible apply State.linkDown_fr
  with_reducible assumption
  exact hl
  with_reducible assumption
  with_reducible assumption

theorem triggerApply_fr {s : State} (hz : Fr l z s) (hl : [.regs, .cmds, .log, .evt, .gal] ⊆ l) :
    Fr l z (triggerApply s) := by
  unfold triggerApply
  with_reducible apply forN_fr
  with_reducible assumption
  intro x2_0 x2_1 x2_2
  extract_lets +onlyGivenNames q3; clear_value q3
  refine Fr.ite ?_ ?_
  extract_lets +onlyGivenNames q6; clear_value q6
  extract_lets +onlyGivenNames q8; refine Fr.cut (a := q8) ?_ (fun _ => ?_)
  rotate_left; clear_value q8; rotate_right; unfold q8
  refine Fr.ite ?_ ?_
  with_reducible apply State.captureStart_fr
  with_reducible assumption
  exact List.Subset.trans (by decide) hl
  refine Fr.ite ?_ ?_
  with_reducible apply State.count_fr
  with_reducible assumption
  exact List.Subset.trans (by decide) hl
  with_reducible assumption
  with_reducible apply State.triggerDone_fr
  with_reducible assumption
  exact hl
  with_reducible assumption

theorem tsCaptured_fr {s : State} {src : Nat} (hz : Fr l z s) (hl : [.regs, .evt, .bcn] ⊆ l) :
    Fr l z (tsCaptured src s) := by
  unfold tsCaptured
  refine Fr.ite ?_ ?_
  extract_lets +onlyGivenNames q1; clear_value q1
  with_reducible apply State.setEvent_fr
  refine Fr.upd ?_ (c12 := .inl (hl (by decide)))
  with_reducible assumption
  exact List.Subset.trans (by decide) hl
  with_reducible assumption

theorem utilSample10ms_fr {s : State} {p : Nat} {util : Nat} (hz : Fr l z s) (hl : [.out, .regs, .log, .evt, .bcn,
      .ports, .rdg, .hst] ⊆ l) :
    Fr l z (utilSample10ms p util s) := by
  unfold utilSample10ms
  refine Fr.ite ?_ ?_
  extract_lets +onlyGivenNames q1; clear_value q1
  refine Fr.ite ?_ ?_
  with_reducible apply State.setPort_fr
  with_reducible assumption
  exact List.Subset.trans (by decide) hl
  extract_lets +onlyGivenNames q7; clear_value q7
  extract_lets +onlyGivenNames q9; refine Fr.cut (a := q9) ?_ (fun _ => ?_)
  rotate_left; clear_value q9; rotate_right; unfold q9
  with_reducible apply State.setPort_fr
  with_reducible assumption
  exact List.Subset.trans (by decide) hl
  refine Fr.ite ?_ ?_
  with_reducible apply State.startSpeed_fr
  with_reducible assumption
  exact hl
  with_reducible assumption
  with_reducible assumption

theorem utilSample1s_fr {s : State} {p : Nat} {util : Nat} (hz : Fr l z s) (hl : [.out, .regs, .log, .evt, .bcn,
      .ports, .rdg, .hst] ⊆ l) :
    Fr l z (utilSample1s p util s) := by
  unfold utilSample1s
  extract_lets +onlyGivenNames q0; clear_value q0
  extract_lets +onlyGivenNames q2; refine Fr.cut (a := q2) ?_ (fun _ => ?_)
  rotate_left; clear_value q2; rotate_right; unfold q2
  with_reducible apply State.setPort_fr
  with_reducible assumption
  exact List.Subset.trans (by decide) hl
  refine Fr.ite ?_ ?_
  extract_lets +onlyGivenNames q12; clear_value q12
  refine Fr.ite ?_ ?_
  with_reducible apply State.setPort_fr
  with_reducible assumption
  exact List.Subset.trans (by decide) hl
  refine Fr.ite ?_ ?_
  with_reducible assumption
  extract_lets +onlyGivenNames q20; clear_value q20
  extract_lets +onlyGivenNames q22; refine Fr.cut (a := q22) ?_ (fun _ => ?_)
  rotate_left; clear_value q22; rotate_right; unfold q22
  with_reducible apply State.setPort_fr
  with_reducible assumption
  exact List.Subset.trans (by decide) hl
  refine Fr.ite ?_ ?_
  extract_lets +onlyGivenNames q32; refine Fr.cut (a := q32) ?_ (fun _ => ?_)
  rotate_left; clear_value q32; rotate_right; unfold q32
  split
  with_reducible assumption
  with_reducible apply State.setPort_fr
  with_reducible assumption
  exact List.Subset.trans (by decide) hl
  with_reducible apply State.startSpeed_fr
  with_reducible assumption
  exact hl
  with_reducible assumption
  with_reducible assumption

theorem vfEnableSet_fr {s : State} {enable : Bool} {n : Nat} (hz : Fr l z s) (hl : [.hst] ⊆ l) :
    Fr l z (vfEnableSet enable n s) := by
  unfold vfEnableSet
  refine Fr.ite ?_ ?_
  with_reducible assumption
  refine Fr.upd ?_ (c23 := .inl (hl (by decide)))
  with_reducible assumption

theorem windowLastRead_fr {s : State} {q : Requester} (hz : Fr l z s) (hl : [.readData, .log] ⊆ l) :
    Fr l z (windowLastRead q s) := by
  unfold windowLastRead
  extract_lets +onlyGivenNames q0; clear_value q0
  extract_lets +onlyGivenNames q2; clear_value q2
  extract_lets +onlyGivenNames q4; clear_value q4
  extract_lets +onlyGivenNames q6; refine Fr.cut (a := q6) ?_ (fun _ => ?_)
  rotate_left; clear_value q6; rotate_right; unfold q6
  with_reducible apply State.setReader_fr
  with_reducible assumption
  exact List.Subset.trans (by decide) hl
  refine Fr.upd ?_ (c2 := .inl (hl (by decide)))
  with_reducible assumption

theorem windowSetApply_fr {s : State} (hz : Fr l z s) (hl : [.out, .regs, .cmds, .log, .evt, .hst] ⊆ l) :
    Fr l z (windowSetApply s) := by
  unfold windowSetApply
  split
  with_reducible assumption
  extract_lets +onlyGivenNames q2; clear_value q2
  extract_lets +onlyGivenNames q4; clear_value q4
  extract_lets +onlyGivenNames q6; clear_value q6
  extract_lets +onlyGivenNames q8; refine Fr.cut (a := q8) ?_ (fun _ => ?_)
  rotate_left; clear_value q8; rotate_right; unfold q8
  with_reducible apply State.setFunc_fr
  with_reducible assumption
  exact List.Subset.trans (by decide) hl
  with_reducible apply State.hstNow_fr
  refine Fr.upd ?_ (c23 := .inl (hl (by decide)))
  with_reducible assumption
  exact hl

theorem yieldRx_fr {s : State} {m : List Byte} (hz : Fr l z s) (hl : [.regs, .log, .evt, .pair] ⊆ l) :
    Fr l z (yieldRx m s) := by
  unfold yieldRx
  with_reducible apply State.bregRx_fr
  with_reducible assumption
  intro x2_0 x2_1 x2_2 x2_3
  refine Fr.ite ?_ ?_
  with_reducible apply State.takeCause_fr
  with_reducible assumption
  exact hl
  with_reducible assumption
  exact List.Subset.trans (by decide) hl

end Sys2Proof.Machine
end

