-- ==== Sys2Proof/Laws/Exec.lean ====
section
/-!
SUPPORT. What each command's meaning answers: always a next state, that differs at most in the parts listed and keeps
what every operation keeps.
-/

set_option Elab.async false

namespace Sys2Proof.Machine

open Sys2Proof

variable {l : List Part} {z : State}

theorem execRegisterWrite_fr {s : State} {dt : Nat} {q : Requester} {a : Nat} {value : Word} {hwSet : Word}
    {buf : List Byte} (hz : Fr l z s) (hl : [.out, .regs, .cmds, .once, .time, .glb, .pwr, .log, .evt, .img, .bcn,
      .ports, .rdg, .cdv, .bin, .can, .prf, .pln, .svi, .cnd, .lmp, .hst, .kpr, .gal, .pub, .pair] ⊆ l) :
    ∃ t, execRegisterWrite dt q a value hwSet buf s = .next t ∧ Fr l z t := ⟨_, rfl, by
  with_reducible apply State.regWrite_fr
  with_reducible apply State.elapse_fr
  with_reducible assumption
  exact List.Subset.trans (by decide) hl
  exact hl⟩

theorem execPartialWrite_fr {s : State} {dt : Nat} {q : Requester} {a : Nat} {be : BitVec 4} (hz : Fr l z s)
    (hl : [.regs, .once, .time, .log, .evt] ⊆ l) :
    ∃ t, execPartialWrite dt q a be s = .next t ∧ Fr l z t := ⟨_, rfl, by
  with_reducible apply partialWrite_fr
  with_reducible apply State.elapse_fr
  with_reducible assumption
  exact List.Subset.trans (by decide) hl
  exact List.Subset.trans (by decide) hl⟩

theorem execRcCounterRead_fr {s : State} {dt : Nat} {q : Requester} {a : Nat} (hz : Fr l z s) (hl : [.readData,
      .regs, .time, .log] ⊆ l) :
    ∃ t, execRcCounterRead dt q a s = .next t ∧ Fr l z t := ⟨_, rfl, by
  refine Fr.ite ?_ ?_
  with_reducible apply rcRead_fr
  with_reducible apply State.elapse_fr
  with_reducible assumption
  exact List.Subset.trans (by decide) hl
  exact List.Subset.trans (by decide) hl
  with_reducible apply State.elapse_fr
  with_reducible assumption
  exact List.Subset.trans (by decide) hl⟩

theorem execBcnTimeNsRead_fr {s : State} {dt : Nat} {q : Requester} (hz : Fr l z s) (hl : [.readData, .time, .log,
      .bcn] ⊆ l) :
    ∃ t, execBcnTimeNsRead dt q s = .next t ∧ Fr l z t := ⟨_, rfl, by
  with_reducible apply bcnTimeNsRead_fr
  with_reducible apply State.elapse_fr
  with_reducible assumption
  exact List.Subset.trans (by decide) hl
  exact List.Subset.trans (by decide) hl⟩

theorem execBcnRateLoRead_fr {s : State} {dt : Nat} (hz : Fr l z s) (hl : [.readData, .time, .log, .bcn] ⊆ l) :
    ∃ t, execBcnRateLoRead dt s = .next t ∧ Fr l z t := ⟨_, rfl, by
  with_reducible apply bcnRateLoRead_fr
  with_reducible apply State.elapse_fr
  with_reducible assumption
  exact List.Subset.trans (by decide) hl
  exact List.Subset.trans (by decide) hl⟩

theorem execVfTimeNsRead_fr {s : State} {dt : Nat} {v : Fin 256} (hz : Fr l z s) (hl : [.readData, .time, .log,
      .bcn] ⊆ l) :
    ∃ t, execVfTimeNsRead dt v s = .next t ∧ Fr l z t := ⟨_, rfl, by
  refine Fr.ite ?_ ?_
  with_reducible apply bcnTimeNsRead_fr
  with_reducible apply State.elapse_fr
  with_reducible assumption
  exact List.Subset.trans (by decide) hl
  exact List.Subset.trans (by decide) hl
  with_reducible apply State.elapse_fr
  with_reducible assumption
  exact List.Subset.trans (by decide) hl⟩

theorem execPrfValueLoRead_fr {s : State} {dt : Nat} {q : Requester} {g : Fin 232} (hz : Fr l z s)
    (hl : [.readData, .time, .log, .prf] ⊆ l) :
    ∃ t, execPrfValueLoRead dt q g s = .next t ∧ Fr l z t := ⟨_, rfl, by
  with_reducible apply prfLoRead_fr
  with_reducible apply State.elapse_fr
  with_reducible assumption
  exact List.Subset.trans (by decide) hl
  exact List.Subset.trans (by decide) hl⟩

theorem execBinInTs32Read_fr {s : State} {dt : Nat} {q : Requester} {i : Fin 16} (hz : Fr l z s) (hl : [.readData,
      .time, .log, .bin] ⊆ l) :
    ∃ t, execBinInTs32Read dt q i s = .next t ∧ Fr l z t := ⟨_, rfl, by
  with_reducible apply binTs32Read_fr
  with_reducible apply State.elapse_fr
  with_reducible assumption
  exact List.Subset.trans (by decide) hl
  exact List.Subset.trans (by decide) hl⟩

theorem execLogWindowLastRead_fr {s : State} {dt : Nat} {q : Requester} (hz : Fr l z s) (hl : [.readData, .time,
      .log] ⊆ l) :
    ∃ t, execLogWindowLastRead dt q s = .next t ∧ Fr l z t := ⟨_, rfl, by
  with_reducible apply windowLastRead_fr
  with_reducible apply State.elapse_fr
  with_reducible assumption
  exact List.Subset.trans (by decide) hl
  exact List.Subset.trans (by decide) hl⟩

theorem execPlnWindowWrite_fr {s : State} {dt : Nat} {q : Fin 5} {off : Fin 16777216} (hz : Fr l z s)
    (hl : [.regs, .once, .time, .log, .evt] ⊆ l) :
    ∃ t, execPlnWindowWrite dt q off s = .next t ∧ Fr l z t := ⟨_, rfl, by
  with_reducible apply windowWrite_fr
  with_reducible apply State.elapse_fr
  with_reducible assumption
  exact List.Subset.trans (by decide) hl
  exact List.Subset.trans (by decide) hl⟩

theorem execMbxStateRead_fr {s : State} {dt : Nat} {q : Requester} {m : Fin 4096} (hz : Fr l z s)
    (hl : [.readData, .time, .log, .hst] ⊆ l) :
    ∃ t, execMbxStateRead dt q m s = .next t ∧ Fr l z t := ⟨_, rfl, by
  with_reducible apply mbxStateRead_fr
  with_reducible apply State.elapse_fr
  with_reducible assumption
  exact List.Subset.trans (by decide) hl
  exact List.Subset.trans (by decide) hl⟩

theorem execMbxStateWrite_fr {s : State} {dt : Nat} {q : Requester} {m : Fin 4096} {value : Word} (hz : Fr l z s)
    (hl : [.regs, .once, .time, .log, .evt, .hst] ⊆ l) :
    ∃ t, execMbxStateWrite dt q m value s = .next t ∧ Fr l z t := ⟨_, rfl, by
  with_reducible apply mbxStateWrite_fr
  with_reducible apply State.elapse_fr
  with_reducible assumption
  exact List.Subset.trans (by decide) hl
  exact List.Subset.trans (by decide) hl⟩

theorem execCdvFallShWrite_fr {s : State} {dt : Nat} {k : Fin 8} {v : Word} (hz : Fr l z s) (hl : [.out, .time,
      .log, .cdv] ⊆ l) :
    ∃ t, execCdvFallShWrite dt k v s = .next t ∧ Fr l z t := ⟨_, rfl, by
  with_reducible apply fallShWrite_fr
  with_reducible apply State.elapse_fr
  with_reducible assumption
  exact List.Subset.trans (by decide) hl
  exact List.Subset.trans (by decide) hl⟩

theorem execCdvPeriodShWrite_fr {s : State} {dt : Nat} {k : Fin 8} {v : Word} (hz : Fr l z s) (hl : [.out, .time,
      .log, .cdv] ⊆ l) :
    ∃ t, execCdvPeriodShWrite dt k v s = .next t ∧ Fr l z t := ⟨_, rfl, by
  with_reducible apply periodShWrite_fr
  with_reducible apply State.elapse_fr
  with_reducible assumption
  exact List.Subset.trans (by decide) hl
  exact List.Subset.trans (by decide) hl⟩

theorem execBcnTsArmWrite_fr {s : State} {dt : Nat} {value : Word} (hz : Fr l z s) (hl : [.time, .log, .bcn] ⊆ l) :
    ∃ t, execBcnTsArmWrite dt value s = .next t ∧ Fr l z t := ⟨_, rfl, by
  with_reducible apply bcnTsCtrlWrite_fr
  with_reducible apply State.elapse_fr
  with_reducible assumption
  exact List.Subset.trans (by decide) hl
  exact List.Subset.trans (by decide) hl⟩

theorem execCanTxReqWrite_fr {s : State} {dt : Nat} {c : Fin 2} {b : Fin 64} (hz : Fr l z s) (hl : [.time, .log,
      .can] ⊆ l) :
    ∃ t, execCanTxReqWrite dt c b s = .next t ∧ Fr l z t := ⟨_, rfl, by
  with_reducible apply canTxReq_fr
  with_reducible apply State.elapse_fr
  with_reducible assumption
  exact List.Subset.trans (by decide) hl
  exact List.Subset.trans (by decide) hl⟩

theorem execTxTailWrite_fr {s : State} {dt : Nat} {q : Fin 1024} {value : Word} (hz : Fr l z s) (hl : [.time,
      .log, .hst] ⊆ l) :
    ∃ t, execTxTailWrite dt q value s = .next t ∧ Fr l z t := ⟨_, rfl, by
  with_reducible apply tailWrite_fr
  with_reducible apply State.elapse_fr
  with_reducible assumption
  exact List.Subset.trans (by decide) hl
  exact List.Subset.trans (by decide) hl⟩

theorem execRxTailWrite_fr {s : State} {dt : Nat} {q : Fin 1024} {value : Word} (hz : Fr l z s) (hl : [.time,
      .log, .hst] ⊆ l) :
    ∃ t, execRxTailWrite dt q value s = .next t ∧ Fr l z t := ⟨_, rfl, by
  with_reducible apply tailWrite_fr
  with_reducible apply State.elapse_fr
  with_reducible assumption
  exact List.Subset.trans (by decide) hl
  exact List.Subset.trans (by decide) hl⟩

theorem execLatchClosed_fr {s : State} {dt : Nat} (hz : Fr l z s) (hl : [.time, .glb, .pwr, .log] ⊆ l) :
    ∃ t, execLatchClosed dt s = .next t ∧ Fr l z t := ⟨_, rfl, by
  with_reducible apply latchClosed_fr
  with_reducible apply State.elapse_fr
  with_reducible assumption
  exact List.Subset.trans (by decide) hl
  exact List.Subset.trans (by decide) hl⟩

theorem execSupplyOn_fr {s : State} {dt : Nat} (hz : Fr l z s) (hl : [.time, .pwr, .log] ⊆ l) :
    ∃ t, execSupplyOn dt s = .next t ∧ Fr l z t := ⟨_, rfl, by
  with_reducible apply supplyOn_fr
  with_reducible apply State.elapse_fr
  with_reducible assumption
  exact List.Subset.trans (by decide) hl
  exact List.Subset.trans (by decide) hl⟩

theorem execPrechargeComplete_fr {s : State} {dt : Nat} (hz : Fr l z s) (hl : [.out, .regs, .cmds, .once, .time,
      .glb, .pwr, .log, .evt, .img, .bcn, .ports, .rdg, .cdv, .bin, .can, .prf, .pln, .svi, .cnd, .lmp, .hst,
      .kpr, .gal, .pub, .pair] ⊆ l) :
    ∃ t, execPrechargeComplete dt s = .next t ∧ Fr l z t := ⟨_, rfl, by
  with_reducible apply prechargeComplete_fr
  with_reducible apply State.elapse_fr
  with_reducible assumption
  exact List.Subset.trans (by decide) hl
  exact hl⟩

theorem execPrechargeFail_fr {s : State} {dt : Nat} (hz : Fr l z s) (hl : [.time, .pwr, .log] ⊆ l) :
    ∃ t, execPrechargeFail dt s = .next t ∧ Fr l z t := ⟨_, rfl, by
  with_reducible apply prechargeFail_fr
  with_reducible apply State.elapse_fr
  with_reducible assumption
  exact List.Subset.trans (by decide) hl
  exact List.Subset.trans (by decide) hl⟩

theorem execPrechargeRetry_fr {s : State} {dt : Nat} {ok : Bool} (hz : Fr l z s) (hl : [.out, .regs, .cmds, .once,
      .time, .glb, .pwr, .log, .evt, .img, .bcn, .ports, .rdg, .cdv, .bin, .can, .prf, .pln, .svi, .cnd, .lmp,
      .hst, .kpr, .gal, .pub, .pair] ⊆ l) :
    ∃ t, execPrechargeRetry dt ok s = .next t ∧ Fr l z t := ⟨_, rfl, by
  with_reducible apply prechargeRetry_fr
  with_reducible apply State.elapse_fr
  with_reducible assumption
  exact List.Subset.trans (by decide) hl
  exact hl⟩

theorem execBootStageComplete_fr {s : State} {dt : Nat} {pass : Bool} (hz : Fr l z s) (hl : [.out, .regs, .cmds,
      .once, .time, .glb, .pwr, .log, .evt, .img, .bcn, .cdv, .prf, .pln, .svi, .cnd, .lmp, .hst, .kpr, .gal,
      .pub, .pair] ⊆ l) :
    ∃ t, execBootStageComplete dt pass s = .next t ∧ Fr l z t := ⟨_, rfl, by
  with_reducible apply bootStage_fr
  with_reducible apply State.elapse_fr
  with_reducible assumption
  exact List.Subset.trans (by decide) hl
  exact hl⟩

theorem execImageLoaded_fr {s : State} {dt : Nat} (hz : Fr l z s) (hl : [.out, .regs, .time, .log, .evt, .img,
      .bcn, .rdg, .cdv, .bin, .can, .pln, .svi, .lmp, .hst, .kpr, .gal, .pub, .pair] ⊆ l) :
    ∃ t, execImageLoaded dt s = .next t ∧ Fr l z t := ⟨_, rfl, by
  with_reducible apply imageLoaded_fr
  with_reducible apply State.elapse_fr
  with_reducible assumption
  exact List.Subset.trans (by decide) hl
  exact List.Subset.trans (by decide) hl⟩

theorem execCommissionComplete_fr {s : State} {dt : Nat} (hz : Fr l z s) (hl : [.out, .regs, .cmds, .once, .time,
      .glb, .log, .evt, .img, .bcn, .cdv, .pln, .svi, .cnd, .hst, .kpr, .gal, .pub, .pair] ⊆ l) :
    ∃ t, execCommissionComplete dt s = .next t ∧ Fr l z t := ⟨_, rfl, by
  with_reducible apply commissionComplete_fr
  with_reducible apply State.elapse_fr
  with_reducible assumption
  exact List.Subset.trans (by decide) hl
  exact hl⟩

theorem execCommissionTimeout_fr {s : State} {dt : Nat} (hz : Fr l z s) (hl : [.out, .regs, .cmds, .once, .time,
      .glb, .log, .evt, .img, .bcn, .cdv, .pln, .svi, .cnd, .hst, .kpr, .gal, .pub, .pair] ⊆ l) :
    ∃ t, execCommissionTimeout dt s = .next t ∧ Fr l z t := ⟨_, rfl, by
  with_reducible apply commissionTimeout_fr
  with_reducible apply State.elapse_fr
  with_reducible assumption
  exact List.Subset.trans (by decide) hl
  exact hl⟩

theorem execEnterTest_fr {s : State} {dt : Nat} {rsv : BitVec 8} {arg : BitVec 16} (hz : Fr l z s) (hl : [.out,
      .regs, .cmds, .once, .time, .glb, .log, .evt, .img, .bcn, .cdv, .pln, .svi, .cnd, .hst, .kpr, .gal, .pub,
      .pair] ⊆ l) :
    ∃ t, execEnterTest dt rsv arg s = .next t ∧ Fr l z t := ⟨_, rfl, by
  with_reducible apply enterTest_fr
  with_reducible apply State.elapse_fr
  with_reducible assumption
  exact List.Subset.trans (by decide) hl
  exact hl⟩

theorem execExitTest_fr {s : State} {dt : Nat} {rsv : BitVec 8} {arg : BitVec 16} (hz : Fr l z s) (hl : [.out,
      .regs, .cmds, .once, .time, .glb, .log, .evt, .img, .bcn, .cdv, .pln, .svi, .cnd, .hst, .kpr, .gal, .pub,
      .pair] ⊆ l) :
    ∃ t, execExitTest dt rsv arg s = .next t ∧ Fr l z t := ⟨_, rfl, by
  with_reducible apply exitTest_fr
  with_reducible apply State.elapse_fr
  with_reducible assumption
  exact List.Subset.trans (by decide) hl
  exact hl⟩

theorem execEnterMaintenance_fr {s : State} {dt : Nat} {rsv : BitVec 8} {arg : BitVec 16} (hz : Fr l z s)
    (hl : [.out, .regs, .cmds, .once, .time, .glb, .log, .evt, .img, .bcn, .cdv, .pln, .svi, .cnd, .hst, .kpr,
      .gal, .pub, .pair] ⊆ l) :
    ∃ t, execEnterMaintenance dt rsv arg s = .next t ∧ Fr l z t := ⟨_, rfl, by
  with_reducible apply enterMaintenance_fr
  with_reducible apply State.elapse_fr
  with_reducible assumption
  exact List.Subset.trans (by decide) hl
  exact hl⟩

theorem execExitMaintenance_fr {s : State} {dt : Nat} {rsv : BitVec 8} {arg : BitVec 16} (hz : Fr l z s)
    (hl : [.out, .regs, .cmds, .once, .time, .glb, .pwr, .log, .evt, .img, .bcn, .ports, .rdg, .cdv, .bin, .can,
      .prf, .pln, .svi, .cnd, .lmp, .hst, .kpr, .gal, .pub, .pair] ⊆ l) :
    ∃ t, execExitMaintenance dt rsv arg s = .next t ∧ Fr l z t := ⟨_, rfl, by
  with_reducible apply exitMaintenance_fr
  with_reducible apply State.elapse_fr
  with_reducible assumption
  exact List.Subset.trans (by decide) hl
  exact hl⟩

theorem execLeaveCommission_fr {s : State} {dt : Nat} {rsv : BitVec 8} {arg : BitVec 16} (hz : Fr l z s)
    (hl : [.out, .regs, .cmds, .once, .time, .glb, .log, .evt, .img, .bcn, .cdv, .pln, .svi, .cnd, .hst, .kpr,
      .gal, .pub, .pair] ⊆ l) :
    ∃ t, execLeaveCommission dt rsv arg s = .next t ∧ Fr l z t := ⟨_, rfl, by
  with_reducible apply leaveCommission_fr
  with_reducible apply State.elapse_fr
  with_reducible assumption
  exact List.Subset.trans (by decide) hl
  exact hl⟩

theorem execHandover_fr {s : State} {dt : Nat} {rsv : BitVec 8} {arg : BitVec 16} (hz : Fr l z s) (hl : [.out,
      .regs, .cmds, .time, .glb, .log, .evt, .pair] ⊆ l) :
    ∃ t, execHandover dt rsv arg s = .next t ∧ Fr l z t := ⟨_, rfl, by
  with_reducible apply handover_fr
  with_reducible apply State.elapse_fr
  with_reducible assumption
  exact List.Subset.trans (by decide) hl
  exact List.Subset.trans (by decide) hl⟩

theorem execLeaveService_fr {s : State} {dt : Nat} {rsv : BitVec 8} {arg : BitVec 16} (hz : Fr l z s) (hl : [.out,
      .regs, .cmds, .once, .time, .glb, .pwr, .log, .evt, .img, .bcn, .cdv, .pln, .svi, .cnd, .hst, .kpr, .gal,
      .pub, .pair] ⊆ l) :
    ∃ t, execLeaveService dt rsv arg s = .next t ∧ Fr l z t := ⟨_, rfl, by
  with_reducible apply leaveService_fr
  with_reducible apply State.elapse_fr
  with_reducible assumption
  exact List.Subset.trans (by decide) hl
  exact hl⟩

theorem execRestart_fr {s : State} {dt : Nat} {rsv : BitVec 8} {arg : BitVec 16} (hz : Fr l z s) (hl : [.out,
      .regs, .cmds, .once, .time, .glb, .pwr, .log, .evt, .img, .bcn, .ports, .rdg, .cdv, .bin, .can, .prf, .pln,
      .svi, .cnd, .lmp, .hst, .kpr, .gal, .pub, .pair] ⊆ l) :
    ∃ t, execRestart dt rsv arg s = .next t ∧ Fr l z t := ⟨_, rfl, by
  with_reducible apply glbRestart_fr
  with_reducible apply State.elapse_fr
  with_reducible assumption
  exact List.Subset.trans (by decide) hl
  exact hl⟩

theorem execLatchOpened_fr {s : State} {dt : Nat} (hz : Fr l z s) (hl : [.out, .regs, .cmds, .once, .time, .glb,
      .pwr, .log, .evt, .img, .bcn, .cdv, .pln, .svi, .cnd, .hst, .kpr, .gal, .pub, .pair] ⊆ l) :
    ∃ t, execLatchOpened dt s = .next t ∧ Fr l z t := ⟨_, rfl, by
  with_reducible apply latchOpened_fr
  with_reducible apply State.elapse_fr
  with_reducible assumption
  exact List.Subset.trans (by decide) hl
  exact hl⟩

theorem execRemovalQuiesced_fr {s : State} {dt : Nat} (hz : Fr l z s) (hl : [.out, .regs, .cmds, .time, .glb,
      .log, .evt, .img, .ports, .lmp, .hst, .gal, .pub] ⊆ l) :
    ∃ t, execRemovalQuiesced dt s = .next t ∧ Fr l z t := ⟨_, rfl, by
  with_reducible apply removalQuiesced_fr
  with_reducible apply State.elapse_fr
  with_reducible assumption
  exact List.Subset.trans (by decide) hl
  exact List.Subset.trans (by decide) hl⟩

theorem execSafeToRemove_fr {s : State} {dt : Nat} (hz : Fr l z s) (hl : [.out, .regs, .time, .glb, .log, .evt] ⊆ l) :
    ∃ t, execSafeToRemove dt s = .next t ∧ Fr l z t := ⟨_, rfl, by
  with_reducible apply safeToRemove_fr
  with_reducible apply State.elapse_fr
  with_reducible assumption
  exact List.Subset.trans (by decide) hl
  exact List.Subset.trans (by decide) hl⟩

theorem execRemovalDormant_fr {s : State} {dt : Nat} (hz : Fr l z s) (hl : [.out, .regs, .cmds, .once, .time,
      .glb, .pwr, .log, .evt, .img, .bcn, .cdv, .pln, .svi, .cnd, .hst, .kpr, .gal, .pub, .pair] ⊆ l) :
    ∃ t, execRemovalDormant dt s = .next t ∧ Fr l z t := ⟨_, rfl, by
  with_reducible apply removalDormant_fr
  with_reducible apply State.elapse_fr
  with_reducible assumption
  exact List.Subset.trans (by decide) hl
  exact hl⟩

theorem execBlockReset_fr {s : State} {dt : Nat} {rsv : BitVec 8} {arg : BitVec 16} (hz : Fr l z s) (hl : [.out,
      .regs, .cmds, .time, .glb, .log, .evt, .bcn, .ports, .rdg, .cdv, .can, .prf, .pln, .hst, .kpr, .gal] ⊆ l) :
    ∃ t, execBlockReset dt rsv arg s = .next t ∧ Fr l z t := ⟨_, rfl, by
  with_reducible apply blockReset_fr
  with_reducible apply State.elapse_fr
  with_reducible assumption
  exact List.Subset.trans (by decide) hl
  exact List.Subset.trans (by decide) hl⟩

theorem execBlockResetDone_fr {s : State} {dt : Nat} (hz : Fr l z s) (hl : [.regs, .cmds, .time, .glb, .log,
      .evt] ⊆ l) :
    ∃ t, execBlockResetDone dt s = .next t ∧ Fr l z t := ⟨_, rfl, by
  with_reducible apply blockResetDone_fr
  with_reducible apply State.elapse_fr
  with_reducible assumption
  exact List.Subset.trans (by decide) hl
  exact List.Subset.trans (by decide) hl⟩

theorem execPcieReset_fr {s : State} {dt : Nat} (hz : Fr l z s) (hl : [.out, .regs, .cmds, .once, .time, .log,
      .evt, .img, .ports, .prf, .pln, .cnd, .lmp, .hst, .kpr, .gal] ⊆ l) :
    ∃ t, execPcieReset dt s = .next t ∧ Fr l z t := ⟨_, rfl, by
  with_reducible apply pcieReset_fr
  with_reducible apply State.elapse_fr
  with_reducible assumption
  exact List.Subset.trans (by decide) hl
  exact List.Subset.trans (by decide) hl⟩

theorem execSupplyLoss_fr {s : State} {dt : Nat} (hz : Fr l z s) (hl : [.time, .pwr, .log] ⊆ l) :
    ∃ t, execSupplyLoss dt s = .next t ∧ Fr l z t := ⟨_, rfl, by
  with_reducible apply supplyLoss_fr
  with_reducible apply State.elapse_fr
  with_reducible assumption
  exact List.Subset.trans (by decide) hl
  exact List.Subset.trans (by decide) hl⟩

theorem execPowerFailWarn_fr {s : State} {dt : Nat} (hz : Fr l z s) (hl : [.out, .regs, .cmds, .once, .time, .glb,
      .pwr, .log, .evt, .img, .bcn, .cdv, .pln, .svi, .cnd, .hst, .kpr, .gal, .pub, .pair] ⊆ l) :
    ∃ t, execPowerFailWarn dt s = .next t ∧ Fr l z t := ⟨_, rfl, by
  with_reducible apply powerFailWarn_fr
  with_reducible apply State.elapse_fr
  with_reducible assumption
  exact List.Subset.trans (by decide) hl
  exact hl⟩

theorem execHoldupExpiry_fr {s : State} {dt : Nat} (hz : Fr l z s) (hl : [.out, .regs, .cmds, .once, .time, .glb,
      .pwr, .log, .evt, .img, .bcn, .cdv, .pln, .svi, .cnd, .hst, .kpr, .gal, .pub, .pair] ⊆ l) :
    ∃ t, execHoldupExpiry dt s = .next t ∧ Fr l z t := ⟨_, rfl, by
  with_reducible apply holdupExpiry_fr
  with_reducible apply State.elapse_fr
  with_reducible assumption
  exact List.Subset.trans (by decide) hl
  exact hl⟩

theorem execSupplyRestored_fr {s : State} {dt : Nat} (hz : Fr l z s) (hl : [.time, .pwr, .log] ⊆ l) :
    ∃ t, execSupplyRestored dt s = .next t ∧ Fr l z t := ⟨_, rfl, by
  with_reducible apply supplyRestored_fr
  with_reducible apply State.elapse_fr
  with_reducible assumption
  exact List.Subset.trans (by decide) hl
  exact List.Subset.trans (by decide) hl⟩

theorem execTamper_fr {s : State} {dt : Nat} {sensor : Fin 7} (hz : Fr l z s) (hl : [.out, .regs, .cmds, .once,
      .time, .glb, .pwr, .log, .evt, .img, .bcn, .cdv, .pln, .svi, .cnd, .lmp, .hst, .kpr, .gal, .pub, .pair] ⊆ l) :
    ∃ t, execTamper dt sensor s = .next t ∧ Fr l z t := ⟨_, rfl, by
  with_reducible apply tamper_fr
  with_reducible apply State.elapse_fr
  with_reducible assumption
  exact List.Subset.trans (by decide) hl
  exact hl⟩

theorem execThermalReading_fr {s : State} {dt : Nat} {die : Int} {railA : Int} {railB : Int} (hz : Fr l z s)
    (hl : [.out, .regs, .cmds, .once, .time, .glb, .pwr, .log, .evt, .img, .bcn, .cdv, .pln, .svi, .cnd, .hst,
      .kpr, .gal, .pub, .pair] ⊆ l) :
    ∃ t, execThermalReading dt die railA railB s = .next t ∧ Fr l z t := ⟨_, rfl, by
  with_reducible apply thermalReading_fr
  with_reducible apply State.elapse_fr
  with_reducible assumption
  exact List.Subset.trans (by decide) hl
  exact hl⟩

theorem execLoadCandidate_fr {s : State} {dt : Nat} {rsv : BitVec 8} {arg : BitVec 16} {buf : List Byte}
    (hz : Fr l z s) (hl : [.out, .regs, .cmds, .once, .time, .glb, .log, .evt, .img, .bcn, .pln, .svi, .cnd, .hst,
      .kpr, .gal, .pub, .pair] ⊆ l) :
    ∃ t, execLoadCandidate dt rsv arg buf s = .next t ∧ Fr l z t := ⟨_, rfl, by
  with_reducible apply loadCandidateNow_fr
  with_reducible apply State.elapse_fr
  with_reducible assumption
  exact List.Subset.trans (by decide) hl
  exact hl⟩

theorem execLoadDone_fr {s : State} {dt : Nat} {err : Fin 3} (hz : Fr l z s) (hl : [.regs, .cmds, .time, .log,
      .evt, .img] ⊆ l) :
    ∃ t, execLoadDone dt err s = .next t ∧ Fr l z t := ⟨_, rfl, by
  with_reducible apply loadDone_fr
  with_reducible apply State.elapse_fr
  with_reducible assumption
  exact List.Subset.trans (by decide) hl
  exact List.Subset.trans (by decide) hl⟩

theorem execReload_fr {s : State} {dt : Nat} {rsv : BitVec 8} {arg : BitVec 16} (hz : Fr l z s) (hl : [.regs,
      .cmds, .time, .log, .evt, .img] ⊆ l) :
    ∃ t, execReload dt rsv arg s = .next t ∧ Fr l z t := ⟨_, rfl, by
  with_reducible apply reload_fr
  with_reducible apply State.elapse_fr
  with_reducible assumption
  exact List.Subset.trans (by decide) hl
  exact List.Subset.trans (by decide) hl⟩

theorem execReloadApply_fr {s : State} {dt : Nat} (hz : Fr l z s) (hl : [.out, .regs, .once, .time, .log, .evt,
      .img, .prf, .pln, .svi, .cnd, .hst, .kpr, .gal, .pub] ⊆ l) :
    ∃ t, execReloadApply dt s = .next t ∧ Fr l z t := ⟨_, rfl, by
  with_reducible apply reloadApply_fr
  with_reducible apply State.elapse_fr
  with_reducible assumption
  exact List.Subset.trans (by decide) hl
  exact List.Subset.trans (by decide) hl⟩

theorem execAbandon_fr {s : State} {dt : Nat} {rsv : BitVec 8} {arg : BitVec 16} (hz : Fr l z s) (hl : [.regs,
      .cmds, .time, .log, .evt, .img] ⊆ l) :
    ∃ t, execAbandon dt rsv arg s = .next t ∧ Fr l z t := ⟨_, rfl, by
  with_reducible apply abandon_fr
  with_reducible apply State.elapse_fr
  with_reducible assumption
  exact List.Subset.trans (by decide) hl
  exact List.Subset.trans (by decide) hl⟩

theorem execInvalidateBank_fr {s : State} {dt : Nat} {rsv : BitVec 8} {arg : BitVec 16} (hz : Fr l z s)
    (hl : [.regs, .cmds, .time, .log, .evt, .img] ⊆ l) :
    ∃ t, execInvalidateBank dt rsv arg s = .next t ∧ Fr l z t := ⟨_, rfl, by
  with_reducible apply invalidateBank_fr
  with_reducible apply State.elapse_fr
  with_reducible assumption
  exact List.Subset.trans (by decide) hl
  exact List.Subset.trans (by decide) hl⟩

theorem execSetMinGen_fr {s : State} {dt : Nat} {rsv : BitVec 8} {arg : BitVec 16} (hz : Fr l z s) (hl : [.regs,
      .cmds, .time, .log, .evt, .img] ⊆ l) :
    ∃ t, execSetMinGen dt rsv arg s = .next t ∧ Fr l z t := ⟨_, rfl, by
  with_reducible apply setMinGen_fr
  with_reducible apply State.elapse_fr
  with_reducible assumption
  exact List.Subset.trans (by decide) hl
  exact List.Subset.trans (by decide) hl⟩

theorem execNvmStore_fr {s : State} {dt : Nat} {rsv : BitVec 8} {arg : BitVec 16} (hz : Fr l z s) (hl : [.regs,
      .cmds, .time, .log, .evt, .img] ⊆ l) :
    ∃ t, execNvmStore dt rsv arg s = .next t ∧ Fr l z t := ⟨_, rfl, by
  with_reducible apply nvmStore_fr
  with_reducible apply State.elapse_fr
  with_reducible assumption
  exact List.Subset.trans (by decide) hl
  exact List.Subset.trans (by decide) hl⟩

theorem execNvmStoreDone_fr {s : State} {dt : Nat} {fail : Option (Fin 64)} (hz : Fr l z s) (hl : [.regs, .cmds,
      .time, .log, .evt, .img] ⊆ l) :
    ∃ t, execNvmStoreDone dt fail s = .next t ∧ Fr l z t := ⟨_, rfl, by
  with_reducible apply nvmStoreDone_fr
  with_reducible apply State.elapse_fr
  with_reducible assumption
  exact List.Subset.trans (by decide) hl
  exact List.Subset.trans (by decide) hl⟩

theorem execSettingsWrite_fr {s : State} {dt : Nat} {rsv : BitVec 8} {arg : BitVec 16} (hz : Fr l z s)
    (hl : [.regs, .cmds, .time, .log, .evt, .img, .kpr] ⊆ l) :
    ∃ t, execSettingsWrite dt rsv arg s = .next t ∧ Fr l z t := ⟨_, rfl, by
  with_reducible apply settingsWrite_fr
  with_reducible apply State.elapse_fr
  with_reducible assumption
  exact List.Subset.trans (by decide) hl
  exact List.Subset.trans (by decide) hl⟩

theorem execSettingsRevert_fr {s : State} {dt : Nat} {rsv : BitVec 8} {arg : BitVec 16} (hz : Fr l z s)
    (hl : [.regs, .cmds, .time, .log, .evt, .img, .kpr] ⊆ l) :
    ∃ t, execSettingsRevert dt rsv arg s = .next t ∧ Fr l z t := ⟨_, rfl, by
  with_reducible apply settingsRevert_fr
  with_reducible apply State.elapse_fr
  with_reducible assumption
  exact List.Subset.trans (by decide) hl
  exact List.Subset.trans (by decide) hl⟩

theorem execSettingsRead_fr {s : State} {dt : Nat} {rsv : BitVec 8} {arg : BitVec 16} (hz : Fr l z s)
    (hl : [.regs, .cmds, .time, .log, .evt] ⊆ l) :
    ∃ t, execSettingsRead dt rsv arg s = .next t ∧ Fr l z t := ⟨_, rfl, by
  with_reducible apply settingsRead_fr
  with_reducible apply State.elapse_fr
  with_reducible assumption
  exact List.Subset.trans (by decide) hl
  exact List.Subset.trans (by decide) hl⟩

theorem execSettingsApply_fr {s : State} {dt : Nat} (hz : Fr l z s) (hl : [.regs, .cmds, .time, .log, .evt, .img,
      .kpr] ⊆ l) :
    ∃ t, execSettingsApply dt s = .next t ∧ Fr l z t := ⟨_, rfl, by
  with_reducible apply settingsApply_fr
  with_reducible apply State.elapse_fr
  with_reducible assumption
  exact List.Subset.trans (by decide) hl
  exact List.Subset.trans (by decide) hl⟩

theorem execFrameTick_fr {s : State} {dt : Nat} (hz : Fr l z s) (hl : [.out, .regs, .cmds, .once, .time, .glb,
      .log, .evt, .img, .bcn, .ports, .rdg, .cdv, .prf, .pln, .svi, .cnd, .hst, .kpr, .gal, .pub, .pair] ⊆ l) :
    ∃ t, execFrameTick dt s = .next t ∧ Fr l z t := ⟨_, rfl, by
  with_reducible apply frameTick_fr
  with_reducible apply State.elapse_fr
  with_reducible assumption
  exact List.Subset.trans (by decide) hl
  exact hl⟩

theorem execKeeperWake_fr {s : State} {dt : Nat} {k : Fin 16} (hz : Fr l z s) (hl : [.time, .log, .kpr] ⊆ l) :
    ∃ t, execKeeperWake dt k s = .next t ∧ Fr l z t := ⟨_, rfl, by
  with_reducible apply keeperWake_fr
  with_reducible apply State.elapse_fr
  with_reducible assumption
  exact List.Subset.trans (by decide) hl
  exact List.Subset.trans (by decide) hl⟩

theorem execCommit_fr {s : State} {dt : Nat} (hz : Fr l z s) (hl : [.out, .regs, .cmds, .once, .time, .glb, .log,
      .evt, .img, .bcn, .ports, .rdg, .cdv, .prf, .pln, .svi, .cnd, .hst, .kpr, .gal, .pub, .pair] ⊆ l) :
    ∃ t, execCommit dt s = .next t ∧ Fr l z t := ⟨_, rfl, by
  with_reducible apply commit_fr
  with_reducible apply State.elapse_fr
  with_reducible assumption
  exact List.Subset.trans (by decide) hl
  exact hl⟩

theorem execKgv_fr {s : State} {dt : Nat} {k : Fin 16} {ecc : Bool} (hz : Fr l z s) (hl : [.out, .regs, .once,
      .time, .log, .evt, .prf, .hst, .kpr] ⊆ l) :
    ∃ t, execKgv dt k ecc s = .next t ∧ Fr l z t := ⟨_, rfl, by
  with_reducible apply keeperInst_fr
  with_reducible apply State.elapse_fr
  with_reducible assumption
  exact List.Subset.trans (by decide) hl
  exact List.Subset.trans (by decide) hl⟩

theorem execKgm_fr {s : State} {dt : Nat} {k : Fin 16} {ecc : Bool} (hz : Fr l z s) (hl : [.out, .regs, .once,
      .time, .log, .evt, .prf, .hst, .kpr] ⊆ l) :
    ∃ t, execKgm dt k ecc s = .next t ∧ Fr l z t := ⟨_, rfl, by
  with_reducible apply keeperInst_fr
  with_reducible apply State.elapse_fr
  with_reducible assumption
  exact List.Subset.trans (by decide) hl
  exact List.Subset.trans (by decide) hl⟩

theorem execKiv_fr {s : State} {dt : Nat} {k : Fin 16} {ecc : Bool} (hz : Fr l z s) (hl : [.out, .regs, .once,
      .time, .log, .evt, .prf, .hst, .kpr] ⊆ l) :
    ∃ t, execKiv dt k ecc s = .next t ∧ Fr l z t := ⟨_, rfl, by
  with_reducible apply keeperInst_fr
  with_reducible apply State.elapse_fr
  with_reducible assumption
  exact List.Subset.trans (by decide) hl
  exact List.Subset.trans (by decide) hl⟩

theorem execKim_fr {s : State} {dt : Nat} {k : Fin 16} {ecc : Bool} (hz : Fr l z s) (hl : [.out, .regs, .once,
      .time, .log, .evt, .prf, .hst, .kpr] ⊆ l) :
    ∃ t, execKim dt k ecc s = .next t ∧ Fr l z t := ⟨_, rfl, by
  with_reducible apply keeperInst_fr
  with_reducible apply State.elapse_fr
  with_reducible assumption
  exact List.Subset.trans (by decide) hl
  exact List.Subset.trans (by decide) hl⟩

theorem execKphr_fr {s : State} {dt : Nat} {k : Fin 16} {ecc : Bool} (hz : Fr l z s) (hl : [.out, .regs, .once,
      .time, .log, .evt, .prf, .hst, .kpr] ⊆ l) :
    ∃ t, execKphr dt k ecc s = .next t ∧ Fr l z t := ⟨_, rfl, by
  with_reducible apply keeperInst_fr
  with_reducible apply State.elapse_fr
  with_reducible assumption
  exact List.Subset.trans (by decide) hl
  exact List.Subset.trans (by decide) hl⟩

theorem execKphi_fr {s : State} {dt : Nat} {k : Fin 16} {ecc : Bool} (hz : Fr l z s) (hl : [.out, .regs, .once,
      .time, .log, .evt, .prf, .hst, .kpr] ⊆ l) :
    ∃ t, execKphi dt k ecc s = .next t ∧ Fr l z t := ⟨_, rfl, by
  with_reducible apply keeperInst_fr
  with_reducible apply State.elapse_fr
  with_reducible assumption
  exact List.Subset.trans (by decide) hl
  exact List.Subset.trans (by decide) hl⟩

theorem execKphm_fr {s : State} {dt : Nat} {k : Fin 16} {ecc : Bool} (hz : Fr l z s) (hl : [.out, .regs, .once,
      .time, .log, .evt, .prf, .hst, .kpr] ⊆ l) :
    ∃ t, execKphm dt k ecc s = .next t ∧ Fr l z t := ⟨_, rfl, by
  with_reducible apply keeperInst_fr
  with_reducible apply State.elapse_fr
  with_reducible assumption
  exact List.Subset.trans (by decide) hl
  exact List.Subset.trans (by decide) hl⟩

theorem execKgt_fr {s : State} {dt : Nat} {k : Fin 16} {ecc : Bool} (hz : Fr l z s) (hl : [.out, .regs, .once,
      .time, .log, .evt, .prf, .hst, .kpr] ⊆ l) :
    ∃ t, execKgt dt k ecc s = .next t ∧ Fr l z t := ⟨_, rfl, by
  with_reducible apply keeperInst_fr
  with_reducible apply State.elapse_fr
  with_reducible assumption
  exact List.Subset.trans (by decide) hl
  exact List.Subset.trans (by decide) hl⟩

theorem execKbin_fr {s : State} {dt : Nat} {k : Fin 16} {ecc : Bool} (hz : Fr l z s) (hl : [.out, .regs, .once,
      .time, .log, .evt, .prf, .hst, .kpr] ⊆ l) :
    ∃ t, execKbin dt k ecc s = .next t ∧ Fr l z t := ⟨_, rfl, by
  with_reducible apply keeperInst_fr
  with_reducible apply State.elapse_fr
  with_reducible assumption
  exact List.Subset.trans (by decide) hl
  exact List.Subset.trans (by decide) hl⟩

theorem execKbinw_fr {s : State} {dt : Nat} {k : Fin 16} {ecc : Bool} (hz : Fr l z s) (hl : [.out, .regs, .once,
      .time, .log, .evt, .prf, .hst, .kpr] ⊆ l) :
    ∃ t, execKbinw dt k ecc s = .next t ∧ Fr l z t := ⟨_, rfl, by
  with_reducible apply keeperInst_fr
  with_reducible apply State.elapse_fr
  with_reducible assumption
  exact List.Subset.trans (by decide) hl
  exact List.Subset.trans (by decide) hl⟩

theorem execKbinq_fr {s : State} {dt : Nat} {k : Fin 16} {ecc : Bool} (hz : Fr l z s) (hl : [.out, .regs, .once,
      .time, .log, .evt, .prf, .hst, .kpr] ⊆ l) :
    ∃ t, execKbinq dt k ecc s = .next t ∧ Fr l z t := ⟨_, rfl, by
  with_reducible apply keeperInst_fr
  with_reducible apply State.elapse_fr
  with_reducible assumption
  exact List.Subset.trans (by decide) hl
  exact List.Subset.trans (by decide) hl⟩

theorem execKdec_fr {s : State} {dt : Nat} {k : Fin 16} {ecc : Bool} (hz : Fr l z s) (hl : [.out, .regs, .once,
      .time, .log, .evt, .prf, .hst, .kpr] ⊆ l) :
    ∃ t, execKdec dt k ecc s = .next t ∧ Fr l z t := ⟨_, rfl, by
  with_reducible apply keeperInst_fr
  with_reducible apply State.elapse_fr
  with_reducible assumption
  exact List.Subset.trans (by decide) hl
  exact List.Subset.trans (by decide) hl⟩

theorem execKdset_fr {s : State} {dt : Nat} {k : Fin 16} {ecc : Bool} (hz : Fr l z s) (hl : [.out, .regs, .once,
      .time, .log, .evt, .prf, .hst, .kpr] ⊆ l) :
    ∃ t, execKdset dt k ecc s = .next t ∧ Fr l z t := ⟨_, rfl, by
  with_reducible apply keeperInst_fr
  with_reducible apply State.elapse_fr
  with_reducible assumption
  exact List.Subset.trans (by decide) hl
  exact List.Subset.trans (by decide) hl⟩

theorem execKdclr_fr {s : State} {dt : Nat} {k : Fin 16} {ecc : Bool} (hz : Fr l z s) (hl : [.out, .regs, .once,
      .time, .log, .evt, .prf, .hst, .kpr] ⊆ l) :
    ∃ t, execKdclr dt k ecc s = .next t ∧ Fr l z t := ⟨_, rfl, by
  with_reducible apply keeperInst_fr
  with_reducible apply State.elapse_fr
  with_reducible assumption
  exact List.Subset.trans (by decide) hl
  exact List.Subset.trans (by decide) hl⟩

theorem execKdput_fr {s : State} {dt : Nat} {k : Fin 16} {ecc : Bool} (hz : Fr l z s) (hl : [.out, .regs, .once,
      .time, .log, .evt, .prf, .hst, .kpr] ⊆ l) :
    ∃ t, execKdput dt k ecc s = .next t ∧ Fr l z t := ⟨_, rfl, by
  with_reducible apply keeperInst_fr
  with_reducible apply State.elapse_fr
  with_reducible assumption
  exact List.Subset.trans (by decide) hl
  exact List.Subset.trans (by decide) hl⟩

theorem execKslw_fr {s : State} {dt : Nat} {k : Fin 16} {ecc : Bool} (hz : Fr l z s) (hl : [.out, .regs, .once,
      .time, .log, .evt, .prf, .hst, .kpr] ⊆ l) :
    ∃ t, execKslw dt k ecc s = .next t ∧ Fr l z t := ⟨_, rfl, by
  with_reducible apply keeperInst_fr
  with_reducible apply State.elapse_fr
  with_reducible assumption
  exact List.Subset.trans (by decide) hl
  exact List.Subset.trans (by decide) hl⟩

theorem execKssw_fr {s : State} {dt : Nat} {k : Fin 16} {ecc : Bool} (hz : Fr l z s) (hl : [.out, .regs, .once,
      .time, .log, .evt, .prf, .hst, .kpr] ⊆ l) :
    ∃ t, execKssw dt k ecc s = .next t ∧ Fr l z t := ⟨_, rfl, by
  with_reducible apply keeperInst_fr
  with_reducible apply State.elapse_fr
  with_reducible assumption
  exact List.Subset.trans (by decide) hl
  exact List.Subset.trans (by decide) hl⟩

theorem execKslf_fr {s : State} {dt : Nat} {k : Fin 16} {ecc : Bool} (hz : Fr l z s) (hl : [.out, .regs, .once,
      .time, .log, .evt, .prf, .hst, .kpr] ⊆ l) :
    ∃ t, execKslf dt k ecc s = .next t ∧ Fr l z t := ⟨_, rfl, by
  with_reducible apply keeperInst_fr
  with_reducible apply State.elapse_fr
  with_reducible assumption
  exact List.Subset.trans (by decide) hl
  exact List.Subset.trans (by decide) hl⟩

theorem execKssf_fr {s : State} {dt : Nat} {k : Fin 16} {ecc : Bool} (hz : Fr l z s) (hl : [.out, .regs, .once,
      .time, .log, .evt, .prf, .hst, .kpr] ⊆ l) :
    ∃ t, execKssf dt k ecc s = .next t ∧ Fr l z t := ⟨_, rfl, by
  with_reducible apply keeperInst_fr
  with_reducible apply State.elapse_fr
  with_reducible assumption
  exact List.Subset.trans (by decide) hl
  exact List.Subset.trans (by decide) hl⟩

theorem execKevt_fr {s : State} {dt : Nat} {k : Fin 16} {ecc : Bool} (hz : Fr l z s) (hl : [.out, .regs, .once,
      .time, .log, .evt, .prf, .hst, .kpr] ⊆ l) :
    ∃ t, execKevt dt k ecc s = .next t ∧ Fr l z t := ⟨_, rfl, by
  with_reducible apply keeperInst_fr
  with_reducible apply State.elapse_fr
  with_reducible assumption
  exact List.Subset.trans (by decide) hl
  exact List.Subset.trans (by decide) hl⟩

theorem execKyield_fr {s : State} {dt : Nat} {k : Fin 16} {ecc : Bool} (hz : Fr l z s) (hl : [.out, .regs, .once,
      .time, .log, .evt, .prf, .hst, .kpr] ⊆ l) :
    ∃ t, execKyield dt k ecc s = .next t ∧ Fr l z t := ⟨_, rfl, by
  with_reducible apply keeperInst_fr
  with_reducible apply State.elapse_fr
  with_reducible assumption
  exact List.Subset.trans (by decide) hl
  exact List.Subset.trans (by decide) hl⟩

theorem execKbudg_fr {s : State} {dt : Nat} {k : Fin 16} {ecc : Bool} (hz : Fr l z s) (hl : [.out, .regs, .once,
      .time, .log, .evt, .prf, .hst, .kpr] ⊆ l) :
    ∃ t, execKbudg dt k ecc s = .next t ∧ Fr l z t := ⟨_, rfl, by
  with_reducible apply keeperInst_fr
  with_reducible apply State.elapse_fr
  with_reducible assumption
  exact List.Subset.trans (by decide) hl
  exact List.Subset.trans (by decide) hl⟩

theorem execKftime_fr {s : State} {dt : Nat} {k : Fin 16} {ecc : Bool} (hz : Fr l z s) (hl : [.out, .regs, .once,
      .time, .log, .evt, .prf, .hst, .kpr] ⊆ l) :
    ∃ t, execKftime dt k ecc s = .next t ∧ Fr l z t := ⟨_, rfl, by
  with_reducible apply keeperInst_fr
  with_reducible apply State.elapse_fr
  with_reducible assumption
  exact List.Subset.trans (by decide) hl
  exact List.Subset.trans (by decide) hl⟩

theorem execKeeperCsrRead_fr {s : State} {dt : Nat} {k : Fin 16} {ecc : Bool} (hz : Fr l z s) (hl : [.out, .regs,
      .once, .time, .log, .evt, .prf, .hst, .kpr] ⊆ l) :
    ∃ t, execKeeperCsrRead dt k ecc s = .next t ∧ Fr l z t := ⟨_, rfl, by
  with_reducible apply keeperInst_fr
  with_reducible apply State.elapse_fr
  with_reducible assumption
  exact List.Subset.trans (by decide) hl
  exact List.Subset.trans (by decide) hl⟩

theorem execKeeperBaseInstruction_fr {s : State} {dt : Nat} {k : Fin 16} {ecc : Bool} (hz : Fr l z s) (hl : [.out,
      .regs, .once, .time, .log, .evt, .prf, .hst, .kpr] ⊆ l) :
    ∃ t, execKeeperBaseInstruction dt k ecc s = .next t ∧ Fr l z t := ⟨_, rfl, by
  with_reducible apply keeperInst_fr
  with_reducible apply State.elapse_fr
  with_reducible assumption
  exact List.Subset.trans (by decide) hl
  exact List.Subset.trans (by decide) hl⟩

theorem execBudgetExpiry_fr {s : State} {dt : Nat} {k : Fin 16} (hz : Fr l z s) (hl : [.out, .regs, .once, .time,
      .log, .evt, .prf, .hst, .kpr] ⊆ l) :
    ∃ t, execBudgetExpiry dt k s = .next t ∧ Fr l z t := ⟨_, rfl, by
  with_reducible apply budgetExpiry_fr
  with_reducible apply State.elapse_fr
  with_reducible assumption
  exact List.Subset.trans (by decide) hl
  exact List.Subset.trans (by decide) hl⟩

theorem execResultMergeRelease_fr {s : State} {dt : Nat} {k : Fin 16} (hz : Fr l z s) (hl : [.regs, .time, .log,
      .evt, .pln, .kpr] ⊆ l) :
    ∃ t, execResultMergeRelease dt k s = .next t ∧ Fr l z t := ⟨_, rfl, by
  with_reducible apply mergeStep_fr
  with_reducible apply State.elapse_fr
  with_reducible assumption
  exact List.Subset.trans (by decide) hl
  exact List.Subset.trans (by decide) hl⟩

theorem execLockstepMiscompare_fr {s : State} {dt : Nat} {k : Fin 16} (hz : Fr l z s) (hl : [.out, .regs, .cmds,
      .once, .time, .glb, .log, .evt, .img, .bcn, .cdv, .pln, .svi, .cnd, .hst, .kpr, .gal, .pub, .pair] ⊆ l) :
    ∃ t, execLockstepMiscompare dt k s = .next t ∧ Fr l z t := ⟨_, rfl, by
  with_reducible apply lockstepMiscompare_fr
  with_reducible apply State.elapse_fr
  with_reducible assumption
  exact List.Subset.trans (by decide) hl
  exact hl⟩

theorem execKeeperSramEcc_fr {s : State} {dt : Nat} {k : Fin 16} {data : Bool} {bad : Option (Fin 512)}
    (hz : Fr l z s) (hl : [.out, .regs, .cmds, .once, .time, .glb, .log, .evt, .img, .bcn, .cdv, .pln, .svi, .cnd,
      .hst, .kpr, .gal, .pub, .pair] ⊆ l) :
    ∃ t, execKeeperSramEcc dt k data bad s = .next t ∧ Fr l z t := ⟨_, rfl, by
  with_reducible apply keeperSramEcc_fr
  with_reducible apply State.elapse_fr
  with_reducible assumption
  exact List.Subset.trans (by decide) hl
  exact hl⟩

theorem execKeeperReplaceApply_fr {s : State} {dt : Nat} (hz : Fr l z s) (hl : [.regs, .cmds, .time, .log, .evt,
      .img, .kpr] ⊆ l) :
    ∃ t, execKeeperReplaceApply dt s = .next t ∧ Fr l z t := ⟨_, rfl, by
  with_reducible apply replaceApply_fr
  with_reducible apply State.elapse_fr
  with_reducible assumption
  exact List.Subset.trans (by decide) hl
  exact List.Subset.trans (by decide) hl⟩

theorem execMove_fr {s : State} {dt : Nat} {rsv : BitVec 8} {arg : BitVec 16} (hz : Fr l z s) (hl : [.regs, .cmds,
      .time, .log, .evt, .kpr] ⊆ l) :
    ∃ t, execMove dt rsv arg s = .next t ∧ Fr l z t := ⟨_, rfl, by
  with_reducible apply move_fr
  with_reducible apply State.elapse_fr
  with_reducible assumption
  exact List.Subset.trans (by decide) hl
  exact List.Subset.trans (by decide) hl⟩

theorem execMoveApply_fr {s : State} {dt : Nat} (hz : Fr l z s) (hl : [.regs, .cmds, .time, .log, .evt, .kpr] ⊆ l) :
    ∃ t, execMoveApply dt s = .next t ∧ Fr l z t := ⟨_, rfl, by
  with_reducible apply moveApply_fr
  with_reducible apply State.elapse_fr
  with_reducible assumption
  exact List.Subset.trans (by decide) hl
  exact List.Subset.trans (by decide) hl⟩

theorem execFuncRestart_fr {s : State} {dt : Nat} {rsv : BitVec 8} {arg : BitVec 16} (hz : Fr l z s) (hl : [.regs,
      .cmds, .time, .log, .evt, .kpr] ⊆ l) :
    ∃ t, execFuncRestart dt rsv arg s = .next t ∧ Fr l z t := ⟨_, rfl, by
  with_reducible apply funcRestart_fr
  with_reducible apply State.elapse_fr
  with_reducible assumption
  exact List.Subset.trans (by decide) hl
  exact List.Subset.trans (by decide) hl⟩

theorem execFuncRestartApply_fr {s : State} {dt : Nat} (hz : Fr l z s) (hl : [.regs, .cmds, .time, .log, .evt,
      .kpr] ⊆ l) :
    ∃ t, execFuncRestartApply dt s = .next t ∧ Fr l z t := ⟨_, rfl, by
  with_reducible apply funcRestartApply_fr
  with_reducible apply State.elapse_fr
  with_reducible assumption
  exact List.Subset.trans (by decide) hl
  exact List.Subset.trans (by decide) hl⟩

theorem execKeeperReturn_fr {s : State} {dt : Nat} {rsv : BitVec 8} {arg : BitVec 16} (hz : Fr l z s)
    (hl : [.regs, .cmds, .time, .log, .evt, .kpr] ⊆ l) :
    ∃ t, execKeeperReturn dt rsv arg s = .next t ∧ Fr l z t := ⟨_, rfl, by
  with_reducible apply keeperReturn_fr
  with_reducible apply State.elapse_fr
  with_reducible assumption
  exact List.Subset.trans (by decide) hl
  exact List.Subset.trans (by decide) hl⟩

theorem execKeeperSelftestDone_fr {s : State} {dt : Nat} {pass : Bool} (hz : Fr l z s) (hl : [.regs, .cmds, .time,
      .log, .evt, .kpr] ⊆ l) :
    ∃ t, execKeeperSelftestDone dt pass s = .next t ∧ Fr l z t := ⟨_, rfl, by
  with_reducible apply keeperSelftestDone_fr
  with_reducible apply State.elapse_fr
  with_reducible assumption
  exact List.Subset.trans (by decide) hl
  exact List.Subset.trans (by decide) hl⟩

theorem execMacFrameRx_fr {s : State} {dt : Nat} {p : Fin 33} {f : Frame} {len : BitVec 16} {bad : RxBad}
    {ago : Nat} (hz : Fr l z s) (hl : [.out, .regs, .once, .time, .log, .evt, .ports, .rdg, .prf, .hst] ⊆ l) :
    ∃ t, execMacFrameRx dt p f len bad ago s = .next t ∧ Fr l z t := ⟨_, rfl, by
  with_reducible apply macFrameRx_fr
  with_reducible apply State.elapse_fr
  with_reducible assumption
  exact List.Subset.trans (by decide) hl
  exact List.Subset.trans (by decide) hl⟩

theorem execEgressTransmit_fr {s : State} {dt : Nat} {x : Fin 65} {pick : Nat} {busy : Bool} (hz : Fr l z s)
    (hl : [.out, .regs, .once, .time, .log, .evt, .ports, .rdg, .prf, .hst] ⊆ l) :
    ∃ t, execEgressTransmit dt x pick busy s = .next t ∧ Fr l z t := ⟨_, rfl, by
  with_reducible apply egressTransmit_fr
  with_reducible apply State.elapse_fr
  with_reducible assumption
  exact List.Subset.trans (by decide) hl
  exact List.Subset.trans (by decide) hl⟩

theorem execPfcFrameRx_fr {s : State} {dt : Nat} {p : Fin 33} {enables : Option (BitVec 8)} {quanta : List Nat}
    (hz : Fr l z s) (hl : [.regs, .time, .log, .evt, .ports] ⊆ l) :
    ∃ t, execPfcFrameRx dt p enables quanta s = .next t ∧ Fr l z t := ⟨_, rfl, by
  with_reducible apply pfcRx_fr
  with_reducible apply State.elapse_fr
  with_reducible assumption
  exact List.Subset.trans (by decide) hl
  exact List.Subset.trans (by decide) hl⟩

theorem execPfcPauseExpiry_fr {s : State} {dt : Nat} {p : Fin 33} {c : Fin 6} (hz : Fr l z s) (hl : [.time, .log,
      .ports] ⊆ l) :
    ∃ t, execPfcPauseExpiry dt p c s = .next t ∧ Fr l z t := ⟨_, rfl, by
  with_reducible apply State.setPort_fr
  with_reducible apply State.elapse_fr
  with_reducible assumption
  exact List.Subset.trans (by decide) hl
  exact List.Subset.trans (by decide) hl⟩

theorem execPfcXoffRepeat_fr {s : State} {dt : Nat} {p : Fin 33} {c : Fin 6} (hz : Fr l z s) (hl : [.out, .regs,
      .time, .log, .evt, .ports] ⊆ l) :
    ∃ t, execPfcXoffRepeat dt p c s = .next t ∧ Fr l z t := ⟨_, rfl, by
  refine Fr.ite ?_ ?_
  with_reducible apply State.sendPfc_fr
  with_reducible apply State.elapse_fr
  with_reducible assumption
  exact List.Subset.trans (by decide) hl
  exact List.Subset.trans (by decide) hl
  with_reducible apply State.pfcCheck_fr
  with_reducible apply State.elapse_fr
  with_reducible assumption
  exact List.Subset.trans (by decide) hl
  exact List.Subset.trans (by decide) hl⟩

theorem execPfcWatchdog_fr {s : State} {dt : Nat} {p : Fin 33} {c : Fin 6} (hz : Fr l z s) (hl : [.regs, .time,
      .log, .evt, .ports] ⊆ l) :
    ∃ t, execPfcWatchdog dt p c s = .next t ∧ Fr l z t := ⟨_, rfl, by
  with_reducible apply pfcWatchdog_fr
  with_reducible apply State.elapse_fr
  with_reducible assumption
  exact List.Subset.trans (by decide) hl
  exact List.Subset.trans (by decide) hl⟩

theorem execPfcWatchdogReleaseEnd_fr {s : State} {dt : Nat} {p : Fin 33} {c : Fin 6} (hz : Fr l z s) (hl : [.time,
      .log, .ports] ⊆ l) :
    ∃ t, execPfcWatchdogReleaseEnd dt p c s = .next t ∧ Fr l z t := ⟨_, rfl, by
  with_reducible apply State.setPort_fr
  with_reducible apply State.elapse_fr
  with_reducible assumption
  exact List.Subset.trans (by decide) hl
  exact List.Subset.trans (by decide) hl⟩

theorem execLinkDown_fr {s : State} {dt : Nat} {p : Fin 33} {part : Option Frame} (hz : Fr l z s) (hl : [.out,
      .regs, .time, .log, .evt, .bcn, .ports, .rdg, .hst] ⊆ l) :
    ∃ t, execLinkDown dt p part s = .next t ∧ Fr l z t := ⟨_, rfl, by
  with_reducible apply linkDownNow_fr
  with_reducible apply State.elapse_fr
  with_reducible assumption
  exact List.Subset.trans (by decide) hl
  exact List.Subset.trans (by decide) hl⟩

theorem execLinkUp_fr {s : State} {dt : Nat} {p : Fin 33} {speed : Fin 6} {fec : Bool} (hz : Fr l z s)
    (hl : [.regs, .time, .log, .evt, .bcn, .ports] ⊆ l) :
    ∃ t, execLinkUp dt p speed fec s = .next t ∧ Fr l z t := ⟨_, rfl, by
  with_reducible apply linkTrains_fr
  with_reducible apply State.elapse_fr
  with_reducible assumption
  exact List.Subset.trans (by decide) hl
  exact List.Subset.trans (by decide) hl⟩

theorem execHoldDownExpiry_fr {s : State} {dt : Nat} {p : Fin 33} (hz : Fr l z s) (hl : [.regs, .time, .log, .evt,
      .bcn, .ports] ⊆ l) :
    ∃ t, execHoldDownExpiry dt p s = .next t ∧ Fr l z t := ⟨_, rfl, by
  with_reducible apply State.endHold_fr
  with_reducible apply State.elapse_fr
  with_reducible assumption
  exact List.Subset.trans (by decide) hl
  exact List.Subset.trans (by decide) hl⟩

theorem execTransceiverChange_fr {s : State} {dt : Nat} {p : Fin 33} {present : Bool} {mismatch : Bool}
    {txFault : Bool} {los : Bool} (hz : Fr l z s) (hl : [.out, .regs, .time, .log, .evt, .bcn, .ports, .rdg,
      .hst] ⊆ l) :
    ∃ t, execTransceiverChange dt p present mismatch txFault los s = .next t ∧ Fr l z t := ⟨_, rfl, by
  with_reducible apply transceiver_fr
  with_reducible apply State.elapse_fr
  with_reducible assumption
  exact List.Subset.trans (by decide) hl
  exact List.Subset.trans (by decide) hl⟩

theorem execPcsFaultChange_fr {s : State} {dt : Nat} {p : Fin 33} {loc : Bool} {rem : Bool} (hz : Fr l z s)
    (hl : [.regs, .time, .log, .evt, .ports] ⊆ l) :
    ∃ t, execPcsFaultChange dt p loc rem s = .next t ∧ Fr l z t := ⟨_, rfl, by
  with_reducible apply pcsFault_fr
  with_reducible apply State.elapse_fr
  with_reducible assumption
  exact List.Subset.trans (by decide) hl
  exact List.Subset.trans (by decide) hl⟩

theorem execUtilSample1s_fr {s : State} {dt : Nat} {p : Fin 33} {util : Fin 10001} (hz : Fr l z s) (hl : [.out,
      .regs, .time, .log, .evt, .bcn, .ports, .rdg, .hst] ⊆ l) :
    ∃ t, execUtilSample1s dt p util s = .next t ∧ Fr l z t := ⟨_, rfl, by
  with_reducible apply utilSample1s_fr
  with_reducible apply State.elapse_fr
  with_reducible assumption
  exact List.Subset.trans (by decide) hl
  exact List.Subset.trans (by decide) hl⟩

theorem execUtilSample10ms_fr {s : State} {dt : Nat} {p : Fin 33} {util : Fin 10001} (hz : Fr l z s) (hl : [.out,
      .regs, .time, .log, .evt, .bcn, .ports, .rdg, .hst] ⊆ l) :
    ∃ t, execUtilSample10ms dt p util s = .next t ∧ Fr l z t := ⟨_, rfl, by
  with_reducible apply utilSample10ms_fr
  with_reducible apply State.elapse_fr
  with_reducible assumption
  exact List.Subset.trans (by decide) hl
  exact List.Subset.trans (by decide) hl⟩

theorem execSpeedChangeTimeout_fr {s : State} {dt : Nat} {p : Fin 33} (hz : Fr l z s) (hl : [.out, .regs, .time,
      .log, .evt, .bcn, .ports, .rdg, .hst] ⊆ l) :
    ∃ t, execSpeedChangeTimeout dt p s = .next t ∧ Fr l z t := ⟨_, rfl, by
  with_reducible apply speedTimeout_fr
  with_reducible apply State.elapse_fr
  with_reducible assumption
  exact List.Subset.trans (by decide) hl
  exact List.Subset.trans (by decide) hl⟩

theorem execT1sCollision_fr {s : State} {dt : Nat} {p : Fin 33} {late : Bool} {r : Nat} {pick : Nat}
    (hz : Fr l z s) (hl : [.out, .regs, .time, .log, .evt, .ports, .rdg, .hst] ⊆ l) :
    ∃ t, execT1sCollision dt p late r pick s = .next t ∧ Fr l z t := ⟨_, rfl, by
  with_reducible apply t1sCollision_fr
  with_reducible apply State.elapse_fr
  with_reducible assumption
  exact List.Subset.trans (by decide) hl
  exact List.Subset.trans (by decide) hl⟩

theorem execT1sBackoffExpiry_fr {s : State} {dt : Nat} {p : Fin 33} (hz : Fr l z s) (hl : [.time, .log, .ports] ⊆ l) :
    ∃ t, execT1sBackoffExpiry dt p s = .next t ∧ Fr l z t := ⟨_, rfl, by
  with_reducible apply State.setPort_fr
  with_reducible apply State.elapse_fr
  with_reducible assumption
  exact List.Subset.trans (by decide) hl
  exact List.Subset.trans (by decide) hl⟩

theorem execAdminDown_fr {s : State} {dt : Nat} {p : Fin 33} {rsv : BitVec 8} {arg : BitVec 16} (hz : Fr l z s)
    (hl : [.out, .regs, .cmds, .time, .log, .evt, .bcn, .ports, .rdg, .hst] ⊆ l) :
    ∃ t, execAdminDown dt p rsv arg s = .next t ∧ Fr l z t := ⟨_, rfl, by
  with_reducible apply adminDown_fr
  with_reducible apply State.elapse_fr
  with_reducible assumption
  exact List.Subset.trans (by decide) hl
  exact List.Subset.trans (by decide) hl⟩

theorem execAdminUp_fr {s : State} {dt : Nat} {p : Fin 33} {rsv : BitVec 8} {arg : BitVec 16} (hz : Fr l z s)
    (hl : [.regs, .cmds, .time, .log, .evt, .ports] ⊆ l) :
    ∃ t, execAdminUp dt p rsv arg s = .next t ∧ Fr l z t := ⟨_, rfl, by
  with_reducible apply adminUp_fr
  with_reducible apply State.elapse_fr
  with_reducible assumption
  exact List.Subset.trans (by decide) hl
  exact List.Subset.trans (by decide) hl⟩

theorem execSpeedPin_fr {s : State} {dt : Nat} {p : Fin 33} {rsv : BitVec 8} {arg : BitVec 16} (hz : Fr l z s)
    (hl : [.regs, .cmds, .time, .log, .evt, .ports] ⊆ l) :
    ∃ t, execSpeedPin dt p rsv arg s = .next t ∧ Fr l z t := ⟨_, rfl, by
  with_reducible apply speedPin_fr
  with_reducible apply State.elapse_fr
  with_reducible assumption
  exact List.Subset.trans (by decide) hl
  exact List.Subset.trans (by decide) hl⟩

theorem execReseqTimeout_fr {s : State} {dt : Nat} {out : Fin 65} {ingress : Fin 65} {cls : Fin 8} (hz : Fr l z s)
    (hl : [.out, .regs, .time, .log, .evt, .ports, .rdg, .hst] ⊆ l) :
    ∃ t, execReseqTimeout dt out ingress cls s = .next t ∧ Fr l z t := ⟨_, rfl, by
  with_reducible apply reseqTimeout_fr
  with_reducible apply State.elapse_fr
  with_reducible assumption
  exact List.Subset.trans (by decide) hl
  exact List.Subset.trans (by decide) hl⟩

theorem execPlaneFault_fr {s : State} {dt : Nat} {k : Fin 2} {ecc : Bool} (hz : Fr l z s) (hl : [.out, .regs,
      .cmds, .once, .time, .glb, .log, .evt, .img, .bcn, .rdg, .cdv, .pln, .svi, .cnd, .hst, .kpr, .gal, .pub,
      .pair] ⊆ l) :
    ∃ t, execPlaneFault dt k ecc s = .next t ∧ Fr l z t := ⟨_, rfl, by
  with_reducible apply planeFault_fr
  with_reducible apply State.elapse_fr
  with_reducible assumption
  exact List.Subset.trans (by decide) hl
  exact hl⟩

theorem execNtEntryExpiry_fr {s : State} {dt : Nat} {mac : BitVec 48} {g : Fin 12} (hz : Fr l z s) (hl : [.time,
      .log, .rdg] ⊆ l) :
    ∃ t, execNtEntryExpiry dt mac g s = .next t ∧ Fr l z t := ⟨_, rfl, by
  with_reducible apply ntExpire_fr
  with_reducible apply State.elapse_fr
  with_reducible assumption
  exact List.Subset.trans (by decide) hl
  exact List.Subset.trans (by decide) hl⟩

theorem execSupervisionTx_fr {s : State} {dt : Nat} {g : Fin 12} (hz : Fr l z s) (hl : [.out, .regs, .once, .time,
      .log, .evt, .ports, .rdg, .prf] ⊆ l) :
    ∃ t, execSupervisionTx dt g s = .next t ∧ Fr l z t := ⟨_, rfl, by
  with_reducible apply supervisionTx_fr
  with_reducible apply State.elapse_fr
  with_reducible assumption
  exact List.Subset.trans (by decide) hl
  exact List.Subset.trans (by decide) hl⟩

theorem execNtFlush_fr {s : State} {dt : Nat} {rsv : BitVec 8} {arg : BitVec 16} (hz : Fr l z s) (hl : [.regs,
      .cmds, .time, .log, .evt, .rdg] ⊆ l) :
    ∃ t, execNtFlush dt rsv arg s = .next t ∧ Fr l z t := ⟨_, rfl, by
  with_reducible apply ntFlush_fr
  with_reducible apply State.elapse_fr
  with_reducible assumption
  exact List.Subset.trans (by decide) hl
  exact List.Subset.trans (by decide) hl⟩

theorem execPlaneSelect_fr {s : State} {dt : Nat} {rsv : BitVec 8} {arg : BitVec 16} (hz : Fr l z s) (hl : [.regs,
      .cmds, .time, .log, .evt, .rdg] ⊆ l) :
    ∃ t, execPlaneSelect dt rsv arg s = .next t ∧ Fr l z t := ⟨_, rfl, by
  with_reducible apply planeSelect_fr
  with_reducible apply State.elapse_fr
  with_reducible assumption
  exact List.Subset.trans (by decide) hl
  exact List.Subset.trans (by decide) hl⟩

theorem execHolddownEnd_fr {s : State} {dt : Nat} {rsv : BitVec 8} {arg : BitVec 16} (hz : Fr l z s) (hl : [.regs,
      .cmds, .time, .log, .evt, .bcn, .ports] ⊆ l) :
    ∃ t, execHolddownEnd dt rsv arg s = .next t ∧ Fr l z t := ⟨_, rfl, by
  with_reducible apply holddownEnd_fr
  with_reducible apply State.elapse_fr
  with_reducible assumption
  exact List.Subset.trans (by decide) hl
  exact List.Subset.trans (by decide) hl⟩

theorem execPtpSyncRx_fr {s : State} {dt : Nat} {d : Fin 2} {p : Fin 24} {complete : Bool} {offset : Int}
    {residual : Int} {demand : Int} {refRate : Int} (hz : Fr l z s) (hl : [.out, .regs, .cmds, .once, .time, .glb,
      .log, .evt, .img, .bcn, .ports, .cdv, .pln, .svi, .cnd, .hst, .kpr, .gal, .pub, .pair] ⊆ l) :
    ∃ t, execPtpSyncRx dt d p complete offset residual demand refRate s = .next t ∧ Fr l z t := ⟨_, rfl, by
  with_reducible apply State.bcnRun_fr
  with_reducible apply State.elapse_fr
  with_reducible assumption
  exact List.Subset.trans (by decide) hl
  intro x4_0 x4_1
  with_reducible apply ptpSyncMeasure_fr
  with_reducible assumption
  exact List.Subset.trans (by decide) hl
  exact List.Subset.trans (by decide) hl⟩

theorem execPtpAnnounceRx_fr {s : State} {dt : Nat} {d : Fin 2} {cls : BitVec 8} {utc : BitVec 16}
    {utcValid : Bool} {leap59 : Bool} {leap61 : Bool} (hz : Fr l z s) (hl : [.out, .regs, .cmds, .once, .time,
      .glb, .log, .evt, .img, .bcn, .cdv, .pln, .svi, .cnd, .hst, .kpr, .gal, .pub, .pair] ⊆ l) :
    ∃ t, execPtpAnnounceRx dt d cls utc utcValid leap59 leap61 s = .next t ∧ Fr l z t := ⟨_, rfl, by
  with_reducible apply State.bcnRun_fr
  with_reducible apply State.elapse_fr
  with_reducible assumption
  exact List.Subset.trans (by decide) hl
  intro x4_0 x4_1
  with_reducible apply ptpAnnounce_fr
  with_reducible assumption
  exact List.Subset.trans (by decide) hl
  exact hl⟩

theorem execPtpDelayMsgRx_fr {s : State} {dt : Nat} {d : Fin 2} {p : Fin 24} {kind : Fin 3} {delay : Int}
    (hz : Fr l z s) (hl : [.out, .regs, .cmds, .once, .time, .glb, .log, .evt, .img, .bcn, .ports, .cdv, .pln,
      .svi, .cnd, .hst, .kpr, .gal, .pub, .pair] ⊆ l) :
    ∃ t, execPtpDelayMsgRx dt d p kind delay s = .next t ∧ Fr l z t := ⟨_, rfl, by
  with_reducible apply State.bcnRun_fr
  with_reducible apply State.elapse_fr
  with_reducible assumption
  exact List.Subset.trans (by decide) hl
  intro x4_0 x4_1
  with_reducible apply ptpDelayMsg_fr
  with_reducible assumption
  exact List.Subset.trans (by decide) hl
  exact List.Subset.trans (by decide) hl⟩

theorem execPtpOtherMsgRx_fr {s : State} {dt : Nat} {p : Fin 24} {unsupported : Bool} (hz : Fr l z s) (hl : [.out,
      .regs, .cmds, .once, .time, .glb, .log, .evt, .img, .bcn, .cdv, .pln, .svi, .cnd, .hst, .kpr, .gal, .pub,
      .pair] ⊆ l) :
    ∃ t, execPtpOtherMsgRx dt p unsupported s = .next t ∧ Fr l z t := ⟨_, rfl, by
  with_reducible apply State.bcnRun_fr
  with_reducible apply State.elapse_fr
  with_reducible assumption
  exact List.Subset.trans (by decide) hl
  intro x4_0 x4_1
  with_reducible apply ptpOther_fr
  with_reducible assumption
  exact List.Subset.trans (by decide) hl
  exact hl⟩

theorem execAnnounceReceiptTimeout_fr {s : State} {dt : Nat} {d : Fin 2} (hz : Fr l z s) (hl : [.out, .regs,
      .cmds, .once, .time, .glb, .log, .evt, .img, .bcn, .cdv, .pln, .svi, .cnd, .hst, .kpr, .gal, .pub, .pair] ⊆ l) :
    ∃ t, execAnnounceReceiptTimeout dt d s = .next t ∧ Fr l z t := ⟨_, rfl, by
  with_reducible apply State.bcnRun_fr
  with_reducible apply State.elapse_fr
  with_reducible assumption
  exact List.Subset.trans (by decide) hl
  intro x4_0 x4_1
  with_reducible apply announceTimeout_fr
  with_reducible assumption
  exact List.Subset.trans (by decide) hl
  exact hl⟩

theorem execSyncMissed_fr {s : State} {dt : Nat} {d : Fin 2} (hz : Fr l z s) (hl : [.out, .regs, .cmds, .once,
      .time, .glb, .log, .evt, .img, .bcn, .cdv, .pln, .svi, .cnd, .hst, .kpr, .gal, .pub, .pair] ⊆ l) :
    ∃ t, execSyncMissed dt d s = .next t ∧ Fr l z t := ⟨_, rfl, by
  with_reducible apply State.bcnRun_fr
  with_reducible apply State.elapse_fr
  with_reducible assumption
  exact List.Subset.trans (by decide) hl
  intro x4_0 x4_1
  with_reducible apply syncMissed_fr
  with_reducible assumption
  exact List.Subset.trans (by decide) hl
  exact hl⟩

theorem execPtpSyncTx_fr {s : State} {dt : Nat} {d : Fin 2} {p : Fin 24} (hz : Fr l z s) (hl : [.out, .time, .log,
      .bcn] ⊆ l) :
    ∃ t, execPtpSyncTx dt d p s = .next t ∧ Fr l z t := ⟨_, rfl, by
  with_reducible apply ptpSyncTx_fr
  with_reducible apply State.elapse_fr
  with_reducible assumption
  exact List.Subset.trans (by decide) hl
  exact List.Subset.trans (by decide) hl⟩

theorem execPtpAnnounceTx_fr {s : State} {dt : Nat} {d : Fin 2} {p : Fin 24} (hz : Fr l z s) (hl : [.out, .time,
      .log, .bcn] ⊆ l) :
    ∃ t, execPtpAnnounceTx dt d p s = .next t ∧ Fr l z t := ⟨_, rfl, by
  with_reducible apply ptpAnnounceTx_fr
  with_reducible apply State.elapse_fr
  with_reducible assumption
  exact List.Subset.trans (by decide) hl
  exact List.Subset.trans (by decide) hl⟩

theorem execPtpPdelayReqTx_fr {s : State} {dt : Nat} {d : Fin 2} {p : Fin 24} (hz : Fr l z s) (hl : [.out, .time,
      .log, .bcn] ⊆ l) :
    ∃ t, execPtpPdelayReqTx dt d p s = .next t ∧ Fr l z t := ⟨_, rfl, by
  with_reducible apply ptpDelayReqTx_fr
  with_reducible apply State.elapse_fr
  with_reducible assumption
  exact List.Subset.trans (by decide) hl
  exact List.Subset.trans (by decide) hl⟩

theorem execTimeLost_fr {s : State} {dt : Nat} (hz : Fr l z s) (hl : [.out, .regs, .cmds, .once, .time, .glb,
      .log, .evt, .img, .bcn, .cdv, .pln, .svi, .cnd, .hst, .kpr, .gal, .pub, .pair] ⊆ l) :
    ∃ t, execTimeLost dt s = .next t ∧ Fr l z t := ⟨_, rfl, by
  with_reducible apply timeLost_fr
  with_reducible apply State.elapse_fr
  with_reducible assumption
  exact List.Subset.trans (by decide) hl
  exact hl⟩

theorem execRevertHoldExpiry_fr {s : State} {dt : Nat} {d : Fin 2} (hz : Fr l z s) (hl : [.out, .regs, .cmds,
      .once, .time, .glb, .log, .evt, .img, .bcn, .cdv, .pln, .svi, .cnd, .hst, .kpr, .gal, .pub, .pair] ⊆ l) :
    ∃ t, execRevertHoldExpiry dt d s = .next t ∧ Fr l z t := ⟨_, rfl, by
  with_reducible apply State.bcnRun_fr
  with_reducible apply State.elapse_fr
  with_reducible assumption
  exact List.Subset.trans (by decide) hl
  intro x4_0 x4_1
  with_reducible apply revertHold_fr
  with_reducible assumption
  exact List.Subset.trans (by decide) hl
  exact hl⟩

theorem execIrigFrameRx_fr {s : State} {dt : Nat} {offset : Int} {demand : Int} {refRate : Int}
    {quality : BitVec 8} (hz : Fr l z s) (hl : [.out, .regs, .cmds, .once, .time, .glb, .log, .evt, .img, .bcn,
      .cdv, .pln, .svi, .cnd, .hst, .kpr, .gal, .pub, .pair] ⊆ l) :
    ∃ t, execIrigFrameRx dt offset demand refRate quality s = .next t ∧ Fr l z t := ⟨_, rfl, by
  with_reducible apply State.bcnRun_fr
  with_reducible apply State.elapse_fr
  with_reducible assumption
  exact List.Subset.trans (by decide) hl
  intro x4_0 x4_1
  with_reducible apply irigFrame_fr
  with_reducible assumption
  exact List.Subset.trans (by decide) hl
  exact hl⟩

theorem execIrigError_fr {s : State} {dt : Nat} (hz : Fr l z s) (hl : [.out, .regs, .cmds, .once, .time, .glb,
      .log, .evt, .img, .bcn, .cdv, .pln, .svi, .cnd, .hst, .kpr, .gal, .pub, .pair] ⊆ l) :
    ∃ t, execIrigError dt s = .next t ∧ Fr l z t := ⟨_, rfl, by
  with_reducible apply State.bcnRun_fr
  with_reducible apply State.elapse_fr
  with_reducible assumption
  exact List.Subset.trans (by decide) hl
  intro x4_0 x4_1
  with_reducible apply irigError_fr
  with_reducible assumption
  exact List.Subset.trans (by decide) hl
  exact hl⟩

theorem execStep_fr {s : State} {dt : Nat} {rsv : BitVec 8} {arg : BitVec 16} (hz : Fr l z s) (hl : [.out, .regs,
      .cmds, .once, .time, .log, .evt, .img, .bcn, .pln, .svi, .cnd, .hst, .kpr, .gal, .pub] ⊆ l) :
    ∃ t, execStep dt rsv arg s = .next t ∧ Fr l z t := ⟨_, rfl, by
  with_reducible apply bcnStep_fr
  with_reducible apply State.elapse_fr
  with_reducible assumption
  exact List.Subset.trans (by decide) hl
  exact hl⟩

theorem execStepApply_fr {s : State} {dt : Nat} (hz : Fr l z s) (hl : [.out, .regs, .cmds, .once, .time, .log,
      .evt, .img, .bcn, .pln, .svi, .cnd, .hst, .kpr, .gal, .pub] ⊆ l) :
    ∃ t, execStepApply dt s = .next t ∧ Fr l z t := ⟨_, rfl, by
  with_reducible apply stepApply_fr
  with_reducible apply State.elapse_fr
  with_reducible assumption
  exact List.Subset.trans (by decide) hl
  exact hl⟩

theorem execSelectDomain_fr {s : State} {dt : Nat} {rsv : BitVec 8} {arg : BitVec 16} (hz : Fr l z s)
    (hl : [.regs, .cmds, .time, .log, .evt, .bcn] ⊆ l) :
    ∃ t, execSelectDomain dt rsv arg s = .next t ∧ Fr l z t := ⟨_, rfl, by
  with_reducible apply selectDomain_fr
  with_reducible apply State.elapse_fr
  with_reducible assumption
  exact List.Subset.trans (by decide) hl
  exact List.Subset.trans (by decide) hl⟩

theorem execAsymMeasure_fr {s : State} {dt : Nat} {rsv : BitVec 8} {arg : BitVec 16} (hz : Fr l z s) (hl : [.regs,
      .cmds, .time, .log, .evt, .bcn] ⊆ l) :
    ∃ t, execAsymMeasure dt rsv arg s = .next t ∧ Fr l z t := ⟨_, rfl, by
  with_reducible apply asymMeasure_fr
  with_reducible apply State.elapse_fr
  with_reducible assumption
  exact List.Subset.trans (by decide) hl
  exact List.Subset.trans (by decide) hl⟩

theorem execAsymDone_fr {s : State} {dt : Nat} {p : Fin 24} {mean : Int} (hz : Fr l z s) (hl : [.out, .regs,
      .cmds, .once, .time, .glb, .log, .evt, .img, .bcn, .cdv, .pln, .svi, .cnd, .hst, .kpr, .gal, .pub, .pair] ⊆ l) :
    ∃ t, execAsymDone dt p mean s = .next t ∧ Fr l z t := ⟨_, rfl, by
  with_reducible apply State.bcnRun_fr
  with_reducible apply State.elapse_fr
  with_reducible assumption
  exact List.Subset.trans (by decide) hl
  intro x4_0 x4_1
  with_reducible apply asymDone_fr
  with_reducible assumption
  exact List.Subset.trans (by decide) hl
  exact hl⟩

theorem execAsymApply_fr {s : State} {dt : Nat} {rsv : BitVec 8} {arg : BitVec 16} (hz : Fr l z s) (hl : [.regs,
      .cmds, .time, .log, .evt, .bcn] ⊆ l) :
    ∃ t, execAsymApply dt rsv arg s = .next t ∧ Fr l z t := ⟨_, rfl, by
  with_reducible apply asymApply_fr
  with_reducible apply State.elapse_fr
  with_reducible assumption
  exact List.Subset.trans (by decide) hl
  exact List.Subset.trans (by decide) hl⟩

theorem execAsymKeep_fr {s : State} {dt : Nat} {rsv : BitVec 8} {arg : BitVec 16} (hz : Fr l z s) (hl : [.regs,
      .cmds, .time, .log, .evt, .bcn] ⊆ l) :
    ∃ t, execAsymKeep dt rsv arg s = .next t ∧ Fr l z t := ⟨_, rfl, by
  with_reducible apply asymKeep_fr
  with_reducible apply State.elapse_fr
  with_reducible assumption
  exact List.Subset.trans (by decide) hl
  exact List.Subset.trans (by decide) hl⟩

theorem execSecondBoundary_fr {s : State} {dt : Nat} (hz : Fr l z s) (hl : [.once, .time, .log, .bin] ⊆ l) :
    ∃ t, execSecondBoundary dt s = .next t ∧ Fr l z t := ⟨_, rfl, by
  with_reducible apply secondBoundary_fr
  with_reducible apply State.elapse_fr
  with_reducible assumption
  exact List.Subset.trans (by decide) hl
  exact List.Subset.trans (by decide) hl⟩

theorem execPpsRise_fr {s : State} {dt : Nat} (hz : Fr l z s) (hl : [.out, .time, .log, .bcn] ⊆ l) :
    ∃ t, execPpsRise dt s = .next t ∧ Fr l z t := ⟨_, rfl, by
  with_reducible apply ppsRise_fr
  with_reducible apply State.elapse_fr
  with_reducible assumption
  exact List.Subset.trans (by decide) hl
  exact List.Subset.trans (by decide) hl⟩

theorem execPpsFall_fr {s : State} {dt : Nat} (hz : Fr l z s) (hl : [.out, .time, .log, .bcn] ⊆ l) :
    ∃ t, execPpsFall dt s = .next t ∧ Fr l z t := ⟨_, rfl, by
  with_reducible apply ppsFall_fr
  with_reducible apply State.elapse_fr
  with_reducible assumption
  exact List.Subset.trans (by decide) hl
  exact List.Subset.trans (by decide) hl⟩

theorem execTsCaptured_fr {s : State} {dt : Nat} {src : Fin 5} (hz : Fr l z s) (hl : [.regs, .time, .log, .evt,
      .bcn] ⊆ l) :
    ∃ t, execTsCaptured dt src s = .next t ∧ Fr l z t := ⟨_, rfl, by
  with_reducible apply tsCaptured_fr
  with_reducible apply State.elapse_fr
  with_reducible assumption
  exact List.Subset.trans (by decide) hl
  exact List.Subset.trans (by decide) hl⟩

theorem execSvFrameRx_fr {s : State} {dt : Nat} {f : SvFrame} (hz : Fr l z s) (hl : [.out, .regs, .once, .time,
      .log, .evt, .ports, .rdg, .prf, .pln, .svi, .cnd, .pair] ⊆ l) :
    ∃ t, execSvFrameRx dt f s = .next t ∧ Fr l z t := ⟨_, rfl, by
  with_reducible apply svFrameRx_fr
  with_reducible apply State.elapse_fr
  with_reducible assumption
  exact List.Subset.trans (by decide) hl
  exact List.Subset.trans (by decide) hl⟩

theorem execSampleDeadline_fr {s : State} {dt : Nat} {i : Fin 2048} (hz : Fr l z s) (hl : [.out, .regs, .once,
      .time, .log, .evt, .prf, .pln, .svi, .cnd, .pair] ⊆ l) :
    ∃ t, execSampleDeadline dt i s = .next t ∧ Fr l z t := ⟨_, rfl, by
  with_reducible apply sampleDeadline_fr
  with_reducible apply State.elapse_fr
  with_reducible assumption
  exact List.Subset.trans (by decide) hl
  exact List.Subset.trans (by decide) hl⟩

theorem execSubstForce_fr {s : State} {dt : Nat} {rsv : BitVec 8} {arg : BitVec 16} (hz : Fr l z s) (hl : [.regs,
      .cmds, .time, .log, .evt, .svi] ⊆ l) :
    ∃ t, execSubstForce dt rsv arg s = .next t ∧ Fr l z t := ⟨_, rfl, by
  with_reducible apply substForce_fr
  with_reducible apply State.elapse_fr
  with_reducible assumption
  exact List.Subset.trans (by decide) hl
  exact List.Subset.trans (by decide) hl⟩

theorem execSubstForceApply_fr {s : State} {dt : Nat} (hz : Fr l z s) (hl : [.out, .regs, .cmds, .once, .time,
      .log, .evt, .prf, .pln, .svi] ⊆ l) :
    ∃ t, execSubstForceApply dt s = .next t ∧ Fr l z t := ⟨_, rfl, by
  with_reducible apply substForceApply_fr
  with_reducible apply State.elapse_fr
  with_reducible assumption
  exact List.Subset.trans (by decide) hl
  exact List.Subset.trans (by decide) hl⟩

theorem execSubstRelease_fr {s : State} {dt : Nat} {rsv : BitVec 8} {arg : BitVec 16} (hz : Fr l z s)
    (hl : [.regs, .cmds, .time, .log, .evt, .svi] ⊆ l) :
    ∃ t, execSubstRelease dt rsv arg s = .next t ∧ Fr l z t := ⟨_, rfl, by
  with_reducible apply substRelease_fr
  with_reducible apply State.elapse_fr
  with_reducible assumption
  exact List.Subset.trans (by decide) hl
  exact List.Subset.trans (by decide) hl⟩

theorem execSubstReleaseApply_fr {s : State} {dt : Nat} (hz : Fr l z s) (hl : [.regs, .cmds, .time, .log, .evt,
      .pln, .svi] ⊆ l) :
    ∃ t, execSubstReleaseApply dt s = .next t ∧ Fr l z t := ⟨_, rfl, by
  with_reducible apply substReleaseApply_fr
  with_reducible apply State.elapse_fr
  with_reducible assumption
  exact List.Subset.trans (by decide) hl
  exact List.Subset.trans (by decide) hl⟩

theorem execGridSampleCompute_fr {s : State} {dt : Nat} {k : Fin 16384} (hz : Fr l z s) (hl : [.out, .regs, .once,
      .time, .log, .evt, .prf, .pln, .svi, .cnd] ⊆ l) :
    ∃ t, execGridSampleCompute dt k s = .next t ∧ Fr l z t := ⟨_, rfl, by
  with_reducible apply gridSampleCompute_fr
  with_reducible apply State.elapse_fr
  with_reducible assumption
  exact List.Subset.trans (by decide) hl
  exact List.Subset.trans (by decide) hl⟩

theorem execFreqEstimate_fr {s : State} {dt : Nat} {g : Fin 64} (hz : Fr l z s) (hl : [.regs, .time, .log, .evt,
      .cnd] ⊆ l) :
    ∃ t, execFreqEstimate dt g s = .next t ∧ Fr l z t := ⟨_, rfl, by
  with_reducible apply freqEstimate_fr
  with_reducible apply State.elapse_fr
  with_reducible assumption
  exact List.Subset.trans (by decide) hl
  exact List.Subset.trans (by decide) hl⟩

theorem execChainSync_fr {s : State} {dt : Nat} {rsv : BitVec 8} {arg : BitVec 16} (hz : Fr l z s) (hl : [.out,
      .regs, .cmds, .time, .log, .evt, .pln, .cnd, .kpr] ⊆ l) :
    ∃ t, execChainSync dt rsv arg s = .next t ∧ Fr l z t := ⟨_, rfl, by
  with_reducible apply chainSyncCmd_fr
  with_reducible apply State.elapse_fr
  with_reducible assumption
  exact List.Subset.trans (by decide) hl
  exact List.Subset.trans (by decide) hl⟩

theorem execSyncDone_fr {s : State} {dt : Nat} (hz : Fr l z s) (hl : [.out, .regs, .cmds, .time, .log, .evt, .pln,
      .cnd, .kpr] ⊆ l) :
    ∃ t, execSyncDone dt s = .next t ∧ Fr l z t := ⟨_, rfl, by
  with_reducible apply syncDone_fr
  with_reducible apply State.elapse_fr
  with_reducible assumption
  exact List.Subset.trans (by decide) hl
  exact List.Subset.trans (by decide) hl⟩

theorem execSyncLineRise_fr {s : State} {dt : Nat} (hz : Fr l z s) (hl : [.regs, .time, .log, .evt, .cnd] ⊆ l) :
    ∃ t, execSyncLineRise dt s = .next t ∧ Fr l z t := ⟨_, rfl, by
  with_reducible apply syncLineRise_fr
  with_reducible apply State.elapse_fr
  with_reducible assumption
  exact List.Subset.trans (by decide) hl
  exact List.Subset.trans (by decide) hl⟩

theorem execSyncLineFall_fr {s : State} {dt : Nat} (hz : Fr l z s) (hl : [.out, .regs, .cmds, .time, .log, .evt,
      .pln, .cnd, .kpr] ⊆ l) :
    ∃ t, execSyncLineFall dt s = .next t ∧ Fr l z t := ⟨_, rfl, by
  with_reducible apply syncLineFall_fr
  with_reducible apply State.elapse_fr
  with_reducible assumption
  exact List.Subset.trans (by decide) hl
  exact List.Subset.trans (by decide) hl⟩

theorem execChainFault_fr {s : State} {dt : Nat} {ecc : Bool} (hz : Fr l z s) (hl : [.out, .regs, .cmds, .once,
      .time, .glb, .log, .evt, .img, .bcn, .cdv, .pln, .svi, .cnd, .hst, .kpr, .gal, .pub, .pair] ⊆ l) :
    ∃ t, execChainFault dt ecc s = .next t ∧ Fr l z t := ⟨_, rfl, by
  with_reducible apply chainFault_fr
  with_reducible apply State.elapse_fr
  with_reducible assumption
  exact List.Subset.trans (by decide) hl
  exact hl⟩

theorem execEccUncorr_fr {s : State} {dt : Nat} {a : Fin 67108864} (hz : Fr l z s) (hl : [.out, .regs, .cmds,
      .once, .time, .glb, .log, .evt, .img, .bcn, .cdv, .pln, .svi, .cnd, .hst, .kpr, .gal, .pub, .pair] ⊆ l) :
    ∃ t, execEccUncorr dt a s = .next t ∧ Fr l z t := ⟨_, rfl, by
  with_reducible apply eccUncorr_fr
  with_reducible apply State.elapse_fr
  with_reducible assumption
  exact List.Subset.trans (by decide) hl
  exact hl⟩

theorem execScrub_fr {s : State} {dt : Nat} {rsv : BitVec 8} {arg : BitVec 16} (hz : Fr l z s) (hl : [.regs,
      .cmds, .time, .log, .evt, .pln] ⊆ l) :
    ∃ t, execScrub dt rsv arg s = .next t ∧ Fr l z t := ⟨_, rfl, by
  with_reducible apply scrub_fr
  with_reducible apply State.elapse_fr
  with_reducible assumption
  exact List.Subset.trans (by decide) hl
  exact List.Subset.trans (by decide) hl⟩

theorem execScrubDone_fr {s : State} {dt : Nat} (hz : Fr l z s) (hl : [.regs, .cmds, .time, .log, .evt, .pln] ⊆ l) :
    ∃ t, execScrubDone dt s = .next t ∧ Fr l z t := ⟨_, rfl, by
  with_reducible apply scrubDone_fr
  with_reducible apply State.elapse_fr
  with_reducible assumption
  exact List.Subset.trans (by decide) hl
  exact List.Subset.trans (by decide) hl⟩

theorem execPubRepeatDue_fr {s : State} {dt : Nat} {p : Fin 1024} (hz : Fr l z s) (hl : [.out, .regs, .once,
      .time, .log, .evt, .ports, .rdg, .prf, .pub] ⊆ l) :
    ∃ t, execPubRepeatDue dt p s = .next t ∧ Fr l z t := ⟨_, rfl, by
  with_reducible apply pubRepeatDue_fr
  with_reducible apply State.elapse_fr
  with_reducible assumption
  exact List.Subset.trans (by decide) hl
  exact List.Subset.trans (by decide) hl⟩

theorem execLanternTimer_fr {s : State} {dt : Nat} (hz : Fr l z s) (hl : [.out, .regs, .once, .time, .log, .evt,
      .ports, .rdg, .prf, .pub] ⊆ l) :
    ∃ t, execLanternTimer dt s = .next t ∧ Fr l z t := ⟨_, rfl, by
  with_reducible apply lanternTimer_fr
  with_reducible apply State.elapse_fr
  with_reducible assumption
  exact List.Subset.trans (by decide) hl
  exact List.Subset.trans (by decide) hl⟩

theorem execPeerLanternRx_fr {s : State} {dt : Nat} {m : LanternMsg} (hz : Fr l z s) (hl : [.regs, .once, .time,
      .log, .evt, .pair] ⊆ l) :
    ∃ t, execPeerLanternRx dt m s = .next t ∧ Fr l z t := ⟨_, rfl, by
  with_reducible apply peerLanternRx_fr
  with_reducible apply State.elapse_fr
  with_reducible assumption
  exact List.Subset.trans (by decide) hl
  exact List.Subset.trans (by decide) hl⟩

theorem execPeerLanternLost_fr {s : State} {dt : Nat} (hz : Fr l z s) (hl : [.regs, .time, .log, .evt, .pair] ⊆ l) :
    ∃ t, execPeerLanternLost dt s = .next t ∧ Fr l z t := ⟨_, rfl, by
  with_reducible apply peerLanternLost_fr
  with_reducible apply State.elapse_fr
  with_reducible assumption
  exact List.Subset.trans (by decide) hl
  exact List.Subset.trans (by decide) hl⟩

theorem execGooseRx_fr {s : State} {dt : Nat} {m : GooseMsg} (hz : Fr l z s) (hl : [.out, .regs, .once, .time,
      .log, .evt, .ports, .rdg, .prf, .pln, .pub] ⊆ l) :
    ∃ t, execGooseRx dt m s = .next t ∧ Fr l z t := ⟨_, rfl, by
  with_reducible apply gooseRx_fr
  with_reducible apply State.elapse_fr
  with_reducible assumption
  exact List.Subset.trans (by decide) hl
  exact List.Subset.trans (by decide) hl⟩

theorem execSubTimeout_fr {s : State} {dt : Nat} {i : Fin 4096} (hz : Fr l z s) (hl : [.regs, .time, .log, .evt,
      .pln, .pub] ⊆ l) :
    ∃ t, execSubTimeout dt i s = .next t ∧ Fr l z t := ⟨_, rfl, by
  with_reducible apply subTimeout_fr
  with_reducible apply State.elapse_fr
  with_reducible assumption
  exact List.Subset.trans (by decide) hl
  exact List.Subset.trans (by decide) hl⟩

theorem execSubRestart_fr {s : State} {dt : Nat} {rsv : BitVec 8} {arg : BitVec 16} (hz : Fr l z s) (hl : [.regs,
      .cmds, .time, .log, .evt, .pub] ⊆ l) :
    ∃ t, execSubRestart dt rsv arg s = .next t ∧ Fr l z t := ⟨_, rfl, by
  with_reducible apply subRestartCmd_fr
  with_reducible apply State.elapse_fr
  with_reducible assumption
  exact List.Subset.trans (by decide) hl
  exact List.Subset.trans (by decide) hl⟩

theorem execSubRestartApply_fr {s : State} {dt : Nat} (hz : Fr l z s) (hl : [.regs, .cmds, .time, .log, .evt,
      .pln, .pub] ⊆ l) :
    ∃ t, execSubRestartApply dt s = .next t ∧ Fr l z t := ⟨_, rfl, by
  with_reducible apply subRestartApply_fr
  with_reducible apply State.elapse_fr
  with_reducible assumption
  exact List.Subset.trans (by decide) hl
  exact List.Subset.trans (by decide) hl⟩

theorem execFogTx_fr {s : State} {dt : Nat} (hz : Fr l z s) (hl : [.out, .time, .log, .pair] ⊆ l) :
    ∃ t, execFogTx dt s = .next t ∧ Fr l z t := ⟨_, rfl, by
  with_reducible apply fogTx_fr
  with_reducible apply State.elapse_fr
  with_reducible assumption
  exact List.Subset.trans (by decide) hl
  exact List.Subset.trans (by decide) hl⟩

theorem execFogRx_fr {s : State} {dt : Nat} {p : Fin 2} {m : List Byte} (hz : Fr l z s) (hl : [.regs, .cmds,
      .time, .log, .evt, .cnd, .pair] ⊆ l) :
    ∃ t, execFogRx dt p m s = .next t ∧ Fr l z t := ⟨_, rfl, by
  with_reducible apply fogRx_fr
  with_reducible apply State.elapse_fr
  with_reducible assumption
  exact List.Subset.trans (by decide) hl
  exact List.Subset.trans (by decide) hl⟩

theorem execFogSlotMiss_fr {s : State} {dt : Nat} {p : Fin 2} (hz : Fr l z s) (hl : [.regs, .cmds, .time, .log,
      .evt, .pair] ⊆ l) :
    ∃ t, execFogSlotMiss dt p s = .next t ∧ Fr l z t := ⟨_, rfl, by
  with_reducible apply fogSlotMiss_fr
  with_reducible apply State.elapse_fr
  with_reducible assumption
  exact List.Subset.trans (by decide) hl
  exact List.Subset.trans (by decide) hl⟩

theorem execBregLaneChange_fr {s : State} {dt : Nat} {p : Fin 2} {lane : Fin 2} {trained : Bool} (hz : Fr l z s)
    (hl : [.regs, .cmds, .time, .log, .evt, .pair] ⊆ l) :
    ∃ t, execBregLaneChange dt p lane trained s = .next t ∧ Fr l z t := ⟨_, rfl, by
  with_reducible apply bregLaneChange_fr
  with_reducible apply State.elapse_fr
  with_reducible assumption
  exact List.Subset.trans (by decide) hl
  exact List.Subset.trans (by decide) hl⟩

theorem execPartnerAbsentTimeout_fr {s : State} {dt : Nat} (hz : Fr l z s) (hl : [.regs, .time, .log, .evt,
      .pair] ⊆ l) :
    ∃ t, execPartnerAbsentTimeout dt s = .next t ∧ Fr l z t := ⟨_, rfl, by
  with_reducible apply partnerAbsentTimeout_fr
  with_reducible apply State.elapse_fr
  with_reducible assumption
  exact List.Subset.trans (by decide) hl
  exact List.Subset.trans (by decide) hl⟩

theorem execYieldRx_fr {s : State} {dt : Nat} {m : List Byte} (hz : Fr l z s) (hl : [.regs, .time, .log, .evt,
      .pair] ⊆ l) :
    ∃ t, execYieldRx dt m s = .next t ∧ Fr l z t := ⟨_, rfl, by
  with_reducible apply yieldRx_fr
  with_reducible apply State.elapse_fr
  with_reducible assumption
  exact List.Subset.trans (by decide) hl
  exact List.Subset.trans (by decide) hl⟩

theorem execTakeover_fr {s : State} {dt : Nat} (hz : Fr l z s) (hl : [.out, .regs, .cmds, .once, .time, .glb,
      .log, .evt, .img, .bcn, .ports, .rdg, .cdv, .prf, .pln, .svi, .cnd, .hst, .kpr, .gal, .pub, .pair] ⊆ l) :
    ∃ t, execTakeover dt s = .next t ∧ Fr l z t := ⟨_, rfl, by
  with_reducible apply takeover_fr
  with_reducible apply State.elapse_fr
  with_reducible assumption
  exact List.Subset.trans (by decide) hl
  exact hl⟩

theorem execDigestRx_fr {s : State} {dt : Nat} {m : List Byte} (hz : Fr l z s) (hl : [.out, .regs, .cmds, .once,
      .time, .glb, .log, .evt, .img, .bcn, .cdv, .pln, .svi, .cnd, .hst, .kpr, .gal, .pub, .pair] ⊆ l) :
    ∃ t, execDigestRx dt m s = .next t ∧ Fr l z t := ⟨_, rfl, by
  with_reducible apply digestRxRow_fr
  with_reducible apply State.elapse_fr
  with_reducible assumption
  exact List.Subset.trans (by decide) hl
  exact hl⟩

theorem execPubMirrorRx_fr {s : State} {dt : Nat} {m : List Byte} (hz : Fr l z s) (hl : [.regs, .time, .log,
      .pub] ⊆ l) :
    ∃ t, execPubMirrorRx dt m s = .next t ∧ Fr l z t := ⟨_, rfl, by
  with_reducible apply pubMirrorRx_fr
  with_reducible apply State.elapse_fr
  with_reducible assumption
  exact List.Subset.trans (by decide) hl
  exact List.Subset.trans (by decide) hl⟩

theorem execCtrlReqRx_fr {s : State} {dt : Nat} {m : List Byte} (hz : Fr l z s) (hl : [.out, .regs, .cmds, .time,
      .glb, .log, .evt, .pair] ⊆ l) :
    ∃ t, execCtrlReqRx dt m s = .next t ∧ Fr l z t := ⟨_, rfl, by
  with_reducible apply ctrlReqRx_fr
  with_reducible apply State.elapse_fr
  with_reducible assumption
  exact List.Subset.trans (by decide) hl
  exact List.Subset.trans (by decide) hl⟩

theorem execCtrlGrantRx_fr {s : State} {dt : Nat} {m : List Byte} (hz : Fr l z s) (hl : [.out, .regs, .time, .log,
      .pair] ⊆ l) :
    ∃ t, execCtrlGrantRx dt m s = .next t ∧ Fr l z t := ⟨_, rfl, by
  with_reducible apply ctrlGrantRx_fr
  with_reducible apply State.elapse_fr
  with_reducible assumption
  exact List.Subset.trans (by decide) hl
  exact List.Subset.trans (by decide) hl⟩

theorem execCtrlConfirmRx_fr {s : State} {dt : Nat} {m : List Byte} (hz : Fr l z s) (hl : [.regs, .time, .log,
      .pair] ⊆ l) :
    ∃ t, execCtrlConfirmRx dt m s = .next t ∧ Fr l z t := ⟨_, rfl, by
  with_reducible apply ctrlConfirmRx_fr
  with_reducible apply State.elapse_fr
  with_reducible assumption
  exact List.Subset.trans (by decide) hl
  exact List.Subset.trans (by decide) hl⟩

theorem execCtrlAbortRx_fr {s : State} {dt : Nat} {m : List Byte} (hz : Fr l z s) (hl : [.out, .regs, .cmds,
      .once, .time, .glb, .log, .evt, .img, .bcn, .cdv, .pln, .svi, .cnd, .hst, .kpr, .gal, .pub, .pair] ⊆ l) :
    ∃ t, execCtrlAbortRx dt m s = .next t ∧ Fr l z t := ⟨_, rfl, by
  with_reducible apply ctrlAbortRx_fr
  with_reducible apply State.elapse_fr
  with_reducible assumption
  exact List.Subset.trans (by decide) hl
  exact hl⟩

theorem execCtrlDeadline_fr {s : State} {dt : Nat} (hz : Fr l z s) (hl : [.out, .regs, .cmds, .once, .time, .glb,
      .log, .evt, .img, .bcn, .cdv, .pln, .svi, .cnd, .hst, .kpr, .gal, .pub, .pair] ⊆ l) :
    ∃ t, execCtrlDeadline dt s = .next t ∧ Fr l z t := ⟨_, rfl, by
  with_reducible apply State.exDeadline_fr
  with_reducible apply State.elapse_fr
  with_reducible assumption
  exact List.Subset.trans (by decide) hl
  exact hl⟩

theorem execHandbackHoldExpiry_fr {s : State} {dt : Nat} (hz : Fr l z s) (hl : [.out, .time, .log, .pair] ⊆ l) :
    ∃ t, execHandbackHoldExpiry dt s = .next t ∧ Fr l z t := ⟨_, rfl, by
  with_reducible apply handbackHoldExpiry_fr
  with_reducible apply State.elapse_fr
  with_reducible assumption
  exact List.Subset.trans (by decide) hl
  exact List.Subset.trans (by decide) hl⟩

theorem execPairStartInitiate_fr {s : State} {dt : Nat} (hz : Fr l z s) (hl : [.out, .time, .log, .pair] ⊆ l) :
    ∃ t, execPairStartInitiate dt s = .next t ∧ Fr l z t := ⟨_, rfl, by
  with_reducible apply State.exRequest_fr
  with_reducible apply State.elapse_fr
  with_reducible assumption
  exact List.Subset.trans (by decide) hl
  exact List.Subset.trans (by decide) hl⟩

theorem execSoloWaitExpiry_fr {s : State} {dt : Nat} (hz : Fr l z s) (hl : [.out, .regs, .cmds, .once, .time,
      .glb, .log, .evt, .img, .bcn, .cdv, .pln, .svi, .cnd, .hst, .kpr, .gal, .pub, .pair] ⊆ l) :
    ∃ t, execSoloWaitExpiry dt s = .next t ∧ Fr l z t := ⟨_, rfl, by
  with_reducible apply soloWaitExpiry_fr
  with_reducible apply State.elapse_fr
  with_reducible assumption
  exact List.Subset.trans (by decide) hl
  exact hl⟩

theorem execAlignInitiate_fr {s : State} {dt : Nat} (hz : Fr l z s) (hl : [.out, .time, .log, .pair] ⊆ l) :
    ∃ t, execAlignInitiate dt s = .next t ∧ Fr l z t := ⟨_, rfl, by
  with_reducible apply alignInitiate_fr
  with_reducible apply State.elapse_fr
  with_reducible assumption
  exact List.Subset.trans (by decide) hl
  exact List.Subset.trans (by decide) hl⟩

theorem execAlignReqRx_fr {s : State} {dt : Nat} {m : List Byte} {lead : Nat} {span : Fin 4801} (hz : Fr l z s)
    (hl : [.out, .regs, .time, .log, .pair] ⊆ l) :
    ∃ t, execAlignReqRx dt m lead span s = .next t ∧ Fr l z t := ⟨_, rfl, by
  with_reducible apply alignReqRx_fr
  with_reducible apply State.elapse_fr
  with_reducible assumption
  exact List.Subset.trans (by decide) hl
  exact List.Subset.trans (by decide) hl⟩

theorem execAlignPlanRx_fr {s : State} {dt : Nat} {m : List Byte} {s0 : Nat} (hz : Fr l z s) (hl : [.regs, .time,
      .log, .pair] ⊆ l) :
    ∃ t, execAlignPlanRx dt m s0 s = .next t ∧ Fr l z t := ⟨_, rfl, by
  with_reducible apply alignPlanRx_fr
  with_reducible apply State.elapse_fr
  with_reducible assumption
  exact List.Subset.trans (by decide) hl
  exact List.Subset.trans (by decide) hl⟩

theorem execAlignDataRx_fr {s : State} {dt : Nat} {m : List Byte} {item : Machine.AlignItem} (hz : Fr l z s)
    (hl : [.regs, .time, .log, .pln, .svi, .cnd, .kpr, .pair] ⊆ l) :
    ∃ t, execAlignDataRx dt m item s = .next t ∧ Fr l z t := ⟨_, rfl, by
  with_reducible apply alignDataRx_fr
  with_reducible apply State.elapse_fr
  with_reducible assumption
  exact List.Subset.trans (by decide) hl
  exact List.Subset.trans (by decide) hl⟩

theorem execAlignFrameReached_fr {s : State} {dt : Nat} (hz : Fr l z s) (hl : [.regs, .cmds, .time, .log, .evt,
      .cnd, .pair] ⊆ l) :
    ∃ t, execAlignFrameReached dt s = .next t ∧ Fr l z t := ⟨_, rfl, by
  with_reducible apply State.pairTrack_fr
  with_reducible apply State.alignEnd_fr
  with_reducible apply State.elapse_fr
  with_reducible assumption
  exact List.Subset.trans (by decide) hl
  exact List.Subset.trans (by decide) hl
  exact List.Subset.trans (by decide) hl⟩

theorem execBulkRx_fr {s : State} {dt : Nat} {m : List Byte} {f : Frame} (hz : Fr l z s) (hl : [.out, .regs,
      .once, .time, .log, .evt, .ports, .rdg, .prf] ⊆ l) :
    ∃ t, execBulkRx dt m f s = .next t ∧ Fr l z t := ⟨_, rfl, by
  with_reducible apply State.bregRx_fr
  with_reducible apply State.elapse_fr
  with_reducible assumption
  exact List.Subset.trans (by decide) hl
  intro x4_0 x4_1 x4_2 x4_3
  with_reducible apply State.ridgeSend_fr
  with_reducible assumption
  exact List.Subset.trans (by decide) hl
  exact List.Subset.trans (by decide) hl⟩

theorem execAlign_fr {s : State} {dt : Nat} {rsv : BitVec 8} {arg : BitVec 16} (hz : Fr l z s) (hl : [.out, .regs,
      .cmds, .time, .log, .evt, .pair] ⊆ l) :
    ∃ t, execAlign dt rsv arg s = .next t ∧ Fr l z t := ⟨_, rfl, by
  with_reducible apply pairAlign_fr
  with_reducible apply State.elapse_fr
  with_reducible assumption
  exact List.Subset.trans (by decide) hl
  exact List.Subset.trans (by decide) hl⟩

theorem execHandbackNow_fr {s : State} {dt : Nat} {rsv : BitVec 8} {arg : BitVec 16} (hz : Fr l z s) (hl : [.out,
      .regs, .cmds, .time, .log, .evt, .pair] ⊆ l) :
    ∃ t, execHandbackNow dt rsv arg s = .next t ∧ Fr l z t := ⟨_, rfl, by
  with_reducible apply handbackNow_fr
  with_reducible apply State.elapse_fr
  with_reducible assumption
  exact List.Subset.trans (by decide) hl
  exact List.Subset.trans (by decide) hl⟩

theorem execHbInhibit_fr {s : State} {dt : Nat} {rsv : BitVec 8} {arg : BitVec 16} (hz : Fr l z s) (hl : [.regs,
      .cmds, .time, .log, .evt, .pair] ⊆ l) :
    ∃ t, execHbInhibit dt rsv arg s = .next t ∧ Fr l z t := ⟨_, rfl, by
  with_reducible apply hbInhibit_fr
  with_reducible apply State.elapse_fr
  with_reducible assumption
  exact List.Subset.trans (by decide) hl
  exact List.Subset.trans (by decide) hl⟩

theorem execDivergeClear_fr {s : State} {dt : Nat} {rsv : BitVec 8} {arg : BitVec 16} (hz : Fr l z s)
    (hl : [.regs, .cmds, .time, .log, .evt, .pair] ⊆ l) :
    ∃ t, execDivergeClear dt rsv arg s = .next t ∧ Fr l z t := ⟨_, rfl, by
  with_reducible apply divergeClear_fr
  with_reducible apply State.elapse_fr
  with_reducible assumption
  exact List.Subset.trans (by decide) hl
  exact List.Subset.trans (by decide) hl⟩

theorem execGenerate_fr {s : State} {dt : Nat} {rsv : BitVec 8} {arg : BitVec 16} (hz : Fr l z s) (hl : [.regs,
      .cmds, .time, .log, .evt, .lmp] ⊆ l) :
    ∃ t, execGenerate dt rsv arg s = .next t ∧ Fr l z t := ⟨_, rfl, by
  with_reducible apply lmpGenerate_fr
  with_reducible apply State.elapse_fr
  with_reducible assumption
  exact List.Subset.trans (by decide) hl
  exact List.Subset.trans (by decide) hl⟩

theorem execImport_fr {s : State} {dt : Nat} {rsv : BitVec 8} {arg : BitVec 16} {buf : List Byte} (hz : Fr l z s)
    (hl : [.regs, .cmds, .time, .log, .evt, .lmp] ⊆ l) :
    ∃ t, execImport dt rsv arg buf s = .next t ∧ Fr l z t := ⟨_, rfl, by
  with_reducible apply lmpImport_fr
  with_reducible apply State.elapse_fr
  with_reducible assumption
  exact List.Subset.trans (by decide) hl
  exact List.Subset.trans (by decide) hl⟩

theorem execLmpUpdate_fr {s : State} {dt : Nat} {rsv : BitVec 8} {arg : BitVec 16} {buf : List Byte}
    (hz : Fr l z s) (hl : [.regs, .cmds, .time, .log, .evt, .lmp] ⊆ l) :
    ∃ t, execLmpUpdate dt rsv arg buf s = .next t ∧ Fr l z t := ⟨_, rfl, by
  with_reducible apply lmpUpdate_fr
  with_reducible apply State.elapse_fr
  with_reducible assumption
  exact List.Subset.trans (by decide) hl
  exact List.Subset.trans (by decide) hl⟩

theorem execLmpClear_fr {s : State} {dt : Nat} {rsv : BitVec 8} {arg : BitVec 16} (hz : Fr l z s) (hl : [.regs,
      .cmds, .time, .log, .evt, .lmp] ⊆ l) :
    ∃ t, execLmpClear dt rsv arg s = .next t ∧ Fr l z t := ⟨_, rfl, by
  with_reducible apply lmpClear_fr
  with_reducible apply State.elapse_fr
  with_reducible assumption
  exact List.Subset.trans (by decide) hl
  exact List.Subset.trans (by decide) hl⟩

theorem execKeyReplaceDone_fr {s : State} {dt : Nat} {readback : Bool} {journal : Bool} (hz : Fr l z s)
    (hl : [.regs, .cmds, .time, .log, .evt, .lmp] ⊆ l) :
    ∃ t, execKeyReplaceDone dt readback journal s = .next t ∧ Fr l z t := ⟨_, rfl, by
  with_reducible apply keyReplaceDone_fr
  with_reducible apply State.elapse_fr
  with_reducible assumption
  exact List.Subset.trans (by decide) hl
  exact List.Subset.trans (by decide) hl⟩

theorem execAttest_fr {s : State} {dt : Nat} {rsv : BitVec 8} {arg : BitVec 16} {buf : List Byte} (hz : Fr l z s)
    (hl : [.regs, .cmds, .time, .log, .evt, .lmp] ⊆ l) :
    ∃ t, execAttest dt rsv arg buf s = .next t ∧ Fr l z t := ⟨_, rfl, by
  with_reducible apply lmpAttest_fr
  with_reducible apply State.elapse_fr
  with_reducible assumption
  exact List.Subset.trans (by decide) hl
  exact List.Subset.trans (by decide) hl⟩

theorem execReadPublic_fr {s : State} {dt : Nat} {rsv : BitVec 8} {arg : BitVec 16} (hz : Fr l z s) (hl : [.regs,
      .cmds, .time, .log, .evt, .lmp] ⊆ l) :
    ∃ t, execReadPublic dt rsv arg s = .next t ∧ Fr l z t := ⟨_, rfl, by
  with_reducible apply lmpReadPublic_fr
  with_reducible apply State.elapse_fr
  with_reducible assumption
  exact List.Subset.trans (by decide) hl
  exact List.Subset.trans (by decide) hl⟩

theorem execReadCert_fr {s : State} {dt : Nat} {rsv : BitVec 8} {arg : BitVec 16} (hz : Fr l z s) (hl : [.regs,
      .cmds, .time, .log, .evt, .lmp] ⊆ l) :
    ∃ t, execReadCert dt rsv arg s = .next t ∧ Fr l z t := ⟨_, rfl, by
  with_reducible apply lmpReadCert_fr
  with_reducible apply State.elapse_fr
  with_reducible assumption
  exact List.Subset.trans (by decide) hl
  exact List.Subset.trans (by decide) hl⟩

theorem execStoreCert_fr {s : State} {dt : Nat} {rsv : BitVec 8} {arg : BitVec 16} {buf : List Byte}
    (hz : Fr l z s) (hl : [.regs, .cmds, .time, .log, .evt, .lmp] ⊆ l) :
    ∃ t, execStoreCert dt rsv arg buf s = .next t ∧ Fr l z t := ⟨_, rfl, by
  with_reducible apply lmpStoreCert_fr
  with_reducible apply State.elapse_fr
  with_reducible assumption
  exact List.Subset.trans (by decide) hl
  exact List.Subset.trans (by decide) hl⟩

theorem execOperate_fr {s : State} {dt : Nat} {rsv : BitVec 8} {arg : BitVec 16} {buf : List Byte} (hz : Fr l z s)
    (hl : [.regs, .cmds, .time, .log, .evt, .lmp] ⊆ l) :
    ∃ t, execOperate dt rsv arg buf s = .next t ∧ Fr l z t := ⟨_, rfl, by
  with_reducible apply lmpOperate_fr
  with_reducible apply State.elapse_fr
  with_reducible assumption
  exact List.Subset.trans (by decide) hl
  exact List.Subset.trans (by decide) hl⟩

theorem execLmpOperationDone_fr {s : State} {dt : Nat} (hz : Fr l z s) (hl : [.out, .regs, .cmds, .time, .log,
      .evt, .lmp] ⊆ l) :
    ∃ t, execLmpOperationDone dt s = .next t ∧ Fr l z t := ⟨_, rfl, by
  with_reducible apply lmpOperationDone_fr
  with_reducible apply State.elapse_fr
  with_reducible assumption
  exact List.Subset.trans (by decide) hl
  exact List.Subset.trans (by decide) hl⟩

theorem execProvision_fr {s : State} {dt : Nat} {rsv : BitVec 8} {arg : BitVec 16} {buf : List Byte}
    (hz : Fr l z s) (hl : [.regs, .cmds, .time, .log, .evt, .lmp] ⊆ l) :
    ∃ t, execProvision dt rsv arg buf s = .next t ∧ Fr l z t := ⟨_, rfl, by
  with_reducible apply lmpProvision_fr
  with_reducible apply State.elapse_fr
  with_reducible assumption
  exact List.Subset.trans (by decide) hl
  exact List.Subset.trans (by decide) hl⟩

theorem execDeploy_fr {s : State} {dt : Nat} {rsv : BitVec 8} {arg : BitVec 16} (hz : Fr l z s) (hl : [.regs,
      .cmds, .time, .log, .evt, .lmp] ⊆ l) :
    ∃ t, execDeploy dt rsv arg s = .next t ∧ Fr l z t := ⟨_, rfl, by
  with_reducible apply lmpDeploy_fr
  with_reducible apply State.elapse_fr
  with_reducible assumption
  exact List.Subset.trans (by decide) hl
  exact List.Subset.trans (by decide) hl⟩

theorem execSlotIntegrityPass_fr {s : State} {dt : Nat} {fails : List (Fin 1024)} (hz : Fr l z s) (hl : [.regs,
      .time, .log, .evt, .lmp] ⊆ l) :
    ∃ t, execSlotIntegrityPass dt fails s = .next t ∧ Fr l z t := ⟨_, rfl, by
  with_reducible apply integrityPass_fr
  with_reducible apply State.elapse_fr
  with_reducible assumption
  exact List.Subset.trans (by decide) hl
  exact List.Subset.trans (by decide) hl⟩

theorem execFactoryManufacture_fr {s : State} {dt : Nat} {fw : List Byte} {factory : List Byte}
    {cert0 : List Byte} {cert1 : List Byte} (hz : Fr l z s) (hl : [.regs, .time, .log, .evt, .lmp] ⊆ l) :
    ∃ t, execFactoryManufacture dt fw factory cert0 cert1 s = .next t ∧ Fr l z t := ⟨_, rfl, by
  with_reducible apply factoryManufacture_fr
  with_reducible apply State.elapse_fr
  with_reducible assumption
  exact List.Subset.trans (by decide) hl
  exact List.Subset.trans (by decide) hl⟩

theorem execArm_fr {s : State} {dt : Nat} {rsv : BitVec 8} {arg : BitVec 16} (hz : Fr l z s) (hl : [.regs, .cmds,
      .time, .log, .evt, .gal] ⊆ l) :
    ∃ t, execArm dt rsv arg s = .next t ∧ Fr l z t := ⟨_, rfl, by
  with_reducible apply galArm_fr
  with_reducible apply State.elapse_fr
  with_reducible assumption
  exact List.Subset.trans (by decide) hl
  exact List.Subset.trans (by decide) hl⟩

theorem execDisarm_fr {s : State} {dt : Nat} {rsv : BitVec 8} {arg : BitVec 16} (hz : Fr l z s) (hl : [.out,
      .regs, .cmds, .time, .log, .evt, .hst, .gal] ⊆ l) :
    ∃ t, execDisarm dt rsv arg s = .next t ∧ Fr l z t := ⟨_, rfl, by
  with_reducible apply galDisarm_fr
  with_reducible apply State.elapse_fr
  with_reducible assumption
  exact List.Subset.trans (by decide) hl
  exact List.Subset.trans (by decide) hl⟩

theorem execTrigger_fr {s : State} {dt : Nat} {rsv : BitVec 8} {arg : BitVec 16} (hz : Fr l z s) (hl : [.regs,
      .cmds, .time, .log, .evt, .gal] ⊆ l) :
    ∃ t, execTrigger dt rsv arg s = .next t ∧ Fr l z t := ⟨_, rfl, by
  with_reducible apply galTrigger_fr
  with_reducible apply State.elapse_fr
  with_reducible assumption
  exact List.Subset.trans (by decide) hl
  exact List.Subset.trans (by decide) hl⟩

theorem execTriggerApply_fr {s : State} {dt : Nat} (hz : Fr l z s) (hl : [.regs, .cmds, .time, .log, .evt,
      .gal] ⊆ l) :
    ∃ t, execTriggerApply dt s = .next t ∧ Fr l z t := ⟨_, rfl, by
  with_reducible apply triggerApply_fr
  with_reducible apply State.elapse_fr
  with_reducible assumption
  exact List.Subset.trans (by decide) hl
  exact List.Subset.trans (by decide) hl⟩

theorem execRelease_fr {s : State} {dt : Nat} {rsv : BitVec 8} {arg : BitVec 16} (hz : Fr l z s) (hl : [.regs,
      .cmds, .time, .log, .evt, .gal] ⊆ l) :
    ∃ t, execRelease dt rsv arg s = .next t ∧ Fr l z t := ⟨_, rfl, by
  with_reducible apply galRelease_fr
  with_reducible apply State.elapse_fr
  with_reducible assumption
  exact List.Subset.trans (by decide) hl
  exact List.Subset.trans (by decide) hl⟩

theorem execCopy_fr {s : State} {dt : Nat} {rsv : BitVec 8} {arg : BitVec 16} (hz : Fr l z s) (hl : [.regs, .cmds,
      .time, .log, .evt, .gal] ⊆ l) :
    ∃ t, execCopy dt rsv arg s = .next t ∧ Fr l z t := ⟨_, rfl, by
  with_reducible apply galCopy_fr
  with_reducible apply State.elapse_fr
  with_reducible assumption
  exact List.Subset.trans (by decide) hl
  exact List.Subset.trans (by decide) hl⟩

theorem execCopyDone_fr {s : State} {dt : Nat} {v : Fin 256} (hz : Fr l z s) (hl : [.out, .regs, .cmds, .time,
      .log, .evt, .hst, .gal] ⊆ l) :
    ∃ t, execCopyDone dt v s = .next t ∧ Fr l z t := ⟨_, rfl, by
  with_reducible apply copyDone_fr
  with_reducible apply State.elapse_fr
  with_reducible assumption
  exact List.Subset.trans (by decide) hl
  exact List.Subset.trans (by decide) hl⟩

theorem execPreTriggerFilled_fr {s : State} {dt : Nat} {p : Fin 16} (hz : Fr l z s) (hl : [.time, .log, .gal] ⊆ l) :
    ∃ t, execPreTriggerFilled dt p s = .next t ∧ Fr l z t := ⟨_, rfl, by
  with_reducible apply preTriggerFilled_fr
  with_reducible apply State.elapse_fr
  with_reducible assumption
  exact List.Subset.trans (by decide) hl
  exact List.Subset.trans (by decide) hl⟩

theorem execCaptureEnd_fr {s : State} {dt : Nat} {p : Fin 16} (hz : Fr l z s) (hl : [.out, .regs, .time, .log,
      .evt, .hst, .gal] ⊆ l) :
    ∃ t, execCaptureEnd dt p s = .next t ∧ Fr l z t := ⟨_, rfl, by
  with_reducible apply captureEnd_fr
  with_reducible apply State.elapse_fr
  with_reducible assumption
  exact List.Subset.trans (by decide) hl
  exact List.Subset.trans (by decide) hl⟩

theorem execHoldoffExpiry_fr {s : State} {dt : Nat} {p : Fin 16} (hz : Fr l z s) (hl : [.time, .log, .gal] ⊆ l) :
    ∃ t, execHoldoffExpiry dt p s = .next t ∧ Fr l z t := ⟨_, rfl, by
  with_reducible apply holdoffExpiry_fr
  with_reducible apply State.elapse_fr
  with_reducible assumption
  exact List.Subset.trans (by decide) hl
  exact List.Subset.trans (by decide) hl⟩

theorem execArchiveDone_fr {s : State} {dt : Nat} (hz : Fr l z s) (hl : [.regs, .time, .log, .evt, .gal] ⊆ l) :
    ∃ t, execArchiveDone dt s = .next t ∧ Fr l z t := ⟨_, rfl, by
  with_reducible apply archiveDone_fr
  with_reducible apply State.elapse_fr
  with_reducible assumption
  exact List.Subset.trans (by decide) hl
  exact List.Subset.trans (by decide) hl⟩

theorem execLogRecordAccept_fr {s : State} {dt : Nat} (hz : Fr l z s) (hl : [.regs, .time, .log, .evt] ⊆ l) :
    ∃ t, execLogRecordAccept dt s = .next t ∧ Fr l z t := ⟨_, rfl, by
  with_reducible apply logRecordAccept_fr
  with_reducible apply State.elapse_fr
  with_reducible assumption
  exact List.Subset.trans (by decide) hl
  exact List.Subset.trans (by decide) hl⟩

theorem execCriticalNvmWrite_fr {s : State} {dt : Nat} {ok : Bool} (hz : Fr l z s) (hl : [.regs, .time, .log,
      .evt] ⊆ l) :
    ∃ t, execCriticalNvmWrite dt ok s = .next t ∧ Fr l z t := ⟨_, rfl, by
  with_reducible apply criticalNvmWrite_fr
  with_reducible apply State.elapse_fr
  with_reducible assumption
  exact List.Subset.trans (by decide) hl
  exact List.Subset.trans (by decide) hl⟩

theorem execLogFreeze_fr {s : State} {dt : Nat} {rsv : BitVec 8} {arg : BitVec 16} (hz : Fr l z s) (hl : [.regs,
      .cmds, .time, .log, .evt] ⊆ l) :
    ∃ t, execLogFreeze dt rsv arg s = .next t ∧ Fr l z t := ⟨_, rfl, by
  with_reducible apply logFreeze_fr
  with_reducible apply State.elapse_fr
  with_reducible assumption
  exact List.Subset.trans (by decide) hl
  exact List.Subset.trans (by decide) hl⟩

theorem execLogUnfreeze_fr {s : State} {dt : Nat} {rsv : BitVec 8} {arg : BitVec 16} (hz : Fr l z s) (hl : [.regs,
      .cmds, .time, .log, .evt] ⊆ l) :
    ∃ t, execLogUnfreeze dt rsv arg s = .next t ∧ Fr l z t := ⟨_, rfl, by
  with_reducible apply logUnfreeze_fr
  with_reducible apply State.elapse_fr
  with_reducible assumption
  exact List.Subset.trans (by decide) hl
  exact List.Subset.trans (by decide) hl⟩

theorem execFreezeTimeout_fr {s : State} {dt : Nat} (hz : Fr l z s) (hl : [.regs, .time, .log, .evt] ⊆ l) :
    ∃ t, execFreezeTimeout dt s = .next t ∧ Fr l z t := ⟨_, rfl, by
  with_reducible apply freezeTimeout_fr
  with_reducible apply State.elapse_fr
  with_reducible assumption
  exact List.Subset.trans (by decide) hl
  exact List.Subset.trans (by decide) hl⟩

theorem execHoldDrainDone_fr {s : State} {dt : Nat} (hz : Fr l z s) (hl : [.regs, .cmds, .time, .log, .evt] ⊆ l) :
    ∃ t, execHoldDrainDone dt s = .next t ∧ Fr l z t := ⟨_, rfl, by
  with_reducible apply holdDrainDone_fr
  with_reducible apply State.elapse_fr
  with_reducible assumption
  exact List.Subset.trans (by decide) hl
  exact List.Subset.trans (by decide) hl⟩

theorem execClearArm_fr {s : State} {dt : Nat} {q : Requester} {rsv : BitVec 8} {arg : BitVec 16} (hz : Fr l z s)
    (hl : [.regs, .cmds, .time, .log, .evt] ⊆ l) :
    ∃ t, execClearArm dt q rsv arg s = .next t ∧ Fr l z t := ⟨_, rfl, by
  with_reducible apply clearArm_fr
  with_reducible apply State.elapse_fr
  with_reducible assumption
  exact List.Subset.trans (by decide) hl
  exact List.Subset.trans (by decide) hl⟩

theorem execClearConfirm_fr {s : State} {dt : Nat} {q : Requester} {rsv : BitVec 8} {arg : BitVec 16}
    (hz : Fr l z s) (hl : [.regs, .cmds, .time, .log, .evt] ⊆ l) :
    ∃ t, execClearConfirm dt q rsv arg s = .next t ∧ Fr l z t := ⟨_, rfl, by
  with_reducible apply clearConfirm_fr
  with_reducible apply State.elapse_fr
  with_reducible assumption
  exact List.Subset.trans (by decide) hl
  exact List.Subset.trans (by decide) hl⟩

theorem execClearArmExpiry_fr {s : State} {dt : Nat} (hz : Fr l z s) (hl : [.time, .log] ⊆ l) :
    ∃ t, execClearArmExpiry dt s = .next t ∧ Fr l z t := ⟨_, rfl, by
  with_reducible apply clearDisarm_fr
  with_reducible apply State.elapse_fr
  with_reducible assumption
  exact hl
  exact List.Subset.trans (by decide) hl⟩

theorem execPcieLinkDown_fr {s : State} {dt : Nat} (hz : Fr l z s) (hl : [.out, .regs, .cmds, .once, .time, .log,
      .evt, .img, .ports, .prf, .pln, .cnd, .lmp, .hst, .kpr, .gal] ⊆ l) :
    ∃ t, execPcieLinkDown dt s = .next t ∧ Fr l z t := ⟨_, rfl, by
  refine Fr.ite ?_ ?_
  with_reducible apply State.elapse_fr
  with_reducible assumption
  exact List.Subset.trans (by decide) hl
  with_reducible apply State.linkLost_fr
  with_reducible apply State.elapse_fr
  with_reducible assumption
  exact List.Subset.trans (by decide) hl
  exact List.Subset.trans (by decide) hl⟩

theorem execPcieLinkUp_fr {s : State} {dt : Nat} {gen : Fin 3} {width : Fin 4} (hz : Fr l z s) (hl : [.regs,
      .time, .log, .evt, .hst] ⊆ l) :
    ∃ t, execPcieLinkUp dt gen width s = .next t ∧ Fr l z t := ⟨_, rfl, by
  with_reducible apply linkTrain_fr
  with_reducible apply State.elapse_fr
  with_reducible assumption
  exact List.Subset.trans (by decide) hl
  exact List.Subset.trans (by decide) hl⟩

theorem execVfEnableChange_fr {s : State} {dt : Nat} {enable : Bool} {numVfs : Fin 256} (hz : Fr l z s)
    (hl : [.time, .log, .hst] ⊆ l) :
    ∃ t, execVfEnableChange dt enable numVfs s = .next t ∧ Fr l z t := ⟨_, rfl, by
  with_reducible apply vfEnableSet_fr
  with_reducible apply State.elapse_fr
  with_reducible assumption
  exact List.Subset.trans (by decide) hl
  exact List.Subset.trans (by decide) hl⟩

theorem execPcieFlr_fr {s : State} {dt : Nat} {v : Fin 256} (hz : Fr l z s) (hl : [.out, .regs, .cmds, .once,
      .time, .log, .evt, .ports, .prf, .pln, .cnd, .hst, .kpr, .gal] ⊆ l) :
    ∃ t, execPcieFlr dt v s = .next t ∧ Fr l z t := ⟨_, rfl, by
  with_reducible apply pcieFlr_fr
  with_reducible apply State.elapse_fr
  with_reducible assumption
  exact List.Subset.trans (by decide) hl
  exact List.Subset.trans (by decide) hl⟩

theorem execFlrDone_fr {s : State} {dt : Nat} {v : Fin 256} (hz : Fr l z s) (hl : [.regs, .cmds, .time, .log,
      .evt, .hst] ⊆ l) :
    ∃ t, execFlrDone dt v s = .next t ∧ Fr l z t := ⟨_, rfl, by
  with_reducible apply flrDone_fr
  with_reducible apply State.elapse_fr
  with_reducible assumption
  exact List.Subset.trans (by decide) hl
  exact List.Subset.trans (by decide) hl⟩

theorem execHostTxFrame_fr {s : State} {dt : Nat} {q : Fin 1024} {descs : List (BitVec 16 × BitVec 8)} {f : Frame}
    (hz : Fr l z s) (hl : [.out, .regs, .once, .time, .log, .evt, .ports, .rdg, .prf, .hst] ⊆ l) :
    ∃ t, execHostTxFrame dt q descs f s = .next t ∧ Fr l z t := ⟨_, rfl, by
  with_reducible apply hostTx_fr
  with_reducible apply State.elapse_fr
  with_reducible assumption
  exact List.Subset.trans (by decide) hl
  exact List.Subset.trans (by decide) hl⟩

theorem execHostRxFrame_fr {s : State} {dt : Nat} {q : Fin 1024} {f : Frame} {ingress : Fin 32} {cls : Fin 6}
    {ts : Fin 3} {ago : Nat} {bufs : List (BitVec 64)} (hz : Fr l z s) (hl : [.out, .regs, .once, .time, .log,
      .evt, .ports, .hst] ⊆ l) :
    ∃ t, execHostRxFrame dt q f ingress cls ts ago bufs s = .next t ∧ Fr l z t := ⟨_, rfl, by
  with_reducible apply hostRx_fr
  with_reducible apply State.elapse_fr
  with_reducible assumption
  exact List.Subset.trans (by decide) hl
  exact List.Subset.trans (by decide) hl⟩

theorem execItrExpiry_fr {s : State} {dt : Nat} {n : Fin 2048} (hz : Fr l z s) (hl : [.out, .time, .log, .hst] ⊆ l) :
    ∃ t, execItrExpiry dt n s = .next t ∧ Fr l z t := ⟨_, rfl, by
  refine Fr.ite ?_ ?_
  with_reducible apply State.fireVec_fr
  with_reducible apply State.setVec_fr
  with_reducible apply State.elapse_fr
  with_reducible assumption
  exact List.Subset.trans (by decide) hl
  exact List.Subset.trans (by decide) hl
  exact List.Subset.trans (by decide) hl
  with_reducible apply State.elapse_fr
  with_reducible assumption
  exact List.Subset.trans (by decide) hl⟩

theorem execDmaFault_fr {s : State} {dt : Nat} {q : Fin 1024} (hz : Fr l z s) (hl : [.out, .regs, .time, .log,
      .evt, .ports, .hst] ⊆ l) :
    ∃ t, execDmaFault dt q s = .next t ∧ Fr l z t := ⟨_, rfl, by
  with_reducible apply dmaFault_fr
  with_reducible apply State.elapse_fr
  with_reducible assumption
  exact List.Subset.trans (by decide) hl
  exact List.Subset.trans (by decide) hl⟩

theorem execQueueAssign_fr {s : State} {dt : Nat} {rsv : BitVec 8} {arg : BitVec 16} (hz : Fr l z s) (hl : [.out,
      .regs, .cmds, .time, .log, .evt, .hst] ⊆ l) :
    ∃ t, execQueueAssign dt rsv arg s = .next t ∧ Fr l z t := ⟨_, rfl, by
  with_reducible apply queueAssign_fr
  with_reducible apply State.elapse_fr
  with_reducible assumption
  exact List.Subset.trans (by decide) hl
  exact List.Subset.trans (by decide) hl⟩

theorem execVectorAssign_fr {s : State} {dt : Nat} {rsv : BitVec 8} {arg : BitVec 16} (hz : Fr l z s) (hl : [.out,
      .regs, .cmds, .time, .log, .evt, .hst] ⊆ l) :
    ∃ t, execVectorAssign dt rsv arg s = .next t ∧ Fr l z t := ⟨_, rfl, by
  with_reducible apply vectorAssign_fr
  with_reducible apply State.elapse_fr
  with_reducible assumption
  exact List.Subset.trans (by decide) hl
  exact List.Subset.trans (by decide) hl⟩

theorem execWindowSet_fr {s : State} {dt : Nat} {rsv : BitVec 8} {arg : BitVec 16} (hz : Fr l z s) (hl : [.regs,
      .cmds, .time, .log, .evt, .hst] ⊆ l) :
    ∃ t, execWindowSet dt rsv arg s = .next t ∧ Fr l z t := ⟨_, rfl, by
  with_reducible apply windowSet_fr
  with_reducible apply State.elapse_fr
  with_reducible assumption
  exact List.Subset.trans (by decide) hl
  exact List.Subset.trans (by decide) hl⟩

theorem execWindowSetApply_fr {s : State} {dt : Nat} (hz : Fr l z s) (hl : [.out, .regs, .cmds, .time, .log, .evt,
      .hst] ⊆ l) :
    ∃ t, execWindowSetApply dt s = .next t ∧ Fr l z t := ⟨_, rfl, by
  with_reducible apply windowSetApply_fr
  with_reducible apply State.elapse_fr
  with_reducible assumption
  exact List.Subset.trans (by decide) hl
  exact List.Subset.trans (by decide) hl⟩

theorem execShareSet_fr {s : State} {dt : Nat} {rsv : BitVec 8} {arg : BitVec 16} (hz : Fr l z s) (hl : [.regs,
      .cmds, .time, .log, .evt, .hst] ⊆ l) :
    ∃ t, execShareSet dt rsv arg s = .next t ∧ Fr l z t := ⟨_, rfl, by
  with_reducible apply shareSet_fr
  with_reducible apply State.elapse_fr
  with_reducible assumption
  exact List.Subset.trans (by decide) hl
  exact List.Subset.trans (by decide) hl⟩

theorem execShareSetApply_fr {s : State} {dt : Nat} (hz : Fr l z s) (hl : [.out, .regs, .cmds, .time, .log, .evt,
      .hst] ⊆ l) :
    ∃ t, execShareSetApply dt s = .next t ∧ Fr l z t := ⟨_, rfl, by
  with_reducible apply shareSetApply_fr
  with_reducible apply State.elapse_fr
  with_reducible assumption
  exact List.Subset.trans (by decide) hl
  exact List.Subset.trans (by decide) hl⟩

theorem execMbxBind_fr {s : State} {dt : Nat} {rsv : BitVec 8} {arg : BitVec 16} (hz : Fr l z s) (hl : [.regs,
      .cmds, .time, .log, .evt, .hst] ⊆ l) :
    ∃ t, execMbxBind dt rsv arg s = .next t ∧ Fr l z t := ⟨_, rfl, by
  with_reducible apply mbxBind_fr
  with_reducible apply State.elapse_fr
  with_reducible assumption
  exact List.Subset.trans (by decide) hl
  exact List.Subset.trans (by decide) hl⟩

theorem execClassifierSet_fr {s : State} {dt : Nat} {rsv : BitVec 8} {arg : BitVec 16} {buf : List Byte}
    (hz : Fr l z s) (hl : [.out, .regs, .cmds, .time, .log, .evt, .hst] ⊆ l) :
    ∃ t, execClassifierSet dt rsv arg buf s = .next t ∧ Fr l z t := ⟨_, rfl, by
  with_reducible apply classifierSet_fr
  with_reducible apply State.elapse_fr
  with_reducible assumption
  exact List.Subset.trans (by decide) hl
  exact List.Subset.trans (by decide) hl⟩

theorem execGrantSet_fr {s : State} {dt : Nat} {rsv : BitVec 8} {arg : BitVec 16} (hz : Fr l z s) (hl : [.out,
      .regs, .cmds, .time, .log, .evt, .hst] ⊆ l) :
    ∃ t, execGrantSet dt rsv arg s = .next t ∧ Fr l z t := ⟨_, rfl, by
  with_reducible apply grantSet_fr
  with_reducible apply State.elapse_fr
  with_reducible assumption
  exact List.Subset.trans (by decide) hl
  exact List.Subset.trans (by decide) hl⟩

theorem execAttachSet_fr {s : State} {dt : Nat} {rsv : BitVec 8} {arg : BitVec 16} (hz : Fr l z s) (hl : [.out,
      .regs, .cmds, .once, .time, .log, .evt, .ports, .prf, .pln, .cnd, .hst, .kpr, .gal] ⊆ l) :
    ∃ t, execAttachSet dt rsv arg s = .next t ∧ Fr l z t := ⟨_, rfl, by
  with_reducible apply attachSet_fr
  with_reducible apply State.elapse_fr
  with_reducible assumption
  exact List.Subset.trans (by decide) hl
  exact List.Subset.trans (by decide) hl⟩

theorem execVfReset_fr {s : State} {dt : Nat} {rsv : BitVec 8} {arg : BitVec 16} (hz : Fr l z s) (hl : [.out,
      .regs, .cmds, .once, .time, .log, .evt, .ports, .prf, .pln, .cnd, .hst, .kpr, .gal] ⊆ l) :
    ∃ t, execVfReset dt rsv arg s = .next t ∧ Fr l z t := ⟨_, rfl, by
  with_reducible apply vfReset_fr
  with_reducible apply State.elapse_fr
  with_reducible assumption
  exact List.Subset.trans (by decide) hl
  exact List.Subset.trans (by decide) hl⟩

theorem execQueueEnable_fr {s : State} {dt : Nat} {v : Fin 256} {rsv : BitVec 8} {arg : BitVec 16} (hz : Fr l z s)
    (hl : [.out, .regs, .cmds, .time, .log, .evt, .hst] ⊆ l) :
    ∃ t, execQueueEnable dt v rsv arg s = .next t ∧ Fr l z t := ⟨_, rfl, by
  with_reducible apply queueEnable_fr
  with_reducible apply State.elapse_fr
  with_reducible assumption
  exact List.Subset.trans (by decide) hl
  exact List.Subset.trans (by decide) hl⟩

theorem execQueueDisable_fr {s : State} {dt : Nat} {v : Fin 256} {rsv : BitVec 8} {arg : BitVec 16}
    (hz : Fr l z s) (hl : [.regs, .cmds, .time, .log, .evt, .hst] ⊆ l) :
    ∃ t, execQueueDisable dt v rsv arg s = .next t ∧ Fr l z t := ⟨_, rfl, by
  with_reducible apply queueDisable_fr
  with_reducible apply State.elapse_fr
  with_reducible assumption
  exact List.Subset.trans (by decide) hl
  exact List.Subset.trans (by decide) hl⟩

theorem execQueueIdle_fr {s : State} {dt : Nat} {q : Fin 1024} (hz : Fr l z s) (hl : [.out, .regs, .cmds, .time,
      .log, .evt, .hst] ⊆ l) :
    ∃ t, execQueueIdle dt q s = .next t ∧ Fr l z t := ⟨_, rfl, by
  with_reducible apply queueIdle_fr
  with_reducible apply State.elapse_fr
  with_reducible assumption
  exact List.Subset.trans (by decide) hl
  exact List.Subset.trans (by decide) hl⟩

theorem execGuestLoad_fr {s : State} {dt : Nat} {v : Fin 256} {rsv : BitVec 8} {arg : BitVec 16} {buf : List Byte}
    (hz : Fr l z s) (hl : [.regs, .cmds, .time, .log, .evt, .kpr] ⊆ l) :
    ∃ t, execGuestLoad dt v rsv arg buf s = .next t ∧ Fr l z t := ⟨_, rfl, by
  with_reducible apply guestLoad_fr
  with_reducible apply State.elapse_fr
  with_reducible assumption
  exact List.Subset.trans (by decide) hl
  exact List.Subset.trans (by decide) hl⟩

theorem execGuestPlace_fr {s : State} {dt : Nat} (hz : Fr l z s) (hl : [.time, .log, .kpr] ⊆ l) :
    ∃ t, execGuestPlace dt s = .next t ∧ Fr l z t := ⟨_, rfl, by
  with_reducible apply guestPlace_fr
  with_reducible apply State.elapse_fr
  with_reducible assumption
  exact List.Subset.trans (by decide) hl
  exact List.Subset.trans (by decide) hl⟩

theorem execGuestUnload_fr {s : State} {dt : Nat} {v : Fin 256} {rsv : BitVec 8} {arg : BitVec 16} (hz : Fr l z s)
    (hl : [.out, .regs, .cmds, .once, .time, .log, .evt, .prf, .hst, .kpr] ⊆ l) :
    ∃ t, execGuestUnload dt v rsv arg s = .next t ∧ Fr l z t := ⟨_, rfl, by
  with_reducible apply guestUnload_fr
  with_reducible apply State.elapse_fr
  with_reducible assumption
  exact List.Subset.trans (by decide) hl
  exact List.Subset.trans (by decide) hl⟩

theorem execGuestRestart_fr {s : State} {dt : Nat} {v : Fin 256} {rsv : BitVec 8} {arg : BitVec 16}
    (hz : Fr l z s) (hl : [.out, .regs, .cmds, .time, .log, .evt, .hst, .kpr] ⊆ l) :
    ∃ t, execGuestRestart dt v rsv arg s = .next t ∧ Fr l z t := ⟨_, rfl, by
  with_reducible apply guestRestart_fr
  with_reducible apply State.elapse_fr
  with_reducible assumption
  exact List.Subset.trans (by decide) hl
  exact List.Subset.trans (by decide) hl⟩

theorem execGalCopy_fr {s : State} {dt : Nat} {v : Fin 256} {rsv : BitVec 8} {arg : BitVec 16} (hz : Fr l z s)
    (hl : [.regs, .cmds, .time, .log, .evt, .gal] ⊆ l) :
    ∃ t, execGalCopy dt v rsv arg s = .next t ∧ Fr l z t := ⟨_, rfl, by
  with_reducible apply vfGalCopy_fr
  with_reducible apply State.elapse_fr
  with_reducible assumption
  exact List.Subset.trans (by decide) hl
  exact List.Subset.trans (by decide) hl⟩

theorem execCarrierPeriodBoundary_fr {s : State} {dt : Nat} {k : Fin 8} (hz : Fr l z s) (hl : [.out, .regs, .time,
      .log, .evt, .cdv] ⊆ l) :
    ∃ t, execCarrierPeriodBoundary dt k s = .next t ∧ Fr l z t := ⟨_, rfl, by
  with_reducible apply periodBoundary_fr
  with_reducible apply State.elapse_fr
  with_reducible assumption
  exact List.Subset.trans (by decide) hl
  exact List.Subset.trans (by decide) hl⟩

theorem execRiseCompare_fr {s : State} {dt : Nat} {k : Fin 8} (hz : Fr l z s) (hl : [.out, .regs, .once, .time,
      .log, .evt, .cdv] ⊆ l) :
    ∃ t, execRiseCompare dt k s = .next t ∧ Fr l z t := ⟨_, rfl, by
  with_reducible apply riseCompare_fr
  with_reducible apply State.elapse_fr
  with_reducible assumption
  exact List.Subset.trans (by decide) hl
  exact List.Subset.trans (by decide) hl⟩

theorem execFallCompare_fr {s : State} {dt : Nat} {k : Fin 8} (hz : Fr l z s) (hl : [.out, .time, .log, .cdv] ⊆ l) :
    ∃ t, execFallCompare dt k s = .next t ∧ Fr l z t := ⟨_, rfl, by
  with_reducible apply fallCompare_fr
  with_reducible apply State.elapse_fr
  with_reducible assumption
  exact List.Subset.trans (by decide) hl
  exact List.Subset.trans (by decide) hl⟩

theorem execDeadTimeExpiry_fr {s : State} {dt : Nat} {k : Fin 8} (hz : Fr l z s) (hl : [.out, .time, .log,
      .cdv] ⊆ l) :
    ∃ t, execDeadTimeExpiry dt k s = .next t ∧ Fr l z t := ⟨_, rfl, by
  with_reducible apply deadTimeExpiry_fr
  with_reducible apply State.elapse_fr
  with_reducible assumption
  exact List.Subset.trans (by decide) hl
  exact List.Subset.trans (by decide) hl⟩

theorem execBlankExpiry_fr {s : State} {dt : Nat} {k : Fin 8} (hz : Fr l z s) (hl : [.out, .time, .log, .cdv] ⊆ l) :
    ∃ t, execBlankExpiry dt k s = .next t ∧ Fr l z t := ⟨_, rfl, by
  with_reducible apply State.setCoil_fr
  with_reducible apply State.elapse_fr
  with_reducible assumption
  exact List.Subset.trans (by decide) hl
  exact List.Subset.trans (by decide) hl⟩

theorem execPullinExpiry_fr {s : State} {dt : Nat} {k : Fin 8} (hz : Fr l z s) (hl : [.out, .time, .log, .cdv] ⊆ l) :
    ∃ t, execPullinExpiry dt k s = .next t ∧ Fr l z t := ⟨_, rfl, by
  with_reducible apply pullinExpiry_fr
  with_reducible apply State.elapse_fr
  with_reducible assumption
  exact List.Subset.trans (by decide) hl
  exact List.Subset.trans (by decide) hl⟩

theorem execOcTrip_fr {s : State} {dt : Nat} {k : Fin 8} {withFall : Bool} (hz : Fr l z s) (hl : [.out, .regs,
      .time, .log, .evt, .cdv] ⊆ l) :
    ∃ t, execOcTrip dt k withFall s = .next t ∧ Fr l z t := ⟨_, rfl, by
  with_reducible apply ocTrip_fr
  with_reducible apply State.elapse_fr
  with_reducible assumption
  exact List.Subset.trans (by decide) hl
  exact List.Subset.trans (by decide) hl⟩

theorem execSupMeasure_fr {s : State} {dt : Nat} {k : Fin 8} {ohm : Nat} {compliance : Bool} (hz : Fr l z s)
    (hl : [.out, .regs, .time, .log, .evt, .cdv, .pln] ⊆ l) :
    ∃ t, execSupMeasure dt k ohm compliance s = .next t ∧ Fr l z t := ⟨_, rfl, by
  with_reducible apply supMeasure_fr
  with_reducible apply State.elapse_fr
  with_reducible assumption
  exact List.Subset.trans (by decide) hl
  exact List.Subset.trans (by decide) hl⟩

theorem execSupResume_fr {s : State} {dt : Nat} {k : Fin 8} (hz : Fr l z s) (hl : [.out, .time, .log, .cdv] ⊆ l) :
    ∃ t, execSupResume dt k s = .next t ∧ Fr l z t := ⟨_, rfl, by
  with_reducible apply supResume_fr
  with_reducible apply State.elapse_fr
  with_reducible assumption
  exact List.Subset.trans (by decide) hl
  exact List.Subset.trans (by decide) hl⟩

theorem execOcClear_fr {s : State} {dt : Nat} {rsv : BitVec 8} {arg : BitVec 16} (hz : Fr l z s) (hl : [.out,
      .regs, .cmds, .time, .log, .evt, .cdv] ⊆ l) :
    ∃ t, execOcClear dt rsv arg s = .next t ∧ Fr l z t := ⟨_, rfl, by
  with_reducible apply ocClear_fr
  with_reducible apply State.elapse_fr
  with_reducible assumption
  exact List.Subset.trans (by decide) hl
  exact List.Subset.trans (by decide) hl⟩

theorem execInputChangeAccepted_fr {s : State} {dt : Nat} {i : Fin 16} (hz : Fr l z s) (hl : [.regs, .time, .log,
      .evt, .bin, .pln] ⊆ l) :
    ∃ t, execInputChangeAccepted dt i s = .next t ∧ Fr l z t := ⟨_, rfl, by
  with_reducible apply inputAccepted_fr
  with_reducible apply State.elapse_fr
  with_reducible assumption
  exact List.Subset.trans (by decide) hl
  exact List.Subset.trans (by decide) hl⟩

theorem execCanFrameRx_fr {s : State} {dt : Nat} {c : Fin 2} {id : Word} {esi : Bool} {dlc : Fin 16}
    {data : List Byte} {ago : Nat} (hz : Fr l z s) (hl : [.regs, .cmds, .time, .log, .evt, .can, .pln] ⊆ l) :
    ∃ t, execCanFrameRx dt c id esi dlc data ago s = .next t ∧ Fr l z t := ⟨_, rfl, by
  with_reducible apply canFrameRx_fr
  with_reducible apply State.elapse_fr
  with_reducible assumption
  exact List.Subset.trans (by decide) hl
  exact List.Subset.trans (by decide) hl⟩

theorem execCanTxComplete_fr {s : State} {dt : Nat} {c : Fin 2} {ok : Bool} {ack : Bool} {ago : Nat}
    (hz : Fr l z s) (hl : [.out, .regs, .cmds, .time, .log, .evt, .can] ⊆ l) :
    ∃ t, execCanTxComplete dt c ok ack ago s = .next t ∧ Fr l z t := ⟨_, rfl, by
  with_reducible apply canTxComplete_fr
  with_reducible apply State.elapse_fr
  with_reducible assumption
  exact List.Subset.trans (by decide) hl
  exact List.Subset.trans (by decide) hl⟩

theorem execCanBusError_fr {s : State} {dt : Nat} {c : Fin 2} {tx : Bool} {ack : Bool} {heavy : Bool}
    (hz : Fr l z s) (hl : [.regs, .time, .log, .evt, .can] ⊆ l) :
    ∃ t, execCanBusError dt c tx ack heavy s = .next t ∧ Fr l z t := ⟨_, rfl, by
  with_reducible apply canBusError_fr
  with_reducible apply State.elapse_fr
  with_reducible assumption
  exact List.Subset.trans (by decide) hl
  exact List.Subset.trans (by decide) hl⟩

theorem execBusOffRecovered_fr {s : State} {dt : Nat} {c : Fin 2} (hz : Fr l z s) (hl : [.regs, .cmds, .time,
      .log, .evt, .can] ⊆ l) :
    ∃ t, execBusOffRecovered dt c s = .next t ∧ Fr l z t := ⟨_, rfl, by
  with_reducible apply busOffRecovered_fr
  with_reducible apply State.elapse_fr
  with_reducible assumption
  exact List.Subset.trans (by decide) hl
  exact List.Subset.trans (by decide) hl⟩

theorem execCanMapTimeout_fr {s : State} {dt : Nat} {c : Fin 2} {m : Fin 16} (hz : Fr l z s) (hl : [.time, .log,
      .pln] ⊆ l) :
    ∃ t, execCanMapTimeout dt c m s = .next t ∧ Fr l z t := ⟨_, rfl, by
  with_reducible apply canMapTimeout_fr
  with_reducible apply State.elapse_fr
  with_reducible assumption
  exact List.Subset.trans (by decide) hl
  exact List.Subset.trans (by decide) hl⟩

theorem execAbdCandidateTimeout_fr {s : State} {dt : Nat} {c : Fin 2} (hz : Fr l z s) (hl : [.time, .log, .can] ⊆ l) :
    ∃ t, execAbdCandidateTimeout dt c s = .next t ∧ Fr l z t := ⟨_, rfl, by
  with_reducible apply State.setCan_fr
  with_reducible apply State.elapse_fr
  with_reducible assumption
  exact List.Subset.trans (by decide) hl
  exact List.Subset.trans (by decide) hl⟩

theorem execRecover_fr {s : State} {dt : Nat} {c : Fin 2} {rsv : BitVec 8} {arg : BitVec 16} (hz : Fr l z s)
    (hl : [.regs, .cmds, .time, .log, .evt, .can] ⊆ l) :
    ∃ t, execRecover dt c rsv arg s = .next t ∧ Fr l z t := ⟨_, rfl, by
  with_reducible apply canRecover_fr
  with_reducible apply State.elapse_fr
  with_reducible assumption
  exact List.Subset.trans (by decide) hl
  exact List.Subset.trans (by decide) hl⟩

theorem execAbortTx_fr {s : State} {dt : Nat} {c : Fin 2} {rsv : BitVec 8} {arg : BitVec 16} (hz : Fr l z s)
    (hl : [.regs, .cmds, .time, .log, .evt, .can] ⊆ l) :
    ∃ t, execAbortTx dt c rsv arg s = .next t ∧ Fr l z t := ⟨_, rfl, by
  with_reducible apply abortTx_fr
  with_reducible apply State.elapse_fr
  with_reducible assumption
  exact List.Subset.trans (by decide) hl
  exact List.Subset.trans (by decide) hl⟩

theorem execAbdStart_fr {s : State} {dt : Nat} {c : Fin 2} {rsv : BitVec 8} {arg : BitVec 16} (hz : Fr l z s)
    (hl : [.regs, .cmds, .time, .log, .evt, .can] ⊆ l) :
    ∃ t, execAbdStart dt c rsv arg s = .next t ∧ Fr l z t := ⟨_, rfl, by
  with_reducible apply abdStart_fr
  with_reducible apply State.elapse_fr
  with_reducible assumption
  exact List.Subset.trans (by decide) hl
  exact List.Subset.trans (by decide) hl⟩

theorem execListen_fr {s : State} {dt : Nat} {c : Fin 2} {rsv : BitVec 8} {arg : BitVec 16} (hz : Fr l z s)
    (hl : [.regs, .cmds, .time, .log, .evt, .can] ⊆ l) :
    ∃ t, execListen dt c rsv arg s = .next t ∧ Fr l z t := ⟨_, rfl, by
  with_reducible apply canListen_fr
  with_reducible apply State.elapse_fr
  with_reducible assumption
  exact List.Subset.trans (by decide) hl
  exact List.Subset.trans (by decide) hl⟩

theorem execListenApply_fr {s : State} {dt : Nat} {c : Fin 2} (hz : Fr l z s) (hl : [.regs, .cmds, .time, .log,
      .evt, .can] ⊆ l) :
    ∃ t, execListenApply dt c s = .next t ∧ Fr l z t := ⟨_, rfl, by
  with_reducible apply listenApply_fr
  with_reducible apply State.elapse_fr
  with_reducible assumption
  exact List.Subset.trans (by decide) hl
  exact List.Subset.trans (by decide) hl⟩

theorem execSnapshot_fr {s : State} {dt : Nat} {rsv : BitVec 8} {arg : BitVec 16} (hz : Fr l z s) (hl : [.regs,
      .cmds, .time, .log, .evt, .prf] ⊆ l) :
    ∃ t, execSnapshot dt rsv arg s = .next t ∧ Fr l z t := ⟨_, rfl, by
  with_reducible apply snapshot_fr
  with_reducible apply State.elapse_fr
  with_reducible assumption
  exact List.Subset.trans (by decide) hl
  exact List.Subset.trans (by decide) hl⟩

theorem execSnapshotDone_fr {s : State} {dt : Nat} (hz : Fr l z s) (hl : [.regs, .cmds, .time, .log, .evt,
      .prf] ⊆ l) :
    ∃ t, execSnapshotDone dt s = .next t ∧ Fr l z t := ⟨_, rfl, by
  with_reducible apply snapshotDone_fr
  with_reducible apply State.elapse_fr
  with_reducible assumption
  exact List.Subset.trans (by decide) hl
  exact List.Subset.trans (by decide) hl⟩

theorem execPrfFreeze_fr {s : State} {dt : Nat} {rsv : BitVec 8} {arg : BitVec 16} (hz : Fr l z s) (hl : [.regs,
      .cmds, .time, .log, .evt, .prf] ⊆ l) :
    ∃ t, execPrfFreeze dt rsv arg s = .next t ∧ Fr l z t := ⟨_, rfl, by
  with_reducible apply prfFreeze_fr
  with_reducible apply State.elapse_fr
  with_reducible assumption
  exact List.Subset.trans (by decide) hl
  exact List.Subset.trans (by decide) hl⟩

theorem execPrfUnfreeze_fr {s : State} {dt : Nat} {rsv : BitVec 8} {arg : BitVec 16} (hz : Fr l z s) (hl : [.regs,
      .cmds, .time, .log, .evt, .prf] ⊆ l) :
    ∃ t, execPrfUnfreeze dt rsv arg s = .next t ∧ Fr l z t := ⟨_, rfl, by
  with_reducible apply prfUnfreeze_fr
  with_reducible apply State.elapse_fr
  with_reducible assumption
  exact List.Subset.trans (by decide) hl
  exact List.Subset.trans (by decide) hl⟩

theorem execPrfClear_fr {s : State} {dt : Nat} {rsv : BitVec 8} {arg : BitVec 16} (hz : Fr l z s) (hl : [.regs,
      .cmds, .time, .log, .evt, .prf] ⊆ l) :
    ∃ t, execPrfClear dt rsv arg s = .next t ∧ Fr l z t := ⟨_, rfl, by
  with_reducible apply prfClear_fr
  with_reducible apply State.elapse_fr
  with_reducible assumption
  exact List.Subset.trans (by decide) hl
  exact List.Subset.trans (by decide) hl⟩

theorem execMsiMessageSend_fr {s : State} {dt : Nat} (hz : Fr l z s) (hl : [.out, .regs, .cmds, .once, .time,
      .log, .evt, .hst] ⊆ l) :
    ∃ t, execMsiMessageSend dt s = .next t ∧ Fr l z t := ⟨_, rfl, by
  with_reducible apply msiMessageSend_fr
  with_reducible apply State.elapse_fr
  with_reducible assumption
  exact List.Subset.trans (by decide) hl
  exact List.Subset.trans (by decide) hl⟩

theorem execMsixUnmask_fr {s : State} {dt : Nat} {n : Fin 2048} {masked : Bool} {fmask : Bool} {enable : Bool}
    (hz : Fr l z s) (hl : [.out, .regs, .once, .time, .log, .evt, .hst] ⊆ l) :
    ∃ t, execMsixUnmask dt n masked fmask enable s = .next t ∧ Fr l z t := ⟨_, rfl, by
  with_reducible apply msixUnmask_fr
  with_reducible apply State.elapse_fr
  with_reducible assumption
  exact List.Subset.trans (by decide) hl
  exact List.Subset.trans (by decide) hl⟩

theorem execResend_fr {s : State} {dt : Nat} {rsv : BitVec 8} {arg : BitVec 16} (hz : Fr l z s) (hl : [.regs,
      .cmds, .time, .log, .evt] ⊆ l) :
    ∃ t, execResend dt rsv arg s = .next t ∧ Fr l z t := ⟨_, rfl, by
  with_reducible apply evtResend_fr
  with_reducible apply State.elapse_fr
  with_reducible assumption
  exact List.Subset.trans (by decide) hl
  exact List.Subset.trans (by decide) hl⟩

theorem execInputLevelChange_fr {s : State} {dt : Nat} {i : Fin 16} {level : Bool} (hz : Fr l z s) (hl : [.time,
      .log, .bin] ⊆ l) :
    ∃ t, execInputLevelChange dt i level s = .next t ∧ Fr l z t := ⟨_, rfl, by
  with_reducible apply inputLevel_fr
  with_reducible apply State.elapse_fr
  with_reducible assumption
  exact List.Subset.trans (by decide) hl
  exact List.Subset.trans (by decide) hl⟩

theorem execBackgroundScrub_fr {s : State} {dt : Nat} {n : Nat} (hz : Fr l z s) (hl : [.regs, .time, .log] ⊆ l) :
    ∃ t, execBackgroundScrub dt n s = .next t ∧ Fr l z t := ⟨_, rfl, by
  with_reducible apply State.countBy_fr
  with_reducible apply State.elapse_fr
  with_reducible assumption
  exact List.Subset.trans (by decide) hl
  exact List.Subset.trans (by decide) hl⟩

end Sys2Proof.Machine
end

