-- ==== Sys2Proof/Laws/State.lean ====
section
/-!
SUPPORT. What each single update of the state leaves as it is: one lemma for each update and each other part. After
them, what the passing of time leaves as it is.
-/

set_option Elab.async false

namespace Sys2Proof.Machine

open Sys2Proof

/-! ### `State.wr` -/

@[simp] theorem State.wr_pending (s : State) (a : Nat) (v : Word) : (s.wr a v).pending = s.pending := rfl
@[simp] theorem State.wr_out (s : State) (a : Nat) (v : Word) : (s.wr a v).out = s.out := rfl
@[simp] theorem State.wr_readData (s : State) (a : Nat) (v : Word) : (s.wr a v).readData = s.readData := rfl
@[simp] theorem State.wr_cmds (s : State) (a : Nat) (v : Word) : (s.wr a v).cmds = s.cmds := rfl
@[simp] theorem State.wr_once (s : State) (a : Nat) (v : Word) : (s.wr a v).once = s.once := rfl
@[simp] theorem State.wr_time (s : State) (a : Nat) (v : Word) : (s.wr a v).time = s.time := rfl
@[simp] theorem State.wr_glb (s : State) (a : Nat) (v : Word) : (s.wr a v).glb = s.glb := rfl
@[simp] theorem State.wr_pwr (s : State) (a : Nat) (v : Word) : (s.wr a v).pwr = s.pwr := rfl
@[simp] theorem State.wr_log (s : State) (a : Nat) (v : Word) : (s.wr a v).log = s.log := rfl
@[simp] theorem State.wr_evt (s : State) (a : Nat) (v : Word) : (s.wr a v).evt = s.evt := rfl
@[simp] theorem State.wr_img (s : State) (a : Nat) (v : Word) : (s.wr a v).img = s.img := rfl
@[simp] theorem State.wr_bcn (s : State) (a : Nat) (v : Word) : (s.wr a v).bcn = s.bcn := rfl
@[simp] theorem State.wr_ports (s : State) (a : Nat) (v : Word) : (s.wr a v).ports = s.ports := rfl
@[simp] theorem State.wr_rdg (s : State) (a : Nat) (v : Word) : (s.wr a v).rdg = s.rdg := rfl
@[simp] theorem State.wr_cdv (s : State) (a : Nat) (v : Word) : (s.wr a v).cdv = s.cdv := rfl
@[simp] theorem State.wr_bin (s : State) (a : Nat) (v : Word) : (s.wr a v).bin = s.bin := rfl
@[simp] theorem State.wr_can (s : State) (a : Nat) (v : Word) : (s.wr a v).can = s.can := rfl
@[simp] theorem State.wr_prf (s : State) (a : Nat) (v : Word) : (s.wr a v).prf = s.prf := rfl
@[simp] theorem State.wr_pln (s : State) (a : Nat) (v : Word) : (s.wr a v).pln = s.pln := rfl
@[simp] theorem State.wr_svi (s : State) (a : Nat) (v : Word) : (s.wr a v).svi = s.svi := rfl
@[simp] theorem State.wr_cnd (s : State) (a : Nat) (v : Word) : (s.wr a v).cnd = s.cnd := rfl
@[simp] theorem State.wr_lmp (s : State) (a : Nat) (v : Word) : (s.wr a v).lmp = s.lmp := rfl
@[simp] theorem State.wr_hst (s : State) (a : Nat) (v : Word) : (s.wr a v).hst = s.hst := rfl
@[simp] theorem State.wr_kpr (s : State) (a : Nat) (v : Word) : (s.wr a v).kpr = s.kpr := rfl
@[simp] theorem State.wr_gal (s : State) (a : Nat) (v : Word) : (s.wr a v).gal = s.gal := rfl
@[simp] theorem State.wr_pub (s : State) (a : Nat) (v : Word) : (s.wr a v).pub = s.pub := rfl
@[simp] theorem State.wr_pair (s : State) (a : Nat) (v : Word) : (s.wr a v).pair = s.pair := rfl

/-! ### `State.emit` -/

@[simp] theorem State.emit_pending (s : State) (m : OutMsg) : (s.emit m).pending = s.pending := rfl
@[simp] theorem State.emit_readData (s : State) (m : OutMsg) : (s.emit m).readData = s.readData := rfl
@[simp] theorem State.emit_regs (s : State) (m : OutMsg) : (s.emit m).regs = s.regs := rfl
@[simp] theorem State.emit_cmds (s : State) (m : OutMsg) : (s.emit m).cmds = s.cmds := rfl
@[simp] theorem State.emit_once (s : State) (m : OutMsg) : (s.emit m).once = s.once := rfl
@[simp] theorem State.emit_time (s : State) (m : OutMsg) : (s.emit m).time = s.time := rfl
@[simp] theorem State.emit_glb (s : State) (m : OutMsg) : (s.emit m).glb = s.glb := rfl
@[simp] theorem State.emit_pwr (s : State) (m : OutMsg) : (s.emit m).pwr = s.pwr := rfl
@[simp] theorem State.emit_log (s : State) (m : OutMsg) : (s.emit m).log = s.log := rfl
@[simp] theorem State.emit_evt (s : State) (m : OutMsg) : (s.emit m).evt = s.evt := rfl
@[simp] theorem State.emit_img (s : State) (m : OutMsg) : (s.emit m).img = s.img := rfl
@[simp] theorem State.emit_bcn (s : State) (m : OutMsg) : (s.emit m).bcn = s.bcn := rfl
@[simp] theorem State.emit_ports (s : State) (m : OutMsg) : (s.emit m).ports = s.ports := rfl
@[simp] theorem State.emit_rdg (s : State) (m : OutMsg) : (s.emit m).rdg = s.rdg := rfl
@[simp] theorem State.emit_cdv (s : State) (m : OutMsg) : (s.emit m).cdv = s.cdv := rfl
@[simp] theorem State.emit_bin (s : State) (m : OutMsg) : (s.emit m).bin = s.bin := rfl
@[simp] theorem State.emit_can (s : State) (m : OutMsg) : (s.emit m).can = s.can := rfl
@[simp] theorem State.emit_prf (s : State) (m : OutMsg) : (s.emit m).prf = s.prf := rfl
@[simp] theorem State.emit_pln (s : State) (m : OutMsg) : (s.emit m).pln = s.pln := rfl
@[simp] theorem State.emit_svi (s : State) (m : OutMsg) : (s.emit m).svi = s.svi := rfl
@[simp] theorem State.emit_cnd (s : State) (m : OutMsg) : (s.emit m).cnd = s.cnd := rfl
@[simp] theorem State.emit_lmp (s : State) (m : OutMsg) : (s.emit m).lmp = s.lmp := rfl
@[simp] theorem State.emit_hst (s : State) (m : OutMsg) : (s.emit m).hst = s.hst := rfl
@[simp] theorem State.emit_kpr (s : State) (m : OutMsg) : (s.emit m).kpr = s.kpr := rfl
@[simp] theorem State.emit_gal (s : State) (m : OutMsg) : (s.emit m).gal = s.gal := rfl
@[simp] theorem State.emit_pub (s : State) (m : OutMsg) : (s.emit m).pub = s.pub := rfl
@[simp] theorem State.emit_pair (s : State) (m : OutMsg) : (s.emit m).pair = s.pair := rfl

/-! ### `State.setCmd` -/

@[simp] theorem State.setCmd_pending (s : State) (reg : Nat) (c : CmdStat) :
    (s.setCmd reg c).pending = s.pending := rfl
@[simp] theorem State.setCmd_out (s : State) (reg : Nat) (c : CmdStat) : (s.setCmd reg c).out = s.out := rfl
@[simp] theorem State.setCmd_readData (s : State) (reg : Nat) (c : CmdStat) :
    (s.setCmd reg c).readData = s.readData := rfl
@[simp] theorem State.setCmd_regs (s : State) (reg : Nat) (c : CmdStat) : (s.setCmd reg c).regs = s.regs := rfl
@[simp] theorem State.setCmd_once (s : State) (reg : Nat) (c : CmdStat) : (s.setCmd reg c).once = s.once := rfl
@[simp] theorem State.setCmd_time (s : State) (reg : Nat) (c : CmdStat) : (s.setCmd reg c).time = s.time := rfl
@[simp] theorem State.setCmd_glb (s : State) (reg : Nat) (c : CmdStat) : (s.setCmd reg c).glb = s.glb := rfl
@[simp] theorem State.setCmd_pwr (s : State) (reg : Nat) (c : CmdStat) : (s.setCmd reg c).pwr = s.pwr := rfl
@[simp] theorem State.setCmd_log (s : State) (reg : Nat) (c : CmdStat) : (s.setCmd reg c).log = s.log := rfl
@[simp] theorem State.setCmd_evt (s : State) (reg : Nat) (c : CmdStat) : (s.setCmd reg c).evt = s.evt := rfl
@[simp] theorem State.setCmd_img (s : State) (reg : Nat) (c : CmdStat) : (s.setCmd reg c).img = s.img := rfl
@[simp] theorem State.setCmd_bcn (s : State) (reg : Nat) (c : CmdStat) : (s.setCmd reg c).bcn = s.bcn := rfl
@[simp] theorem State.setCmd_ports (s : State) (reg : Nat) (c : CmdStat) : (s.setCmd reg c).ports = s.ports := rfl
@[simp] theorem State.setCmd_rdg (s : State) (reg : Nat) (c : CmdStat) : (s.setCmd reg c).rdg = s.rdg := rfl
@[simp] theorem State.setCmd_cdv (s : State) (reg : Nat) (c : CmdStat) : (s.setCmd reg c).cdv = s.cdv := rfl
@[simp] theorem State.setCmd_bin (s : State) (reg : Nat) (c : CmdStat) : (s.setCmd reg c).bin = s.bin := rfl
@[simp] theorem State.setCmd_can (s : State) (reg : Nat) (c : CmdStat) : (s.setCmd reg c).can = s.can := rfl
@[simp] theorem State.setCmd_prf (s : State) (reg : Nat) (c : CmdStat) : (s.setCmd reg c).prf = s.prf := rfl
@[simp] theorem State.setCmd_pln (s : State) (reg : Nat) (c : CmdStat) : (s.setCmd reg c).pln = s.pln := rfl
@[simp] theorem State.setCmd_svi (s : State) (reg : Nat) (c : CmdStat) : (s.setCmd reg c).svi = s.svi := rfl
@[simp] theorem State.setCmd_cnd (s : State) (reg : Nat) (c : CmdStat) : (s.setCmd reg c).cnd = s.cnd := rfl
@[simp] theorem State.setCmd_lmp (s : State) (reg : Nat) (c : CmdStat) : (s.setCmd reg c).lmp = s.lmp := rfl
@[simp] theorem State.setCmd_hst (s : State) (reg : Nat) (c : CmdStat) : (s.setCmd reg c).hst = s.hst := rfl
@[simp] theorem State.setCmd_kpr (s : State) (reg : Nat) (c : CmdStat) : (s.setCmd reg c).kpr = s.kpr := rfl
@[simp] theorem State.setCmd_gal (s : State) (reg : Nat) (c : CmdStat) : (s.setCmd reg c).gal = s.gal := rfl
@[simp] theorem State.setCmd_pub (s : State) (reg : Nat) (c : CmdStat) : (s.setCmd reg c).pub = s.pub := rfl
@[simp] theorem State.setCmd_pair (s : State) (reg : Nat) (c : CmdStat) : (s.setCmd reg c).pair = s.pair := rfl

/-! ### `State.setPort` -/

@[simp] theorem State.setPort_pending (s : State) (p : Nat) (x : Port) : (s.setPort p x).pending = s.pending := rfl
@[simp] theorem State.setPort_out (s : State) (p : Nat) (x : Port) : (s.setPort p x).out = s.out := rfl
@[simp] theorem State.setPort_readData (s : State) (p : Nat) (x : Port) : (s.setPort p x).readData = s.readData := rfl
@[simp] theorem State.setPort_regs (s : State) (p : Nat) (x : Port) : (s.setPort p x).regs = s.regs := rfl
@[simp] theorem State.setPort_cmds (s : State) (p : Nat) (x : Port) : (s.setPort p x).cmds = s.cmds := rfl
@[simp] theorem State.setPort_once (s : State) (p : Nat) (x : Port) : (s.setPort p x).once = s.once := rfl
@[simp] theorem State.setPort_time (s : State) (p : Nat) (x : Port) : (s.setPort p x).time = s.time := rfl
@[simp] theorem State.setPort_glb (s : State) (p : Nat) (x : Port) : (s.setPort p x).glb = s.glb := rfl
@[simp] theorem State.setPort_pwr (s : State) (p : Nat) (x : Port) : (s.setPort p x).pwr = s.pwr := rfl
@[simp] theorem State.setPort_log (s : State) (p : Nat) (x : Port) : (s.setPort p x).log = s.log := rfl
@[simp] theorem State.setPort_evt (s : State) (p : Nat) (x : Port) : (s.setPort p x).evt = s.evt := rfl
@[simp] theorem State.setPort_img (s : State) (p : Nat) (x : Port) : (s.setPort p x).img = s.img := rfl
@[simp] theorem State.setPort_bcn (s : State) (p : Nat) (x : Port) : (s.setPort p x).bcn = s.bcn := rfl
@[simp] theorem State.setPort_rdg (s : State) (p : Nat) (x : Port) : (s.setPort p x).rdg = s.rdg := rfl
@[simp] theorem State.setPort_cdv (s : State) (p : Nat) (x : Port) : (s.setPort p x).cdv = s.cdv := rfl
@[simp] theorem State.setPort_bin (s : State) (p : Nat) (x : Port) : (s.setPort p x).bin = s.bin := rfl
@[simp] theorem State.setPort_can (s : State) (p : Nat) (x : Port) : (s.setPort p x).can = s.can := rfl
@[simp] theorem State.setPort_prf (s : State) (p : Nat) (x : Port) : (s.setPort p x).prf = s.prf := rfl
@[simp] theorem State.setPort_pln (s : State) (p : Nat) (x : Port) : (s.setPort p x).pln = s.pln := rfl
@[simp] theorem State.setPort_svi (s : State) (p : Nat) (x : Port) : (s.setPort p x).svi = s.svi := rfl
@[simp] theorem State.setPort_cnd (s : State) (p : Nat) (x : Port) : (s.setPort p x).cnd = s.cnd := rfl
@[simp] theorem State.setPort_lmp (s : State) (p : Nat) (x : Port) : (s.setPort p x).lmp = s.lmp := rfl
@[simp] theorem State.setPort_hst (s : State) (p : Nat) (x : Port) : (s.setPort p x).hst = s.hst := rfl
@[simp] theorem State.setPort_kpr (s : State) (p : Nat) (x : Port) : (s.setPort p x).kpr = s.kpr := rfl
@[simp] theorem State.setPort_gal (s : State) (p : Nat) (x : Port) : (s.setPort p x).gal = s.gal := rfl
@[simp] theorem State.setPort_pub (s : State) (p : Nat) (x : Port) : (s.setPort p x).pub = s.pub := rfl
@[simp] theorem State.setPort_pair (s : State) (p : Nat) (x : Port) : (s.setPort p x).pair = s.pair := rfl

/-! ### `State.setQueue` -/

@[simp] theorem State.setQueue_pending (s : State) (n : Nat) (q : Queue) : (s.setQueue n q).pending = s.pending := rfl
@[simp] theorem State.setQueue_out (s : State) (n : Nat) (q : Queue) : (s.setQueue n q).out = s.out := rfl
@[simp] theorem State.setQueue_readData (s : State) (n : Nat) (q : Queue) :
    (s.setQueue n q).readData = s.readData := rfl
@[simp] theorem State.setQueue_regs (s : State) (n : Nat) (q : Queue) : (s.setQueue n q).regs = s.regs := rfl
@[simp] theorem State.setQueue_cmds (s : State) (n : Nat) (q : Queue) : (s.setQueue n q).cmds = s.cmds := rfl
@[simp] theorem State.setQueue_once (s : State) (n : Nat) (q : Queue) : (s.setQueue n q).once = s.once := rfl
@[simp] theorem State.setQueue_time (s : State) (n : Nat) (q : Queue) : (s.setQueue n q).time = s.time := rfl
@[simp] theorem State.setQueue_glb (s : State) (n : Nat) (q : Queue) : (s.setQueue n q).glb = s.glb := rfl
@[simp] theorem State.setQueue_pwr (s : State) (n : Nat) (q : Queue) : (s.setQueue n q).pwr = s.pwr := rfl
@[simp] theorem State.setQueue_log (s : State) (n : Nat) (q : Queue) : (s.setQueue n q).log = s.log := rfl
@[simp] theorem State.setQueue_evt (s : State) (n : Nat) (q : Queue) : (s.setQueue n q).evt = s.evt := rfl
@[simp] theorem State.setQueue_img (s : State) (n : Nat) (q : Queue) : (s.setQueue n q).img = s.img := rfl
@[simp] theorem State.setQueue_bcn (s : State) (n : Nat) (q : Queue) : (s.setQueue n q).bcn = s.bcn := rfl
@[simp] theorem State.setQueue_ports (s : State) (n : Nat) (q : Queue) : (s.setQueue n q).ports = s.ports := rfl
@[simp] theorem State.setQueue_rdg (s : State) (n : Nat) (q : Queue) : (s.setQueue n q).rdg = s.rdg := rfl
@[simp] theorem State.setQueue_cdv (s : State) (n : Nat) (q : Queue) : (s.setQueue n q).cdv = s.cdv := rfl
@[simp] theorem State.setQueue_bin (s : State) (n : Nat) (q : Queue) : (s.setQueue n q).bin = s.bin := rfl
@[simp] theorem State.setQueue_can (s : State) (n : Nat) (q : Queue) : (s.setQueue n q).can = s.can := rfl
@[simp] theorem State.setQueue_prf (s : State) (n : Nat) (q : Queue) : (s.setQueue n q).prf = s.prf := rfl
@[simp] theorem State.setQueue_pln (s : State) (n : Nat) (q : Queue) : (s.setQueue n q).pln = s.pln := rfl
@[simp] theorem State.setQueue_svi (s : State) (n : Nat) (q : Queue) : (s.setQueue n q).svi = s.svi := rfl
@[simp] theorem State.setQueue_cnd (s : State) (n : Nat) (q : Queue) : (s.setQueue n q).cnd = s.cnd := rfl
@[simp] theorem State.setQueue_lmp (s : State) (n : Nat) (q : Queue) : (s.setQueue n q).lmp = s.lmp := rfl
@[simp] theorem State.setQueue_kpr (s : State) (n : Nat) (q : Queue) : (s.setQueue n q).kpr = s.kpr := rfl
@[simp] theorem State.setQueue_gal (s : State) (n : Nat) (q : Queue) : (s.setQueue n q).gal = s.gal := rfl
@[simp] theorem State.setQueue_pub (s : State) (n : Nat) (q : Queue) : (s.setQueue n q).pub = s.pub := rfl
@[simp] theorem State.setQueue_pair (s : State) (n : Nat) (q : Queue) : (s.setQueue n q).pair = s.pair := rfl

/-! ### `State.setFn` -/

@[simp] theorem State.setFn_pending (s : State) (id : Nat) (x : KFunc) : (s.setFn id x).pending = s.pending := rfl
@[simp] theorem State.setFn_out (s : State) (id : Nat) (x : KFunc) : (s.setFn id x).out = s.out := rfl
@[simp] theorem State.setFn_readData (s : State) (id : Nat) (x : KFunc) : (s.setFn id x).readData = s.readData := rfl
@[simp] theorem State.setFn_regs (s : State) (id : Nat) (x : KFunc) : (s.setFn id x).regs = s.regs := rfl
@[simp] theorem State.setFn_cmds (s : State) (id : Nat) (x : KFunc) : (s.setFn id x).cmds = s.cmds := rfl
@[simp] theorem State.setFn_once (s : State) (id : Nat) (x : KFunc) : (s.setFn id x).once = s.once := rfl
@[simp] theorem State.setFn_time (s : State) (id : Nat) (x : KFunc) : (s.setFn id x).time = s.time := rfl
@[simp] theorem State.setFn_glb (s : State) (id : Nat) (x : KFunc) : (s.setFn id x).glb = s.glb := rfl
@[simp] theorem State.setFn_pwr (s : State) (id : Nat) (x : KFunc) : (s.setFn id x).pwr = s.pwr := rfl
@[simp] theorem State.setFn_log (s : State) (id : Nat) (x : KFunc) : (s.setFn id x).log = s.log := rfl
@[simp] theorem State.setFn_evt (s : State) (id : Nat) (x : KFunc) : (s.setFn id x).evt = s.evt := rfl
@[simp] theorem State.setFn_img (s : State) (id : Nat) (x : KFunc) : (s.setFn id x).img = s.img := rfl
@[simp] theorem State.setFn_bcn (s : State) (id : Nat) (x : KFunc) : (s.setFn id x).bcn = s.bcn := rfl
@[simp] theorem State.setFn_ports (s : State) (id : Nat) (x : KFunc) : (s.setFn id x).ports = s.ports := rfl
@[simp] theorem State.setFn_rdg (s : State) (id : Nat) (x : KFunc) : (s.setFn id x).rdg = s.rdg := rfl
@[simp] theorem State.setFn_cdv (s : State) (id : Nat) (x : KFunc) : (s.setFn id x).cdv = s.cdv := rfl
@[simp] theorem State.setFn_bin (s : State) (id : Nat) (x : KFunc) : (s.setFn id x).bin = s.bin := rfl
@[simp] theorem State.setFn_can (s : State) (id : Nat) (x : KFunc) : (s.setFn id x).can = s.can := rfl
@[simp] theorem State.setFn_prf (s : State) (id : Nat) (x : KFunc) : (s.setFn id x).prf = s.prf := rfl
@[simp] theorem State.setFn_pln (s : State) (id : Nat) (x : KFunc) : (s.setFn id x).pln = s.pln := rfl
@[simp] theorem State.setFn_svi (s : State) (id : Nat) (x : KFunc) : (s.setFn id x).svi = s.svi := rfl
@[simp] theorem State.setFn_cnd (s : State) (id : Nat) (x : KFunc) : (s.setFn id x).cnd = s.cnd := rfl
@[simp] theorem State.setFn_lmp (s : State) (id : Nat) (x : KFunc) : (s.setFn id x).lmp = s.lmp := rfl
@[simp] theorem State.setFn_hst (s : State) (id : Nat) (x : KFunc) : (s.setFn id x).hst = s.hst := rfl
@[simp] theorem State.setFn_gal (s : State) (id : Nat) (x : KFunc) : (s.setFn id x).gal = s.gal := rfl
@[simp] theorem State.setFn_pub (s : State) (id : Nat) (x : KFunc) : (s.setFn id x).pub = s.pub := rfl
@[simp] theorem State.setFn_pair (s : State) (id : Nat) (x : KFunc) : (s.setFn id x).pair = s.pair := rfl

/-! ### `State.setChan` -/

@[simp] theorem State.setChan_pending (s : State) (c : Nat) (x : Chan) : (s.setChan c x).pending = s.pending := rfl
@[simp] theorem State.setChan_out (s : State) (c : Nat) (x : Chan) : (s.setChan c x).out = s.out := rfl
@[simp] theorem State.setChan_readData (s : State) (c : Nat) (x : Chan) : (s.setChan c x).readData = s.readData := rfl
@[simp] theorem State.setChan_regs (s : State) (c : Nat) (x : Chan) : (s.setChan c x).regs = s.regs := rfl
@[simp] theorem State.setChan_cmds (s : State) (c : Nat) (x : Chan) : (s.setChan c x).cmds = s.cmds := rfl
@[simp] theorem State.setChan_once (s : State) (c : Nat) (x : Chan) : (s.setChan c x).once = s.once := rfl
@[simp] theorem State.setChan_time (s : State) (c : Nat) (x : Chan) : (s.setChan c x).time = s.time := rfl
@[simp] theorem State.setChan_glb (s : State) (c : Nat) (x : Chan) : (s.setChan c x).glb = s.glb := rfl
@[simp] theorem State.setChan_pwr (s : State) (c : Nat) (x : Chan) : (s.setChan c x).pwr = s.pwr := rfl
@[simp] theorem State.setChan_log (s : State) (c : Nat) (x : Chan) : (s.setChan c x).log = s.log := rfl
@[simp] theorem State.setChan_evt (s : State) (c : Nat) (x : Chan) : (s.setChan c x).evt = s.evt := rfl
@[simp] theorem State.setChan_img (s : State) (c : Nat) (x : Chan) : (s.setChan c x).img = s.img := rfl
@[simp] theorem State.setChan_bcn (s : State) (c : Nat) (x : Chan) : (s.setChan c x).bcn = s.bcn := rfl
@[simp] theorem State.setChan_ports (s : State) (c : Nat) (x : Chan) : (s.setChan c x).ports = s.ports := rfl
@[simp] theorem State.setChan_rdg (s : State) (c : Nat) (x : Chan) : (s.setChan c x).rdg = s.rdg := rfl
@[simp] theorem State.setChan_cdv (s : State) (c : Nat) (x : Chan) : (s.setChan c x).cdv = s.cdv := rfl
@[simp] theorem State.setChan_bin (s : State) (c : Nat) (x : Chan) : (s.setChan c x).bin = s.bin := rfl
@[simp] theorem State.setChan_can (s : State) (c : Nat) (x : Chan) : (s.setChan c x).can = s.can := rfl
@[simp] theorem State.setChan_prf (s : State) (c : Nat) (x : Chan) : (s.setChan c x).prf = s.prf := rfl
@[simp] theorem State.setChan_svi (s : State) (c : Nat) (x : Chan) : (s.setChan c x).svi = s.svi := rfl
@[simp] theorem State.setChan_cnd (s : State) (c : Nat) (x : Chan) : (s.setChan c x).cnd = s.cnd := rfl
@[simp] theorem State.setChan_lmp (s : State) (c : Nat) (x : Chan) : (s.setChan c x).lmp = s.lmp := rfl
@[simp] theorem State.setChan_hst (s : State) (c : Nat) (x : Chan) : (s.setChan c x).hst = s.hst := rfl
@[simp] theorem State.setChan_kpr (s : State) (c : Nat) (x : Chan) : (s.setChan c x).kpr = s.kpr := rfl
@[simp] theorem State.setChan_gal (s : State) (c : Nat) (x : Chan) : (s.setChan c x).gal = s.gal := rfl
@[simp] theorem State.setChan_pub (s : State) (c : Nat) (x : Chan) : (s.setChan c x).pub = s.pub := rfl
@[simp] theorem State.setChan_pair (s : State) (c : Nat) (x : Chan) : (s.setChan c x).pair = s.pair := rfl

/-! ### `State.setSlot` -/

@[simp] theorem State.setSlot_pending (s : State) (c : Nat) (x : Slot) : (s.setSlot c x).pending = s.pending := rfl
@[simp] theorem State.setSlot_out (s : State) (c : Nat) (x : Slot) : (s.setSlot c x).out = s.out := rfl
@[simp] theorem State.setSlot_readData (s : State) (c : Nat) (x : Slot) : (s.setSlot c x).readData = s.readData := rfl
@[simp] theorem State.setSlot_regs (s : State) (c : Nat) (x : Slot) : (s.setSlot c x).regs = s.regs := rfl
@[simp] theorem State.setSlot_cmds (s : State) (c : Nat) (x : Slot) : (s.setSlot c x).cmds = s.cmds := rfl
@[simp] theorem State.setSlot_once (s : State) (c : Nat) (x : Slot) : (s.setSlot c x).once = s.once := rfl
@[simp] theorem State.setSlot_time (s : State) (c : Nat) (x : Slot) : (s.setSlot c x).time = s.time := rfl
@[simp] theorem State.setSlot_glb (s : State) (c : Nat) (x : Slot) : (s.setSlot c x).glb = s.glb := rfl
@[simp] theorem State.setSlot_pwr (s : State) (c : Nat) (x : Slot) : (s.setSlot c x).pwr = s.pwr := rfl
@[simp] theorem State.setSlot_log (s : State) (c : Nat) (x : Slot) : (s.setSlot c x).log = s.log := rfl
@[simp] theorem State.setSlot_evt (s : State) (c : Nat) (x : Slot) : (s.setSlot c x).evt = s.evt := rfl
@[simp] theorem State.setSlot_img (s : State) (c : Nat) (x : Slot) : (s.setSlot c x).img = s.img := rfl
@[simp] theorem State.setSlot_bcn (s : State) (c : Nat) (x : Slot) : (s.setSlot c x).bcn = s.bcn := rfl
@[simp] theorem State.setSlot_ports (s : State) (c : Nat) (x : Slot) : (s.setSlot c x).ports = s.ports := rfl
@[simp] theorem State.setSlot_rdg (s : State) (c : Nat) (x : Slot) : (s.setSlot c x).rdg = s.rdg := rfl
@[simp] theorem State.setSlot_cdv (s : State) (c : Nat) (x : Slot) : (s.setSlot c x).cdv = s.cdv := rfl
@[simp] theorem State.setSlot_bin (s : State) (c : Nat) (x : Slot) : (s.setSlot c x).bin = s.bin := rfl
@[simp] theorem State.setSlot_can (s : State) (c : Nat) (x : Slot) : (s.setSlot c x).can = s.can := rfl
@[simp] theorem State.setSlot_prf (s : State) (c : Nat) (x : Slot) : (s.setSlot c x).prf = s.prf := rfl
@[simp] theorem State.setSlot_pln (s : State) (c : Nat) (x : Slot) : (s.setSlot c x).pln = s.pln := rfl
@[simp] theorem State.setSlot_svi (s : State) (c : Nat) (x : Slot) : (s.setSlot c x).svi = s.svi := rfl
@[simp] theorem State.setSlot_lmp (s : State) (c : Nat) (x : Slot) : (s.setSlot c x).lmp = s.lmp := rfl
@[simp] theorem State.setSlot_hst (s : State) (c : Nat) (x : Slot) : (s.setSlot c x).hst = s.hst := rfl
@[simp] theorem State.setSlot_kpr (s : State) (c : Nat) (x : Slot) : (s.setSlot c x).kpr = s.kpr := rfl
@[simp] theorem State.setSlot_gal (s : State) (c : Nat) (x : Slot) : (s.setSlot c x).gal = s.gal := rfl
@[simp] theorem State.setSlot_pub (s : State) (c : Nat) (x : Slot) : (s.setSlot c x).pub = s.pub := rfl
@[simp] theorem State.setSlot_pair (s : State) (c : Nat) (x : Slot) : (s.setSlot c x).pair = s.pair := rfl

/-! ### `State.setStream` -/

@[simp] theorem State.setStream_pending (s : State) (i : Nat) (x : Stream) :
    (s.setStream i x).pending = s.pending := rfl
@[simp] theorem State.setStream_out (s : State) (i : Nat) (x : Stream) : (s.setStream i x).out = s.out := rfl
@[simp] theorem State.setStream_readData (s : State) (i : Nat) (x : Stream) :
    (s.setStream i x).readData = s.readData := rfl
@[simp] theorem State.setStream_regs (s : State) (i : Nat) (x : Stream) : (s.setStream i x).regs = s.regs := rfl
@[simp] theorem State.setStream_cmds (s : State) (i : Nat) (x : Stream) : (s.setStream i x).cmds = s.cmds := rfl
@[simp] theorem State.setStream_once (s : State) (i : Nat) (x : Stream) : (s.setStream i x).once = s.once := rfl
@[simp] theorem State.setStream_time (s : State) (i : Nat) (x : Stream) : (s.setStream i x).time = s.time := rfl
@[simp] theorem State.setStream_glb (s : State) (i : Nat) (x : Stream) : (s.setStream i x).glb = s.glb := rfl
@[simp] theorem State.setStream_pwr (s : State) (i : Nat) (x : Stream) : (s.setStream i x).pwr = s.pwr := rfl
@[simp] theorem State.setStream_log (s : State) (i : Nat) (x : Stream) : (s.setStream i x).log = s.log := rfl
@[simp] theorem State.setStream_evt (s : State) (i : Nat) (x : Stream) : (s.setStream i x).evt = s.evt := rfl
@[simp] theorem State.setStream_img (s : State) (i : Nat) (x : Stream) : (s.setStream i x).img = s.img := rfl
@[simp] theorem State.setStream_bcn (s : State) (i : Nat) (x : Stream) : (s.setStream i x).bcn = s.bcn := rfl
@[simp] theorem State.setStream_ports (s : State) (i : Nat) (x : Stream) : (s.setStream i x).ports = s.ports := rfl
@[simp] theorem State.setStream_rdg (s : State) (i : Nat) (x : Stream) : (s.setStream i x).rdg = s.rdg := rfl
@[simp] theorem State.setStream_cdv (s : State) (i : Nat) (x : Stream) : (s.setStream i x).cdv = s.cdv := rfl
@[simp] theorem State.setStream_bin (s : State) (i : Nat) (x : Stream) : (s.setStream i x).bin = s.bin := rfl
@[simp] theorem State.setStream_can (s : State) (i : Nat) (x : Stream) : (s.setStream i x).can = s.can := rfl
@[simp] theorem State.setStream_prf (s : State) (i : Nat) (x : Stream) : (s.setStream i x).prf = s.prf := rfl
@[simp] theorem State.setStream_pln (s : State) (i : Nat) (x : Stream) : (s.setStream i x).pln = s.pln := rfl
@[simp] theorem State.setStream_cnd (s : State) (i : Nat) (x : Stream) : (s.setStream i x).cnd = s.cnd := rfl
@[simp] theorem State.setStream_lmp (s : State) (i : Nat) (x : Stream) : (s.setStream i x).lmp = s.lmp := rfl
@[simp] theorem State.setStream_hst (s : State) (i : Nat) (x : Stream) : (s.setStream i x).hst = s.hst := rfl
@[simp] theorem State.setStream_kpr (s : State) (i : Nat) (x : Stream) : (s.setStream i x).kpr = s.kpr := rfl
@[simp] theorem State.setStream_gal (s : State) (i : Nat) (x : Stream) : (s.setStream i x).gal = s.gal := rfl
@[simp] theorem State.setStream_pub (s : State) (i : Nat) (x : Stream) : (s.setStream i x).pub = s.pub := rfl
@[simp] theorem State.setStream_pair (s : State) (i : Nat) (x : Stream) : (s.setStream i x).pair = s.pair := rfl

/-! ### `State.setProg` -/

@[simp] theorem State.setProg_pending (s : State) (p : Nat) (x : Prog) : (s.setProg p x).pending = s.pending := rfl
@[simp] theorem State.setProg_out (s : State) (p : Nat) (x : Prog) : (s.setProg p x).out = s.out := rfl
@[simp] theorem State.setProg_readData (s : State) (p : Nat) (x : Prog) : (s.setProg p x).readData = s.readData := rfl
@[simp] theorem State.setProg_regs (s : State) (p : Nat) (x : Prog) : (s.setProg p x).regs = s.regs := rfl
@[simp] theorem State.setProg_cmds (s : State) (p : Nat) (x : Prog) : (s.setProg p x).cmds = s.cmds := rfl
@[simp] theorem State.setProg_once (s : State) (p : Nat) (x : Prog) : (s.setProg p x).once = s.once := rfl
@[simp] theorem State.setProg_time (s : State) (p : Nat) (x : Prog) : (s.setProg p x).time = s.time := rfl
@[simp] theorem State.setProg_glb (s : State) (p : Nat) (x : Prog) : (s.setProg p x).glb = s.glb := rfl
@[simp] theorem State.setProg_pwr (s : State) (p : Nat) (x : Prog) : (s.setProg p x).pwr = s.pwr := rfl
@[simp] theorem State.setProg_log (s : State) (p : Nat) (x : Prog) : (s.setProg p x).log = s.log := rfl
@[simp] theorem State.setProg_evt (s : State) (p : Nat) (x : Prog) : (s.setProg p x).evt = s.evt := rfl
@[simp] theorem State.setProg_img (s : State) (p : Nat) (x : Prog) : (s.setProg p x).img = s.img := rfl
@[simp] theorem State.setProg_bcn (s : State) (p : Nat) (x : Prog) : (s.setProg p x).bcn = s.bcn := rfl
@[simp] theorem State.setProg_ports (s : State) (p : Nat) (x : Prog) : (s.setProg p x).ports = s.ports := rfl
@[simp] theorem State.setProg_rdg (s : State) (p : Nat) (x : Prog) : (s.setProg p x).rdg = s.rdg := rfl
@[simp] theorem State.setProg_cdv (s : State) (p : Nat) (x : Prog) : (s.setProg p x).cdv = s.cdv := rfl
@[simp] theorem State.setProg_bin (s : State) (p : Nat) (x : Prog) : (s.setProg p x).bin = s.bin := rfl
@[simp] theorem State.setProg_can (s : State) (p : Nat) (x : Prog) : (s.setProg p x).can = s.can := rfl
@[simp] theorem State.setProg_prf (s : State) (p : Nat) (x : Prog) : (s.setProg p x).prf = s.prf := rfl
@[simp] theorem State.setProg_pln (s : State) (p : Nat) (x : Prog) : (s.setProg p x).pln = s.pln := rfl
@[simp] theorem State.setProg_svi (s : State) (p : Nat) (x : Prog) : (s.setProg p x).svi = s.svi := rfl
@[simp] theorem State.setProg_cnd (s : State) (p : Nat) (x : Prog) : (s.setProg p x).cnd = s.cnd := rfl
@[simp] theorem State.setProg_lmp (s : State) (p : Nat) (x : Prog) : (s.setProg p x).lmp = s.lmp := rfl
@[simp] theorem State.setProg_hst (s : State) (p : Nat) (x : Prog) : (s.setProg p x).hst = s.hst := rfl
@[simp] theorem State.setProg_kpr (s : State) (p : Nat) (x : Prog) : (s.setProg p x).kpr = s.kpr := rfl
@[simp] theorem State.setProg_pub (s : State) (p : Nat) (x : Prog) : (s.setProg p x).pub = s.pub := rfl
@[simp] theorem State.setProg_pair (s : State) (p : Nat) (x : Prog) : (s.setProg p x).pair = s.pair := rfl

/-! ### `State.setVec` -/

@[simp] theorem State.setVec_pending (s : State) (n : Nat) (x : Vec) : (s.setVec n x).pending = s.pending := rfl
@[simp] theorem State.setVec_out (s : State) (n : Nat) (x : Vec) : (s.setVec n x).out = s.out := rfl
@[simp] theorem State.setVec_readData (s : State) (n : Nat) (x : Vec) : (s.setVec n x).readData = s.readData := rfl
@[simp] theorem State.setVec_regs (s : State) (n : Nat) (x : Vec) : (s.setVec n x).regs = s.regs := rfl
@[simp] theorem State.setVec_cmds (s : State) (n : Nat) (x : Vec) : (s.setVec n x).cmds = s.cmds := rfl
@[simp] theorem State.setVec_once (s : State) (n : Nat) (x : Vec) : (s.setVec n x).once = s.once := rfl
@[simp] theorem State.setVec_time (s : State) (n : Nat) (x : Vec) : (s.setVec n x).time = s.time := rfl
@[simp] theorem State.setVec_glb (s : State) (n : Nat) (x : Vec) : (s.setVec n x).glb = s.glb := rfl
@[simp] theorem State.setVec_pwr (s : State) (n : Nat) (x : Vec) : (s.setVec n x).pwr = s.pwr := rfl
@[simp] theorem State.setVec_log (s : State) (n : Nat) (x : Vec) : (s.setVec n x).log = s.log := rfl
@[simp] theorem State.setVec_evt (s : State) (n : Nat) (x : Vec) : (s.setVec n x).evt = s.evt := rfl
@[simp] theorem State.setVec_img (s : State) (n : Nat) (x : Vec) : (s.setVec n x).img = s.img := rfl
@[simp] theorem State.setVec_bcn (s : State) (n : Nat) (x : Vec) : (s.setVec n x).bcn = s.bcn := rfl
@[simp] theorem State.setVec_ports (s : State) (n : Nat) (x : Vec) : (s.setVec n x).ports = s.ports := rfl
@[simp] theorem State.setVec_rdg (s : State) (n : Nat) (x : Vec) : (s.setVec n x).rdg = s.rdg := rfl
@[simp] theorem State.setVec_cdv (s : State) (n : Nat) (x : Vec) : (s.setVec n x).cdv = s.cdv := rfl
@[simp] theorem State.setVec_bin (s : State) (n : Nat) (x : Vec) : (s.setVec n x).bin = s.bin := rfl
@[simp] theorem State.setVec_can (s : State) (n : Nat) (x : Vec) : (s.setVec n x).can = s.can := rfl
@[simp] theorem State.setVec_prf (s : State) (n : Nat) (x : Vec) : (s.setVec n x).prf = s.prf := rfl
@[simp] theorem State.setVec_pln (s : State) (n : Nat) (x : Vec) : (s.setVec n x).pln = s.pln := rfl
@[simp] theorem State.setVec_svi (s : State) (n : Nat) (x : Vec) : (s.setVec n x).svi = s.svi := rfl
@[simp] theorem State.setVec_cnd (s : State) (n : Nat) (x : Vec) : (s.setVec n x).cnd = s.cnd := rfl
@[simp] theorem State.setVec_lmp (s : State) (n : Nat) (x : Vec) : (s.setVec n x).lmp = s.lmp := rfl
@[simp] theorem State.setVec_kpr (s : State) (n : Nat) (x : Vec) : (s.setVec n x).kpr = s.kpr := rfl
@[simp] theorem State.setVec_gal (s : State) (n : Nat) (x : Vec) : (s.setVec n x).gal = s.gal := rfl
@[simp] theorem State.setVec_pub (s : State) (n : Nat) (x : Vec) : (s.setVec n x).pub = s.pub := rfl
@[simp] theorem State.setVec_pair (s : State) (n : Nat) (x : Vec) : (s.setVec n x).pair = s.pair := rfl

/-! ### `State.setMbox` -/

@[simp] theorem State.setMbox_pending (s : State) (m : Nat) (x : Mbox) : (s.setMbox m x).pending = s.pending := rfl
@[simp] theorem State.setMbox_out (s : State) (m : Nat) (x : Mbox) : (s.setMbox m x).out = s.out := rfl
@[simp] theorem State.setMbox_readData (s : State) (m : Nat) (x : Mbox) : (s.setMbox m x).readData = s.readData := rfl
@[simp] theorem State.setMbox_regs (s : State) (m : Nat) (x : Mbox) : (s.setMbox m x).regs = s.regs := rfl
@[simp] theorem State.setMbox_cmds (s : State) (m : Nat) (x : Mbox) : (s.setMbox m x).cmds = s.cmds := rfl
@[simp] theorem State.setMbox_once (s : State) (m : Nat) (x : Mbox) : (s.setMbox m x).once = s.once := rfl
@[simp] theorem State.setMbox_time (s : State) (m : Nat) (x : Mbox) : (s.setMbox m x).time = s.time := rfl
@[simp] theorem State.setMbox_glb (s : State) (m : Nat) (x : Mbox) : (s.setMbox m x).glb = s.glb := rfl
@[simp] theorem State.setMbox_pwr (s : State) (m : Nat) (x : Mbox) : (s.setMbox m x).pwr = s.pwr := rfl
@[simp] theorem State.setMbox_log (s : State) (m : Nat) (x : Mbox) : (s.setMbox m x).log = s.log := rfl
@[simp] theorem State.setMbox_evt (s : State) (m : Nat) (x : Mbox) : (s.setMbox m x).evt = s.evt := rfl
@[simp] theorem State.setMbox_img (s : State) (m : Nat) (x : Mbox) : (s.setMbox m x).img = s.img := rfl
@[simp] theorem State.setMbox_bcn (s : State) (m : Nat) (x : Mbox) : (s.setMbox m x).bcn = s.bcn := rfl
@[simp] theorem State.setMbox_ports (s : State) (m : Nat) (x : Mbox) : (s.setMbox m x).ports = s.ports := rfl
@[simp] theorem State.setMbox_rdg (s : State) (m : Nat) (x : Mbox) : (s.setMbox m x).rdg = s.rdg := rfl
@[simp] theorem State.setMbox_cdv (s : State) (m : Nat) (x : Mbox) : (s.setMbox m x).cdv = s.cdv := rfl
@[simp] theorem State.setMbox_bin (s : State) (m : Nat) (x : Mbox) : (s.setMbox m x).bin = s.bin := rfl
@[simp] theorem State.setMbox_can (s : State) (m : Nat) (x : Mbox) : (s.setMbox m x).can = s.can := rfl
@[simp] theorem State.setMbox_prf (s : State) (m : Nat) (x : Mbox) : (s.setMbox m x).prf = s.prf := rfl
@[simp] theorem State.setMbox_pln (s : State) (m : Nat) (x : Mbox) : (s.setMbox m x).pln = s.pln := rfl
@[simp] theorem State.setMbox_svi (s : State) (m : Nat) (x : Mbox) : (s.setMbox m x).svi = s.svi := rfl
@[simp] theorem State.setMbox_cnd (s : State) (m : Nat) (x : Mbox) : (s.setMbox m x).cnd = s.cnd := rfl
@[simp] theorem State.setMbox_lmp (s : State) (m : Nat) (x : Mbox) : (s.setMbox m x).lmp = s.lmp := rfl
@[simp] theorem State.setMbox_kpr (s : State) (m : Nat) (x : Mbox) : (s.setMbox m x).kpr = s.kpr := rfl
@[simp] theorem State.setMbox_gal (s : State) (m : Nat) (x : Mbox) : (s.setMbox m x).gal = s.gal := rfl
@[simp] theorem State.setMbox_pub (s : State) (m : Nat) (x : Mbox) : (s.setMbox m x).pub = s.pub := rfl
@[simp] theorem State.setMbox_pair (s : State) (m : Nat) (x : Mbox) : (s.setMbox m x).pair = s.pair := rfl

/-! ### `State.setGroup` -/

@[simp] theorem State.setGroup_pending (s : State) (g : Nat) (x : Group) : (s.setGroup g x).pending = s.pending := rfl
@[simp] theorem State.setGroup_out (s : State) (g : Nat) (x : Group) : (s.setGroup g x).out = s.out := rfl
@[simp] theorem State.setGroup_readData (s : State) (g : Nat) (x : Group) :
    (s.setGroup g x).readData = s.readData := rfl
@[simp] theorem State.setGroup_regs (s : State) (g : Nat) (x : Group) : (s.setGroup g x).regs = s.regs := rfl
@[simp] theorem State.setGroup_cmds (s : State) (g : Nat) (x : Group) : (s.setGroup g x).cmds = s.cmds := rfl
@[simp] theorem State.setGroup_once (s : State) (g : Nat) (x : Group) : (s.setGroup g x).once = s.once := rfl
@[simp] theorem State.setGroup_time (s : State) (g : Nat) (x : Group) : (s.setGroup g x).time = s.time := rfl
@[simp] theorem State.setGroup_glb (s : State) (g : Nat) (x : Group) : (s.setGroup g x).glb = s.glb := rfl
@[simp] theorem State.setGroup_pwr (s : State) (g : Nat) (x : Group) : (s.setGroup g x).pwr = s.pwr := rfl
@[simp] theorem State.setGroup_log (s : State) (g : Nat) (x : Group) : (s.setGroup g x).log = s.log := rfl
@[simp] theorem State.setGroup_evt (s : State) (g : Nat) (x : Group) : (s.setGroup g x).evt = s.evt := rfl
@[simp] theorem State.setGroup_img (s : State) (g : Nat) (x : Group) : (s.setGroup g x).img = s.img := rfl
@[simp] theorem State.setGroup_bcn (s : State) (g : Nat) (x : Group) : (s.setGroup g x).bcn = s.bcn := rfl
@[simp] theorem State.setGroup_ports (s : State) (g : Nat) (x : Group) : (s.setGroup g x).ports = s.ports := rfl
@[simp] theorem State.setGroup_rdg (s : State) (g : Nat) (x : Group) : (s.setGroup g x).rdg = s.rdg := rfl
@[simp] theorem State.setGroup_cdv (s : State) (g : Nat) (x : Group) : (s.setGroup g x).cdv = s.cdv := rfl
@[simp] theorem State.setGroup_bin (s : State) (g : Nat) (x : Group) : (s.setGroup g x).bin = s.bin := rfl
@[simp] theorem State.setGroup_can (s : State) (g : Nat) (x : Group) : (s.setGroup g x).can = s.can := rfl
@[simp] theorem State.setGroup_prf (s : State) (g : Nat) (x : Group) : (s.setGroup g x).prf = s.prf := rfl
@[simp] theorem State.setGroup_pln (s : State) (g : Nat) (x : Group) : (s.setGroup g x).pln = s.pln := rfl
@[simp] theorem State.setGroup_svi (s : State) (g : Nat) (x : Group) : (s.setGroup g x).svi = s.svi := rfl
@[simp] theorem State.setGroup_lmp (s : State) (g : Nat) (x : Group) : (s.setGroup g x).lmp = s.lmp := rfl
@[simp] theorem State.setGroup_hst (s : State) (g : Nat) (x : Group) : (s.setGroup g x).hst = s.hst := rfl
@[simp] theorem State.setGroup_kpr (s : State) (g : Nat) (x : Group) : (s.setGroup g x).kpr = s.kpr := rfl
@[simp] theorem State.setGroup_gal (s : State) (g : Nat) (x : Group) : (s.setGroup g x).gal = s.gal := rfl
@[simp] theorem State.setGroup_pub (s : State) (g : Nat) (x : Group) : (s.setGroup g x).pub = s.pub := rfl
@[simp] theorem State.setGroup_pair (s : State) (g : Nat) (x : Group) : (s.setGroup g x).pair = s.pair := rfl

/-! ### `State.setRef` -/

@[simp] theorem State.setRef_pending (s : State) (r : Nat) (x : Ref) : (s.setRef r x).pending = s.pending := by
  unfold State.setRef; dsimp only; repeat (first | rfl | split)
@[simp] theorem State.setRef_out (s : State) (r : Nat) (x : Ref) : (s.setRef r x).out = s.out := by
  unfold State.setRef; dsimp only; repeat (first | rfl | split)
@[simp] theorem State.setRef_readData (s : State) (r : Nat) (x : Ref) : (s.setRef r x).readData = s.readData := by
  unfold State.setRef; dsimp only; repeat (first | rfl | split)
@[simp] theorem State.setRef_regs (s : State) (r : Nat) (x : Ref) : (s.setRef r x).regs = s.regs := by
  unfold State.setRef; dsimp only; repeat (first | rfl | split)
@[simp] theorem State.setRef_cmds (s : State) (r : Nat) (x : Ref) : (s.setRef r x).cmds = s.cmds := by
  unfold State.setRef; dsimp only; repeat (first | rfl | split)
@[simp] theorem State.setRef_once (s : State) (r : Nat) (x : Ref) : (s.setRef r x).once = s.once := by
  unfold State.setRef; dsimp only; repeat (first | rfl | split)
@[simp] theorem State.setRef_time (s : State) (r : Nat) (x : Ref) : (s.setRef r x).time = s.time := by
  unfold State.setRef; dsimp only; repeat (first | rfl | split)
@[simp] theorem State.setRef_glb (s : State) (r : Nat) (x : Ref) : (s.setRef r x).glb = s.glb := by
  unfold State.setRef; dsimp only; repeat (first | rfl | split)
@[simp] theorem State.setRef_pwr (s : State) (r : Nat) (x : Ref) : (s.setRef r x).pwr = s.pwr := by
  unfold State.setRef; dsimp only; repeat (first | rfl | split)
@[simp] theorem State.setRef_log (s : State) (r : Nat) (x : Ref) : (s.setRef r x).log = s.log := by
  unfold State.setRef; dsimp only; repeat (first | rfl | split)
@[simp] theorem State.setRef_evt (s : State) (r : Nat) (x : Ref) : (s.setRef r x).evt = s.evt := by
  unfold State.setRef; dsimp only; repeat (first | rfl | split)
@[simp] theorem State.setRef_img (s : State) (r : Nat) (x : Ref) : (s.setRef r x).img = s.img := by
  unfold State.setRef; dsimp only; repeat (first | rfl | split)
@[simp] theorem State.setRef_ports (s : State) (r : Nat) (x : Ref) : (s.setRef r x).ports = s.ports := by
  unfold State.setRef; dsimp only; repeat (first | rfl | split)
@[simp] theorem State.setRef_rdg (s : State) (r : Nat) (x : Ref) : (s.setRef r x).rdg = s.rdg := by
  unfold State.setRef; dsimp only; repeat (first | rfl | split)
@[simp] theorem State.setRef_cdv (s : State) (r : Nat) (x : Ref) : (s.setRef r x).cdv = s.cdv := by
  unfold State.setRef; dsimp only; repeat (first | rfl | split)
@[simp] theorem State.setRef_bin (s : State) (r : Nat) (x : Ref) : (s.setRef r x).bin = s.bin := by
  unfold State.setRef; dsimp only; repeat (first | rfl | split)
@[simp] theorem State.setRef_can (s : State) (r : Nat) (x : Ref) : (s.setRef r x).can = s.can := by
  unfold State.setRef; dsimp only; repeat (first | rfl | split)
@[simp] theorem State.setRef_prf (s : State) (r : Nat) (x : Ref) : (s.setRef r x).prf = s.prf := by
  unfold State.setRef; dsimp only; repeat (first | rfl | split)
@[simp] theorem State.setRef_pln (s : State) (r : Nat) (x : Ref) : (s.setRef r x).pln = s.pln := by
  unfold State.setRef; dsimp only; repeat (first | rfl | split)
@[simp] theorem State.setRef_svi (s : State) (r : Nat) (x : Ref) : (s.setRef r x).svi = s.svi := by
  unfold State.setRef; dsimp only; repeat (first | rfl | split)
@[simp] theorem State.setRef_cnd (s : State) (r : Nat) (x : Ref) : (s.setRef r x).cnd = s.cnd := by
  unfold State.setRef; dsimp only; repeat (first | rfl | split)
@[simp] theorem State.setRef_lmp (s : State) (r : Nat) (x : Ref) : (s.setRef r x).lmp = s.lmp := by
  unfold State.setRef; dsimp only; repeat (first | rfl | split)
@[simp] theorem State.setRef_hst (s : State) (r : Nat) (x : Ref) : (s.setRef r x).hst = s.hst := by
  unfold State.setRef; dsimp only; repeat (first | rfl | split)
@[simp] theorem State.setRef_kpr (s : State) (r : Nat) (x : Ref) : (s.setRef r x).kpr = s.kpr := by
  unfold State.setRef; dsimp only; repeat (first | rfl | split)
@[simp] theorem State.setRef_gal (s : State) (r : Nat) (x : Ref) : (s.setRef r x).gal = s.gal := by
  unfold State.setRef; dsimp only; repeat (first | rfl | split)
@[simp] theorem State.setRef_pub (s : State) (r : Nat) (x : Ref) : (s.setRef r x).pub = s.pub := by
  unfold State.setRef; dsimp only; repeat (first | rfl | split)
@[simp] theorem State.setRef_pair (s : State) (r : Nat) (x : Ref) : (s.setRef r x).pair = s.pair := by
  unfold State.setRef; dsimp only; repeat (first | rfl | split)

/-! ### `State.setPrf` -/

@[simp] theorem State.setPrf_pending (s : State) (g : Nat) (c : PrfCtr) : (s.setPrf g c).pending = s.pending := rfl
@[simp] theorem State.setPrf_out (s : State) (g : Nat) (c : PrfCtr) : (s.setPrf g c).out = s.out := rfl
@[simp] theorem State.setPrf_readData (s : State) (g : Nat) (c : PrfCtr) : (s.setPrf g c).readData = s.readData := rfl
@[simp] theorem State.setPrf_regs (s : State) (g : Nat) (c : PrfCtr) : (s.setPrf g c).regs = s.regs := rfl
@[simp] theorem State.setPrf_cmds (s : State) (g : Nat) (c : PrfCtr) : (s.setPrf g c).cmds = s.cmds := rfl
@[simp] theorem State.setPrf_once (s : State) (g : Nat) (c : PrfCtr) : (s.setPrf g c).once = s.once := rfl
@[simp] theorem State.setPrf_time (s : State) (g : Nat) (c : PrfCtr) : (s.setPrf g c).time = s.time := rfl
@[simp] theorem State.setPrf_glb (s : State) (g : Nat) (c : PrfCtr) : (s.setPrf g c).glb = s.glb := rfl
@[simp] theorem State.setPrf_pwr (s : State) (g : Nat) (c : PrfCtr) : (s.setPrf g c).pwr = s.pwr := rfl
@[simp] theorem State.setPrf_log (s : State) (g : Nat) (c : PrfCtr) : (s.setPrf g c).log = s.log := rfl
@[simp] theorem State.setPrf_evt (s : State) (g : Nat) (c : PrfCtr) : (s.setPrf g c).evt = s.evt := rfl
@[simp] theorem State.setPrf_img (s : State) (g : Nat) (c : PrfCtr) : (s.setPrf g c).img = s.img := rfl
@[simp] theorem State.setPrf_bcn (s : State) (g : Nat) (c : PrfCtr) : (s.setPrf g c).bcn = s.bcn := rfl
@[simp] theorem State.setPrf_ports (s : State) (g : Nat) (c : PrfCtr) : (s.setPrf g c).ports = s.ports := rfl
@[simp] theorem State.setPrf_rdg (s : State) (g : Nat) (c : PrfCtr) : (s.setPrf g c).rdg = s.rdg := rfl
@[simp] theorem State.setPrf_cdv (s : State) (g : Nat) (c : PrfCtr) : (s.setPrf g c).cdv = s.cdv := rfl
@[simp] theorem State.setPrf_bin (s : State) (g : Nat) (c : PrfCtr) : (s.setPrf g c).bin = s.bin := rfl
@[simp] theorem State.setPrf_can (s : State) (g : Nat) (c : PrfCtr) : (s.setPrf g c).can = s.can := rfl
@[simp] theorem State.setPrf_pln (s : State) (g : Nat) (c : PrfCtr) : (s.setPrf g c).pln = s.pln := rfl
@[simp] theorem State.setPrf_svi (s : State) (g : Nat) (c : PrfCtr) : (s.setPrf g c).svi = s.svi := rfl
@[simp] theorem State.setPrf_cnd (s : State) (g : Nat) (c : PrfCtr) : (s.setPrf g c).cnd = s.cnd := rfl
@[simp] theorem State.setPrf_lmp (s : State) (g : Nat) (c : PrfCtr) : (s.setPrf g c).lmp = s.lmp := rfl
@[simp] theorem State.setPrf_hst (s : State) (g : Nat) (c : PrfCtr) : (s.setPrf g c).hst = s.hst := rfl
@[simp] theorem State.setPrf_kpr (s : State) (g : Nat) (c : PrfCtr) : (s.setPrf g c).kpr = s.kpr := rfl
@[simp] theorem State.setPrf_gal (s : State) (g : Nat) (c : PrfCtr) : (s.setPrf g c).gal = s.gal := rfl
@[simp] theorem State.setPrf_pub (s : State) (g : Nat) (c : PrfCtr) : (s.setPrf g c).pub = s.pub := rfl
@[simp] theorem State.setPrf_pair (s : State) (g : Nat) (c : PrfCtr) : (s.setPrf g c).pair = s.pair := rfl

/-! ### `State.setAsym` -/

@[simp] theorem State.setAsym_pending (s : State) (p : Nat) (a : Asym) : (s.setAsym p a).pending = s.pending := rfl
@[simp] theorem State.setAsym_out (s : State) (p : Nat) (a : Asym) : (s.setAsym p a).out = s.out := rfl
@[simp] theorem State.setAsym_readData (s : State) (p : Nat) (a : Asym) : (s.setAsym p a).readData = s.readData := rfl
@[simp] theorem State.setAsym_regs (s : State) (p : Nat) (a : Asym) : (s.setAsym p a).regs = s.regs := rfl
@[simp] theorem State.setAsym_cmds (s : State) (p : Nat) (a : Asym) : (s.setAsym p a).cmds = s.cmds := rfl
@[simp] theorem State.setAsym_once (s : State) (p : Nat) (a : Asym) : (s.setAsym p a).once = s.once := rfl
@[simp] theorem State.setAsym_time (s : State) (p : Nat) (a : Asym) : (s.setAsym p a).time = s.time := rfl
@[simp] theorem State.setAsym_glb (s : State) (p : Nat) (a : Asym) : (s.setAsym p a).glb = s.glb := rfl
@[simp] theorem State.setAsym_pwr (s : State) (p : Nat) (a : Asym) : (s.setAsym p a).pwr = s.pwr := rfl
@[simp] theorem State.setAsym_log (s : State) (p : Nat) (a : Asym) : (s.setAsym p a).log = s.log := rfl
@[simp] theorem State.setAsym_evt (s : State) (p : Nat) (a : Asym) : (s.setAsym p a).evt = s.evt := rfl
@[simp] theorem State.setAsym_img (s : State) (p : Nat) (a : Asym) : (s.setAsym p a).img = s.img := rfl
@[simp] theorem State.setAsym_ports (s : State) (p : Nat) (a : Asym) : (s.setAsym p a).ports = s.ports := rfl
@[simp] theorem State.setAsym_rdg (s : State) (p : Nat) (a : Asym) : (s.setAsym p a).rdg = s.rdg := rfl
@[simp] theorem State.setAsym_cdv (s : State) (p : Nat) (a : Asym) : (s.setAsym p a).cdv = s.cdv := rfl
@[simp] theorem State.setAsym_bin (s : State) (p : Nat) (a : Asym) : (s.setAsym p a).bin = s.bin := rfl
@[simp] theorem State.setAsym_can (s : State) (p : Nat) (a : Asym) : (s.setAsym p a).can = s.can := rfl
@[simp] theorem State.setAsym_prf (s : State) (p : Nat) (a : Asym) : (s.setAsym p a).prf = s.prf := rfl
@[simp] theorem State.setAsym_pln (s : State) (p : Nat) (a : Asym) : (s.setAsym p a).pln = s.pln := rfl
@[simp] theorem State.setAsym_svi (s : State) (p : Nat) (a : Asym) : (s.setAsym p a).svi = s.svi := rfl
@[simp] theorem State.setAsym_cnd (s : State) (p : Nat) (a : Asym) : (s.setAsym p a).cnd = s.cnd := rfl
@[simp] theorem State.setAsym_lmp (s : State) (p : Nat) (a : Asym) : (s.setAsym p a).lmp = s.lmp := rfl
@[simp] theorem State.setAsym_hst (s : State) (p : Nat) (a : Asym) : (s.setAsym p a).hst = s.hst := rfl
@[simp] theorem State.setAsym_kpr (s : State) (p : Nat) (a : Asym) : (s.setAsym p a).kpr = s.kpr := rfl
@[simp] theorem State.setAsym_gal (s : State) (p : Nat) (a : Asym) : (s.setAsym p a).gal = s.gal := rfl
@[simp] theorem State.setAsym_pub (s : State) (p : Nat) (a : Asym) : (s.setAsym p a).pub = s.pub := rfl
@[simp] theorem State.setAsym_pair (s : State) (p : Nat) (a : Asym) : (s.setAsym p a).pair = s.pair := rfl

/-! ### `State.setNode` -/

@[simp] theorem State.setNode_pending (s : State) (x : Node) : (s.setNode x).pending = s.pending := rfl
@[simp] theorem State.setNode_out (s : State) (x : Node) : (s.setNode x).out = s.out := rfl
@[simp] theorem State.setNode_readData (s : State) (x : Node) : (s.setNode x).readData = s.readData := rfl
@[simp] theorem State.setNode_regs (s : State) (x : Node) : (s.setNode x).regs = s.regs := rfl
@[simp] theorem State.setNode_cmds (s : State) (x : Node) : (s.setNode x).cmds = s.cmds := rfl
@[simp] theorem State.setNode_once (s : State) (x : Node) : (s.setNode x).once = s.once := rfl
@[simp] theorem State.setNode_time (s : State) (x : Node) : (s.setNode x).time = s.time := rfl
@[simp] theorem State.setNode_glb (s : State) (x : Node) : (s.setNode x).glb = s.glb := rfl
@[simp] theorem State.setNode_pwr (s : State) (x : Node) : (s.setNode x).pwr = s.pwr := rfl
@[simp] theorem State.setNode_log (s : State) (x : Node) : (s.setNode x).log = s.log := rfl
@[simp] theorem State.setNode_evt (s : State) (x : Node) : (s.setNode x).evt = s.evt := rfl
@[simp] theorem State.setNode_img (s : State) (x : Node) : (s.setNode x).img = s.img := rfl
@[simp] theorem State.setNode_bcn (s : State) (x : Node) : (s.setNode x).bcn = s.bcn := rfl
@[simp] theorem State.setNode_ports (s : State) (x : Node) : (s.setNode x).ports = s.ports := rfl
@[simp] theorem State.setNode_cdv (s : State) (x : Node) : (s.setNode x).cdv = s.cdv := rfl
@[simp] theorem State.setNode_bin (s : State) (x : Node) : (s.setNode x).bin = s.bin := rfl
@[simp] theorem State.setNode_can (s : State) (x : Node) : (s.setNode x).can = s.can := rfl
@[simp] theorem State.setNode_prf (s : State) (x : Node) : (s.setNode x).prf = s.prf := rfl
@[simp] theorem State.setNode_pln (s : State) (x : Node) : (s.setNode x).pln = s.pln := rfl
@[simp] theorem State.setNode_svi (s : State) (x : Node) : (s.setNode x).svi = s.svi := rfl
@[simp] theorem State.setNode_cnd (s : State) (x : Node) : (s.setNode x).cnd = s.cnd := rfl
@[simp] theorem State.setNode_lmp (s : State) (x : Node) : (s.setNode x).lmp = s.lmp := rfl
@[simp] theorem State.setNode_hst (s : State) (x : Node) : (s.setNode x).hst = s.hst := rfl
@[simp] theorem State.setNode_kpr (s : State) (x : Node) : (s.setNode x).kpr = s.kpr := rfl
@[simp] theorem State.setNode_gal (s : State) (x : Node) : (s.setNode x).gal = s.gal := rfl
@[simp] theorem State.setNode_pub (s : State) (x : Node) : (s.setNode x).pub = s.pub := rfl
@[simp] theorem State.setNode_pair (s : State) (x : Node) : (s.setNode x).pair = s.pair := rfl

/-! ### `State.setCredit` -/

@[simp] theorem State.setCredit_pending (s : State) (p : Nat) (c : Nat) (v : Int) :
    (s.setCredit p c v).pending = s.pending := rfl
@[simp] theorem State.setCredit_out (s : State) (p : Nat) (c : Nat) (v : Int) : (s.setCredit p c v).out = s.out := rfl
@[simp] theorem State.setCredit_readData (s : State) (p : Nat) (c : Nat) (v : Int) :
    (s.setCredit p c v).readData = s.readData := rfl
@[simp] theorem State.setCredit_regs (s : State) (p : Nat) (c : Nat) (v : Int) :
    (s.setCredit p c v).regs = s.regs := rfl
@[simp] theorem State.setCredit_cmds (s : State) (p : Nat) (c : Nat) (v : Int) :
    (s.setCredit p c v).cmds = s.cmds := rfl
@[simp] theorem State.setCredit_once (s : State) (p : Nat) (c : Nat) (v : Int) :
    (s.setCredit p c v).once = s.once := rfl
@[simp] theorem State.setCredit_time (s : State) (p : Nat) (c : Nat) (v : Int) :
    (s.setCredit p c v).time = s.time := rfl
@[simp] theorem State.setCredit_glb (s : State) (p : Nat) (c : Nat) (v : Int) : (s.setCredit p c v).glb = s.glb := rfl
@[simp] theorem State.setCredit_pwr (s : State) (p : Nat) (c : Nat) (v : Int) : (s.setCredit p c v).pwr = s.pwr := rfl
@[simp] theorem State.setCredit_log (s : State) (p : Nat) (c : Nat) (v : Int) : (s.setCredit p c v).log = s.log := rfl
@[simp] theorem State.setCredit_evt (s : State) (p : Nat) (c : Nat) (v : Int) : (s.setCredit p c v).evt = s.evt := rfl
@[simp] theorem State.setCredit_img (s : State) (p : Nat) (c : Nat) (v : Int) : (s.setCredit p c v).img = s.img := rfl
@[simp] theorem State.setCredit_bcn (s : State) (p : Nat) (c : Nat) (v : Int) : (s.setCredit p c v).bcn = s.bcn := rfl
@[simp] theorem State.setCredit_ports (s : State) (p : Nat) (c : Nat) (v : Int) :
    (s.setCredit p c v).ports = s.ports := rfl
@[simp] theorem State.setCredit_cdv (s : State) (p : Nat) (c : Nat) (v : Int) : (s.setCredit p c v).cdv = s.cdv := rfl
@[simp] theorem State.setCredit_bin (s : State) (p : Nat) (c : Nat) (v : Int) : (s.setCredit p c v).bin = s.bin := rfl
@[simp] theorem State.setCredit_can (s : State) (p : Nat) (c : Nat) (v : Int) : (s.setCredit p c v).can = s.can := rfl
@[simp] theorem State.setCredit_prf (s : State) (p : Nat) (c : Nat) (v : Int) : (s.setCredit p c v).prf = s.prf := rfl
@[simp] theorem State.setCredit_pln (s : State) (p : Nat) (c : Nat) (v : Int) : (s.setCredit p c v).pln = s.pln := rfl
@[simp] theorem State.setCredit_svi (s : State) (p : Nat) (c : Nat) (v : Int) : (s.setCredit p c v).svi = s.svi := rfl
@[simp] theorem State.setCredit_cnd (s : State) (p : Nat) (c : Nat) (v : Int) : (s.setCredit p c v).cnd = s.cnd := rfl
@[simp] theorem State.setCredit_lmp (s : State) (p : Nat) (c : Nat) (v : Int) : (s.setCredit p c v).lmp = s.lmp := rfl
@[simp] theorem State.setCredit_hst (s : State) (p : Nat) (c : Nat) (v : Int) : (s.setCredit p c v).hst = s.hst := rfl
@[simp] theorem State.setCredit_kpr (s : State) (p : Nat) (c : Nat) (v : Int) : (s.setCredit p c v).kpr = s.kpr := rfl
@[simp] theorem State.setCredit_gal (s : State) (p : Nat) (c : Nat) (v : Int) : (s.setCredit p c v).gal = s.gal := rfl
@[simp] theorem State.setCredit_pub (s : State) (p : Nat) (c : Nat) (v : Int) : (s.setCredit p c v).pub = s.pub := rfl
@[simp] theorem State.setCredit_pair (s : State) (p : Nat) (c : Nat) (v : Int) :
    (s.setCredit p c v).pair = s.pair := rfl

/-! ### `State.setKeeper` -/

@[simp] theorem State.setKeeper_pending (s : State) (k : Nat) (x : Keeper) :
    (s.setKeeper k x).pending = s.pending := rfl
@[simp] theorem State.setKeeper_out (s : State) (k : Nat) (x : Keeper) : (s.setKeeper k x).out = s.out := rfl
@[simp] theorem State.setKeeper_readData (s : State) (k : Nat) (x : Keeper) :
    (s.setKeeper k x).readData = s.readData := rfl
@[simp] theorem State.setKeeper_regs (s : State) (k : Nat) (x : Keeper) : (s.setKeeper k x).regs = s.regs := rfl
@[simp] theorem State.setKeeper_cmds (s : State) (k : Nat) (x : Keeper) : (s.setKeeper k x).cmds = s.cmds := rfl
@[simp] theorem State.setKeeper_once (s : State) (k : Nat) (x : Keeper) : (s.setKeeper k x).once = s.once := rfl
@[simp] theorem State.setKeeper_time (s : State) (k : Nat) (x : Keeper) : (s.setKeeper k x).time = s.time := rfl
@[simp] theorem State.setKeeper_glb (s : State) (k : Nat) (x : Keeper) : (s.setKeeper k x).glb = s.glb := rfl
@[simp] theorem State.setKeeper_pwr (s : State) (k : Nat) (x : Keeper) : (s.setKeeper k x).pwr = s.pwr := rfl
@[simp] theorem State.setKeeper_log (s : State) (k : Nat) (x : Keeper) : (s.setKeeper k x).log = s.log := rfl
@[simp] theorem State.setKeeper_evt (s : State) (k : Nat) (x : Keeper) : (s.setKeeper k x).evt = s.evt := rfl
@[simp] theorem State.setKeeper_img (s : State) (k : Nat) (x : Keeper) : (s.setKeeper k x).img = s.img := rfl
@[simp] theorem State.setKeeper_bcn (s : State) (k : Nat) (x : Keeper) : (s.setKeeper k x).bcn = s.bcn := rfl
@[simp] theorem State.setKeeper_ports (s : State) (k : Nat) (x : Keeper) : (s.setKeeper k x).ports = s.ports := rfl
@[simp] theorem State.setKeeper_rdg (s : State) (k : Nat) (x : Keeper) : (s.setKeeper k x).rdg = s.rdg := rfl
@[simp] theorem State.setKeeper_cdv (s : State) (k : Nat) (x : Keeper) : (s.setKeeper k x).cdv = s.cdv := rfl
@[simp] theorem State.setKeeper_bin (s : State) (k : Nat) (x : Keeper) : (s.setKeeper k x).bin = s.bin := rfl
@[simp] theorem State.setKeeper_can (s : State) (k : Nat) (x : Keeper) : (s.setKeeper k x).can = s.can := rfl
@[simp] theorem State.setKeeper_prf (s : State) (k : Nat) (x : Keeper) : (s.setKeeper k x).prf = s.prf := rfl
@[simp] theorem State.setKeeper_pln (s : State) (k : Nat) (x : Keeper) : (s.setKeeper k x).pln = s.pln := rfl
@[simp] theorem State.setKeeper_svi (s : State) (k : Nat) (x : Keeper) : (s.setKeeper k x).svi = s.svi := rfl
@[simp] theorem State.setKeeper_cnd (s : State) (k : Nat) (x : Keeper) : (s.setKeeper k x).cnd = s.cnd := rfl
@[simp] theorem State.setKeeper_lmp (s : State) (k : Nat) (x : Keeper) : (s.setKeeper k x).lmp = s.lmp := rfl
@[simp] theorem State.setKeeper_hst (s : State) (k : Nat) (x : Keeper) : (s.setKeeper k x).hst = s.hst := rfl
@[simp] theorem State.setKeeper_gal (s : State) (k : Nat) (x : Keeper) : (s.setKeeper k x).gal = s.gal := rfl
@[simp] theorem State.setKeeper_pub (s : State) (k : Nat) (x : Keeper) : (s.setKeeper k x).pub = s.pub := rfl
@[simp] theorem State.setKeeper_pair (s : State) (k : Nat) (x : Keeper) : (s.setKeeper k x).pair = s.pair := rfl

/-! ### `State.setReader` -/

@[simp] theorem State.setReader_pending (s : State) (q : Requester) (r : LogReader) :
    (s.setReader q r).pending = s.pending := rfl
@[simp] theorem State.setReader_out (s : State) (q : Requester) (r : LogReader) : (s.setReader q r).out = s.out := rfl
@[simp] theorem State.setReader_readData (s : State) (q : Requester) (r : LogReader) :
    (s.setReader q r).readData = s.readData := rfl
@[simp] theorem State.setReader_regs (s : State) (q : Requester) (r : LogReader) :
    (s.setReader q r).regs = s.regs := rfl
@[simp] theorem State.setReader_cmds (s : State) (q : Requester) (r : LogReader) :
    (s.setReader q r).cmds = s.cmds := rfl
@[simp] theorem State.setReader_once (s : State) (q : Requester) (r : LogReader) :
    (s.setReader q r).once = s.once := rfl
@[simp] theorem State.setReader_time (s : State) (q : Requester) (r : LogReader) :
    (s.setReader q r).time = s.time := rfl
@[simp] theorem State.setReader_glb (s : State) (q : Requester) (r : LogReader) : (s.setReader q r).glb = s.glb := rfl
@[simp] theorem State.setReader_pwr (s : State) (q : Requester) (r : LogReader) : (s.setReader q r).pwr = s.pwr := rfl
@[simp] theorem State.setReader_evt (s : State) (q : Requester) (r : LogReader) : (s.setReader q r).evt = s.evt := rfl
@[simp] theorem State.setReader_img (s : State) (q : Requester) (r : LogReader) : (s.setReader q r).img = s.img := rfl
@[simp] theorem State.setReader_bcn (s : State) (q : Requester) (r : LogReader) : (s.setReader q r).bcn = s.bcn := rfl
@[simp] theorem State.setReader_ports (s : State) (q : Requester) (r : LogReader) :
    (s.setReader q r).ports = s.ports := rfl
@[simp] theorem State.setReader_rdg (s : State) (q : Requester) (r : LogReader) : (s.setReader q r).rdg = s.rdg := rfl
@[simp] theorem State.setReader_cdv (s : State) (q : Requester) (r : LogReader) : (s.setReader q r).cdv = s.cdv := rfl
@[simp] theorem State.setReader_bin (s : State) (q : Requester) (r : LogReader) : (s.setReader q r).bin = s.bin := rfl
@[simp] theorem State.setReader_can (s : State) (q : Requester) (r : LogReader) : (s.setReader q r).can = s.can := rfl
@[simp] theorem State.setReader_prf (s : State) (q : Requester) (r : LogReader) : (s.setReader q r).prf = s.prf := rfl
@[simp] theorem State.setReader_pln (s : State) (q : Requester) (r : LogReader) : (s.setReader q r).pln = s.pln := rfl
@[simp] theorem State.setReader_svi (s : State) (q : Requester) (r : LogReader) : (s.setReader q r).svi = s.svi := rfl
@[simp] theorem State.setReader_cnd (s : State) (q : Requester) (r : LogReader) : (s.setReader q r).cnd = s.cnd := rfl
@[simp] theorem State.setReader_lmp (s : State) (q : Requester) (r : LogReader) : (s.setReader q r).lmp = s.lmp := rfl
@[simp] theorem State.setReader_hst (s : State) (q : Requester) (r : LogReader) : (s.setReader q r).hst = s.hst := rfl
@[simp] theorem State.setReader_kpr (s : State) (q : Requester) (r : LogReader) : (s.setReader q r).kpr = s.kpr := rfl
@[simp] theorem State.setReader_gal (s : State) (q : Requester) (r : LogReader) : (s.setReader q r).gal = s.gal := rfl
@[simp] theorem State.setReader_pub (s : State) (q : Requester) (r : LogReader) : (s.setReader q r).pub = s.pub := rfl
@[simp] theorem State.setReader_pair (s : State) (q : Requester) (r : LogReader) :
    (s.setReader q r).pair = s.pair := rfl

/-! ### `State.setPub` -/

@[simp] theorem State.setPub_pending (s : State) (p : Nat) (x : PubSt) : (s.setPub p x).pending = s.pending := rfl
@[simp] theorem State.setPub_out (s : State) (p : Nat) (x : PubSt) : (s.setPub p x).out = s.out := rfl
@[simp] theorem State.setPub_readData (s : State) (p : Nat) (x : PubSt) : (s.setPub p x).readData = s.readData := rfl
@[simp] theorem State.setPub_regs (s : State) (p : Nat) (x : PubSt) : (s.setPub p x).regs = s.regs := rfl
@[simp] theorem State.setPub_cmds (s : State) (p : Nat) (x : PubSt) : (s.setPub p x).cmds = s.cmds := rfl
@[simp] theorem State.setPub_once (s : State) (p : Nat) (x : PubSt) : (s.setPub p x).once = s.once := rfl
@[simp] theorem State.setPub_time (s : State) (p : Nat) (x : PubSt) : (s.setPub p x).time = s.time := rfl
@[simp] theorem State.setPub_glb (s : State) (p : Nat) (x : PubSt) : (s.setPub p x).glb = s.glb := rfl
@[simp] theorem State.setPub_pwr (s : State) (p : Nat) (x : PubSt) : (s.setPub p x).pwr = s.pwr := rfl
@[simp] theorem State.setPub_log (s : State) (p : Nat) (x : PubSt) : (s.setPub p x).log = s.log := rfl
@[simp] theorem State.setPub_evt (s : State) (p : Nat) (x : PubSt) : (s.setPub p x).evt = s.evt := rfl
@[simp] theorem State.setPub_img (s : State) (p : Nat) (x : PubSt) : (s.setPub p x).img = s.img := rfl
@[simp] theorem State.setPub_bcn (s : State) (p : Nat) (x : PubSt) : (s.setPub p x).bcn = s.bcn := rfl
@[simp] theorem State.setPub_ports (s : State) (p : Nat) (x : PubSt) : (s.setPub p x).ports = s.ports := rfl
@[simp] theorem State.setPub_rdg (s : State) (p : Nat) (x : PubSt) : (s.setPub p x).rdg = s.rdg := rfl
@[simp] theorem State.setPub_cdv (s : State) (p : Nat) (x : PubSt) : (s.setPub p x).cdv = s.cdv := rfl
@[simp] theorem State.setPub_bin (s : State) (p : Nat) (x : PubSt) : (s.setPub p x).bin = s.bin := rfl
@[simp] theorem State.setPub_can (s : State) (p : Nat) (x : PubSt) : (s.setPub p x).can = s.can := rfl
@[simp] theorem State.setPub_prf (s : State) (p : Nat) (x : PubSt) : (s.setPub p x).prf = s.prf := rfl
@[simp] theorem State.setPub_pln (s : State) (p : Nat) (x : PubSt) : (s.setPub p x).pln = s.pln := rfl
@[simp] theorem State.setPub_svi (s : State) (p : Nat) (x : PubSt) : (s.setPub p x).svi = s.svi := rfl
@[simp] theorem State.setPub_cnd (s : State) (p : Nat) (x : PubSt) : (s.setPub p x).cnd = s.cnd := rfl
@[simp] theorem State.setPub_lmp (s : State) (p : Nat) (x : PubSt) : (s.setPub p x).lmp = s.lmp := rfl
@[simp] theorem State.setPub_hst (s : State) (p : Nat) (x : PubSt) : (s.setPub p x).hst = s.hst := rfl
@[simp] theorem State.setPub_kpr (s : State) (p : Nat) (x : PubSt) : (s.setPub p x).kpr = s.kpr := rfl
@[simp] theorem State.setPub_gal (s : State) (p : Nat) (x : PubSt) : (s.setPub p x).gal = s.gal := rfl
@[simp] theorem State.setPub_pair (s : State) (p : Nat) (x : PubSt) : (s.setPub p x).pair = s.pair := rfl

/-! ### `State.setSub` -/

@[simp] theorem State.setSub_pending (s : State) (i : Nat) (x : SubSt) : (s.setSub i x).pending = s.pending := rfl
@[simp] theorem State.setSub_out (s : State) (i : Nat) (x : SubSt) : (s.setSub i x).out = s.out := rfl
@[simp] theorem State.setSub_readData (s : State) (i : Nat) (x : SubSt) : (s.setSub i x).readData = s.readData := rfl
@[simp] theorem State.setSub_regs (s : State) (i : Nat) (x : SubSt) : (s.setSub i x).regs = s.regs := rfl
@[simp] theorem State.setSub_cmds (s : State) (i : Nat) (x : SubSt) : (s.setSub i x).cmds = s.cmds := rfl
@[simp] theorem State.setSub_once (s : State) (i : Nat) (x : SubSt) : (s.setSub i x).once = s.once := rfl
@[simp] theorem State.setSub_time (s : State) (i : Nat) (x : SubSt) : (s.setSub i x).time = s.time := rfl
@[simp] theorem State.setSub_glb (s : State) (i : Nat) (x : SubSt) : (s.setSub i x).glb = s.glb := rfl
@[simp] theorem State.setSub_pwr (s : State) (i : Nat) (x : SubSt) : (s.setSub i x).pwr = s.pwr := rfl
@[simp] theorem State.setSub_log (s : State) (i : Nat) (x : SubSt) : (s.setSub i x).log = s.log := rfl
@[simp] theorem State.setSub_evt (s : State) (i : Nat) (x : SubSt) : (s.setSub i x).evt = s.evt := rfl
@[simp] theorem State.setSub_img (s : State) (i : Nat) (x : SubSt) : (s.setSub i x).img = s.img := rfl
@[simp] theorem State.setSub_bcn (s : State) (i : Nat) (x : SubSt) : (s.setSub i x).bcn = s.bcn := rfl
@[simp] theorem State.setSub_ports (s : State) (i : Nat) (x : SubSt) : (s.setSub i x).ports = s.ports := rfl
@[simp] theorem State.setSub_rdg (s : State) (i : Nat) (x : SubSt) : (s.setSub i x).rdg = s.rdg := rfl
@[simp] theorem State.setSub_cdv (s : State) (i : Nat) (x : SubSt) : (s.setSub i x).cdv = s.cdv := rfl
@[simp] theorem State.setSub_bin (s : State) (i : Nat) (x : SubSt) : (s.setSub i x).bin = s.bin := rfl
@[simp] theorem State.setSub_can (s : State) (i : Nat) (x : SubSt) : (s.setSub i x).can = s.can := rfl
@[simp] theorem State.setSub_prf (s : State) (i : Nat) (x : SubSt) : (s.setSub i x).prf = s.prf := rfl
@[simp] theorem State.setSub_pln (s : State) (i : Nat) (x : SubSt) : (s.setSub i x).pln = s.pln := rfl
@[simp] theorem State.setSub_svi (s : State) (i : Nat) (x : SubSt) : (s.setSub i x).svi = s.svi := rfl
@[simp] theorem State.setSub_cnd (s : State) (i : Nat) (x : SubSt) : (s.setSub i x).cnd = s.cnd := rfl
@[simp] theorem State.setSub_lmp (s : State) (i : Nat) (x : SubSt) : (s.setSub i x).lmp = s.lmp := rfl
@[simp] theorem State.setSub_hst (s : State) (i : Nat) (x : SubSt) : (s.setSub i x).hst = s.hst := rfl
@[simp] theorem State.setSub_kpr (s : State) (i : Nat) (x : SubSt) : (s.setSub i x).kpr = s.kpr := rfl
@[simp] theorem State.setSub_gal (s : State) (i : Nat) (x : SubSt) : (s.setSub i x).gal = s.gal := rfl
@[simp] theorem State.setSub_pair (s : State) (i : Nat) (x : SubSt) : (s.setSub i x).pair = s.pair := rfl

/-! ### `State.setBank` -/

@[simp] theorem State.setBank_pending (s : State) (n : Nat) (b : Bank) : (s.setBank n b).pending = s.pending := by
  unfold State.setBank; dsimp only; repeat (first | rfl | split)
@[simp] theorem State.setBank_out (s : State) (n : Nat) (b : Bank) : (s.setBank n b).out = s.out := by
  unfold State.setBank; dsimp only; repeat (first | rfl | split)
@[simp] theorem State.setBank_readData (s : State) (n : Nat) (b : Bank) : (s.setBank n b).readData = s.readData := by
  unfold State.setBank; dsimp only; repeat (first | rfl | split)
@[simp] theorem State.setBank_regs (s : State) (n : Nat) (b : Bank) : (s.setBank n b).regs = s.regs := by
  unfold State.setBank; dsimp only; repeat (first | rfl | split)
@[simp] theorem State.setBank_cmds (s : State) (n : Nat) (b : Bank) : (s.setBank n b).cmds = s.cmds := by
  unfold State.setBank; dsimp only; repeat (first | rfl | split)
@[simp] theorem State.setBank_once (s : State) (n : Nat) (b : Bank) : (s.setBank n b).once = s.once := by
  unfold State.setBank; dsimp only; repeat (first | rfl | split)
@[simp] theorem State.setBank_time (s : State) (n : Nat) (b : Bank) : (s.setBank n b).time = s.time := by
  unfold State.setBank; dsimp only; repeat (first | rfl | split)
@[simp] theorem State.setBank_glb (s : State) (n : Nat) (b : Bank) : (s.setBank n b).glb = s.glb := by
  unfold State.setBank; dsimp only; repeat (first | rfl | split)
@[simp] theorem State.setBank_pwr (s : State) (n : Nat) (b : Bank) : (s.setBank n b).pwr = s.pwr := by
  unfold State.setBank; dsimp only; repeat (first | rfl | split)
@[simp] theorem State.setBank_log (s : State) (n : Nat) (b : Bank) : (s.setBank n b).log = s.log := by
  unfold State.setBank; dsimp only; repeat (first | rfl | split)
@[simp] theorem State.setBank_evt (s : State) (n : Nat) (b : Bank) : (s.setBank n b).evt = s.evt := by
  unfold State.setBank; dsimp only; repeat (first | rfl | split)
@[simp] theorem State.setBank_bcn (s : State) (n : Nat) (b : Bank) : (s.setBank n b).bcn = s.bcn := by
  unfold State.setBank; dsimp only; repeat (first | rfl | split)
@[simp] theorem State.setBank_ports (s : State) (n : Nat) (b : Bank) : (s.setBank n b).ports = s.ports := by
  unfold State.setBank; dsimp only; repeat (first | rfl | split)
@[simp] theorem State.setBank_rdg (s : State) (n : Nat) (b : Bank) : (s.setBank n b).rdg = s.rdg := by
  unfold State.setBank; dsimp only; repeat (first | rfl | split)
@[simp] theorem State.setBank_cdv (s : State) (n : Nat) (b : Bank) : (s.setBank n b).cdv = s.cdv := by
  unfold State.setBank; dsimp only; repeat (first | rfl | split)
@[simp] theorem State.setBank_bin (s : State) (n : Nat) (b : Bank) : (s.setBank n b).bin = s.bin := by
  unfold State.setBank; dsimp only; repeat (first | rfl | split)
@[simp] theorem State.setBank_can (s : State) (n : Nat) (b : Bank) : (s.setBank n b).can = s.can := by
  unfold State.setBank; dsimp only; repeat (first | rfl | split)
@[simp] theorem State.setBank_prf (s : State) (n : Nat) (b : Bank) : (s.setBank n b).prf = s.prf := by
  unfold State.setBank; dsimp only; repeat (first | rfl | split)
@[simp] theorem State.setBank_pln (s : State) (n : Nat) (b : Bank) : (s.setBank n b).pln = s.pln := by
  unfold State.setBank; dsimp only; repeat (first | rfl | split)
@[simp] theorem State.setBank_svi (s : State) (n : Nat) (b : Bank) : (s.setBank n b).svi = s.svi := by
  unfold State.setBank; dsimp only; repeat (first | rfl | split)
@[simp] theorem State.setBank_cnd (s : State) (n : Nat) (b : Bank) : (s.setBank n b).cnd = s.cnd := by
  unfold State.setBank; dsimp only; repeat (first | rfl | split)
@[simp] theorem State.setBank_lmp (s : State) (n : Nat) (b : Bank) : (s.setBank n b).lmp = s.lmp := by
  unfold State.setBank; dsimp only; repeat (first | rfl | split)
@[simp] theorem State.setBank_hst (s : State) (n : Nat) (b : Bank) : (s.setBank n b).hst = s.hst := by
  unfold State.setBank; dsimp only; repeat (first | rfl | split)
@[simp] theorem State.setBank_kpr (s : State) (n : Nat) (b : Bank) : (s.setBank n b).kpr = s.kpr := by
  unfold State.setBank; dsimp only; repeat (first | rfl | split)
@[simp] theorem State.setBank_gal (s : State) (n : Nat) (b : Bank) : (s.setBank n b).gal = s.gal := by
  unfold State.setBank; dsimp only; repeat (first | rfl | split)
@[simp] theorem State.setBank_pub (s : State) (n : Nat) (b : Bank) : (s.setBank n b).pub = s.pub := by
  unfold State.setBank; dsimp only; repeat (first | rfl | split)
@[simp] theorem State.setBank_pair (s : State) (n : Nat) (b : Bank) : (s.setBank n b).pair = s.pair := by
  unfold State.setBank; dsimp only; repeat (first | rfl | split)

/-! ### `State.setCan` -/

@[simp] theorem State.setCan_pending (s : State) (c : Nat) (x : CanCtl) : (s.setCan c x).pending = s.pending := rfl
@[simp] theorem State.setCan_out (s : State) (c : Nat) (x : CanCtl) : (s.setCan c x).out = s.out := rfl
@[simp] theorem State.setCan_readData (s : State) (c : Nat) (x : CanCtl) : (s.setCan c x).readData = s.readData := rfl
@[simp] theorem State.setCan_regs (s : State) (c : Nat) (x : CanCtl) : (s.setCan c x).regs = s.regs := rfl
@[simp] theorem State.setCan_cmds (s : State) (c : Nat) (x : CanCtl) : (s.setCan c x).cmds = s.cmds := rfl
@[simp] theorem State.setCan_once (s : State) (c : Nat) (x : CanCtl) : (s.setCan c x).once = s.once := rfl
@[simp] theorem State.setCan_time (s : State) (c : Nat) (x : CanCtl) : (s.setCan c x).time = s.time := rfl
@[simp] theorem State.setCan_glb (s : State) (c : Nat) (x : CanCtl) : (s.setCan c x).glb = s.glb := rfl
@[simp] theorem State.setCan_pwr (s : State) (c : Nat) (x : CanCtl) : (s.setCan c x).pwr = s.pwr := rfl
@[simp] theorem State.setCan_log (s : State) (c : Nat) (x : CanCtl) : (s.setCan c x).log = s.log := rfl
@[simp] theorem State.setCan_evt (s : State) (c : Nat) (x : CanCtl) : (s.setCan c x).evt = s.evt := rfl
@[simp] theorem State.setCan_img (s : State) (c : Nat) (x : CanCtl) : (s.setCan c x).img = s.img := rfl
@[simp] theorem State.setCan_bcn (s : State) (c : Nat) (x : CanCtl) : (s.setCan c x).bcn = s.bcn := rfl
@[simp] theorem State.setCan_ports (s : State) (c : Nat) (x : CanCtl) : (s.setCan c x).ports = s.ports := rfl
@[simp] theorem State.setCan_rdg (s : State) (c : Nat) (x : CanCtl) : (s.setCan c x).rdg = s.rdg := rfl
@[simp] theorem State.setCan_cdv (s : State) (c : Nat) (x : CanCtl) : (s.setCan c x).cdv = s.cdv := rfl
@[simp] theorem State.setCan_bin (s : State) (c : Nat) (x : CanCtl) : (s.setCan c x).bin = s.bin := rfl
@[simp] theorem State.setCan_prf (s : State) (c : Nat) (x : CanCtl) : (s.setCan c x).prf = s.prf := rfl
@[simp] theorem State.setCan_pln (s : State) (c : Nat) (x : CanCtl) : (s.setCan c x).pln = s.pln := rfl
@[simp] theorem State.setCan_svi (s : State) (c : Nat) (x : CanCtl) : (s.setCan c x).svi = s.svi := rfl
@[simp] theorem State.setCan_cnd (s : State) (c : Nat) (x : CanCtl) : (s.setCan c x).cnd = s.cnd := rfl
@[simp] theorem State.setCan_lmp (s : State) (c : Nat) (x : CanCtl) : (s.setCan c x).lmp = s.lmp := rfl
@[simp] theorem State.setCan_hst (s : State) (c : Nat) (x : CanCtl) : (s.setCan c x).hst = s.hst := rfl
@[simp] theorem State.setCan_kpr (s : State) (c : Nat) (x : CanCtl) : (s.setCan c x).kpr = s.kpr := rfl
@[simp] theorem State.setCan_gal (s : State) (c : Nat) (x : CanCtl) : (s.setCan c x).gal = s.gal := rfl
@[simp] theorem State.setCan_pub (s : State) (c : Nat) (x : CanCtl) : (s.setCan c x).pub = s.pub := rfl
@[simp] theorem State.setCan_pair (s : State) (c : Nat) (x : CanCtl) : (s.setCan c x).pair = s.pair := rfl

/-! ### `State.setInput` -/

@[simp] theorem State.setInput_pending (s : State) (i : Nat) (b : BinIn) : (s.setInput i b).pending = s.pending := rfl
@[simp] theorem State.setInput_out (s : State) (i : Nat) (b : BinIn) : (s.setInput i b).out = s.out := rfl
@[simp] theorem State.setInput_readData (s : State) (i : Nat) (b : BinIn) :
    (s.setInput i b).readData = s.readData := rfl
@[simp] theorem State.setInput_regs (s : State) (i : Nat) (b : BinIn) : (s.setInput i b).regs = s.regs := rfl
@[simp] theorem State.setInput_cmds (s : State) (i : Nat) (b : BinIn) : (s.setInput i b).cmds = s.cmds := rfl
@[simp] theorem State.setInput_once (s : State) (i : Nat) (b : BinIn) : (s.setInput i b).once = s.once := rfl
@[simp] theorem State.setInput_time (s : State) (i : Nat) (b : BinIn) : (s.setInput i b).time = s.time := rfl
@[simp] theorem State.setInput_glb (s : State) (i : Nat) (b : BinIn) : (s.setInput i b).glb = s.glb := rfl
@[simp] theorem State.setInput_pwr (s : State) (i : Nat) (b : BinIn) : (s.setInput i b).pwr = s.pwr := rfl
@[simp] theorem State.setInput_log (s : State) (i : Nat) (b : BinIn) : (s.setInput i b).log = s.log := rfl
@[simp] theorem State.setInput_evt (s : State) (i : Nat) (b : BinIn) : (s.setInput i b).evt = s.evt := rfl
@[simp] theorem State.setInput_img (s : State) (i : Nat) (b : BinIn) : (s.setInput i b).img = s.img := rfl
@[simp] theorem State.setInput_bcn (s : State) (i : Nat) (b : BinIn) : (s.setInput i b).bcn = s.bcn := rfl
@[simp] theorem State.setInput_ports (s : State) (i : Nat) (b : BinIn) : (s.setInput i b).ports = s.ports := rfl
@[simp] theorem State.setInput_rdg (s : State) (i : Nat) (b : BinIn) : (s.setInput i b).rdg = s.rdg := rfl
@[simp] theorem State.setInput_cdv (s : State) (i : Nat) (b : BinIn) : (s.setInput i b).cdv = s.cdv := rfl
@[simp] theorem State.setInput_can (s : State) (i : Nat) (b : BinIn) : (s.setInput i b).can = s.can := rfl
@[simp] theorem State.setInput_prf (s : State) (i : Nat) (b : BinIn) : (s.setInput i b).prf = s.prf := rfl
@[simp] theorem State.setInput_pln (s : State) (i : Nat) (b : BinIn) : (s.setInput i b).pln = s.pln := rfl
@[simp] theorem State.setInput_svi (s : State) (i : Nat) (b : BinIn) : (s.setInput i b).svi = s.svi := rfl
@[simp] theorem State.setInput_cnd (s : State) (i : Nat) (b : BinIn) : (s.setInput i b).cnd = s.cnd := rfl
@[simp] theorem State.setInput_lmp (s : State) (i : Nat) (b : BinIn) : (s.setInput i b).lmp = s.lmp := rfl
@[simp] theorem State.setInput_hst (s : State) (i : Nat) (b : BinIn) : (s.setInput i b).hst = s.hst := rfl
@[simp] theorem State.setInput_kpr (s : State) (i : Nat) (b : BinIn) : (s.setInput i b).kpr = s.kpr := rfl
@[simp] theorem State.setInput_gal (s : State) (i : Nat) (b : BinIn) : (s.setInput i b).gal = s.gal := rfl
@[simp] theorem State.setInput_pub (s : State) (i : Nat) (b : BinIn) : (s.setInput i b).pub = s.pub := rfl
@[simp] theorem State.setInput_pair (s : State) (i : Nat) (b : BinIn) : (s.setInput i b).pair = s.pair := rfl

/-! ### `State.setArea` -/

@[simp] theorem State.setArea_pending (s : State) (n : Nat) (b : List Byte) :
    (s.setArea n b).pending = s.pending := rfl
@[simp] theorem State.setArea_out (s : State) (n : Nat) (b : List Byte) : (s.setArea n b).out = s.out := rfl
@[simp] theorem State.setArea_readData (s : State) (n : Nat) (b : List Byte) :
    (s.setArea n b).readData = s.readData := rfl
@[simp] theorem State.setArea_regs (s : State) (n : Nat) (b : List Byte) : (s.setArea n b).regs = s.regs := rfl
@[simp] theorem State.setArea_cmds (s : State) (n : Nat) (b : List Byte) : (s.setArea n b).cmds = s.cmds := rfl
@[simp] theorem State.setArea_once (s : State) (n : Nat) (b : List Byte) : (s.setArea n b).once = s.once := rfl
@[simp] theorem State.setArea_time (s : State) (n : Nat) (b : List Byte) : (s.setArea n b).time = s.time := rfl
@[simp] theorem State.setArea_glb (s : State) (n : Nat) (b : List Byte) : (s.setArea n b).glb = s.glb := rfl
@[simp] theorem State.setArea_pwr (s : State) (n : Nat) (b : List Byte) : (s.setArea n b).pwr = s.pwr := rfl
@[simp] theorem State.setArea_log (s : State) (n : Nat) (b : List Byte) : (s.setArea n b).log = s.log := rfl
@[simp] theorem State.setArea_evt (s : State) (n : Nat) (b : List Byte) : (s.setArea n b).evt = s.evt := rfl
@[simp] theorem State.setArea_bcn (s : State) (n : Nat) (b : List Byte) : (s.setArea n b).bcn = s.bcn := rfl
@[simp] theorem State.setArea_ports (s : State) (n : Nat) (b : List Byte) : (s.setArea n b).ports = s.ports := rfl
@[simp] theorem State.setArea_rdg (s : State) (n : Nat) (b : List Byte) : (s.setArea n b).rdg = s.rdg := rfl
@[simp] theorem State.setArea_cdv (s : State) (n : Nat) (b : List Byte) : (s.setArea n b).cdv = s.cdv := rfl
@[simp] theorem State.setArea_bin (s : State) (n : Nat) (b : List Byte) : (s.setArea n b).bin = s.bin := rfl
@[simp] theorem State.setArea_can (s : State) (n : Nat) (b : List Byte) : (s.setArea n b).can = s.can := rfl
@[simp] theorem State.setArea_prf (s : State) (n : Nat) (b : List Byte) : (s.setArea n b).prf = s.prf := rfl
@[simp] theorem State.setArea_pln (s : State) (n : Nat) (b : List Byte) : (s.setArea n b).pln = s.pln := rfl
@[simp] theorem State.setArea_svi (s : State) (n : Nat) (b : List Byte) : (s.setArea n b).svi = s.svi := rfl
@[simp] theorem State.setArea_cnd (s : State) (n : Nat) (b : List Byte) : (s.setArea n b).cnd = s.cnd := rfl
@[simp] theorem State.setArea_lmp (s : State) (n : Nat) (b : List Byte) : (s.setArea n b).lmp = s.lmp := rfl
@[simp] theorem State.setArea_hst (s : State) (n : Nat) (b : List Byte) : (s.setArea n b).hst = s.hst := rfl
@[simp] theorem State.setArea_kpr (s : State) (n : Nat) (b : List Byte) : (s.setArea n b).kpr = s.kpr := rfl
@[simp] theorem State.setArea_gal (s : State) (n : Nat) (b : List Byte) : (s.setArea n b).gal = s.gal := rfl
@[simp] theorem State.setArea_pub (s : State) (n : Nat) (b : List Byte) : (s.setArea n b).pub = s.pub := rfl
@[simp] theorem State.setArea_pair (s : State) (n : Nat) (b : List Byte) : (s.setArea n b).pair = s.pair := rfl

/-! ### `State.setDirty` -/

@[simp] theorem State.setDirty_pending (s : State) (n : Nat) (v : Bool) : (s.setDirty n v).pending = s.pending := rfl
@[simp] theorem State.setDirty_out (s : State) (n : Nat) (v : Bool) : (s.setDirty n v).out = s.out := rfl
@[simp] theorem State.setDirty_readData (s : State) (n : Nat) (v : Bool) :
    (s.setDirty n v).readData = s.readData := rfl
@[simp] theorem State.setDirty_regs (s : State) (n : Nat) (v : Bool) : (s.setDirty n v).regs = s.regs := rfl
@[simp] theorem State.setDirty_cmds (s : State) (n : Nat) (v : Bool) : (s.setDirty n v).cmds = s.cmds := rfl
@[simp] theorem State.setDirty_once (s : State) (n : Nat) (v : Bool) : (s.setDirty n v).once = s.once := rfl
@[simp] theorem State.setDirty_time (s : State) (n : Nat) (v : Bool) : (s.setDirty n v).time = s.time := rfl
@[simp] theorem State.setDirty_glb (s : State) (n : Nat) (v : Bool) : (s.setDirty n v).glb = s.glb := rfl
@[simp] theorem State.setDirty_pwr (s : State) (n : Nat) (v : Bool) : (s.setDirty n v).pwr = s.pwr := rfl
@[simp] theorem State.setDirty_log (s : State) (n : Nat) (v : Bool) : (s.setDirty n v).log = s.log := rfl
@[simp] theorem State.setDirty_evt (s : State) (n : Nat) (v : Bool) : (s.setDirty n v).evt = s.evt := rfl
@[simp] theorem State.setDirty_bcn (s : State) (n : Nat) (v : Bool) : (s.setDirty n v).bcn = s.bcn := rfl
@[simp] theorem State.setDirty_ports (s : State) (n : Nat) (v : Bool) : (s.setDirty n v).ports = s.ports := rfl
@[simp] theorem State.setDirty_rdg (s : State) (n : Nat) (v : Bool) : (s.setDirty n v).rdg = s.rdg := rfl
@[simp] theorem State.setDirty_cdv (s : State) (n : Nat) (v : Bool) : (s.setDirty n v).cdv = s.cdv := rfl
@[simp] theorem State.setDirty_bin (s : State) (n : Nat) (v : Bool) : (s.setDirty n v).bin = s.bin := rfl
@[simp] theorem State.setDirty_can (s : State) (n : Nat) (v : Bool) : (s.setDirty n v).can = s.can := rfl
@[simp] theorem State.setDirty_prf (s : State) (n : Nat) (v : Bool) : (s.setDirty n v).prf = s.prf := rfl
@[simp] theorem State.setDirty_pln (s : State) (n : Nat) (v : Bool) : (s.setDirty n v).pln = s.pln := rfl
@[simp] theorem State.setDirty_svi (s : State) (n : Nat) (v : Bool) : (s.setDirty n v).svi = s.svi := rfl
@[simp] theorem State.setDirty_cnd (s : State) (n : Nat) (v : Bool) : (s.setDirty n v).cnd = s.cnd := rfl
@[simp] theorem State.setDirty_lmp (s : State) (n : Nat) (v : Bool) : (s.setDirty n v).lmp = s.lmp := rfl
@[simp] theorem State.setDirty_hst (s : State) (n : Nat) (v : Bool) : (s.setDirty n v).hst = s.hst := rfl
@[simp] theorem State.setDirty_kpr (s : State) (n : Nat) (v : Bool) : (s.setDirty n v).kpr = s.kpr := rfl
@[simp] theorem State.setDirty_gal (s : State) (n : Nat) (v : Bool) : (s.setDirty n v).gal = s.gal := rfl
@[simp] theorem State.setDirty_pub (s : State) (n : Nat) (v : Bool) : (s.setDirty n v).pub = s.pub := rfl
@[simp] theorem State.setDirty_pair (s : State) (n : Nat) (v : Bool) : (s.setDirty n v).pair = s.pair := rfl

/-! ### `State.setFunc` -/

@[simp] theorem State.setFunc_pending (s : State) (v : Nat) (x : Func) : (s.setFunc v x).pending = s.pending := rfl
@[simp] theorem State.setFunc_out (s : State) (v : Nat) (x : Func) : (s.setFunc v x).out = s.out := rfl
@[simp] theorem State.setFunc_readData (s : State) (v : Nat) (x : Func) : (s.setFunc v x).readData = s.readData := rfl
@[simp] theorem State.setFunc_regs (s : State) (v : Nat) (x : Func) : (s.setFunc v x).regs = s.regs := rfl
@[simp] theorem State.setFunc_cmds (s : State) (v : Nat) (x : Func) : (s.setFunc v x).cmds = s.cmds := rfl
@[simp] theorem State.setFunc_once (s : State) (v : Nat) (x : Func) : (s.setFunc v x).once = s.once := rfl
@[simp] theorem State.setFunc_time (s : State) (v : Nat) (x : Func) : (s.setFunc v x).time = s.time := rfl
@[simp] theorem State.setFunc_glb (s : State) (v : Nat) (x : Func) : (s.setFunc v x).glb = s.glb := rfl
@[simp] theorem State.setFunc_pwr (s : State) (v : Nat) (x : Func) : (s.setFunc v x).pwr = s.pwr := rfl
@[simp] theorem State.setFunc_log (s : State) (v : Nat) (x : Func) : (s.setFunc v x).log = s.log := rfl
@[simp] theorem State.setFunc_evt (s : State) (v : Nat) (x : Func) : (s.setFunc v x).evt = s.evt := rfl
@[simp] theorem State.setFunc_img (s : State) (v : Nat) (x : Func) : (s.setFunc v x).img = s.img := rfl
@[simp] theorem State.setFunc_bcn (s : State) (v : Nat) (x : Func) : (s.setFunc v x).bcn = s.bcn := rfl
@[simp] theorem State.setFunc_ports (s : State) (v : Nat) (x : Func) : (s.setFunc v x).ports = s.ports := rfl
@[simp] theorem State.setFunc_rdg (s : State) (v : Nat) (x : Func) : (s.setFunc v x).rdg = s.rdg := rfl
@[simp] theorem State.setFunc_cdv (s : State) (v : Nat) (x : Func) : (s.setFunc v x).cdv = s.cdv := rfl
@[simp] theorem State.setFunc_bin (s : State) (v : Nat) (x : Func) : (s.setFunc v x).bin = s.bin := rfl
@[simp] theorem State.setFunc_can (s : State) (v : Nat) (x : Func) : (s.setFunc v x).can = s.can := rfl
@[simp] theorem State.setFunc_prf (s : State) (v : Nat) (x : Func) : (s.setFunc v x).prf = s.prf := rfl
@[simp] theorem State.setFunc_pln (s : State) (v : Nat) (x : Func) : (s.setFunc v x).pln = s.pln := rfl
@[simp] theorem State.setFunc_svi (s : State) (v : Nat) (x : Func) : (s.setFunc v x).svi = s.svi := rfl
@[simp] theorem State.setFunc_cnd (s : State) (v : Nat) (x : Func) : (s.setFunc v x).cnd = s.cnd := rfl
@[simp] theorem State.setFunc_lmp (s : State) (v : Nat) (x : Func) : (s.setFunc v x).lmp = s.lmp := rfl
@[simp] theorem State.setFunc_kpr (s : State) (v : Nat) (x : Func) : (s.setFunc v x).kpr = s.kpr := rfl
@[simp] theorem State.setFunc_gal (s : State) (v : Nat) (x : Func) : (s.setFunc v x).gal = s.gal := rfl
@[simp] theorem State.setFunc_pub (s : State) (v : Nat) (x : Func) : (s.setFunc v x).pub = s.pub := rfl
@[simp] theorem State.setFunc_pair (s : State) (v : Nat) (x : Func) : (s.setFunc v x).pair = s.pair := rfl

/-! ### `State.setPath` -/

@[simp] theorem State.setPath_pending (s : State) (p : Nat) (x : PathSt) : (s.setPath p x).pending = s.pending := rfl
@[simp] theorem State.setPath_out (s : State) (p : Nat) (x : PathSt) : (s.setPath p x).out = s.out := rfl
@[simp] theorem State.setPath_readData (s : State) (p : Nat) (x : PathSt) :
    (s.setPath p x).readData = s.readData := rfl
@[simp] theorem State.setPath_regs (s : State) (p : Nat) (x : PathSt) : (s.setPath p x).regs = s.regs := rfl
@[simp] theorem State.setPath_cmds (s : State) (p : Nat) (x : PathSt) : (s.setPath p x).cmds = s.cmds := rfl
@[simp] theorem State.setPath_once (s : State) (p : Nat) (x : PathSt) : (s.setPath p x).once = s.once := rfl
@[simp] theorem State.setPath_time (s : State) (p : Nat) (x : PathSt) : (s.setPath p x).time = s.time := rfl
@[simp] theorem State.setPath_glb (s : State) (p : Nat) (x : PathSt) : (s.setPath p x).glb = s.glb := rfl
@[simp] theorem State.setPath_pwr (s : State) (p : Nat) (x : PathSt) : (s.setPath p x).pwr = s.pwr := rfl
@[simp] theorem State.setPath_log (s : State) (p : Nat) (x : PathSt) : (s.setPath p x).log = s.log := rfl
@[simp] theorem State.setPath_evt (s : State) (p : Nat) (x : PathSt) : (s.setPath p x).evt = s.evt := rfl
@[simp] theorem State.setPath_img (s : State) (p : Nat) (x : PathSt) : (s.setPath p x).img = s.img := rfl
@[simp] theorem State.setPath_bcn (s : State) (p : Nat) (x : PathSt) : (s.setPath p x).bcn = s.bcn := rfl
@[simp] theorem State.setPath_ports (s : State) (p : Nat) (x : PathSt) : (s.setPath p x).ports = s.ports := rfl
@[simp] theorem State.setPath_rdg (s : State) (p : Nat) (x : PathSt) : (s.setPath p x).rdg = s.rdg := rfl
@[simp] theorem State.setPath_cdv (s : State) (p : Nat) (x : PathSt) : (s.setPath p x).cdv = s.cdv := rfl
@[simp] theorem State.setPath_bin (s : State) (p : Nat) (x : PathSt) : (s.setPath p x).bin = s.bin := rfl
@[simp] theorem State.setPath_can (s : State) (p : Nat) (x : PathSt) : (s.setPath p x).can = s.can := rfl
@[simp] theorem State.setPath_prf (s : State) (p : Nat) (x : PathSt) : (s.setPath p x).prf = s.prf := rfl
@[simp] theorem State.setPath_pln (s : State) (p : Nat) (x : PathSt) : (s.setPath p x).pln = s.pln := rfl
@[simp] theorem State.setPath_svi (s : State) (p : Nat) (x : PathSt) : (s.setPath p x).svi = s.svi := rfl
@[simp] theorem State.setPath_cnd (s : State) (p : Nat) (x : PathSt) : (s.setPath p x).cnd = s.cnd := rfl
@[simp] theorem State.setPath_lmp (s : State) (p : Nat) (x : PathSt) : (s.setPath p x).lmp = s.lmp := rfl
@[simp] theorem State.setPath_hst (s : State) (p : Nat) (x : PathSt) : (s.setPath p x).hst = s.hst := rfl
@[simp] theorem State.setPath_kpr (s : State) (p : Nat) (x : PathSt) : (s.setPath p x).kpr = s.kpr := rfl
@[simp] theorem State.setPath_gal (s : State) (p : Nat) (x : PathSt) : (s.setPath p x).gal = s.gal := rfl
@[simp] theorem State.setPath_pub (s : State) (p : Nat) (x : PathSt) : (s.setPath p x).pub = s.pub := rfl

/-! ### `State.setKey` -/

@[simp] theorem State.setKey_pending (s : State) (i : Nat) (k : KeySlot) : (s.setKey i k).pending = s.pending := rfl
@[simp] theorem State.setKey_out (s : State) (i : Nat) (k : KeySlot) : (s.setKey i k).out = s.out := rfl
@[simp] theorem State.setKey_readData (s : State) (i : Nat) (k : KeySlot) :
    (s.setKey i k).readData = s.readData := rfl
@[simp] theorem State.setKey_regs (s : State) (i : Nat) (k : KeySlot) : (s.setKey i k).regs = s.regs := rfl
@[simp] theorem State.setKey_cmds (s : State) (i : Nat) (k : KeySlot) : (s.setKey i k).cmds = s.cmds := rfl
@[simp] theorem State.setKey_once (s : State) (i : Nat) (k : KeySlot) : (s.setKey i k).once = s.once := rfl
@[simp] theorem State.setKey_time (s : State) (i : Nat) (k : KeySlot) : (s.setKey i k).time = s.time := rfl
@[simp] theorem State.setKey_glb (s : State) (i : Nat) (k : KeySlot) : (s.setKey i k).glb = s.glb := rfl
@[simp] theorem State.setKey_pwr (s : State) (i : Nat) (k : KeySlot) : (s.setKey i k).pwr = s.pwr := rfl
@[simp] theorem State.setKey_log (s : State) (i : Nat) (k : KeySlot) : (s.setKey i k).log = s.log := rfl
@[simp] theorem State.setKey_evt (s : State) (i : Nat) (k : KeySlot) : (s.setKey i k).evt = s.evt := rfl
@[simp] theorem State.setKey_img (s : State) (i : Nat) (k : KeySlot) : (s.setKey i k).img = s.img := rfl
@[simp] theorem State.setKey_bcn (s : State) (i : Nat) (k : KeySlot) : (s.setKey i k).bcn = s.bcn := rfl
@[simp] theorem State.setKey_ports (s : State) (i : Nat) (k : KeySlot) : (s.setKey i k).ports = s.ports := rfl
@[simp] theorem State.setKey_rdg (s : State) (i : Nat) (k : KeySlot) : (s.setKey i k).rdg = s.rdg := rfl
@[simp] theorem State.setKey_cdv (s : State) (i : Nat) (k : KeySlot) : (s.setKey i k).cdv = s.cdv := rfl
@[simp] theorem State.setKey_bin (s : State) (i : Nat) (k : KeySlot) : (s.setKey i k).bin = s.bin := rfl
@[simp] theorem State.setKey_can (s : State) (i : Nat) (k : KeySlot) : (s.setKey i k).can = s.can := rfl
@[simp] theorem State.setKey_prf (s : State) (i : Nat) (k : KeySlot) : (s.setKey i k).prf = s.prf := rfl
@[simp] theorem State.setKey_pln (s : State) (i : Nat) (k : KeySlot) : (s.setKey i k).pln = s.pln := rfl
@[simp] theorem State.setKey_svi (s : State) (i : Nat) (k : KeySlot) : (s.setKey i k).svi = s.svi := rfl
@[simp] theorem State.setKey_cnd (s : State) (i : Nat) (k : KeySlot) : (s.setKey i k).cnd = s.cnd := rfl
@[simp] theorem State.setKey_hst (s : State) (i : Nat) (k : KeySlot) : (s.setKey i k).hst = s.hst := rfl
@[simp] theorem State.setKey_kpr (s : State) (i : Nat) (k : KeySlot) : (s.setKey i k).kpr = s.kpr := rfl
@[simp] theorem State.setKey_gal (s : State) (i : Nat) (k : KeySlot) : (s.setKey i k).gal = s.gal := rfl
@[simp] theorem State.setKey_pub (s : State) (i : Nat) (k : KeySlot) : (s.setKey i k).pub = s.pub := rfl
@[simp] theorem State.setKey_pair (s : State) (i : Nat) (k : KeySlot) : (s.setKey i k).pair = s.pair := rfl

/-! ### `State.elapse` -/

@[simp] theorem State.elapse_pending (s : State) (dt : Nat) : (s.elapse dt).pending = s.pending := by
  unfold State.elapse; dsimp only; split <;> split <;> rfl
@[simp] theorem State.elapse_out (s : State) (dt : Nat) : (s.elapse dt).out = s.out := by
  unfold State.elapse; dsimp only; split <;> split <;> rfl
@[simp] theorem State.elapse_readData (s : State) (dt : Nat) : (s.elapse dt).readData = s.readData := by
  unfold State.elapse; dsimp only; split <;> split <;> rfl
@[simp] theorem State.elapse_regs (s : State) (dt : Nat) : (s.elapse dt).regs = s.regs := by
  unfold State.elapse; dsimp only; split <;> split <;> rfl
@[simp] theorem State.elapse_cmds (s : State) (dt : Nat) : (s.elapse dt).cmds = s.cmds := by
  unfold State.elapse; dsimp only; split <;> split <;> rfl
@[simp] theorem State.elapse_once (s : State) (dt : Nat) : (s.elapse dt).once = s.once := by
  unfold State.elapse; dsimp only; split <;> split <;> rfl
@[simp] theorem State.elapse_glb (s : State) (dt : Nat) : (s.elapse dt).glb = s.glb := by
  unfold State.elapse; dsimp only; split <;> split <;> rfl
@[simp] theorem State.elapse_pwr (s : State) (dt : Nat) : (s.elapse dt).pwr = s.pwr := by
  unfold State.elapse; dsimp only; split <;> split <;> rfl
@[simp] theorem State.elapse_evt (s : State) (dt : Nat) : (s.elapse dt).evt = s.evt := by
  unfold State.elapse; dsimp only; split <;> split <;> rfl
@[simp] theorem State.elapse_img (s : State) (dt : Nat) : (s.elapse dt).img = s.img := by
  unfold State.elapse; dsimp only; split <;> split <;> rfl
@[simp] theorem State.elapse_bcn (s : State) (dt : Nat) : (s.elapse dt).bcn = s.bcn := by
  unfold State.elapse; dsimp only; split <;> split <;> rfl
@[simp] theorem State.elapse_ports (s : State) (dt : Nat) : (s.elapse dt).ports = s.ports := by
  unfold State.elapse; dsimp only; split <;> split <;> rfl
@[simp] theorem State.elapse_rdg (s : State) (dt : Nat) : (s.elapse dt).rdg = s.rdg := by
  unfold State.elapse; dsimp only; split <;> split <;> rfl
@[simp] theorem State.elapse_cdv (s : State) (dt : Nat) : (s.elapse dt).cdv = s.cdv := by
  unfold State.elapse; dsimp only; split <;> split <;> rfl
@[simp] theorem State.elapse_bin (s : State) (dt : Nat) : (s.elapse dt).bin = s.bin := by
  unfold State.elapse; dsimp only; split <;> split <;> rfl
@[simp] theorem State.elapse_can (s : State) (dt : Nat) : (s.elapse dt).can = s.can := by
  unfold State.elapse; dsimp only; split <;> split <;> rfl
@[simp] theorem State.elapse_prf (s : State) (dt : Nat) : (s.elapse dt).prf = s.prf := by
  unfold State.elapse; dsimp only; split <;> split <;> rfl
@[simp] theorem State.elapse_pln (s : State) (dt : Nat) : (s.elapse dt).pln = s.pln := by
  unfold State.elapse; dsimp only; split <;> split <;> rfl
@[simp] theorem State.elapse_svi (s : State) (dt : Nat) : (s.elapse dt).svi = s.svi := by
  unfold State.elapse; dsimp only; split <;> split <;> rfl
@[simp] theorem State.elapse_cnd (s : State) (dt : Nat) : (s.elapse dt).cnd = s.cnd := by
  unfold State.elapse; dsimp only; split <;> split <;> rfl
@[simp] theorem State.elapse_lmp (s : State) (dt : Nat) : (s.elapse dt).lmp = s.lmp := by
  unfold State.elapse; dsimp only; split <;> split <;> rfl
@[simp] theorem State.elapse_hst (s : State) (dt : Nat) : (s.elapse dt).hst = s.hst := by
  unfold State.elapse; dsimp only; split <;> split <;> rfl
@[simp] theorem State.elapse_kpr (s : State) (dt : Nat) : (s.elapse dt).kpr = s.kpr := by
  unfold State.elapse; dsimp only; split <;> split <;> rfl
@[simp] theorem State.elapse_gal (s : State) (dt : Nat) : (s.elapse dt).gal = s.gal := by
  unfold State.elapse; dsimp only; split <;> split <;> rfl
@[simp] theorem State.elapse_pub (s : State) (dt : Nat) : (s.elapse dt).pub = s.pub := by
  unfold State.elapse; dsimp only; split <;> split <;> rfl
@[simp] theorem State.elapse_pair (s : State) (dt : Nat) : (s.elapse dt).pair = s.pair := by
  unfold State.elapse; dsimp only; split <;> split <;> rfl

@[simp] theorem State.elapse_mono (s : State) (dt : Nat) : (s.elapse dt).time.mono = s.time.mono + dt := by
  unfold State.elapse; dsimp only; split <;> split <;> rfl

@[simp] theorem State.elapse_stepped (s : State) (dt : Nat) : (s.elapse dt).time.stepped = s.time.stepped := by
  unfold State.elapse; dsimp only; split <;> split <;> rfl

end Sys2Proof.Machine
end

