-- ==== Sys2Proof/Laws/Cmd.lean ====
section
/-!
SUPPORT. What the operations that every block shares do: events, records, and the handling of a command written to a
command register (R37 to R40).
-/

set_option Elab.async false

namespace Sys2Proof.Machine

open Sys2Proof

/-! ### The frame, part by part -/

/-- A part that is not among those that may change is the same. -/
theorem Fr.same {l : List Part} {s t : State} (h : Fr l s t) {p : Part} (hp : p ∉ l) : p.same s t := h.ch.same p hp

/-- More parts may be allowed to change. -/
theorem Changes.mono {l m : List Part} {s t : State} (h : Changes l s t) (hl : l ⊆ m) : Changes m s t :=
  ⟨fun p hp => h.same p fun hq => hp (hl hq)⟩

/-! ### Command status -/

/-- The command status reads what was set. -/
@[simp] theorem State.cmd_setCmd_same (s : State) (r : Nat) (c : CmdStat) : (s.setCmd r c).cmd r = c :=
  tget_tset_same s.cmds r c {}

/-- Setting one command status leaves the others. -/
theorem State.cmd_setCmd_ne (s : State) {r q : Nat} (c : CmdStat) (h : q ≠ r) : (s.setCmd r c).cmd q = s.cmd q :=
  tget_tset_ne s.cmds c {} {} h

@[simp] theorem State.cmd_wr (s : State) (a : Nat) (v : Word) (r : Nat) : (s.wr a v).cmd r = s.cmd r := rfl

@[simp] theorem State.cmd_elapse (s : State) (dt r : Nat) : (s.elapse dt).cmd r = s.cmd r := by
  simp only [State.cmd, State.elapse_cmds]

/-- Raising an event leaves every command status. -/
@[simp] theorem State.setEvent_cmds (s : State) (src : Nat) : (s.setEvent src).cmds = s.cmds :=
  (State.setEvent_fr (l := [.regs, .evt]) (Fr.refl s) (by decide)).same (p := .cmds) (by decide)

/-- A record leaves every command status. -/
@[simp] theorem State.logPut_cmds (s : State) (code block inst p0 p1 p2 : Nat) :
    (s.logPut code block inst p0 p1 p2).cmds = s.cmds :=
  (State.logPut_fr (l := [.regs, .log, .evt]) (Fr.refl s) (by decide)).same (p := .cmds) (by decide)

@[simp] theorem State.raiseGlb_cmds (s : State) (src : Nat) : (s.raiseGlb src).cmds = s.cmds :=
  (State.raiseGlb_fr (l := [.regs, .log, .evt]) (Fr.refl s) (by decide)).same (p := .cmds) (by decide)

/-- A completed command's status is DONE and its register is free (R39). -/
theorem State.cmd_cmdDone (s : State) (r : Nat) :
    (s.cmdDone r).cmd r = { s.cmd r with code := (s.cmd r).runCode, pending := false, status := 2 } := by
  unfold State.cmdDone
  dsimp only
  split
  · exact State.cmd_setCmd_same _ _ _
  · split
    · simp only [State.cmd, State.raiseGlb_cmds]; exact State.cmd_setCmd_same _ _ _
    · simp only [State.cmd, State.setEvent_cmds]; exact State.cmd_setCmd_same _ _ _

/-- A command that ends REFUSED_STATE frees its register (R40). -/
theorem State.cmd_cmdEndRefused (s : State) (r : Nat) :
    (s.cmdEndRefused r).cmd r = { s.cmd r with code := (s.cmd r).runCode, pending := false, status := 3 } := by
  unfold State.cmdEndRefused State.refusedRec
  simp only [State.cmd, State.raiseGlb_cmds, State.logPut_cmds]
  exact State.cmd_setCmd_same _ _ _

/-! ### One command written (R37 to R40) -/

/-- A register takes a command when none of its own runs and, for the global block's, no mode transition runs. -/
theorem State.Ready.busy {s : State} {r : Nat} (h : s.Ready r) :
    ((s.cmd r).pending || ((r = 0x14 || r = 0x30) && s.glb.inTransition)) = false := by
  obtain ⟨h1, h2⟩ := h
  rw [h1, Bool.false_or]
  by_cases hr : r = 0x14 ∨ r = 0x30
  · rw [h2 hr, Bool.and_false]
  · simp only [not_or] at hr; simp [hr.1, hr.2]

/-- A command that passes its checks starts. -/
theorem State.runCmd_ok {s : State} {r : Nat} (code arg : Nat) (act : State → State) (h : s.Ready r) :
    s.runCmd r code 0 arg .ok act =
      act (s.setCmd r { code := code, pending := true, status := 1, runCode := code, runArg := arg }) := by
  unfold State.runCmd
  simp only [h.busy, Bool.false_eq_true, ↓reduceIte, ne_eq, not_true_eq_false]

/-- While a command runs, another one is BUSY and has no effect but its code and status. -/
theorem State.runCmd_busy {s : State} {r : Nat} (code rsv arg : Nat) (v : Verdict) (act : State → State)
    (h : (s.cmd r).pending = true) :
    s.runCmd r code rsv arg v act = s.setCmd r { s.cmd r with code := code, status := 5 } := by
  unfold State.runCmd
  simp only [h, Bool.true_or, ↓reduceIte]

/-- A reserved bit that is not 0 refuses the command. -/
theorem State.runCmd_rsv {s : State} {r : Nat} (code arg : Nat) {rsv : Nat} (v : Verdict) (act : State → State)
    (h : s.Ready r) (hr : rsv ≠ 0) :
    s.runCmd r code rsv arg v act = s.setCmd r { s.cmd r with code := code, status := 4 } := by
  unfold State.runCmd
  simp only [h.busy, Bool.false_eq_true, ↓reduceIte, hr, ne_eq, not_false_eq_true]

/-- An argument that is not allowed refuses the command. -/
theorem State.runCmd_arg {s : State} {r : Nat} (code arg : Nat) (act : State → State) (h : s.Ready r) :
    s.runCmd r code 0 arg .arg act = s.setCmd r { s.cmd r with code := code, status := 4 } := by
  unfold State.runCmd
  simp only [h.busy, Bool.false_eq_true, ↓reduceIte, ne_eq, not_true_eq_false]

/-- A command not allowed in the state is refused with a record. -/
theorem State.runCmd_state {s : State} {r : Nat} (code arg : Nat) (act : State → State) (h : s.Ready r) :
    s.runCmd r code 0 arg .state act = (s.setCmd r { s.cmd r with code := code, status := 3 }).refusedRec r code := by
  unfold State.runCmd
  simp only [h.busy, Bool.false_eq_true, ↓reduceIte, ne_eq, not_true_eq_false]

/-- A verdict passes where both its checks do. -/
theorem verdict_ok {a b : Bool} (ha : a = true) (hb : b = true) : verdict a b = .ok := by
  rw [ha, hb]; rfl

/-- A command whose argument and state checks pass starts. -/
theorem State.runCmd_run {s : State} {r rsv : Nat} {code arg : Nat} {a b : Bool} {act : State → State} (h : s.Ready r)
    (hr : rsv = 0) (ha : a = true) (hb : b = true) :
    s.runCmd r code rsv arg (verdict a b) act =
      act (s.setCmd r { code := code, pending := true, status := 1, runCode := code, runArg := arg }) := by
  subst hr; rw [verdict_ok ha hb]; exact State.runCmd_ok code arg act h

/-- A command that has completed is DONE. -/
theorem State.isDone_cmdDone {s : State} {r c : Nat} (h : (s.cmd r).runCode = c) : (s.cmdDone r).IsDone r c := by
  rw [State.IsDone, State.cmd_cmdDone]; exact ⟨h, rfl, rfl⟩

/-- The passing of time keeps a register ready. -/
theorem State.Ready.elapse {s : State} {r : Nat} (h : s.Ready r) (dt : Nat) : (s.elapse dt).Ready r := by
  refine ⟨?_, ?_⟩
  · rw [State.cmd_elapse]; exact h.1
  · rw [State.elapse_glb]; exact h.2

/-! ### Events -/

/-- Delivering an event changes no register but the cores' pending registers. -/
theorem State.deliver_rd (s : State) (src : Nat) {a : Nat} (h : a < 0x12000 ∨ 0x12020 ≤ a) :
    (s.deliver src).rd a = s.rd a := by
  unfold State.deliver
  split
  · split <;> rfl
  · split
    · refine State.rd_wr_ne _ _ ?_
      have hc : s.routeCore src < 4 := by unfold State.routeCore fld; exact Nat.mod_lt _ (by decide)
      have hl : s.routeIndex src % 64 / 32 < 2 := by omega
      omega
    · rfl

theorem ite_some {α : Type} {c : Prop} [Decidable c] {x t : α} {y : Option α} (h : (if c then some x else y) = some t) :
    (c ∧ x = t) ∨ (¬c ∧ y = some t) := by
  by_cases hc : c
  · rw [if_pos hc] at h; exact Or.inl ⟨hc, Option.some.inj h⟩
  · rw [if_neg hc] at h; exact Or.inr ⟨hc, h⟩

/-- Where a source's status bit lies. -/
theorem evLoc_bounds {src a b e : Nat} (h : evLoc src = some (a, b, e)) :
    a < 0x11000 ∨ 0x12020 ≤ a := by
  unfold evLoc at h
  iterate 22 (rcases ite_some h with ⟨_, h'⟩ | ⟨_, h⟩; · simp only [Prod.mk.injEq] at h'; omega)
  cases h

theorem evLoc_bit {src a b e : Nat} (h : evLoc src = some (a, b, e)) : b < 32 := by
  unfold evLoc at h
  iterate 22 (rcases ite_some h with ⟨_, h'⟩ | ⟨_, h⟩; · simp only [Prod.mk.injEq] at h'; omega)
  cases h

/-- No source's status bit lies in a loss counter of the logbook. -/
theorem evLoc_lost {src a b e c : Nat} (h : evLoc src = some (a, b, e)) (hc : c < 4) : a ≠ lostCntAddr c := by
  unfold evLoc at h
  unfold lostCntAddr
  iterate 22 (rcases ite_some h with ⟨_, h'⟩ | ⟨_, h⟩; · simp only [Prod.mk.injEq] at h'; omega)
  cases h

/-- Raising a source sets its status bit. -/
theorem State.evSet_setEvent (s : State) {src : Nat} (h : (evLoc src).isSome = true) :
    (s.setEvent src).evSet src = true := by
  obtain ⟨⟨a, b, e⟩, h⟩ := Option.isSome_iff_exists.mp h
  have hb := evLoc_bit h
  have ha := evLoc_bounds h
  unfold State.setEvent State.evSet
  simp only [h]
  split
  · assumption
  · have hk : ((s.wr a (s.rd a ||| bit b)).rd a).getLsbD b = true := by
      rw [State.rd_wr_same]
      have h2 : 2 ^ b < 2 ^ 32 := Nat.pow_lt_pow_right (by decide) hb
      simp only [bit, BitVec.getLsbD, BitVec.toNat_or, BitVec.toNat_ofNat, Nat.mod_eq_of_lt h2, Nat.testBit_or,
        Nat.testBit_two_pow_self, Bool.or_true]
    split
    · rw [State.deliver_rd _ _ (by omega)]; exact hk
    · exact hk

/-- Raising a source leaves every status bit that is set. -/
theorem State.evSet_setEvent_mono {s : State} {src x : Nat} (h : s.evSet x = true) :
    (s.setEvent src).evSet x = true := by
  unfold State.setEvent
  dsimp only
  split
  · exact h
  · rename_i a b e hs
    split
    · exact h
    · unfold State.evSet at h ⊢
      split at h
      · cases h
      · rename_i a' b' _ hx
        have hk : ((s.wr a (s.rd a ||| bit b)).rd a').getLsbD b' = true := by
          by_cases ha : a' = a
          · subst ha; rw [State.rd_wr_same, BitVec.getLsbD_or, h]; rfl
          · rw [State.rd_wr_ne _ _ ha]; exact h
        have hb := evLoc_bounds hx
        split
        · rw [State.deliver_rd _ _ (by omega)]; exact hk
        · exact hk

/-- The class of a record is one of four. -/
theorem State.classOf_lt (s : State) (code : Nat) : s.classOf code < 4 := by
  have hd : classDefault code < 4 := by unfold classDefault; repeat (first | decide | split)
  have ho : ∀ b n i c, overrideFor b code n i = some c → c < 4 := by
    intro b n
    induction n with
    | zero => intro i c h; cases h
    | succ n ih =>
      intro i c h
      unfold overrideFor at h
      split at h
      · cases h; omega
      · exact ih _ _ h
  unfold State.classOf
  dsimp only
  split
  · exact ho _ _ _ _ ‹_›
  · exact hd

/-- A loss leaves every status bit that is set. -/
theorem State.evSet_logLose_mono {s : State} {c seq x : Nat} (hc : c < 4) (h : s.evSet x = true) :
    (s.logLose c seq).evSet x = true := by
  unfold State.logLose
  refine State.evSet_setEvent_mono ?_
  unfold State.evSet at h ⊢
  split at h
  · cases h
  · rename_i a b _ hx
    unfold State.count
    rw [State.rd_wr_ne _ _ (evLoc_lost hx hc)]
    exact h

/-- An accepted record leaves every status bit that is set. -/
theorem State.evSet_logAccept_mono {s : State} {r : LogRec} {x : Nat} (hc : r.cls < 4) (h : s.evSet x = true) :
    (s.logAccept r).evSet x = true := by
  unfold State.logAccept
  dsimp only
  generalize hs : (if r.cls = 0 then _ else _ : State) = s1
  have h1 : s1.evSet x = true := by
    rw [← hs]
    split
    · exact State.evSet_setEvent_mono h
    · exact h
  split
  · split
    · exact State.evSet_logLose_mono hc h1
    · exact h1
  · exact h1

/-- A record leaves every status bit that is set. -/
theorem State.evSet_logPut_mono {s : State} {code block inst p0 p1 p2 x : Nat} (h : s.evSet x = true) :
    (s.logPut code block inst p0 p1 p2).evSet x = true := by
  unfold State.logPut State.logOffer
  have hc : (s.mkRec code block inst p0 p1 p2).cls < 4 := s.classOf_lt code
  split
  · exact h
  · split
    · split
      · exact State.evSet_logAccept_mono hc h
      · exact State.evSet_logLose_mono hc h
    · exact h

/-- An event record leaves every status bit that is set. -/
theorem State.evSet_eventRec_mono {s : State} {src inst p0 x : Nat} (h : s.evSet x = true) :
    (s.eventRec src inst p0).evSet x = true := State.evSet_logPut_mono h

/-- Raising a source with its record sets its status bit. -/
theorem State.evSet_raiseRec (s : State) {src : Nat} (inst : Nat) (h : (evLoc src).isSome = true) :
    (s.raiseRec src inst).evSet src = true := State.evSet_eventRec_mono (State.evSet_setEvent s h)

theorem State.evSet_raiseRec_mono {s : State} {src inst x : Nat} (h : s.evSet x = true) :
    (s.raiseRec src inst).evSet x = true := State.evSet_eventRec_mono (State.evSet_setEvent_mono h)

theorem State.evSet_raiseGlb (s : State) {src : Nat} (h : (evLoc src).isSome = true) :
    (s.raiseGlb src).evSet src = true := State.evSet_eventRec_mono (State.evSet_setEvent s h)

theorem State.evSet_raiseGlb_mono {s : State} {src x : Nat} (h : s.evSet x = true) :
    (s.raiseGlb src).evSet x = true := State.evSet_eventRec_mono (State.evSet_setEvent_mono h)

/-- Status bits are read from the registers alone. -/
theorem State.evSet_congr {s t : State} (h : t.regs = s.regs) (x : Nat) : t.evSet x = s.evSet x := by
  unfold State.evSet State.rd; rw [h]

/-- A completed command raises its block's command-done source, where there is one. -/
theorem State.evSet_cmdDone (s : State) {r src : Nat} (h : cmdDoneSrc r = some src)
    (hs : (evLoc src).isSome = true) : (s.cmdDone r).evSet src = true := by
  unfold State.cmdDone
  simp only [h]
  split
  · exact State.evSet_raiseGlb _ hs
  · exact State.evSet_setEvent _ hs

theorem State.evSet_cmdDone_mono {s : State} {r x : Nat} (h : s.evSet x = true) : (s.cmdDone r).evSet x = true := by
  have h' : (s.setCmd r { s.cmd r with code := (s.cmd r).runCode, pending := false, status := 2 }).evSet x = true := h
  unfold State.cmdDone
  dsimp only
  split
  · exact h'
  · split
    · exact State.evSet_raiseGlb_mono h'
    · exact State.evSet_setEvent_mono h'

/-! ### Registers -/

/-- Raising a source changes no register but its own status and the cores' pending registers. -/
theorem State.rd_setEvent_ne (s : State) {src a : Nat} (h : ∀ b e, evLoc src ≠ some (a, b, e))
    (ha : a < 0x12000 ∨ 0x12020 ≤ a) : (s.setEvent src).rd a = s.rd a := by
  unfold State.setEvent
  dsimp only
  split
  · rfl
  · rename_i a' b e hs
    have hne : a ≠ a' := fun hc => h b e (hc ▸ hs)
    split
    · rfl
    · split
      · rw [State.deliver_rd _ _ ha]; exact State.rd_wr_ne _ _ hne
      · exact State.rd_wr_ne _ _ hne

/-- A record changes no register but the logbook's own and the cores' pending registers. -/
theorem State.rd_logPut_ne (s : State) (code block inst p0 p1 p2 : Nat) {a : Nat} (h : a < 0xB00028 ∨ 0xB00038 < a)
    (ha : a < 0x12000 ∨ 0x12020 ≤ a) : (s.logPut code block inst p0 p1 p2).rd a = s.rd a := by
  have ev : ∀ (s : State) (x : Nat), (x = 704 ∨ x = 706) → (s.setEvent x).rd a = s.rd a := by
    intro s x hx
    refine State.rd_setEvent_ne s (fun b e => ?_) ha
    intro hc
    have he : (evLoc x).map (fun l => l.1) = some 0xB00038 := by rcases hx with rfl | rfl <;> rfl
    rw [hc] at he
    have hx := Option.some.inj he
    dsimp only at hx
    omega
  have lose : ∀ (s : State) (c q : Nat), c < 4 → (s.logLose c q).rd a = s.rd a := by
    intro s c q hc
    unfold State.logLose
    rw [ev _ _ (Or.inr rfl)]
    unfold State.count
    refine (State.rd_wr_ne _ _ ?_).trans rfl
    unfold lostCntAddr; omega
  have acc : ∀ (s : State) (r : LogRec), r.cls < 4 → (s.logAccept r).rd a = s.rd a := by
    intro s r hc
    unfold State.logAccept
    dsimp only
    generalize hs : (if r.cls = 0 then _ else _ : State) = s1
    have h1 : s1.rd a = s.rd a := by
      rw [← hs]
      split
      · rw [ev _ _ (Or.inl rfl)]; rfl
      · rfl
    split
    · split
      · rw [lose _ _ _ hc]; exact h1
      · exact h1
    · exact h1
  have hc : (s.mkRec code block inst p0 p1 p2).cls < 4 := s.classOf_lt code
  unfold State.logPut State.logOffer
  split
  · rfl
  · split
    · split
      · exact acc _ _ hc
      · exact lose _ _ _ hc
    · rfl

/-- A register reads the same where no register differs. -/
theorem State.rd_congr {s t : State} (h : t.regs = s.regs) (a : Nat) : t.rd a = s.rd a := by
  unfold State.rd; rw [h]

end Sys2Proof.Machine
end

