-- ==== Sys2Proof/Laws/Shared.lean ====
section
/-!
SUPPORT. Tables of the state read what was set; the parts that the operations shared by every block leave as they are.
-/

set_option Elab.async false

namespace Sys2Proof.Machine

open Sys2Proof

/-! ### Setting and reading an entry -/

/-- A table reads what was set at a key, and elsewhere what it read before. -/
theorem tget_tset {α : Type} [DecidableEq α] (t : Tbl α) (k j : Nat) (v d : α) :
    tget (tset t k v d) j d = if j = k then v else tget t j d := by
  split
  · rename_i h; subst h; exact tget_tset_same t _ v d
  · rename_i h; exact tget_tset_ne t v d d h

@[simp] theorem State.port_setPort (s : State) (k j : Nat) (x : Port) :
    (s.setPort k x).port j = if j = k then x else s.port j := tget_tset _ k j x _

theorem State.port_congr {s t : State} (h : t.ports = s.ports) (k : Nat) : t.port k = s.port k := by
  unfold State.port; rw [h]

@[simp] theorem State.queue_setQueue (s : State) (k j : Nat) (x : Queue) :
    (s.setQueue k x).queue j = if j = k then x else s.queue j := tget_tset _ k j x _

theorem State.queue_congr {s t : State} (h : t.hst = s.hst) (k : Nat) : t.queue k = s.queue k := by
  unfold State.queue; rw [h]

@[simp] theorem State.fn_setFn (s : State) (k j : Nat) (x : KFunc) :
    (s.setFn k x).fn j = if j = k then x else s.fn j := tget_tset _ k j x _

theorem State.fn_congr {s t : State} (h : t.kpr = s.kpr) (k : Nat) : t.fn k = s.fn k := by
  unfold State.fn; rw [h]

@[simp] theorem State.chan_setChan (s : State) (k j : Nat) (x : Chan) :
    (s.setChan k x).chan j = if j = k then x else s.chan j := tget_tset _ k j x _

theorem State.chan_congr {s t : State} (h : t.pln = s.pln) (k : Nat) : t.chan k = s.chan k := by
  unfold State.chan; rw [h]

@[simp] theorem State.slot_setSlot (s : State) (k j : Nat) (x : Slot) :
    (s.setSlot k x).slot j = if j = k then x else s.slot j := tget_tset _ k j x _

theorem State.slot_congr {s t : State} (h : t.cnd = s.cnd) (k : Nat) : t.slot k = s.slot k := by
  unfold State.slot; rw [h]

@[simp] theorem State.stream_setStream (s : State) (k j : Nat) (x : Stream) :
    (s.setStream k x).stream j = if j = k then x else s.stream j := tget_tset _ k j x _

theorem State.stream_congr {s t : State} (h : t.svi = s.svi) (k : Nat) : t.stream k = s.stream k := by
  unfold State.stream; rw [h]

@[simp] theorem State.prog_setProg (s : State) (k j : Nat) (x : Prog) :
    (s.setProg k x).prog j = if j = k then x else s.prog j := tget_tset _ k j x _

theorem State.prog_congr {s t : State} (h : t.gal = s.gal) (k : Nat) : t.prog k = s.prog k := by
  unfold State.prog; rw [h]

@[simp] theorem State.vec_setVec (s : State) (k j : Nat) (x : Vec) :
    (s.setVec k x).vec j = if j = k then x else s.vec j := tget_tset _ k j x _

theorem State.vec_congr {s t : State} (h : t.hst = s.hst) (k : Nat) : t.vec k = s.vec k := by
  unfold State.vec; rw [h]

@[simp] theorem State.mbox_setMbox (s : State) (k j : Nat) (x : Mbox) :
    (s.setMbox k x).mbox j = if j = k then x else s.mbox j := tget_tset _ k j x _

theorem State.mbox_congr {s t : State} (h : t.hst = s.hst) (k : Nat) : t.mbox k = s.mbox k := by
  unfold State.mbox; rw [h]

@[simp] theorem State.group_setGroup (s : State) (k j : Nat) (x : Group) :
    (s.setGroup k x).group j = if j = k then x else s.group j := tget_tset _ k j x _

theorem State.group_congr {s t : State} (h : t.cnd = s.cnd) (k : Nat) : t.group k = s.group k := by
  unfold State.group; rw [h]

@[simp] theorem State.keeper_setKeeper (s : State) (k j : Nat) (x : Keeper) :
    (s.setKeeper k x).keeper j = if j = k then x else s.keeper j := tget_tset _ k j x _

theorem State.keeper_congr {s t : State} (h : t.kpr = s.kpr) (k : Nat) : t.keeper k = s.keeper k := by
  unfold State.keeper; rw [h]

@[simp] theorem State.canCtl_setCan (s : State) (k j : Nat) (x : CanCtl) :
    (s.setCan k x).canCtl j = if j = k then x else s.canCtl j := tget_tset _ k j x _

theorem State.canCtl_congr {s t : State} (h : t.can = s.can) (k : Nat) : t.canCtl k = s.canCtl k := by
  unfold State.canCtl; rw [h]

@[simp] theorem State.input_setInput (s : State) (k j : Nat) (x : BinIn) :
    (s.setInput k x).input j = if j = k then x else s.input j := tget_tset _ k j x _

theorem State.input_congr {s t : State} (h : t.bin = s.bin) (k : Nat) : t.input k = s.input k := by
  unfold State.input; rw [h]

@[simp] theorem State.func_setFunc (s : State) (k j : Nat) (x : Func) :
    (s.setFunc k x).func j = if j = k then x else s.func j := tget_tset _ k j x _

theorem State.func_congr {s t : State} (h : t.hst = s.hst) (k : Nat) : t.func k = s.func k := by
  unfold State.func; rw [h]

@[simp] theorem State.key_setKey (s : State) (k j : Nat) (x : KeySlot) :
    (s.setKey k x).key j = if j = k then x else s.key j := tget_tset _ k j x _

theorem State.key_congr {s t : State} (h : t.lmp = s.lmp) (k : Nat) : t.key k = s.key k := by
  unfold State.key; rw [h]

@[simp] theorem State.prfCtr_setPrf (s : State) (k j : Nat) (x : PrfCtr) :
    (s.setPrf k x).prfCtr j = if j = k then x else s.prfCtr j := tget_tset _ k j x _

theorem State.prfCtr_congr {s t : State} (h : t.prf = s.prf) (k : Nat) : t.prfCtr k = s.prfCtr k := by
  unfold State.prfCtr; rw [h]

@[simp] theorem State.pubSt_setPub (s : State) (k j : Nat) (x : PubSt) :
    (s.setPub k x).pubSt j = if j = k then x else s.pubSt j := tget_tset _ k j x _

theorem State.pubSt_congr {s t : State} (h : t.pub = s.pub) (k : Nat) : t.pubSt k = s.pubSt k := by
  unfold State.pubSt; rw [h]

@[simp] theorem State.asymOf_setAsym (s : State) (k j : Nat) (x : Asym) :
    (s.setAsym k x).asymOf j = if j = k then x else s.asymOf j := tget_tset _ k j x _

theorem State.asymOf_congr {s t : State} (h : t.bcn = s.bcn) (k : Nat) : t.asymOf k = s.asymOf k := by
  unfold State.asymOf; rw [h]

@[simp] theorem State.rd_wr (s : State) (a b : Nat) (v : Word) : (s.wr a v).rd b = if b = a then v else s.rd b := by
  split
  · rename_i h; subst h; exact State.rd_wr_same s _ v
  · rename_i h; exact State.rd_wr_ne s v h

/-! ### What the shared operations leave -/

/-- Where `State.count` changes nothing. -/
theorem State.count_same (s : State) (a : Nat) {u : Part}
    (h : u ∉ ([.regs] : List Part)) : u.same s (s.count a) :=
  (State.count_fr (Fr.refl s) (List.Subset.refl _)).same h

@[simp] theorem State.count_pending (s : State) (a : Nat) : (s.count a).pending = s.pending :=
  State.count_same s a (u := .pending) (by decide)
@[simp] theorem State.count_out (s : State) (a : Nat) : (s.count a).out = s.out :=
  State.count_same s a (u := .out) (by decide)
@[simp] theorem State.count_readData (s : State) (a : Nat) : (s.count a).readData = s.readData :=
  State.count_same s a (u := .readData) (by decide)
@[simp] theorem State.count_cmds (s : State) (a : Nat) : (s.count a).cmds = s.cmds :=
  State.count_same s a (u := .cmds) (by decide)
@[simp] theorem State.count_once (s : State) (a : Nat) : (s.count a).once = s.once :=
  State.count_same s a (u := .once) (by decide)
@[simp] theorem State.count_time (s : State) (a : Nat) : (s.count a).time = s.time :=
  State.count_same s a (u := .time) (by decide)
@[simp] theorem State.count_glb (s : State) (a : Nat) : (s.count a).glb = s.glb :=
  State.count_same s a (u := .glb) (by decide)
@[simp] theorem State.count_pwr (s : State) (a : Nat) : (s.count a).pwr = s.pwr :=
  State.count_same s a (u := .pwr) (by decide)
@[simp] theorem State.count_log (s : State) (a : Nat) : (s.count a).log = s.log :=
  State.count_same s a (u := .log) (by decide)
@[simp] theorem State.count_evt (s : State) (a : Nat) : (s.count a).evt = s.evt :=
  State.count_same s a (u := .evt) (by decide)
@[simp] theorem State.count_img (s : State) (a : Nat) : (s.count a).img = s.img :=
  State.count_same s a (u := .img) (by decide)
@[simp] theorem State.count_bcn (s : State) (a : Nat) : (s.count a).bcn = s.bcn :=
  State.count_same s a (u := .bcn) (by decide)
@[simp] theorem State.count_ports (s : State) (a : Nat) : (s.count a).ports = s.ports :=
  State.count_same s a (u := .ports) (by decide)
@[simp] theorem State.count_rdg (s : State) (a : Nat) : (s.count a).rdg = s.rdg :=
  State.count_same s a (u := .rdg) (by decide)
@[simp] theorem State.count_cdv (s : State) (a : Nat) : (s.count a).cdv = s.cdv :=
  State.count_same s a (u := .cdv) (by decide)
@[simp] theorem State.count_bin (s : State) (a : Nat) : (s.count a).bin = s.bin :=
  State.count_same s a (u := .bin) (by decide)
@[simp] theorem State.count_can (s : State) (a : Nat) : (s.count a).can = s.can :=
  State.count_same s a (u := .can) (by decide)
@[simp] theorem State.count_prf (s : State) (a : Nat) : (s.count a).prf = s.prf :=
  State.count_same s a (u := .prf) (by decide)
@[simp] theorem State.count_pln (s : State) (a : Nat) : (s.count a).pln = s.pln :=
  State.count_same s a (u := .pln) (by decide)
@[simp] theorem State.count_svi (s : State) (a : Nat) : (s.count a).svi = s.svi :=
  State.count_same s a (u := .svi) (by decide)
@[simp] theorem State.count_cnd (s : State) (a : Nat) : (s.count a).cnd = s.cnd :=
  State.count_same s a (u := .cnd) (by decide)
@[simp] theorem State.count_lmp (s : State) (a : Nat) : (s.count a).lmp = s.lmp :=
  State.count_same s a (u := .lmp) (by decide)
@[simp] theorem State.count_hst (s : State) (a : Nat) : (s.count a).hst = s.hst :=
  State.count_same s a (u := .hst) (by decide)
@[simp] theorem State.count_kpr (s : State) (a : Nat) : (s.count a).kpr = s.kpr :=
  State.count_same s a (u := .kpr) (by decide)
@[simp] theorem State.count_gal (s : State) (a : Nat) : (s.count a).gal = s.gal :=
  State.count_same s a (u := .gal) (by decide)
@[simp] theorem State.count_pub (s : State) (a : Nat) : (s.count a).pub = s.pub :=
  State.count_same s a (u := .pub) (by decide)
@[simp] theorem State.count_pair (s : State) (a : Nat) : (s.count a).pair = s.pair :=
  State.count_same s a (u := .pair) (by decide)

/-- Where `State.countBy` changes nothing. -/
theorem State.countBy_same (s : State) (a : Nat) (n : Nat) {u : Part}
    (h : u ∉ ([.regs] : List Part)) : u.same s (s.countBy a n) :=
  (State.countBy_fr (Fr.refl s) (List.Subset.refl _)).same h

@[simp] theorem State.countBy_pending (s : State) (a : Nat) (n : Nat) : (s.countBy a n).pending = s.pending :=
  State.countBy_same s a n (u := .pending) (by decide)
@[simp] theorem State.countBy_out (s : State) (a : Nat) (n : Nat) : (s.countBy a n).out = s.out :=
  State.countBy_same s a n (u := .out) (by decide)
@[simp] theorem State.countBy_readData (s : State) (a : Nat) (n : Nat) : (s.countBy a n).readData = s.readData :=
  State.countBy_same s a n (u := .readData) (by decide)
@[simp] theorem State.countBy_cmds (s : State) (a : Nat) (n : Nat) : (s.countBy a n).cmds = s.cmds :=
  State.countBy_same s a n (u := .cmds) (by decide)
@[simp] theorem State.countBy_once (s : State) (a : Nat) (n : Nat) : (s.countBy a n).once = s.once :=
  State.countBy_same s a n (u := .once) (by decide)
@[simp] theorem State.countBy_time (s : State) (a : Nat) (n : Nat) : (s.countBy a n).time = s.time :=
  State.countBy_same s a n (u := .time) (by decide)
@[simp] theorem State.countBy_glb (s : State) (a : Nat) (n : Nat) : (s.countBy a n).glb = s.glb :=
  State.countBy_same s a n (u := .glb) (by decide)
@[simp] theorem State.countBy_pwr (s : State) (a : Nat) (n : Nat) : (s.countBy a n).pwr = s.pwr :=
  State.countBy_same s a n (u := .pwr) (by decide)
@[simp] theorem State.countBy_log (s : State) (a : Nat) (n : Nat) : (s.countBy a n).log = s.log :=
  State.countBy_same s a n (u := .log) (by decide)
@[simp] theorem State.countBy_evt (s : State) (a : Nat) (n : Nat) : (s.countBy a n).evt = s.evt :=
  State.countBy_same s a n (u := .evt) (by decide)
@[simp] theorem State.countBy_img (s : State) (a : Nat) (n : Nat) : (s.countBy a n).img = s.img :=
  State.countBy_same s a n (u := .img) (by decide)
@[simp] theorem State.countBy_bcn (s : State) (a : Nat) (n : Nat) : (s.countBy a n).bcn = s.bcn :=
  State.countBy_same s a n (u := .bcn) (by decide)
@[simp] theorem State.countBy_ports (s : State) (a : Nat) (n : Nat) : (s.countBy a n).ports = s.ports :=
  State.countBy_same s a n (u := .ports) (by decide)
@[simp] theorem State.countBy_rdg (s : State) (a : Nat) (n : Nat) : (s.countBy a n).rdg = s.rdg :=
  State.countBy_same s a n (u := .rdg) (by decide)
@[simp] theorem State.countBy_cdv (s : State) (a : Nat) (n : Nat) : (s.countBy a n).cdv = s.cdv :=
  State.countBy_same s a n (u := .cdv) (by decide)
@[simp] theorem State.countBy_bin (s : State) (a : Nat) (n : Nat) : (s.countBy a n).bin = s.bin :=
  State.countBy_same s a n (u := .bin) (by decide)
@[simp] theorem State.countBy_can (s : State) (a : Nat) (n : Nat) : (s.countBy a n).can = s.can :=
  State.countBy_same s a n (u := .can) (by decide)
@[simp] theorem State.countBy_prf (s : State) (a : Nat) (n : Nat) : (s.countBy a n).prf = s.prf :=
  State.countBy_same s a n (u := .prf) (by decide)
@[simp] theorem State.countBy_pln (s : State) (a : Nat) (n : Nat) : (s.countBy a n).pln = s.pln :=
  State.countBy_same s a n (u := .pln) (by decide)
@[simp] theorem State.countBy_svi (s : State) (a : Nat) (n : Nat) : (s.countBy a n).svi = s.svi :=
  State.countBy_same s a n (u := .svi) (by decide)
@[simp] theorem State.countBy_cnd (s : State) (a : Nat) (n : Nat) : (s.countBy a n).cnd = s.cnd :=
  State.countBy_same s a n (u := .cnd) (by decide)
@[simp] theorem State.countBy_lmp (s : State) (a : Nat) (n : Nat) : (s.countBy a n).lmp = s.lmp :=
  State.countBy_same s a n (u := .lmp) (by decide)
@[simp] theorem State.countBy_hst (s : State) (a : Nat) (n : Nat) : (s.countBy a n).hst = s.hst :=
  State.countBy_same s a n (u := .hst) (by decide)
@[simp] theorem State.countBy_kpr (s : State) (a : Nat) (n : Nat) : (s.countBy a n).kpr = s.kpr :=
  State.countBy_same s a n (u := .kpr) (by decide)
@[simp] theorem State.countBy_gal (s : State) (a : Nat) (n : Nat) : (s.countBy a n).gal = s.gal :=
  State.countBy_same s a n (u := .gal) (by decide)
@[simp] theorem State.countBy_pub (s : State) (a : Nat) (n : Nat) : (s.countBy a n).pub = s.pub :=
  State.countBy_same s a n (u := .pub) (by decide)
@[simp] theorem State.countBy_pair (s : State) (a : Nat) (n : Nat) : (s.countBy a n).pair = s.pair :=
  State.countBy_same s a n (u := .pair) (by decide)

/-- Where `State.wrapBy` changes nothing. -/
theorem State.wrapBy_same (s : State) (a : Nat) (n : Nat) {u : Part}
    (h : u ∉ ([.regs] : List Part)) : u.same s (s.wrapBy a n) :=
  (State.wrapBy_fr (Fr.refl s) (List.Subset.refl _)).same h

@[simp] theorem State.wrapBy_pending (s : State) (a : Nat) (n : Nat) : (s.wrapBy a n).pending = s.pending :=
  State.wrapBy_same s a n (u := .pending) (by decide)
@[simp] theorem State.wrapBy_out (s : State) (a : Nat) (n : Nat) : (s.wrapBy a n).out = s.out :=
  State.wrapBy_same s a n (u := .out) (by decide)
@[simp] theorem State.wrapBy_readData (s : State) (a : Nat) (n : Nat) : (s.wrapBy a n).readData = s.readData :=
  State.wrapBy_same s a n (u := .readData) (by decide)
@[simp] theorem State.wrapBy_cmds (s : State) (a : Nat) (n : Nat) : (s.wrapBy a n).cmds = s.cmds :=
  State.wrapBy_same s a n (u := .cmds) (by decide)
@[simp] theorem State.wrapBy_once (s : State) (a : Nat) (n : Nat) : (s.wrapBy a n).once = s.once :=
  State.wrapBy_same s a n (u := .once) (by decide)
@[simp] theorem State.wrapBy_time (s : State) (a : Nat) (n : Nat) : (s.wrapBy a n).time = s.time :=
  State.wrapBy_same s a n (u := .time) (by decide)
@[simp] theorem State.wrapBy_glb (s : State) (a : Nat) (n : Nat) : (s.wrapBy a n).glb = s.glb :=
  State.wrapBy_same s a n (u := .glb) (by decide)
@[simp] theorem State.wrapBy_pwr (s : State) (a : Nat) (n : Nat) : (s.wrapBy a n).pwr = s.pwr :=
  State.wrapBy_same s a n (u := .pwr) (by decide)
@[simp] theorem State.wrapBy_log (s : State) (a : Nat) (n : Nat) : (s.wrapBy a n).log = s.log :=
  State.wrapBy_same s a n (u := .log) (by decide)
@[simp] theorem State.wrapBy_evt (s : State) (a : Nat) (n : Nat) : (s.wrapBy a n).evt = s.evt :=
  State.wrapBy_same s a n (u := .evt) (by decide)
@[simp] theorem State.wrapBy_img (s : State) (a : Nat) (n : Nat) : (s.wrapBy a n).img = s.img :=
  State.wrapBy_same s a n (u := .img) (by decide)
@[simp] theorem State.wrapBy_bcn (s : State) (a : Nat) (n : Nat) : (s.wrapBy a n).bcn = s.bcn :=
  State.wrapBy_same s a n (u := .bcn) (by decide)
@[simp] theorem State.wrapBy_ports (s : State) (a : Nat) (n : Nat) : (s.wrapBy a n).ports = s.ports :=
  State.wrapBy_same s a n (u := .ports) (by decide)
@[simp] theorem State.wrapBy_rdg (s : State) (a : Nat) (n : Nat) : (s.wrapBy a n).rdg = s.rdg :=
  State.wrapBy_same s a n (u := .rdg) (by decide)
@[simp] theorem State.wrapBy_cdv (s : State) (a : Nat) (n : Nat) : (s.wrapBy a n).cdv = s.cdv :=
  State.wrapBy_same s a n (u := .cdv) (by decide)
@[simp] theorem State.wrapBy_bin (s : State) (a : Nat) (n : Nat) : (s.wrapBy a n).bin = s.bin :=
  State.wrapBy_same s a n (u := .bin) (by decide)
@[simp] theorem State.wrapBy_can (s : State) (a : Nat) (n : Nat) : (s.wrapBy a n).can = s.can :=
  State.wrapBy_same s a n (u := .can) (by decide)
@[simp] theorem State.wrapBy_prf (s : State) (a : Nat) (n : Nat) : (s.wrapBy a n).prf = s.prf :=
  State.wrapBy_same s a n (u := .prf) (by decide)
@[simp] theorem State.wrapBy_pln (s : State) (a : Nat) (n : Nat) : (s.wrapBy a n).pln = s.pln :=
  State.wrapBy_same s a n (u := .pln) (by decide)
@[simp] theorem State.wrapBy_svi (s : State) (a : Nat) (n : Nat) : (s.wrapBy a n).svi = s.svi :=
  State.wrapBy_same s a n (u := .svi) (by decide)
@[simp] theorem State.wrapBy_cnd (s : State) (a : Nat) (n : Nat) : (s.wrapBy a n).cnd = s.cnd :=
  State.wrapBy_same s a n (u := .cnd) (by decide)
@[simp] theorem State.wrapBy_lmp (s : State) (a : Nat) (n : Nat) : (s.wrapBy a n).lmp = s.lmp :=
  State.wrapBy_same s a n (u := .lmp) (by decide)
@[simp] theorem State.wrapBy_hst (s : State) (a : Nat) (n : Nat) : (s.wrapBy a n).hst = s.hst :=
  State.wrapBy_same s a n (u := .hst) (by decide)
@[simp] theorem State.wrapBy_kpr (s : State) (a : Nat) (n : Nat) : (s.wrapBy a n).kpr = s.kpr :=
  State.wrapBy_same s a n (u := .kpr) (by decide)
@[simp] theorem State.wrapBy_gal (s : State) (a : Nat) (n : Nat) : (s.wrapBy a n).gal = s.gal :=
  State.wrapBy_same s a n (u := .gal) (by decide)
@[simp] theorem State.wrapBy_pub (s : State) (a : Nat) (n : Nat) : (s.wrapBy a n).pub = s.pub :=
  State.wrapBy_same s a n (u := .pub) (by decide)
@[simp] theorem State.wrapBy_pair (s : State) (a : Nat) (n : Nat) : (s.wrapBy a n).pair = s.pair :=
  State.wrapBy_same s a n (u := .pair) (by decide)

/-- Where `State.deliver` changes nothing. -/
theorem State.deliver_same (s : State) (src : Nat) {u : Part}
    (h : u ∉ ([.regs, .evt] : List Part)) : u.same s (s.deliver src) :=
  (State.deliver_fr (Fr.refl s) (List.Subset.refl _)).same h

@[simp] theorem State.deliver_pending (s : State) (src : Nat) : (s.deliver src).pending = s.pending :=
  State.deliver_same s src (u := .pending) (by decide)
@[simp] theorem State.deliver_out (s : State) (src : Nat) : (s.deliver src).out = s.out :=
  State.deliver_same s src (u := .out) (by decide)
@[simp] theorem State.deliver_readData (s : State) (src : Nat) : (s.deliver src).readData = s.readData :=
  State.deliver_same s src (u := .readData) (by decide)
@[simp] theorem State.deliver_cmds (s : State) (src : Nat) : (s.deliver src).cmds = s.cmds :=
  State.deliver_same s src (u := .cmds) (by decide)
@[simp] theorem State.deliver_once (s : State) (src : Nat) : (s.deliver src).once = s.once :=
  State.deliver_same s src (u := .once) (by decide)
@[simp] theorem State.deliver_time (s : State) (src : Nat) : (s.deliver src).time = s.time :=
  State.deliver_same s src (u := .time) (by decide)
@[simp] theorem State.deliver_glb (s : State) (src : Nat) : (s.deliver src).glb = s.glb :=
  State.deliver_same s src (u := .glb) (by decide)
@[simp] theorem State.deliver_pwr (s : State) (src : Nat) : (s.deliver src).pwr = s.pwr :=
  State.deliver_same s src (u := .pwr) (by decide)
@[simp] theorem State.deliver_log (s : State) (src : Nat) : (s.deliver src).log = s.log :=
  State.deliver_same s src (u := .log) (by decide)
@[simp] theorem State.deliver_img (s : State) (src : Nat) : (s.deliver src).img = s.img :=
  State.deliver_same s src (u := .img) (by decide)
@[simp] theorem State.deliver_bcn (s : State) (src : Nat) : (s.deliver src).bcn = s.bcn :=
  State.deliver_same s src (u := .bcn) (by decide)
@[simp] theorem State.deliver_ports (s : State) (src : Nat) : (s.deliver src).ports = s.ports :=
  State.deliver_same s src (u := .ports) (by decide)
@[simp] theorem State.deliver_rdg (s : State) (src : Nat) : (s.deliver src).rdg = s.rdg :=
  State.deliver_same s src (u := .rdg) (by decide)
@[simp] theorem State.deliver_cdv (s : State) (src : Nat) : (s.deliver src).cdv = s.cdv :=
  State.deliver_same s src (u := .cdv) (by decide)
@[simp] theorem State.deliver_bin (s : State) (src : Nat) : (s.deliver src).bin = s.bin :=
  State.deliver_same s src (u := .bin) (by decide)
@[simp] theorem State.deliver_can (s : State) (src : Nat) : (s.deliver src).can = s.can :=
  State.deliver_same s src (u := .can) (by decide)
@[simp] theorem State.deliver_prf (s : State) (src : Nat) : (s.deliver src).prf = s.prf :=
  State.deliver_same s src (u := .prf) (by decide)
@[simp] theorem State.deliver_pln (s : State) (src : Nat) : (s.deliver src).pln = s.pln :=
  State.deliver_same s src (u := .pln) (by decide)
@[simp] theorem State.deliver_svi (s : State) (src : Nat) : (s.deliver src).svi = s.svi :=
  State.deliver_same s src (u := .svi) (by decide)
@[simp] theorem State.deliver_cnd (s : State) (src : Nat) : (s.deliver src).cnd = s.cnd :=
  State.deliver_same s src (u := .cnd) (by decide)
@[simp] theorem State.deliver_lmp (s : State) (src : Nat) : (s.deliver src).lmp = s.lmp :=
  State.deliver_same s src (u := .lmp) (by decide)
@[simp] theorem State.deliver_hst (s : State) (src : Nat) : (s.deliver src).hst = s.hst :=
  State.deliver_same s src (u := .hst) (by decide)
@[simp] theorem State.deliver_kpr (s : State) (src : Nat) : (s.deliver src).kpr = s.kpr :=
  State.deliver_same s src (u := .kpr) (by decide)
@[simp] theorem State.deliver_gal (s : State) (src : Nat) : (s.deliver src).gal = s.gal :=
  State.deliver_same s src (u := .gal) (by decide)
@[simp] theorem State.deliver_pub (s : State) (src : Nat) : (s.deliver src).pub = s.pub :=
  State.deliver_same s src (u := .pub) (by decide)
@[simp] theorem State.deliver_pair (s : State) (src : Nat) : (s.deliver src).pair = s.pair :=
  State.deliver_same s src (u := .pair) (by decide)

/-- Where `State.setEvent` changes nothing. -/
theorem State.setEvent_same (s : State) (src : Nat) {u : Part}
    (h : u ∉ ([.regs, .evt] : List Part)) : u.same s (s.setEvent src) :=
  (State.setEvent_fr (Fr.refl s) (List.Subset.refl _)).same h

@[simp] theorem State.setEvent_pending (s : State) (src : Nat) : (s.setEvent src).pending = s.pending :=
  State.setEvent_same s src (u := .pending) (by decide)
@[simp] theorem State.setEvent_out (s : State) (src : Nat) : (s.setEvent src).out = s.out :=
  State.setEvent_same s src (u := .out) (by decide)
@[simp] theorem State.setEvent_readData (s : State) (src : Nat) : (s.setEvent src).readData = s.readData :=
  State.setEvent_same s src (u := .readData) (by decide)
@[simp] theorem State.setEvent_once (s : State) (src : Nat) : (s.setEvent src).once = s.once :=
  State.setEvent_same s src (u := .once) (by decide)
@[simp] theorem State.setEvent_time (s : State) (src : Nat) : (s.setEvent src).time = s.time :=
  State.setEvent_same s src (u := .time) (by decide)
@[simp] theorem State.setEvent_glb (s : State) (src : Nat) : (s.setEvent src).glb = s.glb :=
  State.setEvent_same s src (u := .glb) (by decide)
@[simp] theorem State.setEvent_pwr (s : State) (src : Nat) : (s.setEvent src).pwr = s.pwr :=
  State.setEvent_same s src (u := .pwr) (by decide)
@[simp] theorem State.setEvent_log (s : State) (src : Nat) : (s.setEvent src).log = s.log :=
  State.setEvent_same s src (u := .log) (by decide)
@[simp] theorem State.setEvent_img (s : State) (src : Nat) : (s.setEvent src).img = s.img :=
  State.setEvent_same s src (u := .img) (by decide)
@[simp] theorem State.setEvent_bcn (s : State) (src : Nat) : (s.setEvent src).bcn = s.bcn :=
  State.setEvent_same s src (u := .bcn) (by decide)
@[simp] theorem State.setEvent_ports (s : State) (src : Nat) : (s.setEvent src).ports = s.ports :=
  State.setEvent_same s src (u := .ports) (by decide)
@[simp] theorem State.setEvent_rdg (s : State) (src : Nat) : (s.setEvent src).rdg = s.rdg :=
  State.setEvent_same s src (u := .rdg) (by decide)
@[simp] theorem State.setEvent_cdv (s : State) (src : Nat) : (s.setEvent src).cdv = s.cdv :=
  State.setEvent_same s src (u := .cdv) (by decide)
@[simp] theorem State.setEvent_bin (s : State) (src : Nat) : (s.setEvent src).bin = s.bin :=
  State.setEvent_same s src (u := .bin) (by decide)
@[simp] theorem State.setEvent_can (s : State) (src : Nat) : (s.setEvent src).can = s.can :=
  State.setEvent_same s src (u := .can) (by decide)
@[simp] theorem State.setEvent_prf (s : State) (src : Nat) : (s.setEvent src).prf = s.prf :=
  State.setEvent_same s src (u := .prf) (by decide)
@[simp] theorem State.setEvent_pln (s : State) (src : Nat) : (s.setEvent src).pln = s.pln :=
  State.setEvent_same s src (u := .pln) (by decide)
@[simp] theorem State.setEvent_svi (s : State) (src : Nat) : (s.setEvent src).svi = s.svi :=
  State.setEvent_same s src (u := .svi) (by decide)
@[simp] theorem State.setEvent_cnd (s : State) (src : Nat) : (s.setEvent src).cnd = s.cnd :=
  State.setEvent_same s src (u := .cnd) (by decide)
@[simp] theorem State.setEvent_lmp (s : State) (src : Nat) : (s.setEvent src).lmp = s.lmp :=
  State.setEvent_same s src (u := .lmp) (by decide)
@[simp] theorem State.setEvent_hst (s : State) (src : Nat) : (s.setEvent src).hst = s.hst :=
  State.setEvent_same s src (u := .hst) (by decide)
@[simp] theorem State.setEvent_kpr (s : State) (src : Nat) : (s.setEvent src).kpr = s.kpr :=
  State.setEvent_same s src (u := .kpr) (by decide)
@[simp] theorem State.setEvent_gal (s : State) (src : Nat) : (s.setEvent src).gal = s.gal :=
  State.setEvent_same s src (u := .gal) (by decide)
@[simp] theorem State.setEvent_pub (s : State) (src : Nat) : (s.setEvent src).pub = s.pub :=
  State.setEvent_same s src (u := .pub) (by decide)
@[simp] theorem State.setEvent_pair (s : State) (src : Nat) : (s.setEvent src).pair = s.pair :=
  State.setEvent_same s src (u := .pair) (by decide)

/-- Where `State.logLose` changes nothing. -/
theorem State.logLose_same (s : State) (cls : Nat) (seq : Nat) {u : Part}
    (h : u ∉ ([.regs, .log, .evt] : List Part)) : u.same s (s.logLose cls seq) :=
  (State.logLose_fr (Fr.refl s) (List.Subset.refl _)).same h

@[simp] theorem State.logLose_pending (s : State) (cls : Nat) (seq : Nat) : (s.logLose cls seq).pending = s.pending :=
  State.logLose_same s cls seq (u := .pending) (by decide)
@[simp] theorem State.logLose_out (s : State) (cls : Nat) (seq : Nat) : (s.logLose cls seq).out = s.out :=
  State.logLose_same s cls seq (u := .out) (by decide)
@[simp] theorem State.logLose_readData (s : State) (cls : Nat) (seq : Nat) :
    (s.logLose cls seq).readData = s.readData :=
  State.logLose_same s cls seq (u := .readData) (by decide)
@[simp] theorem State.logLose_cmds (s : State) (cls : Nat) (seq : Nat) : (s.logLose cls seq).cmds = s.cmds :=
  State.logLose_same s cls seq (u := .cmds) (by decide)
@[simp] theorem State.logLose_once (s : State) (cls : Nat) (seq : Nat) : (s.logLose cls seq).once = s.once :=
  State.logLose_same s cls seq (u := .once) (by decide)
@[simp] theorem State.logLose_time (s : State) (cls : Nat) (seq : Nat) : (s.logLose cls seq).time = s.time :=
  State.logLose_same s cls seq (u := .time) (by decide)
@[simp] theorem State.logLose_glb (s : State) (cls : Nat) (seq : Nat) : (s.logLose cls seq).glb = s.glb :=
  State.logLose_same s cls seq (u := .glb) (by decide)
@[simp] theorem State.logLose_pwr (s : State) (cls : Nat) (seq : Nat) : (s.logLose cls seq).pwr = s.pwr :=
  State.logLose_same s cls seq (u := .pwr) (by decide)
@[simp] theorem State.logLose_img (s : State) (cls : Nat) (seq : Nat) : (s.logLose cls seq).img = s.img :=
  State.logLose_same s cls seq (u := .img) (by decide)
@[simp] theorem State.logLose_bcn (s : State) (cls : Nat) (seq : Nat) : (s.logLose cls seq).bcn = s.bcn :=
  State.logLose_same s cls seq (u := .bcn) (by decide)
@[simp] theorem State.logLose_ports (s : State) (cls : Nat) (seq : Nat) : (s.logLose cls seq).ports = s.ports :=
  State.logLose_same s cls seq (u := .ports) (by decide)
@[simp] theorem State.logLose_rdg (s : State) (cls : Nat) (seq : Nat) : (s.logLose cls seq).rdg = s.rdg :=
  State.logLose_same s cls seq (u := .rdg) (by decide)
@[simp] theorem State.logLose_cdv (s : State) (cls : Nat) (seq : Nat) : (s.logLose cls seq).cdv = s.cdv :=
  State.logLose_same s cls seq (u := .cdv) (by decide)
@[simp] theorem State.logLose_bin (s : State) (cls : Nat) (seq : Nat) : (s.logLose cls seq).bin = s.bin :=
  State.logLose_same s cls seq (u := .bin) (by decide)
@[simp] theorem State.logLose_can (s : State) (cls : Nat) (seq : Nat) : (s.logLose cls seq).can = s.can :=
  State.logLose_same s cls seq (u := .can) (by decide)
@[simp] theorem State.logLose_prf (s : State) (cls : Nat) (seq : Nat) : (s.logLose cls seq).prf = s.prf :=
  State.logLose_same s cls seq (u := .prf) (by decide)
@[simp] theorem State.logLose_pln (s : State) (cls : Nat) (seq : Nat) : (s.logLose cls seq).pln = s.pln :=
  State.logLose_same s cls seq (u := .pln) (by decide)
@[simp] theorem State.logLose_svi (s : State) (cls : Nat) (seq : Nat) : (s.logLose cls seq).svi = s.svi :=
  State.logLose_same s cls seq (u := .svi) (by decide)
@[simp] theorem State.logLose_cnd (s : State) (cls : Nat) (seq : Nat) : (s.logLose cls seq).cnd = s.cnd :=
  State.logLose_same s cls seq (u := .cnd) (by decide)
@[simp] theorem State.logLose_lmp (s : State) (cls : Nat) (seq : Nat) : (s.logLose cls seq).lmp = s.lmp :=
  State.logLose_same s cls seq (u := .lmp) (by decide)
@[simp] theorem State.logLose_hst (s : State) (cls : Nat) (seq : Nat) : (s.logLose cls seq).hst = s.hst :=
  State.logLose_same s cls seq (u := .hst) (by decide)
@[simp] theorem State.logLose_kpr (s : State) (cls : Nat) (seq : Nat) : (s.logLose cls seq).kpr = s.kpr :=
  State.logLose_same s cls seq (u := .kpr) (by decide)
@[simp] theorem State.logLose_gal (s : State) (cls : Nat) (seq : Nat) : (s.logLose cls seq).gal = s.gal :=
  State.logLose_same s cls seq (u := .gal) (by decide)
@[simp] theorem State.logLose_pub (s : State) (cls : Nat) (seq : Nat) : (s.logLose cls seq).pub = s.pub :=
  State.logLose_same s cls seq (u := .pub) (by decide)
@[simp] theorem State.logLose_pair (s : State) (cls : Nat) (seq : Nat) : (s.logLose cls seq).pair = s.pair :=
  State.logLose_same s cls seq (u := .pair) (by decide)

/-- Where `State.logAccept` changes nothing. -/
theorem State.logAccept_same (s : State) (r : LogRec) {u : Part}
    (h : u ∉ ([.regs, .log, .evt] : List Part)) : u.same s (s.logAccept r) :=
  (State.logAccept_fr (Fr.refl s) (List.Subset.refl _)).same h

@[simp] theorem State.logAccept_pending (s : State) (r : LogRec) : (s.logAccept r).pending = s.pending :=
  State.logAccept_same s r (u := .pending) (by decide)
@[simp] theorem State.logAccept_out (s : State) (r : LogRec) : (s.logAccept r).out = s.out :=
  State.logAccept_same s r (u := .out) (by decide)
@[simp] theorem State.logAccept_readData (s : State) (r : LogRec) : (s.logAccept r).readData = s.readData :=
  State.logAccept_same s r (u := .readData) (by decide)
@[simp] theorem State.logAccept_cmds (s : State) (r : LogRec) : (s.logAccept r).cmds = s.cmds :=
  State.logAccept_same s r (u := .cmds) (by decide)
@[simp] theorem State.logAccept_once (s : State) (r : LogRec) : (s.logAccept r).once = s.once :=
  State.logAccept_same s r (u := .once) (by decide)
@[simp] theorem State.logAccept_time (s : State) (r : LogRec) : (s.logAccept r).time = s.time :=
  State.logAccept_same s r (u := .time) (by decide)
@[simp] theorem State.logAccept_glb (s : State) (r : LogRec) : (s.logAccept r).glb = s.glb :=
  State.logAccept_same s r (u := .glb) (by decide)
@[simp] theorem State.logAccept_pwr (s : State) (r : LogRec) : (s.logAccept r).pwr = s.pwr :=
  State.logAccept_same s r (u := .pwr) (by decide)
@[simp] theorem State.logAccept_img (s : State) (r : LogRec) : (s.logAccept r).img = s.img :=
  State.logAccept_same s r (u := .img) (by decide)
@[simp] theorem State.logAccept_bcn (s : State) (r : LogRec) : (s.logAccept r).bcn = s.bcn :=
  State.logAccept_same s r (u := .bcn) (by decide)
@[simp] theorem State.logAccept_ports (s : State) (r : LogRec) : (s.logAccept r).ports = s.ports :=
  State.logAccept_same s r (u := .ports) (by decide)
@[simp] theorem State.logAccept_rdg (s : State) (r : LogRec) : (s.logAccept r).rdg = s.rdg :=
  State.logAccept_same s r (u := .rdg) (by decide)
@[simp] theorem State.logAccept_cdv (s : State) (r : LogRec) : (s.logAccept r).cdv = s.cdv :=
  State.logAccept_same s r (u := .cdv) (by decide)
@[simp] theorem State.logAccept_bin (s : State) (r : LogRec) : (s.logAccept r).bin = s.bin :=
  State.logAccept_same s r (u := .bin) (by decide)
@[simp] theorem State.logAccept_can (s : State) (r : LogRec) : (s.logAccept r).can = s.can :=
  State.logAccept_same s r (u := .can) (by decide)
@[simp] theorem State.logAccept_prf (s : State) (r : LogRec) : (s.logAccept r).prf = s.prf :=
  State.logAccept_same s r (u := .prf) (by decide)
@[simp] theorem State.logAccept_pln (s : State) (r : LogRec) : (s.logAccept r).pln = s.pln :=
  State.logAccept_same s r (u := .pln) (by decide)
@[simp] theorem State.logAccept_svi (s : State) (r : LogRec) : (s.logAccept r).svi = s.svi :=
  State.logAccept_same s r (u := .svi) (by decide)
@[simp] theorem State.logAccept_cnd (s : State) (r : LogRec) : (s.logAccept r).cnd = s.cnd :=
  State.logAccept_same s r (u := .cnd) (by decide)
@[simp] theorem State.logAccept_lmp (s : State) (r : LogRec) : (s.logAccept r).lmp = s.lmp :=
  State.logAccept_same s r (u := .lmp) (by decide)
@[simp] theorem State.logAccept_hst (s : State) (r : LogRec) : (s.logAccept r).hst = s.hst :=
  State.logAccept_same s r (u := .hst) (by decide)
@[simp] theorem State.logAccept_kpr (s : State) (r : LogRec) : (s.logAccept r).kpr = s.kpr :=
  State.logAccept_same s r (u := .kpr) (by decide)
@[simp] theorem State.logAccept_gal (s : State) (r : LogRec) : (s.logAccept r).gal = s.gal :=
  State.logAccept_same s r (u := .gal) (by decide)
@[simp] theorem State.logAccept_pub (s : State) (r : LogRec) : (s.logAccept r).pub = s.pub :=
  State.logAccept_same s r (u := .pub) (by decide)
@[simp] theorem State.logAccept_pair (s : State) (r : LogRec) : (s.logAccept r).pair = s.pair :=
  State.logAccept_same s r (u := .pair) (by decide)

/-- Where `State.logOffer` changes nothing. -/
theorem State.logOffer_same (s : State) (r : LogRec) {u : Part}
    (h : u ∉ ([.regs, .log, .evt] : List Part)) : u.same s (s.logOffer r) :=
  (State.logOffer_fr (Fr.refl s) (List.Subset.refl _)).same h

@[simp] theorem State.logOffer_pending (s : State) (r : LogRec) : (s.logOffer r).pending = s.pending :=
  State.logOffer_same s r (u := .pending) (by decide)
@[simp] theorem State.logOffer_out (s : State) (r : LogRec) : (s.logOffer r).out = s.out :=
  State.logOffer_same s r (u := .out) (by decide)
@[simp] theorem State.logOffer_readData (s : State) (r : LogRec) : (s.logOffer r).readData = s.readData :=
  State.logOffer_same s r (u := .readData) (by decide)
@[simp] theorem State.logOffer_cmds (s : State) (r : LogRec) : (s.logOffer r).cmds = s.cmds :=
  State.logOffer_same s r (u := .cmds) (by decide)
@[simp] theorem State.logOffer_once (s : State) (r : LogRec) : (s.logOffer r).once = s.once :=
  State.logOffer_same s r (u := .once) (by decide)
@[simp] theorem State.logOffer_time (s : State) (r : LogRec) : (s.logOffer r).time = s.time :=
  State.logOffer_same s r (u := .time) (by decide)
@[simp] theorem State.logOffer_glb (s : State) (r : LogRec) : (s.logOffer r).glb = s.glb :=
  State.logOffer_same s r (u := .glb) (by decide)
@[simp] theorem State.logOffer_pwr (s : State) (r : LogRec) : (s.logOffer r).pwr = s.pwr :=
  State.logOffer_same s r (u := .pwr) (by decide)
@[simp] theorem State.logOffer_img (s : State) (r : LogRec) : (s.logOffer r).img = s.img :=
  State.logOffer_same s r (u := .img) (by decide)
@[simp] theorem State.logOffer_bcn (s : State) (r : LogRec) : (s.logOffer r).bcn = s.bcn :=
  State.logOffer_same s r (u := .bcn) (by decide)
@[simp] theorem State.logOffer_ports (s : State) (r : LogRec) : (s.logOffer r).ports = s.ports :=
  State.logOffer_same s r (u := .ports) (by decide)
@[simp] theorem State.logOffer_rdg (s : State) (r : LogRec) : (s.logOffer r).rdg = s.rdg :=
  State.logOffer_same s r (u := .rdg) (by decide)
@[simp] theorem State.logOffer_cdv (s : State) (r : LogRec) : (s.logOffer r).cdv = s.cdv :=
  State.logOffer_same s r (u := .cdv) (by decide)
@[simp] theorem State.logOffer_bin (s : State) (r : LogRec) : (s.logOffer r).bin = s.bin :=
  State.logOffer_same s r (u := .bin) (by decide)
@[simp] theorem State.logOffer_can (s : State) (r : LogRec) : (s.logOffer r).can = s.can :=
  State.logOffer_same s r (u := .can) (by decide)
@[simp] theorem State.logOffer_prf (s : State) (r : LogRec) : (s.logOffer r).prf = s.prf :=
  State.logOffer_same s r (u := .prf) (by decide)
@[simp] theorem State.logOffer_pln (s : State) (r : LogRec) : (s.logOffer r).pln = s.pln :=
  State.logOffer_same s r (u := .pln) (by decide)
@[simp] theorem State.logOffer_svi (s : State) (r : LogRec) : (s.logOffer r).svi = s.svi :=
  State.logOffer_same s r (u := .svi) (by decide)
@[simp] theorem State.logOffer_cnd (s : State) (r : LogRec) : (s.logOffer r).cnd = s.cnd :=
  State.logOffer_same s r (u := .cnd) (by decide)
@[simp] theorem State.logOffer_lmp (s : State) (r : LogRec) : (s.logOffer r).lmp = s.lmp :=
  State.logOffer_same s r (u := .lmp) (by decide)
@[simp] theorem State.logOffer_hst (s : State) (r : LogRec) : (s.logOffer r).hst = s.hst :=
  State.logOffer_same s r (u := .hst) (by decide)
@[simp] theorem State.logOffer_kpr (s : State) (r : LogRec) : (s.logOffer r).kpr = s.kpr :=
  State.logOffer_same s r (u := .kpr) (by decide)
@[simp] theorem State.logOffer_gal (s : State) (r : LogRec) : (s.logOffer r).gal = s.gal :=
  State.logOffer_same s r (u := .gal) (by decide)
@[simp] theorem State.logOffer_pub (s : State) (r : LogRec) : (s.logOffer r).pub = s.pub :=
  State.logOffer_same s r (u := .pub) (by decide)
@[simp] theorem State.logOffer_pair (s : State) (r : LogRec) : (s.logOffer r).pair = s.pair :=
  State.logOffer_same s r (u := .pair) (by decide)

/-- Where `State.logPut` changes nothing. -/
theorem State.logPut_same (s : State) (code : Nat) (block : Nat) (inst : Nat) (p0 : Nat) (p1 : Nat) (p2 : Nat) {u : Part}
    (h : u ∉ ([.regs, .log, .evt] : List Part)) : u.same s (s.logPut code block inst p0 p1 p2) :=
  (State.logPut_fr (Fr.refl s) (List.Subset.refl _)).same h

@[simp] theorem State.logPut_pending (s : State) (code : Nat) (block : Nat) (inst : Nat) (p0 : Nat) (p1 : Nat) (p2 : Nat) :
    (s.logPut code block inst p0 p1 p2).pending = s.pending :=
  State.logPut_same s code block inst p0 p1 p2 (u := .pending) (by decide)
@[simp] theorem State.logPut_out (s : State) (code : Nat) (block : Nat) (inst : Nat) (p0 : Nat) (p1 : Nat) (p2 : Nat) :
    (s.logPut code block inst p0 p1 p2).out = s.out :=
  State.logPut_same s code block inst p0 p1 p2 (u := .out) (by decide)
@[simp] theorem State.logPut_readData (s : State) (code : Nat) (block : Nat) (inst : Nat) (p0 : Nat) (p1 : Nat) (p2 : Nat) :
    (s.logPut code block inst p0 p1 p2).readData = s.readData :=
  State.logPut_same s code block inst p0 p1 p2 (u := .readData) (by decide)
@[simp] theorem State.logPut_once (s : State) (code : Nat) (block : Nat) (inst : Nat) (p0 : Nat) (p1 : Nat) (p2 : Nat) :
    (s.logPut code block inst p0 p1 p2).once = s.once :=
  State.logPut_same s code block inst p0 p1 p2 (u := .once) (by decide)
@[simp] theorem State.logPut_time (s : State) (code : Nat) (block : Nat) (inst : Nat) (p0 : Nat) (p1 : Nat) (p2 : Nat) :
    (s.logPut code block inst p0 p1 p2).time = s.time :=
  State.logPut_same s code block inst p0 p1 p2 (u := .time) (by decide)
@[simp] theorem State.logPut_glb (s : State) (code : Nat) (block : Nat) (inst : Nat) (p0 : Nat) (p1 : Nat) (p2 : Nat) :
    (s.logPut code block inst p0 p1 p2).glb = s.glb :=
  State.logPut_same s code block inst p0 p1 p2 (u := .glb) (by decide)
@[simp] theorem State.logPut_pwr (s : State) (code : Nat) (block : Nat) (inst : Nat) (p0 : Nat) (p1 : Nat) (p2 : Nat) :
    (s.logPut code block inst p0 p1 p2).pwr = s.pwr :=
  State.logPut_same s code block inst p0 p1 p2 (u := .pwr) (by decide)
@[simp] theorem State.logPut_img (s : State) (code : Nat) (block : Nat) (inst : Nat) (p0 : Nat) (p1 : Nat) (p2 : Nat) :
    (s.logPut code block inst p0 p1 p2).img = s.img :=
  State.logPut_same s code block inst p0 p1 p2 (u := .img) (by decide)
@[simp] theorem State.logPut_bcn (s : State) (code : Nat) (block : Nat) (inst : Nat) (p0 : Nat) (p1 : Nat) (p2 : Nat) :
    (s.logPut code block inst p0 p1 p2).bcn = s.bcn :=
  State.logPut_same s code block inst p0 p1 p2 (u := .bcn) (by decide)
@[simp] theorem State.logPut_ports (s : State) (code : Nat) (block : Nat) (inst : Nat) (p0 : Nat) (p1 : Nat) (p2 : Nat) :
    (s.logPut code block inst p0 p1 p2).ports = s.ports :=
  State.logPut_same s code block inst p0 p1 p2 (u := .ports) (by decide)
@[simp] theorem State.logPut_rdg (s : State) (code : Nat) (block : Nat) (inst : Nat) (p0 : Nat) (p1 : Nat) (p2 : Nat) :
    (s.logPut code block inst p0 p1 p2).rdg = s.rdg :=
  State.logPut_same s code block inst p0 p1 p2 (u := .rdg) (by decide)
@[simp] theorem State.logPut_cdv (s : State) (code : Nat) (block : Nat) (inst : Nat) (p0 : Nat) (p1 : Nat) (p2 : Nat) :
    (s.logPut code block inst p0 p1 p2).cdv = s.cdv :=
  State.logPut_same s code block inst p0 p1 p2 (u := .cdv) (by decide)
@[simp] theorem State.logPut_bin (s : State) (code : Nat) (block : Nat) (inst : Nat) (p0 : Nat) (p1 : Nat) (p2 : Nat) :
    (s.logPut code block inst p0 p1 p2).bin = s.bin :=
  State.logPut_same s code block inst p0 p1 p2 (u := .bin) (by decide)
@[simp] theorem State.logPut_can (s : State) (code : Nat) (block : Nat) (inst : Nat) (p0 : Nat) (p1 : Nat) (p2 : Nat) :
    (s.logPut code block inst p0 p1 p2).can = s.can :=
  State.logPut_same s code block inst p0 p1 p2 (u := .can) (by decide)
@[simp] theorem State.logPut_prf (s : State) (code : Nat) (block : Nat) (inst : Nat) (p0 : Nat) (p1 : Nat) (p2 : Nat) :
    (s.logPut code block inst p0 p1 p2).prf = s.prf :=
  State.logPut_same s code block inst p0 p1 p2 (u := .prf) (by decide)
@[simp] theorem State.logPut_pln (s : State) (code : Nat) (block : Nat) (inst : Nat) (p0 : Nat) (p1 : Nat) (p2 : Nat) :
    (s.logPut code block inst p0 p1 p2).pln = s.pln :=
  State.logPut_same s code block inst p0 p1 p2 (u := .pln) (by decide)
@[simp] theorem State.logPut_svi (s : State) (code : Nat) (block : Nat) (inst : Nat) (p0 : Nat) (p1 : Nat) (p2 : Nat) :
    (s.logPut code block inst p0 p1 p2).svi = s.svi :=
  State.logPut_same s code block inst p0 p1 p2 (u := .svi) (by decide)
@[simp] theorem State.logPut_cnd (s : State) (code : Nat) (block : Nat) (inst : Nat) (p0 : Nat) (p1 : Nat) (p2 : Nat) :
    (s.logPut code block inst p0 p1 p2).cnd = s.cnd :=
  State.logPut_same s code block inst p0 p1 p2 (u := .cnd) (by decide)
@[simp] theorem State.logPut_lmp (s : State) (code : Nat) (block : Nat) (inst : Nat) (p0 : Nat) (p1 : Nat) (p2 : Nat) :
    (s.logPut code block inst p0 p1 p2).lmp = s.lmp :=
  State.logPut_same s code block inst p0 p1 p2 (u := .lmp) (by decide)
@[simp] theorem State.logPut_hst (s : State) (code : Nat) (block : Nat) (inst : Nat) (p0 : Nat) (p1 : Nat) (p2 : Nat) :
    (s.logPut code block inst p0 p1 p2).hst = s.hst :=
  State.logPut_same s code block inst p0 p1 p2 (u := .hst) (by decide)
@[simp] theorem State.logPut_kpr (s : State) (code : Nat) (block : Nat) (inst : Nat) (p0 : Nat) (p1 : Nat) (p2 : Nat) :
    (s.logPut code block inst p0 p1 p2).kpr = s.kpr :=
  State.logPut_same s code block inst p0 p1 p2 (u := .kpr) (by decide)
@[simp] theorem State.logPut_gal (s : State) (code : Nat) (block : Nat) (inst : Nat) (p0 : Nat) (p1 : Nat) (p2 : Nat) :
    (s.logPut code block inst p0 p1 p2).gal = s.gal :=
  State.logPut_same s code block inst p0 p1 p2 (u := .gal) (by decide)
@[simp] theorem State.logPut_pub (s : State) (code : Nat) (block : Nat) (inst : Nat) (p0 : Nat) (p1 : Nat) (p2 : Nat) :
    (s.logPut code block inst p0 p1 p2).pub = s.pub :=
  State.logPut_same s code block inst p0 p1 p2 (u := .pub) (by decide)
@[simp] theorem State.logPut_pair (s : State) (code : Nat) (block : Nat) (inst : Nat) (p0 : Nat) (p1 : Nat) (p2 : Nat) :
    (s.logPut code block inst p0 p1 p2).pair = s.pair :=
  State.logPut_same s code block inst p0 p1 p2 (u := .pair) (by decide)

/-- Where `State.eventRec` changes nothing. -/
theorem State.eventRec_same (s : State) (src : Nat) (inst : Nat) (p0 : Nat) {u : Part}
    (h : u ∉ ([.regs, .log, .evt] : List Part)) : u.same s (s.eventRec src inst p0) :=
  (State.eventRec_fr (Fr.refl s) (List.Subset.refl _)).same h

@[simp] theorem State.eventRec_pending (s : State) (src : Nat) (inst : Nat) (p0 : Nat) :
    (s.eventRec src inst p0).pending = s.pending :=
  State.eventRec_same s src inst p0 (u := .pending) (by decide)
@[simp] theorem State.eventRec_out (s : State) (src : Nat) (inst : Nat) (p0 : Nat) :
    (s.eventRec src inst p0).out = s.out :=
  State.eventRec_same s src inst p0 (u := .out) (by decide)
@[simp] theorem State.eventRec_readData (s : State) (src : Nat) (inst : Nat) (p0 : Nat) :
    (s.eventRec src inst p0).readData = s.readData :=
  State.eventRec_same s src inst p0 (u := .readData) (by decide)
@[simp] theorem State.eventRec_cmds (s : State) (src : Nat) (inst : Nat) (p0 : Nat) :
    (s.eventRec src inst p0).cmds = s.cmds :=
  State.eventRec_same s src inst p0 (u := .cmds) (by decide)
@[simp] theorem State.eventRec_once (s : State) (src : Nat) (inst : Nat) (p0 : Nat) :
    (s.eventRec src inst p0).once = s.once :=
  State.eventRec_same s src inst p0 (u := .once) (by decide)
@[simp] theorem State.eventRec_time (s : State) (src : Nat) (inst : Nat) (p0 : Nat) :
    (s.eventRec src inst p0).time = s.time :=
  State.eventRec_same s src inst p0 (u := .time) (by decide)
@[simp] theorem State.eventRec_glb (s : State) (src : Nat) (inst : Nat) (p0 : Nat) :
    (s.eventRec src inst p0).glb = s.glb :=
  State.eventRec_same s src inst p0 (u := .glb) (by decide)
@[simp] theorem State.eventRec_pwr (s : State) (src : Nat) (inst : Nat) (p0 : Nat) :
    (s.eventRec src inst p0).pwr = s.pwr :=
  State.eventRec_same s src inst p0 (u := .pwr) (by decide)
@[simp] theorem State.eventRec_img (s : State) (src : Nat) (inst : Nat) (p0 : Nat) :
    (s.eventRec src inst p0).img = s.img :=
  State.eventRec_same s src inst p0 (u := .img) (by decide)
@[simp] theorem State.eventRec_bcn (s : State) (src : Nat) (inst : Nat) (p0 : Nat) :
    (s.eventRec src inst p0).bcn = s.bcn :=
  State.eventRec_same s src inst p0 (u := .bcn) (by decide)
@[simp] theorem State.eventRec_ports (s : State) (src : Nat) (inst : Nat) (p0 : Nat) :
    (s.eventRec src inst p0).ports = s.ports :=
  State.eventRec_same s src inst p0 (u := .ports) (by decide)
@[simp] theorem State.eventRec_rdg (s : State) (src : Nat) (inst : Nat) (p0 : Nat) :
    (s.eventRec src inst p0).rdg = s.rdg :=
  State.eventRec_same s src inst p0 (u := .rdg) (by decide)
@[simp] theorem State.eventRec_cdv (s : State) (src : Nat) (inst : Nat) (p0 : Nat) :
    (s.eventRec src inst p0).cdv = s.cdv :=
  State.eventRec_same s src inst p0 (u := .cdv) (by decide)
@[simp] theorem State.eventRec_bin (s : State) (src : Nat) (inst : Nat) (p0 : Nat) :
    (s.eventRec src inst p0).bin = s.bin :=
  State.eventRec_same s src inst p0 (u := .bin) (by decide)
@[simp] theorem State.eventRec_can (s : State) (src : Nat) (inst : Nat) (p0 : Nat) :
    (s.eventRec src inst p0).can = s.can :=
  State.eventRec_same s src inst p0 (u := .can) (by decide)
@[simp] theorem State.eventRec_prf (s : State) (src : Nat) (inst : Nat) (p0 : Nat) :
    (s.eventRec src inst p0).prf = s.prf :=
  State.eventRec_same s src inst p0 (u := .prf) (by decide)
@[simp] theorem State.eventRec_pln (s : State) (src : Nat) (inst : Nat) (p0 : Nat) :
    (s.eventRec src inst p0).pln = s.pln :=
  State.eventRec_same s src inst p0 (u := .pln) (by decide)
@[simp] theorem State.eventRec_svi (s : State) (src : Nat) (inst : Nat) (p0 : Nat) :
    (s.eventRec src inst p0).svi = s.svi :=
  State.eventRec_same s src inst p0 (u := .svi) (by decide)
@[simp] theorem State.eventRec_cnd (s : State) (src : Nat) (inst : Nat) (p0 : Nat) :
    (s.eventRec src inst p0).cnd = s.cnd :=
  State.eventRec_same s src inst p0 (u := .cnd) (by decide)
@[simp] theorem State.eventRec_lmp (s : State) (src : Nat) (inst : Nat) (p0 : Nat) :
    (s.eventRec src inst p0).lmp = s.lmp :=
  State.eventRec_same s src inst p0 (u := .lmp) (by decide)
@[simp] theorem State.eventRec_hst (s : State) (src : Nat) (inst : Nat) (p0 : Nat) :
    (s.eventRec src inst p0).hst = s.hst :=
  State.eventRec_same s src inst p0 (u := .hst) (by decide)
@[simp] theorem State.eventRec_kpr (s : State) (src : Nat) (inst : Nat) (p0 : Nat) :
    (s.eventRec src inst p0).kpr = s.kpr :=
  State.eventRec_same s src inst p0 (u := .kpr) (by decide)
@[simp] theorem State.eventRec_gal (s : State) (src : Nat) (inst : Nat) (p0 : Nat) :
    (s.eventRec src inst p0).gal = s.gal :=
  State.eventRec_same s src inst p0 (u := .gal) (by decide)
@[simp] theorem State.eventRec_pub (s : State) (src : Nat) (inst : Nat) (p0 : Nat) :
    (s.eventRec src inst p0).pub = s.pub :=
  State.eventRec_same s src inst p0 (u := .pub) (by decide)
@[simp] theorem State.eventRec_pair (s : State) (src : Nat) (inst : Nat) (p0 : Nat) :
    (s.eventRec src inst p0).pair = s.pair :=
  State.eventRec_same s src inst p0 (u := .pair) (by decide)

/-- Where `State.raiseRec` changes nothing. -/
theorem State.raiseRec_same (s : State) (src : Nat) (inst : Nat) {u : Part}
    (h : u ∉ ([.regs, .log, .evt] : List Part)) : u.same s (s.raiseRec src inst) :=
  (State.raiseRec_fr (Fr.refl s) (List.Subset.refl _)).same h

@[simp] theorem State.raiseRec_pending (s : State) (src : Nat) (inst : Nat) :
    (s.raiseRec src inst).pending = s.pending :=
  State.raiseRec_same s src inst (u := .pending) (by decide)
@[simp] theorem State.raiseRec_out (s : State) (src : Nat) (inst : Nat) : (s.raiseRec src inst).out = s.out :=
  State.raiseRec_same s src inst (u := .out) (by decide)
@[simp] theorem State.raiseRec_readData (s : State) (src : Nat) (inst : Nat) :
    (s.raiseRec src inst).readData = s.readData :=
  State.raiseRec_same s src inst (u := .readData) (by decide)
@[simp] theorem State.raiseRec_cmds (s : State) (src : Nat) (inst : Nat) : (s.raiseRec src inst).cmds = s.cmds :=
  State.raiseRec_same s src inst (u := .cmds) (by decide)
@[simp] theorem State.raiseRec_once (s : State) (src : Nat) (inst : Nat) : (s.raiseRec src inst).once = s.once :=
  State.raiseRec_same s src inst (u := .once) (by decide)
@[simp] theorem State.raiseRec_time (s : State) (src : Nat) (inst : Nat) : (s.raiseRec src inst).time = s.time :=
  State.raiseRec_same s src inst (u := .time) (by decide)
@[simp] theorem State.raiseRec_glb (s : State) (src : Nat) (inst : Nat) : (s.raiseRec src inst).glb = s.glb :=
  State.raiseRec_same s src inst (u := .glb) (by decide)
@[simp] theorem State.raiseRec_pwr (s : State) (src : Nat) (inst : Nat) : (s.raiseRec src inst).pwr = s.pwr :=
  State.raiseRec_same s src inst (u := .pwr) (by decide)
@[simp] theorem State.raiseRec_img (s : State) (src : Nat) (inst : Nat) : (s.raiseRec src inst).img = s.img :=
  State.raiseRec_same s src inst (u := .img) (by decide)
@[simp] theorem State.raiseRec_bcn (s : State) (src : Nat) (inst : Nat) : (s.raiseRec src inst).bcn = s.bcn :=
  State.raiseRec_same s src inst (u := .bcn) (by decide)
@[simp] theorem State.raiseRec_ports (s : State) (src : Nat) (inst : Nat) : (s.raiseRec src inst).ports = s.ports :=
  State.raiseRec_same s src inst (u := .ports) (by decide)
@[simp] theorem State.raiseRec_rdg (s : State) (src : Nat) (inst : Nat) : (s.raiseRec src inst).rdg = s.rdg :=
  State.raiseRec_same s src inst (u := .rdg) (by decide)
@[simp] theorem State.raiseRec_cdv (s : State) (src : Nat) (inst : Nat) : (s.raiseRec src inst).cdv = s.cdv :=
  State.raiseRec_same s src inst (u := .cdv) (by decide)
@[simp] theorem State.raiseRec_bin (s : State) (src : Nat) (inst : Nat) : (s.raiseRec src inst).bin = s.bin :=
  State.raiseRec_same s src inst (u := .bin) (by decide)
@[simp] theorem State.raiseRec_can (s : State) (src : Nat) (inst : Nat) : (s.raiseRec src inst).can = s.can :=
  State.raiseRec_same s src inst (u := .can) (by decide)
@[simp] theorem State.raiseRec_prf (s : State) (src : Nat) (inst : Nat) : (s.raiseRec src inst).prf = s.prf :=
  State.raiseRec_same s src inst (u := .prf) (by decide)
@[simp] theorem State.raiseRec_pln (s : State) (src : Nat) (inst : Nat) : (s.raiseRec src inst).pln = s.pln :=
  State.raiseRec_same s src inst (u := .pln) (by decide)
@[simp] theorem State.raiseRec_svi (s : State) (src : Nat) (inst : Nat) : (s.raiseRec src inst).svi = s.svi :=
  State.raiseRec_same s src inst (u := .svi) (by decide)
@[simp] theorem State.raiseRec_cnd (s : State) (src : Nat) (inst : Nat) : (s.raiseRec src inst).cnd = s.cnd :=
  State.raiseRec_same s src inst (u := .cnd) (by decide)
@[simp] theorem State.raiseRec_lmp (s : State) (src : Nat) (inst : Nat) : (s.raiseRec src inst).lmp = s.lmp :=
  State.raiseRec_same s src inst (u := .lmp) (by decide)
@[simp] theorem State.raiseRec_hst (s : State) (src : Nat) (inst : Nat) : (s.raiseRec src inst).hst = s.hst :=
  State.raiseRec_same s src inst (u := .hst) (by decide)
@[simp] theorem State.raiseRec_kpr (s : State) (src : Nat) (inst : Nat) : (s.raiseRec src inst).kpr = s.kpr :=
  State.raiseRec_same s src inst (u := .kpr) (by decide)
@[simp] theorem State.raiseRec_gal (s : State) (src : Nat) (inst : Nat) : (s.raiseRec src inst).gal = s.gal :=
  State.raiseRec_same s src inst (u := .gal) (by decide)
@[simp] theorem State.raiseRec_pub (s : State) (src : Nat) (inst : Nat) : (s.raiseRec src inst).pub = s.pub :=
  State.raiseRec_same s src inst (u := .pub) (by decide)
@[simp] theorem State.raiseRec_pair (s : State) (src : Nat) (inst : Nat) : (s.raiseRec src inst).pair = s.pair :=
  State.raiseRec_same s src inst (u := .pair) (by decide)

/-- Where `State.raiseGlb` changes nothing. -/
theorem State.raiseGlb_same (s : State) (src : Nat) {u : Part}
    (h : u ∉ ([.regs, .log, .evt] : List Part)) : u.same s (s.raiseGlb src) :=
  (State.raiseGlb_fr (Fr.refl s) (List.Subset.refl _)).same h

@[simp] theorem State.raiseGlb_pending (s : State) (src : Nat) : (s.raiseGlb src).pending = s.pending :=
  State.raiseGlb_same s src (u := .pending) (by decide)
@[simp] theorem State.raiseGlb_out (s : State) (src : Nat) : (s.raiseGlb src).out = s.out :=
  State.raiseGlb_same s src (u := .out) (by decide)
@[simp] theorem State.raiseGlb_readData (s : State) (src : Nat) : (s.raiseGlb src).readData = s.readData :=
  State.raiseGlb_same s src (u := .readData) (by decide)
@[simp] theorem State.raiseGlb_once (s : State) (src : Nat) : (s.raiseGlb src).once = s.once :=
  State.raiseGlb_same s src (u := .once) (by decide)
@[simp] theorem State.raiseGlb_time (s : State) (src : Nat) : (s.raiseGlb src).time = s.time :=
  State.raiseGlb_same s src (u := .time) (by decide)
@[simp] theorem State.raiseGlb_glb (s : State) (src : Nat) : (s.raiseGlb src).glb = s.glb :=
  State.raiseGlb_same s src (u := .glb) (by decide)
@[simp] theorem State.raiseGlb_pwr (s : State) (src : Nat) : (s.raiseGlb src).pwr = s.pwr :=
  State.raiseGlb_same s src (u := .pwr) (by decide)
@[simp] theorem State.raiseGlb_img (s : State) (src : Nat) : (s.raiseGlb src).img = s.img :=
  State.raiseGlb_same s src (u := .img) (by decide)
@[simp] theorem State.raiseGlb_bcn (s : State) (src : Nat) : (s.raiseGlb src).bcn = s.bcn :=
  State.raiseGlb_same s src (u := .bcn) (by decide)
@[simp] theorem State.raiseGlb_ports (s : State) (src : Nat) : (s.raiseGlb src).ports = s.ports :=
  State.raiseGlb_same s src (u := .ports) (by decide)
@[simp] theorem State.raiseGlb_rdg (s : State) (src : Nat) : (s.raiseGlb src).rdg = s.rdg :=
  State.raiseGlb_same s src (u := .rdg) (by decide)
@[simp] theorem State.raiseGlb_cdv (s : State) (src : Nat) : (s.raiseGlb src).cdv = s.cdv :=
  State.raiseGlb_same s src (u := .cdv) (by decide)
@[simp] theorem State.raiseGlb_bin (s : State) (src : Nat) : (s.raiseGlb src).bin = s.bin :=
  State.raiseGlb_same s src (u := .bin) (by decide)
@[simp] theorem State.raiseGlb_can (s : State) (src : Nat) : (s.raiseGlb src).can = s.can :=
  State.raiseGlb_same s src (u := .can) (by decide)
@[simp] theorem State.raiseGlb_prf (s : State) (src : Nat) : (s.raiseGlb src).prf = s.prf :=
  State.raiseGlb_same s src (u := .prf) (by decide)
@[simp] theorem State.raiseGlb_pln (s : State) (src : Nat) : (s.raiseGlb src).pln = s.pln :=
  State.raiseGlb_same s src (u := .pln) (by decide)
@[simp] theorem State.raiseGlb_svi (s : State) (src : Nat) : (s.raiseGlb src).svi = s.svi :=
  State.raiseGlb_same s src (u := .svi) (by decide)
@[simp] theorem State.raiseGlb_cnd (s : State) (src : Nat) : (s.raiseGlb src).cnd = s.cnd :=
  State.raiseGlb_same s src (u := .cnd) (by decide)
@[simp] theorem State.raiseGlb_lmp (s : State) (src : Nat) : (s.raiseGlb src).lmp = s.lmp :=
  State.raiseGlb_same s src (u := .lmp) (by decide)
@[simp] theorem State.raiseGlb_hst (s : State) (src : Nat) : (s.raiseGlb src).hst = s.hst :=
  State.raiseGlb_same s src (u := .hst) (by decide)
@[simp] theorem State.raiseGlb_kpr (s : State) (src : Nat) : (s.raiseGlb src).kpr = s.kpr :=
  State.raiseGlb_same s src (u := .kpr) (by decide)
@[simp] theorem State.raiseGlb_gal (s : State) (src : Nat) : (s.raiseGlb src).gal = s.gal :=
  State.raiseGlb_same s src (u := .gal) (by decide)
@[simp] theorem State.raiseGlb_pub (s : State) (src : Nat) : (s.raiseGlb src).pub = s.pub :=
  State.raiseGlb_same s src (u := .pub) (by decide)
@[simp] theorem State.raiseGlb_pair (s : State) (src : Nat) : (s.raiseGlb src).pair = s.pair :=
  State.raiseGlb_same s src (u := .pair) (by decide)

/-- Where `State.raiseOnce` changes nothing. -/
theorem State.raiseOnce_same (s : State) (src : Nat) (inst : Nat) {u : Part}
    (h : u ∉ ([.regs, .once, .evt] : List Part)) : u.same s (s.raiseOnce src inst) :=
  (State.raiseOnce_fr (Fr.refl s) (List.Subset.refl _)).same h

@[simp] theorem State.raiseOnce_pending (s : State) (src : Nat) (inst : Nat) :
    (s.raiseOnce src inst).pending = s.pending :=
  State.raiseOnce_same s src inst (u := .pending) (by decide)
@[simp] theorem State.raiseOnce_out (s : State) (src : Nat) (inst : Nat) : (s.raiseOnce src inst).out = s.out :=
  State.raiseOnce_same s src inst (u := .out) (by decide)
@[simp] theorem State.raiseOnce_readData (s : State) (src : Nat) (inst : Nat) :
    (s.raiseOnce src inst).readData = s.readData :=
  State.raiseOnce_same s src inst (u := .readData) (by decide)
@[simp] theorem State.raiseOnce_cmds (s : State) (src : Nat) (inst : Nat) : (s.raiseOnce src inst).cmds = s.cmds :=
  State.raiseOnce_same s src inst (u := .cmds) (by decide)
@[simp] theorem State.raiseOnce_time (s : State) (src : Nat) (inst : Nat) : (s.raiseOnce src inst).time = s.time :=
  State.raiseOnce_same s src inst (u := .time) (by decide)
@[simp] theorem State.raiseOnce_glb (s : State) (src : Nat) (inst : Nat) : (s.raiseOnce src inst).glb = s.glb :=
  State.raiseOnce_same s src inst (u := .glb) (by decide)
@[simp] theorem State.raiseOnce_pwr (s : State) (src : Nat) (inst : Nat) : (s.raiseOnce src inst).pwr = s.pwr :=
  State.raiseOnce_same s src inst (u := .pwr) (by decide)
@[simp] theorem State.raiseOnce_log (s : State) (src : Nat) (inst : Nat) : (s.raiseOnce src inst).log = s.log :=
  State.raiseOnce_same s src inst (u := .log) (by decide)
@[simp] theorem State.raiseOnce_img (s : State) (src : Nat) (inst : Nat) : (s.raiseOnce src inst).img = s.img :=
  State.raiseOnce_same s src inst (u := .img) (by decide)
@[simp] theorem State.raiseOnce_bcn (s : State) (src : Nat) (inst : Nat) : (s.raiseOnce src inst).bcn = s.bcn :=
  State.raiseOnce_same s src inst (u := .bcn) (by decide)
@[simp] theorem State.raiseOnce_ports (s : State) (src : Nat) (inst : Nat) : (s.raiseOnce src inst).ports = s.ports :=
  State.raiseOnce_same s src inst (u := .ports) (by decide)
@[simp] theorem State.raiseOnce_rdg (s : State) (src : Nat) (inst : Nat) : (s.raiseOnce src inst).rdg = s.rdg :=
  State.raiseOnce_same s src inst (u := .rdg) (by decide)
@[simp] theorem State.raiseOnce_cdv (s : State) (src : Nat) (inst : Nat) : (s.raiseOnce src inst).cdv = s.cdv :=
  State.raiseOnce_same s src inst (u := .cdv) (by decide)
@[simp] theorem State.raiseOnce_bin (s : State) (src : Nat) (inst : Nat) : (s.raiseOnce src inst).bin = s.bin :=
  State.raiseOnce_same s src inst (u := .bin) (by decide)
@[simp] theorem State.raiseOnce_can (s : State) (src : Nat) (inst : Nat) : (s.raiseOnce src inst).can = s.can :=
  State.raiseOnce_same s src inst (u := .can) (by decide)
@[simp] theorem State.raiseOnce_prf (s : State) (src : Nat) (inst : Nat) : (s.raiseOnce src inst).prf = s.prf :=
  State.raiseOnce_same s src inst (u := .prf) (by decide)
@[simp] theorem State.raiseOnce_pln (s : State) (src : Nat) (inst : Nat) : (s.raiseOnce src inst).pln = s.pln :=
  State.raiseOnce_same s src inst (u := .pln) (by decide)
@[simp] theorem State.raiseOnce_svi (s : State) (src : Nat) (inst : Nat) : (s.raiseOnce src inst).svi = s.svi :=
  State.raiseOnce_same s src inst (u := .svi) (by decide)
@[simp] theorem State.raiseOnce_cnd (s : State) (src : Nat) (inst : Nat) : (s.raiseOnce src inst).cnd = s.cnd :=
  State.raiseOnce_same s src inst (u := .cnd) (by decide)
@[simp] theorem State.raiseOnce_lmp (s : State) (src : Nat) (inst : Nat) : (s.raiseOnce src inst).lmp = s.lmp :=
  State.raiseOnce_same s src inst (u := .lmp) (by decide)
@[simp] theorem State.raiseOnce_hst (s : State) (src : Nat) (inst : Nat) : (s.raiseOnce src inst).hst = s.hst :=
  State.raiseOnce_same s src inst (u := .hst) (by decide)
@[simp] theorem State.raiseOnce_kpr (s : State) (src : Nat) (inst : Nat) : (s.raiseOnce src inst).kpr = s.kpr :=
  State.raiseOnce_same s src inst (u := .kpr) (by decide)
@[simp] theorem State.raiseOnce_gal (s : State) (src : Nat) (inst : Nat) : (s.raiseOnce src inst).gal = s.gal :=
  State.raiseOnce_same s src inst (u := .gal) (by decide)
@[simp] theorem State.raiseOnce_pub (s : State) (src : Nat) (inst : Nat) : (s.raiseOnce src inst).pub = s.pub :=
  State.raiseOnce_same s src inst (u := .pub) (by decide)
@[simp] theorem State.raiseOnce_pair (s : State) (src : Nat) (inst : Nat) : (s.raiseOnce src inst).pair = s.pair :=
  State.raiseOnce_same s src inst (u := .pair) (by decide)

/-- Where `State.raiseRecOnce` changes nothing. -/
theorem State.raiseRecOnce_same (s : State) (src : Nat) (inst : Nat) {u : Part}
    (h : u ∉ ([.regs, .once, .log, .evt] : List Part)) : u.same s (s.raiseRecOnce src inst) :=
  (State.raiseRecOnce_fr (Fr.refl s) (List.Subset.refl _)).same h

@[simp] theorem State.raiseRecOnce_pending (s : State) (src : Nat) (inst : Nat) :
    (s.raiseRecOnce src inst).pending = s.pending :=
  State.raiseRecOnce_same s src inst (u := .pending) (by decide)
@[simp] theorem State.raiseRecOnce_out (s : State) (src : Nat) (inst : Nat) : (s.raiseRecOnce src inst).out = s.out :=
  State.raiseRecOnce_same s src inst (u := .out) (by decide)
@[simp] theorem State.raiseRecOnce_readData (s : State) (src : Nat) (inst : Nat) :
    (s.raiseRecOnce src inst).readData = s.readData :=
  State.raiseRecOnce_same s src inst (u := .readData) (by decide)
@[simp] theorem State.raiseRecOnce_cmds (s : State) (src : Nat) (inst : Nat) :
    (s.raiseRecOnce src inst).cmds = s.cmds :=
  State.raiseRecOnce_same s src inst (u := .cmds) (by decide)
@[simp] theorem State.raiseRecOnce_time (s : State) (src : Nat) (inst : Nat) :
    (s.raiseRecOnce src inst).time = s.time :=
  State.raiseRecOnce_same s src inst (u := .time) (by decide)
@[simp] theorem State.raiseRecOnce_glb (s : State) (src : Nat) (inst : Nat) : (s.raiseRecOnce src inst).glb = s.glb :=
  State.raiseRecOnce_same s src inst (u := .glb) (by decide)
@[simp] theorem State.raiseRecOnce_pwr (s : State) (src : Nat) (inst : Nat) : (s.raiseRecOnce src inst).pwr = s.pwr :=
  State.raiseRecOnce_same s src inst (u := .pwr) (by decide)
@[simp] theorem State.raiseRecOnce_img (s : State) (src : Nat) (inst : Nat) : (s.raiseRecOnce src inst).img = s.img :=
  State.raiseRecOnce_same s src inst (u := .img) (by decide)
@[simp] theorem State.raiseRecOnce_bcn (s : State) (src : Nat) (inst : Nat) : (s.raiseRecOnce src inst).bcn = s.bcn :=
  State.raiseRecOnce_same s src inst (u := .bcn) (by decide)
@[simp] theorem State.raiseRecOnce_ports (s : State) (src : Nat) (inst : Nat) :
    (s.raiseRecOnce src inst).ports = s.ports :=
  State.raiseRecOnce_same s src inst (u := .ports) (by decide)
@[simp] theorem State.raiseRecOnce_rdg (s : State) (src : Nat) (inst : Nat) : (s.raiseRecOnce src inst).rdg = s.rdg :=
  State.raiseRecOnce_same s src inst (u := .rdg) (by decide)
@[simp] theorem State.raiseRecOnce_cdv (s : State) (src : Nat) (inst : Nat) : (s.raiseRecOnce src inst).cdv = s.cdv :=
  State.raiseRecOnce_same s src inst (u := .cdv) (by decide)
@[simp] theorem State.raiseRecOnce_bin (s : State) (src : Nat) (inst : Nat) : (s.raiseRecOnce src inst).bin = s.bin :=
  State.raiseRecOnce_same s src inst (u := .bin) (by decide)
@[simp] theorem State.raiseRecOnce_can (s : State) (src : Nat) (inst : Nat) : (s.raiseRecOnce src inst).can = s.can :=
  State.raiseRecOnce_same s src inst (u := .can) (by decide)
@[simp] theorem State.raiseRecOnce_prf (s : State) (src : Nat) (inst : Nat) : (s.raiseRecOnce src inst).prf = s.prf :=
  State.raiseRecOnce_same s src inst (u := .prf) (by decide)
@[simp] theorem State.raiseRecOnce_pln (s : State) (src : Nat) (inst : Nat) : (s.raiseRecOnce src inst).pln = s.pln :=
  State.raiseRecOnce_same s src inst (u := .pln) (by decide)
@[simp] theorem State.raiseRecOnce_svi (s : State) (src : Nat) (inst : Nat) : (s.raiseRecOnce src inst).svi = s.svi :=
  State.raiseRecOnce_same s src inst (u := .svi) (by decide)
@[simp] theorem State.raiseRecOnce_cnd (s : State) (src : Nat) (inst : Nat) : (s.raiseRecOnce src inst).cnd = s.cnd :=
  State.raiseRecOnce_same s src inst (u := .cnd) (by decide)
@[simp] theorem State.raiseRecOnce_lmp (s : State) (src : Nat) (inst : Nat) : (s.raiseRecOnce src inst).lmp = s.lmp :=
  State.raiseRecOnce_same s src inst (u := .lmp) (by decide)
@[simp] theorem State.raiseRecOnce_hst (s : State) (src : Nat) (inst : Nat) : (s.raiseRecOnce src inst).hst = s.hst :=
  State.raiseRecOnce_same s src inst (u := .hst) (by decide)
@[simp] theorem State.raiseRecOnce_kpr (s : State) (src : Nat) (inst : Nat) : (s.raiseRecOnce src inst).kpr = s.kpr :=
  State.raiseRecOnce_same s src inst (u := .kpr) (by decide)
@[simp] theorem State.raiseRecOnce_gal (s : State) (src : Nat) (inst : Nat) : (s.raiseRecOnce src inst).gal = s.gal :=
  State.raiseRecOnce_same s src inst (u := .gal) (by decide)
@[simp] theorem State.raiseRecOnce_pub (s : State) (src : Nat) (inst : Nat) : (s.raiseRecOnce src inst).pub = s.pub :=
  State.raiseRecOnce_same s src inst (u := .pub) (by decide)
@[simp] theorem State.raiseRecOnce_pair (s : State) (src : Nat) (inst : Nat) :
    (s.raiseRecOnce src inst).pair = s.pair :=
  State.raiseRecOnce_same s src inst (u := .pair) (by decide)

/-- Where `State.refusedRec` changes nothing. -/
theorem State.refusedRec_same (s : State) (reg : Nat) (code : Nat) {u : Part}
    (h : u ∉ ([.regs, .log, .evt] : List Part)) : u.same s (s.refusedRec reg code) :=
  (State.refusedRec_fr (Fr.refl s) (List.Subset.refl _)).same h

@[simp] theorem State.refusedRec_pending (s : State) (reg : Nat) (code : Nat) :
    (s.refusedRec reg code).pending = s.pending :=
  State.refusedRec_same s reg code (u := .pending) (by decide)
@[simp] theorem State.refusedRec_out (s : State) (reg : Nat) (code : Nat) : (s.refusedRec reg code).out = s.out :=
  State.refusedRec_same s reg code (u := .out) (by decide)
@[simp] theorem State.refusedRec_readData (s : State) (reg : Nat) (code : Nat) :
    (s.refusedRec reg code).readData = s.readData :=
  State.refusedRec_same s reg code (u := .readData) (by decide)
@[simp] theorem State.refusedRec_cmds (s : State) (reg : Nat) (code : Nat) : (s.refusedRec reg code).cmds = s.cmds :=
  State.refusedRec_same s reg code (u := .cmds) (by decide)
@[simp] theorem State.refusedRec_once (s : State) (reg : Nat) (code : Nat) : (s.refusedRec reg code).once = s.once :=
  State.refusedRec_same s reg code (u := .once) (by decide)
@[simp] theorem State.refusedRec_time (s : State) (reg : Nat) (code : Nat) : (s.refusedRec reg code).time = s.time :=
  State.refusedRec_same s reg code (u := .time) (by decide)
@[simp] theorem State.refusedRec_glb (s : State) (reg : Nat) (code : Nat) : (s.refusedRec reg code).glb = s.glb :=
  State.refusedRec_same s reg code (u := .glb) (by decide)
@[simp] theorem State.refusedRec_pwr (s : State) (reg : Nat) (code : Nat) : (s.refusedRec reg code).pwr = s.pwr :=
  State.refusedRec_same s reg code (u := .pwr) (by decide)
@[simp] theorem State.refusedRec_img (s : State) (reg : Nat) (code : Nat) : (s.refusedRec reg code).img = s.img :=
  State.refusedRec_same s reg code (u := .img) (by decide)
@[simp] theorem State.refusedRec_bcn (s : State) (reg : Nat) (code : Nat) : (s.refusedRec reg code).bcn = s.bcn :=
  State.refusedRec_same s reg code (u := .bcn) (by decide)
@[simp] theorem State.refusedRec_ports (s : State) (reg : Nat) (code : Nat) :
    (s.refusedRec reg code).ports = s.ports :=
  State.refusedRec_same s reg code (u := .ports) (by decide)
@[simp] theorem State.refusedRec_rdg (s : State) (reg : Nat) (code : Nat) : (s.refusedRec reg code).rdg = s.rdg :=
  State.refusedRec_same s reg code (u := .rdg) (by decide)
@[simp] theorem State.refusedRec_cdv (s : State) (reg : Nat) (code : Nat) : (s.refusedRec reg code).cdv = s.cdv :=
  State.refusedRec_same s reg code (u := .cdv) (by decide)
@[simp] theorem State.refusedRec_bin (s : State) (reg : Nat) (code : Nat) : (s.refusedRec reg code).bin = s.bin :=
  State.refusedRec_same s reg code (u := .bin) (by decide)
@[simp] theorem State.refusedRec_can (s : State) (reg : Nat) (code : Nat) : (s.refusedRec reg code).can = s.can :=
  State.refusedRec_same s reg code (u := .can) (by decide)
@[simp] theorem State.refusedRec_prf (s : State) (reg : Nat) (code : Nat) : (s.refusedRec reg code).prf = s.prf :=
  State.refusedRec_same s reg code (u := .prf) (by decide)
@[simp] theorem State.refusedRec_pln (s : State) (reg : Nat) (code : Nat) : (s.refusedRec reg code).pln = s.pln :=
  State.refusedRec_same s reg code (u := .pln) (by decide)
@[simp] theorem State.refusedRec_svi (s : State) (reg : Nat) (code : Nat) : (s.refusedRec reg code).svi = s.svi :=
  State.refusedRec_same s reg code (u := .svi) (by decide)
@[simp] theorem State.refusedRec_cnd (s : State) (reg : Nat) (code : Nat) : (s.refusedRec reg code).cnd = s.cnd :=
  State.refusedRec_same s reg code (u := .cnd) (by decide)
@[simp] theorem State.refusedRec_lmp (s : State) (reg : Nat) (code : Nat) : (s.refusedRec reg code).lmp = s.lmp :=
  State.refusedRec_same s reg code (u := .lmp) (by decide)
@[simp] theorem State.refusedRec_hst (s : State) (reg : Nat) (code : Nat) : (s.refusedRec reg code).hst = s.hst :=
  State.refusedRec_same s reg code (u := .hst) (by decide)
@[simp] theorem State.refusedRec_kpr (s : State) (reg : Nat) (code : Nat) : (s.refusedRec reg code).kpr = s.kpr :=
  State.refusedRec_same s reg code (u := .kpr) (by decide)
@[simp] theorem State.refusedRec_gal (s : State) (reg : Nat) (code : Nat) : (s.refusedRec reg code).gal = s.gal :=
  State.refusedRec_same s reg code (u := .gal) (by decide)
@[simp] theorem State.refusedRec_pub (s : State) (reg : Nat) (code : Nat) : (s.refusedRec reg code).pub = s.pub :=
  State.refusedRec_same s reg code (u := .pub) (by decide)
@[simp] theorem State.refusedRec_pair (s : State) (reg : Nat) (code : Nat) : (s.refusedRec reg code).pair = s.pair :=
  State.refusedRec_same s reg code (u := .pair) (by decide)

/-- Where `State.cmdDone` changes nothing. -/
theorem State.cmdDone_same (s : State) (reg : Nat) {u : Part}
    (h : u ∉ ([.regs, .cmds, .log, .evt] : List Part)) : u.same s (s.cmdDone reg) :=
  (State.cmdDone_fr (Fr.refl s) (List.Subset.refl _)).same h

@[simp] theorem State.cmdDone_pending (s : State) (reg : Nat) : (s.cmdDone reg).pending = s.pending :=
  State.cmdDone_same s reg (u := .pending) (by decide)
@[simp] theorem State.cmdDone_out (s : State) (reg : Nat) : (s.cmdDone reg).out = s.out :=
  State.cmdDone_same s reg (u := .out) (by decide)
@[simp] theorem State.cmdDone_readData (s : State) (reg : Nat) : (s.cmdDone reg).readData = s.readData :=
  State.cmdDone_same s reg (u := .readData) (by decide)
@[simp] theorem State.cmdDone_once (s : State) (reg : Nat) : (s.cmdDone reg).once = s.once :=
  State.cmdDone_same s reg (u := .once) (by decide)
@[simp] theorem State.cmdDone_time (s : State) (reg : Nat) : (s.cmdDone reg).time = s.time :=
  State.cmdDone_same s reg (u := .time) (by decide)
@[simp] theorem State.cmdDone_glb (s : State) (reg : Nat) : (s.cmdDone reg).glb = s.glb :=
  State.cmdDone_same s reg (u := .glb) (by decide)
@[simp] theorem State.cmdDone_pwr (s : State) (reg : Nat) : (s.cmdDone reg).pwr = s.pwr :=
  State.cmdDone_same s reg (u := .pwr) (by decide)
@[simp] theorem State.cmdDone_img (s : State) (reg : Nat) : (s.cmdDone reg).img = s.img :=
  State.cmdDone_same s reg (u := .img) (by decide)
@[simp] theorem State.cmdDone_bcn (s : State) (reg : Nat) : (s.cmdDone reg).bcn = s.bcn :=
  State.cmdDone_same s reg (u := .bcn) (by decide)
@[simp] theorem State.cmdDone_ports (s : State) (reg : Nat) : (s.cmdDone reg).ports = s.ports :=
  State.cmdDone_same s reg (u := .ports) (by decide)
@[simp] theorem State.cmdDone_rdg (s : State) (reg : Nat) : (s.cmdDone reg).rdg = s.rdg :=
  State.cmdDone_same s reg (u := .rdg) (by decide)
@[simp] theorem State.cmdDone_cdv (s : State) (reg : Nat) : (s.cmdDone reg).cdv = s.cdv :=
  State.cmdDone_same s reg (u := .cdv) (by decide)
@[simp] theorem State.cmdDone_bin (s : State) (reg : Nat) : (s.cmdDone reg).bin = s.bin :=
  State.cmdDone_same s reg (u := .bin) (by decide)
@[simp] theorem State.cmdDone_can (s : State) (reg : Nat) : (s.cmdDone reg).can = s.can :=
  State.cmdDone_same s reg (u := .can) (by decide)
@[simp] theorem State.cmdDone_prf (s : State) (reg : Nat) : (s.cmdDone reg).prf = s.prf :=
  State.cmdDone_same s reg (u := .prf) (by decide)
@[simp] theorem State.cmdDone_pln (s : State) (reg : Nat) : (s.cmdDone reg).pln = s.pln :=
  State.cmdDone_same s reg (u := .pln) (by decide)
@[simp] theorem State.cmdDone_svi (s : State) (reg : Nat) : (s.cmdDone reg).svi = s.svi :=
  State.cmdDone_same s reg (u := .svi) (by decide)
@[simp] theorem State.cmdDone_cnd (s : State) (reg : Nat) : (s.cmdDone reg).cnd = s.cnd :=
  State.cmdDone_same s reg (u := .cnd) (by decide)
@[simp] theorem State.cmdDone_lmp (s : State) (reg : Nat) : (s.cmdDone reg).lmp = s.lmp :=
  State.cmdDone_same s reg (u := .lmp) (by decide)
@[simp] theorem State.cmdDone_hst (s : State) (reg : Nat) : (s.cmdDone reg).hst = s.hst :=
  State.cmdDone_same s reg (u := .hst) (by decide)
@[simp] theorem State.cmdDone_kpr (s : State) (reg : Nat) : (s.cmdDone reg).kpr = s.kpr :=
  State.cmdDone_same s reg (u := .kpr) (by decide)
@[simp] theorem State.cmdDone_gal (s : State) (reg : Nat) : (s.cmdDone reg).gal = s.gal :=
  State.cmdDone_same s reg (u := .gal) (by decide)
@[simp] theorem State.cmdDone_pub (s : State) (reg : Nat) : (s.cmdDone reg).pub = s.pub :=
  State.cmdDone_same s reg (u := .pub) (by decide)
@[simp] theorem State.cmdDone_pair (s : State) (reg : Nat) : (s.cmdDone reg).pair = s.pair :=
  State.cmdDone_same s reg (u := .pair) (by decide)

/-- Where `State.cmdEndRefused` changes nothing. -/
theorem State.cmdEndRefused_same (s : State) (reg : Nat) {u : Part}
    (h : u ∉ ([.regs, .cmds, .log, .evt] : List Part)) : u.same s (s.cmdEndRefused reg) :=
  (State.cmdEndRefused_fr (Fr.refl s) (List.Subset.refl _)).same h

@[simp] theorem State.cmdEndRefused_pending (s : State) (reg : Nat) : (s.cmdEndRefused reg).pending = s.pending :=
  State.cmdEndRefused_same s reg (u := .pending) (by decide)
@[simp] theorem State.cmdEndRefused_out (s : State) (reg : Nat) : (s.cmdEndRefused reg).out = s.out :=
  State.cmdEndRefused_same s reg (u := .out) (by decide)
@[simp] theorem State.cmdEndRefused_readData (s : State) (reg : Nat) : (s.cmdEndRefused reg).readData = s.readData :=
  State.cmdEndRefused_same s reg (u := .readData) (by decide)
@[simp] theorem State.cmdEndRefused_once (s : State) (reg : Nat) : (s.cmdEndRefused reg).once = s.once :=
  State.cmdEndRefused_same s reg (u := .once) (by decide)
@[simp] theorem State.cmdEndRefused_time (s : State) (reg : Nat) : (s.cmdEndRefused reg).time = s.time :=
  State.cmdEndRefused_same s reg (u := .time) (by decide)
@[simp] theorem State.cmdEndRefused_glb (s : State) (reg : Nat) : (s.cmdEndRefused reg).glb = s.glb :=
  State.cmdEndRefused_same s reg (u := .glb) (by decide)
@[simp] theorem State.cmdEndRefused_pwr (s : State) (reg : Nat) : (s.cmdEndRefused reg).pwr = s.pwr :=
  State.cmdEndRefused_same s reg (u := .pwr) (by decide)
@[simp] theorem State.cmdEndRefused_img (s : State) (reg : Nat) : (s.cmdEndRefused reg).img = s.img :=
  State.cmdEndRefused_same s reg (u := .img) (by decide)
@[simp] theorem State.cmdEndRefused_bcn (s : State) (reg : Nat) : (s.cmdEndRefused reg).bcn = s.bcn :=
  State.cmdEndRefused_same s reg (u := .bcn) (by decide)
@[simp] theorem State.cmdEndRefused_ports (s : State) (reg : Nat) : (s.cmdEndRefused reg).ports = s.ports :=
  State.cmdEndRefused_same s reg (u := .ports) (by decide)
@[simp] theorem State.cmdEndRefused_rdg (s : State) (reg : Nat) : (s.cmdEndRefused reg).rdg = s.rdg :=
  State.cmdEndRefused_same s reg (u := .rdg) (by decide)
@[simp] theorem State.cmdEndRefused_cdv (s : State) (reg : Nat) : (s.cmdEndRefused reg).cdv = s.cdv :=
  State.cmdEndRefused_same s reg (u := .cdv) (by decide)
@[simp] theorem State.cmdEndRefused_bin (s : State) (reg : Nat) : (s.cmdEndRefused reg).bin = s.bin :=
  State.cmdEndRefused_same s reg (u := .bin) (by decide)
@[simp] theorem State.cmdEndRefused_can (s : State) (reg : Nat) : (s.cmdEndRefused reg).can = s.can :=
  State.cmdEndRefused_same s reg (u := .can) (by decide)
@[simp] theorem State.cmdEndRefused_prf (s : State) (reg : Nat) : (s.cmdEndRefused reg).prf = s.prf :=
  State.cmdEndRefused_same s reg (u := .prf) (by decide)
@[simp] theorem State.cmdEndRefused_pln (s : State) (reg : Nat) : (s.cmdEndRefused reg).pln = s.pln :=
  State.cmdEndRefused_same s reg (u := .pln) (by decide)
@[simp] theorem State.cmdEndRefused_svi (s : State) (reg : Nat) : (s.cmdEndRefused reg).svi = s.svi :=
  State.cmdEndRefused_same s reg (u := .svi) (by decide)
@[simp] theorem State.cmdEndRefused_cnd (s : State) (reg : Nat) : (s.cmdEndRefused reg).cnd = s.cnd :=
  State.cmdEndRefused_same s reg (u := .cnd) (by decide)
@[simp] theorem State.cmdEndRefused_lmp (s : State) (reg : Nat) : (s.cmdEndRefused reg).lmp = s.lmp :=
  State.cmdEndRefused_same s reg (u := .lmp) (by decide)
@[simp] theorem State.cmdEndRefused_hst (s : State) (reg : Nat) : (s.cmdEndRefused reg).hst = s.hst :=
  State.cmdEndRefused_same s reg (u := .hst) (by decide)
@[simp] theorem State.cmdEndRefused_kpr (s : State) (reg : Nat) : (s.cmdEndRefused reg).kpr = s.kpr :=
  State.cmdEndRefused_same s reg (u := .kpr) (by decide)
@[simp] theorem State.cmdEndRefused_gal (s : State) (reg : Nat) : (s.cmdEndRefused reg).gal = s.gal :=
  State.cmdEndRefused_same s reg (u := .gal) (by decide)
@[simp] theorem State.cmdEndRefused_pub (s : State) (reg : Nat) : (s.cmdEndRefused reg).pub = s.pub :=
  State.cmdEndRefused_same s reg (u := .pub) (by decide)
@[simp] theorem State.cmdEndRefused_pair (s : State) (reg : Nat) : (s.cmdEndRefused reg).pair = s.pair :=
  State.cmdEndRefused_same s reg (u := .pair) (by decide)

/-- Where `State.routeDrop` changes nothing. -/
theorem State.routeDrop_same (s : State) (src : Nat) {u : Part}
    (h : u ∉ ([.regs, .once, .log, .evt] : List Part)) : u.same s (s.routeDrop src) :=
  (State.routeDrop_fr (Fr.refl s) (List.Subset.refl _)).same h

@[simp] theorem State.routeDrop_pending (s : State) (src : Nat) : (s.routeDrop src).pending = s.pending :=
  State.routeDrop_same s src (u := .pending) (by decide)
@[simp] theorem State.routeDrop_out (s : State) (src : Nat) : (s.routeDrop src).out = s.out :=
  State.routeDrop_same s src (u := .out) (by decide)
@[simp] theorem State.routeDrop_readData (s : State) (src : Nat) : (s.routeDrop src).readData = s.readData :=
  State.routeDrop_same s src (u := .readData) (by decide)
@[simp] theorem State.routeDrop_cmds (s : State) (src : Nat) : (s.routeDrop src).cmds = s.cmds :=
  State.routeDrop_same s src (u := .cmds) (by decide)
@[simp] theorem State.routeDrop_time (s : State) (src : Nat) : (s.routeDrop src).time = s.time :=
  State.routeDrop_same s src (u := .time) (by decide)
@[simp] theorem State.routeDrop_glb (s : State) (src : Nat) : (s.routeDrop src).glb = s.glb :=
  State.routeDrop_same s src (u := .glb) (by decide)
@[simp] theorem State.routeDrop_pwr (s : State) (src : Nat) : (s.routeDrop src).pwr = s.pwr :=
  State.routeDrop_same s src (u := .pwr) (by decide)
@[simp] theorem State.routeDrop_img (s : State) (src : Nat) : (s.routeDrop src).img = s.img :=
  State.routeDrop_same s src (u := .img) (by decide)
@[simp] theorem State.routeDrop_bcn (s : State) (src : Nat) : (s.routeDrop src).bcn = s.bcn :=
  State.routeDrop_same s src (u := .bcn) (by decide)
@[simp] theorem State.routeDrop_ports (s : State) (src : Nat) : (s.routeDrop src).ports = s.ports :=
  State.routeDrop_same s src (u := .ports) (by decide)
@[simp] theorem State.routeDrop_rdg (s : State) (src : Nat) : (s.routeDrop src).rdg = s.rdg :=
  State.routeDrop_same s src (u := .rdg) (by decide)
@[simp] theorem State.routeDrop_cdv (s : State) (src : Nat) : (s.routeDrop src).cdv = s.cdv :=
  State.routeDrop_same s src (u := .cdv) (by decide)
@[simp] theorem State.routeDrop_bin (s : State) (src : Nat) : (s.routeDrop src).bin = s.bin :=
  State.routeDrop_same s src (u := .bin) (by decide)
@[simp] theorem State.routeDrop_can (s : State) (src : Nat) : (s.routeDrop src).can = s.can :=
  State.routeDrop_same s src (u := .can) (by decide)
@[simp] theorem State.routeDrop_prf (s : State) (src : Nat) : (s.routeDrop src).prf = s.prf :=
  State.routeDrop_same s src (u := .prf) (by decide)
@[simp] theorem State.routeDrop_pln (s : State) (src : Nat) : (s.routeDrop src).pln = s.pln :=
  State.routeDrop_same s src (u := .pln) (by decide)
@[simp] theorem State.routeDrop_svi (s : State) (src : Nat) : (s.routeDrop src).svi = s.svi :=
  State.routeDrop_same s src (u := .svi) (by decide)
@[simp] theorem State.routeDrop_cnd (s : State) (src : Nat) : (s.routeDrop src).cnd = s.cnd :=
  State.routeDrop_same s src (u := .cnd) (by decide)
@[simp] theorem State.routeDrop_lmp (s : State) (src : Nat) : (s.routeDrop src).lmp = s.lmp :=
  State.routeDrop_same s src (u := .lmp) (by decide)
@[simp] theorem State.routeDrop_hst (s : State) (src : Nat) : (s.routeDrop src).hst = s.hst :=
  State.routeDrop_same s src (u := .hst) (by decide)
@[simp] theorem State.routeDrop_kpr (s : State) (src : Nat) : (s.routeDrop src).kpr = s.kpr :=
  State.routeDrop_same s src (u := .kpr) (by decide)
@[simp] theorem State.routeDrop_gal (s : State) (src : Nat) : (s.routeDrop src).gal = s.gal :=
  State.routeDrop_same s src (u := .gal) (by decide)
@[simp] theorem State.routeDrop_pub (s : State) (src : Nat) : (s.routeDrop src).pub = s.pub :=
  State.routeDrop_same s src (u := .pub) (by decide)
@[simp] theorem State.routeDrop_pair (s : State) (src : Nat) : (s.routeDrop src).pair = s.pair :=
  State.routeDrop_same s src (u := .pair) (by decide)

/-- Where `State.fnCount` changes nothing. -/
theorem State.fnCount_same (s : State) (v : Nat) (c : Nat) (n : Nat) {u : Part}
    (h : u ∉ ([.regs] : List Part)) : u.same s (s.fnCount v c n) :=
  (State.fnCount_fr (Fr.refl s) (List.Subset.refl _)).same h

@[simp] theorem State.fnCount_pending (s : State) (v : Nat) (c : Nat) (n : Nat) :
    (s.fnCount v c n).pending = s.pending :=
  State.fnCount_same s v c n (u := .pending) (by decide)
@[simp] theorem State.fnCount_out (s : State) (v : Nat) (c : Nat) (n : Nat) : (s.fnCount v c n).out = s.out :=
  State.fnCount_same s v c n (u := .out) (by decide)
@[simp] theorem State.fnCount_readData (s : State) (v : Nat) (c : Nat) (n : Nat) :
    (s.fnCount v c n).readData = s.readData :=
  State.fnCount_same s v c n (u := .readData) (by decide)
@[simp] theorem State.fnCount_cmds (s : State) (v : Nat) (c : Nat) (n : Nat) : (s.fnCount v c n).cmds = s.cmds :=
  State.fnCount_same s v c n (u := .cmds) (by decide)
@[simp] theorem State.fnCount_once (s : State) (v : Nat) (c : Nat) (n : Nat) : (s.fnCount v c n).once = s.once :=
  State.fnCount_same s v c n (u := .once) (by decide)
@[simp] theorem State.fnCount_time (s : State) (v : Nat) (c : Nat) (n : Nat) : (s.fnCount v c n).time = s.time :=
  State.fnCount_same s v c n (u := .time) (by decide)
@[simp] theorem State.fnCount_glb (s : State) (v : Nat) (c : Nat) (n : Nat) : (s.fnCount v c n).glb = s.glb :=
  State.fnCount_same s v c n (u := .glb) (by decide)
@[simp] theorem State.fnCount_pwr (s : State) (v : Nat) (c : Nat) (n : Nat) : (s.fnCount v c n).pwr = s.pwr :=
  State.fnCount_same s v c n (u := .pwr) (by decide)
@[simp] theorem State.fnCount_log (s : State) (v : Nat) (c : Nat) (n : Nat) : (s.fnCount v c n).log = s.log :=
  State.fnCount_same s v c n (u := .log) (by decide)
@[simp] theorem State.fnCount_evt (s : State) (v : Nat) (c : Nat) (n : Nat) : (s.fnCount v c n).evt = s.evt :=
  State.fnCount_same s v c n (u := .evt) (by decide)
@[simp] theorem State.fnCount_img (s : State) (v : Nat) (c : Nat) (n : Nat) : (s.fnCount v c n).img = s.img :=
  State.fnCount_same s v c n (u := .img) (by decide)
@[simp] theorem State.fnCount_bcn (s : State) (v : Nat) (c : Nat) (n : Nat) : (s.fnCount v c n).bcn = s.bcn :=
  State.fnCount_same s v c n (u := .bcn) (by decide)
@[simp] theorem State.fnCount_ports (s : State) (v : Nat) (c : Nat) (n : Nat) : (s.fnCount v c n).ports = s.ports :=
  State.fnCount_same s v c n (u := .ports) (by decide)
@[simp] theorem State.fnCount_rdg (s : State) (v : Nat) (c : Nat) (n : Nat) : (s.fnCount v c n).rdg = s.rdg :=
  State.fnCount_same s v c n (u := .rdg) (by decide)
@[simp] theorem State.fnCount_cdv (s : State) (v : Nat) (c : Nat) (n : Nat) : (s.fnCount v c n).cdv = s.cdv :=
  State.fnCount_same s v c n (u := .cdv) (by decide)
@[simp] theorem State.fnCount_bin (s : State) (v : Nat) (c : Nat) (n : Nat) : (s.fnCount v c n).bin = s.bin :=
  State.fnCount_same s v c n (u := .bin) (by decide)
@[simp] theorem State.fnCount_can (s : State) (v : Nat) (c : Nat) (n : Nat) : (s.fnCount v c n).can = s.can :=
  State.fnCount_same s v c n (u := .can) (by decide)
@[simp] theorem State.fnCount_prf (s : State) (v : Nat) (c : Nat) (n : Nat) : (s.fnCount v c n).prf = s.prf :=
  State.fnCount_same s v c n (u := .prf) (by decide)
@[simp] theorem State.fnCount_pln (s : State) (v : Nat) (c : Nat) (n : Nat) : (s.fnCount v c n).pln = s.pln :=
  State.fnCount_same s v c n (u := .pln) (by decide)
@[simp] theorem State.fnCount_svi (s : State) (v : Nat) (c : Nat) (n : Nat) : (s.fnCount v c n).svi = s.svi :=
  State.fnCount_same s v c n (u := .svi) (by decide)
@[simp] theorem State.fnCount_cnd (s : State) (v : Nat) (c : Nat) (n : Nat) : (s.fnCount v c n).cnd = s.cnd :=
  State.fnCount_same s v c n (u := .cnd) (by decide)
@[simp] theorem State.fnCount_lmp (s : State) (v : Nat) (c : Nat) (n : Nat) : (s.fnCount v c n).lmp = s.lmp :=
  State.fnCount_same s v c n (u := .lmp) (by decide)
@[simp] theorem State.fnCount_hst (s : State) (v : Nat) (c : Nat) (n : Nat) : (s.fnCount v c n).hst = s.hst :=
  State.fnCount_same s v c n (u := .hst) (by decide)
@[simp] theorem State.fnCount_kpr (s : State) (v : Nat) (c : Nat) (n : Nat) : (s.fnCount v c n).kpr = s.kpr :=
  State.fnCount_same s v c n (u := .kpr) (by decide)
@[simp] theorem State.fnCount_gal (s : State) (v : Nat) (c : Nat) (n : Nat) : (s.fnCount v c n).gal = s.gal :=
  State.fnCount_same s v c n (u := .gal) (by decide)
@[simp] theorem State.fnCount_pub (s : State) (v : Nat) (c : Nat) (n : Nat) : (s.fnCount v c n).pub = s.pub :=
  State.fnCount_same s v c n (u := .pub) (by decide)
@[simp] theorem State.fnCount_pair (s : State) (v : Nat) (c : Nat) (n : Nat) : (s.fnCount v c n).pair = s.pair :=
  State.fnCount_same s v c n (u := .pair) (by decide)

/-- Where `State.stat` changes nothing. -/
theorem State.stat_same (s : State) (p : Nat) (n : Nat) (by_ : Nat) {u : Part}
    (h : u ∉ ([.regs, .evt] : List Part)) : u.same s (s.stat p n by_) :=
  (State.stat_fr (Fr.refl s) (List.Subset.refl _)).same h

@[simp] theorem State.stat_pending (s : State) (p : Nat) (n : Nat) (by_ : Nat) :
    (s.stat p n by_).pending = s.pending :=
  State.stat_same s p n by_ (u := .pending) (by decide)
@[simp] theorem State.stat_out (s : State) (p : Nat) (n : Nat) (by_ : Nat) : (s.stat p n by_).out = s.out :=
  State.stat_same s p n by_ (u := .out) (by decide)
@[simp] theorem State.stat_readData (s : State) (p : Nat) (n : Nat) (by_ : Nat) :
    (s.stat p n by_).readData = s.readData :=
  State.stat_same s p n by_ (u := .readData) (by decide)
@[simp] theorem State.stat_cmds (s : State) (p : Nat) (n : Nat) (by_ : Nat) : (s.stat p n by_).cmds = s.cmds :=
  State.stat_same s p n by_ (u := .cmds) (by decide)
@[simp] theorem State.stat_once (s : State) (p : Nat) (n : Nat) (by_ : Nat) : (s.stat p n by_).once = s.once :=
  State.stat_same s p n by_ (u := .once) (by decide)
@[simp] theorem State.stat_time (s : State) (p : Nat) (n : Nat) (by_ : Nat) : (s.stat p n by_).time = s.time :=
  State.stat_same s p n by_ (u := .time) (by decide)
@[simp] theorem State.stat_glb (s : State) (p : Nat) (n : Nat) (by_ : Nat) : (s.stat p n by_).glb = s.glb :=
  State.stat_same s p n by_ (u := .glb) (by decide)
@[simp] theorem State.stat_pwr (s : State) (p : Nat) (n : Nat) (by_ : Nat) : (s.stat p n by_).pwr = s.pwr :=
  State.stat_same s p n by_ (u := .pwr) (by decide)
@[simp] theorem State.stat_log (s : State) (p : Nat) (n : Nat) (by_ : Nat) : (s.stat p n by_).log = s.log :=
  State.stat_same s p n by_ (u := .log) (by decide)
@[simp] theorem State.stat_img (s : State) (p : Nat) (n : Nat) (by_ : Nat) : (s.stat p n by_).img = s.img :=
  State.stat_same s p n by_ (u := .img) (by decide)
@[simp] theorem State.stat_bcn (s : State) (p : Nat) (n : Nat) (by_ : Nat) : (s.stat p n by_).bcn = s.bcn :=
  State.stat_same s p n by_ (u := .bcn) (by decide)
@[simp] theorem State.stat_ports (s : State) (p : Nat) (n : Nat) (by_ : Nat) : (s.stat p n by_).ports = s.ports :=
  State.stat_same s p n by_ (u := .ports) (by decide)
@[simp] theorem State.stat_rdg (s : State) (p : Nat) (n : Nat) (by_ : Nat) : (s.stat p n by_).rdg = s.rdg :=
  State.stat_same s p n by_ (u := .rdg) (by decide)
@[simp] theorem State.stat_cdv (s : State) (p : Nat) (n : Nat) (by_ : Nat) : (s.stat p n by_).cdv = s.cdv :=
  State.stat_same s p n by_ (u := .cdv) (by decide)
@[simp] theorem State.stat_bin (s : State) (p : Nat) (n : Nat) (by_ : Nat) : (s.stat p n by_).bin = s.bin :=
  State.stat_same s p n by_ (u := .bin) (by decide)
@[simp] theorem State.stat_can (s : State) (p : Nat) (n : Nat) (by_ : Nat) : (s.stat p n by_).can = s.can :=
  State.stat_same s p n by_ (u := .can) (by decide)
@[simp] theorem State.stat_prf (s : State) (p : Nat) (n : Nat) (by_ : Nat) : (s.stat p n by_).prf = s.prf :=
  State.stat_same s p n by_ (u := .prf) (by decide)
@[simp] theorem State.stat_pln (s : State) (p : Nat) (n : Nat) (by_ : Nat) : (s.stat p n by_).pln = s.pln :=
  State.stat_same s p n by_ (u := .pln) (by decide)
@[simp] theorem State.stat_svi (s : State) (p : Nat) (n : Nat) (by_ : Nat) : (s.stat p n by_).svi = s.svi :=
  State.stat_same s p n by_ (u := .svi) (by decide)
@[simp] theorem State.stat_cnd (s : State) (p : Nat) (n : Nat) (by_ : Nat) : (s.stat p n by_).cnd = s.cnd :=
  State.stat_same s p n by_ (u := .cnd) (by decide)
@[simp] theorem State.stat_lmp (s : State) (p : Nat) (n : Nat) (by_ : Nat) : (s.stat p n by_).lmp = s.lmp :=
  State.stat_same s p n by_ (u := .lmp) (by decide)
@[simp] theorem State.stat_hst (s : State) (p : Nat) (n : Nat) (by_ : Nat) : (s.stat p n by_).hst = s.hst :=
  State.stat_same s p n by_ (u := .hst) (by decide)
@[simp] theorem State.stat_kpr (s : State) (p : Nat) (n : Nat) (by_ : Nat) : (s.stat p n by_).kpr = s.kpr :=
  State.stat_same s p n by_ (u := .kpr) (by decide)
@[simp] theorem State.stat_gal (s : State) (p : Nat) (n : Nat) (by_ : Nat) : (s.stat p n by_).gal = s.gal :=
  State.stat_same s p n by_ (u := .gal) (by decide)
@[simp] theorem State.stat_pub (s : State) (p : Nat) (n : Nat) (by_ : Nat) : (s.stat p n by_).pub = s.pub :=
  State.stat_same s p n by_ (u := .pub) (by decide)
@[simp] theorem State.stat_pair (s : State) (p : Nat) (n : Nat) (by_ : Nat) : (s.stat p n by_).pair = s.pair :=
  State.stat_same s p n by_ (u := .pair) (by decide)

end Sys2Proof.Machine
end

