-- ==== Sys2Proof/Laws/Mode.lean ====
section
/-!
SUPPORT. What a transition of the mode does to the global block.
-/

set_option Elab.async false

namespace Sys2Proof.Machine

open Sys2Proof

/-- An operation that leaves the global block alone, but for what waits there. -/
def GlbSame (s t : State) : Prop := t.glb = { s.glb with waiting := t.glb.waiting }

theorem GlbSame.refl (s : State) : GlbSame s s := rfl

theorem GlbSame.of {s t : State} (h : t.glb = s.glb) : GlbSame s t := by unfold GlbSame; rw [h]

theorem GlbSame.trans {s t u : State} (h : GlbSame s t) (k : GlbSame t u) : GlbSame s u := by
  unfold GlbSame at *; rw [k, h]

theorem GlbSame.fr {l : List Part} {s t : State} (h : Fr l s t) (hl : Part.glb ∉ l) : GlbSame s t :=
  .of (h.ch.same .glb hl)

theorem GlbSame.ite {s a b : State} {c : Prop} [Decidable c] (ha : GlbSame s a) (hb : GlbSame s b) :
    GlbSame s (if c then a else b) := by split <;> assumption

theorem State.exClose_glbSame (s : State) (d : Bool) : GlbSame s (s.exClose d) := by
  unfold State.exClose
  extract_lets now q1 s1 s2 q2 s3
  have h1 : s1.glb = s.glb := rfl
  have h2 : s2.glb = s.glb := by
    unfold s2
    split
    · split
      · rw [State.cmdDone_glb, h1]
      · rw [State.cmdEndRefused_glb, h1]
    · exact h1
  have h3 : GlbSame s s3 := by unfold GlbSame s3 q2; rw [h2]
  split
  · split
    · exact h3.trans (.of (State.cmdDone_glb _ _))
    · exact h3.trans (.of (State.cmdEndRefused_glb _ _))
  · exact .of h2

theorem State.exStop_glbSame (s : State) (d : Bool) : GlbSame s (s.exStop d) := by
  unfold State.exStop
  split
  · exact .refl s
  · exact (GlbSame.fr (State.raiseRec_fr (Fr.refl s) (List.Subset.refl _)) (by decide)).trans
      (State.exClose_glbSame _ d)

theorem State.exFramesStop_glbSame (s : State) : GlbSame s s.exFramesStop := by
  unfold State.exFramesStop
  refine GlbSame.trans (t := if s.pair.ex = 3 then s.ctrlAbort s.pair.exH 3 else s) ?_ (State.exStop_glbSame _ _)
  exact .ite (.fr (State.ctrlAbort_fr (Fr.refl s) (List.Subset.refl _)) (by decide)) (.refl s)

theorem State.framesStopAll_glbSame (s : State) : GlbSame s s.framesStopAll := by
  unfold State.framesStopAll
  split
  · extract_lets s1 s2 q3
    have k1 : Fr [.out, .regs, .cmds, .once, .time, .log, .evt, .img, .bcn, .cdv, .pln, .svi, .cnd, .hst, .kpr, .gal,
        .pub, .pair] s s1 := by
      refine State.sviDrop_fr (State.hstDrop_fr (State.pubDrop_fr (State.imgFramesStop_fr (State.framesStop_fr
        (Fr.refl s) ?_) ?_) ?_) ?_) ?_ <;> decide
    have h1 : GlbSame s s1 := .fr k1 (by decide)
    clear k1
    have h2 : GlbSame s1 s2 := by
      unfold s2
      refine GlbSame.trans (t := s1.galFramesStop.exFramesStop) ?_ ?_
      · exact (GlbSame.fr (State.galFramesStop_fr (Fr.refl s1) (List.Subset.refl _)) (by decide)).trans
          (State.exFramesStop_glbSame _)
      · have k2 : Fr [.out, .regs, .cmds, .once, .time, .log, .evt, .img, .bcn, .pln, .svi, .cnd, .hst, .kpr, .gal,
            .pub, .pair] s1.galFramesStop.exFramesStop s1.galFramesStop.exFramesStop.alignFail.stepIfIdle := by
          refine State.stepIfIdle_fr (State.alignFail_fr (Fr.refl _) ?_) ?_ <;> decide
        exact .fr k2 (by decide)
    clear_value q3 s2; exact h1.trans (h2.trans (.of rfl))
  · exact .refl s

theorem State.modeEffects_glbSame (s : State) (old m : Mode) : GlbSame s (s.modeEffects old m) := by
  unfold State.modeEffects
  extract_lets s1 s2 s3 s4 s5 s6 s7 s8
  have h1 : GlbSame s s1 :=
    .ite (.fr (State.leaveActive_fr (Fr.refl s) (List.Subset.refl _)) (by decide)) (.refl s)
  have h2 : GlbSame s1 s2 :=
    .ite (.fr (State.simEnd_fr (Fr.refl s1) (List.Subset.refl _)) (by decide)) (.refl s1)
  have h3 : GlbSame s2 s3 :=
    .ite (.fr (State.mirrorAll_fr (Fr.refl s2) (List.Subset.refl _)) (by decide)) (.refl s2)
  have h4 : GlbSame s3 s4 :=
    .ite (.fr (State.subMode_fr (Fr.refl s3) (List.Subset.refl _)) (by decide)) (.refl s3)
  have h5 : GlbSame s4 s5 :=
    .ite (.refl s4) (.fr (State.stepDrop_fr (Fr.refl s4) (List.Subset.refl _)) (by decide))
  have h6 : GlbSame s5 s6 :=
    .ite (.fr (State.reloadAbandon_fr (Fr.refl s5) (List.Subset.refl _)) (by decide)) (.refl s5)
  have h7 : GlbSame s6 s7 := .ite (State.framesStopAll_glbSame s6) (.refl s6)
  have h8 : GlbSame s7 s8 :=
    .ite (.fr (State.raiseCount_fr (Fr.refl s7) (List.Subset.refl _)) (by decide)) (.refl s7)
  refine (((((((h1.trans h2).trans h3).trans h4).trans h5).trans h6).trans h7).trans h8).trans ?_
  refine GlbSame.trans (t := if m = .commission then s8.bcnEval none else s8) ?_
    (.fr (State.pairTrack_fr (Fr.refl _) (List.Subset.refl _)) (by decide))
  exact .ite (.fr (State.bcnEval_fr (Fr.refl s8) (List.Subset.refl _)) (by decide)) (.refl s8)

theorem State.glbOvertaken_glbSame (s : State) : GlbSame s s.glbOvertaken := by
  unfold State.glbOvertaken
  split
  · exact .refl s
  · exact rfl
  · unfold GlbSame; rw [State.cmdEndRefused_glb]

/-- A transition to another mode, as the global block shows it. -/
theorem State.setMode_glb (s : State) {m : Mode} (cause : Nat) (h : s.glb.mode ≠ m) :
    (s.setMode m cause).glb = { s.glb with
      mode := m, prev := s.glb.mode, lastCause := cause, changes := (s.glb.changes + 1) % 65536,
      inTransition := false, since := s.time.mono, waiting := (s.setMode m cause).glb.waiting } := by
  have e : s.setMode m cause = (({ s.glbOvertaken with
      glb := { s.glbOvertaken.glb with
        mode := m, prev := s.glb.mode, lastCause := cause, changes := (s.glbOvertaken.glb.changes + 1) % 65536,
        inTransition := false, since := s.glbOvertaken.time.mono } }.logPut 0x0002 0 0x3FF (modeNum m)
        (modeNum s.glb.mode) cause).raiseGlb 0).modeEffects s.glb.mode m := by
    unfold State.setMode; simp [h]
  have h1 := State.glbOvertaken_glbSame s
  have ht : s.glbOvertaken.time = s.time :=
    (State.glbOvertaken_fr (Fr.refl s) (List.Subset.refl _)).ch.same .time (by decide)
  have h2 : GlbSame { s.glbOvertaken with
      glb := { s.glbOvertaken.glb with
        mode := m, prev := s.glb.mode, lastCause := cause, changes := (s.glbOvertaken.glb.changes + 1) % 65536,
        inTransition := false, since := s.glbOvertaken.time.mono } } (s.setMode m cause) := by
    rw [e]
    refine GlbSame.trans (.of ?_) (State.modeEffects_glbSame _ _ _)
    rw [State.raiseGlb_glb, State.logPut_glb]
  unfold GlbSame at h1 h2
  rw [h2, ht]
  rw [h1]

theorem State.setMode_mode (s : State) (m : Mode) (cause : Nat) : (s.setMode m cause).glb.mode = m := by
  by_cases h : s.glb.mode = m
  · unfold State.setMode; simp [h]
  · rw [State.setMode_glb s cause h]

end Sys2Proof.Machine
end

