-- ==== Sys2Proof/Laws/PerInstr.lean ====
section
/-!
SUPPORT. The statement made per instruction: where a row of the table is a command of a command register, its code fits
the code field and its register lies at an aligned address of PF0's map or of a virtual function's BAR (R8, R36, R37,
R471, R472).
-/

set_option Elab.async false

namespace Sys2Proof.Laws

open Sys2Proof.Machine

/-- The command's code is not 0 and fits bits [7:0]; its register is an aligned address of PF0's map, or VF_CMD. -/
def CommandCodes.Statement (i : Instr) : Prop :=
  ∀ (r code : Nat) (rsv : BitVec 8), commandOf i = some (r, code, rsv) →
    0 < code ∧ code < 256 ∧ r % 4 = 0 ∧ (r < 0x4000000 ∨ ∃ v : Fin 256, r = vfBase v.val + 4)

/-- A row that is no command of a command register. -/
theorem CommandCodes.of_none {i : Instr} (h : commandOf i = none) : CommandCodes.Statement i := by
  intro r code rsv e
  rw [h] at e
  cases e

/-- A row that is a command of a register of PF0's map. -/
theorem CommandCodes.of_pf0 {i : Instr} (q k : Nat) (v : BitVec 8) (h : commandOf i = some (q, k, v)) (hk : 0 < k)
    (hk' : k < 256) (ha : q % 4 = 0) (hq : q < 0x4000000) : CommandCodes.Statement i := by
  intro r code rsv e
  rw [h] at e
  cases e
  exact ⟨hk, hk', ha, .inl hq⟩

/-- A row that is a command of VF_CMD. -/
theorem CommandCodes.of_vf {i : Instr} (w : Fin 256) (k : Nat) (v : BitVec 8)
    (h : commandOf i = some (vfBase w.val + 4, k, v)) (hk : 0 < k) (hk' : k < 256) : CommandCodes.Statement i := by
  intro r code rsv e
  rw [h] at e
  cases e
  refine ⟨hk, hk', ?_, .inr ⟨w, rfl⟩⟩
  simp only [vfBase]
  omega

theorem CommandCodes.registerWrite a b c d e f :
    CommandCodes.Statement (.registerWrite a b c d e f) := CommandCodes.of_none rfl
theorem CommandCodes.partialWrite a b c d :
    CommandCodes.Statement (.partialWrite a b c d) := CommandCodes.of_none rfl
theorem CommandCodes.rcCounterRead a b c :
    CommandCodes.Statement (.rcCounterRead a b c) := CommandCodes.of_none rfl
theorem CommandCodes.bcnTimeNsRead a b :
    CommandCodes.Statement (.bcnTimeNsRead a b) := CommandCodes.of_none rfl
theorem CommandCodes.bcnRateLoRead a :
    CommandCodes.Statement (.bcnRateLoRead a) := CommandCodes.of_none rfl
theorem CommandCodes.vfTimeNsRead a b :
    CommandCodes.Statement (.vfTimeNsRead a b) := CommandCodes.of_none rfl
theorem CommandCodes.prfValueLoRead a b c :
    CommandCodes.Statement (.prfValueLoRead a b c) := CommandCodes.of_none rfl
theorem CommandCodes.binInTs32Read a b c :
    CommandCodes.Statement (.binInTs32Read a b c) := CommandCodes.of_none rfl
theorem CommandCodes.logWindowLastRead a b :
    CommandCodes.Statement (.logWindowLastRead a b) := CommandCodes.of_none rfl
theorem CommandCodes.plnWindowWrite a b c :
    CommandCodes.Statement (.plnWindowWrite a b c) := CommandCodes.of_none rfl
theorem CommandCodes.mbxStateRead a b c :
    CommandCodes.Statement (.mbxStateRead a b c) := CommandCodes.of_none rfl
theorem CommandCodes.mbxStateWrite a b c d :
    CommandCodes.Statement (.mbxStateWrite a b c d) := CommandCodes.of_none rfl
theorem CommandCodes.cdvFallShWrite a b c :
    CommandCodes.Statement (.cdvFallShWrite a b c) := CommandCodes.of_none rfl
theorem CommandCodes.cdvPeriodShWrite a b c :
    CommandCodes.Statement (.cdvPeriodShWrite a b c) := CommandCodes.of_none rfl
theorem CommandCodes.bcnTsArmWrite a b :
    CommandCodes.Statement (.bcnTsArmWrite a b) := CommandCodes.of_none rfl
theorem CommandCodes.canTxReqWrite a b c :
    CommandCodes.Statement (.canTxReqWrite a b c) := CommandCodes.of_none rfl
theorem CommandCodes.txTailWrite a b c :
    CommandCodes.Statement (.txTailWrite a b c) := CommandCodes.of_none rfl
theorem CommandCodes.rxTailWrite a b c :
    CommandCodes.Statement (.rxTailWrite a b c) := CommandCodes.of_none rfl
theorem CommandCodes.latchClosed a :
    CommandCodes.Statement (.latchClosed a) := CommandCodes.of_none rfl
theorem CommandCodes.supplyOn a :
    CommandCodes.Statement (.supplyOn a) := CommandCodes.of_none rfl
theorem CommandCodes.prechargeComplete a :
    CommandCodes.Statement (.prechargeComplete a) := CommandCodes.of_none rfl
theorem CommandCodes.prechargeFail a :
    CommandCodes.Statement (.prechargeFail a) := CommandCodes.of_none rfl
theorem CommandCodes.prechargeRetry a b :
    CommandCodes.Statement (.prechargeRetry a b) := CommandCodes.of_none rfl
theorem CommandCodes.bootStageComplete a b :
    CommandCodes.Statement (.bootStageComplete a b) := CommandCodes.of_none rfl
theorem CommandCodes.imageLoaded a :
    CommandCodes.Statement (.imageLoaded a) := CommandCodes.of_none rfl
theorem CommandCodes.commissionComplete a :
    CommandCodes.Statement (.commissionComplete a) := CommandCodes.of_none rfl
theorem CommandCodes.commissionTimeout a :
    CommandCodes.Statement (.commissionTimeout a) := CommandCodes.of_none rfl
theorem CommandCodes.enterTest a b c :
    CommandCodes.Statement (.enterTest a b c) := CommandCodes.of_pf0 _ _ _ rfl (by decide) (by decide) (by decide) (by decide)
theorem CommandCodes.exitTest a b c :
    CommandCodes.Statement (.exitTest a b c) := CommandCodes.of_pf0 _ _ _ rfl (by decide) (by decide) (by decide) (by decide)
theorem CommandCodes.enterMaintenance a b c :
    CommandCodes.Statement (.enterMaintenance a b c) := CommandCodes.of_pf0 _ _ _ rfl (by decide) (by decide) (by decide) (by decide)
theorem CommandCodes.exitMaintenance a b c :
    CommandCodes.Statement (.exitMaintenance a b c) := CommandCodes.of_pf0 _ _ _ rfl (by decide) (by decide) (by decide) (by decide)
theorem CommandCodes.leaveCommission a b c :
    CommandCodes.Statement (.leaveCommission a b c) := CommandCodes.of_pf0 _ _ _ rfl (by decide) (by decide) (by decide) (by decide)
theorem CommandCodes.handover a b c :
    CommandCodes.Statement (.handover a b c) := CommandCodes.of_pf0 _ _ _ rfl (by decide) (by decide) (by decide) (by decide)
theorem CommandCodes.leaveService a b c :
    CommandCodes.Statement (.leaveService a b c) := CommandCodes.of_pf0 _ _ _ rfl (by decide) (by decide) (by decide) (by decide)
theorem CommandCodes.restart a b c :
    CommandCodes.Statement (.restart a b c) := CommandCodes.of_pf0 _ _ _ rfl (by decide) (by decide) (by decide) (by decide)
theorem CommandCodes.latchOpened a :
    CommandCodes.Statement (.latchOpened a) := CommandCodes.of_none rfl
theorem CommandCodes.removalQuiesced a :
    CommandCodes.Statement (.removalQuiesced a) := CommandCodes.of_none rfl
theorem CommandCodes.safeToRemove a :
    CommandCodes.Statement (.safeToRemove a) := CommandCodes.of_none rfl
theorem CommandCodes.removalDormant a :
    CommandCodes.Statement (.removalDormant a) := CommandCodes.of_none rfl
theorem CommandCodes.blockReset a b c :
    CommandCodes.Statement (.blockReset a b c) := CommandCodes.of_pf0 _ _ _ rfl (by decide) (by decide) (by decide) (by decide)
theorem CommandCodes.blockResetDone a :
    CommandCodes.Statement (.blockResetDone a) := CommandCodes.of_none rfl
theorem CommandCodes.pcieReset a :
    CommandCodes.Statement (.pcieReset a) := CommandCodes.of_none rfl
theorem CommandCodes.supplyLoss a :
    CommandCodes.Statement (.supplyLoss a) := CommandCodes.of_none rfl
theorem CommandCodes.powerFailWarn a :
    CommandCodes.Statement (.powerFailWarn a) := CommandCodes.of_none rfl
theorem CommandCodes.holdupExpiry a :
    CommandCodes.Statement (.holdupExpiry a) := CommandCodes.of_none rfl
theorem CommandCodes.supplyRestored a :
    CommandCodes.Statement (.supplyRestored a) := CommandCodes.of_none rfl
theorem CommandCodes.tamper a b :
    CommandCodes.Statement (.tamper a b) := CommandCodes.of_none rfl
theorem CommandCodes.thermalReading a b c d :
    CommandCodes.Statement (.thermalReading a b c d) := CommandCodes.of_none rfl
theorem CommandCodes.loadCandidate a b c d :
    CommandCodes.Statement (.loadCandidate a b c d) := CommandCodes.of_pf0 _ _ _ rfl (by decide) (by decide) (by decide) (by decide)
theorem CommandCodes.loadDone a b :
    CommandCodes.Statement (.loadDone a b) := CommandCodes.of_none rfl
theorem CommandCodes.reload a b c :
    CommandCodes.Statement (.reload a b c) := CommandCodes.of_pf0 _ _ _ rfl (by decide) (by decide) (by decide) (by decide)
theorem CommandCodes.reloadApply a :
    CommandCodes.Statement (.reloadApply a) := CommandCodes.of_none rfl
theorem CommandCodes.abandon a b c :
    CommandCodes.Statement (.abandon a b c) := CommandCodes.of_pf0 _ _ _ rfl (by decide) (by decide) (by decide) (by decide)
theorem CommandCodes.invalidateBank a b c :
    CommandCodes.Statement (.invalidateBank a b c) := CommandCodes.of_pf0 _ _ _ rfl (by decide) (by decide) (by decide) (by decide)
theorem CommandCodes.setMinGen a b c :
    CommandCodes.Statement (.setMinGen a b c) := CommandCodes.of_pf0 _ _ _ rfl (by decide) (by decide) (by decide) (by decide)
theorem CommandCodes.nvmStore a b c :
    CommandCodes.Statement (.nvmStore a b c) := CommandCodes.of_pf0 _ _ _ rfl (by decide) (by decide) (by decide) (by decide)
theorem CommandCodes.nvmStoreDone a b :
    CommandCodes.Statement (.nvmStoreDone a b) := CommandCodes.of_none rfl
theorem CommandCodes.settingsWrite a b c :
    CommandCodes.Statement (.settingsWrite a b c) := CommandCodes.of_pf0 _ _ _ rfl (by decide) (by decide) (by decide) (by decide)
theorem CommandCodes.settingsRevert a b c :
    CommandCodes.Statement (.settingsRevert a b c) := CommandCodes.of_pf0 _ _ _ rfl (by decide) (by decide) (by decide) (by decide)
theorem CommandCodes.settingsRead a b c :
    CommandCodes.Statement (.settingsRead a b c) := CommandCodes.of_pf0 _ _ _ rfl (by decide) (by decide) (by decide) (by decide)
theorem CommandCodes.settingsApply a :
    CommandCodes.Statement (.settingsApply a) := CommandCodes.of_none rfl
theorem CommandCodes.frameTick a :
    CommandCodes.Statement (.frameTick a) := CommandCodes.of_none rfl
theorem CommandCodes.keeperWake a b :
    CommandCodes.Statement (.keeperWake a b) := CommandCodes.of_none rfl
theorem CommandCodes.commit a :
    CommandCodes.Statement (.commit a) := CommandCodes.of_none rfl
theorem CommandCodes.kgv a b c :
    CommandCodes.Statement (.kgv a b c) := CommandCodes.of_none rfl
theorem CommandCodes.kgm a b c :
    CommandCodes.Statement (.kgm a b c) := CommandCodes.of_none rfl
theorem CommandCodes.kiv a b c :
    CommandCodes.Statement (.kiv a b c) := CommandCodes.of_none rfl
theorem CommandCodes.kim a b c :
    CommandCodes.Statement (.kim a b c) := CommandCodes.of_none rfl
theorem CommandCodes.kphr a b c :
    CommandCodes.Statement (.kphr a b c) := CommandCodes.of_none rfl
theorem CommandCodes.kphi a b c :
    CommandCodes.Statement (.kphi a b c) := CommandCodes.of_none rfl
theorem CommandCodes.kphm a b c :
    CommandCodes.Statement (.kphm a b c) := CommandCodes.of_none rfl
theorem CommandCodes.kgt a b c :
    CommandCodes.Statement (.kgt a b c) := CommandCodes.of_none rfl
theorem CommandCodes.kbin a b c :
    CommandCodes.Statement (.kbin a b c) := CommandCodes.of_none rfl
theorem CommandCodes.kbinw a b c :
    CommandCodes.Statement (.kbinw a b c) := CommandCodes.of_none rfl
theorem CommandCodes.kbinq a b c :
    CommandCodes.Statement (.kbinq a b c) := CommandCodes.of_none rfl
theorem CommandCodes.kdec a b c :
    CommandCodes.Statement (.kdec a b c) := CommandCodes.of_none rfl
theorem CommandCodes.kdset a b c :
    CommandCodes.Statement (.kdset a b c) := CommandCodes.of_none rfl
theorem CommandCodes.kdclr a b c :
    CommandCodes.Statement (.kdclr a b c) := CommandCodes.of_none rfl
theorem CommandCodes.kdput a b c :
    CommandCodes.Statement (.kdput a b c) := CommandCodes.of_none rfl
theorem CommandCodes.kslw a b c :
    CommandCodes.Statement (.kslw a b c) := CommandCodes.of_none rfl
theorem CommandCodes.kssw a b c :
    CommandCodes.Statement (.kssw a b c) := CommandCodes.of_none rfl
theorem CommandCodes.kslf a b c :
    CommandCodes.Statement (.kslf a b c) := CommandCodes.of_none rfl
theorem CommandCodes.kssf a b c :
    CommandCodes.Statement (.kssf a b c) := CommandCodes.of_none rfl
theorem CommandCodes.kevt a b c :
    CommandCodes.Statement (.kevt a b c) := CommandCodes.of_none rfl
theorem CommandCodes.kyield a b c :
    CommandCodes.Statement (.kyield a b c) := CommandCodes.of_none rfl
theorem CommandCodes.kbudg a b c :
    CommandCodes.Statement (.kbudg a b c) := CommandCodes.of_none rfl
theorem CommandCodes.kftime a b c :
    CommandCodes.Statement (.kftime a b c) := CommandCodes.of_none rfl
theorem CommandCodes.keeperCsrRead a b c :
    CommandCodes.Statement (.keeperCsrRead a b c) := CommandCodes.of_none rfl
theorem CommandCodes.keeperBaseInstruction a b c :
    CommandCodes.Statement (.keeperBaseInstruction a b c) := CommandCodes.of_none rfl
theorem CommandCodes.budgetExpiry a b :
    CommandCodes.Statement (.budgetExpiry a b) := CommandCodes.of_none rfl
theorem CommandCodes.resultMergeRelease a b :
    CommandCodes.Statement (.resultMergeRelease a b) := CommandCodes.of_none rfl
theorem CommandCodes.lockstepMiscompare a b :
    CommandCodes.Statement (.lockstepMiscompare a b) := CommandCodes.of_none rfl
theorem CommandCodes.keeperSramEcc a b c d :
    CommandCodes.Statement (.keeperSramEcc a b c d) := CommandCodes.of_none rfl
theorem CommandCodes.keeperReplaceApply a :
    CommandCodes.Statement (.keeperReplaceApply a) := CommandCodes.of_none rfl
theorem CommandCodes.move a b c :
    CommandCodes.Statement (.move a b c) := CommandCodes.of_pf0 _ _ _ rfl (by decide) (by decide) (by decide) (by decide)
theorem CommandCodes.moveApply a :
    CommandCodes.Statement (.moveApply a) := CommandCodes.of_none rfl
theorem CommandCodes.funcRestart a b c :
    CommandCodes.Statement (.funcRestart a b c) := CommandCodes.of_pf0 _ _ _ rfl (by decide) (by decide) (by decide) (by decide)
theorem CommandCodes.funcRestartApply a :
    CommandCodes.Statement (.funcRestartApply a) := CommandCodes.of_none rfl
theorem CommandCodes.keeperReturn a b c :
    CommandCodes.Statement (.keeperReturn a b c) := CommandCodes.of_pf0 _ _ _ rfl (by decide) (by decide) (by decide) (by decide)
theorem CommandCodes.keeperSelftestDone a b :
    CommandCodes.Statement (.keeperSelftestDone a b) := CommandCodes.of_none rfl
theorem CommandCodes.macFrameRx a b c d e f :
    CommandCodes.Statement (.macFrameRx a b c d e f) := CommandCodes.of_none rfl
theorem CommandCodes.egressTransmit a b c d :
    CommandCodes.Statement (.egressTransmit a b c d) := CommandCodes.of_none rfl
theorem CommandCodes.pfcFrameRx a b c d :
    CommandCodes.Statement (.pfcFrameRx a b c d) := CommandCodes.of_none rfl
theorem CommandCodes.pfcPauseExpiry a b c :
    CommandCodes.Statement (.pfcPauseExpiry a b c) := CommandCodes.of_none rfl
theorem CommandCodes.pfcXoffRepeat a b c :
    CommandCodes.Statement (.pfcXoffRepeat a b c) := CommandCodes.of_none rfl
theorem CommandCodes.pfcWatchdog a b c :
    CommandCodes.Statement (.pfcWatchdog a b c) := CommandCodes.of_none rfl
theorem CommandCodes.pfcWatchdogReleaseEnd a b c :
    CommandCodes.Statement (.pfcWatchdogReleaseEnd a b c) := CommandCodes.of_none rfl
theorem CommandCodes.linkDown a b c :
    CommandCodes.Statement (.linkDown a b c) := CommandCodes.of_none rfl
theorem CommandCodes.linkUp a b c d :
    CommandCodes.Statement (.linkUp a b c d) := CommandCodes.of_none rfl
theorem CommandCodes.holdDownExpiry a b :
    CommandCodes.Statement (.holdDownExpiry a b) := CommandCodes.of_none rfl
theorem CommandCodes.transceiverChange a b c d e f :
    CommandCodes.Statement (.transceiverChange a b c d e f) := CommandCodes.of_none rfl
theorem CommandCodes.pcsFaultChange a b c d :
    CommandCodes.Statement (.pcsFaultChange a b c d) := CommandCodes.of_none rfl
theorem CommandCodes.utilSample1s a b c :
    CommandCodes.Statement (.utilSample1s a b c) := CommandCodes.of_none rfl
theorem CommandCodes.utilSample10ms a b c :
    CommandCodes.Statement (.utilSample10ms a b c) := CommandCodes.of_none rfl
theorem CommandCodes.speedChangeTimeout a b :
    CommandCodes.Statement (.speedChangeTimeout a b) := CommandCodes.of_none rfl
theorem CommandCodes.t1sCollision a b c d e :
    CommandCodes.Statement (.t1sCollision a b c d e) := CommandCodes.of_none rfl
theorem CommandCodes.t1sBackoffExpiry a b :
    CommandCodes.Statement (.t1sBackoffExpiry a b) := CommandCodes.of_none rfl
theorem CommandCodes.adminDown a b c d :
    CommandCodes.Statement (.adminDown a b c d) := CommandCodes.of_pf0 _ _ _ rfl (by decide) (by decide) (by revert b; decide) (by revert b; decide)
theorem CommandCodes.adminUp a b c d :
    CommandCodes.Statement (.adminUp a b c d) := CommandCodes.of_pf0 _ _ _ rfl (by decide) (by decide) (by revert b; decide) (by revert b; decide)
theorem CommandCodes.speedPin a b c d :
    CommandCodes.Statement (.speedPin a b c d) := CommandCodes.of_pf0 _ _ _ rfl (by decide) (by decide) (by revert b; decide) (by revert b; decide)
theorem CommandCodes.reseqTimeout a b c d :
    CommandCodes.Statement (.reseqTimeout a b c d) := CommandCodes.of_none rfl
theorem CommandCodes.planeFault a b c :
    CommandCodes.Statement (.planeFault a b c) := CommandCodes.of_none rfl
theorem CommandCodes.ntEntryExpiry a b c :
    CommandCodes.Statement (.ntEntryExpiry a b c) := CommandCodes.of_none rfl
theorem CommandCodes.supervisionTx a b :
    CommandCodes.Statement (.supervisionTx a b) := CommandCodes.of_none rfl
theorem CommandCodes.ntFlush a b c :
    CommandCodes.Statement (.ntFlush a b c) := CommandCodes.of_pf0 _ _ _ rfl (by decide) (by decide) (by decide) (by decide)
theorem CommandCodes.planeSelect a b c :
    CommandCodes.Statement (.planeSelect a b c) := CommandCodes.of_pf0 _ _ _ rfl (by decide) (by decide) (by decide) (by decide)
theorem CommandCodes.holddownEnd a b c :
    CommandCodes.Statement (.holddownEnd a b c) := CommandCodes.of_pf0 _ _ _ rfl (by decide) (by decide) (by decide) (by decide)
theorem CommandCodes.ptpSyncRx a b c d e f g h :
    CommandCodes.Statement (.ptpSyncRx a b c d e f g h) := CommandCodes.of_none rfl
theorem CommandCodes.ptpAnnounceRx a b c d e f g :
    CommandCodes.Statement (.ptpAnnounceRx a b c d e f g) := CommandCodes.of_none rfl
theorem CommandCodes.ptpDelayMsgRx a b c d e :
    CommandCodes.Statement (.ptpDelayMsgRx a b c d e) := CommandCodes.of_none rfl
theorem CommandCodes.ptpOtherMsgRx a b c :
    CommandCodes.Statement (.ptpOtherMsgRx a b c) := CommandCodes.of_none rfl
theorem CommandCodes.announceReceiptTimeout a b :
    CommandCodes.Statement (.announceReceiptTimeout a b) := CommandCodes.of_none rfl
theorem CommandCodes.syncMissed a b :
    CommandCodes.Statement (.syncMissed a b) := CommandCodes.of_none rfl
theorem CommandCodes.ptpSyncTx a b c :
    CommandCodes.Statement (.ptpSyncTx a b c) := CommandCodes.of_none rfl
theorem CommandCodes.ptpAnnounceTx a b c :
    CommandCodes.Statement (.ptpAnnounceTx a b c) := CommandCodes.of_none rfl
theorem CommandCodes.ptpPdelayReqTx a b c :
    CommandCodes.Statement (.ptpPdelayReqTx a b c) := CommandCodes.of_none rfl
theorem CommandCodes.timeLost a :
    CommandCodes.Statement (.timeLost a) := CommandCodes.of_none rfl
theorem CommandCodes.revertHoldExpiry a b :
    CommandCodes.Statement (.revertHoldExpiry a b) := CommandCodes.of_none rfl
theorem CommandCodes.irigFrameRx a b c d e :
    CommandCodes.Statement (.irigFrameRx a b c d e) := CommandCodes.of_none rfl
theorem CommandCodes.irigError a :
    CommandCodes.Statement (.irigError a) := CommandCodes.of_none rfl
theorem CommandCodes.step a b c :
    CommandCodes.Statement (.step a b c) := CommandCodes.of_pf0 _ _ _ rfl (by decide) (by decide) (by decide) (by decide)
theorem CommandCodes.stepApply a :
    CommandCodes.Statement (.stepApply a) := CommandCodes.of_none rfl
theorem CommandCodes.selectDomain a b c :
    CommandCodes.Statement (.selectDomain a b c) := CommandCodes.of_pf0 _ _ _ rfl (by decide) (by decide) (by decide) (by decide)
theorem CommandCodes.asymMeasure a b c :
    CommandCodes.Statement (.asymMeasure a b c) := CommandCodes.of_pf0 _ _ _ rfl (by decide) (by decide) (by decide) (by decide)
theorem CommandCodes.asymDone a b c :
    CommandCodes.Statement (.asymDone a b c) := CommandCodes.of_none rfl
theorem CommandCodes.asymApply a b c :
    CommandCodes.Statement (.asymApply a b c) := CommandCodes.of_pf0 _ _ _ rfl (by decide) (by decide) (by decide) (by decide)
theorem CommandCodes.asymKeep a b c :
    CommandCodes.Statement (.asymKeep a b c) := CommandCodes.of_pf0 _ _ _ rfl (by decide) (by decide) (by decide) (by decide)
theorem CommandCodes.secondBoundary a :
    CommandCodes.Statement (.secondBoundary a) := CommandCodes.of_none rfl
theorem CommandCodes.ppsRise a :
    CommandCodes.Statement (.ppsRise a) := CommandCodes.of_none rfl
theorem CommandCodes.ppsFall a :
    CommandCodes.Statement (.ppsFall a) := CommandCodes.of_none rfl
theorem CommandCodes.tsCaptured a b :
    CommandCodes.Statement (.tsCaptured a b) := CommandCodes.of_none rfl
theorem CommandCodes.svFrameRx a b :
    CommandCodes.Statement (.svFrameRx a b) := CommandCodes.of_none rfl
theorem CommandCodes.sampleDeadline a b :
    CommandCodes.Statement (.sampleDeadline a b) := CommandCodes.of_none rfl
theorem CommandCodes.substForce a b c :
    CommandCodes.Statement (.substForce a b c) := CommandCodes.of_pf0 _ _ _ rfl (by decide) (by decide) (by decide) (by decide)
theorem CommandCodes.substForceApply a :
    CommandCodes.Statement (.substForceApply a) := CommandCodes.of_none rfl
theorem CommandCodes.substRelease a b c :
    CommandCodes.Statement (.substRelease a b c) := CommandCodes.of_pf0 _ _ _ rfl (by decide) (by decide) (by decide) (by decide)
theorem CommandCodes.substReleaseApply a :
    CommandCodes.Statement (.substReleaseApply a) := CommandCodes.of_none rfl
theorem CommandCodes.gridSampleCompute a b :
    CommandCodes.Statement (.gridSampleCompute a b) := CommandCodes.of_none rfl
theorem CommandCodes.freqEstimate a b :
    CommandCodes.Statement (.freqEstimate a b) := CommandCodes.of_none rfl
theorem CommandCodes.chainSync a b c :
    CommandCodes.Statement (.chainSync a b c) := CommandCodes.of_pf0 _ _ _ rfl (by decide) (by decide) (by decide) (by decide)
theorem CommandCodes.syncDone a :
    CommandCodes.Statement (.syncDone a) := CommandCodes.of_none rfl
theorem CommandCodes.syncLineRise a :
    CommandCodes.Statement (.syncLineRise a) := CommandCodes.of_none rfl
theorem CommandCodes.syncLineFall a :
    CommandCodes.Statement (.syncLineFall a) := CommandCodes.of_none rfl
theorem CommandCodes.chainFault a b :
    CommandCodes.Statement (.chainFault a b) := CommandCodes.of_none rfl
theorem CommandCodes.eccUncorr a b :
    CommandCodes.Statement (.eccUncorr a b) := CommandCodes.of_none rfl
theorem CommandCodes.scrub a b c :
    CommandCodes.Statement (.scrub a b c) := CommandCodes.of_pf0 _ _ _ rfl (by decide) (by decide) (by decide) (by decide)
theorem CommandCodes.scrubDone a :
    CommandCodes.Statement (.scrubDone a) := CommandCodes.of_none rfl
theorem CommandCodes.pubRepeatDue a b :
    CommandCodes.Statement (.pubRepeatDue a b) := CommandCodes.of_none rfl
theorem CommandCodes.lanternTimer a :
    CommandCodes.Statement (.lanternTimer a) := CommandCodes.of_none rfl
theorem CommandCodes.peerLanternRx a b :
    CommandCodes.Statement (.peerLanternRx a b) := CommandCodes.of_none rfl
theorem CommandCodes.peerLanternLost a :
    CommandCodes.Statement (.peerLanternLost a) := CommandCodes.of_none rfl
theorem CommandCodes.gooseRx a b :
    CommandCodes.Statement (.gooseRx a b) := CommandCodes.of_none rfl
theorem CommandCodes.subTimeout a b :
    CommandCodes.Statement (.subTimeout a b) := CommandCodes.of_none rfl
theorem CommandCodes.subRestart a b c :
    CommandCodes.Statement (.subRestart a b c) := CommandCodes.of_pf0 _ _ _ rfl (by decide) (by decide) (by decide) (by decide)
theorem CommandCodes.subRestartApply a :
    CommandCodes.Statement (.subRestartApply a) := CommandCodes.of_none rfl
theorem CommandCodes.fogTx a :
    CommandCodes.Statement (.fogTx a) := CommandCodes.of_none rfl
theorem CommandCodes.fogRx a b c :
    CommandCodes.Statement (.fogRx a b c) := CommandCodes.of_none rfl
theorem CommandCodes.fogSlotMiss a b :
    CommandCodes.Statement (.fogSlotMiss a b) := CommandCodes.of_none rfl
theorem CommandCodes.bregLaneChange a b c d :
    CommandCodes.Statement (.bregLaneChange a b c d) := CommandCodes.of_none rfl
theorem CommandCodes.partnerAbsentTimeout a :
    CommandCodes.Statement (.partnerAbsentTimeout a) := CommandCodes.of_none rfl
theorem CommandCodes.yieldRx a b :
    CommandCodes.Statement (.yieldRx a b) := CommandCodes.of_none rfl
theorem CommandCodes.takeover a :
    CommandCodes.Statement (.takeover a) := CommandCodes.of_none rfl
theorem CommandCodes.digestRx a b :
    CommandCodes.Statement (.digestRx a b) := CommandCodes.of_none rfl
theorem CommandCodes.pubMirrorRx a b :
    CommandCodes.Statement (.pubMirrorRx a b) := CommandCodes.of_none rfl
theorem CommandCodes.ctrlReqRx a b :
    CommandCodes.Statement (.ctrlReqRx a b) := CommandCodes.of_none rfl
theorem CommandCodes.ctrlGrantRx a b :
    CommandCodes.Statement (.ctrlGrantRx a b) := CommandCodes.of_none rfl
theorem CommandCodes.ctrlConfirmRx a b :
    CommandCodes.Statement (.ctrlConfirmRx a b) := CommandCodes.of_none rfl
theorem CommandCodes.ctrlAbortRx a b :
    CommandCodes.Statement (.ctrlAbortRx a b) := CommandCodes.of_none rfl
theorem CommandCodes.ctrlDeadline a :
    CommandCodes.Statement (.ctrlDeadline a) := CommandCodes.of_none rfl
theorem CommandCodes.handbackHoldExpiry a :
    CommandCodes.Statement (.handbackHoldExpiry a) := CommandCodes.of_none rfl
theorem CommandCodes.pairStartInitiate a :
    CommandCodes.Statement (.pairStartInitiate a) := CommandCodes.of_none rfl
theorem CommandCodes.soloWaitExpiry a :
    CommandCodes.Statement (.soloWaitExpiry a) := CommandCodes.of_none rfl
theorem CommandCodes.alignInitiate a :
    CommandCodes.Statement (.alignInitiate a) := CommandCodes.of_none rfl
theorem CommandCodes.alignReqRx a b c d :
    CommandCodes.Statement (.alignReqRx a b c d) := CommandCodes.of_none rfl
theorem CommandCodes.alignPlanRx a b c :
    CommandCodes.Statement (.alignPlanRx a b c) := CommandCodes.of_none rfl
theorem CommandCodes.alignDataRx a b c :
    CommandCodes.Statement (.alignDataRx a b c) := CommandCodes.of_none rfl
theorem CommandCodes.alignFrameReached a :
    CommandCodes.Statement (.alignFrameReached a) := CommandCodes.of_none rfl
theorem CommandCodes.bulkRx a b c :
    CommandCodes.Statement (.bulkRx a b c) := CommandCodes.of_none rfl
theorem CommandCodes.align a b c :
    CommandCodes.Statement (.align a b c) := CommandCodes.of_pf0 _ _ _ rfl (by decide) (by decide) (by decide) (by decide)
theorem CommandCodes.handbackNow a b c :
    CommandCodes.Statement (.handbackNow a b c) := CommandCodes.of_pf0 _ _ _ rfl (by decide) (by decide) (by decide) (by decide)
theorem CommandCodes.hbInhibit a b c :
    CommandCodes.Statement (.hbInhibit a b c) := CommandCodes.of_pf0 _ _ _ rfl (by decide) (by decide) (by decide) (by decide)
theorem CommandCodes.divergeClear a b c :
    CommandCodes.Statement (.divergeClear a b c) := CommandCodes.of_pf0 _ _ _ rfl (by decide) (by decide) (by decide) (by decide)
theorem CommandCodes.generate a b c :
    CommandCodes.Statement (.generate a b c) := CommandCodes.of_pf0 _ _ _ rfl (by decide) (by decide) (by decide) (by decide)
theorem CommandCodes.lmpImport a b c d :
    CommandCodes.Statement (.lmpImport a b c d) := CommandCodes.of_pf0 _ _ _ rfl (by decide) (by decide) (by decide) (by decide)
theorem CommandCodes.lmpUpdate a b c d :
    CommandCodes.Statement (.lmpUpdate a b c d) := CommandCodes.of_pf0 _ _ _ rfl (by decide) (by decide) (by decide) (by decide)
theorem CommandCodes.lmpClear a b c :
    CommandCodes.Statement (.lmpClear a b c) := CommandCodes.of_pf0 _ _ _ rfl (by decide) (by decide) (by decide) (by decide)
theorem CommandCodes.keyReplaceDone a b c :
    CommandCodes.Statement (.keyReplaceDone a b c) := CommandCodes.of_none rfl
theorem CommandCodes.attest a b c d :
    CommandCodes.Statement (.attest a b c d) := CommandCodes.of_pf0 _ _ _ rfl (by decide) (by decide) (by decide) (by decide)
theorem CommandCodes.readPublic a b c :
    CommandCodes.Statement (.readPublic a b c) := CommandCodes.of_pf0 _ _ _ rfl (by decide) (by decide) (by decide) (by decide)
theorem CommandCodes.readCert a b c :
    CommandCodes.Statement (.readCert a b c) := CommandCodes.of_pf0 _ _ _ rfl (by decide) (by decide) (by decide) (by decide)
theorem CommandCodes.storeCert a b c d :
    CommandCodes.Statement (.storeCert a b c d) := CommandCodes.of_pf0 _ _ _ rfl (by decide) (by decide) (by decide) (by decide)
theorem CommandCodes.operate a b c d :
    CommandCodes.Statement (.operate a b c d) := CommandCodes.of_pf0 _ _ _ rfl (by decide) (by decide) (by decide) (by decide)
theorem CommandCodes.lmpOperationDone a :
    CommandCodes.Statement (.lmpOperationDone a) := CommandCodes.of_none rfl
theorem CommandCodes.provision a b c d :
    CommandCodes.Statement (.provision a b c d) := CommandCodes.of_pf0 _ _ _ rfl (by decide) (by decide) (by decide) (by decide)
theorem CommandCodes.deploy a b c :
    CommandCodes.Statement (.deploy a b c) := CommandCodes.of_pf0 _ _ _ rfl (by decide) (by decide) (by decide) (by decide)
theorem CommandCodes.slotIntegrityPass a b :
    CommandCodes.Statement (.slotIntegrityPass a b) := CommandCodes.of_none rfl
theorem CommandCodes.factoryManufacture a b c d e :
    CommandCodes.Statement (.factoryManufacture a b c d e) := CommandCodes.of_none rfl
theorem CommandCodes.arm a b c :
    CommandCodes.Statement (.arm a b c) := CommandCodes.of_pf0 _ _ _ rfl (by decide) (by decide) (by decide) (by decide)
theorem CommandCodes.disarm a b c :
    CommandCodes.Statement (.disarm a b c) := CommandCodes.of_pf0 _ _ _ rfl (by decide) (by decide) (by decide) (by decide)
theorem CommandCodes.trigger a b c :
    CommandCodes.Statement (.trigger a b c) := CommandCodes.of_pf0 _ _ _ rfl (by decide) (by decide) (by decide) (by decide)
theorem CommandCodes.triggerApply a :
    CommandCodes.Statement (.triggerApply a) := CommandCodes.of_none rfl
theorem CommandCodes.release a b c :
    CommandCodes.Statement (.release a b c) := CommandCodes.of_pf0 _ _ _ rfl (by decide) (by decide) (by decide) (by decide)
theorem CommandCodes.copy a b c :
    CommandCodes.Statement (.copy a b c) := CommandCodes.of_pf0 _ _ _ rfl (by decide) (by decide) (by decide) (by decide)
theorem CommandCodes.copyDone a b :
    CommandCodes.Statement (.copyDone a b) := CommandCodes.of_none rfl
theorem CommandCodes.preTriggerFilled a b :
    CommandCodes.Statement (.preTriggerFilled a b) := CommandCodes.of_none rfl
theorem CommandCodes.captureEnd a b :
    CommandCodes.Statement (.captureEnd a b) := CommandCodes.of_none rfl
theorem CommandCodes.holdoffExpiry a b :
    CommandCodes.Statement (.holdoffExpiry a b) := CommandCodes.of_none rfl
theorem CommandCodes.archiveDone a :
    CommandCodes.Statement (.archiveDone a) := CommandCodes.of_none rfl
theorem CommandCodes.logRecordAccept a :
    CommandCodes.Statement (.logRecordAccept a) := CommandCodes.of_none rfl
theorem CommandCodes.criticalNvmWrite a b :
    CommandCodes.Statement (.criticalNvmWrite a b) := CommandCodes.of_none rfl
theorem CommandCodes.logFreeze a b c :
    CommandCodes.Statement (.logFreeze a b c) := CommandCodes.of_pf0 _ _ _ rfl (by decide) (by decide) (by decide) (by decide)
theorem CommandCodes.logUnfreeze a b c :
    CommandCodes.Statement (.logUnfreeze a b c) := CommandCodes.of_pf0 _ _ _ rfl (by decide) (by decide) (by decide) (by decide)
theorem CommandCodes.freezeTimeout a :
    CommandCodes.Statement (.freezeTimeout a) := CommandCodes.of_none rfl
theorem CommandCodes.holdDrainDone a :
    CommandCodes.Statement (.holdDrainDone a) := CommandCodes.of_none rfl
theorem CommandCodes.clearArm a b c d :
    CommandCodes.Statement (.clearArm a b c d) := CommandCodes.of_pf0 _ _ _ rfl (by decide) (by decide) (by decide) (by decide)
theorem CommandCodes.clearConfirm a b c d :
    CommandCodes.Statement (.clearConfirm a b c d) := CommandCodes.of_pf0 _ _ _ rfl (by decide) (by decide) (by decide) (by decide)
theorem CommandCodes.clearArmExpiry a :
    CommandCodes.Statement (.clearArmExpiry a) := CommandCodes.of_none rfl
theorem CommandCodes.pcieLinkDown a :
    CommandCodes.Statement (.pcieLinkDown a) := CommandCodes.of_none rfl
theorem CommandCodes.pcieLinkUp a b c :
    CommandCodes.Statement (.pcieLinkUp a b c) := CommandCodes.of_none rfl
theorem CommandCodes.vfEnableChange a b c :
    CommandCodes.Statement (.vfEnableChange a b c) := CommandCodes.of_none rfl
theorem CommandCodes.pcieFlr a b :
    CommandCodes.Statement (.pcieFlr a b) := CommandCodes.of_none rfl
theorem CommandCodes.flrDone a b :
    CommandCodes.Statement (.flrDone a b) := CommandCodes.of_none rfl
theorem CommandCodes.hostTxFrame a b c d :
    CommandCodes.Statement (.hostTxFrame a b c d) := CommandCodes.of_none rfl
theorem CommandCodes.hostRxFrame a b c d e f g h :
    CommandCodes.Statement (.hostRxFrame a b c d e f g h) := CommandCodes.of_none rfl
theorem CommandCodes.itrExpiry a b :
    CommandCodes.Statement (.itrExpiry a b) := CommandCodes.of_none rfl
theorem CommandCodes.dmaFault a b :
    CommandCodes.Statement (.dmaFault a b) := CommandCodes.of_none rfl
theorem CommandCodes.queueAssign a b c :
    CommandCodes.Statement (.queueAssign a b c) := CommandCodes.of_pf0 _ _ _ rfl (by decide) (by decide) (by decide) (by decide)
theorem CommandCodes.vectorAssign a b c :
    CommandCodes.Statement (.vectorAssign a b c) := CommandCodes.of_pf0 _ _ _ rfl (by decide) (by decide) (by decide) (by decide)
theorem CommandCodes.windowSet a b c :
    CommandCodes.Statement (.windowSet a b c) := CommandCodes.of_pf0 _ _ _ rfl (by decide) (by decide) (by decide) (by decide)
theorem CommandCodes.windowSetApply a :
    CommandCodes.Statement (.windowSetApply a) := CommandCodes.of_none rfl
theorem CommandCodes.shareSet a b c :
    CommandCodes.Statement (.shareSet a b c) := CommandCodes.of_pf0 _ _ _ rfl (by decide) (by decide) (by decide) (by decide)
theorem CommandCodes.shareSetApply a :
    CommandCodes.Statement (.shareSetApply a) := CommandCodes.of_none rfl
theorem CommandCodes.mbxBind a b c :
    CommandCodes.Statement (.mbxBind a b c) := CommandCodes.of_pf0 _ _ _ rfl (by decide) (by decide) (by decide) (by decide)
theorem CommandCodes.classifierSet a b c d :
    CommandCodes.Statement (.classifierSet a b c d) := CommandCodes.of_pf0 _ _ _ rfl (by decide) (by decide) (by decide) (by decide)
theorem CommandCodes.grantSet a b c :
    CommandCodes.Statement (.grantSet a b c) := CommandCodes.of_pf0 _ _ _ rfl (by decide) (by decide) (by decide) (by decide)
theorem CommandCodes.attachSet a b c :
    CommandCodes.Statement (.attachSet a b c) := CommandCodes.of_pf0 _ _ _ rfl (by decide) (by decide) (by decide) (by decide)
theorem CommandCodes.vfReset a b c :
    CommandCodes.Statement (.vfReset a b c) := CommandCodes.of_pf0 _ _ _ rfl (by decide) (by decide) (by decide) (by decide)
theorem CommandCodes.queueEnable a b c d :
    CommandCodes.Statement (.queueEnable a b c d) := CommandCodes.of_vf b _ _ rfl (by decide) (by decide)
theorem CommandCodes.queueDisable a b c d :
    CommandCodes.Statement (.queueDisable a b c d) := CommandCodes.of_vf b _ _ rfl (by decide) (by decide)
theorem CommandCodes.queueIdle a b :
    CommandCodes.Statement (.queueIdle a b) := CommandCodes.of_none rfl
theorem CommandCodes.guestLoad a b c d e :
    CommandCodes.Statement (.guestLoad a b c d e) := CommandCodes.of_vf b _ _ rfl (by decide) (by decide)
theorem CommandCodes.guestPlace a :
    CommandCodes.Statement (.guestPlace a) := CommandCodes.of_none rfl
theorem CommandCodes.guestUnload a b c d :
    CommandCodes.Statement (.guestUnload a b c d) := CommandCodes.of_vf b _ _ rfl (by decide) (by decide)
theorem CommandCodes.guestRestart a b c d :
    CommandCodes.Statement (.guestRestart a b c d) := CommandCodes.of_vf b _ _ rfl (by decide) (by decide)
theorem CommandCodes.galCopy a b c d :
    CommandCodes.Statement (.galCopy a b c d) := CommandCodes.of_vf b _ _ rfl (by decide) (by decide)
theorem CommandCodes.carrierPeriodBoundary a b :
    CommandCodes.Statement (.carrierPeriodBoundary a b) := CommandCodes.of_none rfl
theorem CommandCodes.riseCompare a b :
    CommandCodes.Statement (.riseCompare a b) := CommandCodes.of_none rfl
theorem CommandCodes.fallCompare a b :
    CommandCodes.Statement (.fallCompare a b) := CommandCodes.of_none rfl
theorem CommandCodes.deadTimeExpiry a b :
    CommandCodes.Statement (.deadTimeExpiry a b) := CommandCodes.of_none rfl
theorem CommandCodes.blankExpiry a b :
    CommandCodes.Statement (.blankExpiry a b) := CommandCodes.of_none rfl
theorem CommandCodes.pullinExpiry a b :
    CommandCodes.Statement (.pullinExpiry a b) := CommandCodes.of_none rfl
theorem CommandCodes.ocTrip a b c :
    CommandCodes.Statement (.ocTrip a b c) := CommandCodes.of_none rfl
theorem CommandCodes.supMeasure a b c d :
    CommandCodes.Statement (.supMeasure a b c d) := CommandCodes.of_none rfl
theorem CommandCodes.supResume a b :
    CommandCodes.Statement (.supResume a b) := CommandCodes.of_none rfl
theorem CommandCodes.ocClear a b c :
    CommandCodes.Statement (.ocClear a b c) := CommandCodes.of_pf0 _ _ _ rfl (by decide) (by decide) (by decide) (by decide)
theorem CommandCodes.inputChangeAccepted a b :
    CommandCodes.Statement (.inputChangeAccepted a b) := CommandCodes.of_none rfl
theorem CommandCodes.canFrameRx a b c d e f g :
    CommandCodes.Statement (.canFrameRx a b c d e f g) := CommandCodes.of_none rfl
theorem CommandCodes.canTxComplete a b c d e :
    CommandCodes.Statement (.canTxComplete a b c d e) := CommandCodes.of_none rfl
theorem CommandCodes.canBusError a b c d e :
    CommandCodes.Statement (.canBusError a b c d e) := CommandCodes.of_none rfl
theorem CommandCodes.busOffRecovered a b :
    CommandCodes.Statement (.busOffRecovered a b) := CommandCodes.of_none rfl
theorem CommandCodes.canMapTimeout a b c :
    CommandCodes.Statement (.canMapTimeout a b c) := CommandCodes.of_none rfl
theorem CommandCodes.abdCandidateTimeout a b :
    CommandCodes.Statement (.abdCandidateTimeout a b) := CommandCodes.of_none rfl
theorem CommandCodes.recover a b c d :
    CommandCodes.Statement (.recover a b c d) := CommandCodes.of_pf0 _ _ _ rfl (by decide) (by decide) (by revert b; decide) (by revert b; decide)
theorem CommandCodes.abortTx a b c d :
    CommandCodes.Statement (.abortTx a b c d) := CommandCodes.of_pf0 _ _ _ rfl (by decide) (by decide) (by revert b; decide) (by revert b; decide)
theorem CommandCodes.abdStart a b c d :
    CommandCodes.Statement (.abdStart a b c d) := CommandCodes.of_pf0 _ _ _ rfl (by decide) (by decide) (by revert b; decide) (by revert b; decide)
theorem CommandCodes.listen a b c d :
    CommandCodes.Statement (.listen a b c d) := CommandCodes.of_pf0 _ _ _ rfl (by decide) (by decide) (by revert b; decide) (by revert b; decide)
theorem CommandCodes.listenApply a b :
    CommandCodes.Statement (.listenApply a b) := CommandCodes.of_none rfl
theorem CommandCodes.snapshot a b c :
    CommandCodes.Statement (.snapshot a b c) := CommandCodes.of_pf0 _ _ _ rfl (by decide) (by decide) (by decide) (by decide)
theorem CommandCodes.snapshotDone a :
    CommandCodes.Statement (.snapshotDone a) := CommandCodes.of_none rfl
theorem CommandCodes.prfFreeze a b c :
    CommandCodes.Statement (.prfFreeze a b c) := CommandCodes.of_pf0 _ _ _ rfl (by decide) (by decide) (by decide) (by decide)
theorem CommandCodes.prfUnfreeze a b c :
    CommandCodes.Statement (.prfUnfreeze a b c) := CommandCodes.of_pf0 _ _ _ rfl (by decide) (by decide) (by decide) (by decide)
theorem CommandCodes.prfClear a b c :
    CommandCodes.Statement (.prfClear a b c) := CommandCodes.of_pf0 _ _ _ rfl (by decide) (by decide) (by decide) (by decide)
theorem CommandCodes.msiMessageSend a :
    CommandCodes.Statement (.msiMessageSend a) := CommandCodes.of_none rfl
theorem CommandCodes.msixUnmask a b c d e :
    CommandCodes.Statement (.msixUnmask a b c d e) := CommandCodes.of_none rfl
theorem CommandCodes.resend a b c :
    CommandCodes.Statement (.resend a b c) := CommandCodes.of_pf0 _ _ _ rfl (by decide) (by decide) (by decide) (by decide)
theorem CommandCodes.inputLevelChange a b c :
    CommandCodes.Statement (.inputLevelChange a b c) := CommandCodes.of_none rfl
theorem CommandCodes.backgroundScrub a b :
    CommandCodes.Statement (.backgroundScrub a b) := CommandCodes.of_none rfl

end Sys2Proof.Laws
end

