-- ==== Sys2Proof/WellFormed.lean ====
section
/-!
DEFINITION. Well-formed commands: what the operand types of a command do not say by themselves.
-/

namespace Sys2Proof

/-- An access lies at an aligned address of PF0's 64 MiB map, or of the virtual function's 64 KiB BAR (R9, R471,
R472). -/
def accessWf (q : Requester) (a : Nat) : Bool :=
  decide (a % 4 = 0) &&
    (match q with
      | .vf _ => decide (a < 0x10000)
      | _ => decide (a < 0x4000000))

/-- An argument buffer is no longer than its command reads. -/
def bufWf (b : List Byte) (n : Nat) : Bool := decide (b.length ≤ n)

/-- A frame's addresses, tags and EtherType fit their fields. -/
def frameWf (f : Frame) : Bool :=
  decide (f.dst < 2 ^ 48) && decide (f.src < 2 ^ 48) && f.vlans.all (fun v => decide (v < 65536)) &&
    decide (f.etherType < 65536) &&
    (match f.red with
      | none => true
      | some t => decide (t.lan < 16) && decide (t.seq < 65536))

/-- A Bregrari message is no longer than its header, the longest payload and its CRC (R310). -/
def bregWf (m : List Byte) : Bool := decide (m.length ≤ 16 + 65535 + 4)

/-- A sampled-value frame's fields fit. -/
def svWf (f : SvFrame) : Bool :=
  decide (f.dst < 2 ^ 48) && decide (f.src < 2 ^ 48) && decide (f.appid < 65536) &&
    f.asdus.all (fun a => decide (a.smpCnt < 65536) && decide (a.confRev < 2 ^ 32) && decide (a.smpSynch < 256))

/-- A GOOSE message's fields fit. -/
def gooseWf (m : GooseMsg) : Bool :=
  decide (m.dst < 2 ^ 48) && decide (m.src < 2 ^ 48) && decide (m.appid < 65536) && decide (m.stNum < 2 ^ 32) &&
    decide (m.sqNum < 2 ^ 32) && decide (m.confRev < 2 ^ 32)

/-- A well-formed command. -/
def Instr.wf (i : Instr) : Bool :=
  match i with
  | .registerWrite _ q a _ _ buf => accessWf q a && bufWf buf 131104
  | .partialWrite _ q a be => accessWf q a && decide (be ≠ 15)
  | .rcCounterRead _ q a => accessWf q a
  | .bcnTimeNsRead _ _ => true
  | .bcnRateLoRead _ => true
  | .vfTimeNsRead _ _ => true
  | .prfValueLoRead _ _ _ => true
  | .binInTs32Read _ _ _ => true
  | .logWindowLastRead _ _ => true
  | .plnWindowWrite _ _ _ => true
  | .mbxStateRead _ _ _ => true
  | .mbxStateWrite _ _ _ _ => true
  | .cdvFallShWrite _ _ _ => true
  | .cdvPeriodShWrite _ _ _ => true
  | .bcnTsArmWrite _ _ => true
  | .canTxReqWrite _ _ _ => true
  | .txTailWrite _ _ _ => true
  | .rxTailWrite _ _ _ => true
  | .latchClosed _ => true
  | .supplyOn _ => true
  | .prechargeComplete _ => true
  | .prechargeFail _ => true
  | .prechargeRetry _ _ => true
  | .bootStageComplete _ _ => true
  | .imageLoaded _ => true
  | .commissionComplete _ => true
  | .commissionTimeout _ => true
  | .enterTest _ _ _ => true
  | .exitTest _ _ _ => true
  | .enterMaintenance _ _ _ => true
  | .exitMaintenance _ _ _ => true
  | .leaveCommission _ _ _ => true
  | .handover _ _ _ => true
  | .leaveService _ _ _ => true
  | .restart _ _ _ => true
  | .latchOpened _ => true
  | .removalQuiesced _ => true
  | .safeToRemove _ => true
  | .removalDormant _ => true
  | .blockReset _ _ _ => true
  | .blockResetDone _ => true
  | .pcieReset _ => true
  | .supplyLoss _ => true
  | .powerFailWarn _ => true
  | .holdupExpiry _ => true
  | .supplyRestored _ => true
  | .tamper _ _ => true
  | .thermalReading _ _ _ _ => true
  | .loadCandidate _ _ _ buf => bufWf buf 268435456
  | .loadDone _ _ => true
  | .reload _ _ _ => true
  | .reloadApply _ => true
  | .abandon _ _ _ => true
  | .invalidateBank _ _ _ => true
  | .setMinGen _ _ _ => true
  | .nvmStore _ _ _ => true
  | .nvmStoreDone _ _ => true
  | .settingsWrite _ _ _ => true
  | .settingsRevert _ _ _ => true
  | .settingsRead _ _ _ => true
  | .settingsApply _ => true
  | .frameTick _ => true
  | .keeperWake _ _ => true
  | .commit _ => true
  | .kgv _ _ _ => true
  | .kgm _ _ _ => true
  | .kiv _ _ _ => true
  | .kim _ _ _ => true
  | .kphr _ _ _ => true
  | .kphi _ _ _ => true
  | .kphm _ _ _ => true
  | .kgt _ _ _ => true
  | .kbin _ _ _ => true
  | .kbinw _ _ _ => true
  | .kbinq _ _ _ => true
  | .kdec _ _ _ => true
  | .kdset _ _ _ => true
  | .kdclr _ _ _ => true
  | .kdput _ _ _ => true
  | .kslw _ _ _ => true
  | .kssw _ _ _ => true
  | .kslf _ _ _ => true
  | .kssf _ _ _ => true
  | .kevt _ _ _ => true
  | .kyield _ _ _ => true
  | .kbudg _ _ _ => true
  | .kftime _ _ _ => true
  | .keeperCsrRead _ _ _ => true
  | .keeperBaseInstruction _ _ _ => true
  | .budgetExpiry _ _ => true
  | .resultMergeRelease _ _ => true
  | .lockstepMiscompare _ _ => true
  | .keeperSramEcc _ _ _ _ => true
  | .keeperReplaceApply _ => true
  | .move _ _ _ => true
  | .moveApply _ => true
  | .funcRestart _ _ _ => true
  | .funcRestartApply _ => true
  | .keeperReturn _ _ _ => true
  | .keeperSelftestDone _ _ => true
  | .macFrameRx _ _ f _ _ _ => frameWf f
  | .egressTransmit _ _ _ _ => true
  | .pfcFrameRx _ _ _ quanta => quanta.all (fun n => decide (n < 65536)) && decide (quanta.length ≤ 8)
  | .pfcPauseExpiry _ _ _ => true
  | .pfcXoffRepeat _ _ _ => true
  | .pfcWatchdog _ _ _ => true
  | .pfcWatchdogReleaseEnd _ _ _ => true
  | .linkDown _ _ part => (part.map frameWf).getD true
  | .linkUp _ _ _ _ => true
  | .holdDownExpiry _ _ => true
  | .transceiverChange _ _ _ _ _ _ => true
  | .pcsFaultChange _ _ _ _ => true
  | .utilSample1s _ _ _ => true
  | .utilSample10ms _ _ _ => true
  | .speedChangeTimeout _ _ => true
  | .t1sCollision _ _ _ _ _ => true
  | .t1sBackoffExpiry _ _ => true
  | .adminDown _ _ _ _ => true
  | .adminUp _ _ _ _ => true
  | .speedPin _ _ _ _ => true
  | .reseqTimeout _ _ _ _ => true
  | .planeFault _ _ _ => true
  | .ntEntryExpiry _ _ _ => true
  | .supervisionTx _ _ => true
  | .ntFlush _ _ _ => true
  | .planeSelect _ _ _ => true
  | .holddownEnd _ _ _ => true
  | .ptpSyncRx _ _ _ _ _ _ _ _ => true
  | .ptpAnnounceRx _ _ _ _ _ _ _ => true
  | .ptpDelayMsgRx _ _ _ _ _ => true
  | .ptpOtherMsgRx _ _ _ => true
  | .announceReceiptTimeout _ _ => true
  | .syncMissed _ _ => true
  | .ptpSyncTx _ _ _ => true
  | .ptpAnnounceTx _ _ _ => true
  | .ptpPdelayReqTx _ _ _ => true
  | .timeLost _ => true
  | .revertHoldExpiry _ _ => true
  | .irigFrameRx _ _ _ _ _ => true
  | .irigError _ => true
  | .step _ _ _ => true
  | .stepApply _ => true
  | .selectDomain _ _ _ => true
  | .asymMeasure _ _ _ => true
  | .asymDone _ _ _ => true
  | .asymApply _ _ _ => true
  | .asymKeep _ _ _ => true
  | .secondBoundary _ => true
  | .ppsRise _ => true
  | .ppsFall _ => true
  | .tsCaptured _ _ => true
  | .svFrameRx _ f => svWf f
  | .sampleDeadline _ _ => true
  | .substForce _ _ _ => true
  | .substForceApply _ => true
  | .substRelease _ _ _ => true
  | .substReleaseApply _ => true
  | .gridSampleCompute _ _ => true
  | .freqEstimate _ _ => true
  | .chainSync _ _ _ => true
  | .syncDone _ => true
  | .syncLineRise _ => true
  | .syncLineFall _ => true
  | .chainFault _ _ => true
  | .eccUncorr _ _ => true
  | .scrub _ _ _ => true
  | .scrubDone _ => true
  | .pubRepeatDue _ _ => true
  | .lanternTimer _ => true
  | .peerLanternRx _ _ => true
  | .peerLanternLost _ => true
  | .gooseRx _ m => gooseWf m
  | .subTimeout _ _ => true
  | .subRestart _ _ _ => true
  | .subRestartApply _ => true
  | .fogTx _ => true
  | .fogRx _ _ m => bregWf m
  | .fogSlotMiss _ _ => true
  | .bregLaneChange _ _ _ _ => true
  | .partnerAbsentTimeout _ => true
  | .yieldRx _ m => bregWf m
  | .takeover _ => true
  | .digestRx _ m => bregWf m
  | .pubMirrorRx _ m => bregWf m
  | .ctrlReqRx _ m => bregWf m
  | .ctrlGrantRx _ m => bregWf m
  | .ctrlConfirmRx _ m => bregWf m
  | .ctrlAbortRx _ m => bregWf m
  | .ctrlDeadline _ => true
  | .handbackHoldExpiry _ => true
  | .pairStartInitiate _ => true
  | .soloWaitExpiry _ => true
  | .alignInitiate _ => true
  | .alignReqRx _ m _ _ => bregWf m
  | .alignPlanRx _ m _ => bregWf m
  | .alignDataRx _ m _ => bregWf m
  | .alignFrameReached _ => true
  | .bulkRx _ m f => frameWf f && bregWf m
  | .align _ _ _ => true
  | .handbackNow _ _ _ => true
  | .hbInhibit _ _ _ => true
  | .divergeClear _ _ _ => true
  | .generate _ _ _ => true
  | .lmpImport _ _ _ buf => bufWf buf 4096
  | .lmpUpdate _ _ _ buf => bufWf buf 4096
  | .lmpClear _ _ _ => true
  | .keyReplaceDone _ _ _ => true
  | .attest _ _ _ buf => bufWf buf 4096
  | .readPublic _ _ _ => true
  | .readCert _ _ _ => true
  | .storeCert _ _ _ buf => bufWf buf 4096
  | .operate _ _ _ buf => bufWf buf 4096
  | .lmpOperationDone _ => true
  | .provision _ _ _ buf => bufWf buf 4096
  | .deploy _ _ _ => true
  | .slotIntegrityPass _ _ => true
  | .factoryManufacture _ _ _ _ _ => true
  | .arm _ _ _ => true
  | .disarm _ _ _ => true
  | .trigger _ _ _ => true
  | .triggerApply _ => true
  | .release _ _ _ => true
  | .copy _ _ _ => true
  | .copyDone _ _ => true
  | .preTriggerFilled _ _ => true
  | .captureEnd _ _ => true
  | .holdoffExpiry _ _ => true
  | .archiveDone _ => true
  | .logRecordAccept _ => true
  | .criticalNvmWrite _ _ => true
  | .logFreeze _ _ _ => true
  | .logUnfreeze _ _ _ => true
  | .freezeTimeout _ => true
  | .holdDrainDone _ => true
  | .clearArm _ _ _ _ => true
  | .clearConfirm _ _ _ _ => true
  | .clearArmExpiry _ => true
  | .pcieLinkDown _ => true
  | .pcieLinkUp _ _ _ => true
  | .vfEnableChange _ _ _ => true
  | .pcieFlr _ _ => true
  | .flrDone _ _ => true
  | .hostTxFrame _ _ descs f => frameWf f && !descs.isEmpty
  | .hostRxFrame _ _ f _ _ _ _ _ => frameWf f
  | .itrExpiry _ _ => true
  | .dmaFault _ _ => true
  | .queueAssign _ _ _ => true
  | .vectorAssign _ _ _ => true
  | .windowSet _ _ _ => true
  | .windowSetApply _ => true
  | .shareSet _ _ _ => true
  | .shareSetApply _ => true
  | .mbxBind _ _ _ => true
  | .classifierSet _ _ _ buf => bufWf buf 4096
  | .grantSet _ _ _ => true
  | .attachSet _ _ _ => true
  | .vfReset _ _ _ => true
  | .queueEnable _ _ _ _ => true
  | .queueDisable _ _ _ _ => true
  | .queueIdle _ _ => true
  | .guestLoad _ _ _ _ buf => bufWf buf 131104
  | .guestPlace _ => true
  | .guestUnload _ _ _ _ => true
  | .guestRestart _ _ _ _ => true
  | .galCopy _ _ _ _ => true
  | .carrierPeriodBoundary _ _ => true
  | .riseCompare _ _ => true
  | .fallCompare _ _ => true
  | .deadTimeExpiry _ _ => true
  | .blankExpiry _ _ => true
  | .pullinExpiry _ _ => true
  | .ocTrip _ _ _ => true
  | .supMeasure _ _ _ _ => true
  | .supResume _ _ => true
  | .ocClear _ _ _ => true
  | .inputChangeAccepted _ _ => true
  | .canFrameRx _ _ _ _ _ data _ => decide (data.length ≤ 64)
  | .canTxComplete _ _ _ _ _ => true
  | .canBusError _ _ _ _ _ => true
  | .busOffRecovered _ _ => true
  | .canMapTimeout _ _ _ => true
  | .abdCandidateTimeout _ _ => true
  | .recover _ _ _ _ => true
  | .abortTx _ _ _ _ => true
  | .abdStart _ _ _ _ => true
  | .listen _ _ _ _ => true
  | .listenApply _ _ => true
  | .snapshot _ _ _ => true
  | .snapshotDone _ => true
  | .prfFreeze _ _ _ => true
  | .prfUnfreeze _ _ _ => true
  | .prfClear _ _ _ => true
  | .msiMessageSend _ => true
  | .msixUnmask _ _ _ _ _ => true
  | .resend _ _ _ => true
  | .inputLevelChange _ _ _ => true
  | .backgroundScrub _ _ => true

end Sys2Proof
end

