-- ==== Sys2Proof/Tests/Slice0.lean ====
section
/-!
SUPPORT. Tests of the model's own: an ill-formed command for each check of WellFormed.lean, values of the spec's tables,
and, for each obligation with hypotheses, concrete states and operands that meet the hypotheses of each of its clauses
(theorem hyps_<name of the obligation>; a clause whose hypotheses also stand inside an answer has them joined). One
clause has no such state here: in BootStagesFollowEachOther, a bank that verifies, since what a signature verifies to is
free (log entry 15).
-/

namespace Sys2Proof.Tests

open Sys2Proof Sys2Proof.Machine

set_option Elab.async false

/-- A list of `n` zero bytes with some bytes replaced. -/
def bytesWith (n : Nat) (l : List (Nat × Byte)) : List Byte :=
  (List.range n).map (fun i => (l.find? (fun e => e.1 == i)).elim 0 (·.2))

/-- A section of a test image. -/
def sec (typ inst : Nat) (body : List Byte) : Section :=
  { typ := typ, inst := inst, flags := 0, cver := 1, gen := 1, digest := [], body := body }

/-- A module in a mode, with a running image of some sections. -/
def mk (m : Mode) (l : List Section) : State :=
  { glb := { mode := m, prev := .boot, bootStage := 0, moduleId := 0x11, idValid := true }
    img := { run := some { fmt := 1, flags := 0, gen := 3, sections := l }, loaded := true }
    time := { mono := 10 * 2 ^ 16 * 1000000000, station := 10 * 2 ^ 16 * 1000000000, stepped := true } }

/-- A decidable form of `State.BregIn`. -/
theorem bregIn_of {s : State} {typ frame : Nat} {m b : List Byte}
    (h : s.pairOn = true ∧ s.bregOk m = true ∧ byteAt m 0 = typ ∧ leAt m 0x0C 4 = frame ∧ slice m 16 (leAt m 2 2) = b) :
    s.BregIn typ m frame b :=
  ⟨h.1, h.2.1, h.2.2.1, h.2.2.2.1, h.2.2.2.2⟩

/-! ### Well-formedness: one ill-formed command for each check -/

/-- A plain frame. -/
def frame0 : Frame := { dst := 1, src := 2, vlans := [], etherType := 0x800, payload := [], red := none }

/-- A plain sampled-value frame. -/
def sv0 : SvFrame :=
  { dst := 1, src := 2, appid := 0x4000, sim := false, wellFormed := true, unsupported := false, tag := none,
    red := none, asdus := [{ svId := [], smpCnt := 0, confRev := 1, smpSynch := 2, smpRate := none, data := [] }],
    ago := 0 }

/-- A plain GOOSE message. -/
def goose0 : GooseMsg :=
  { dst := 1, src := 2, appid := 0, routable := false, destIp := 0, edition := 2, sim := false, wellFormed := true,
    tag := none, red := none, gocbRef := [], ttl := 10, stNum := 1, sqNum := 0, test := false, confRev := 1,
    ndsCom := false, entries := 0, data := [], ago := 0 }

theorem test_wf_access :
    (Instr.registerWrite 0 .pf0 0x3FFFFFC 0 0 []).wf = true ∧ (Instr.registerWrite 0 .pf0 0x4000000 0 0 []).wf = false ∧
    (Instr.registerWrite 0 .pf0 2 0 0 []).wf = false ∧ (Instr.rcCounterRead 0 (.vf 1) 0xFFFC).wf = true ∧
    (Instr.rcCounterRead 0 (.vf 1) 0x10000).wf = false ∧ (Instr.partialWrite 0 (.core 0) 4 15).wf = false := by decide

theorem test_wf_frame :
    frameWf frame0 = true ∧ frameWf { frame0 with dst := 2 ^ 48 } = false ∧
    frameWf { frame0 with src := 2 ^ 48 } = false ∧ frameWf { frame0 with vlans := [65536] } = false ∧
    frameWf { frame0 with etherType := 65536 } = false ∧
    frameWf { frame0 with red := some { hsr := true, lan := 16, seq := 0 } } = false ∧
    frameWf { frame0 with red := some { hsr := true, lan := 0, seq := 65536 } } = false ∧
    (Instr.macFrameRx 0 0 { frame0 with dst := 2 ^ 48 } 64 .none 0).wf = false ∧
    (Instr.linkDown 0 0 (some { frame0 with dst := 2 ^ 48 })).wf = false ∧
    (Instr.bulkRx 0 [] { frame0 with dst := 2 ^ 48 }).wf = false := by decide

theorem test_wf_sampled_values :
    svWf sv0 = true ∧ svWf { sv0 with dst := 2 ^ 48 } = false ∧ svWf { sv0 with src := 2 ^ 48 } = false ∧
    svWf { sv0 with appid := 65536 } = false ∧
    svWf { sv0 with asdus := sv0.asdus.map (fun a => { a with smpCnt := 65536 }) } = false ∧
    svWf { sv0 with asdus := sv0.asdus.map (fun a => { a with confRev := 2 ^ 32 }) } = false ∧
    svWf { sv0 with asdus := sv0.asdus.map (fun a => { a with smpSynch := 256 }) } = false ∧
    (Instr.svFrameRx 0 { sv0 with appid := 65536 }).wf = false := by decide

theorem test_wf_goose :
    gooseWf goose0 = true ∧ gooseWf { goose0 with dst := 2 ^ 48 } = false ∧
    gooseWf { goose0 with src := 2 ^ 48 } = false ∧ gooseWf { goose0 with appid := 65536 } = false ∧
    gooseWf { goose0 with stNum := 2 ^ 32 } = false ∧ gooseWf { goose0 with sqNum := 2 ^ 32 } = false ∧
    gooseWf { goose0 with confRev := 2 ^ 32 } = false ∧
    (Instr.gooseRx 0 { goose0 with stNum := 2 ^ 32 }).wf = false := by decide

/-- A list of zeros is refused where it is longer than its check allows. -/
theorem test_wf_lengths :
    (Instr.loadCandidate 0 0 0 []).wf = true ∧
    (∀ n, n = 268435457 → (Instr.loadCandidate 0 0 0 (List.replicate n 0)).wf = false) ∧
    (∀ n, n = 131105 → (Instr.registerWrite 0 .pf0 0 0 0 (List.replicate n 0)).wf = false) ∧
    (∀ n, n = 131105 → (Instr.guestLoad 0 1 0 0 (List.replicate n 0)).wf = false) ∧
    (∀ n, n = 4097 → (Instr.operate 0 0 0 (List.replicate n 0)).wf = false) ∧
    (∀ n, n = 4097 → (Instr.classifierSet 0 0 0 (List.replicate n 0)).wf = false) ∧
    (∀ n, n = 65556 → (Instr.fogRx 0 0 (List.replicate n 0)).wf = false) := by
  refine ⟨rfl, ?_, ?_, ?_, ?_, ?_, ?_⟩ <;> intro n h <;>
    simp only [Instr.wf, bufWf, bregWf, List.length_replicate] <;> subst h <;> decide

theorem test_wf_can_data : (Instr.canFrameRx 0 0 0 false 0 (List.replicate 65 0) 0).wf = false := by decide

theorem test_wf_lists :
    (Instr.pfcFrameRx 0 0 none [65535]).wf = true ∧ (Instr.pfcFrameRx 0 0 none [65536]).wf = false ∧
    (Instr.pfcFrameRx 0 0 none [0, 0, 0, 0, 0, 0, 0, 0, 0]).wf = false ∧
    (Instr.hostTxFrame 0 0 [] frame0).wf = false := by decide

/-! ### Words of the table, and the queue -/

/-- No row of the table has bits, so no word spells a command, and none is put into the queue. -/
theorem test_no_word : decodeTableWord 32 0xFFFFFFFF = none ∧ decodeTableWord 0 0 = none ∧
    (State.reset.withFetchWord 8 1).pending = [] := by decide

/-- A step takes the command at the front of the queue. -/
theorem test_step_takes_front :
    ∃ t, step { State.reset with pending := [.supplyLoss 0, .supplyOn 0] } = .next t ∧ t.pending = [.supplyOn 0] :=
  ⟨_, rfl, by decide +kernel⟩

/-! ### Values of the spec's tables -/

/-- GLB_ID reads 0x4F41_4353, "SCAO" (R3). -/
theorem test_id : State.reset.regRead .pf0 0 = 0x4F414353 := by decide +kernel

/-- The check value of CRC-32 of IEEE 802.3: "123456789" gives 0xCBF4_3926. -/
theorem test_crc32 : crc32 [0x31, 0x32, 0x33, 0x34, 0x35, 0x36, 0x37, 0x38, 0x39] = 0xCBF43926#32 := by decide +kernel

/-- Binary32 arithmetic rounds to nearest, ties to even (IEEE 754): 1 + 2^-24 is 1. -/
theorem test_binary32 : (f32.add .rne 0x3F800000 0x33800000).1 = 0x3F800000 ∧
    (f32.add .rne 0x3F800001 0x33800000).1 = 0x3F800002 := by decide +kernel

/-- The digest of "abc" in FIPS 180-4. -/
theorem test_sha256 : (sha256 [0x61, 0x62, 0x63]).take 8 = [0xba, 0x78, 0x16, 0xbf, 0x8f, 0x01, 0xcf, 0xea] := by
  decide +kernel

/-- TS32 wraps every 4.294967296 s (R85). -/
theorem test_ts32 : ts32Of (4 * secUnit + 294967295 * nsUnit) = 0xFFFFFFFF ∧
    ts32Of (4 * secUnit + 294967296 * nsUnit) = 0 := by decide +kernel

/-- SEQ of a mailbox wraps from 255 to 1 (R413). -/
theorem test_mailbox_wrap :
    (({ mk .active [] with hst := { mboxes := [(3, { seq := 255 })] } }).mboxResult 3 7).mbox 3 =
      { seq := 1, value := 7, ready := true } := by decide +kernel

/-- RESTART from DEGRADED enters BOOT with cause 0x09, Command (R31, R55, R504). -/
theorem test_restart : ∃ t, exec (.restart 0 0 0) (mk .degraded []) = .next t ∧ t.glb.mode = .boot ∧
    t.glb.lastCause = 9 ∧ t.glb.bootStage = 1 :=
  ⟨_, rfl, by decide +kernel, by decide +kernel, by decide +kernel⟩

/-- SCRUB in BOOT ends REFUSED_STATE, and in ACTIVE it is ACCEPTED (R38, R236). -/
theorem test_scrub :
    (∃ t, exec (.scrub 0 0 0) (mk .boot []) = .next t ∧ (t.cmd 0x500000).status = 3) ∧
    (∃ t, exec (.scrub 0 0 0) (mk .active []) = .next t ∧ (t.cmd 0x500000).status = 1) :=
  ⟨⟨_, rfl, by decide +kernel⟩, ⟨_, rfl, by decide +kernel⟩⟩

/-- A tamper is latched at its sensor's bit and counted (R339). -/
theorem test_tamper : ∃ t, exec (.tamper 0 3) (mk .standby []) = .next t ∧ t.glb.mode = .degraded ∧
    t.glb.lastCause = 0x12 ∧ t.lmp.zeroed = true :=
  ⟨_, rfl, by decide +kernel, by decide +kernel, by decide +kernel⟩

/-- A coil channel that has latched returns to IDLE on OC_CLEAR (R434, R443). -/
theorem test_oc_clear : ∃ t, exec (.ocClear 0 0 2) { mk .active [] with cdv := [(2, { state := .latched, ocConsec := 5 })] } =
    .next t ∧ (t.coil 2).state = .idle ∧ (t.coil 2).ocConsec = 0 ∧ (t.cmd 0xD00000).status = 2 :=
  ⟨_, rfl, by decide +kernel, by decide +kernel, by decide +kernel⟩

namespace WM

/-- A module with function 5 in a run on keeper 2, at the first of its instruction words. -/
def kst (w : List Nat) : State :=
  { mk .active
      [sec 8 5 (bytesWith 512 [(0, 1), (4, 0xE8), (5, 3), (0x18, 0x80), (0x1D, 1), (0x28, 0x02), (0x80 + 0x14, 64)]),
       sec 7 0 (bytesWith 0x2130 [(0, 0xC0), (1, 0x12), (0x2124, 5)])] with
    kpr :=
      { frames := true, synced := true, open_ := true, tick := 40
        funcs := [(5, { keeper := 2, state := 2, copyA := List.replicate 64 9, copyB := List.replicate 64 7 })]
        keepers :=
          [(2, { awake := true, run := some 5, code := w.flatMap (fun x => leBytes x 4), due := [6]
                 pc := progBase 2 5 (w.flatMap (fun x => leBytes x 4)).length
                 x := [(1, 0x10#32), (2, 2#32)], f := [(1, 0x3F800000#32)] })] } }

/-- The module's keeper fetches its first instruction word, wherever its program base lies. -/
theorem kst_fetch (w : Nat) (op : KOp) (h : decodeK (leAt (leBytes w 4) 0 2) (leAt (leBytes w 4) 2 2) = (op, 4)) : (kst [w]).kFetch 2 5 = .inst op 4 := by
  have hk : ((kst [w]).keeper 2).code = leBytes w 4 := by
    show [w].flatMap (fun x => leBytes x 4) = _
    simp
  have hp : ((kst [w]).keeper 2).pc = progBase 2 5 (leBytes w 4).length := by
    show progBase 2 5 ([w].flatMap (fun x => leBytes x 4)).length = _
    simp
  have hl : (leBytes w 4).length = 4 := by rfl
  have hb : 0x40 ≤ progBase 2 5 (leBytes w 4).length := by unfold progBase; omega
  unfold State.kFetch
  simp only [hk, hp, hl] at *
  generalize progBase 2 5 4 = pb at *
  have h1 : ¬ pb < 64 := by omega
  have h2 : ¬ (pb < pb ∨ pb + 4 < pb + 2) := by omega
  have h3 : ¬ (leAt (leBytes w 4) 0 2 % 4 = 3 ∧ 4 < 0 + 4) := by omega
  simp only [if_neg h1, if_neg h2, Nat.sub_self, if_neg h3]
  rw [show (0 : Nat) + 2 = 2 from rfl, h]

theorem hyps_KeeperLoadsComplete :
    (∃ (k : Fin 16) (ecc : Bool) (s : State) (id len : Nat) (c : Instr) (o rd a b : Nat),
      (c, kRow (.plane o rd a b)) ∈ keeperRows 7 k ecc ∧ (s.keeper k.val).run = some id ∧
      s.kFetch k.val id = .inst (.plane o rd a b) len ∧ s.kEnd k.val (.plane o rd a b) ecc < s.fnBudget id) ∧
    (∃ (k : Fin 16) (ecc : Bool) (s : State) (id len : Nat) (c : Instr) (o rd a b : Nat),
      (c, kRow (.vec o rd a b)) ∈ keeperRows 7 k ecc ∧ (s.keeper k.val).run = some id ∧
      s.kFetch k.val id = .inst (.vec o rd a b) len ∧ s.kEnd k.val (.vec o rd a b) ecc < s.fnBudget id) ∧
    (∃ (k : Fin 16) (ecc : Bool) (s : State) (id len : Nat) (c : Instr) (f : Bool) (rd a : Nat) (off : Int),
      (c, kRow (.kload f rd a off)) ∈ keeperRows 7 k ecc ∧ (s.keeper k.val).run = some id ∧
      s.kFetch k.val id = .inst (.kload f rd a off) len ∧ s.kEnd k.val (.kload f rd a off) ecc < s.fnBudget id ∧
      (s.keeper k.val).ea a off % 4 = 0 ∧ (s.keeper k.val).ea a off < objState (s.fnObj id)) ∧
    (∃ (k : Fin 16) (ecc : Bool) (s : State) (id len : Nat) (c : Instr) (rd : Nat),
      (c, kRow (.budg rd)) ∈ keeperRows 7 k ecc ∧ (s.keeper k.val).run = some id ∧
      s.kFetch k.val id = .inst (.budg rd) len ∧ s.kEnd k.val (.budg rd) ecc < s.fnBudget id) ∧
    (∃ (k : Fin 16) (ecc : Bool) (s : State) (id len : Nat) (c : Instr) (rd o : Nat),
      (c, kRow (.ftime rd o)) ∈ keeperRows 7 k ecc ∧ (s.keeper k.val).run = some id ∧
      s.kFetch k.val id = .inst (.ftime rd o) len ∧ s.kEnd k.val (.ftime rd o) ecc < s.fnBudget id) ∧
    (∃ (k : Fin 16) (ecc : Bool) (s : State) (id len : Nat) (c : Instr) (o rd src a : Nat),
      (c, kRow (.csr o rd src a)) ∈ keeperRows 7 k ecc ∧ (s.keeper k.val).run = some id ∧
      s.kFetch k.val id = .inst (.csr o rd src a) len ∧ s.kEnd k.val (.csr o rd src a) ecc < s.fnBudget id ∧
      kRow (.csr o rd src a) = 87) :=
  ⟨⟨2, false, kst [0x0020828B], 5, 4, .kgv 7 2 false, 0, 5, 1, 2, by decide +kernel, by decide +kernel,
      kst_fetch _ _ (by decide +kernel), by decide +kernel⟩,
   ⟨2, false, kst [0x002082AB], 5, 4, .kbin 7 2 false, 0, 5, 1, 2, by decide +kernel, by decide +kernel,
      kst_fetch _ _ (by decide +kernel), by decide +kernel⟩,
   ⟨2, false, kst [0x0040B2DB], 5, 4, .kslw 7 2 false, false, 5, 1, 4, by decide +kernel, by decide +kernel,
      kst_fetch _ _ (by decide +kernel), by decide +kernel, by decide +kernel, by decide +kernel⟩,
   ⟨2, false, kst [0x000012FB], 5, 4, .kbudg 7 2 false, 5, by decide +kernel, by decide +kernel,
      kst_fetch _ _ (by decide +kernel), by decide +kernel⟩,
   ⟨2, false, kst [0x000022FB], 5, 4, .kftime 7 2 false, 5, 0, by decide +kernel, by decide +kernel,
      kst_fetch _ _ (by decide +kernel), by decide +kernel⟩,
   ⟨2, false, kst [0xC00022F3], 5, 4, .keeperCsrRead 7 2 false, 2, 5, 0, 0xC00, by decide +kernel, by decide +kernel,
      kst_fetch _ _ (by decide +kernel), by decide +kernel, by decide +kernel⟩⟩

theorem hyps_KeeperResultsComplete :
    (∃ (k : Fin 16) (ecc : Bool) (s : State) (id len : Nat) (c : Instr) (o a b : Nat),
      (c, kRow (.dput o a b)) ∈ keeperRows 7 k ecc ∧ (s.keeper k.val).run = some id ∧
      s.kFetch k.val id = .inst (.dput o a b) len ∧ s.kEnd k.val (.dput o a b) ecc < s.fnBudget id ∧
      ((s.keeper k.val).xr a).toNat < 4096 ∧ isGuest id = false ∧ s.owner ((s.keeper k.val).xr a).toNat = id) ∧
    (∃ (k : Fin 16) (ecc : Bool) (s : State) (id len : Nat) (c : Instr) (o a b : Nat),
      (c, kRow (.dput o a b)) ∈ keeperRows 7 k ecc ∧ (s.keeper k.val).run = some id ∧
      s.kFetch k.val id = .inst (.dput o a b) len ∧ s.kEnd k.val (.dput o a b) ecc < s.fnBudget id ∧
      (isGuest id = true ∨ s.owner ((s.keeper k.val).xr a).toNat ≠ id)) ∧
    (∃ (k : Fin 16) (ecc : Bool) (s : State) (id len : Nat) (c : Instr) (f : Bool) (a b : Nat) (off : Int),
      (c, kRow (.kstore f a b off)) ∈ keeperRows 7 k ecc ∧ (s.keeper k.val).run = some id ∧
      s.kFetch k.val id = .inst (.kstore f a b off) len ∧ s.kEnd k.val (.kstore f a b off) ecc < s.fnBudget id ∧
      (s.keeper k.val).ea a off % 4 = 0 ∧ (s.keeper k.val).ea a off < objState (s.fnObj id)) ∧
    (∃ (k : Fin 16) (ecc : Bool) (s : State) (id len : Nat) (c : Instr) (a n : Nat),
      (c, kRow (.evt a n)) ∈ keeperRows 7 k ecc ∧ (s.keeper k.val).run = some id ∧
      s.kFetch k.val id = .inst (.evt a n) len ∧ s.kEnd k.val (.evt a n) ecc < s.fnBudget id ∧
      (s.fnMask id).testBit n = true) ∧
    (∃ (k : Fin 16) (ecc : Bool) (s : State) (id len : Nat) (c : Instr) (a n : Nat),
      (c, kRow (.evt a n)) ∈ keeperRows 7 k ecc ∧ (s.keeper k.val).run = some id ∧
      s.kFetch k.val id = .inst (.evt a n) len ∧ s.kEnd k.val (.evt a n) ecc < s.fnBudget id ∧
      (s.fnMask id).testBit n = false) ∧
    (∃ (k : Fin 16) (ecc : Bool) (s : State) (id len : Nat) (c : Instr),
      (c, kRow .yield) ∈ keeperRows 7 k ecc ∧ (s.keeper k.val).run = some id ∧
      s.kFetch k.val id = .inst .yield len ∧ s.kEnd k.val .yield ecc < s.fnBudget id) :=
  ⟨⟨2, false, kst [0x0001005B], 5, 4, .kdset 7 2 false, 0, 2, 0, by decide +kernel, by decide +kernel,
      kst_fetch _ _ (by decide +kernel), by decide +kernel, by decide +kernel, by decide +kernel, by decide +kernel⟩,
   ⟨2, false, kst [0x0000805B], 5, 4, .kdset 7 2 false, 0, 1, 0, by decide +kernel, by decide +kernel,
      kst_fetch _ _ (by decide +kernel), by decide +kernel, by decide +kernel⟩,
   ⟨2, false, kst [0x0030C45B], 5, 4, .kssw 7 2 false, false, 1, 3, 8, by decide +kernel, by decide +kernel,
      kst_fetch _ _ (by decide +kernel), by decide +kernel, by decide +kernel, by decide +kernel⟩,
   ⟨2, false, kst [0x0010F05B], 5, 4, .kevt 7 2 false, 1, 1, by decide +kernel, by decide +kernel,
      kst_fetch _ _ (by decide +kernel), by decide +kernel, by decide +kernel⟩,
   ⟨2, false, kst [0x0020F05B], 5, 4, .kevt 7 2 false, 1, 2, by decide +kernel, by decide +kernel,
      kst_fetch _ _ (by decide +kernel), by decide +kernel, by decide +kernel⟩,
   ⟨2, false, kst [0x0000007B], 5, 4, .kyield 7 2 false, by decide +kernel, by decide +kernel,
      kst_fetch _ _ (by decide +kernel), by decide +kernel⟩⟩

/-- `addi x5, x1, -1`. -/
theorem hyps_KeeperBaseInstructions :
    ∃ (k : Fin 16) (ecc : Bool) (s : State) (id len : Nat) (op : KOp) (x' : Keeper) (pc' : Nat),
      (s.keeper k.val).run = some id ∧ s.kFetch k.val id = .inst op len ∧ s.kEnd k.val op ecc < s.fnBudget id ∧
      (∃ o rd a v, op = .aluI o rd a v ∧
          x' = (s.keeper k.val).setR rd (kAlu o ((s.keeper k.val).xr a) (BitVec.ofInt 32 v)).toNat ∧
          pc' = ((s.keeper k.val).pc + len) % 2 ^ 32) :=
  ⟨2, false, kst [0xFFF08293], 5, 4, .aluI 0 5 1 (-1), _, _, by decide +kernel,
    kst_fetch _ _ (by decide +kernel), by decide +kernel, 0, 5, 1, -1, rfl, rfl, rfl⟩

/-- A misaligned fetch traps; a frame yield at address 0 ends the budget. -/
theorem hyps_KeeperStops :
    (∃ (k : Fin 16) (s : State) (id : Nat), (s.keeper k.val).run = some id ∧
        ∃ cause, s.kFetch k.val id = .trap cause) ∧
    (∃ (k : Fin 16) (ecc : Bool) (s : State) (id : Nat) (c : Instr), (s.keeper k.val).run = some id ∧
      ∃ op len, s.kFetch k.val id = .inst op len ∧ s.fnBudget id ≤ s.kEnd k.val op ecc ∧
        (c, kRow op) ∈ keeperRows 7 k ecc) :=
  ⟨⟨2, { kst [0] with kpr := { keepers := [(2, { run := some 5, pc := 2 })] } }, 5, by decide +kernel, 2,
      by decide +kernel⟩,
   ⟨2, false, { kst [0] with kpr := { keepers := [(2, { run := some 5, cycle := 1000 })] } }, 5, .kyield 7 2 false,
      by decide +kernel, .yield, 4, by decide +kernel, by decide +kernel, by decide +kernel⟩⟩

/-! ### Statements about the queue, the command registers and every step -/

theorem hyps_MinGenNeverDecreases : ∃ t, step State.reset = .next t := ⟨_, rfl⟩

theorem hyps_CommandRegistersCheckInOrder :
    (∃ (i : Instr) (r code : Nat) (rsv : BitVec 8) (s : State), commandOf i = some (r, code, rsv) ∧
      (s.cmd r).pending = true ∧ (r = imgCmdReg → s.img.reload = none)) ∧
    (∃ (i : Instr) (r code : Nat) (rsv : BitVec 8) (s : State), commandOf i = some (r, code, rsv) ∧
      (r = 0x14 ∨ r = 0x30) ∧ s.glb.inTransition = true) ∧
    (∃ (i : Instr) (r code : Nat) (rsv : BitVec 8) (s : State), commandOf i = some (r, code, rsv) ∧ s.Ready r ∧
      rsv ≠ 0) :=
  ⟨⟨.setMinGen 7 0 0, imgCmdReg, 5, 0, { mk .maintenance [] with cmds := [(imgCmdReg, { pending := true })] }, rfl,
      by decide +kernel, fun _ => rfl⟩,
   ⟨.enterTest 7 0 0, glbCmdReg, 1, 0, { mk .standby [] with glb := { inTransition := true } }, rfl, .inl rfl, rfl⟩,
   ⟨.prfClear 7 0x80 255, prfCmdReg, 4, 0x80, mk .active [], rfl, by unfold State.Ready; decide +kernel,
      by decide⟩⟩

theorem hyps_RegisterWritesStoreOrClear :
    ∃ (q : Requester) (s : State) (r : EvReg), (∀ v, q ≠ .vf v) ∧ r.st % 4 = 0 ∧ s.glb.mode ≠ .dormant ∧
      evRegOf r.st = some r :=
  ⟨.core 3, mk .active [], (evRegOf 0x40060).get (by decide +kernel), by decide +kernel, by decide +kernel,
    by decide +kernel, by decide +kernel⟩

theorem hyps_MbxStateWrite :
    ∃ (q : Requester) (m : Fin 4096) (v : Word) (s : State), s.mboxOwner m.val = some (requesterFn q) ∧
      (s.mbox m.val).ready = true ∧ (s.mbox m.val).seq = v.toNat % 256 :=
  ⟨.vf 3, 3, 0x104,
    { mk .active [] with
      hst :=
        { gen := 5, vfEnable := true, numVfs := 5, fns := [(3, { enable := true, mbxFirst := 2, mbxCount := 2 })]
          mboxes := [(3, { kind := 1, value := 9, seq := 4, ready := true })] } },
    by decide +kernel, by decide +kernel, by decide +kernel⟩

theorem hyps_PrfRefusals :
    (∃ s : State, s.Ready prfCmdReg ∧ s.afterBoot = false) ∧
    (∃ s : State, s.Ready prfCmdReg ∧ s.prf.frozen = true) ∧
    (∃ s : State, s.Ready prfCmdReg ∧ s.prf.frozen = false) ∧
    (∃ arg : BitVec 16, 232 ≤ arg.toNat ∧ arg.toNat ≠ 255 ∧ arg ≠ 0) :=
  ⟨⟨mk .boot [], by unfold State.Ready; decide +kernel⟩,
   ⟨{ mk .active [] with prf := { frozen := true } }, by unfold State.Ready; decide +kernel⟩,
   ⟨mk .active [], by unfold State.Ready; decide +kernel⟩, ⟨256, by decide⟩⟩

/-! ### The chain -/

/-- A stream group of one stream whose first channel has field 0x0D set and the time grid `grid`. -/
def chainSec (grid : Byte) : Section :=
  sec 5 0 (bytesWith 272 [(0, 1), (16 + 0x0D, 1), (16 + 0x0B, 1), (16 + 0x0C, 1), (16 + 0x86, grid)])

/-- A frequency group with `n` sources of no channels. -/
def groupSec (n : Byte) : Section :=
  sec 4 0 (bytesWith 128 [(16, 50), (17, 1), (18, n), (20, 0xFF), (21, 0xFF), (22, 0xFF), (23, 0xFF), (24, 0xFF), (25, 0xFF),
    (26, 0xFF), (27, 0xFF), (28, 0xFF), (29, 0xFF), (30, 0xFF), (31, 0xFF)])

/-- A module whose chain runs. -/
def chain (grid n : Byte) (c : CndUnit) : State :=
  { mk .active [chainSec grid, groupSec n] with kpr := { frames := true, synced := true }, cnd := c }

theorem any_some {α : Type} {o : Option α} {p : α → Bool} (h : o.any p = true) : ∃ x, o = some x ∧ p x = true := by
  cases o with
  | none => cases h
  | some x => exact ⟨x, rfl, h⟩

/-- A lattice with one point, and the estimate that its next step uses. -/
def latChain (next : Nat) : State :=
  chain 0 1
    { s0 := some 0, slots := [(0, { run := true, next := next, kept := [(11 * secUnit, 0)] })]
      lats := [(0, { pts := [{ n := 24000, k := 24000, tau := rateInstant 40019 4000, due := 0 }] })]
      groups := [(0, { m := 2001, hist := [{ m := 2000, freq := 50 * 2 ^ 24, due := 9 }] })] }

theorem hyps_GridSampleCompute :
    (∃ (i v tl : Nat) (k : Fin 16384) (c : StreamCfg) (p : LatPt) (s : State), s.slotCfg k.val = some (c, i) ∧
      (s.slot k.val).run = true ∧ 0x10 ≤ c.grid i ∧
      s.gridInstant c.group (c.grid i) (s.slot k.val).next = some p ∧
      resample (resp (c.response i)) (s.slot k.val) p.tau = some (v, tl)) ∧
    (∃ (i v tl : Nat) (k : Fin 16384) (c : StreamCfg) (p : LatPt) (s : State), s.slotCfg k.val = some (c, i) ∧
      (s.slot k.val).run = true ∧ c.grid i < 0x10 ∧ (s.latPts (gridTable c.group (c.grid i))).head? = some p ∧
      p.n = (s.slot k.val).next ∧ resample (resp (c.response i)) (s.slot k.val) p.tau = some (v, tl)) ∧
    (∃ (i v tl : Nat) (k : Fin 16384) (c : StreamCfg) (p : LatPt) (s : State), s.slotCfg k.val = some (c, i) ∧
      (s.slot k.val).run = true ∧ c.grid i < 0x10 ∧
      (∃ q f due, (s.latPts (gridTable c.group (c.grid i))).head? = some q ∧ q.n + 1 = (s.slot k.val).next ∧
        s.stepFreq c.group q.tau false = some (f, due) ∧
        p = { n := q.n + 1, k := q.k + 1, tau := q.tau + latticeStep (cycleSize (c.grid i)) f, due := due }) ∧
      resample (resp (c.response i)) (s.slot k.val) p.tau = some (v, tl)) := by
  have hc : ∃ c, (latChain 24000).slotCfg 0 = some (c, 0) ∧ c.grid 0 = 0 ∧ c.group = 0 ∧ c.response 0 = 0 := by
    obtain ⟨x, hx, h⟩ := any_some (o := (latChain 24000).slotCfg 0)
      (p := fun x => decide (x.2 = 0) && decide (x.1.grid 0 = 0) && decide (x.1.group = 0) &&
        decide (x.1.response 0 = 0)) (by decide +kernel)
    simp only [Bool.and_eq_true, decide_eq_true_eq] at h
    exact ⟨x.1, by rw [hx, ← h.1.1.1], h.1.1.2, h.1.2, h.2⟩
  have hd : (latChain 24001).slotCfg 0 = (latChain 24000).slotCfg 0 := rfl
  obtain ⟨c, hc, hg, hr, hp⟩ := hc
  obtain ⟨x, hx, -⟩ := any_some (o := resample (resp 0) ((latChain 24000).slot 0) (rateInstant 40019 4000))
    (p := fun _ => true) (by decide +kernel)
  have hf : (latChain 24001).stepFreq 0 (rateInstant 40019 4000) false = some (50 * 2 ^ 24, 9) := by decide +kernel
  obtain ⟨y, hy, -⟩ := any_some (o := resample (resp 0) ((latChain 24001).slot 0)
    (rateInstant 40019 4000 + latticeStep (cycleSize 0) (50 * 2 ^ 24))) (p := fun _ => true) (by decide +kernel)
  refine ⟨⟨0, _, _, 0, _, _, chain 0x12 1
      { s0 := some 0, slots := [(0, { run := true, next := 0, kept := [(secUnit, 0)] })] },
      rfl, rfl, by decide +kernel, rfl, rfl⟩,
    ⟨0, x.1, x.2, 0, c, { n := 24000, k := 24000, tau := rateInstant 40019 4000, due := 0 }, latChain 24000,
      hc, rfl, by rw [hg]; decide, by rw [hg, hr]; decide +kernel, rfl, by rw [hp]; exact hx⟩,
    ⟨0, y.1, y.2, 0, c, _, latChain 24001, hd.trans hc, rfl, by rw [hg]; decide,
      ⟨{ n := 24000, k := 24000, tau := rateInstant 40019 4000, due := 0 }, 50 * 2 ^ 24, 9,
        by rw [hg, hr]; decide +kernel, rfl, by rw [hr]; exact hf, rfl⟩, by rw [hp, hg]; exact hy⟩⟩

/-- A module whose group 0 comes to its next estimate. -/
def estChain (n : Byte) (r0 r1 : Nat) : State :=
  chain 0x12 n { s0 := some 0, groups := [(0, { m := 2000, was := true, freq := 77,
                                                src0 := { f := some 0x4049000000000000, run := r0 }
                                                src1 := { f := some 0x4049000000000000, run := r1 } })] }

theorem hyps_FreqEstimate :
    (∃ (da : Nat) (g : Fin 64) (a : EstStep) (s : State), s.cnd.s0.isSome = true ∧ s.groupOn g.val = true ∧
      s.sourceCount g.val = 1 ∧ s.estSource g.val (s.group g.val).m 0 (s.group g.val).src0 = some (a, da) ∧
      12 ≤ a.est.run) ∧
    (∃ (da : Nat) (g : Fin 64) (a : EstStep) (s : State), s.cnd.s0.isSome = true ∧ s.groupOn g.val = true ∧
      s.sourceCount g.val = 1 ∧ s.estSource g.val (s.group g.val).m 0 (s.group g.val).src0 = some (a, da) ∧
      a.est.run < 12) ∧
    (∃ (da db : Nat) (g : Fin 64) (a b : EstStep) (s : State), s.cnd.s0.isSome = true ∧ s.groupOn g.val = true ∧
      2 ≤ s.sourceCount g.val ∧ s.estSource g.val (s.group g.val).m 0 (s.group g.val).src0 = some (a, da) ∧
      s.estSource g.val (s.group g.val).m 1 (s.group g.val).src1 = some (b, db) ∧ a.est.run < 12 ∧ 12 ≤ b.est.run) := by
  obtain ⟨a, ha, ra⟩ := any_some (o := (estChain 1 15 0).estSource (0 : Fin 64).val ((estChain 1 15 0).group (0 : Fin 64).val).m 0
      ((estChain 1 15 0).group (0 : Fin 64).val).src0)
    (p := fun r => decide (12 ≤ r.1.est.run)) (by decide +kernel)
  obtain ⟨b, hb, rb⟩ := any_some (o := (estChain 1 3 0).estSource (0 : Fin 64).val ((estChain 1 3 0).group (0 : Fin 64).val).m 0
      ((estChain 1 3 0).group (0 : Fin 64).val).src0)
    (p := fun r => decide (r.1.est.run < 12)) (by decide +kernel)
  obtain ⟨c, hc, rc⟩ := any_some (o := (estChain 2 3 12).estSource (0 : Fin 64).val ((estChain 2 3 12).group (0 : Fin 64).val).m 0
      ((estChain 2 3 12).group (0 : Fin 64).val).src0)
    (p := fun r => decide (r.1.est.run < 12)) (by decide +kernel)
  obtain ⟨d, hd, rd⟩ := any_some (o := (estChain 2 3 12).estSource (0 : Fin 64).val ((estChain 2 3 12).group (0 : Fin 64).val).m 1
      ((estChain 2 3 12).group (0 : Fin 64).val).src1)
    (p := fun r => decide (12 ≤ r.1.est.run)) (by decide +kernel)
  exact ⟨⟨a.2, 0, a.1, estChain 1 15 0, rfl, by decide +kernel, by decide +kernel, ha, of_decide_eq_true ra⟩,
    ⟨b.2, 0, b.1, estChain 1 3 0, rfl, by decide +kernel, by decide +kernel, hb, of_decide_eq_true rb⟩,
    ⟨c.2, d.2, 0, c.1, d.1, estChain 2 3 12, rfl, by decide +kernel, by decide +kernel, hc, hd, of_decide_eq_true rc,
      of_decide_eq_true rd⟩⟩

end WM

namespace WA

def s0 : State :=
  mk .active []

def s1 : State :=
  { mk .dormant [] with regs := [(0x600020, 7)] }

def s2 : State :=
  { mk .active [] with
    regs := [(0x40, 0x3), (0x500020, 5), (0x600020, 7)], 
    hst :=
     { gen := 5, vfEnable := true, numVfs := 5, fns := [(1, { enable := true, mbxFirst := 0, mbxCount := 2}), (3, { enable := true, mbxFirst := 2, mbxCount := 2 })],
       mboxes := [(3, { kind := 1, value := 9, seq := 4, ready := true })],
       queues := [(1, { owner := 3, owned := true })] }
    bcn := { rate := -5 }, 
    log :=
     { dram :=
        [{ code := 1, block := 0, inst := 0, seq := 7, sec := 0, ns := 0, p0 := 0, p1 := 0, p2 := 0, moduleId := 0, cls := 1, timeValid := true, fromHold := false, stepFollows := false }], nextSeq := 8 }
    bin := [(1, { ts32 := 77, sec := 4 })], prf := { ctrs := [(1, { value := 0x123456789 })] } }

theorem hyps_RegisterWritesStoreOrClear :
    (∃ (q : Requester) (a : Nat) (s : State), (∀ (f : Fin 256), q ≠ Requester.vf f) ∧ a % 4 = 0 ∧
        s.glb.mode ≠ Mode.dormant ∧ Option.isSome (rwMask a) = true) ∧
    (∃ (q : Requester) (a : Nat) (s : State), (∀ (f : Fin 256), q ≠ Requester.vf f) ∧ a % 4 = 0 ∧
        s.glb.mode = Mode.dormant) :=
  ⟨⟨.pf0, 0x20024, s0, by decide +kernel⟩,
   ⟨.pf0, 64, s1, by decide +kernel⟩⟩

theorem hyps_DiscardedWritesAreReported :
    (∃ (q : Requester) (a : Nat) (be : BitVec 4) (s : State), (∀ (f : Fin 256), q ≠ Requester.vf f) ∧
        s.glb.mode ≠ Mode.dormant ∧ be ≠ 15 ∧ a < 16777216 ∧ s.log.queue.length < 64 ∧ s.classOf 5 ≠ 3) ∧
    (∃ (s : State), s.once.contains (onceKey 25 0) = false) :=
  ⟨⟨.pf0, 64, 3, s0, by decide +kernel⟩,
   ⟨s0, by decide +kernel⟩⟩

theorem hyps_LatchingReadsComplete :
    (∃ (q : Requester) (a : Nat) (s : State), (∀ (f : Fin 256), q ≠ Requester.vf f) ∧ s.glb.mode ≠ Mode.dormant ∧
        a % 4 = 0 ∧ rcMap a = true) ∧
    (∃ (v : Fin 256) (s : State), s.glb.mode ≠ Mode.dormant ∧ v.val ≠ 0 ∧ s.present v.val = true) ∧
    (∃ (q : Requester) (s : State), Option.isSome ((s.window q).getLast?) = true) ∧
    (∃ (q : Requester) (m : Fin 4096) (s : State), s.mboxSeen q m.val = true) :=
  ⟨⟨.pf0, 0x500020, s0, by decide +kernel⟩,
   ⟨1, s2, by decide +kernel⟩,
   ⟨.pf0, s2, by decide +kernel⟩,
   ⟨.pf0, 0, s0, by decide +kernel⟩⟩

theorem hyps_ArmingWritesComplete :
    (∃ (q : Requester) (m : Fin 4096) (v : Word) (s : State), s.mboxOwner m.val = some (requesterFn q) ∧
        ((s.mbox m.val).ready = false ∨ (s.mbox m.val).seq ≠ BitVec.toNat v % 256)) ∧
    (∃ (q : Requester) (m : Fin 4096) (v : Word) (s : State), s.mboxOwner m.val = some (requesterFn q) ∧
        ((s.mbox m.val).ready = false ∨ (s.mbox m.val).seq ≠ BitVec.toNat v % 256) ∧
        s.once.contains (onceKey 728 0) = false) ∧
    (∃ (v : Word), 2000 ≤ BitVec.toNat v % 65536 ∧ BitVec.toNat v % 65536 ≤ 40000) ∧
    (∃ (v : Word), (BitVec.toNat v % 65536 < 2000 ∨ 40000 < BitVec.toNat v % 65536)) ∧
    (∃ (v : Word), BitVec.getLsbD v 8 = true) ∧
    (∃ (v : Word), BitVec.getLsbD v 8 = true ∧ BitVec.getLsbD v 9 = true) :=
  ⟨⟨(.vf 1), 0, 0, s2, by decide +kernel⟩,
   ⟨(.vf 1), 0, 0, s2, by decide +kernel⟩,
   ⟨2000, by decide +kernel⟩,
   ⟨0, by decide +kernel⟩,
   ⟨257, by decide +kernel⟩,
   ⟨769, by decide +kernel⟩⟩

end WA

namespace WP1

def rt (src n : Nat) : Nat × Word := (0x11000 + 4 * src, BitVec.ofNat 32 (2 ^ 30 + n))

def base (m : Mode) (f : EvtUnit) : State :=
  { mk m [] with evt := f, regs := [rt 5 0, rt 6 1, rt 7 2, rt 8 3, rt 897 4, rt 898 4, (evLocA 5, 0xFFFFFFFF)],
                 hst := { gen := 5, vfEnable := true, numVfs := 3, fns := [(0, { msixEnable := true }), (1, { msixEnable := true, msixMask := true, eventFirst := 1, eventCount := 1 }), (2, {})],
                          vecs := [(0, { owned := true, masked := false }), (1, { owned := true, pend := true }), (2, { owner := 1, owned := true, masked := false, pend := true }), (3, { owner := 2, owned := true, pend := true }), (4, { owner := 1, owned := true, masked := false })] } }
where evLocA (src : Nat) : Nat := ((evLoc src).map (·.1)).getD 0

def PP.s : List State := ([5, 6, 7, 8, 897, 898].map (fun n => base .active { held := [n, 9, n] })) ++ [base .active {}, base .active { held := [5] }, base .boot {}, mk .active [], { mk .active [] with prf := { snapBusy := true } }, { mk .active [] with prf := { frozen := true, ctrs := [(3, { value := 7 }), (231, { value := 5, ovf := true })], snap := [(4, 7)] } }, mk .boot [], { mk .boot [] with prf := { frozen := true } } ]

theorem hyps_PrfCommandsComplete :
    (∃ (s : State), s.prf.snapBusy = true) ∧
    (∃ (s : State), s.Ready prfCmdReg ∧ s.afterBoot = true) ∧
    (∃ (s : State), s.Ready prfCmdReg ∧ s.afterBoot = true ∧ s.prf.frozen = false) ∧
    (∃ (s : State), s.Ready prfCmdReg ∧ s.afterBoot = true ∧ s.prf.frozen = true) ∧
    (∃ (s : State) (arg : BitVec 16), s.Ready prfCmdReg ∧ s.afterBoot = true ∧ arg.toNat < 232) ∧
    (∃ (s : State), s.Ready prfCmdReg ∧ s.afterBoot = true) :=
  ⟨⟨(PP.s[10]'(by decide)), by decide +kernel⟩,
   ⟨(PP.s[0]'(by decide)), by unfold State.Ready; decide +kernel⟩,
   ⟨(PP.s[0]'(by decide)), by unfold State.Ready; decide +kernel⟩,
   ⟨(PP.s[11]'(by decide)), by unfold State.Ready; decide +kernel⟩,
   ⟨(PP.s[0]'(by decide)), 0, by unfold State.Ready; decide +kernel⟩,
   ⟨(PP.s[0]'(by decide)), by unfold State.Ready; decide +kernel⟩⟩

end WP1

namespace WP

def rt (src n : Nat) : Nat × Word := (0x11000 + 4 * src, BitVec.ofNat 32 (2 ^ 30 + n))

def base (m : Mode) (f : EvtUnit) : State :=
  { mk m [] with evt := f, regs := [rt 5 0, rt 6 1, rt 7 2, rt 8 3, rt 897 4, rt 898 4, (evLocA 5, 0xFFFFFFFF)],
                 hst := { gen := 5, vfEnable := true, numVfs := 3, fns := [(0, { msixEnable := true }), (1, { msixEnable := true, msixMask := true, eventFirst := 1, eventCount := 1 }), (2, {})],
                          vecs := [(0, { owned := true, masked := false }), (1, { owned := true, pend := true }), (2, { owner := 1, owned := true, masked := false, pend := true }), (3, { owner := 2, owned := true, pend := true }), (4, { owner := 1, owned := true, masked := false })] } }
where evLocA (src : Nat) : Nat := ((evLoc src).map (·.1)).getD 0

def PP.s : List State := ([5, 6, 7, 8, 897, 898].map (fun n => base .active { held := [n, 9, n] })) ++ [base .active {}, { base .active { held := [5, 6, 5] } with hst := { (base .active {}).hst with gen := 0 } }, base .active { held := [5] }, base .boot {}, mk .active [], { mk .active [] with prf := { snapBusy := true } }, { mk .active [] with prf := { frozen := true, ctrs := [(3, { value := 7 }), (231, { value := 5, ovf := true })], snap := [(4, 7)] } }, mk .boot [], { mk .boot [] with prf := { frozen := true } } ]

theorem hyps_EventMessagesFollowTheirRoutes :
    (∃ (s : State) (src : Nat) (rest : List Nat), s.evt.held = src :: rest ∧ s.evt.resend = 0 ∧
        s.routeTarget src = 1 ∧ (s.vec (s.routeIndex src)).owned = true ∧
        s.mayCarry (s.vec (s.routeIndex src)).owner src = true ∧
        (s.func (s.vec (s.routeIndex src)).owner).internal = false ∧
        s.present (s.vec (s.routeIndex src)).owner = true ∧
        (s.func (s.vec (s.routeIndex src)).owner).msixEnable = true ∧ (s.vec (s.routeIndex src)).masked = false ∧
        (s.func (s.vec (s.routeIndex src)).owner).msixMask = false) ∧
    (∃ (s : State) (src : Nat) (rest : List Nat), s.evt.held = src :: rest ∧ s.evt.resend = 0 ∧
        s.routeTarget src = 1 ∧ (s.vec (s.routeIndex src)).owned = true ∧
        s.mayCarry (s.vec (s.routeIndex src)).owner src = true ∧
        (s.func (s.vec (s.routeIndex src)).owner).internal = false ∧
        s.present (s.vec (s.routeIndex src)).owner = true ∧
        (s.func (s.vec (s.routeIndex src)).owner).msixEnable = true ∧
        ((s.vec (s.routeIndex src)).masked = true ∨ (s.func (s.vec (s.routeIndex src)).owner).msixMask = true)) ∧
    (∃ (s : State) (src : Nat) (rest : List Nat), s.evt.held = src :: rest ∧ s.evt.resend = 0 ∧
        s.routeTarget src = 1 ∧ (s.vec (s.routeIndex src)).owned = true ∧
        s.mayCarry (s.vec (s.routeIndex src)).owner src = true ∧
        (s.func (s.vec (s.routeIndex src)).owner).internal = false ∧
        (s.present (s.vec (s.routeIndex src)).owner = false ∨ (s.func (s.vec (s.routeIndex src)).owner).msixEnable = false)) ∧
    (∃ (s : State) (n : Fin 2048), (s.vec n.val).owned = true ∧ (s.func (s.vec n.val).owner).internal = false ∧
        s.present (s.vec n.val).owner = true ∧ (s.vec n.val).pend = true) ∧
    (∃ (s : State), s.Ready evtCmdReg ∧ s.afterStage 1 = true ∧ (∀ (x : Nat), x ∈ s.evt.held → x < 1024)) :=
  ⟨⟨(PP.s[0]'(by decide)), 5, [9, 5], by decide +kernel⟩,
   ⟨(PP.s[1]'(by decide)), 6, [9, 6], by decide +kernel⟩,
   ⟨(PP.s[7]'(by decide)), 5, [6, 5], by decide +kernel⟩,
   ⟨(PP.s[0]'(by decide)), 1, by decide +kernel⟩,
   ⟨(PP.s[0]'(by decide)), by unfold State.Ready; decide +kernel⟩⟩

end WP

namespace WB

def single : Section := sec 0xF 0 (bytesWith 64 [(5, 0x20)])

def dorm : State := { mk .dormant [] with pwr := { supply := true } }

def ready (m : Mode) (fr : Bool) : State :=
  { mk m [single] with
    kpr := { synced := true, frames := fr }, img := { (mk m [single]).img with settingsDone := true } }

def stB : Nat → State := fun n => { mk .boot [] with glb := { mode := .boot, bootStage := n }, img := { run := none } }

def withPartner (s : State) (m : Nat) : State :=
  { s with
    img := { s.img with run := s.img.run.map (fun im => { im with sections := [sec 0xF 0 (bytesWith 64 [])] }) }
    pair := { s.pair with alive := true, fog := { mode := m, flags := 1 } } }

def s1 : State :=
  { dorm with glb := { dorm.glb with latchClosed := false } }

def s2 : State :=
  { mk .active [] with glb := { (mk .active []).glb with latchClosed := false } }

def s3 : State :=
  { dorm with pwr := { supply := false } }

def s4 : State :=
  { dorm with pwr := { waitPre := true, wakeBits := 2 } }

def s6 : State :=
  { dorm with pwr := { preFail := true, retries := 9, wakeBits := 4 } }

def s0 : State :=
  mk .active []

def s9 : State :=
  mk .commission []

def s12 : State :=
  stB 1

def s22 : State :=
  { stB 2 with pwr := { tamperDormant := true } }

def s14 : State :=
  stB 3

def s23 : State :=
  { stB 3 with lmp := { zeroed := true } }

def s19 : State :=
  stB 8

def s20 : State :=
  stB 9

def s21 : State :=
  stB 10

def s26 : State :=
  { mk .commission [] with img := { (mk .commission []).img with loaded := false } }

def s27 : State :=
  { ready .commission false with regs := [(0x1C, 0)] }

def s28 : State :=
  ready .commission true

def s29 : State :=
  { ready .commission false with kpr := {}, time := { mono := 500 * secUnit, station := 7 } }

def s30 : State :=
  ready .standby false

def s31 : State :=
  ready .standby true

def s32 : State :=
  ready .test false

def s33 : State :=
  ready .test true

def s39 : State :=
  { ready .active true with pair := { ex := 1 } }

def s40 : State :=
  { ready .standby true with glb := { (mk .standby []).glb with leaving := true, leaveStep := 1 } }

def s41 : State :=
  { ready .standby true with glb := { (mk .standby []).glb with leaving := true, leaveStep := 4 } }

def s42 : State :=
  { ready .standby true with glb := { (mk .standby []).glb with leaving := true, leaveStep := 5 } }

def s34 : State :=
  withPartner (ready .active true) 3

def s43 : State :=
  { ready .active true with pwr := { below := true } }

def s44 : State :=
  { mk .degraded [] with pwr := { below := true } }

def s10 : State :=
  mk .degraded []

def s45 : State :=
  { ready .standby true with pwr := { overLimit := true, above := 1 } }

def s46 : State :=
  { ready .standby true with glb := { (mk .standby []).glb with blockReset := some (9, 1) }, cmds := [(0x30, { code := 1, pending := true, status := 1, runCode := 1 })], cdv := [(1, { armed := true }), (7, { armed := true, state := .hold, driveOn := true })], can := [(1, { bufs := [(1, { txReq := true })] })], kpr := { frames := true, keepers := [(1, { run := some 3 })] } }

theorem hyps_SupplyAndLatchCommandsComplete :
    (∃ (s : State), s.glb.latchClosed = false ∧ s.glb.mode = Mode.dormant) ∧
    (∃ (s : State), s.glb.latchClosed = false ∧ s.glb.mode ≠ Mode.dormant) ∧
    (∃ (s : State), s.pwr.supply = false ∧ s.glb.mode = Mode.dormant) ∧
    (∃ (s : State), s.glb.mode = Mode.dormant ∧ s.pwr.waitPre = true) ∧
    (∃ (s : State), s.glb.mode = Mode.dormant ∧ s.pwr.waitPre = false ∧ s.pwr.preFail = true ∧
        s.pwr.retryStopped = false ∧ s.glb.latchClosed = true ∧ s.pwr.supply = true) ∧
    (∃ (s : State), s.glb.mode = Mode.dormant) ∧
    (∃ (s : State), s.glb.mode ≠ Mode.dormant) :=
  ⟨⟨s1, by decide +kernel⟩,
   ⟨s2, by decide +kernel⟩,
   ⟨s3, by decide +kernel⟩,
   ⟨s4, by decide +kernel⟩,
   ⟨s6, by decide +kernel⟩,
   ⟨s1, by decide +kernel⟩,
   ⟨s0, by decide +kernel⟩⟩

theorem hyps_WaysIntoBoot :
    (∃ (s : State), s.glb.mode = Mode.dormant ∧ (s.pwr.waitPre = true ∨ s.pwr.preFail = true ∧
        s.pwr.retryStopped = false ∧ s.glb.latchClosed = true ∧ s.pwr.supply = true)) ∧
    (∃ (dt : Nat) (s : State) (c : Instr), s.Ready glbCmdReg ∧ s.FirstCause 6 dt ∧ s.glb.leaving = false ∧
        (c = Instr.restart dt 0 0 ∧
        (s.glb.mode = Mode.commission ∨ s.glb.mode = Mode.degraded) ∨ c = Instr.exitMaintenance dt 0 0 ∧
        s.glb.mode = Mode.maintenance ∧ s.img.loading = none)) :=
  ⟨⟨s4, by decide +kernel⟩,
   ⟨7, s9, Sys2Proof.Instr.restart 7 0x00#8 0x0000#16, by unfold State.Ready State.FirstCause; decide +kernel⟩⟩

theorem hyps_BootStagesFollowEachOther :
    (∃ (s : State), s.glb.mode = Mode.boot ∧ (s.glb.bootStage = 1 ∨ s.glb.bootStage = 2 ∨ 4 ≤ s.glb.bootStage ∧
        s.glb.bootStage ≤ 7) ∧ (s.glb.bootStage = 2 → s.pwr.tamperDormant = false)) ∧
    (∃ (s : State), s.glb.mode = Mode.boot ∧ (s.glb.bootStage = 1 ∨ s.glb.bootStage = 2 ∨ 4 ≤ s.glb.bootStage ∧
        s.glb.bootStage ≤ 7) ∧ (s.glb.bootStage = 2 → s.pwr.tamperDormant = false)) ∧
    (∃ (s : State), s.glb.mode = Mode.boot ∧ s.glb.bootStage = 2 ∧ s.pwr.tamperDormant = true) ∧
    (∃ (s : State), s.glb.mode = Mode.boot ∧ s.glb.bootStage = 3 ∧ s.lmp.zeroed = false ∧ 1 ≤ s.lmp.life ∧
        s.lmp.life ≤ 4) ∧
    (∃ (s : State), s.glb.mode = Mode.boot ∧ s.glb.bootStage = 3 ∧ s.lmp.zeroed = true) ∧
    (∃ (s : State), s.glb.mode = Mode.boot ∧ s.glb.bootStage = 8) ∧
    (∃ (dt : Nat) (s : State), s.glb.mode = Mode.boot ∧ s.glb.bootStage = 8 ∧ (s.elapse dt).selectBank.snd = false) ∧
    (∃ (s : State), s.glb.mode = Mode.boot ∧ s.glb.bootStage = 8) ∧
    (∃ (s : State), s.glb.mode = Mode.boot ∧ s.glb.bootStage = 9) ∧
    (∃ (s : State), s.glb.mode = Mode.boot ∧ s.glb.bootStage = 10) :=
  ⟨⟨s12, by decide +kernel⟩,
   ⟨s12, by decide +kernel⟩,
   ⟨s22, by decide +kernel⟩,
   ⟨s14, by decide +kernel⟩,
   ⟨s23, by decide +kernel⟩,
   ⟨s19, by decide +kernel⟩,
   ⟨7, s19, by decide +kernel⟩,
   ⟨s19, by decide +kernel⟩,
   ⟨s20, by decide +kernel⟩,
   ⟨s21, by decide +kernel⟩⟩

theorem hyps_CommissioningAndTestTransitions :
    (∃ (s : State), s.glb.mode = Mode.commission ∧ s.img.loaded = false ∧ s.img.run.isSome = true) ∧
    (∃ (s : State), s.glb.mode = Mode.commission ∧ s.glb.inTransition = false ∧ s.holdCommission = false ∧
        s.unmet = 0) ∧
    (∃ (s : State), s.glb.mode = Mode.commission ∧ s.glb.inTransition = false ∧ s.holdCommission = false ∧
        s.unmet = 0 ∧ s.kpr.frames = true) ∧
    (∃ (s : State), s.glb.mode = Mode.commission ∧ s.glb.inTransition = false ∧ s.holdCommission = false ∧
        s.unmet = 0 ∧ s.kpr.frames = false) ∧
    (∃ (dt : Nat) (s : State), s.glb.mode = Mode.commission ∧
        s.glb.since + s.commissionS * secUnit ≤ s.time.mono + dt ∧ s.unmet ≠ 0) ∧
    (∃ (dt : Nat) (s : State) (force : Bool), s.Ready glbCmdReg ∧ s.FirstCause 6 dt ∧ s.glb.mode = Mode.standby ∧
        (s.elapse dt).r31 force = true) ∧
    (∃ (dt : Nat) (s : State) (force : Bool), s.Ready glbCmdReg ∧ s.FirstCause 6 dt ∧ s.glb.mode = Mode.standby ∧
        (s.elapse dt).r31 force = true ∧ s.kpr.frames = true) ∧
    (∃ (dt : Nat) (s : State) (force : Bool), s.Ready glbCmdReg ∧ s.FirstCause 6 dt ∧ s.glb.mode = Mode.standby ∧
        (s.elapse dt).r31 force = true ∧ s.kpr.frames = false) ∧
    (∃ (dt : Nat) (s : State), s.Ready glbCmdReg ∧ s.FirstCause 6 dt ∧ s.glb.mode = Mode.test) ∧
    (∃ (dt : Nat) (s : State), s.Ready glbCmdReg ∧ s.FirstCause 6 dt ∧ s.glb.mode = Mode.test ∧ s.kpr.frames = true) ∧
    (∃ (dt : Nat) (s : State), s.Ready glbCmdReg ∧ s.FirstCause 6 dt ∧ s.glb.mode = Mode.test ∧
        s.kpr.frames = false) ∧
    (∃ (dt : Nat) (s : State), s.Ready glbCmdReg ∧ s.FirstCause 6 dt ∧ s.glb.mode = Mode.commission ∧ s.unmet = 0) ∧
    (∃ (dt : Nat) (s : State), s.Ready glbCmdReg ∧ s.FirstCause 6 dt ∧ s.glb.mode = Mode.commission ∧ s.unmet = 0 ∧
        s.kpr.frames = true) ∧
    (∃ (dt : Nat) (s : State), s.Ready glbCmdReg ∧ s.FirstCause 6 dt ∧ s.glb.mode = Mode.commission ∧ s.unmet = 0 ∧
        s.kpr.frames = false) :=
  ⟨⟨s26, by decide +kernel⟩,
   ⟨s27, by decide +kernel⟩,
   ⟨s28, by decide +kernel⟩,
   ⟨s27, by decide +kernel⟩,
   ⟨7, s29, by decide +kernel⟩,
   ⟨7, s30, true, by unfold State.Ready State.FirstCause; decide +kernel⟩,
   ⟨7, s31, true, by unfold State.Ready State.FirstCause; decide +kernel⟩,
   ⟨7, s30, true, by unfold State.Ready State.FirstCause; decide +kernel⟩,
   ⟨7, s32, by unfold State.Ready State.FirstCause; decide +kernel⟩,
   ⟨7, s33, by unfold State.Ready State.FirstCause; decide +kernel⟩,
   ⟨7, s32, by unfold State.Ready State.FirstCause; decide +kernel⟩,
   ⟨7, s27, by unfold State.Ready State.FirstCause; decide +kernel⟩,
   ⟨7, s28, by unfold State.Ready State.FirstCause; decide +kernel⟩,
   ⟨7, s27, by unfold State.Ready State.FirstCause; decide +kernel⟩⟩

theorem hyps_RemovalSequence :
    (∃ (dt : Nat) (s : State) (c : Instr), s.glb.mode ≠ Mode.dormant ∧ (c = Instr.latchOpened dt ∧
        s.glb.latchClosed = true ∨ c = Instr.leaveService dt 0 0 ∧ s.Ready glbCmdReg) ∧ s.glb.leaving = false) ∧
    (∃ (dt : Nat) (s : State) (c : Instr), s.glb.mode ≠ Mode.dormant ∧ (c = Instr.latchOpened dt ∧
        s.glb.latchClosed = true ∨ c = Instr.leaveService dt 0 0 ∧ s.Ready glbCmdReg) ∧ s.glb.leaving = false ∧
        s.glb.mode ≠ Mode.boot ∧ s.glb.mode ≠ Mode.active) ∧
    (∃ (dt : Nat) (s : State), s.glb.mode ≠ Mode.dormant ∧ (Instr.latchOpened dt = Instr.latchOpened dt ∧
        s.glb.latchClosed = true ∨ Instr.latchOpened dt = Instr.leaveService dt 0 0 ∧ s.Ready glbCmdReg) ∧
        s.glb.leaving = false) ∧
    (∃ (dt : Nat) (s : State) (c : Instr), s.glb.mode ≠ Mode.dormant ∧ (c = Instr.latchOpened dt ∧
        s.glb.latchClosed = true ∨ c = Instr.leaveService dt 0 0 ∧ s.Ready glbCmdReg) ∧ s.glb.leaving = false ∧
        s.glb.mode = Mode.boot) ∧
    (∃ (dt : Nat) (s : State) (c : Instr), s.glb.mode ≠ Mode.dormant ∧ (c = Instr.latchOpened dt ∧
        s.glb.latchClosed = true ∨ c = Instr.leaveService dt 0 0 ∧ s.Ready glbCmdReg) ∧ s.glb.leaving = false ∧
        s.glb.mode = Mode.active ∧ s.pair.ex = 0 ∧ s.kpr.frames = false) ∧
    (∃ (dt : Nat) (s : State) (c : Instr), s.glb.mode ≠ Mode.dormant ∧ (c = Instr.latchOpened dt ∧
        s.glb.latchClosed = true ∨ c = Instr.leaveService dt 0 0 ∧ s.Ready glbCmdReg) ∧ s.glb.leaving = false ∧
        s.glb.mode = Mode.active ∧ s.pair.ex ≠ 0) ∧
    (∃ (s : State), s.glb.mode ≠ Mode.dormant ∧ s.glb.leaveStep = 1 ∧ s.glb.mode ≠ Mode.active) ∧
    (∃ (s : State), s.glb.mode ≠ Mode.dormant ∧ s.glb.leaveStep = 4) ∧
    (∃ (s : State), s.glb.mode ≠ Mode.dormant ∧ s.glb.leaveStep = 5) :=
  ⟨⟨7, s0, Sys2Proof.Instr.latchOpened 7, by unfold State.Ready; decide +kernel⟩,
   ⟨7, s9, Sys2Proof.Instr.latchOpened 7, by unfold State.Ready; decide +kernel⟩,
   ⟨7, s0, by unfold State.Ready; decide +kernel⟩,
   ⟨7, s12, Sys2Proof.Instr.latchOpened 7, by unfold State.Ready; decide +kernel⟩,
   ⟨7, s0, Sys2Proof.Instr.latchOpened 7, by unfold State.Ready; decide +kernel⟩,
   ⟨7, s39, Sys2Proof.Instr.latchOpened 7, by unfold State.Ready; decide +kernel⟩,
   ⟨s40, by decide +kernel⟩,
   ⟨s41, by decide +kernel⟩,
   ⟨s42, by decide +kernel⟩⟩

theorem hyps_MaintenanceHandoverPowerAndHeat :
    (∃ (dt : Nat) (s : State) (force : Bool), s.Ready glbCmdReg ∧ s.FirstCause 6 dt ∧
        (s.elapse dt).maintOk force = true) ∧
    (∃ (dt : Nat) (s : State), s.Ready glbCmdReg ∧ s.FirstCause 6 dt ∧ (s.elapse dt).handoverReady = true ∧
        ((s.elapse dt).exRequest 1 false false).snd = true ∧ s.glb.leaving = false) ∧
    (∃ (s : State), s.pwr.below = true ∧ s.pwr.warned = false ∧ s.glb.mode ≠ Mode.dormant) ∧
    (∃ (s : State), s.pwr.below = true ∧ s.pwr.warned = false ∧ s.glb.mode ≠ Mode.dormant ∧ s.faultMode = true) ∧
    (∃ (s : State), s.pwr.below = true ∧ s.pwr.warned = false ∧ s.glb.mode ≠ Mode.dormant ∧ s.faultMode = false) ∧
    (∃ (s : State), s.pwr.below = true ∧ s.glb.mode ≠ Mode.dormant) ∧
    (∃ (s : State), s.glb.mode ≠ Mode.dormant) ∧
    (∃ (s : State), s.glb.mode ≠ Mode.dormant ∧ s.faultMode = false) ∧
    (∃ (s : State), s.glb.mode ≠ Mode.dormant ∧ s.faultMode = true ∧ s.pwr.overLimit = true ∧ s.pwr.limit = false) :=
  ⟨⟨7, s27, true, by unfold State.Ready State.FirstCause; decide +kernel⟩,
   ⟨7, s34, by unfold State.Ready State.FirstCause; decide +kernel⟩,
   ⟨s43, by decide +kernel⟩,
   ⟨s43, by decide +kernel⟩,
   ⟨s44, by decide +kernel⟩,
   ⟨s43, by decide +kernel⟩,
   ⟨s0, by decide +kernel⟩,
   ⟨s10, by decide +kernel⟩,
   ⟨s45, by decide +kernel⟩⟩

theorem hyps_TamperZeroesTheRoots :
    (∃ (i : Fin 7) (s : State), s.tamperHeeded i.val = true) ∧
    (∃ (i : Fin 7) (s : State), s.tamperHeeded i.val = true ∧ i.val = 6) ∧
    (∃ (i : Fin 7) (s : State), s.tamperHeeded i.val = true ∧ s.glb.mode = Mode.dormant) ∧
    (∃ (i : Fin 7) (s : State), s.tamperHeeded i.val = true ∧ s.glb.mode = Mode.boot) ∧
    (∃ (i : Fin 7) (s : State), s.tamperHeeded i.val = true ∧ s.faultMode = true) :=
  ⟨⟨0, s0, by decide +kernel⟩,
   ⟨6, s0, by decide +kernel⟩,
   ⟨0, s1, by decide +kernel⟩,
   ⟨0, s12, by decide +kernel⟩,
   ⟨0, s0, by decide +kernel⟩⟩

theorem hyps_BlockResetCompletes :
    (∃ (arg : BitVec 16) (s : State), s.Ready blockResetReg ∧
        resetKnown (arg.toNat / 1024) (arg.toNat % 1024) = true ∧
        (arg.toNat / 1024 = 9 → s.placedOn (arg.toNat % 1024) = [])) ∧
    (∃ (arg : BitVec 16) (s : State), s.Ready blockResetReg ∧
        resetKnown (arg.toNat / 1024) (arg.toNat % 1024) = true ∧
        (arg.toNat / 1024 = 9 → s.placedOn (arg.toNat % 1024) = []) ∧ arg.toNat / 1024 = 16) ∧
    (∃ (arg : BitVec 16) (s : State), s.Ready blockResetReg ∧
        resetKnown (arg.toNat / 1024) (arg.toNat % 1024) = true ∧
        (arg.toNat / 1024 = 9 → s.placedOn (arg.toNat % 1024) = []) ∧ arg.toNat / 1024 = 18) ∧
    (∃ (s : State), s.glb.blockReset.isSome = true) :=
  ⟨⟨4096, s0, by unfold State.Ready; decide +kernel⟩,
   ⟨16384, s0, by unfold State.Ready; decide +kernel⟩,
   ⟨18432, s0, by unfold State.Ready; decide +kernel⟩,
   ⟨s46, by decide +kernel⟩⟩

end WB

namespace WC

def lay : Section := sec 0x10 0 (bytesWith 64 [(0, 8), (16, 8), (20, 3)])

def setBody : List Byte := [1, 2, 3, 4, 5, 6, 7, 8]

def copy1 : List Byte := [0x47, 0x53, 0x45, 0x54] ++ leBytes 0 12 ++ leBytes 3 4 ++ leBytes 8 4 ++ leBytes (crc32 setBody).toNat 4 ++ leBytes 0 4 ++ setBody

def im1 : Image := { fmt := 1, flags := 0, gen := 3, sections := [lay] }

def im2 : Image := { fmt := 1, flags := 0, gen := 4, sections := [lay] }

def base (m : Mode) : State :=
  { mk m [lay] with
    kpr := { frames := true, synced := true },
    regs := [(0x20048, 3), (0x20040, 0x401), (0x20044, 4), (0x20038, 0xFFFFFFFF), (0x21000, 0x04030201), (0x2002C, 500)]
    img :=
     { run := some im1, loaded := true, settingsDone := true, areas := [(1, [9, 9, 9, 9, 9, 9, 9, 9])],
       nvm := [(2, copy1)], bank0 := { state := 3 } } }

def pending (m : Mode) : State :=
  { base m with
    img := { (base m).img with cand := some im2, bank1 := { state := 2 }, candBank := 1 } }

def s2 : State :=
  base .maintenance

def s12 : State :=
  { base .maintenance with img := { (base .maintenance).img with minGen := 2 } }

def s0 : State :=
  base .active

def s6 : State :=
  { base .active with img := { (base .active).img with loading := some [1, 2, 3] }, hst := { gen := 5 } }

def s4 : State :=
  pending .active

def s5 : State :=
  { pending .active with img := { (pending .active).img with reload := some 20 } }

def s8 : State :=
  { base .active with img := { (base .active).img with store := some { mask := 2, was := 2, snapped := true, copies := [(1, copy1)] } } }

def s3 : State :=
  base .commission

def s9 : State :=
  { base .active with img := { (base .active).img with pend := some { revert := false, area := 1, offset := 4, bytes := [7, 7, 7, 7], target := 8 } } }

def s10 : State :=
  { base .active with img := { (base .active).img with dirty := 2, pend := some { revert := true, area := 1, offset := 4, bytes := [7, 7, 7, 7], target := 8 } } }

def s11 : State :=
  { base .active with img := { (base .active).img with pend := some { revert := true, area := 0, offset := 4, bytes := [7, 7, 7, 7], target := 8 } } }

theorem hyps_MinGenNeverDecreases :
    (∃ (s : State), s.Ready imgCmdReg ∧ s.glb.mode = Mode.maintenance) ∧
    (∃ (s : State) (b : List Byte), (imgParse b).gen < s.img.minGen) :=
  ⟨⟨s2, by unfold State.Ready; decide +kernel⟩,
   ⟨s12, [], by decide +kernel⟩⟩

theorem hyps_CandidatesAreVerifiedAndClassified :
    (∃ (s : State), s.Ready imgCmdReg ∧ BitVec.toNat (s.rd 131108) % 4096 = 0 ∧ 384 ≤ BitVec.toNat (s.rd 131116) ∧
        BitVec.toNat (s.rd 131116) ≤ 268435456 ∧ s.candPending = false ∧ s.computing = true) ∧
    (∃ (s : State), s.Ready imgCmdReg ∧ BitVec.toNat (s.rd 131108) % 4096 = 0 ∧ 384 ≤ BitVec.toNat (s.rd 131116) ∧
        BitVec.toNat (s.rd 131116) ≤ 268435456 ∧ s.candPending = false ∧ s.glb.mode = Mode.maintenance ∧
        s.img.loading = none) ∧
    (∃ (s : State), Option.isSome (s.img.loading) = true) ∧
    (∃ (s : State), Option.isSome (s.img.loading) = true ∧ s.present 0 = true) :=
  ⟨⟨s0, by unfold State.Ready; decide +kernel⟩,
   ⟨s2, by unfold State.Ready; decide +kernel⟩,
   ⟨s6, by decide +kernel⟩,
   ⟨s6, by decide +kernel⟩⟩

theorem hyps_ReloadAndBankCommandsComplete :
    (∃ (dt : Nat) (n : Nat) (s : State), s.Ready imgCmdReg ∧ (s.elapse dt).targetTick 131128 131132 = some n ∧
        s.computing = true ∧ s.kpr.frames = true ∧ s.candPending = true ∧ s.img.cand.isSome = true ∧
        s.moveBefore n = false) ∧
    (∃ (dt : Nat) (n : Nat) (s : State), s.img.reload = some n ∧ Option.isSome (s.img.run) = true ∧
        Option.isSome (s.img.cand) = true ∧ s.img.reloadAtGap = false ∧ s.kpr.open_ = false ∧
        n ≤ tickAtOrAfter (s.elapse dt).now s.frameRate) ∧
    (∃ (s : State), s.img.reloadAtGap = false ∧ (s.img.reload = none ∧ s.Ready imgCmdReg ∧
        s.candPending = true ∨ s.img.reload.isSome = true)) ∧
    (∃ (s : State), s.img.reloadAtGap = false ∧ (s.img.reload = none ∧ s.Ready imgCmdReg ∧
        s.candPending = true ∨ s.img.reload.isSome = true) ∧ s.img.reload.isSome = true) ∧
    (∃ (s : State) (arg : BitVec 16), s.Ready imgCmdReg ∧ s.glb.mode = Mode.maintenance ∧ arg.toNat < 2) ∧
    (∃ (s : State), s.Ready imgCmdReg ∧ s.glb.mode = Mode.maintenance) :=
  ⟨⟨7, 48003, s4, by unfold State.Ready; decide +kernel⟩,
   ⟨7, 20, s5, by decide +kernel⟩,
   ⟨s4, by unfold State.Ready; decide +kernel⟩,
   ⟨s5, by unfold State.Ready; decide +kernel⟩,
   ⟨s2, 0, by unfold State.Ready; decide +kernel⟩,
   ⟨s2, by unfold State.Ready; decide +kernel⟩⟩

theorem hyps_SettingsCommandsComplete :
    (∃ (s : State), s.Ready imgCmdReg ∧ s.nvmMask ≠ 0 ∧
        (∀ (n : Nat), n < 64 → s.nvmMask.testBit n = true → s.areaLength n ≠ 0) ∧ s.computing = true) ∧
    (∃ (st : Store) (s : State), s.img.store = some st ∧ st.snapped = true) ∧
    (∃ (st : Store) (s : State) (n : Fin 64), s.img.store = some st ∧ st.snapped = true ∧
        (st.copies.any fun e => decide (e.fst = n.val)) = true) ∧
    (∃ (dt : Nat) (n : Nat) (s : State), s.Ready imgCmdReg ∧ s.computing = true ∧ s.kpr.frames = true ∧
        (s.elapse dt).targetTick 131128 131132 = some n ∧ s.img.reload ≠ some n ∧ s.rangeOk = true) ∧
    (∃ (dt : Nat) (n : Nat) (s : State) (arg : BitVec 16), s.Ready imgCmdReg ∧ s.computing = true ∧
        s.kpr.frames = true ∧ (s.elapse dt).targetTick 131128 131132 = some n ∧ s.img.reload ≠ some n ∧
        arg.toNat < 64 ∧ s.areaLength arg.toNat ≠ 0) ∧
    (∃ (s : State), s.Ready imgCmdReg ∧ s.glb.mode = Mode.commission ∧ s.img.loaded = true ∧ s.img.reload = none ∧
        s.rangeOk = true) ∧
    (∃ (s : State), s.Ready imgCmdReg ∧ s.img.loaded = true ∧ s.rangeOk = true) ∧
    (∃ (s : State), Option.isSome (s.img.pend) = true) ∧
    (∃ (p : SetPend) (s : State), s.img.pend = some p ∧ p.revert = false) ∧
    (∃ (p : SetPend) (s : State), s.img.pend = some p ∧ p.revert = true ∧ s.copyFault p.area = 0) ∧
    (∃ (p : SetPend) (s : State), s.img.pend = some p ∧ p.revert = true ∧ s.copyFault p.area ≠ 0) :=
  ⟨⟨s0, by unfold State.Ready; decide +kernel⟩,
   ⟨{ mask := 2, was := 2, snapped := true, copies := [(1, (bytesWith 40 [(0, 71), (1, 83), (2, 69), (3, 84), (16, 3), (20, 8), (24, 197), (25, 136), (26, 202), (27, 63), (32, 1), (33, 2), (34, 3), (35, 4), (36, 5), (37, 6), (38, 7), (39, 8)]))] }, s8, by decide +kernel⟩,
   ⟨{ mask := 2, was := 2, snapped := true, copies := [(1, (bytesWith 40 [(0, 71), (1, 83), (2, 69), (3, 84), (16, 3), (20, 8), (24, 197), (25, 136), (26, 202), (27, 63), (32, 1), (33, 2), (34, 3), (35, 4), (36, 5), (37, 6), (38, 7), (39, 8)]))] }, s8, 1, by decide +kernel⟩,
   ⟨7, 48003, s0, by unfold State.Ready; decide +kernel⟩,
   ⟨7, 48003, s0, 0, by unfold State.Ready; decide +kernel⟩,
   ⟨s3, by unfold State.Ready; decide +kernel⟩,
   ⟨s0, by unfold State.Ready; decide +kernel⟩,
   ⟨s9, by decide +kernel⟩,
   ⟨{ revert := false, area := 1, offset := 4, bytes := [0x07#8, 0x07#8, 0x07#8, 0x07#8], target := 8 }, s9, by decide +kernel⟩,
   ⟨{ revert := true, area := 1, offset := 4, bytes := [0x07#8, 0x07#8, 0x07#8, 0x07#8], target := 8 }, s10, by decide +kernel⟩,
   ⟨{ revert := true, area := 0, offset := 4, bytes := [0x07#8, 0x07#8, 0x07#8, 0x07#8], target := 8 }, s11, by decide +kernel⟩⟩

end WC

namespace WD

def fsec : Section := sec 8 5 (bytesWith 512 [(0, 1), (4, 0xE8), (5, 3), (0x18, 0x80), (0x1D, 1), (0x28, 0x02), (0x80 + 0x14, 64)])

def osec : Section := sec 5 0 (bytesWith 16384 [(8, 5), (9, 0)])

def base (m : Mode) : State :=
  { mk m [fsec, osec] with
    kpr := { frames := true, synced := true, open_ := true, tick := 40, funcs := [(5, { keeper := 2, state := 2, copyA := List.replicate 64 9, copyB := List.replicate 64 7 })],
             keepers := [(2, { cond := 0, awake := true })] } }

def s1 : State :=
  { base .active with kpr := { (base .active).kpr with open_ := false } }

def s2 : State :=
  { base .active with kpr := { (base .active).kpr with open_ := false, frames := false } }

def s0 : State :=
  base .active

theorem hyps_FramesOpenAndCommit :
    (∃ (dt : Nat) (s : State), s.time.stepped = true ∧ s.kpr.open_ = false ∧
        s.bcn.noTickBefore ≤ (s.elapse dt).tickHere ∧ s.tickDone (s.elapse dt).tickHere = false) ∧
    (∃ (dt : Nat) (s : State), s.time.stepped = true ∧ s.kpr.open_ = false ∧
        s.bcn.noTickBefore ≤ (s.elapse dt).tickHere ∧ s.tickDone (s.elapse dt).tickHere = false ∧
        s.kpr.frames = true) ∧
    (∃ (dt : Nat) (s : State), s.time.stepped = true ∧ s.kpr.open_ = false ∧
        s.bcn.noTickBefore ≤ (s.elapse dt).tickHere ∧ s.tickDone (s.elapse dt).tickHere = false ∧
        s.kpr.frames = false) ∧
    (∃ (s : State), s.kpr.frames = true ∧ s.kpr.open_ = true) ∧
    (∃ (s : State), s.kpr.frames = true ∧ s.kpr.open_ = true ∧ (∀ (f : Nat), (s.fn f).policy ≠ 1) ∧
        s.pair.items = []) :=
  ⟨⟨7, s1, by decide +kernel⟩,
   ⟨7, s1, by decide +kernel⟩,
   ⟨7, s2, by decide +kernel⟩,
   ⟨s0, by decide +kernel⟩,
   ⟨{ mk .active [] with kpr := { frames := true, open_ := true } }, by decide +kernel, by decide +kernel, fun _ => (by decide : (0 : Nat) ≠ 1), by decide +kernel⟩⟩

end WD

namespace WE

def fsec (i : Nat) : Section := sec 8 i (bytesWith 512 [(0, 1), (4, 0xE8), (5, 3), (0x18, 0x80), (0x1D, 1), (0x21, 1),(0x20,0xC0), (0x28, 0x02), (0x80 + 0x14, 64)])

def osec : Section := sec 7 0 (bytesWith 16384 ([(0, 0xC0), (1, 0x12), (0xA, 48), (0xB, 48), (2,48), (3, 48),  (4, 0xFF), (5, 0xFF), (6, 3), (0x2120 + 32, 5), (0x2120+4, 1)] ++ (List.range 16).map (fun k => (0x20 + 16 * k, 9))))

def fogF : Fog := { mode := 4, flags := 1 }

def base (m : Mode) : State :=
  let s := mk m [fsec 5, fsec 6, osec, sec 0xF 0 (bytesWith 64 [(0xC, 1)])]
  { s with
    regs := [(0x600014, 0xFFFFFFFF), (0x600040, 5 + 4 * 65536), (0x600044, 6 + 2 * 65536)]
    kpr := { frames := true, synced := true, open_ := false, tick := 40,
             funcs := [(5, { keeper := 2, state := 1, reserve := 100, divisor := 1, order := 1, copyA := List.replicate 64 9, copyB := List.replicate 64 7 }),
                       (6, { keeper := 3, state := 3, reserve := 100, divisor := 2, order := 2, epoch := 2 , consec := 3}), (7, { keeper := 3, state := 3, unplaced := true, reserve := 100, divisor := 2, order := 2 }), (512, { keeper := 2, state := 1, epoch := 0 })],
             keepers := [(2, { cond := 0, awake := false, run := some 5 }), (7, { cond := 4 }), (8, { cond := 3, cause := 1 })] } }

def kp (s : State) (f : KprUnit → KprUnit) : State := { s with kpr := f s.kpr }

def mg (id k e : Nat) (late : Bool) : Merge := { id := id, keeper := k, epoch := e, frame := 40, writes := [(3, true), (4, false), (3, false)], events := [], notOwned := false, written := 0, released := false, late := late }

def par (s : State) : State := { s with pair := { s.pair with alive := true, fog := fogF } }

def PP.m : List Merge := [mg 5 2 0 false, mg 5 2 1 false, mg 5 2 1 true, mg 512 2 4 false]

def PP.s : List State := [base .active, base .standby, base .maintenance, base .dormant, base .test, par (base .active)] ++
  PP.m.map (fun m => kp (base .active) (fun k => { k with merge := [m, mg 6 3 2 false] })) ++
  [kp (base .active) (fun k => { k with replace := [{ keeper := 2, target := 20, failed := false }] }),
   kp (base .active) (fun k => { k with replace := [{ keeper := 2, target := 20, failed := false }, { keeper := 3, target := 20, failed := false }] }),
   kp (base .active) (fun k => { k with replace := [{ keeper := 2, target := 200000, failed := false }] }),
   kp (base .active) (fun k => { k with wait := some (.move [(5, 4)] 9) }),
   kp (base .active) (fun k => { k with wait := some (.move [(5, 8)] 9) }),
   kp (base .active) (fun k => { k with wait := some (.move [(5, 4), (6, 4)] 9) }),
   kp (base .active) (fun k => { k with wait := some (.restart 6 4 9) }),
   kp (base .active) (fun k => { k with wait := some (.restart 7 4 9) }),
   kp (base .active) (fun k => { k with wait := some (.test 3) })]

theorem hyps_FramesOpenAndCommit :
    (∃ (dt : Nat) (k : Fin 16) (s : State), (s.keeper k.val).cond = 0 ∧ s.kpr.frames = true ∧
        s.dueRuns k.val (tickAtOrAfter (s.elapse dt).now s.frameRate % 2 ^ 32) ≠ []) :=
  ⟨7, 2, (PP.s[0]'(by decide)), by decide +kernel⟩

theorem hyps_ResultReleaseAndKeeperFaults :
    (∃ (k : Fin 16) (m : Merge) (s : State), List.find? (fun m => decide (m.keeper = k.val) && !m.released) s.kpr.merge = some m) ∧
    (∃ (k : Fin 16) (m : Merge) (s : State), List.find? (fun m => decide (m.keeper = k.val) && !m.released) s.kpr.merge = some m ∧
        m.late = false ∧ (isGuest m.id = true ∨ (s.fn m.id).epoch = m.epoch)) ∧
    (∃ (k : Fin 16) (m : Merge) (s : State), List.find? (fun m => decide (m.keeper = k.val) && !m.released) s.kpr.merge = some m ∧
        m.late = false ∧ isGuest m.id = false ∧ (s.fn m.id).epoch ≠ m.epoch) ∧
    (∃ (k : Fin 16) (m : Merge) (s : State), List.find? (fun m => decide (m.keeper = k.val) && !m.released) s.kpr.merge = some m ∧
        m.late = true) ∧
    (∃ (dt : Nat) (k : Fin 16) (c : Instr) (cause : Nat) (kind : FaultKind) (s : State), (c = Instr.lockstepMiscompare dt k ∧
        cause = 1 ∧ kind = FaultKind.miscompare ∨ (∃ bad, c = Instr.keeperSramEcc dt k false bad ∧ cause = 2 ∧
        kind = FaultKind.keeperEcc) ∨ ∃ bad, c = Instr.keeperSramEcc dt k true bad ∧ cause = 3 ∧
        kind = FaultKind.keeperEcc) ∧ (s.keeper k.val).cond = 0) ∧
    (∃ (dt : Nat) (k : Fin 16) (c : Instr) (cause : Nat) (kind : FaultKind) (s : State), (c = Instr.lockstepMiscompare dt k ∧
        cause = 1 ∧ kind = FaultKind.miscompare ∨ (∃ bad, c = Instr.keeperSramEcc dt k false bad ∧ cause = 2 ∧
        kind = FaultKind.keeperEcc) ∨ ∃ bad, c = Instr.keeperSramEcc dt k true bad ∧ cause = 3 ∧
        kind = FaultKind.keeperEcc) ∧ (s.keeper k.val).cond = 0 ∧
        ((s.elapse dt).faultActs kind = false ∨ s.faultMode = false)) ∧
    (∃ (dt : Nat) (k : Fin 16) (c : Instr) (cause : Nat) (kind : FaultKind) (s : State), (c = Instr.lockstepMiscompare dt k ∧
        cause = 1 ∧ kind = FaultKind.miscompare ∨ (∃ bad, c = Instr.keeperSramEcc dt k false bad ∧ cause = 2 ∧
        kind = FaultKind.keeperEcc) ∨ ∃ bad, c = Instr.keeperSramEcc dt k true bad ∧ cause = 3 ∧
        kind = FaultKind.keeperEcc) ∧ (s.keeper k.val).cond = 0 ∧ (s.elapse dt).faultActs kind = true ∧
        s.faultMode = true) ∧
    (∃ (s : State), s.kpr.open_ = false) :=
  ⟨⟨2, { id := 5, keeper := 2, epoch := 0, frame := 40, writes := [(3, true), (4, false), (3, false)], events := [], notOwned := false, written := 0, released := false, late := false }, (PP.s[6]'(by decide)), by decide +kernel⟩,
   ⟨2, { id := 5, keeper := 2, epoch := 0, frame := 40, writes := [(3, true), (4, false), (3, false)], events := [], notOwned := false, written := 0, released := false, late := false }, (PP.s[6]'(by decide)), by decide +kernel⟩,
   ⟨2, { id := 5, keeper := 2, epoch := 1, frame := 40, writes := [(3, true), (4, false), (3, false)], events := [], notOwned := false, written := 0, released := false, late := false }, (PP.s[7]'(by decide)), by decide +kernel⟩,
   ⟨2, { id := 5, keeper := 2, epoch := 1, frame := 40, writes := [(3, true), (4, false), (3, false)], events := [], notOwned := false, written := 0, released := false, late := true }, (PP.s[8]'(by decide)), by decide +kernel⟩,
   ⟨7, 2, Sys2Proof.Instr.lockstepMiscompare 7 2, 1, Sys2Proof.Machine.FaultKind.miscompare, (PP.s[0]'(by decide)), ⟨.inl ⟨rfl, rfl, rfl⟩, by decide +kernel⟩⟩,
   ⟨7, 2, Sys2Proof.Instr.lockstepMiscompare 7 2, 1, Sys2Proof.Machine.FaultKind.miscompare, (PP.s[0]'(by decide)), ⟨.inl ⟨rfl, rfl, rfl⟩, by decide +kernel⟩⟩,
   ⟨7, 2, Sys2Proof.Instr.lockstepMiscompare 7 2, 1, Sys2Proof.Machine.FaultKind.miscompare, (PP.s[5]'(by decide)), ⟨.inl ⟨rfl, rfl, rfl⟩, by decide +kernel⟩⟩,
   ⟨(PP.s[0]'(by decide)), by decide +kernel⟩⟩

theorem hyps_MovesRestartsAndReturnsComplete :
    (∃ (dt : Nat) (n : Nat) (arg : BitVec 16) (s : State), s.Ready kprCmdReg ∧
        (s.elapse dt).targetTick 6291476 6291480 = some n ∧ 1 ≤ arg.toNat ∧ arg.toNat ≤ 8 ∧
        s.moveArg (s.moveEntries arg.toNat) = true ∧ s.kprMode = true ∧ s.kpr.frames = true ∧
        s.moveOk (s.moveEntries arg.toNat) n = true) ∧
    (∃ (dt : Nat) (arg : BitVec 16) (s : State), s.Ready kprCmdReg ∧
        Option.isSome ((s.elapse dt).targetTick 6291476 6291480) = true ∧ arg.toNat / 512 % 2 = 0 ∧
        arg.toNat < 16384 ∧ s.kprMode = true ∧ s.kpr.frames = true ∧ (s.fn (arg.toNat % 512)).state = 3 ∧
        ((s.fn (arg.toNat % 512)).unplaced = false ∨ s.canTake (arg.toNat % 512) (arg.toNat / 1024 % 16) = true)) ∧
    (∃ (arg : BitVec 16) (s : State), s.Ready kprCmdReg ∧ arg.toNat < 16 ∧ s.kpr.frames = true ∧
        (s.keeper arg.toNat).cond = 4) :=
  ⟨⟨7, 48003, 1, (PP.s[0]'(by decide)), by unfold State.Ready; decide +kernel⟩,
   ⟨7, 7, (PP.s[0]'(by decide)), by unfold State.Ready; decide +kernel⟩,
   ⟨7, (PP.s[0]'(by decide)), by unfold State.Ready; decide +kernel⟩⟩

end WE

namespace WE2

def fsec (i : Nat) : Section := sec 8 i (bytesWith 512 [(0, 1), (4, 0xE8), (5, 3), (0x18, 0x80), (0x1D, 1), (0x21, 1),(0x20,0xC0), (0x28, 0x02), (0x80 + 0x14, 64)])

def osec : Section := sec 7 0 (bytesWith 16384 ([(0, 0xC0), (1, 0x12), (0xA, 48), (0xB, 48), (2,48), (3, 48),  (4, 0xFF), (5, 0xFF), (6, 3), (0x2120 + 32, 5), (0x2120+4, 1)] ++ (List.range 16).map (fun k => (0x20 + 16 * k, 9))))

def fogF : Fog := { mode := 4, flags := 1 }

def base (m : Mode) : State :=
  let s := mk m [fsec 5, fsec 6, osec, sec 0xF 0 (bytesWith 64 [(0xC, 1)])]
  { s with
    regs := [(0x600014, 0xFFFFFFFF), (0x600040, 5 + 4 * 65536), (0x600044, 6 + 2 * 65536)]
    kpr := { frames := true, synced := true, open_ := false, tick := 40,
             funcs := [(5, { keeper := 2, state := 1, reserve := 100, divisor := 1, order := 1, copyA := List.replicate 64 9, copyB := List.replicate 64 7 }),
                       (6, { keeper := 3, state := 3, reserve := 100, divisor := 2, order := 2, epoch := 2 , consec := 3}), (7, { keeper := 3, state := 3, unplaced := true, reserve := 100, divisor := 2, order := 2 }), (512, { keeper := 2, state := 1, epoch := 0 })],
             keepers := [(2, { cond := 0, awake := false, run := some 5 }), (7, { cond := 4 }), (8, { cond := 3, cause := 1 })] } }

def kp (s : State) (f : KprUnit → KprUnit) : State := { s with kpr := f s.kpr }

def mg (id k e : Nat) (late : Bool) : Merge := { id := id, keeper := k, epoch := e, frame := 40, writes := [(3, true), (4, false), (3, false)], events := [], notOwned := false, written := 0, released := false, late := late }

def par (s : State) : State := { s with pair := { s.pair with alive := true, fog := fogF } }

def PP.m : List Merge := [mg 5 2 0 false, mg 5 2 1 false, mg 5 2 1 true, mg 512 2 4 false]

def PP.s : List State := [base .active, base .standby, base .maintenance, base .dormant, base .test, par (base .active)] ++
  PP.m.map (fun m => kp (base .active) (fun k => { k with merge := [m, mg 6 3 2 false] })) ++
  [kp (base .active) (fun k => { k with replace := [{ keeper := 2, target := 20, failed := false }] }),
   kp (base .active) (fun k => { k with replace := [{ keeper := 2, target := 20, failed := false }, { keeper := 3, target := 20, failed := false }] }),
   kp (base .active) (fun k => { k with replace := [{ keeper := 2, target := 200000, failed := false }] }),
   kp (base .active) (fun k => { k with wait := some (.move [(5, 4)] 9) }),
   kp (base .active) (fun k => { k with wait := some (.move [(5, 8)] 9) }),
   kp (base .active) (fun k => { k with wait := some (.move [(5, 4), (6, 4)] 9) }),
   kp (base .active) (fun k => { k with wait := some (.restart 6 4 9) }),
   kp (base .active) (fun k => { k with wait := some (.restart 7 4 9) }),
   kp (base .active) (fun k => { k with wait := some (.test 3) })]

theorem hyps_MovesRestartsAndReturnsComplete :
    (∃ (n : Nat) (es : List (Nat × Nat)) (s : State), s.kpr.wait = some (KprWait.move es n) ∧
        (List.map (fun x => x.fst) es).Nodup) ∧
    (∃ (n : Nat) (es : List (Nat × Nat)) (s : State), s.kpr.wait = some (KprWait.move es n) ∧
        (List.map (fun x => x.fst) es).Nodup ∧ (∀ (e : Nat × Nat), e ∈ es → (s.keeper e.snd).cond = 0 ∧
        (s.fn e.fst).state = 1)) ∧
    (∃ (n : Nat) (es : List (Nat × Nat)) (s : State), s.kpr.wait = some (KprWait.move es n) ∧
        (List.map (fun x => x.fst) es).Nodup ∧ (∃ e, e ∈ es ∧
        ((s.keeper e.snd).cond ≠ 0 ∨ (s.fn e.fst).state ≠ 1))) ∧
    (∃ (f : Nat) (k : Nat) (n : Nat) (s : State), s.kpr.wait = some (KprWait.restart f k n) ∧
        ((s.fn f).unplaced = false ∨ (s.keeper k).cond = 0)) ∧
    (∃ (f : Nat) (k : Nat) (n : Nat) (s : State), s.kpr.wait = some (KprWait.restart f k n) ∧
        ((s.fn f).unplaced = false ∨ (s.keeper k).cond = 0) ∧ (s.fn f).unplaced = true) ∧
    (∃ (k : Nat) (s : State), s.kpr.wait = some (KprWait.test k)) :=
  ⟨⟨9, [(5, 4)], (PP.s[13]'(by decide)), by decide +kernel⟩,
   ⟨9, [(5, 4)], (PP.s[13]'(by decide)), by decide +kernel⟩,
   ⟨9, [(5, 8)], (PP.s[14]'(by decide)), by decide +kernel⟩,
   ⟨6, 4, 9, (PP.s[16]'(by decide)), by decide +kernel⟩,
   ⟨7, 4, 9, (PP.s[17]'(by decide)), by decide +kernel⟩,
   ⟨3, (PP.s[18]'(by decide)), by decide +kernel⟩⟩

end WE2

namespace WF1

def prole (p role fl hold : Nat) : List (Nat × Byte) := [(16*p, BitVec.ofNat 8 role), (16*p+3, BitVec.ofNat 8 fl), (16*p+4, BitVec.ofNat 8 hold), (16*p+6, 0xEE), (16*p+7, 5), (16*p+8, 0x3F), (16*p+0xC, 2)]

def roles (hold : Nat) : Section := sec 1 0 (bytesWith 640 (((List.range 33).flatMap (fun p => prole p (if p < 4 then 5 else if p < 16 then 2 else if p < 20 then 5 else if p < 24 then 6 else if p < 32 then 7 else 4) (if p < 16 then 1 else 3) hold))))

def ent (etype : Nat) (mask outs : Nat) (cls fl : Byte) : List Byte := List.replicate 6 0 ++ leBytes etype 2 ++ leBytes 0 2 ++ leBytes 0 2 ++ leBytes mask 4 ++ leBytes outs 4 ++ [cls, fl] ++ leBytes 0 2 ++ List.replicate 8 0

def clsec : Section := sec 2 0 (leBytes 2 4 ++ List.replicate 12 0 ++ ent 0x1234 0xFFFFFFFF (2^24) 3 2 ++ ent 0x1235 0xFFFFFFFF (2^25+2^3) 3 2)

def grp : Section := sec 3 0 (leBytes 2 2 ++ List.replicate 14 0 ++ [2, 0, 1, 0, 0, 0, 0, 0] ++ [1, 16, 17, 0, 0, 0, 0, 0])

def up : Port := { linkUp := true, trained := true, speed := 4, fecActive := true, modPresent := true }

def base (m : Mode) (hold : Nat := 5) : State :=
  { mk m [roles hold, clsec, grp] with ports := (List.range 33).map (fun p => (p, up)) }

def sp (s : State) (f : Port → Port) : State := { s with ports := s.ports.map (fun e => (e.1, f e.2)) }

def fr1 : Frame := { dst := 5, src := 6, vlans := [], etherType := 0x1234, payload := List.replicate 50 1, red := none }

def qf (i o c : Nat) : QFrame := { mkQ i o c fr1 3 with epoch := 0 }

def f0 : Frame :=
  fr1

def s0 : State :=
  base .active

def f2 : Frame :=
  { fr1 with etherType := 0x1236 }

def s16 : State :=
  sp ({ base .active with rdg := { queues := (List.range 9).map (fun _ => qf 1 2 3)  } }) (fun p => { p with xoffSent := [3] })

def s6 : State :=
  sp (base .active) (fun p => { p with paused := [2, 3], xoffSent := [1, 3], wdogReleased := [3] })

def s11 : State :=
  sp (base .active) (fun p => { p with quiet := 59 })

def s13 : State :=
  sp (base .active) (fun p => { p with low := true, hot10 := 9 })

def s14 : State :=
  sp (base .active) (fun p => { p with low := true, hot10 := 3 })

def s15 : State :=
  sp (base .active) (fun p => { p with reneg := some 3 })

def s17 : State :=
  { base .active with rdg := { t1s := [qf 5 24 4] } }

theorem hyps_PortsReceiveAndPause :
    (∃ (p : Fin 33) (len : BitVec 16) (s : State) (bad : RxBad), s.portOn p.val = true ∧
        (s.port p.val).adminDown = false ∧ s.role p.val ≠ 0 ∧ (s.port p.val).holdDown = false ∧
        s.linkUp p.val = true ∧ len.toNat < 64 ∧ Option.isSome (s.rxCheck p.val len.toNat bad) = true) ∧
    (∃ (p : Fin 33) (f : Frame) (len : BitVec 16) (s : State), s.portOn p.val = true ∧
        (s.port p.val).adminDown = false ∧ s.role p.val ≠ 0 ∧ (s.port p.val).holdDown = false ∧
        s.linkUp p.val = true ∧ s.rxCheck p.val len.toNat RxBad.none = none ∧ f.etherType ≠ 34824 ∧ f.red = none ∧
        f.isPtp = false ∧ s.groupOf p.val = none ∧ f.ipCode ≠ 2 ∧ f.l4Code ≠ 2 ∧
        s.routeFrame p.val f 0 s.classEnd = none) ∧
    (∃ (p : Fin 33) (f : Frame) (len : BitVec 16) (s : State) (x : Nat) (cls : Nat), s.portOn p.val = true ∧
        (s.port p.val).adminDown = false ∧ s.role p.val ≠ 0 ∧ (s.port p.val).holdDown = false ∧
        s.linkUp p.val = true ∧ s.rxCheck p.val len.toNat RxBad.none = none ∧ f.etherType ≠ 34824 ∧ f.red = none ∧
        f.isPtp = false ∧ s.groupOf p.val = none ∧ f.ipCode ≠ 2 ∧ f.l4Code ≠ 2 ∧
        s.routeFrame p.val f 0 s.classEnd = some ([x], cls, none) ∧ 33 ≤ x ∧ x ≠ 59 ∧ x ≠ 60 ∧
        s.admits x cls (cellsOf f.octets) = true) ∧
    (∃ (p : Fin 33) (s : State), s.portOn p.val = true ∧ (s.port p.val).adminDown = false ∧ s.role p.val ≠ 0 ∧
        (s.port p.val).holdDown = false) ∧
    (∃ (p : Fin 33) (s : State), s.portOn p.val = true ∧ (s.port p.val).adminDown = false ∧ s.role p.val ≠ 0 ∧
        (s.port p.val).holdDown = false ∧ s.pfcOn p.val = true) ∧
    (∃ (p : Fin 33) (c : Fin 6) (s : State), (s.port p.val).xoffSent.contains c.val = true ∧
        s.portField p.val 12 2 * 1024 < 2 * s.occupancy p.val c.val) ∧
    (∃ (p : Fin 33) (c : Fin 6) (s : State), (s.port p.val).paused.contains c.val = true) :=
  ⟨⟨0, 54, s0, Sys2Proof.RxBad.none, by decide +kernel⟩,
   ⟨4, f2, 70, s0, by decide +kernel⟩,
   ⟨4, f0, 70, s0, 57, 3, by decide +kernel⟩,
   ⟨0, s0, by decide +kernel⟩,
   ⟨16, s0, by decide +kernel⟩,
   ⟨1, 3, s16, by decide +kernel⟩,
   ⟨0, 2, s6, by decide +kernel⟩⟩

theorem hyps_DownshiftAndT1sComplete :
    (∃ (p : Fin 33) (u : Fin 10001) (s : State), s.shiftRuns p.val = true ∧ s.otherReady p.val = true ∧
        s.otherMember p.val ≠ some p.val ∧ (s.port p.val).low = false ∧ u.val < 200 ∧ s.otherHigh p.val = true ∧
        59 ≤ (s.port p.val).quiet) ∧
    (∃ (p : Fin 33) (u : Fin 10001) (s : State), s.shiftRuns p.val = true ∧ s.otherReady p.val = true ∧
        s.otherMember p.val ≠ some p.val ∧ (s.port p.val).low = false ∧ u.val < 200 ∧ s.otherHigh p.val = true ∧
        (s.port p.val).quiet < 59) ∧
    (∃ (p : Fin 33) (u : Fin 10001) (s : State), s.shiftRuns p.val = true ∧ (s.port p.val).low = true ∧
        s.otherReady p.val = true ∧ 2000 < u.val) ∧
    (∃ (p : Fin 33) (u : Fin 10001) (s : State), s.shiftRuns p.val = true ∧ (s.port p.val).low = true ∧
        s.otherReady p.val = true ∧ 2000 < u.val ∧ 9 ≤ (s.port p.val).hot10) ∧
    (∃ (p : Fin 33) (u : Fin 10001) (s : State), s.shiftRuns p.val = true ∧ (s.port p.val).low = true ∧
        s.otherReady p.val = true ∧ 2000 < u.val ∧ (s.port p.val).hot10 < 9) ∧
    (∃ (p : Fin 33) (s : State), (s.port p.val).reneg.isSome = true) ∧
    (∃ (dt : Nat) (p : Fin 33) (q : QFrame) (s : State), 24 ≤ p.val ∧ p.val < 32 ∧
        (s.elapse dt).egressIdle p.val = true ∧ List.find? (fun q => decide (q.out = p.val)) s.rdg.t1s = some q) ∧
    (∃ (dt : Nat) (p : Fin 33) (q : QFrame) (s : State), 24 ≤ p.val ∧ p.val < 32 ∧
        (s.elapse dt).egressIdle p.val = true ∧ List.find? (fun q => decide (q.out = p.val)) s.rdg.t1s = some q ∧
        (s.port p.val).t1sTries < 15) :=
  ⟨⟨0, 5, s11, by decide +kernel⟩,
   ⟨0, 5, s0, by decide +kernel⟩,
   ⟨0, 2001, s13, by decide +kernel⟩,
   ⟨0, 2001, s13, by decide +kernel⟩,
   ⟨0, 2001, s14, by decide +kernel⟩,
   ⟨0, s15, by decide +kernel⟩,
   ⟨7, 24, { ingress := 5, out := 24, cls := 4, cells := 1, epoch := 0, frame := { dst := 5, src := 6, vlans := [], etherType := 4660, payload := (List.replicate 50 1), red := none }, rxTime := 3, ipSum := false, l4Sum := false, tc := none, host := none, ts := false }, s17, by decide +kernel⟩,
   ⟨7, 24, { ingress := 5, out := 24, cls := 4, cells := 1, epoch := 0, frame := { dst := 5, src := 6, vlans := [], etherType := 4660, payload := (List.replicate 50 1), red := none }, rxTime := 3, ipSum := false, l4Sum := false, tc := none, host := none, ts := false }, s17, by decide +kernel⟩⟩

end WF1

namespace WF

def prole (p role fl hold : Nat) : List (Nat × Byte) := [(16*p, BitVec.ofNat 8 role), (16*p+3, BitVec.ofNat 8 fl), (16*p+4, BitVec.ofNat 8 hold), (16*p+6, 0xEE), (16*p+7, 5), (16*p+8, 0x3F), (16*p+0xC, 2)]

def roles (hold : Nat) : Section := sec 1 0 (bytesWith 640 (((List.range 33).flatMap (fun p => prole p (if p < 4 then 5 else if p < 16 then 2 else if p < 20 then 5 else if p < 24 then 6 else if p < 32 then 7 else 4) (if p < 16 then 1 else 3) hold))))

def ent (etype : Nat) (mask outs : Nat) (cls fl : Byte) : List Byte := List.replicate 6 0 ++ leBytes etype 2 ++ leBytes 0 2 ++ leBytes 0 2 ++ leBytes mask 4 ++ leBytes outs 4 ++ [cls, fl] ++ leBytes 0 2 ++ List.replicate 8 0

def clsec : Section := sec 2 0 (leBytes 2 4 ++ List.replicate 12 0 ++ ent 0x1234 0xFFFFFFFF (2^24) 3 2 ++ ent 0x1235 0xFFFFFFFF (2^25+2^3) 3 2)

def grp : Section := sec 3 0 (leBytes 2 2 ++ List.replicate 14 0 ++ [2, 0, 1, 0, 0, 0, 0, 0] ++ [1, 16, 17, 0, 0, 0, 0, 0])

def up : Port := { linkUp := true, trained := true, speed := 4, fecActive := true, modPresent := true }

def base (m : Mode) (hold : Nat := 5) : State :=
  { mk m [roles hold, clsec, grp] with ports := (List.range 33).map (fun p => (p, up)) }

def sp (s : State) (f : Port → Port) : State := { s with ports := s.ports.map (fun e => (e.1, f e.2)) }

def s0 : State :=
  base .active

def s7 : State :=
  sp (base .active) (fun p => { p with holdAtUp := true, linkUp := false, trained := false })

def s9 : State :=
  sp (base .active) (fun p => { p with holdDown := true, trained := false, linkUp := false })

def s4 : State :=
  base .commission

def s18 : State :=
  sp (base .maintenance) (fun p => { p with adminDown := true, holdDown := true })

theorem hyps_LinksComeAndGo :
    (∃ (p : Fin 33) (s : State), (p.val < 24 ∨ p.val = 32) ∧ s.portOn p.val = true ∧
        (s.port p.val).adminDown = false) ∧
    (∃ (p : Fin 33) (s : State), (p.val < 24 ∨ p.val = 32) ∧ s.portOn p.val = true ∧
        (s.port p.val).adminDown = false ∧ s.holdMs p.val ≠ 0) ∧
    (∃ (p : Fin 33) (speed : Fin 6) (s : State), (s.port p.val).adminDown = false ∧
        ((s.port p.val).modMismatch = false) ∧ speed.val ≠ 0 ∧ s.role p.val ≠ 0 ∧ (s.port p.val).reneg = none) ∧
    (∃ (p : Fin 33) (speed : Fin 6) (s : State), (s.port p.val).adminDown = false ∧
        ((s.port p.val).modMismatch = false) ∧ speed.val ≠ 0 ∧ s.role p.val ≠ 0 ∧ (s.port p.val).reneg = none ∧
        (s.port p.val).holdAtUp = true ∧ s.holdMs p.val ≠ 0) ∧
    (∃ (p : Fin 33) (speed : Fin 6) (s : State), (s.port p.val).adminDown = false ∧
        ((s.port p.val).modMismatch = false) ∧ speed.val ≠ 0 ∧ s.role p.val ≠ 0 ∧ (s.port p.val).reneg = none ∧
        ((s.port p.val).holdAtUp = false ∨ s.holdMs p.val = 0) ∧ (s.port p.val).holdDown = false) ∧
    (∃ (p : Fin 33) (s : State), (s.port p.val).holdDown = true) ∧
    (∃ (p : Fin 33), p.val < 20) ∧
    (∃ (p : Fin 33) (present : Bool) (mismatch : Bool) (s : State), p.val < 20 ∧ (s.port p.val).trained = true ∧
        (present = false ∨ mismatch = true)) ∧
    (∃ (p : Fin 33) (s : State), (s.port p.val).localFault = false) ∧
    (∃ (p : Fin 33) (s : State), (s.port p.val).remoteFault = false) :=
  ⟨⟨0, s0, by decide +kernel⟩,
   ⟨0, s0, by decide +kernel⟩,
   ⟨0, 1, s0, by decide +kernel⟩,
   ⟨0, 1, s7, by decide +kernel⟩,
   ⟨0, 1, s0, by decide +kernel⟩,
   ⟨0, s9, by decide +kernel⟩,
   ⟨0, by decide +kernel⟩,
   ⟨0, false, false, s0, by decide +kernel⟩,
   ⟨0, s0, by decide +kernel⟩,
   ⟨0, s0, by decide +kernel⟩⟩

theorem hyps_PortAndRidgeCommandsComplete :
    (∃ (p : Fin 33) (s : State), s.Ready (macBase p.val) ∧ s.adminMode p.val = true) ∧
    (∃ (p : Fin 33) (s : State), s.Ready (macBase p.val) ∧ s.adminMode p.val = true ∧
        (s.port p.val).adminDown = true) ∧
    (∃ (p : Fin 33) (s : State), s.Ready (macBase p.val) ∧ s.img.loaded = true ∧ s.downshiftOn p.val = true) ∧
    (∃ (p : Fin 33) (s : State), s.Ready (macBase p.val) ∧ s.img.loaded = true ∧ s.downshiftOn p.val = true) ∧
    (∃ (s : State), s.Ready rdgCmdReg ∧ s.img.loaded = true) ∧
    (∃ (s : State) (arg : BitVec 16), s.Ready rdgCmdReg ∧ arg.toNat < 3 ∧ s.inService = true ∧
        (arg.toNat ≠ 2 → s.rdg.fault0 = false) ∧ (arg.toNat ≠ 1 → s.rdg.fault1 = false)) ∧
    (∃ (s : State) (arg : BitVec 16), s.Ready rdgCmdReg ∧ arg.toNat < 24 ∧ s.inService = true ∧
        (s.port arg.toNat).holdDown = true) :=
  ⟨⟨0, s4, by unfold State.Ready; decide +kernel⟩,
   ⟨0, s18, by unfold State.Ready; decide +kernel⟩,
   ⟨0, s0, by unfold State.Ready; decide +kernel⟩,
   ⟨0, s0, by unfold State.Ready; decide +kernel⟩,
   ⟨s0, by unfold State.Ready; decide +kernel⟩,
   ⟨s4, 0, by unfold State.Ready; decide +kernel⟩,
   ⟨s18, 0, by unfold State.Ready; decide +kernel⟩⟩

end WF

namespace WF2

def prole (p role fl hold : Nat) : List (Nat × Byte) := [(16*p, BitVec.ofNat 8 role), (16*p+3, BitVec.ofNat 8 fl), (16*p+4, BitVec.ofNat 8 hold), (16*p+6, 0xEE), (16*p+7, 5), (16*p+8, 0x3F), (16*p+0xC, 2)]

def roles (hold : Nat) : Section := sec 1 0 (bytesWith 640 (((List.range 33).flatMap (fun p => prole p (if p < 4 then 5 else if p < 16 then 2 else if p < 20 then 5 else if p < 24 then 6 else if p < 32 then 7 else 4) (if p < 16 then 1 else 3) hold))))

def ent (etype : Nat) (mask outs : Nat) (cls fl : Byte) : List Byte := List.replicate 6 0 ++ leBytes etype 2 ++ leBytes 0 2 ++ leBytes 0 2 ++ leBytes mask 4 ++ leBytes outs 4 ++ [cls, fl] ++ leBytes 0 2 ++ List.replicate 8 0

def clsec : Section := sec 2 0 (leBytes 2 4 ++ List.replicate 12 0 ++ ent 0x1234 0xFFFFFFFF (2^24) 3 2 ++ ent 0x1235 0xFFFFFFFF (2^25+2^3) 3 2)

def grp : Section := sec 3 0 (leBytes 2 2 ++ List.replicate 14 0 ++ [2, 0, 1, 0, 0, 0, 0, 0] ++ [1, 16, 17, 0, 0, 0, 0, 0])

def up : Port := { linkUp := true, trained := true, speed := 4, fecActive := true, modPresent := true }

def base (m : Mode) (hold : Nat := 5) : State :=
  { mk m [roles hold, clsec, grp] with ports := (List.range 33).map (fun p => (p, up)) }

def fr1 : Frame := { dst := 5, src := 6, vlans := [], etherType := 0x1234, payload := List.replicate 50 1, red := none }

def qf (i o c : Nat) : QFrame := { mkQ i o c fr1 3 with epoch := 0 }

def PP.q : List QFrame := [qf 1 2 3, { qf 1 2 3 with epoch := 3 }, qf 3 34 2, qf 5 24 4, qf 6 16 1]

def wq (s : State) : State := { s with rdg := { s.rdg with queues := PP.q ++ [qf 9 2 6] } }

def s2 : State :=
  wq (base .active)

def s0 : State :=
  base .active

def s19 : State :=
  { base .active with rdg := { fault0 := true, plane0 := false } }

theorem hyps_RidgeSendsAndLosesPlanes :
    (∃ (pick : Nat) (x : Fin 65) (s : State), Option.isSome (s.nextFrame x.val pick) = true ∧ 32 < x.val) ∧
    (∃ (dt : Nat) (pick : Nat) (x : Fin 65) (q : QFrame) (s : State), s.nextFrame x.val pick = some q ∧ x.val ≤ 32 ∧
        (s.elapse dt).nextFrame x.val pick = some q ∧ (s.elapse dt).egressIdle x.val = true ∧
        List.find? (fun q => decide (q.out = x.val)) s.rdg.t1s = none ∧ q.epoch = tget s.rdg.epochs x.val 0) ∧
    (∃ (out : Fin 65) (ingress : Fin 65) (cls : Fin 8) (q : QFrame) (s : State), List.find? (fun q => decide (q.out = out.val) && decide (q.ingress = ingress.val) && decide (q.cls = cls.val)) s.rdg.queues = some q) ∧
    (∃ (out : Fin 65) (ingress : Fin 65) (cls : Fin 8) (q : QFrame) (s : State), List.find? (fun q => decide (q.out = out.val) && decide (q.ingress = ingress.val) && decide (q.cls = cls.val)) s.rdg.queues = some q ∧
        q.epoch = tget s.rdg.epochs out.val 0) ∧
    (∃ (g : Fin 12) (s : State), s.afterBoot = true ∧ g.val < s.groupCount ∧ (s.groupPorts g.val).fst ≠ 0) ∧
    (∃ (g : Fin 12) (s : State), s.afterBoot = true ∧ g.val < s.groupCount ∧ (s.groupPorts g.val).fst ≠ 0 ∧
        (s.port (s.groupPorts g.val).snd.fst).holdDown = false ∧
        s.admits (s.groupPorts g.val).snd.fst 5 1 = true) ∧
    (∃ (k : Fin 2) (s : State), (if k.val = 0 then s.rdg.fault0 else s.rdg.fault1) = false) ∧
    (∃ (k : Fin 2) (s : State), (if k.val = 0 then s.rdg.fault0 else s.rdg.fault1) = false ∧ k.val = 0) ∧
    (∃ (k : Fin 2) (s : State), (if k.val = 0 then s.rdg.fault0 else s.rdg.fault1) = false ∧ k.val = 1) ∧
    (∃ (k : Fin 2) (s : State), (if k.val = 0 then s.rdg.fault0 else s.rdg.fault1) = false ∧
        (if k.val = 0 then s.rdg.fault1 else s.rdg.fault0) = false) ∧
    (∃ (k : Fin 2) (s : State), (if k.val = 0 then s.rdg.fault0 else s.rdg.fault1) = false ∧
        (if k.val = 0 then s.rdg.fault1 else s.rdg.fault0) = true ∧ s.faultMode = true) :=
  ⟨⟨0, 34, s2, by decide +kernel⟩,
   ⟨7, 0, 2, { ingress := 9, out := 2, cls := 6, cells := 1, epoch := 0, frame := { dst := 5, src := 6, vlans := [], etherType := 4660, payload := (List.replicate 50 1), red := none }, rxTime := 3, ipSum := false, l4Sum := false, tc := none, host := none, ts := false }, s2, by decide +kernel⟩,
   ⟨2, 1, 3, { ingress := 1, out := 2, cls := 3, cells := 1, epoch := 0, frame := { dst := 5, src := 6, vlans := [], etherType := 4660, payload := (List.replicate 50 1), red := none }, rxTime := 3, ipSum := false, l4Sum := false, tc := none, host := none, ts := false }, s2, by decide +kernel⟩,
   ⟨2, 1, 3, { ingress := 1, out := 2, cls := 3, cells := 1, epoch := 0, frame := { dst := 5, src := 6, vlans := [], etherType := 4660, payload := (List.replicate 50 1), red := none }, rxTime := 3, ipSum := false, l4Sum := false, tc := none, host := none, ts := false }, s2, by decide +kernel⟩,
   ⟨0, s0, by decide +kernel⟩,
   ⟨0, s0, by decide +kernel⟩,
   ⟨0, s0, by decide +kernel⟩,
   ⟨0, s0, by decide +kernel⟩,
   ⟨1, s0, by decide +kernel⟩,
   ⟨0, s0, by decide +kernel⟩,
   ⟨1, s19, by decide +kernel⟩⟩

end WF2

namespace WG

def tpb (prof pref hm irig : Byte) : Section := sec 0x11 0 (bytesWith 128 [(0, 1), (2, prof), (4, 0x0F), (8, 0xF0), (0x20, 1), (0x22, 4), (0x24, 0x06), (0x28, 0xF0), (0x40, pref), (0x41, 1), (0x42, hm), (0x44, irig), (0x4C, 5), (0x4E, 10)])

def ports : Tbl Port := (List.range 24).map (fun p => (p, { linkUp := true, trained := true, speed := 4, rxPtp := 3 }))

def good : Ref := { present := true, qual := true, cls := 6, path := 2, offset := 50, goodRun := 12, missed := 0, near := some 0 }

def base (m : Mode) (t : Section := tpb 0 0 3 1) : State :=
  { mk m [t, sec 0xF 0 (bytesWith 64 [(5, 0)])] with
    ports := ports, kpr := { frames := true, synced := true, open_ := false },
    pair := { alive := true, fog := { mode := 4 } },
    bcn := { state := .locked, selected := 0, lastSel := 0, refA := good, refB := { good with path := 1 }, refI := { good with path := 255 } } }

def bc (s : State) (f : BcnUnit → BcnUnit) : State := { s with bcn := f s.bcn }

def s0 : State :=
  base .active

def s12 : State :=
  bc (base .active) (fun b => { b with selected := 2, lastSel := 2 })

def s14 : State :=
  bc (base .active) (fun b => { b with refA := { b.refA with missed := 3 }, refB := { b.refB with missed := 2 } })

theorem hyps_ReferencesFollowTheirMessages :
    (∃ (d : Fin 2) (s : State), s.afterBoot = true ∧ s.kpr.frames = true ∧ s.bcn.newlyDiverged = false ∧
        s.domOn d.val = true) ∧
    (∃ (d : Fin 2) (p : Fin 24) (offset : Int) (s : State), s.afterBoot = true ∧ s.kpr.frames = true ∧
        s.bcn.newlyDiverged = false ∧ s.domOn d.val = true ∧ s.servoEligible d.val p.val = true ∧
        s.pathFor d.val p.val = p.val ∧ within1ms (offset - s.asymNow p.val / 2) = true) ∧
    (∃ (d : Fin 2) (p : Fin 24) (offset : Int) (s : State), s.afterBoot = true ∧ s.kpr.frames = true ∧
        s.bcn.newlyDiverged = false ∧ s.domOn d.val = true ∧ s.servoEligible d.val p.val = true ∧
        s.pathFor d.val p.val = p.val ∧ within1ms (offset - s.asymNow p.val / 2) = true ∧
        s.bcn.state = BcnState.locked ∧ s.bcn.selected = d.val) ∧
    (∃ (d : Fin 2) (p : Fin 24) (offset : Int) (s : State), s.afterBoot = true ∧ s.kpr.frames = true ∧
        s.bcn.newlyDiverged = false ∧ s.domOn d.val = true ∧ s.servoEligible d.val p.val = true ∧
        s.pathFor d.val p.val = p.val ∧ within1ms (offset - s.asymNow p.val / 2) = true ∧ s.bcn.selected ≠ d.val) ∧
    (∃ (d : Fin 2) (p : Fin 24) (offset : Int) (s : State), s.afterBoot = true ∧ s.kpr.frames = true ∧
        s.domOn d.val = true ∧ s.time.stepped = true ∧ s.bcn.lastSel = d.val ∧ (s.refOf d.val).diverged = false ∧
        s.ppFlag 3 = false ∧ s.servoEligible d.val p.val = true ∧ s.pathFor d.val p.val = p.val ∧
        within1ms (offset - s.asymNow p.val / 2) = false) ∧
    (∃ (s : State), s.afterBoot = true ∧ s.kpr.frames = true ∧ s.bcn.newlyDiverged = false) ∧
    (∃ (s : State), s.afterBoot = true ∧ s.kpr.frames = true ∧ s.bcn.newlyDiverged = false) ∧
    (∃ (d : Fin 2) (s : State), s.afterBoot = true ∧ s.kpr.frames = true ∧ s.bcn.newlyDiverged = false ∧
        3 ≤ (s.refOf d.val).missed) ∧
    (∃ (s : State), s.afterBoot = true ∧ s.kpr.frames = true ∧ s.bcn.newlyDiverged = false) ∧
    (∃ (dt : Nat) (d : Fin 2) (s : State), s.afterBoot = true ∧ s.kpr.frames = true ∧ s.bcn.newlyDiverged = false ∧
        (s.bcn.state = BcnState.locked ∨ s.bcn.state = BcnState.converging) ∧ s.bcn.selected ≠ d.val ∧
        (s.elapse dt).heldNear d.val = true ∧ (s.bcn.selected = 2 ∨ d.val = s.preferred ∧ byteAt s.tp 65 = 1)) ∧
    (∃ (offset : Int) (s : State), s.afterBoot = true ∧ s.kpr.frames = true ∧ s.bcn.newlyDiverged = false ∧
        s.irigUse ≠ 0 ∧ within1ms offset = true) :=
  ⟨⟨0, s0, by decide +kernel⟩,
   ⟨0, 0, (0), s0, by decide +kernel⟩,
   ⟨0, 0, (0), s0, by decide +kernel⟩,
   ⟨0, 0, (0), s12, by decide +kernel⟩,
   ⟨0, 0, (300000000), s0, by decide +kernel⟩,
   ⟨s0, by decide +kernel⟩,
   ⟨s0, by decide +kernel⟩,
   ⟨0, s14, by decide +kernel⟩,
   ⟨s0, by decide +kernel⟩,
   ⟨7, 0, s12, by decide +kernel⟩,
   ⟨(0), s0, by decide +kernel⟩⟩

end WG

namespace WG1

def tpb (prof pref hm irig : Byte) : Section := sec 0x11 0 (bytesWith 128 [(0, 1), (2, prof), (4, 0x0F), (8, 0xF0), (0x20, 1), (0x22, 4), (0x24, 0x06), (0x28, 0xF0), (0x40, pref), (0x41, 1), (0x42, hm), (0x44, irig), (0x4C, 5), (0x4E, 10)])

def ports : Tbl Port := (List.range 24).map (fun p => (p, { linkUp := true, trained := true, speed := 4, rxPtp := 3 }))

def good : Ref := { present := true, qual := true, cls := 6, path := 2, offset := 50, goodRun := 12, missed := 0, near := some 0 }

def base (m : Mode) (t : Section := tpb 0 0 3 1) : State :=
  { mk m [t, sec 0xF 0 (bytesWith 64 [(5, 0)])] with
    ports := ports, kpr := { frames := true, synced := true, open_ := false },
    pair := { alive := true, fog := { mode := 4 } },
    bcn := { state := .locked, selected := 0, lastSel := 0, refA := good, refB := { good with path := 1 }, refI := { good with path := 255 } } }

def bc (s : State) (f : BcnUnit → BcnUnit) : State := { s with bcn := f s.bcn }

def fr (s : State) (b : Bool) : State := { s with kpr := { s.kpr with frames := b } }

def as (s : State) (a : Asym) : State := bc s (fun b => { b with asym := [(0, a), (1, a), (2, a)] })

def aA : Asym := { active := [(4, 100)], stored := [(4, 120)], meas := 2000, measDone := true, state := 1 }

def pendC (s : State) (code : Nat) : State := { s with cmds := [(bcnCmdReg, { status := 1, pending := true, runCode := code })] }

def s0 : State :=
  base .active

def s20 : State :=
  bc (base .active) (fun b => { b with pps := true, ppsLast := some 0 })

def s21 : State :=
  bc (base .active) (fun b => { b with tsArm := true, tsCtrl := 2 })

def s1 : State :=
  base .commission

def s2 : State :=
  fr (base .commission) false

def s10 : State :=
  bc (pendC (base .commission) 1) (fun b => { b with pendStep := some 0 })

def s9 : State :=
  bc (base .commission) (fun b => { b with pendStep := some 1 })

def s4 : State :=
  bc (base .commission) (fun b => { b with state := .holdover, timeLost := true, holdSince := 0 })

def s7 : State :=
  { bc (base .standby) (fun b => { b with state := .holdover, timeLost := false, holdSince := 0 }) with time := { mono := 70 * secUnit, station := 70 * secUnit, stepped := true } }

def s22 : State :=
  as (base .commission) aA

def s24 : State :=
  as (base .active) { aA with recovery := true }

def s23 : State :=
  as (pendC (base .commission) 3) { aA with measuring := true, since := 0, before := 1, state := 2 }

theorem hyps_BeaconSendsAndMarksTime :
    (∃ (d : Fin 2) (s : State), s.afterBoot = true ∧ s.kpr.frames = true ∧ s.bcn.newlyDiverged = false ∧
        s.domOn d.val = true ∧ peerDelay (s.domProfile d.val) = true) ∧
    (∃ (d : Fin 2) (s : State), s.afterBoot = true ∧ s.kpr.frames = true ∧ s.bcn.newlyDiverged = false ∧
        s.domOn d.val = true) ∧
    (∃ (s : State), s.afterBoot = true ∧ s.kpr.frames = true ∧ s.bcn.newlyDiverged = false) ∧
    (∃ (s : State), s.afterBoot = true ∧ s.kpr.frames = true ∧ s.bcn.newlyDiverged = false) ∧
    (∃ (dt : Nat) (d : Fin 2) (p : Fin 24) (s : State), s.afterBoot = true ∧ s.masterPort d.val p.val = true ∧
        Option.isSome ((s.elapse dt).announceClass) = true ∧ s.bcn.selected ≠ 2) ∧
    (∃ (dt : Nat) (d : Fin 2) (p : Fin 24) (s : State), s.afterBoot = true ∧ s.masterPort d.val p.val = true ∧
        Option.isSome ((s.elapse dt).announceClass) = true) ∧
    (∃ (d : Fin 2) (p : Fin 24) (s : State), s.afterBoot = true ∧ s.domOn d.val = true ∧
        inMask (s.domMask d.val 4) p.val = true) ∧
    (∃ (s : State), s.glb.mode ≠ Mode.dormant) ∧
    (∃ (s : State), s.glb.mode ≠ Mode.dormant ∧
        (s.bcn.state = BcnState.locked ∨ s.bcn.state = BcnState.converging ∨ s.bcn.state = BcnState.holdover)) ∧
    (∃ (dt : Nat) (s : State), s.time.stepped = true ∧ s.afterBoot = true ∧
        (s.bcn.ppsLast = none ∨ ∃ u, s.bcn.ppsLast = some u ∧ u + 500 * msUnit ≤ (s.elapse dt).time.mono)) ∧
    (∃ (s : State), s.bcn.pps = true) ∧
    (∃ (src : Fin 5) (s : State), s.bcn.tsArm = true ∧ src.val = BitVec.toNat s.bcn.tsCtrl ∧ src.val ≠ 0) :=
  ⟨⟨0, s0, by decide +kernel⟩,
   ⟨0, s0, by decide +kernel⟩,
   ⟨s0, by decide +kernel⟩,
   ⟨s0, by decide +kernel⟩,
   ⟨7, 0, 4, s0, by decide +kernel⟩,
   ⟨7, 0, 4, s0, by decide +kernel⟩,
   ⟨0, 0, s0, by decide +kernel⟩,
   ⟨s0, by decide +kernel⟩,
   ⟨s0, by decide +kernel⟩,
   ⟨7, s0, by decide +kernel⟩,
   ⟨s20, by decide +kernel⟩,
   ⟨2, s21, by decide +kernel⟩⟩

theorem hyps_StepsSelectionAndHoldover :
    (∃ (arg : BitVec 16) (s : State), s.Ready bcnCmdReg ∧ arg.toNat < 3 ∧ s.inCommTest = true ∧
        (s.refOf arg.toNat).present = true ∧
        ((s.refOf arg.toNat).qual = true ∨ (s.refOf arg.toNat).diverged = true) ∧ s.kpr.frames = true) ∧
    (∃ (arg : BitVec 16) (s : State), s.Ready bcnCmdReg ∧ arg.toNat < 3 ∧ s.inCommTest = true ∧
        (s.refOf arg.toNat).present = true ∧
        ((s.refOf arg.toNat).qual = true ∨ (s.refOf arg.toNat).diverged = true) ∧ s.kpr.frames = false ∧
        s.bcn.autoStep = none) ∧
    (∃ (r : Nat) (s : State), s.kpr.frames = true ∧ s.kpr.open_ = false ∧ r < 3 ∧ (s.bcn.pendStep = some r ∧
        s.bcn.autoStep = none ∨ s.bcn.pendStep = none ∧ s.bcn.autoStep = some r)) ∧
    (∃ (r : Nat) (s : State), s.kpr.frames = true ∧ s.kpr.open_ = false ∧ r < 3 ∧ (s.bcn.pendStep = some r ∧
        s.bcn.autoStep = none ∨ s.bcn.pendStep = none ∧ s.bcn.autoStep = some r) ∧ s.bcn.pendStep = some r) ∧
    (∃ (arg : BitVec 16) (s : State), s.Ready bcnCmdReg ∧ arg.toNat < 3 ∧ s.inOperating = true ∧
        refNear (s.refOf arg.toNat) = true ∧ (arg.toNat = 2 → s.irigUse ≠ 0) ∧ s.bcn.state = BcnState.locked ∧
        s.bcn.selected = arg.toNat) ∧
    (∃ (arg : BitVec 16) (s : State), s.Ready bcnCmdReg ∧ arg.toNat < 3 ∧ s.inOperating = true ∧
        refNear (s.refOf arg.toNat) = true ∧ (arg.toNat = 2 → s.irigUse ≠ 0) ∧
        (s.bcn.state = BcnState.holdover ∨ s.bcn.state = BcnState.locked ∧ s.bcn.selected ≠ arg.toNat)) ∧
    (∃ (dt : Nat) (s : State), s.bcn.state = BcnState.holdover ∧ s.bcn.timeLost = false ∧
        s.bcn.holdSince + 60 * secUnit ≤ (s.elapse dt).time.mono ∧
        (s.glb.mode ≠ Mode.active ∨ s.fogFlag 2 = false)) :=
  ⟨⟨0, s1, by unfold State.Ready; decide +kernel⟩,
   ⟨0, s2, by unfold State.Ready; decide +kernel⟩,
   ⟨0, s10, by decide +kernel⟩,
   ⟨1, s9, by decide +kernel⟩,
   ⟨0, s0, by unfold State.Ready; decide +kernel⟩,
   ⟨0, s4, by unfold State.Ready; decide +kernel⟩,
   ⟨7, s7, by decide +kernel⟩⟩

theorem hyps_AsymmetryIsMeasuredAndKept :
    (∃ (arg : BitVec 16) (s : State), s.Ready bcnCmdReg ∧ arg.toNat < 24 ∧
        (s.inCommTest = true ∨ (s.asymOf arg.toNat).recovery = true) ∧ s.onlyPath arg.toNat = false) ∧
    (∃ (arg : BitVec 16) (s : State), s.Ready bcnCmdReg ∧ arg.toNat < 24 ∧ s.inCommTest = true ∧
        (s.asymOf arg.toNat).measDone = true) ∧
    (∃ (arg : BitVec 16) (s : State), s.Ready bcnCmdReg ∧ arg.toNat < 24 ∧ s.inOperating = true ∧
        ((s.asymOf arg.toNat).recovery = true ∨ (s.asymOf arg.toNat).state = 3)) ∧
    (∃ (dt : Nat) (p : Fin 24) (s : State), s.afterBoot = true ∧ s.kpr.frames = true ∧ s.bcn.newlyDiverged = false ∧
        ((s.asymOf p.val).measuring = true ∧
        (s.asymOf p.val).since + leAt s.tp 76 2 * secUnit ≤ (s.elapse dt).time.mono ∨ (s.asymOf p.val).measuring = false ∧
        (s.asymOf p.val).recovery = true ∧ s.bcn.state = BcnState.locked)) ∧
    (∃ (dt : Nat) (p : Fin 24) (s : State), s.afterBoot = true ∧ s.kpr.frames = true ∧ s.bcn.newlyDiverged = false ∧
        ((s.asymOf p.val).measuring = true ∧
        (s.asymOf p.val).since + leAt s.tp 76 2 * secUnit ≤ (s.elapse dt).time.mono ∨ (s.asymOf p.val).measuring = false ∧
        (s.asymOf p.val).recovery = true ∧ s.bcn.state = BcnState.locked) ∧ (s.asymOf p.val).recovery = false) ∧
    (∃ (dt : Nat) (p : Fin 24) (mean : Int) (s : State), s.afterBoot = true ∧ s.kpr.frames = true ∧
        s.bcn.newlyDiverged = false ∧ ((s.asymOf p.val).measuring = true ∧
        (s.asymOf p.val).since + leAt s.tp 76 2 * secUnit ≤ (s.elapse dt).time.mono ∨ (s.asymOf p.val).measuring = false ∧
        (s.asymOf p.val).recovery = true ∧ s.bcn.state = BcnState.locked) ∧ (s.asymOf p.val).recovery = true ∧
        (2 * mean - s.asymStored p.val).natAbs ≤ leAt s.tp 78 2 * 256) ∧
    (∃ (dt : Nat) (p : Fin 24) (mean : Int) (s : State), s.afterBoot = true ∧ s.kpr.frames = true ∧
        s.bcn.newlyDiverged = false ∧ ((s.asymOf p.val).measuring = true ∧
        (s.asymOf p.val).since + leAt s.tp 76 2 * secUnit ≤ (s.elapse dt).time.mono ∨ (s.asymOf p.val).measuring = false ∧
        (s.asymOf p.val).recovery = true ∧ s.bcn.state = BcnState.locked) ∧ (s.asymOf p.val).recovery = true ∧
        leAt s.tp 78 2 * 256 < (2 * mean - s.asymStored p.val).natAbs) ∧
    (∃ (dt : Nat) (p : Fin 24) (s : State), s.afterBoot = true ∧ s.kpr.frames = true ∧ s.bcn.newlyDiverged = false ∧
        ((s.asymOf p.val).measuring = true ∧
        (s.asymOf p.val).since + leAt s.tp 76 2 * secUnit ≤ (s.elapse dt).time.mono ∨ (s.asymOf p.val).measuring = false ∧
        (s.asymOf p.val).recovery = true ∧ s.bcn.state = BcnState.locked) ∧ (s.asymOf p.val).measuring = true ∧
        (s.asymOf p.val).auto = false ∧ (s.cmd bcnCmdReg).pending = true ∧ (s.cmd bcnCmdReg).runCode = 3) :=
  ⟨⟨0, s1, by unfold State.Ready; decide +kernel⟩,
   ⟨0, s22, by unfold State.Ready; decide +kernel⟩,
   ⟨0, s24, by unfold State.Ready; decide +kernel⟩,
   ⟨7, 0, s23, by decide +kernel⟩,
   ⟨7, 0, s23, by decide +kernel⟩,
   ⟨7, 0, (1000), s24, by decide +kernel⟩,
   ⟨7, 0, (2000), s24, by decide +kernel⟩,
   ⟨7, 0, s23, by decide +kernel⟩⟩

end WG1

namespace WH

def cell (i slot part grid : Nat) (extra : List (Nat × Byte)) : List Byte :=
  bytesWith 256 ([(6, BitVec.ofNat 8 (0x40 + i)), (8, BitVec.ofNat 8 i), (0xB, 1), (0xC, 1), (0xD, 1), (0xE, 0), (0x10, BitVec.ofNat 8 slot), (0x12, BitVec.ofNat 8 part), (0x13, BitVec.ofNat 8 (part / 256)), (0x86, BitVec.ofNat 8 grid)] ++ extra)

def sg : Section := sec 5 0 (leBytes 3 2 ++ List.replicate 14 0 ++ cell 0 0 1 0x12 [(0xF, 1), (0x1C, 0xFF), (0x1D, 0xFF), (0x21, 3)] ++ cell 1 1 0xFFFF 0x12 [] ++ cell 2 2 0xFFFF 0 [])

def fgs (n : Byte) : Section := sec 4 0 (bytesWith 128 [(16, 50), (17, 1), (18, n), (20, 0), (22, 0xFF), (23, 0xFF), (24, 0xFF), (25, 0xFF), (26, 1), (28, 0xFF), (29, 0xFF), (30, 0xFF), (31, 0xFF), (36, 100)])

def kept : List (Nat × Nat) := (List.range 80).map (fun i => (rateInstant (40000 + 40 - i) 4000, 0x3FF0000000000000 + i * 2 ^ 40))

def ins : List (Nat × Nat) := (List.range 80).map (fun i => (rateInstant (40000 + 40 - i) 4000, 0))

def base (m : Mode) (nsrc : Byte := 1) (st : Nat := 3) : State :=
  { mk m [sg, fgs nsrc] with
    kpr := { frames := true, synced := true },
    regs := [(0x300020, 0xFFFFFFFF)],
    cnd := { s0 := some 0, lastS0 := 0, slots := [(0, { run := true, next := 40020, kept := kept, ins := ins }), (1, { run := true, next := 40020, kept := kept, outs := [{ n := 0, tau := 0, value := 0, mark := 0, re := 0, im := 0, pmark := 0, vis := 0 }] }), (2, { run := true, next := 24001, kept := kept })],
             lats := [(0, { pts := [{ n := 24000, k := 24000, tau := rateInstant 40019 4000, due := 0 }] })],
             groups := [(0, { m := 2000, hist := [{ m := 1999, freq := 50 * 2^24, due := 9 }] })] },
    svi := { streams := [(0, { state := st, next := 40000, vals := [5], count := 7, placed := true }), (1, { state := 3, next := 39999, vals := [5] }), (2, { state := st, next := 40000, vals := [5] })] } }

def cfgs : List StreamCfg := (base .active).streamCfgs

def mp (s : State) (f : Stream → Stream) : State := { s with svi := { s.svi with streams := s.svi.streams.map (fun e => (e.1, f e.2)) } }

def late (s : State) (d : Nat) : State := { s with time := { mono := s.time.mono + d, station := s.time.station + d, stepped := true } }

def asdu : SvAsdu := { svId := (cfgs.headD ⟨[], 0⟩).svId, smpCnt := 0, confRev := 0x300FFFF - 0x300FFFF, smpSynch := 2, smpRate := none, data := [0, 0, 1, 0, 0, 0, 0, 0] }

def fr : SvFrame := { dst := 0, src := 5, appid := 0x40, sim := false, wellFormed := true, unsupported := false, tag := none, red := none, asdus := [{ asdu with confRev := (cfgs.headD ⟨[], 0⟩).fieldAt 0x18 4 }], ago := 7 }

def PP.a : List SvAsdu := fr.asdus

def f1 : SvFrame :=
  { fr with wellFormed := false }

def s0 : State :=
  base .active

def f4 : SvFrame :=
  { fr with unsupported := true }

def f0 : SvFrame :=
  fr

def s25 : State :=
  mk .boot []

def s8 : State :=
  mp (base .active) (fun x => { x with sim := true })

def s10 : State :=
  late (base .active) (100 * msUnit)

def s9 : State :=
  mp (base .test) (fun x => { x with forced := true })

def s13 : State :=
  { base .active with svi := { (base .active).svi with pend := some { force := true, stream := 0, target := 48000 } } }

def s14 : State :=
  mp { base .active with svi := { (base .active).svi with pend := some { force := false, stream := 0, target := 48000 } } } (fun x => { x with forced := true })

theorem hyps_IntakePassesSamples :
    (∃ (f : SvFrame) (s : State), s.img.loaded = true ∧
        (f.wellFormed = false ∨ f.asdus.length = 0 ∨ 8 < f.asdus.length)) ∧
    (∃ (f : SvFrame) (s : State), s.img.loaded = true ∧ f.wellFormed = true ∧ f.asdus.length ≠ 0 ∧
        f.asdus.length ≤ 8 ∧ f.unsupported = true) ∧
    (∃ (f : SvFrame) (s : State), s.img.loaded = true ∧ f.wellFormed = true ∧ f.asdus.length ≠ 0 ∧
        f.asdus.length ≤ 8 ∧ f.unsupported = false ∧ s.sviMatch f = none) ∧
    (∃ (f : SvFrame) (s : State) (c : StreamCfg), s.img.loaded = true ∧ f.wellFormed = true ∧ f.asdus.length ≠ 0 ∧
        f.asdus.length ≤ 8 ∧ f.unsupported = false ∧ s.sviMatch f = some c ∧ (f.sim = true ∧
        (s.glb.mode ≠ Mode.test ∨ c.acceptSim = false) ∨ f.sim = false ∧ (s.stream c.index).sim = true)) ∧
    (∃ (dt : Nat) (f : SvFrame) (s : State) (c : StreamCfg) (a : SvAsdu), s.img.loaded = true ∧ f.wellFormed = true ∧
        f.asdus.length ≠ 0 ∧ f.asdus.length ≤ 8 ∧ f.unsupported = false ∧ s.sviMatch f = some c ∧ f.sim = false ∧
        (s.stream c.index).sim = false ∧ c.fieldAt 32 1 = 0 ∧ f.asdus = [a] ∧ a.confRev = c.fieldAt 24 4 ∧
        shapeOk c f = true ∧ 2 ≤ (s.stream c.index).state ∧ a.smpCnt < c.cycleCount ∧
        globalSync c a.smpSynch = true ∧ (s.stream c.index).arrival = false ∧ (s.stream c.index).waits = [] ∧
        s.pair.items = [] ∧ syncPos c a.smpCnt ((s.elapse dt).now - f.ago) = (s.stream c.index).next ∧
        s.asduBad c (syncPos c a.smpCnt ((s.elapse dt).now - f.ago)) ((s.elapse dt).now - f.ago) = none) ∧
    (∃ (dt : Nat) (i : Fin 2048) (c : StreamCfg) (s : State), s.streamCfg i.val = some c ∧
        2 ≤ (s.stream i.val).state ∧ (s.stream i.val).state ≤ 5 ∧ (s.stream i.val).waits = [] ∧ s.pair.items = [] ∧
        deadline c s.frameRate (streamTime c (s.stream i.val) (s.stream i.val).next) ≤ (s.elapse dt).now * s.frameRate) ∧
    (∃ (dt : Nat) (arg : BitVec 16) (c : StreamCfg) (s : State) (p : Nat), s.Ready sviCmdReg ∧
        Option.isSome ((s.elapse dt).targetTick 3145760 3145764) = true ∧ arg.toNat < 2048 ∧
        s.streamCfg arg.toNat = some c ∧ s.inFrames = true ∧ c.substOn = true ∧ c.partner = some p ∧
        s.healthy p = true) ∧
    (∃ (dt : Nat) (arg : BitVec 16) (s : State), s.Ready sviCmdReg ∧
        Option.isSome ((s.elapse dt).targetTick 3145760 3145764) = true ∧ arg.toNat < 2048 ∧
        Option.isSome (s.streamCfg arg.toNat) = true ∧ s.inFrames = true ∧ (s.stream arg.toNat).forced = true) ∧
    (∃ (p : SviPend) (s : State), s.svi.pend = some p ∧ p.force = true) ∧
    (∃ (p : SviPend) (s : State), s.svi.pend = some p ∧ p.force = true ∧ (s.stream p.stream).substituting = false) ∧
    (∃ (p : SviPend) (s : State), s.svi.pend = some p ∧ p.force = false) :=
  ⟨⟨f1, s0, by decide +kernel⟩,
   ⟨f4, s0, by decide +kernel⟩,
   ⟨f0, s25, by decide +kernel⟩,
   ⟨f0, s8, { body := s8.cfg 5 0, off := 16 }, ⟨by decide +kernel, by decide +kernel, by decide +kernel, by decide +kernel, by decide +kernel, by decide +kernel, by decide +kernel⟩⟩,
   ⟨7, f0, s0, { body := s0.cfg 5 0, off := 16 }, (PP.a[0]'(by decide)), ⟨by decide +kernel, by decide +kernel, by decide +kernel, by decide +kernel, by decide +kernel, by decide +kernel, by decide +kernel, by decide +kernel, by decide +kernel, by decide +kernel, by decide +kernel, by decide +kernel, by decide +kernel, by decide +kernel, by decide +kernel, by decide +kernel, by decide +kernel, by decide +kernel, by decide +kernel, by decide +kernel⟩⟩,
   ⟨7, 0, { body := s10.cfg 5 0, off := 16 }, s10, ⟨by decide +kernel, by decide +kernel, by decide +kernel, by decide +kernel, by decide +kernel, by decide +kernel⟩⟩,
   ⟨7, 0, { body := s0.cfg 5 0, off := 16 }, s0, 1, ⟨by unfold State.Ready; decide +kernel, by decide +kernel, by decide +kernel, by decide +kernel, by decide +kernel, by decide +kernel, by decide +kernel, by decide +kernel⟩⟩,
   ⟨7, 0, s9, by unfold State.Ready; decide +kernel⟩,
   ⟨{ force := true, stream := 0, target := 48000 }, s13, by decide +kernel⟩,
   ⟨{ force := true, stream := 0, target := 48000 }, s13, by decide +kernel⟩,
   ⟨{ force := false, stream := 0, target := 48000 }, s14, by decide +kernel⟩⟩

end WH

namespace WH1

def cell (i slot part grid : Nat) (extra : List (Nat × Byte)) : List Byte :=
  bytesWith 256 ([(6, BitVec.ofNat 8 (0x40 + i)), (8, BitVec.ofNat 8 i), (0xB, 1), (0xC, 1), (0xD, 1), (0xE, 0), (0x10, BitVec.ofNat 8 slot), (0x12, BitVec.ofNat 8 part), (0x13, BitVec.ofNat 8 (part / 256)), (0x86, BitVec.ofNat 8 grid)] ++ extra)

def sg : Section := sec 5 0 (leBytes 3 2 ++ List.replicate 14 0 ++ cell 0 0 1 0x12 [(0xF, 1), (0x1C, 0xFF), (0x1D, 0xFF), (0x21, 3)] ++ cell 1 1 0xFFFF 0x12 [] ++ cell 2 2 0xFFFF 0 [])

def fgs (n : Byte) : Section := sec 4 0 (bytesWith 128 [(16, 50), (17, 1), (18, n), (20, 0), (22, 0xFF), (23, 0xFF), (24, 0xFF), (25, 0xFF), (26, 1), (28, 0xFF), (29, 0xFF), (30, 0xFF), (31, 0xFF), (36, 100)])

def kept : List (Nat × Nat) := (List.range 80).map (fun i => (rateInstant (40000 + 40 - i) 4000, 0x3FF0000000000000 + i * 2 ^ 40))

def ins : List (Nat × Nat) := (List.range 80).map (fun i => (rateInstant (40000 + 40 - i) 4000, 0))

def base (m : Mode) (nsrc : Byte := 1) (st : Nat := 3) : State :=
  { mk m [sg, fgs nsrc] with
    kpr := { frames := true, synced := true },
    regs := [(0x300020, 0xFFFFFFFF)],
    cnd := { s0 := some 0, lastS0 := 0, slots := [(0, { run := true, next := 40020, kept := kept, ins := ins }), (1, { run := true, next := 40020, kept := kept, outs := [{ n := 0, tau := 0, value := 0, mark := 0, re := 0, im := 0, pmark := 0, vis := 0 }] }), (2, { run := true, next := 24001, kept := kept })],
             lats := [(0, { pts := [{ n := 24000, k := 24000, tau := rateInstant 40019 4000, due := 0 }] })],
             groups := [(0, { m := 2000, hist := [{ m := 1999, freq := 50 * 2^24, due := 9 }] })] },
    svi := { streams := [(0, { state := st, next := 40000, vals := [5], count := 7, placed := true }), (1, { state := 3, next := 39999, vals := [5] }), (2, { state := st, next := 40000, vals := [5] })] } }

def cn (s : State) (f : CndUnit → CndUnit) : State := { s with cnd := f s.cnd }

def late (s : State) (d : Nat) : State := { s with time := { mono := s.time.mono + d, station := s.time.station + d, stepped := true } }

def s1 : State :=
  base .test

def s28 : State :=
  { base .commission with regs := [(0x40000C, 0)] }

def s17 : State :=
  { base .commission with kpr := {} }

def s18 : State :=
  cn (base .commission) (fun c => { c with pend := [{ s0 := 11 * secUnit, byCmd := true, local_ := false }, { s0 := 10 * secUnit, byCmd := true, local_ := true }] })

def s0 : State :=
  base .active

def s20 : State :=
  cn (base .commission) (fun c => { c with armed := some (10 * secUnit) })

def s22 : State :=
  late (cn (base .commission) (fun c => { c with armed := some (9 * secUnit) })) (secUnit - 10)

def s21 : State :=
  cn (base .commission) (fun c => { c with armed := some (9 * secUnit) })

theorem hyps_ChainSyncsRestartTheChain :
    (∃ (s : State), s.Ready cndCmdReg ∧ s.syncMode = true ∧ s.img.loaded = true) ∧
    (∃ (s : State), s.Ready cndCmdReg ∧ s.syncMode = true ∧ s.img.loaded = true ∧
        BitVec.getLsbD (s.rd 4194316) 0 = true) ∧
    (∃ (s : State), s.Ready cndCmdReg ∧ s.syncMode = true ∧ s.img.loaded = true ∧
        BitVec.getLsbD (s.rd 4194316) 0 = false) ∧
    (∃ (s : State), s.Ready cndCmdReg ∧ s.syncMode = true ∧ s.img.loaded = true ∧ s.kpr.frames = true) ∧
    (∃ (s : State), s.Ready cndCmdReg ∧ s.syncMode = true ∧ s.img.loaded = true ∧ s.kpr.frames = false ∧
        s.cnd.pend = []) ∧
    (∃ (dt : Nat) (p : SyncPend) (s : State), earliestSync s.cnd.pend = some p ∧ p.s0 ≤ (s.elapse dt).now ∧
        s.syncMode = true) ∧
    (∃ (dt : Nat) (p : SyncPend) (s : State), earliestSync s.cnd.pend = some p ∧ p.s0 ≤ (s.elapse dt).now ∧
        s.syncMode = true ∧ p.byCmd = true) ∧
    (∃ (s : State), (BitVec.getLsbD (s.rd 4194316) 1 = true ∧ s.syncMode = true)) ∧
    (∃ (s : State), (BitVec.getLsbD (s.rd 4194316) 1 = false ∨ s.syncMode = false)) ∧
    (∃ (s : State), s.cnd.armed = none) ∧
    (∃ (dt : Nat) (s : State) (t0 : Nat), s.cnd.armed = some t0 ∧
        ((s.elapse dt).time.mono < t0 + 100 * msUnit ∨ msUnit < (s.elapse dt).now % secUnit ∧
        msUnit < secUnit - (s.elapse dt).now % secUnit)) ∧
    (∃ (dt : Nat) (s : State) (t0 : Nat), s.cnd.armed = some t0 ∧ t0 + 100 * msUnit ≤ (s.elapse dt).time.mono ∧
        msUnit < (s.elapse dt).now % secUnit ∧ secUnit - (s.elapse dt).now % secUnit ≤ msUnit) ∧
    (∃ (dt : Nat) (s : State) (t0 : Nat), s.cnd.armed = some t0 ∧ t0 + 100 * msUnit ≤ (s.elapse dt).time.mono ∧
        (s.elapse dt).now % secUnit ≤ msUnit ∧ s.syncMode = true ∧
        s.cnd.s0 ≠ some ((s.elapse dt).now / secUnit * secUnit) ∧
        s.cnd.lastIn < (s.elapse dt).now / secUnit * secUnit) :=
  ⟨⟨s1, by unfold State.Ready; decide +kernel⟩,
   ⟨s1, by unfold State.Ready; decide +kernel⟩,
   ⟨s28, by unfold State.Ready; decide +kernel⟩,
   ⟨s1, by unfold State.Ready; decide +kernel⟩,
   ⟨s17, by unfold State.Ready; decide +kernel⟩,
   ⟨7, { s0 := 655360000000000, byCmd := true, local_ := true }, s18, by decide +kernel⟩,
   ⟨7, { s0 := 655360000000000, byCmd := true, local_ := true }, s18, by decide +kernel⟩,
   ⟨s1, by decide +kernel⟩,
   ⟨s0, by decide +kernel⟩,
   ⟨s0, by decide +kernel⟩,
   ⟨7, s20, 0x2540be4000000, by decide +kernel⟩,
   ⟨7, s22, 0x218711a000000, by decide +kernel⟩,
   ⟨7, s21, 0x218711a000000, by decide +kernel⟩⟩

end WH1

namespace WH2

def cell (i slot part grid : Nat) (extra : List (Nat × Byte)) : List Byte :=
  bytesWith 256 ([(6, BitVec.ofNat 8 (0x40 + i)), (8, BitVec.ofNat 8 i), (0xB, 1), (0xC, 1), (0xD, 1), (0xE, 0), (0x10, BitVec.ofNat 8 slot), (0x12, BitVec.ofNat 8 part), (0x13, BitVec.ofNat 8 (part / 256)), (0x86, BitVec.ofNat 8 grid)] ++ extra)

def sg : Section := sec 5 0 (leBytes 3 2 ++ List.replicate 14 0 ++ cell 0 0 1 0x12 [(0x1C, 0xFF), (0x1D, 0xFF), (0x21, 3)] ++ cell 1 1 0xFFFF 0x12 [] ++ cell 2 2 0xFFFF 0 [])

def fgs (n : Byte) : Section := sec 4 0 (bytesWith 128 [(16, 50), (17, 1), (18, n), (20, 0), (22, 0xFF), (23, 0xFF), (24, 0xFF), (25, 0xFF), (26, 1), (28, 0xFF), (29, 0xFF), (30, 0xFF), (31, 0xFF), (36, 100)])

def kept : List (Nat × Nat) := (List.range 80).map (fun i => (rateInstant (40000 + 40 - i) 4000, 0x3FF0000000000000 + i * 2 ^ 40))

def ins : List (Nat × Nat) := (List.range 80).map (fun i => (rateInstant (40000 + 40 - i) 4000, 0))

def base (m : Mode) (nsrc : Byte := 1) (st : Nat := 3) : State :=
  { mk m [sg, fgs nsrc] with
    kpr := { frames := true, synced := true },
    regs := [(0x300020, 0xFFFFFFFF)],
    cnd := { s0 := some 0, lastS0 := 0, slots := [(0, { run := true, next := 40020, kept := kept, ins := ins }), (1, { run := true, next := 40020, kept := kept, outs := [{ n := 0, tau := 0, value := 0, mark := 0, re := 0, im := 0, pmark := 0, vis := 0 }] }), (2, { run := true, next := 24001, kept := kept })],
             lats := [(0, { pts := [{ n := 24000, k := 24000, tau := rateInstant 40019 4000, due := 0 }] })],
             groups := [(0, { m := 2000, hist := [{ m := 1999, freq := 50 * 2^24, due := 9 }] })] },
    svi := { streams := [(0, { state := st, next := 40000, vals := [5], count := 7, placed := true }), (1, { state := 3, next := 39999, vals := [5] }), (2, { state := st, next := 40000, vals := [5] })] } }

def s0 : State :=
  base .active

def s25 : State :=
  mk .boot []

def s26 : State :=
  { mk .active [] with pln := { scrub := true } }

theorem hyps_PlaneErrorsAndScrubs :
    (∃ (s : State), s.faultMode = true) ∧
    (∃ (s : State), s.faultMode = false) ∧
    (∃ (a : Fin 67108864), ringOfAddr a.val ≠ 0) ∧
    (∃ (a : Fin 67108864) (s : State), ringOfAddr a.val = 0 ∧ s.faultMode = true) ∧
    (∃ (a : Fin 67108864) (s : State), ringOfAddr a.val = 0 ∧ s.faultMode = false) ∧
    (∃ (s : State), s.Ready plnCmdReg ∧ s.afterBoot = true) ∧
    (∃ (s : State), s.pln.scrub = true) :=
  ⟨⟨s0, by decide +kernel⟩,
   ⟨s25, by decide +kernel⟩,
   ⟨0, by decide +kernel⟩,
   ⟨48234496, s0, by decide +kernel⟩,
   ⟨48234496, s25, by decide +kernel⟩,
   ⟨s0, by unfold State.Ready; decide +kernel⟩,
   ⟨s26, by decide +kernel⟩⟩

end WH2

namespace WI

def pub (kind alg : Byte) (d : Byte) : List Byte := bytesWith 512 [(5, d), (6, d), (0xA, kind), (0xC, alg), (0x18, 2), (0x1D, 4), (0x20, 1), (0x22, 2)]

def sb (i : Nat) (l : List (Nat × Byte)) : List Byte := bytesWith 256 ([(5, 9), (6, BitVec.ofNat 8 i), (8, BitVec.ofNat 8 i), (0xD, 2), (0xE, 3), (0x10, 4), (0x20, 0x41), (0x60, 5), (0x62, 0), (0x63, 1), (0x64, 6), (0x66, 1), (0x67, 0x82)] ++ l)

def base (m : Mode) (alg : Byte := 0) : State :=
  { mk m [sec 9 0 (pub 0 0 1), sec 9 1 (pub 0 1 2), sec 9 2 (pub 2 alg 3), sec 6 0 (leBytes 3 2 ++ List.replicate 14 0 ++ sb 0 [] ++ sb 1 [(0xC, 3)] ++ sb 2 [(0xB, 1)]), sec 0xF 0 (bytesWith 64 [(0, 0x11), (2, 0x22), (4, 0)])] with
    kpr := { frames := true, synced := true },
    regs := [(0x70001C, 0xFFFFFFFF)],
    lmp := { slots := [(2, { typ := 3, keyId := 77 })] },
    pub := { publishing := true, active := true, pubs := [(0, { stNum := 3, sqNum := 0xFFFFFFFF, due := some 5, rep := 2, last := some [] }), (1, { stNum := 3, sqNum := 4, due := some 5, rep := 39, last := some [] }), (2, { stNum := 9, sqNum := 2 })] } }

def nf (s : State) : State := { s with kpr := {} }

def lm : LanternMsg := { dst := 3, appid := 3, wellFormed := true, suffix := 0x22, tag := none, ttl := 2000, mode := 4, count := 7 }

def s0 : State :=
  base .active

def s3 : State :=
  nf (base .active)

def s5 : State :=
  { nf (base .active) with pub := { (base .active).pub with lanKey := (base .active).lanternKey } }

def m1 : LanternMsg :=
  { lm with wellFormed := false }

def m2 : LanternMsg :=
  { lm with dst := 4 }

def m4 : LanternMsg :=
  { lm with suffix := 0x11 }

def m0 : LanternMsg :=
  lm

def s4 : State :=
  nf (base .standby 1)

def s1 : State :=
  base .test

def s8 : State :=
  { base .active with pair := { count := 7, lanPresent := true, lanUntil := 4 } }

theorem hyps_PublicationsAndLantern :
    (∃ (dt : Nat) (p : Fin 1024) (s : State), s.pubSends = true ∧ s.pubList.contains p.val = true ∧
        (s.elapse dt).pubDue p.val = true) ∧
    (∃ (dt : Nat) (p : Fin 1024) (s : State), s.pubSends = true ∧ s.pubList.contains p.val = true ∧
        (s.elapse dt).pubDue p.val = true ∧ s.canSign (s.pubBody p.val) = false) ∧
    (∃ (s : State), s.kpr.frames = false ∧ Option.isSome (s.lanternId) = true ∧ s.afterBoot = true ∧
        s.img.loaded = true ∧ s.pub.lanternStop = false) ∧
    (∃ (s : State), s.kpr.frames = false ∧ Option.isSome (s.lanternId) = true ∧ s.afterBoot = true ∧
        s.img.loaded = true ∧ s.pub.lanternStop = false ∧ s.pub.lanKey = s.lanternKey) ∧
    (∃ (s : State), s.kpr.frames = false ∧ Option.isSome (s.lanternId) = true ∧ s.afterBoot = true ∧
        s.img.loaded = true ∧ s.pub.lanternStop = false ∧ s.pub.lanKey ≠ s.lanternKey) ∧
    (∃ (s : State), s.kpr.frames = true) ∧
    (∃ (m : LanternMsg) (s : State), s.img.loaded = true ∧ m.wellFormed = false) ∧
    (∃ (m : LanternMsg) (s : State) (p : Nat), s.img.loaded = true ∧ m.wellFormed = true ∧ s.lanternId = some p ∧
        (m.dst ≠ beAt (s.pubBody p) 0 6 ∨ m.appid ≠ leAt (s.pubBody p) 6 2)) ∧
    (∃ (m : LanternMsg) (s : State) (p : Nat), s.img.loaded = true ∧ m.wellFormed = true ∧ s.lanternId = some p ∧
        m.dst = beAt (s.pubBody p) 0 6 ∧ m.appid = leAt (s.pubBody p) 6 2 ∧ m.suffix = s.glb.moduleId) ∧
    (∃ (m : LanternMsg) (s : State) (p : Nat), s.img.loaded = true ∧ m.wellFormed = true ∧ s.lanternId = some p ∧
        m.dst = beAt (s.pubBody p) 0 6 ∧ m.appid = leAt (s.pubBody p) 6 2 ∧ m.suffix ≠ s.glb.moduleId ∧
        s.single = false ∧ m.suffix = s.partnerId ∧ byteAt (s.pubBody p) 12 ≠ 0 ∧ m.tag = none) ∧
    (∃ (m : LanternMsg) (s : State) (p : Nat), s.img.loaded = true ∧ m.wellFormed = true ∧ s.lanternId = some p ∧
        m.dst = beAt (s.pubBody p) 0 6 ∧ m.appid = leAt (s.pubBody p) 6 2 ∧ m.suffix ≠ s.glb.moduleId ∧
        s.single = false ∧ m.suffix = s.partnerId ∧ (byteAt (s.pubBody p) 12 = 0 ∨ ∃ g, m.tag = some g ∧
        g.alg = byteAt (s.pubBody p) 12 ∧ s.tagUsable g.keyId (leAt (s.pubBody p) 34 2) 65535 g.alg = true ∧
        g.valid = true)) ∧
    (∃ (m : LanternMsg) (s : State) (p : Nat), s.img.loaded = true ∧ m.wellFormed = true ∧ s.lanternId = some p ∧
        m.dst = beAt (s.pubBody p) 0 6 ∧ m.appid = leAt (s.pubBody p) 6 2 ∧ m.suffix ≠ s.glb.moduleId ∧
        s.single = false ∧ m.suffix = s.partnerId ∧ (byteAt (s.pubBody p) 12 = 0 ∨ ∃ g, m.tag = some g ∧
        g.alg = byteAt (s.pubBody p) 12 ∧ s.tagUsable g.keyId (leAt (s.pubBody p) 34 2) 65535 g.alg = true ∧
        g.valid = true) ∧ s.glb.mode = Mode.active ∧ m.mode = 4) ∧
    (∃ (m : LanternMsg) (s : State) (p : Nat), s.img.loaded = true ∧ m.wellFormed = true ∧ s.lanternId = some p ∧
        m.dst = beAt (s.pubBody p) 0 6 ∧ m.appid = leAt (s.pubBody p) 6 2 ∧ m.suffix ≠ s.glb.moduleId ∧
        s.single = false ∧ m.suffix = s.partnerId ∧ (byteAt (s.pubBody p) 12 = 0 ∨ ∃ g, m.tag = some g ∧
        g.alg = byteAt (s.pubBody p) 12 ∧ s.tagUsable g.keyId (leAt (s.pubBody p) 34 2) 65535 g.alg = true ∧
        g.valid = true) ∧ s.glb.mode = Mode.active ∧ m.mode = 4 ∧ (s.pair.count < m.count ∨ m.count = s.pair.count ∧
        s.isPreferred = false)) ∧
    (∃ (m : LanternMsg) (s : State) (p : Nat), s.img.loaded = true ∧ m.wellFormed = true ∧ s.lanternId = some p ∧
        m.dst = beAt (s.pubBody p) 0 6 ∧ m.appid = leAt (s.pubBody p) 6 2 ∧ m.suffix ≠ s.glb.moduleId ∧
        s.single = false ∧ m.suffix = s.partnerId ∧ (byteAt (s.pubBody p) 12 = 0 ∨ ∃ g, m.tag = some g ∧
        g.alg = byteAt (s.pubBody p) 12 ∧ s.tagUsable g.keyId (leAt (s.pubBody p) 34 2) 65535 g.alg = true ∧
        g.valid = true) ∧ s.glb.mode ≠ Mode.active) ∧
    (∃ (dt : Nat) (s : State), s.pair.lanPresent = true ∧ s.pair.lanUntil ≤ (s.elapse dt).time.mono) :=
  ⟨⟨7, 0, s0, by decide +kernel⟩,
   ⟨7, 1, s0, by decide +kernel⟩,
   ⟨s3, by decide +kernel⟩,
   ⟨s5, by decide +kernel⟩,
   ⟨s3, by decide +kernel⟩,
   ⟨s0, by decide +kernel⟩,
   ⟨m1, s0, by decide +kernel⟩,
   ⟨m2, s0, 2, by decide +kernel⟩,
   ⟨m4, s0, 2, by decide +kernel⟩,
   ⟨m0, s4, 2, by decide +kernel⟩,
   ⟨m0, s0, 2, by decide +kernel⟩,
   ⟨m0, s0, 2, by decide +kernel⟩,
   ⟨m0, s0, 2, by decide +kernel⟩,
   ⟨m0, s1, 2, by decide +kernel⟩,
   ⟨7, s8, by decide +kernel⟩⟩

end WI

namespace WI1

def pub (kind alg : Byte) (d : Byte) : List Byte := bytesWith 512 [(5, d), (6, d), (0xA, kind), (0xC, alg), (0x18, 2), (0x1D, 4), (0x20, 1), (0x22, 2)]

def sb (i : Nat) (l : List (Nat × Byte)) : List Byte := bytesWith 256 ([(5, 9), (6, BitVec.ofNat 8 i), (8, BitVec.ofNat 8 i), (0xD, 2), (0xE, 3), (0x10, 4), (0x20, 0x41), (0x60, 5), (0x62, 0), (0x63, 1), (0x64, 6), (0x66, 1), (0x67, 0x82)] ++ l)

def base (m : Mode) (alg : Byte := 0) : State :=
  { mk m [sec 9 0 (pub 0 0 1), sec 9 1 (pub 0 1 2), sec 9 2 (pub 2 alg 3), sec 6 0 (leBytes 3 2 ++ List.replicate 14 0 ++ sb 0 [] ++ sb 1 [(0xC, 3)] ++ sb 2 [(0xB, 1)]), sec 0xF 0 (bytesWith 64 [(0, 0x11), (2, 0x22), (4, 0)])] with
    kpr := { frames := true, synced := true },
    regs := [(0x70001C, 0xFFFFFFFF)],
    lmp := { slots := [(2, { typ := 3, keyId := 77 })] },
    pub := { publishing := true, active := true, pubs := [(0, { stNum := 3, sqNum := 0xFFFFFFFF, due := some 5, rep := 2, last := some [] }), (1, { stNum := 3, sqNum := 4, due := some 5, rep := 39, last := some [] }), (2, { stNum := 9, sqNum := 2 })] } }

def sp (s : State) (x : SubSt) : State := { s with pub := { s.pub with subs := [(0, x), (1, x), (2, x)] } }

def gm : GooseMsg := { dst := 9, src := 1, appid := 0, routable := false, destIp := 0, edition := 2, sim := false, wellFormed := true, tag := none, red := none, gocbRef := [0x41], ttl := 2000, stNum := 4, sqNum := 6, test := false, confRev := 4, ndsCom := false, entries := 3, data := [.boolean true, .bits 2 2, .bits 13 0], ago := 3 }

def m1 : GooseMsg :=
  { gm with wellFormed := false }

def s0 : State :=
  base .active

def m2 : GooseMsg :=
  { gm with dst := 8 }

def m3 : GooseMsg :=
  { gm with sim := true }

def m4 : GooseMsg :=
  { gm with confRev := 5 }

def m0 : GooseMsg :=
  gm

def s10 : State :=
  sp (base .active) { pair := some (4, 5), until_ := 5, vals := [{ value := true, invalid := false, test := false }, { value := true, invalid := false, test := false }] }

def s13 : State :=
  { base .active with pub := { (base .active).pub with wait := some (0, 9), subs := [(0, { pair := some (4, 5), sim := true })] } }

theorem hyps_SubscriptionsFollowTheirMessages :
    (∃ (m : GooseMsg) (s : State), s.img.loaded = true ∧ m.wellFormed = false) ∧
    (∃ (m : GooseMsg) (s : State), s.img.loaded = true ∧ m.wellFormed = true ∧ s.subMatch m = none) ∧
    (∃ (m : GooseMsg) (s : State) (c : StreamCfg), s.img.loaded = true ∧ m.wellFormed = true ∧
        s.subMatch m = some c ∧ m.sim = true ∧ m.edition = 2 ∧
        (s.glb.mode ≠ Mode.test ∨ c.fieldAt 12 1 / 2 % 2 = 0)) ∧
    (∃ (m : GooseMsg) (s : State) (c : StreamCfg), s.img.loaded = true ∧ m.wellFormed = true ∧
        s.subMatch m = some c ∧ m.sim = false ∧ (s.sub (subIndex c)).sim = false ∧ c.fieldAt 11 1 = 0 ∧
        m.confRev ≠ c.fieldAt 16 4) ∧
    (∃ (m : GooseMsg) (s : State) (c : StreamCfg), s.img.loaded = true ∧ m.wellFormed = true ∧
        s.subMatch m = some c ∧ m.sim = false ∧ (s.sub (subIndex c)).sim = false ∧ c.fieldAt 11 1 = 0 ∧
        m.confRev ≠ c.fieldAt 16 4 ∧ (s.sub (subIndex c)).confSeen = false) ∧
    (∃ (m : GooseMsg) (s : State) (c : StreamCfg), s.img.loaded = true ∧ m.wellFormed = true ∧
        s.subMatch m = some c ∧ m.sim = false ∧ (s.sub (subIndex c)).sim = false ∧ c.fieldAt 11 1 = 0 ∧
        m.confRev = c.fieldAt 16 4 ∧ m.entries = c.fieldAt 14 2 ∧ m.data.length = m.entries ∧
        Option.isSome (subValues m (subMaps c)) = true ∧ (s.sub (subIndex c)).pair ≠ some (m.stNum, m.sqNum)) ∧
    (∃ (m : GooseMsg) (s : State) (c : StreamCfg), s.img.loaded = true ∧ m.wellFormed = true ∧
        s.subMatch m = some c ∧ m.sim = false ∧ (s.sub (subIndex c)).sim = false ∧ c.fieldAt 11 1 = 0 ∧
        m.confRev = c.fieldAt 16 4 ∧ m.entries = c.fieldAt 14 2 ∧ m.data.length = m.entries ∧
        Option.isSome (subValues m (subMaps c)) = true ∧ (s.sub (subIndex c)).pair ≠ some (m.stNum, m.sqNum) ∧
        (List.map (fun x => x.fst) (subMaps c)).Nodup) ∧
    (∃ (dt : Nat) (i : Fin 4096) (s : State), Option.isSome (s.subCfg i.val) = true ∧
        (s.sub i.val).pair.isSome = true ∧ (s.sub i.val).timedOut = false ∧
        (s.sub i.val).until_ ≤ (s.elapse dt).time.mono) ∧
    (∃ (dt : Nat) (arg : BitVec 16) (s : State), s.Ready pubCmdReg ∧
        Option.isSome ((s.elapse dt).targetTick 7340060 7340064) = true ∧ arg.toNat < 4096 ∧
        Option.isSome (s.subCfg arg.toNat) = true ∧ s.inFrames = true ∧ s.kpr.frames = true) ∧
    (∃ (i : Nat) (n : Nat) (s : State), s.pub.wait = some (i, n) ∧ Option.isSome (s.subCfg i) = true) :=
  ⟨⟨m1, s0, by decide +kernel⟩,
   ⟨m2, s0, by decide +kernel⟩,
   ⟨m3, s0, { body := s0.cfg 6 0, off := 16 }, ⟨by decide +kernel, by decide +kernel, rfl, by decide +kernel, by decide +kernel, by decide +kernel⟩⟩,
   ⟨m4, s0, { body := s0.cfg 6 0, off := 16 }, ⟨by decide +kernel, by decide +kernel, rfl, by decide +kernel, by decide +kernel, by decide +kernel, by decide +kernel⟩⟩,
   ⟨m4, s0, { body := s0.cfg 6 0, off := 16 }, ⟨by decide +kernel, by decide +kernel, rfl, by decide +kernel, by decide +kernel, by decide +kernel, by decide +kernel, by decide +kernel⟩⟩,
   ⟨m0, s0, { body := s0.cfg 6 0, off := 16 }, ⟨by decide +kernel, by decide +kernel, rfl, by decide +kernel, by decide +kernel, by decide +kernel, by decide +kernel, by decide +kernel, by decide +kernel, by decide +kernel, by decide +kernel⟩⟩,
   ⟨m0, s0, { body := s0.cfg 6 0, off := 16 }, ⟨by decide +kernel, by decide +kernel, rfl, by decide +kernel, by decide +kernel, by decide +kernel, by decide +kernel, by decide +kernel, by decide +kernel, by decide +kernel, by decide +kernel, by decide +kernel⟩⟩,
   ⟨7, 0, s10, by decide +kernel⟩,
   ⟨7, 0, s0, by unfold State.Ready; decide +kernel⟩,
   ⟨0, 9, s13, by decide +kernel⟩⟩

end WI1

namespace WJ

def pp (pref fl : Nat) : Section := sec 0xF 0 (bytesWith 64 [(0, 0x11), (2, 0x22), (4, BitVec.ofNat 8 pref), (5, BitVec.ofNat 8 fl), (6, 5), (0xA, 3), (0xD, 0), (0xE, 4)])

def clsec : Section := sec 2 0 (leBytes 1 4 ++ List.replicate 12 0 ++ (List.replicate 6 0 ++ leBytes 0x1234 2 ++ leBytes 0 2 ++ leBytes 0 2 ++ leBytes 0xFFFFFFFF 4 ++ leBytes (2^24) 4 ++ [3, 2] ++ leBytes 0 2 ++ List.replicate 8 0))

def base (m : Mode) (pref : Nat := 0) (fl : Nat := 7) : State :=
  { mk m [pp pref fl, clsec, sec 9 0 (bytesWith 64 [])] with
    kpr := { frames := true, synced := true, open_ := false, tick := 48000 },
    bcn := { state := .locked, selected := 0, tickNo := 48000 } }

def pr (s : State) (f : PairUnit → PairUnit) : State := { s with pair := f s.pair }

def dgB (x : Byte) : List Byte := List.replicate 16 x ++ List.replicate 16 2 ++ leBytes 0 2 ++ leBytes 2 2 ++ leBytes 3 4

def dg (x : Byte) : Digest := digestOf 500 (dgB x)

def act (s : State) : State := pr s (fun p => { p with alive := true, fog := { mode := 4, flags := 1, slot := 0 } })

def pl (typ : Nat) (b : List Byte) : List Byte := bregMsg typ 0 0x22 9 500 b

def fogB : List (List Byte) := [[0, 4, 1, 0, 9, 0, 0, 0, 5, 0, 0, 0, 7, 0, 0, 0], leBytes 0xFF 1 ++ [3, 9, 0, 9, 0, 0, 0, 5, 0, 0, 0, 7, 0, 0, 0], [1, 4, 1, 0, 9, 0, 0, 0, 5, 0, 0, 0, 7, 0, 0, 0]]

def mirC : List Byte := leBytes 1 2 ++ leBytes 0 2 ++ leBytes 0 2 ++ leBytes 3 2 ++ leBytes 7 4 ++ leBytes 8 4 ++ List.replicate 16 1

def PP.b : List (List Byte) := fogB ++ [[], dgB 1, dgB 4, mirC]

def PP.m : List (List Byte) := fogB.map (bregMsg 1 0 0x22 9 48000) ++ fogB.map (pl 1) ++ [pl 4 [], pl 2 (dgB 1), pl 2 (dgB 4), pl 3 mirC, [1, 2, 3], List.replicate 40 1]

def s0 : State :=
  base .active

def s15 : State :=
  pr { base .standby with kpr := {} } (fun p => { p with absent := true, solo := some 0 })

def s18 : State :=
  pr (base .active) (fun p => { p with alive := true, pathA := { miss := 5, up := true, lane1 := true, good := 7 }, pathB := { miss := 4, lane2 := true, good := 7 } })

def s17 : State :=
  pr (base .active) (fun p => { p with alive := true, pathA := { miss := 4, up := true }, pathB := { miss := 5 } })

def s16 : State :=
  pr (base .active) (fun p => { p with fogStart := some 0 })

def s6 : State :=
  act (base .standby)

def s7 : State :=
  act (base .commission)

def s11 : State :=
  pr (base .standby) (fun p => { p with take := true })

def s13 : State :=
  pr (base .commission) (fun p => { p with take := true })

def s14 : State :=
  pr (base .standby) (fun p => { p with absent := true, solo := some 0 })

def s19 : State :=
  pr (base .active) (fun p => { p with own := [dg 1] })

def o0 : Digest :=
  dg 1

def s20 : State :=
  pr (base .active) (fun p => { p with own := [dg 1], consec := 15 })

def s1 : State :=
  base .standby

def s21 : State :=
  pr (base .standby) (fun p => { p with own := [dg 1], consec := 15, diverged := true, matchRun := 4799 })

theorem hyps_FogsAndPathsShowThePartner :
    (∃ (s : State), s.pairOn = true) ∧
    (∃ (frame : Nat) (m : List Byte) (b : List Byte) (s : State), s.BregIn 1 m frame b) ∧
    (∃ (dt : Nat) (frame : Nat) (m : List Byte) (b : List Byte) (s : State), s.BregIn 1 m frame b ∧
        (s.elapse dt).fogNear (fogOf frame b) 2000 = true) ∧
    (∃ (dt : Nat) (frame : Nat) (p : Fin 2) (m : List Byte) (b : List Byte) (s : State), s.BregIn 1 m frame b ∧
        (s.elapse dt).fogNear (fogOf frame b) 2000 = true ∧ 7 ≤ (s.path p.val).good ∧
        ((s.path p.val).lane1 = true ∨ (s.path p.val).lane2 = true)) ∧
    (∃ (dt : Nat) (frame : Nat) (m : List Byte) (b : List Byte) (s : State), s.BregIn 1 m frame b ∧
        (s.elapse dt).fogNear (fogOf frame b) 2000 = false) ∧
    (∃ (dt : Nat) (p : Fin 2) (m : List Byte) (c : Instr) (s : State), s.pairOn = true ∧ s.bregOk m = false ∧
        c ∈ [Instr.fogRx dt p m, Instr.yieldRx dt m, Instr.digestRx dt m, Instr.pubMirrorRx dt m, Instr.ctrlReqRx dt m, Instr.ctrlGrantRx dt m, Instr.ctrlConfirmRx dt m, Instr.ctrlAbortRx dt m]) ∧
    (∃ (s : State), s.pairOn = true) ∧
    (∃ (p : Fin 2) (s : State), s.pairOn = true ∧ 4 ≤ (s.path p.val).miss) ∧
    (∃ (p : Fin 2) (s : State), s.pairOn = true ∧ s.pair.alive = true ∧ 4 ≤ (s.path p.val).miss ∧
        5 ≤ (s.path (1 - p.val)).miss) ∧
    (∃ (p : Fin 2) (s : State), s.pairOn = true ∧ ((s.path p.val).miss < 4 ∨ (s.path (1 - p.val)).miss < 5)) ∧
    (∃ (dt : Nat) (t0 : Nat) (s : State), s.pair.fogStart = some t0 ∧ s.pair.alive = false ∧
        s.pair.lanPresent = false ∧ max t0 s.pair.heard + 100 * msUnit ≤ (s.elapse dt).time.mono) :=
  ⟨⟨s0, by decide +kernel⟩,
   ⟨500, (PP.m[3]'(by decide)), [0, 4, 1, 0, 9, 0, 0, 0, 5, 0, 0, 0, 7, 0, 0, 0], s0, bregIn_of (by decide +kernel)⟩,
   ⟨7, 500, (PP.m[3]'(by decide)), [0, 4, 1, 0, 9, 0, 0, 0, 5, 0, 0, 0, 7, 0, 0, 0], s15, ⟨bregIn_of (by decide +kernel), by decide +kernel⟩⟩,
   ⟨7, 48000, 0, (PP.m[0]'(by decide)), [0, 4, 1, 0, 9, 0, 0, 0, 5, 0, 0, 0, 7, 0, 0, 0], s18, ⟨bregIn_of (by decide +kernel), by decide +kernel⟩⟩,
   ⟨7, 500, (PP.m[3]'(by decide)), [0, 4, 1, 0, 9, 0, 0, 0, 5, 0, 0, 0, 7, 0, 0, 0], s0, ⟨bregIn_of (by decide +kernel), by decide +kernel⟩⟩,
   ⟨7, 0, [1, 2, 3], Sys2Proof.Instr.fogRx 7 0 [0x01#8, 0x02#8, 0x03#8], s0, by decide +kernel⟩,
   ⟨s0, by decide +kernel⟩,
   ⟨0, s17, by decide +kernel⟩,
   ⟨0, s17, by decide +kernel⟩,
   ⟨0, s0, by decide +kernel⟩,
   ⟨7, 0, s16, by decide +kernel⟩⟩

theorem hyps_TakeoverDigestsAndMirror :
    (∃ (frame : Nat) (m : List Byte) (b : List Byte) (s : State), s.BregIn 4 m frame b ∧
        (s.pair.fog.mode = 4 ∨ s.partnerActive = true) ∧ s.glb.mode ≠ Mode.active ∧ s.pair.take = false ∧
        s.eligible = true) ∧
    (∃ (frame : Nat) (m : List Byte) (b : List Byte) (s : State), s.BregIn 4 m frame b ∧
        (s.pair.fog.mode = 4 ∨ s.partnerActive = true) ∧ s.glb.mode ≠ Mode.active ∧ s.pair.take = false ∧
        s.eligible = false) ∧
    (∃ (s : State), s.pair.take = true ∧ s.eligible = true) ∧
    (∃ (s : State), s.pair.take = true ∧ s.eligible = false) ∧
    (∃ (dt : Nat) (s : State) (t0 : Nat), s.pair.solo = some t0 ∧ s.soloCond = true ∧ s.glb.inTransition = false ∧
        t0 + leAt s.pp 10 2 * secUnit ≤ (s.elapse dt).time.mono ∧ s.kpr.frames = true) ∧
    (∃ (dt : Nat) (s : State) (t0 : Nat), s.pair.solo = some t0 ∧ s.soloCond = true ∧ s.glb.inTransition = false ∧
        t0 + leAt s.pp 10 2 * secUnit ≤ (s.elapse dt).time.mono ∧ s.kpr.frames = false) ∧
    (∃ (frame : Nat) (m : List Byte) (b : List Byte) (s : State), s.BregIn 2 m frame b ∧
        (∀ (o : Digest), o ∈ s.pair.own → o.frame ≠ frame) ∧ (∀ (d : Digest), d ∈ s.pair.peer → d.frame ≠ frame)) ∧
    (∃ (m : List Byte) (b : List Byte) (s : State) (o : Digest), s.BregIn 2 m o.frame b ∧ s.pair.own = [o] ∧
        o.digest = (digestOf o.frame b).digest) ∧
    (∃ (m : List Byte) (b : List Byte) (s : State) (o : Digest), s.BregIn 2 m o.frame b ∧ s.pair.own = [o] ∧
        o.digest ≠ (digestOf o.frame b).digest ∧ o.explainsWith (digestOf o.frame b) = false ∧
        s.explained o.frame o (digestOf o.frame b) = false ∧ s.pair.consec < 15) ∧
    (∃ (m : List Byte) (b : List Byte) (s : State) (o : Digest), s.BregIn 2 m o.frame b ∧ s.pair.own = [o] ∧
        o.digest ≠ (digestOf o.frame b).digest ∧ o.explainsWith (digestOf o.frame b) = false ∧
        s.explained o.frame o (digestOf o.frame b) = false ∧ 15 ≤ s.pair.consec ∧ s.pair.diverged = false ∧
        (s.glb.mode = Mode.active ∨ byteAt s.pp 13 = 0)) ∧
    (∃ (frame : Nat) (m : List Byte) (b : List Byte) (s : State), s.BregIn 3 m frame b ∧ leAt b 0 2 = 1 ∧
        b.length = 32) ∧
    (∃ (frame : Nat) (m : List Byte) (b : List Byte) (s : State), s.BregIn 3 m frame b ∧ leAt b 0 2 = 1 ∧
        b.length = 32 ∧ s.pubSends = false ∧ s.pubList.contains (leAt b 4 2) = true) ∧
    (∃ (frame : Nat) (m : List Byte) (b : List Byte) (s : State), s.BregIn 3 m frame b ∧ leAt b 0 2 = 1 ∧
        b.length = 32 ∧ s.pubSends = true) ∧
    (∃ (s : State) (arg : BitVec 16), s.Ready pairCmdReg ∧ s.img.loaded = true ∧ arg.toNat ≤ 1) ∧
    (∃ (s : State), s.Ready pairCmdReg ∧ s.img.loaded = true ∧ s.pair.diverged = true) :=
  ⟨⟨500, (PP.m[6]'(by decide)), [], s6, ⟨bregIn_of (by decide +kernel), by decide +kernel⟩⟩,
   ⟨500, (PP.m[6]'(by decide)), [], s7, ⟨bregIn_of (by decide +kernel), by decide +kernel⟩⟩,
   ⟨s11, by decide +kernel⟩,
   ⟨s13, by decide +kernel⟩,
   ⟨7, s14, 0, by decide +kernel⟩,
   ⟨7, s15, 0, by decide +kernel⟩,
   ⟨500, (PP.m[7]'(by decide)), (PP.b[4]'(by decide)), s0, ⟨bregIn_of (by decide +kernel), by decide +kernel⟩⟩,
   ⟨(PP.m[7]'(by decide)), (PP.b[4]'(by decide)), s19, o0, ⟨bregIn_of (by decide +kernel), by decide +kernel⟩⟩,
   ⟨(PP.m[8]'(by decide)), (PP.b[5]'(by decide)), s19, o0, ⟨bregIn_of (by decide +kernel), by decide +kernel⟩⟩,
   ⟨(PP.m[8]'(by decide)), (PP.b[5]'(by decide)), s20, o0, ⟨bregIn_of (by decide +kernel), by decide +kernel⟩⟩,
   ⟨500, (PP.m[9]'(by decide)), (PP.b[6]'(by decide)), s0, ⟨bregIn_of (by decide +kernel), by decide +kernel⟩⟩,
   ⟨500, (PP.m[9]'(by decide)), (PP.b[6]'(by decide)), s1, ⟨bregIn_of (by decide +kernel), by decide +kernel⟩⟩,
   ⟨500, (PP.m[9]'(by decide)), (PP.b[6]'(by decide)), s0, ⟨bregIn_of (by decide +kernel), by decide +kernel⟩⟩,
   ⟨s0, 0, by unfold State.Ready; decide +kernel⟩,
   ⟨s21, by unfold State.Ready; decide +kernel⟩⟩

end WJ

namespace WJ1

def pp (pref fl : Nat) : Section := sec 0xF 0 (bytesWith 64 [(0, 0x11), (2, 0x22), (4, BitVec.ofNat 8 pref), (5, BitVec.ofNat 8 fl), (6, 5), (0xA, 3), (0xD, 0), (0xE, 4)])

def clsec : Section := sec 2 0 (leBytes 1 4 ++ List.replicate 12 0 ++ (List.replicate 6 0 ++ leBytes 0x1234 2 ++ leBytes 0 2 ++ leBytes 0 2 ++ leBytes 0xFFFFFFFF 4 ++ leBytes (2^24) 4 ++ [3, 2] ++ leBytes 0 2 ++ List.replicate 8 0))

def base (m : Mode) (pref : Nat := 0) (fl : Nat := 7) : State :=
  { mk m [pp pref fl, clsec, sec 9 0 (bytesWith 64 [])] with
    kpr := { frames := true, synced := true, open_ := false, tick := 48000 },
    bcn := { state := .locked, selected := 0, tickNo := 6000 } }

def pr (s : State) (f : PairUnit → PairUnit) : State := { s with pair := f s.pair }

def stb (s : State) : State := pr s (fun p => { p with alive := true, fog := { mode := 3, flags := 1 } })

def ready (s : State) : State :=
  { pr s (fun p => { p with alive := true, fog := { mode := 4, flags := 0x1 }, matchRun := 4800, pathA := { lock := 8, up := true, good := 8 } }) with cnd := { aligned := true, s0 := some 0, lastS0 := 0 } }

def pl (typ : Nat) (b : List Byte) : List Byte := bregMsg typ 0 0x22 9 500 b

def cb (k h : Nat) : List Byte := leBytes k 4 ++ leBytes h 4

def hb (h : Nat) : List Byte := leBytes h 4

def PP.m : List (List Byte) := ([cb 0 6016, cb 1 6016, cb 2 6016, cb 9 6016].map (pl 5)) ++ ([hb 6016, hb 6007, hb 6002].flatMap (fun b => [pl 6 b, pl 7 b])) ++ [pl 8 (hb 6016 ++ [1, 0, 0, 0]), pl 8 (hb 6007 ++ [2, 0, 0, 0]), pl 0xC []]

def fr1 : Frame := { dst := 5, src := 6, vlans := [], etherType := 0x1234, payload := List.replicate 50 1, red := none }

def s0 : State :=
  ready (base .standby)

def s7 : State :=
  pr (ready (base .active 1)) (fun p => { p with ex := 1, exH := 6016, exKind := 0, exIni := true })

def s9 : State :=
  pr (ready (base .active 1)) (fun p => { p with ex := 2, exH := 6016, exKind := 0, exIni := true })

def s11 : State :=
  pr (ready (base .active 1)) (fun p => { p with ex := 3, exH := 6016, exKind := 0, exIni := true, exNow := true })

def s13 : State :=
  pr (ready (base .standby)) (fun p => { p with ex := 1, exH := 6007, exKind := 0, exIni := true, exNow := true })

def s10 : State :=
  pr (ready (base .active 1)) (fun p => { p with ex := 2, exH := 6002, exKind := 0, exIni := true })

def s6 : State :=
  pr (ready (base .standby)) (fun p => { p with hold := some 0 })

def s4 : State :=
  stb (ready (base .standby))

def f1 : Frame :=
  { fr1 with etherType := 0x1235 }

def f0 : Frame :=
  fr1

theorem hyps_ControlExchangesFollowTheirMessages :
    (∃ (frame : Nat) (m : List Byte) (b : List Byte) (s : State), s.BregIn 5 m frame b ∧
        (s.pair.ex = 0 ∨ s.pair.ex = 1 ∧ s.glb.mode ≠ Mode.active) ∧ s.kpr.frames = true ∧
        s.exCond (byteAt b 0) false = true) ∧
    (∃ (frame : Nat) (m : List Byte) (b : List Byte) (s : State), s.BregIn 5 m frame b ∧ s.pair.ex = 0 ∧
        (s.kpr.frames = false ∨ s.exCond (byteAt b 0) false = false)) ∧
    (∃ (frame : Nat) (m : List Byte) (b : List Byte) (s : State), s.BregIn 5 m frame b ∧
        (2 ≤ s.pair.ex ∨ s.pair.ex = 1 ∧ s.glb.mode = Mode.active)) ∧
    (∃ (frame : Nat) (m : List Byte) (b : List Byte) (s : State), s.BregIn 6 m frame b ∧ s.pair.ex = 1 ∧
        leAt b 0 4 = s.pair.exH) ∧
    (∃ (frame : Nat) (m : List Byte) (b : List Byte) (s : State), s.BregIn 6 m frame b ∧
        (s.pair.ex ≠ 1 ∨ leAt b 0 4 ≠ s.pair.exH)) ∧
    (∃ (frame : Nat) (m : List Byte) (b : List Byte) (s : State), s.BregIn 7 m frame b ∧ s.pair.ex = 2 ∧
        leAt b 0 4 = s.pair.exH ∧ frameGe s.frameNum (frameBack s.pair.exH 8) = false) ∧
    (∃ (frame : Nat) (m : List Byte) (b : List Byte) (s : State), s.BregIn 8 m frame b ∧ s.pair.ex ≠ 0 ∧
        leAt b 0 4 = s.pair.exH ∧ s.pair.exLeave = false) ∧
    (∃ (frame : Nat) (m : List Byte) (b : List Byte) (s : State), s.BregIn 8 m frame b ∧ s.pair.ex ≠ 0 ∧
        leAt b 0 4 = s.pair.exH ∧ s.pair.exLeave = false ∧ s.pair.exNow = true) ∧
    (∃ (s : State), s.pair.exLeave = false ∧ s.pair.ex = 1 ∧ frameGe s.frameNum (frameBack s.pair.exH 8) = true) ∧
    (∃ (s : State), s.pair.exLeave = false ∧ s.pair.ex = 2 ∧ frameGe s.frameNum (frameBack s.pair.exH 8) = true) ∧
    (∃ (s : State), s.pair.exLeave = false ∧ s.pair.ex = 3 ∧ frameGe (frameBack s.pair.exH 2) s.frameNum = true ∧
        s.exCond s.pair.exKind s.pair.exIni = false) ∧
    (∃ (s : State), s.pair.exLeave = false ∧ (s.pair.ex = 0 ∨ s.pair.ex ≤ 2 ∧
        frameGe s.frameNum (frameBack s.pair.exH 8) = false)) ∧
    (∃ (dt : Nat) (s : State) (t0 : Nat), s.pair.ex = 0 ∧ s.kpr.frames = true ∧ s.pair.hold = some t0 ∧
        t0 + s.handbackHold * secUnit ≤ (s.elapse dt).time.mono ∧ s.handbackInit = true) ∧
    (∃ (s : State), s.pair.ex = 0 ∧ s.kpr.frames = true ∧ s.startInit = true) ∧
    (∃ (s : State), s.pair.ex = 0 ∧ s.kpr.frames = true ∧ s.Ready pairCmdReg ∧ s.handbackInit = true) ∧
    (∃ (frame : Nat) (m : List Byte) (b : List Byte) (f : Frame) (s : State), s.BregIn 12 m frame b ∧
        s.routeFrame 61 f 0 s.classEnd = none) ∧
    (∃ (frame : Nat) (m : List Byte) (b : List Byte) (f : Frame) (s : State) (x : Nat) (cls : Nat), s.BregIn 12 m frame b ∧
        s.routeFrame 61 f 0 s.classEnd = some ([x], cls, none) ∧ 33 ≤ x ∧ s.groupOf x = none ∧
        s.admits x cls (cellsOf f.octets) = true) :=
  ⟨⟨500, (PP.m[1]'(by decide)), [1, 0, 0, 0, 128, 23, 0, 0], s0, ⟨bregIn_of (by decide +kernel), by decide +kernel⟩⟩,
   ⟨500, (PP.m[0]'(by decide)), [0, 0, 0, 0, 128, 23, 0, 0], s0, ⟨bregIn_of (by decide +kernel), by decide +kernel⟩⟩,
   ⟨500, (PP.m[0]'(by decide)), [0, 0, 0, 0, 128, 23, 0, 0], s7, ⟨bregIn_of (by decide +kernel), by decide +kernel⟩⟩,
   ⟨500, (PP.m[4]'(by decide)), [128, 23, 0, 0], s7, ⟨bregIn_of (by decide +kernel), by decide +kernel⟩⟩,
   ⟨500, (PP.m[4]'(by decide)), [128, 23, 0, 0], s0, ⟨bregIn_of (by decide +kernel), by decide +kernel⟩⟩,
   ⟨500, (PP.m[5]'(by decide)), [128, 23, 0, 0], s9, ⟨bregIn_of (by decide +kernel), by decide +kernel⟩⟩,
   ⟨500, (PP.m[10]'(by decide)), [128, 23, 0, 0, 1, 0, 0, 0], s7, ⟨bregIn_of (by decide +kernel), by decide +kernel⟩⟩,
   ⟨500, (PP.m[10]'(by decide)), [128, 23, 0, 0, 1, 0, 0, 0], s11, ⟨bregIn_of (by decide +kernel), by decide +kernel⟩⟩,
   ⟨s13, by decide +kernel⟩,
   ⟨s10, by decide +kernel⟩,
   ⟨s11, by decide +kernel⟩,
   ⟨s0, by decide +kernel⟩,
   ⟨7, s6, 0, by decide +kernel⟩,
   ⟨s4, by decide +kernel⟩,
   ⟨s0, by unfold State.Ready; decide +kernel⟩,
   ⟨500, (PP.m[12]'(by decide)), [], f1, s0, ⟨bregIn_of (by decide +kernel), by decide +kernel⟩⟩,
   ⟨500, (PP.m[12]'(by decide)), [], f0, s0, 57, 3, ⟨bregIn_of (by decide +kernel), by decide +kernel⟩⟩⟩

end WJ1

namespace WJ2

def pp (pref fl : Nat) : Section := sec 0xF 0 (bytesWith 64 [(0, 0x11), (2, 0x22), (4, BitVec.ofNat 8 pref), (5, BitVec.ofNat 8 fl), (6, 5), (0xA, 3), (0xD, 0), (0xE, 4)])

def clsec : Section := sec 2 0 (leBytes 1 4 ++ List.replicate 12 0 ++ (List.replicate 6 0 ++ leBytes 0x1234 2 ++ leBytes 0 2 ++ leBytes 0 2 ++ leBytes 0xFFFFFFFF 4 ++ leBytes (2^24) 4 ++ [3, 2] ++ leBytes 0 2 ++ List.replicate 8 0))

def base (m : Mode) (pref : Nat := 0) (fl : Nat := 7) : State :=
  { mk m [pp pref fl, clsec, sec 9 0 (bytesWith 64 [])] with
    kpr := { frames := true, synced := true, open_ := false, tick := 48000 },
    bcn := { state := .locked, selected := 0, tickNo := 6000 } }

def pr (s : State) (f : PairUnit → PairUnit) : State := { s with pair := f s.pair }

def pl (typ : Nat) (b : List Byte) : List Byte := bregMsg typ 0 0x22 9 500 b

def al (s : State) : State := { pr s (fun p => { p with alive := true }) with cnd := {} }

def it (s : State) (k left : Nat) (src : Bool) : State := pr s (fun p => { p with al := k, alLeft := left, alSource := src, alFrame := 5999, alStart := 5990 })

def rq (a b : Nat) : List Byte := leBytes a 2 ++ [0, 0] ++ leBytes b 4

def ib (k u p : Nat) : List Byte := leBytes k 1 ++ [0] ++ leBytes u 2 ++ leBytes p 4

def bb : List (Nat × List Byte) := [(9, rq ((base .active).glbVersion % 65536) 3), (9, rq 0 3), (9, rq ((base .active).glbVersion % 65536) 4), (0xA, leBytes 6010 4 ++ leBytes 6020 4), (0xB, ib 0 5 9), (0xB, ib 1 6 9), (0xB, ib 2 1 9), (0xB, ib 3 7 9), (0xB, ib 4 0 9)]

def PP.m : List (List Byte) := bb.map (fun x => pl x.1 x.2)

def s3 : State :=
  pr (al (base .standby)) (fun p => { p with fog := { mode := 4, slot := 0 } })

def s0 : State :=
  al (base .standby)

def s2 : State :=
  pr (al (base .standby)) (fun p => { p with alWait := true, fog := { mode := 4, slot := 0 } })

def s1 : State :=
  al (base .test 1)

def s8 : State :=
  it (base .standby) 1 3 false

def y2 : Slot :=
  { run := true, next := 4 }

def h0 : Chan :=
  {}

def y0 : Slot :=
  { run := true, ins := [(7, 0)], next := 4 }

def s11 : State :=
  it (base .active) 2 3 true

def s9 : State :=
  it (base .standby) 2 0 false

def s10 : State :=
  it (base .standby) 2 3 false

theorem hyps_AlignmentRunsToItsFrame :
    (∃ (s : State), s.alignMay = true ∧ s.aligning = false ∧ s.kpr.frames = true ∧ s.pair.fog.slot ≠ 255 ∧
        (s.pair.fog.mode = 4 ∨ s.isPreferred = false)) ∧
    (∃ (s : State), s.alignMay = true ∧ s.aligning = false ∧ s.Ready pairCmdReg) ∧
    (∃ (s : State), s.alignMay = true ∧ s.aligning = true ∧ s.Ready pairCmdReg) ∧
    (∃ (frame : Nat) (m : List Byte) (b : List Byte) (s : State), s.BregIn 9 m frame b ∧ s.alignIsSource = true ∧
        leAt b 0 2 = s.glbVersion % 65536 ∧ leAt b 4 4 = s.runGen) ∧
    (∃ (frame : Nat) (m : List Byte) (b : List Byte) (s : State), s.BregIn 9 m frame b ∧
        (s.alignIsSource = false ∨ leAt b 0 2 ≠ s.glbVersion % 65536 ∨ leAt b 4 4 ≠ s.runGen)) ∧
    (∃ (frame : Nat) (m : List Byte) (b : List Byte) (s : State), s.BregIn 10 m frame b ∧ s.pair.alWait = true) ∧
    (∃ (frame : Nat) (m : List Byte) (b : List Byte) (s : State), s.BregIn 10 m frame b ∧ s.pair.alWait = false) ∧
    (∃ (frame : Nat) (m : List Byte) (b : List Byte) (s : State), s.BregIn 11 m frame b ∧
        (s.pair.al = 1 ∨ s.pair.al = 2) ∧ s.pair.alSource = false ∧ byteAt b 0 = 2) ∧
    (∃ (frame : Nat) (m : List Byte) (b : List Byte) (s : State), s.BregIn 11 m frame b ∧
        (s.pair.al = 1 ∨ s.pair.al = 2) ∧ s.pair.alSource = false ∧ byteAt b 0 = 1) ∧
    (∃ (frame : Nat) (m : List Byte) (b : List Byte) (s : State) (y : Slot) (h : Chan) (rings : List (List Byte)), s.BregIn 11 m frame b ∧
        (s.pair.al = 1 ∨ s.pair.al = 2) ∧ s.pair.alSource = false ∧ byteAt b 0 = 0 ∧
        (Option.map (fun e => e.fst) (s.slot (leAt b 2 2)).ins.head?).getD 0 = itemInstant (AlignItem.slot y h rings)) ∧
    (∃ (frame : Nat) (m : List Byte) (b : List Byte) (s : State) (y : Slot) (h : Chan) (rings : List (List Byte)), s.BregIn 11 m frame b ∧
        (s.pair.al = 1 ∨ s.pair.al = 2) ∧ s.pair.alSource = false ∧ byteAt b 0 = 0 ∧
        (Option.map (fun e => e.fst) (s.slot (leAt b 2 2)).ins.head?).getD 0 < itemInstant (AlignItem.slot y h rings)) ∧
    (∃ (frame : Nat) (m : List Byte) (b : List Byte) (item : AlignItem) (s : State), s.BregIn 11 m frame b ∧
        (s.pair.al = 1 ∨ s.pair.al = 2) ∧ s.pair.alSource = false ∧ ((byteAt b 0 = 3 ∧
        ∃ x y i n, item = AlignItem.function x y i n) ∨ byteAt b 0 = 4 ∧ ∃ w h, item = AlignItem.decisions w h) ∧
        frameGe s.pair.lastCommit (leAt b 4 4) = false) ∧
    (∃ (s : State), s.pair.al = 2 ∧ frameGe s.frameNum s.pair.alFrame = true ∧ s.pair.alSource = true) ∧
    (∃ (s : State), s.pair.al = 2 ∧ frameGe s.frameNum s.pair.alFrame = true ∧ s.pair.alSource = false ∧
        s.pair.alLeft = 0) ∧
    (∃ (s : State), s.pair.al = 2 ∧ frameGe s.frameNum s.pair.alFrame = true ∧ s.pair.alSource = false ∧
        s.pair.alLeft = 0 ∧ s.alignedNow = false) ∧
    (∃ (s : State), s.pair.al = 2 ∧ frameGe s.frameNum s.pair.alFrame = true ∧ s.pair.alSource = false ∧
        s.pair.alLeft ≠ 0) :=
  ⟨⟨s3, by decide +kernel⟩,
   ⟨s0, by unfold State.Ready; decide +kernel⟩,
   ⟨s2, by unfold State.Ready; decide +kernel⟩,
   ⟨500, (PP.m[0]'(by decide)), [0, 67, 0, 0, 3, 0, 0, 0], s0, ⟨bregIn_of (by decide +kernel), by decide +kernel⟩⟩,
   ⟨500, (PP.m[0]'(by decide)), [0, 67, 0, 0, 3, 0, 0, 0], s1, ⟨bregIn_of (by decide +kernel), by decide +kernel⟩⟩,
   ⟨500, (PP.m[3]'(by decide)), [122, 23, 0, 0, 132, 23, 0, 0], s2, ⟨bregIn_of (by decide +kernel), by decide +kernel⟩⟩,
   ⟨500, (PP.m[3]'(by decide)), [122, 23, 0, 0, 132, 23, 0, 0], s0, ⟨bregIn_of (by decide +kernel), by decide +kernel⟩⟩,
   ⟨500, (PP.m[6]'(by decide)), [2, 0, 1, 0, 9, 0, 0, 0], s8, ⟨bregIn_of (by decide +kernel), by decide +kernel⟩⟩,
   ⟨500, (PP.m[5]'(by decide)), [1, 0, 6, 0, 9, 0, 0, 0], s8, ⟨bregIn_of (by decide +kernel), by decide +kernel⟩⟩,
   ⟨500, (PP.m[4]'(by decide)), [0, 0, 5, 0, 9, 0, 0, 0], s8, y2, h0, [], ⟨bregIn_of (by decide +kernel), by decide +kernel⟩⟩,
   ⟨500, (PP.m[4]'(by decide)), [0, 0, 5, 0, 9, 0, 0, 0], s8, y0, h0, [], ⟨bregIn_of (by decide +kernel), by decide +kernel⟩⟩,
   ⟨500, (PP.m[7]'(by decide)), [3, 0, 7, 0, 9, 0, 0, 0], Sys2Proof.Machine.AlignItem.function [] [] 0 1, s8, ⟨bregIn_of (by decide +kernel), by decide +kernel, by decide +kernel, .inl ⟨by decide +kernel, _, _, _, _, rfl⟩, by decide +kernel⟩⟩,
   ⟨s11, by decide +kernel⟩,
   ⟨s9, by decide +kernel⟩,
   ⟨s9, by decide +kernel⟩,
   ⟨s10, by decide +kernel⟩⟩

end WJ2

namespace WK

def g (i n : Nat) (usage typ mode fl auth wrap : Nat) : List Byte := leBytes i 2 ++ leBytes n 2 ++ leBytes usage 1 ++ leBytes typ 1 ++ leBytes mode 1 ++ leBytes fl 1 ++ leBytes auth 2 ++ leBytes wrap 2 ++ leBytes 0 4
-- slots 0,1 : sign type 3 ; 2 wrap aes typ 2; 3: auth; 4: client cert usage 4 typ 3 ; 5: no import (flag 1); 6 non-atomic

def kp : Section := sec 0xE 0 (leBytes 7 2 ++ List.replicate 14 0 ++ g 0 2 6 3 0 0 3 2 ++ g 2 1 2 2 0 0 3 2 ++ g 3 1 5 5 0 0 3 2 ++ g 4 1 4 3 0 0 3 2 ++ g 5 1 6 3 0 1 3 2 ++ g 6 1 6 3 1 0 3 2 ++ g 7 1 7 3 0 0 3 2)

def ks (typ : Nat) (bad : Bool := false) : KeySlot := { a := { mat := List.replicate 32 5 }, typ := typ, keyId := 100 + typ, origin := 1, bad := bad }

def base (m : Mode) (gen : Nat := 5) (life : Nat := 2) (len : Nat := 264) : State :=
  { mk m [kp] with
    regs := [(0x900014, 0x1000), (0x900020, 0x2000), (0x900024, 1), (0x90001C, BitVec.ofNat 32 len), (0x900028, 4096)],
    hst := { gen := gen },
    lmp := { mode := 1, life := life, slots := [(0, ks 3), (1, ks 3 true), (2, ks 2), (3, ks 5), (4, ks 3), (7, ks 3)], counters := [], boundId := 0x11, certs := [(3, { der := [1, 2, 3], slot := 4 }), (4, { der := [], slot := 1 })], factoryRoot := [9] } }

def jb (s : State) (j : LmpJob) : State := { s with lmp := { s.lmp with job := some j } }

def js : List LmpJob := [{ code := 1, slot := 4, kind := 1, keyId := 9, typ := 3, origin := 1, mat := [1, 2] }, { code := 3, slot := 0, kind := 2, keyId := 9, typ := 3, origin := 1, mat := [1, 2], counter := 4 }, { code := 4, slot := 1, kind := 3 },
  { code := 3, slot := 0xFFFF, kind := 4, life := 3 }, { code := 3, slot := 0xFFFF, kind := 4, life := 4 }, { code := 5, slot := 3, out := [1, 2] }, { code := 5, slot := 3, result := 0x18, out := [1, 2] }, { code := 8, slot := 3, cert := some (5, { der := [4], slot := 3 }) },
  { code := 10, slot := 0, life := 2, provision := some (List.replicate 196 7) }, { code := 11, slot := 0, life := 3 }, { code := 3, slot := 0, result := 0x13 }, { code := 3, slot := 0, result := 0x1C }]

def PP.s : List State := [base .active, base .active 0, base .test 5 3, base .commission 5 1, base .maintenance 0 2, base .maintenance 5 2, base .maintenance 5 4, { base .active with lmp := { (base .active).lmp with mode := 2 } }, base .active 5 2 1000, base .active 5 2 60, base .boot,
   base .dormant 0 0, base .dormant 0 4] ++ js.map (jb (base .active)) ++ js.map (jb (base .active 0)) ++ [base .active 5 2 0x40]

def op (o slot i a : Nat) : List Byte := leBytes o 1 ++ [0] ++ leBytes slot 2 ++ leBytes i 4 ++ leBytes a 2 ++ List.replicate 6 0 ++ List.replicate 200 3

def buf13 : (List Byte) :=
  op 4 7 20 0

theorem hyps_LampRoomCommandsStart :
    (∃ (arg : BitVec 16) (s : State), s.Ready lmpCmdReg ∧ s.lmpAligned = true ∧ s.keyLegal = true ∧
        arg.toNat < 1024 ∧ s.atomic arg.toNat = true) ∧
    (∃ (arg : BitVec 16) (s : State), s.Ready lmpCmdReg ∧ s.lmpAligned = true ∧ s.keyLegal = true ∧
        arg.toNat < 1024 ∧ s.atomic arg.toNat = true) ∧
    (∃ (arg : BitVec 16) (buf : List Byte) (s : State) (g : Nat) (r : Nat) (m : List Byte), s.Ready lmpCmdReg ∧
        s.lmpAligned = true ∧ s.keyLegal = true ∧ arg.toNat % 32768 < 1024 ∧ s.atomic (arg.toNat % 1024) = true ∧
        s.keyGroup (arg.toNat % 1024) = some g ∧ s.kpField g 7 1 % 2 = 0 ∧ (32768 ≤ arg.toNat ∨ s.lmp.life = 2) ∧
        s.importMat (arg.toNat % 1024) (decide (32768 ≤ arg.toNat)) (s.lmpArg buf) = (r, m)) ∧
    (∃ (buf : List Byte) (s : State) (r : Nat) (m : List Byte), s.Ready lmpCmdReg ∧ s.lmpAligned = true ∧
        s.updateLegal (s.lmpArg buf) = true ∧ s.updateCheck (s.lmpArg buf) = (r, m)) ∧
    (∃ (arg : BitVec 16) (s : State), s.Ready lmpCmdReg ∧ s.lmpAligned = true ∧ arg.toNat < 1024 ∧
        s.viewLegal arg.toNat = true ∧ s.lmpFits 280 = true) ∧
    (∃ (arg : BitVec 16) (s : State), s.Ready lmpCmdReg ∧ s.lmpAligned = true ∧ arg.toNat < 1024 ∧
        s.viewLegal arg.toNat = true ∧ s.lmpFits 104 = true) ∧
    (∃ (arg : BitVec 16) (s : State), s.Ready lmpCmdReg ∧ s.lmpAligned = true ∧ arg.toNat < 16 ∧
        s.afterStage 3 = true ∧ s.lmpFits (tget s.lmp.certs arg.toNat { }).der.length = true) ∧
    (∃ (arg : BitVec 16) (buf : List Byte) (s : State), s.Ready lmpCmdReg ∧ s.lmpAligned = true ∧ s.keyLegal = true ∧
        2 ≤ arg.toNat ∧ arg.toNat < 16 ∧ leAt (s.lmpArg buf) 0 2 < 1024 ∧
        s.keyUsable (leAt (s.lmpArg buf) 0 2) 4 = true ∧
        List.map (Config.certKey (List.drop 4 (s.lmpArg buf))) (List.range (pubOf (s.key (leAt (s.lmpArg buf) 0 2)).typ (s.key (leAt (s.lmpArg buf) 0 2)).usage (s.key (leAt (s.lmpArg buf) 0 2)).cur.mat).length) = pubOf (s.key (leAt (s.lmpArg buf) 0 2)).typ (s.key (leAt (s.lmpArg buf) 0 2)).usage (s.key (leAt (s.lmpArg buf) 0 2)).cur.mat) ∧
    (∃ (buf : List Byte) (s : State), s.Ready lmpCmdReg ∧ s.lmpAligned = true ∧ s.keyLegal = true ∧
        leAt (s.lmpArg buf) 2 2 < 1024 ∧
        s.lmpFits (operateLen (byteAt (s.lmpArg buf) 0) (s.key (leAt (s.lmpArg buf) 2 2)).typ (leAt (s.lmpArg buf) 4 4)) = true) ∧
    (∃ (buf : List Byte) (s : State), s.Ready lmpCmdReg ∧ s.lmpAligned = true ∧ s.lmp.mode = 1 ∧ s.lmp.life = 1 ∧
        (s.glb.mode = Mode.commission ∨ s.glb.mode = Mode.maintenance ∨ s.glb.mode = Mode.degraded) ∧ s.hst.gen ≠ 0 ∧
        196 ≤ (s.lmpArg buf).length) ∧
    (∃ (s : State), s.Ready lmpCmdReg ∧ s.lmpAligned = true ∧ s.lmp.mode = 1 ∧ s.lmp.life = 2 ∧
        s.img.loaded = true) :=
  ⟨⟨0, (PP.s[0]'(by decide)), by unfold State.Ready; decide +kernel⟩,
   ⟨0, (PP.s[0]'(by decide)), by unfold State.Ready; decide +kernel⟩,
   ⟨0, [], (PP.s[0]'(by decide)), 0, 22, [], by unfold State.Ready; decide +kernel⟩,
   ⟨[], (PP.s[0]'(by decide)), 16, [], by unfold State.Ready; decide +kernel⟩,
   ⟨0, (PP.s[0]'(by decide)), by unfold State.Ready; decide +kernel⟩,
   ⟨0, (PP.s[0]'(by decide)), by unfold State.Ready; decide +kernel⟩,
   ⟨0, (PP.s[0]'(by decide)), by unfold State.Ready; decide +kernel⟩,
   ⟨2, buf13, (PP.s[0]'(by decide)), by unfold State.Ready; decide +kernel⟩,
   ⟨[], (PP.s[0]'(by decide)), by unfold State.Ready; decide +kernel⟩,
   ⟨[], (PP.s[3]'(by decide)), by unfold State.Ready; decide +kernel⟩,
   ⟨(PP.s[0]'(by decide)), by unfold State.Ready; decide +kernel⟩⟩

end WK

namespace WK1

def g (i n : Nat) (usage typ mode fl auth wrap : Nat) : List Byte := leBytes i 2 ++ leBytes n 2 ++ leBytes usage 1 ++ leBytes typ 1 ++ leBytes mode 1 ++ leBytes fl 1 ++ leBytes auth 2 ++ leBytes wrap 2 ++ leBytes 0 4
-- slots 0,1 : sign type 3 ; 2 wrap aes typ 2; 3: auth; 4: client cert usage 4 typ 3 ; 5: no import (flag 1); 6 non-atomic

def kp : Section := sec 0xE 0 (leBytes 7 2 ++ List.replicate 14 0 ++ g 0 2 6 3 0 0 3 2 ++ g 2 1 2 2 0 0 3 2 ++ g 3 1 5 5 0 0 3 2 ++ g 4 1 4 3 0 0 3 2 ++ g 5 1 6 3 0 1 3 2 ++ g 6 1 6 3 1 0 3 2 ++ g 7 1 7 3 0 0 3 2)

def ks (typ : Nat) (bad : Bool := false) : KeySlot := { a := { mat := List.replicate 32 5 }, typ := typ, keyId := 100 + typ, origin := 1, bad := bad }

def base (m : Mode) (gen : Nat := 5) (life : Nat := 2) (len : Nat := 264) : State :=
  { mk m [kp] with
    regs := [(0x900014, 0x1000), (0x900020, 0x2000), (0x900024, 1), (0x90001C, BitVec.ofNat 32 len), (0x900028, 4096)],
    hst := { gen := gen },
    lmp := { mode := 1, life := life, slots := [(0, ks 3), (1, ks 3 true), (2, ks 2), (3, ks 5), (4, ks 3), (7, ks 3)], counters := [], boundId := 0x11, certs := [(3, { der := [1, 2, 3], slot := 4 }), (4, { der := [], slot := 1 })], factoryRoot := [9] } }

def jb (s : State) (j : LmpJob) : State := { s with lmp := { s.lmp with job := some j } }

def js : List LmpJob := [{ code := 1, slot := 4, kind := 1, keyId := 9, typ := 3, origin := 1, mat := [1, 2] }, { code := 3, slot := 0, kind := 2, keyId := 9, typ := 3, origin := 1, mat := [1, 2], counter := 4 }, { code := 4, slot := 1, kind := 3 },
  { code := 3, slot := 0xFFFF, kind := 4, life := 3 }, { code := 3, slot := 0xFFFF, kind := 4, life := 4 }, { code := 5, slot := 3, out := [1, 2] }, { code := 5, slot := 3, result := 0x18, out := [1, 2] }, { code := 8, slot := 3, cert := some (5, { der := [4], slot := 3 }) },
  { code := 10, slot := 0, life := 2, provision := some (List.replicate 196 7) }, { code := 11, slot := 0, life := 3 }, { code := 3, slot := 0, result := 0x13 }, { code := 3, slot := 0, result := 0x1C }]

def PP.s : List State := [base .active, base .active 0, base .test 5 3, base .commission 5 1, base .maintenance 0 2, base .maintenance 5 2, base .maintenance 5 4, { base .active with lmp := { (base .active).lmp with mode := 2 } }, base .active 5 2 1000, base .active 5 2 60, base .boot,
   base .dormant 0 0, base .dormant 0 4] ++ js.map (jb (base .active)) ++ js.map (jb (base .active 0)) ++ [base .active 5 2 0x40]

theorem hyps_LampRoomJobsComplete :
    (∃ (j : LmpJob) (s : State), s.lmp.job = some j ∧ j.kind ≠ 0) ∧
    (∃ (j : LmpJob) (s : State), s.lmp.job = some j ∧ j.kind ≠ 0 ∧ j.kind < 3) ∧
    (∃ (readback : Bool) (j : LmpJob) (s : State), s.lmp.job = some j ∧ j.kind ≠ 0 ∧ (readback = true ∨ 3 ≤ j.kind)) ∧
    (∃ (readback : Bool) (j : LmpJob) (s : State), s.lmp.job = some j ∧ j.kind ≠ 0 ∧ (readback = true ∨ 3 ≤ j.kind)) ∧
    (∃ (readback : Bool) (j : LmpJob) (s : State), s.lmp.job = some j ∧ j.kind ≠ 0 ∧ (readback = true ∨ 3 ≤ j.kind) ∧
        j.kind < 3) ∧
    (∃ (readback : Bool) (j : LmpJob) (s : State), s.lmp.job = some j ∧ j.kind ≠ 0 ∧ (readback = true ∨ 3 ≤ j.kind) ∧
        j.kind = 3) ∧
    (∃ (readback : Bool) (j : LmpJob) (s : State), s.lmp.job = some j ∧ j.kind ≠ 0 ∧ (readback = true ∨ 3 ≤ j.kind) ∧
        j.kind ≠ 4) ∧
    (∃ (readback : Bool) (j : LmpJob) (s : State), s.lmp.job = some j ∧ j.kind ≠ 0 ∧ (readback = true ∨ 3 ≤ j.kind) ∧
        j.kind = 4) ∧
    (∃ (j : LmpJob) (s : State), s.lmp.job = some j ∧ j.kind = 0) ∧
    (∃ (j : LmpJob) (s : State), s.lmp.job = some j ∧ j.kind = 0 ∧ j.result = 1 ∧ s.hst.gen ≠ 0 ∧ j.out ≠ []) ∧
    (∃ (j : LmpJob) (s : State), s.lmp.job = some j ∧ j.kind = 0 ∧ j.result = 1) ∧
    (∃ (j : LmpJob) (s : State), s.lmp.job = some j ∧ j.kind = 0 ∧ j.provision = none) ∧
    (∃ (j : LmpJob) (s : State), s.lmp.job = some j ∧ j.kind = 0 ∧ j.code = 3 ∧ j.result ≠ 28) ∧
    (∃ (s : State), s.lmp.mode = 1) ∧
    (∃ (s : State), s.lmp.mode ≠ 1) ∧
    (∃ (s : State), (s.lmp.life = 0 ∨ s.lmp.life = 4)) ∧
    (∃ (s : State), (s.lmp.life = 0 ∨ s.lmp.life = 4) ∧ s.lmp.life = 0) ∧
    (∃ (s : State), (s.lmp.life = 0 ∨ s.lmp.life = 4) ∧ s.lmp.life = 4) ∧
    (∃ (s : State), (s.lmp.life = 0 ∨ s.lmp.life = 4) ∧ s.lmp.life = 4 ∧ s.lmp.factoryRoot ≠ []) :=
  ⟨⟨{ code := 1, slot := 4, kind := 1, life := 0, keyId := 9, typ := 3, origin := 1, counter := 0, mat := [0x01#8, 0x02#8], result := 1, out := [], cert := none, provision := none }, (PP.s[13]'(by decide)), by decide +kernel⟩,
   ⟨{ code := 1, slot := 4, kind := 1, life := 0, keyId := 9, typ := 3, origin := 1, counter := 0, mat := [0x01#8, 0x02#8], result := 1, out := [], cert := none, provision := none }, (PP.s[13]'(by decide)), by decide +kernel⟩,
   ⟨false, { code := 4, slot := 1, kind := 3, life := 0, keyId := 0, typ := 0, origin := 0, counter := 0, mat := [], result := 1, out := [], cert := none, provision := none }, (PP.s[15]'(by decide)), by decide +kernel⟩,
   ⟨false, { code := 4, slot := 1, kind := 3, life := 0, keyId := 0, typ := 0, origin := 0, counter := 0, mat := [], result := 1, out := [], cert := none, provision := none }, (PP.s[15]'(by decide)), by decide +kernel⟩,
   ⟨true, { code := 1, slot := 4, kind := 1, life := 0, keyId := 9, typ := 3, origin := 1, counter := 0, mat := [0x01#8, 0x02#8], result := 1, out := [], cert := none, provision := none }, (PP.s[13]'(by decide)), by decide +kernel⟩,
   ⟨false, { code := 4, slot := 1, kind := 3, life := 0, keyId := 0, typ := 0, origin := 0, counter := 0, mat := [], result := 1, out := [], cert := none, provision := none }, (PP.s[15]'(by decide)), by decide +kernel⟩,
   ⟨false, { code := 4, slot := 1, kind := 3, life := 0, keyId := 0, typ := 0, origin := 0, counter := 0, mat := [], result := 1, out := [], cert := none, provision := none }, (PP.s[15]'(by decide)), by decide +kernel⟩,
   ⟨false, { code := 3, slot := 65535, kind := 4, life := 3, keyId := 0, typ := 0, origin := 0, counter := 0, mat := [], result := 1, out := [], cert := none, provision := none }, (PP.s[16]'(by decide)), by decide +kernel⟩,
   ⟨{ code := 5, slot := 3, kind := 0, life := 0, keyId := 0, typ := 0, origin := 0, counter := 0, mat := [], result := 1, out := [0x01#8, 0x02#8], cert := none, provision := none }, (PP.s[18]'(by decide)), by decide +kernel⟩,
   ⟨{ code := 5, slot := 3, kind := 0, life := 0, keyId := 0, typ := 0, origin := 0, counter := 0, mat := [], result := 1, out := [0x01#8, 0x02#8], cert := none, provision := none }, (PP.s[18]'(by decide)), by decide +kernel⟩,
   ⟨{ code := 5, slot := 3, kind := 0, life := 0, keyId := 0, typ := 0, origin := 0, counter := 0, mat := [], result := 1, out := [0x01#8, 0x02#8], cert := none, provision := none }, (PP.s[18]'(by decide)), by decide +kernel⟩,
   ⟨{ code := 5, slot := 3, kind := 0, life := 0, keyId := 0, typ := 0, origin := 0, counter := 0, mat := [], result := 1, out := [0x01#8, 0x02#8], cert := none, provision := none }, (PP.s[18]'(by decide)), by decide +kernel⟩,
   ⟨{ code := 3, slot := 0, kind := 0, life := 0, keyId := 0, typ := 0, origin := 0, counter := 0, mat := [], result := 19, out := [], cert := none, provision := none }, (PP.s[23]'(by decide)), by decide +kernel⟩,
   ⟨(PP.s[0]'(by decide)), by decide +kernel⟩,
   ⟨(PP.s[7]'(by decide)), by decide +kernel⟩,
   ⟨(PP.s[6]'(by decide)), by decide +kernel⟩,
   ⟨(PP.s[11]'(by decide)), by decide +kernel⟩,
   ⟨(PP.s[6]'(by decide)), by decide +kernel⟩,
   ⟨(PP.s[6]'(by decide)), by decide +kernel⟩⟩

end WK1

namespace WL

def pl (fl hold : Nat) : List Byte := bytesWith 128 [(0, 1), (1, BitVec.ofNat 8 fl), (2, 4), (0x10, 5), (0x14, 9), (0x18, 20), (0x1C, BitVec.ofNat 8 hold), (0xC, 4), (8, 4), (4, 4), (5,4), (6,4)]

def rc (st : Nat) : GRec := { state := st, trig := 9 * secUnit, end_ := 9 * secUnit + 20 * msUnit, extended := true }

def base (m : Mode) (fl : Nat := 0xE) (hold : Nat := 3) : State :=
  { mk m [sec 0xC 0 (pl fl hold), sec 0xC 1 (pl fl hold)] with
    kpr := { frames := true, synced := true }, bcn := { tickNo := 48000 },
    hst := { gen := 5 }, regs := [(0xA00014, 1), (0xA00018, 50), (0xA00020, 7)],
    gal := { archive := [{ num := 7, dir := [1], blocks := [[2], [3]] }] } }

def pg (s : State) (x : Prog) : State := { s with gal := { s.gal with progs := [(0, x), (1, { x with state := 0 })] } }

def PP.s : List State := [base .active, base .boot] ++ ([1, 2, 3, 4, 5].map (fun st => pg (base .active) { state := st, entry := 2, seq := 0xFFFFFFFF, dir := [(2, rc 1), (3, rc 2), (4, rc 3)] })) ++
  ([1, 2, 3, 4].map (fun st => pg (base .standby 0 0) { state := st, entry := 2, seq := 0xFFFFFFFF, dir := [(2, rc 1), (3, rc 2), (4, rc 3)] })) ++
  ([1, 2, 3, 4].map (fun st => pg (base .standby) { state := st, entry := 2, trigger := true, resetWait := true, since := 4, seq := 0xFFFFFFFF, dir := [(2, rc 1), (3, rc 2), (4, rc 3)] })) ++
  ([1, 2].map (fun st => pg (base .standby 0x1A) { state := st, entry := 2, trigger := true, since := 4, seq := 5, dir := (List.range 64).map (fun i => (i, { rc 2 with released := i = 9 }) )})) ++
  [{ base .active with gal := { (base .active).gal with copies := [(0, { addr := 4096, prog := 0, entry := 0, arch := some 7 }), (3, { addr := 8192, prog := 0, entry := 2, arch := none })], archWait := [(0, 3), (1, 4)], progs := [(0, { dir := [(3, rc 2)] }), (1, { dir := [(4, rc 2)] })] } },
   { base .active with cmds := [(galCmdReg, { status := 1, pending := true, runCode := 5 })], hst := { gen := 5, vfEnable := true, numVfs := 5 }, gal := { (base .active).gal with copies := [(3, { addr := 8192, prog := 0, entry := 2, arch := none })] } }]

theorem hyps_GalleryProgramsCapture :
    (∃ (arg : BitVec 16) (s : State), s.Ready galCmdReg ∧ s.progUsed arg.toNat = true ∧ s.kpr.frames = true ∧
        (s.prog arg.toNat).state = 0) ∧
    (∃ (arg : BitVec 16) (s : State), s.Ready galCmdReg ∧ s.progUsed arg.toNat = true ∧ s.kpr.frames = true ∧
        (s.prog arg.toNat).state ≠ 0) ∧
    (∃ (arg : BitVec 16) (s : State), s.Ready galCmdReg ∧ s.progUsed arg.toNat = true ∧ s.kpr.frames = true ∧
        (s.prog arg.toNat).state ≠ 0 ∧ (s.prog arg.toNat).state = 3 ∧ (s.prog arg.toNat).cur.state = 1) ∧
    (∃ (arg : BitVec 16) (s : State), s.Ready galCmdReg ∧ s.progUsed arg.toNat = true ∧ s.kpr.frames = true ∧
        ((s.prog arg.toNat).state = 1 ∨ (s.prog arg.toNat).state = 2)) ∧
    (∃ (arg : BitVec 16) (s : State), s.Ready galCmdReg ∧ arg.toNat < 1024 ∧ s.progUsed (arg.toNat % 16) = true ∧
        s.afterBoot = true ∧ 2 ≤ ((s.prog (arg.toNat % 16)).rec_ (arg.toNat / 16)).state) ∧
    (∃ (arg : BitVec 16) (s : State), s.Ready galCmdReg ∧
        s.copyArg arg.toNat (BitVec.toNat (s.rd 10485776) + 2 ^ 32 * BitVec.toNat (s.rd 10485780)) (BitVec.toNat (s.rd 10485784)) = true ∧
        s.copyState arg.toNat = true) ∧
    (∃ (v : Fin 256) (c : GCopy) (d : List Byte) (bs : List (List Byte)) (s : State), List.find? (fun x => decide (x.fst = v.val)) s.gal.copies = some (v.val, c) ∧
        s.present v.val = true ∧ s.copyOf c.prog c.entry c.arch = some (d, bs)) ∧
    (∃ (v : Fin 256) (c : GCopy) (d : List Byte) (bs : List (List Byte)) (s : State), List.find? (fun x => decide (x.fst = v.val)) s.gal.copies = some (v.val, c) ∧
        s.present v.val = true ∧ s.copyOf c.prog c.entry c.arch = some (d, bs) ∧ v.val = 0) ∧
    (∃ (dt : Nat) (p : Fin 16) (s : State), (s.prog p.val).state = 1 ∧
        (s.prog p.val).start + planMs (s.plan p.val) 16 ≤ (s.elapse dt).time.mono) ∧
    (∃ (dt : Nat) (p : Fin 16) (s : State), (s.prog p.val).state = 3 ∧ (s.prog p.val).cur.state = 1 ∧
        (s.prog p.val).cur.end_ ≤ (s.elapse dt).now) ∧
    (∃ (dt : Nat) (p : Fin 16) (s : State), (s.prog p.val).state = 3 ∧ (s.prog p.val).cur.state = 1 ∧
        (s.prog p.val).cur.end_ ≤ (s.elapse dt).now ∧ planFlag (s.plan p.val) 3 = true) ∧
    (∃ (dt : Nat) (p : Fin 16) (s : State), (s.prog p.val).state = 4 ∧
        if planFlag (s.plan p.val) 4 = true then leAt (s.plan p.val) 28 4 ≤ (s.prog p.val).since else (s.prog p.val).closed + leAt (s.plan p.val) 28 4 * msUnit ≤ (s.elapse dt).time.mono) ∧
    (∃ (p : Nat) (e : Nat) (rest : List (Nat × Nat)) (s : State), s.gal.archWait = (p, e) :: rest ∧
        ((s.prog p).rec_ e).state = 2) :=
  ⟨⟨0, (PP.s[0]'(by decide)), by unfold State.Ready; decide +kernel⟩,
   ⟨0, (PP.s[2]'(by decide)), by unfold State.Ready; decide +kernel⟩,
   ⟨0, (PP.s[4]'(by decide)), by unfold State.Ready; decide +kernel⟩,
   ⟨0, (PP.s[2]'(by decide)), by unfold State.Ready; decide +kernel⟩,
   ⟨0, (PP.s[15]'(by decide)), by unfold State.Ready; decide +kernel⟩,
   ⟨0, (PP.s[0]'(by decide)), by unfold State.Ready; decide +kernel⟩,
   ⟨0, { addr := 4096, prog := 0, entry := 0, arch := some 7 }, [1], [[2], [3]], (PP.s[17]'(by decide)), by decide +kernel⟩,
   ⟨0, { addr := 4096, prog := 0, entry := 0, arch := some 7 }, [1], [[2], [3]], (PP.s[17]'(by decide)), by decide +kernel⟩,
   ⟨7, 0, (PP.s[2]'(by decide)), by decide +kernel⟩,
   ⟨7, 0, (PP.s[4]'(by decide)), by decide +kernel⟩,
   ⟨7, 0, (PP.s[4]'(by decide)), by decide +kernel⟩,
   ⟨7, 0, (PP.s[5]'(by decide)), by decide +kernel⟩,
   ⟨0, 3, [(1, 4)], (PP.s[17]'(by decide)), by decide +kernel⟩⟩

end WL

namespace WL1

def pl (fl hold : Nat) : List Byte := bytesWith 128 [(0, 1), (1, BitVec.ofNat 8 fl), (2, 4), (0x10, 5), (0x14, 9), (0x18, 20), (0x1C, BitVec.ofNat 8 hold), (0xC, 4), (8, 4), (4, 4), (5,4), (6,4)]

def base (m : Mode) (fl : Nat := 0xE) (hold : Nat := 3) : State :=
  { mk m [sec 0xC 0 (pl fl hold), sec 0xC 1 (pl fl hold)] with
    kpr := { frames := true, synced := true }, bcn := { tickNo := 48000 },
    hst := { gen := 5 }, regs := [(0xA00014, 1), (0xA00018, 50), (0xA00020, 7)],
    gal := { archive := [{ num := 7, dir := [1], blocks := [[2], [3]] }] } }

def lr (cls : Nat) : LogRec := { code := 5, block := 1, inst := 0, seq := 0, sec := 0, ns := 0, p0 := 1, p1 := 2, p2 := 3, moduleId := 0x11, cls := cls, timeValid := true, fromHold := false, stepFollows := false }

def lg (s : State) (f : LogUnit → LogUnit) : State := { s with log := f s.log }

def s1 : State :=
  lg (base .active) (fun l => { l with queue := [lr 0, lr 1] })

def s3 : State :=
  lg (base .active) (fun l => { l with queue := [lr 1], frozen := true, frozenAt := 5 })

def s4 : State :=
  lg (base .active) (fun l => { l with queue := [lr 0], frozen := true, hold := List.replicate 4096 (lr 2) })

def s6 : State :=
  lg (base .active) (fun l => { l with queue := [lr 2], lostAny := true, lostFirst := 7 })

def s8 : State :=
  lg (base .active) (fun l => { l with nvmWait := [lr 0, lr 0], armed := 1 })

def s0 : State :=
  base .active

def s5 : State :=
  lg (base .active) (fun l => { l with queue := [lr 2], draining := true, hold := [lr 1, lr 2] })

def s10 : State :=
  { lg (base .active) (fun l => { l with draining := true, hold := [lr 1, lr 2] }) with cmds := [(logCmdReg, { status := 1, pending := true, runCode := 2 })] }

theorem hyps_LogbookAcceptsRecords :
    (∃ (s : State), s.log.queue ≠ [] ∧ (s.log.lostAny = false ∨ s.log.holdLoss = true)) ∧
    (∃ (s : State), s.log.queue ≠ [] ∧ (s.log.lostAny = false ∨ s.log.holdLoss = true) ∧ s.log.frozen = false ∧
        s.log.draining = false) ∧
    (∃ (s : State), s.log.queue ≠ [] ∧ (s.log.lostAny = false ∨ s.log.holdLoss = true) ∧
        (s.log.frozen = true ∨ s.log.draining = true)) ∧
    (∃ (s : State), s.log.queue ≠ [] ∧ (s.log.lostAny = false ∨ s.log.holdLoss = true) ∧
        (s.log.frozen = true ∨ s.log.draining = true) ∧ s.log.hold.length < 4096) ∧
    (∃ (s : State), s.log.queue ≠ [] ∧ (s.log.lostAny = false ∨ s.log.holdLoss = true) ∧
        (s.log.frozen = true ∨ s.log.draining = true) ∧ 4096 ≤ s.log.hold.length) ∧
    (∃ (r : LogRec) (rest : List LogRec) (s : State), s.log.queue = r :: rest ∧
        (s.log.lostAny = false ∨ s.log.holdLoss = true) ∧ r.cls = 0) ∧
    (∃ (r : LogRec) (rest : List LogRec) (s : State), s.log.queue = r :: rest ∧ s.log.lostAny = true ∧
        s.log.holdLoss = false ∧ s.log.frozen = false ∧ s.log.draining = false ∧ rest.length < 64 ∧
        s.classOf 32 ≠ 3) ∧
    (∃ (s : State), s.log.nvmWait ≠ []) ∧
    (∃ (s : State), s.log.nvmWait ≠ []) :=
  ⟨⟨s1, by decide +kernel⟩,
   ⟨s1, by decide +kernel⟩,
   ⟨s3, by decide +kernel⟩,
   ⟨s3, by decide +kernel⟩,
   ⟨s4, by decide +kernel⟩,
   ⟨{ code := 5, block := 1, inst := 0, seq := 0, sec := 0, ns := 0, p0 := 1, p1 := 2, p2 := 3, moduleId := 17, cls := 0, timeValid := true, fromHold := false, stepFollows := false }, [{ code := 5, block := 1, inst := 0, seq := 0, sec := 0, ns := 0, p0 := 1, p1 := 2, p2 := 3, moduleId := 17, cls := 1, timeValid := true, fromHold := false, stepFollows := false }], s1, by decide +kernel⟩,
   ⟨{ code := 5, block := 1, inst := 0, seq := 0, sec := 0, ns := 0, p0 := 1, p1 := 2, p2 := 3, moduleId := 17, cls := 2, timeValid := true, fromHold := false, stepFollows := false }, [], s6, by decide +kernel⟩,
   ⟨s8, by decide +kernel⟩,
   ⟨s8, by decide +kernel⟩⟩

theorem hyps_LogbookFreezesAndClears :
    (∃ (s : State), s.Ready logCmdReg ∧ s.afterStage 2 = true ∧ s.log.frozen = false) ∧
    (∃ (s : State), s.Ready logCmdReg ∧ s.log.frozen = true) ∧
    (∃ (s : State), s.log.frozen = true) ∧
    (∃ (s : State), s.log.draining = true ∧ s.log.lostAny = false) ∧
    (∃ (s : State), s.log.draining = true ∧ s.log.lostAny = false ∧ (s.cmd logCmdReg).pending = true ∧
        (s.cmd logCmdReg).runCode = 2) ∧
    (∃ (arg : BitVec 16) (s : State), s.Ready logCmdReg ∧ (arg.toNat = 1 ∨ arg.toNat = 3) ∧ s.afterBoot = true) ∧
    (∃ (q : Requester) (arg : BitVec 16) (s : State), s.Ready logCmdReg ∧ (arg.toNat = 1 ∨ arg.toNat = 3) ∧
        q ≠ Requester.pf0) ∧
    (∃ (arg : BitVec 16) (s : State), s.Ready logCmdReg ∧ (arg.toNat = 1 ∨ arg.toNat = 3) ∧ s.log.armed = arg.toNat ∧
        s.log.frozen = false ∧ s.log.draining = false) :=
  ⟨⟨s0, by unfold State.Ready; decide +kernel⟩,
   ⟨s3, by unfold State.Ready; decide +kernel⟩,
   ⟨s3, by decide +kernel⟩,
   ⟨s5, by decide +kernel⟩,
   ⟨s10, by decide +kernel⟩,
   ⟨1, s0, by unfold State.Ready; decide +kernel⟩,
   ⟨(.core 1), 1, s0, by unfold State.Ready; decide +kernel⟩,
   ⟨1, s8, by unfold State.Ready; decide +kernel⟩⟩

end WL1

namespace WN1

def ent (etype : Nat) (mask outs : Nat) (cls fl : Byte) : List Byte := List.replicate 6 0 ++ leBytes etype 2 ++ leBytes 0 2 ++ leBytes 0 2 ++ leBytes mask 4 ++ leBytes outs 4 ++ [cls, fl] ++ leBytes 0 2 ++ List.replicate 8 0

def clsec : Section := sec 2 0 (leBytes 2 4 ++ List.replicate 12 0 ++ ent 0x1234 0xFFFFFFFF (2^24) 3 2 ++ ent 0x1235 0xFFFFFFFF (2^25+2^3) 3 2)

def plan : Section := sec 0xC 0 (bytesWith 128 [(0, 1)])

def kpl : Section := sec 7 0 (bytesWith 16384 ([(0, 0xC0), (1, 0x12), (2, 48)] ++ (List.range 16).flatMap (fun k => [(0x20 + 16 * k + 4, 0), (0x20 + 16 * k + 5, 0x20)])))

def qu (o l : Nat) : Queue := { owner := o, loc := l, owned := true, enabled := true, rxTail := 5, txTail := 9, rxLo := 0x1000, txHi := 2, cfg := 0x66, qcfg := 0x66 }

def base (m : Mode) (gen : Nat := 5) : State :=
  { mk m [clsec, plan, kpl] with
    kpr := { frames := true, synced := true, funcs := [(512 + 16 + 2, { state := 2, obj := [], budget := 500, consec := 3 }), (512 + 16 + 3, { state := 1, placeAt := some 20 }), (512 + 32 + 3, { state := 1, placeAt := some 99999 })], merge := [{ id := 530, keeper := 0, epoch := 0, frame := 4, writes := [], events := [], notOwned := false, written := 0, released := false, late := false }] },
    bcn := { tickNo := 48000 },
    regs := [(0xC00014, 0xFFFFFFFF), (0xC0000C, 1), (0xC00010, 4), (0x10401000C, 0x1000), (0x104010014, 0x8000)],
    hst := { gen := gen, width := 4, vfEnable := true, numVfs := 3, txId := 9,
             fns := [(0, { classCount := 0, cntFirst := 3 }), (1, { classFirst := 0, classCount := 4, mbxFirst := 0, mbxCount := 3, grants := 3, msixEnable := true, eventCount := 5 }), (2, { internal := true, classCount := 2, ranges := [(3, 4)] })],
             queues := [(0, qu 0 0), (1, qu 1 0), (2, { qu 2 0 with enabled := false }), (3, { qu 1 1 with txClass := [3], txJobs := [] }), (4, { qu 1 2 with stopping := true, enabled := false }), (5, { qu 1 3 with txJobs := [{ id := 4, first := 0, count := 1, intr := true, octets := 64, left := 1 }] })],
             vecs := [(0, { owner := 1, owned := true, due := true, masked := false }), (1, { owner := 2, owned := true, due := true, masked := false }), (2, { owner := 1, owned := true, due := true, masked := true }), (3, { masked := true })],
             mboxes := [(0, { seq := 3, ready := true })],
             shares := [(16 * 1 + 0, { cycles := 4000, imem := 8, dmem := 8 })] } }

def hs (s : State) (f : HstUnit → HstUnit) : State := { s with hst := f s.hst }

def s0 : State :=
  base .active

def s4 : State :=
  hs (base .active) (fun h => { h with fns := [(1, { resetting := true }), (3, { resetting := true })], flrCmd := some 1 })

def s5 : State :=
  hs (base .active) (fun h => { h with queues := [] })

theorem hyps_HostLinkAndFunctionResets :
    (∃ (s : State), s.glb.mode ≠ Mode.dormant) ∧
    (∃ (gen : Fin 3) (width : Fin 4) (s : State), s.glb.mode ≠ Mode.dormant ∧
        (s.hst.gen ≠ 3 + gen.val ∨ s.hst.width ≠ 2 ^ width.val)) ∧
    (∃ (s : State), s.hst.gen ≠ 0) ∧
    (∃ (s : State), s.hst.gen ≠ 0) ∧
    (∃ (s : State), s.hst.gen ≠ 0) ∧
    (∃ (v : Fin 256) (s : State), v.val ≠ 0 ∧ (s.func v.val).internal = false ∧ s.present v.val = true) ∧
    (∃ (v : Fin 256) (s : State), v.val ≠ 0 ∧ (s.func v.val).internal = false ∧ s.present v.val = true ∧
        (∀ (k : Nat), (s.keeper k).run = none)) ∧
    (∃ (v : Fin 256) (s : State), (s.func v.val).resetting = true) ∧
    (∃ (v : Fin 256) (s : State), (s.func v.val).resetting = true ∧ s.hst.flrCmd = some v.val) ∧
    (∃ (arg : BitVec 16) (s : State), s.Ready hstCmdReg ∧ s.loaded = true ∧ arg.toNat % 256 ≠ 0 ∧
        arg.toNat / 256 % 128 = 0 ∧ ((s.ownQueues (arg.toNat % 256)).all fun n => !(s.queue n).enabled) = true) ∧
    (∃ (arg : BitVec 16) (s : State), s.Ready hstCmdReg ∧ s.loaded = true ∧ arg.toNat % 256 ≠ 0 ∧ arg.toNat < 256) :=
  ⟨⟨s0, by decide +kernel⟩,
   ⟨0, 2, s0, by decide +kernel⟩,
   ⟨s0, by decide +kernel⟩,
   ⟨s0, by decide +kernel⟩,
   ⟨s0, by decide +kernel⟩,
   ⟨1, s0, by decide +kernel⟩,
   ⟨1, s0, ⟨by decide +kernel, by decide +kernel, by decide +kernel, fun _ => rfl⟩⟩,
   ⟨1, s4, by decide +kernel⟩,
   ⟨1, s4, by decide +kernel⟩,
   ⟨1, s5, by unfold State.Ready; decide +kernel⟩,
   ⟨1, s0, by unfold State.Ready; decide +kernel⟩⟩

end WN1

namespace WN2

def ent (etype : Nat) (mask outs : Nat) (cls fl : Byte) : List Byte := List.replicate 6 0 ++ leBytes etype 2 ++ leBytes 0 2 ++ leBytes 0 2 ++ leBytes mask 4 ++ leBytes outs 4 ++ [cls, fl] ++ leBytes 0 2 ++ List.replicate 8 0

def clsec : Section := sec 2 0 (leBytes 2 4 ++ List.replicate 12 0 ++ ent 0x1234 0xFFFFFFFF (2^24) 3 2 ++ ent 0x1235 0xFFFFFFFF (2^25+2^3) 3 2)

def plan : Section := sec 0xC 0 (bytesWith 128 [(0, 1)])

def kpl : Section := sec 7 0 (bytesWith 16384 ([(0, 0xC0), (1, 0x12), (2, 48)] ++ (List.range 16).flatMap (fun k => [(0x20 + 16 * k + 4, 0), (0x20 + 16 * k + 5, 0x20)])))

def qu (o l : Nat) : Queue := { owner := o, loc := l, owned := true, enabled := true, rxTail := 5, txTail := 9, rxLo := 0x1000, txHi := 2, cfg := 0x66, qcfg := 0x66 }

def base (m : Mode) (gen : Nat := 5) : State :=
  { mk m [clsec, plan, kpl] with
    kpr := { frames := true, synced := true, funcs := [(512 + 16 + 2, { state := 2, obj := [], budget := 500, consec := 3 }), (512 + 16 + 3, { state := 1, placeAt := some 20 }), (512 + 32 + 3, { state := 1, placeAt := some 99999 })], merge := [{ id := 530, keeper := 0, epoch := 0, frame := 4, writes := [], events := [], notOwned := false, written := 0, released := false, late := false }] },
    bcn := { tickNo := 48000 },
    regs := [(0xC00014, 0xFFFFFFFF), (0xC0000C, 1), (0xC00010, 4), (0x10401000C, 0x1000), (0x104010014, 0x8000)],
    hst := { gen := gen, width := 4, vfEnable := true, numVfs := 3, txId := 9,
             fns := [(0, { classCount := 0, cntFirst := 3 }), (1, { classFirst := 0, classCount := 4, mbxFirst := 0, mbxCount := 3, grants := 3, msixEnable := true, eventCount := 5 }), (2, { internal := true, classCount := 2, ranges := [(3, 4)] })],
             queues := [(0, qu 0 0), (1, qu 1 0), (2, { qu 2 0 with enabled := false }), (3, { qu 1 1 with txClass := [3], txJobs := [] }), (4, { qu 1 2 with stopping := true, enabled := false }), (5, { qu 1 3 with txJobs := [{ id := 4, first := 0, count := 1, intr := true, octets := 64, left := 1 }] })],
             vecs := [(0, { owner := 1, owned := true, due := true, masked := false }), (1, { owner := 2, owned := true, due := true, masked := false }), (2, { owner := 1, owned := true, due := true, masked := true }), (3, { masked := true })],
             mboxes := [(0, { seq := 3, ready := true })],
             shares := [(16 * 1 + 0, { cycles := 4000, imem := 8, dmem := 8 })] } }

def hs (s : State) (f : HstUnit → HstUnit) : State := { s with hst := f s.hst }

def fr1 : Frame := { dst := 5, src := 6, vlans := [], etherType := 0x1234, payload := List.replicate 50 1, red := none }

def f0 : Frame :=
  fr1

def s3 : State :=
  hs (base .active) (fun h => { h with stopped := [3] })

def f2 : Frame :=
  { fr1 with etherType := 0x1236 }

def s0 : State :=
  base .active

def f3 : Frame :=
  { fr1 with etherType := 0x88B8 }

def s5 : State :=
  hs (base .active) (fun h => { h with queues := [] })

theorem hyps_HostQueuesMoveFrames :
    (∃ (dt : Nat) (q : Fin 1024) (descs : List (BitVec 16 × BitVec 8)) (f : Frame) (s : State), (s.queue q.val).enabled = true ∧
        s.present (s.queue q.val).owner = true ∧ descs ≠ [] ∧ descs.length ≤ (s.queue q.val).txPosted ∧
        ((match if (s.queue q.val).owner = 0 then (s.elapse dt).routeFrame 59 f 0 s.classEnd else (s.elapse dt).routeFrame 59 f (s.func (s.queue q.val).owner).classFirst (s.func (s.queue q.val).owner).classCount with | none => frameClass f [] | some y => y.snd.fst) ∈ s.hst.stopped ∨ (s.queue q.val).txClass ≠ [])) ∧
    (∃ (dt : Nat) (q : Fin 1024) (descs : List (BitVec 16 × BitVec 8)) (f : Frame) (s : State), (s.queue q.val).enabled = true ∧
        s.present (s.queue q.val).owner = true ∧ descs ≠ [] ∧ descs.length ≤ (s.queue q.val).txPosted ∧
        (¬(match if (s.queue q.val).owner = 0 then (s.elapse dt).routeFrame 59 f 0 s.classEnd else (s.elapse dt).routeFrame 59 f (s.func (s.queue q.val).owner).classFirst (s.func (s.queue q.val).owner).classCount with | none => frameClass f [] | some y => y.snd.fst) ∈ s.hst.stopped) ∧
        (s.queue q.val).txClass = [] ∧ (s.queue q.val).txJobs = [] ∧
        ((if (List.map (fun d => d.fst.toNat) descs).sum > 9216 ∨ ∃ d, d ∈ descs ∧
        d.fst.toNat = 0 then 5 else if hostForbidden f (if (s.queue q.val).owner = 0 then (s.elapse dt).routeFrame 59 f 0 s.classEnd else (s.elapse dt).routeFrame 59 f (s.func (s.queue q.val).owner).classFirst (s.func (s.queue q.val).owner).classCount) = true then 3 else if (if (s.queue q.val).owner = 0 then (s.elapse dt).routeFrame 59 f 0 s.classEnd else (s.elapse dt).routeFrame 59 f (s.func (s.queue q.val).owner).classFirst (s.func (s.queue q.val).owner).classCount).isNone = true then 4 else 0) ≠ 0)) ∧
    (∃ (dt : Nat) (q : Fin 1024) (descs : List (BitVec 16 × BitVec 8)) (f : Frame) (s : State), (s.queue q.val).enabled = true ∧
        s.present (s.queue q.val).owner = true ∧ descs ≠ [] ∧ descs.length ≤ (s.queue q.val).txPosted ∧
        (¬(match if (s.queue q.val).owner = 0 then (s.elapse dt).routeFrame 59 f 0 s.classEnd else (s.elapse dt).routeFrame 59 f (s.func (s.queue q.val).owner).classFirst (s.func (s.queue q.val).owner).classCount with | none => frameClass f [] | some y => y.snd.fst) ∈ s.hst.stopped) ∧
        (s.queue q.val).txClass = [] ∧ (s.queue q.val).txJobs = [] ∧
        ((if (List.map (fun d => d.fst.toNat) descs).sum > 9216 ∨ ∃ d, d ∈ descs ∧
        d.fst.toNat = 0 then 5 else if hostForbidden f (if (s.queue q.val).owner = 0 then (s.elapse dt).routeFrame 59 f 0 s.classEnd else (s.elapse dt).routeFrame 59 f (s.func (s.queue q.val).owner).classFirst (s.func (s.queue q.val).owner).classCount) = true then 3 else if (if (s.queue q.val).owner = 0 then (s.elapse dt).routeFrame 59 f 0 s.classEnd else (s.elapse dt).routeFrame 59 f (s.func (s.queue q.val).owner).classFirst (s.func (s.queue q.val).owner).classCount).isNone = true then 4 else 0) ≠ 0) ∧
        ((if (List.map (fun d => d.fst.toNat) descs).sum > 9216 ∨ ∃ d, d ∈ descs ∧
        d.fst.toNat = 0 then 5 else if hostForbidden f (if (s.queue q.val).owner = 0 then (s.elapse dt).routeFrame 59 f 0 s.classEnd else (s.elapse dt).routeFrame 59 f (s.func (s.queue q.val).owner).classFirst (s.func (s.queue q.val).owner).classCount) = true then 3 else if (if (s.queue q.val).owner = 0 then (s.elapse dt).routeFrame 59 f 0 s.classEnd else (s.elapse dt).routeFrame 59 f (s.func (s.queue q.val).owner).classFirst (s.func (s.queue q.val).owner).classCount).isNone = true then 4 else 0) = 3)) ∧
    (∃ (dt : Nat) (q : Fin 1024) (descs : List (BitVec 16 × BitVec 8)) (f : Frame) (s : State), (s.queue q.val).enabled = true ∧
        s.present (s.queue q.val).owner = true ∧ descs ≠ [] ∧ descs.length ≤ (s.queue q.val).txPosted ∧
        (¬(match if (s.queue q.val).owner = 0 then (s.elapse dt).routeFrame 59 f 0 s.classEnd else (s.elapse dt).routeFrame 59 f (s.func (s.queue q.val).owner).classFirst (s.func (s.queue q.val).owner).classCount with | none => frameClass f [] | some y => y.snd.fst) ∈ s.hst.stopped) ∧
        (s.queue q.val).txClass = [] ∧ (s.queue q.val).txJobs = [] ∧
        ((if (List.map (fun d => d.fst.toNat) descs).sum > 9216 ∨ ∃ d, d ∈ descs ∧
        d.fst.toNat = 0 then 5 else if hostForbidden f (if (s.queue q.val).owner = 0 then (s.elapse dt).routeFrame 59 f 0 s.classEnd else (s.elapse dt).routeFrame 59 f (s.func (s.queue q.val).owner).classFirst (s.func (s.queue q.val).owner).classCount) = true then 3 else if (if (s.queue q.val).owner = 0 then (s.elapse dt).routeFrame 59 f 0 s.classEnd else (s.elapse dt).routeFrame 59 f (s.func (s.queue q.val).owner).classFirst (s.func (s.queue q.val).owner).classCount).isNone = true then 4 else 0) ≠ 0) ∧
        ((if (List.map (fun d => d.fst.toNat) descs).sum > 9216 ∨ ∃ d, d ∈ descs ∧
        d.fst.toNat = 0 then 5 else if hostForbidden f (if (s.queue q.val).owner = 0 then (s.elapse dt).routeFrame 59 f 0 s.classEnd else (s.elapse dt).routeFrame 59 f (s.func (s.queue q.val).owner).classFirst (s.func (s.queue q.val).owner).classCount) = true then 3 else if (if (s.queue q.val).owner = 0 then (s.elapse dt).routeFrame 59 f 0 s.classEnd else (s.elapse dt).routeFrame 59 f (s.func (s.queue q.val).owner).classFirst (s.func (s.queue q.val).owner).classCount).isNone = true then 4 else 0) = 3) ∧
        s.once.contains (onceKey 727 0) = false) ∧
    (∃ (dt : Nat) (q : Fin 1024) (descs : List (BitVec 16 × BitVec 8)) (f : Frame) (s : State), (s.queue q.val).enabled = true ∧
        s.present (s.queue q.val).owner = true ∧ descs ≠ [] ∧ descs.length ≤ (s.queue q.val).txPosted ∧
        (¬(match if (s.queue q.val).owner = 0 then (s.elapse dt).routeFrame 59 f 0 s.classEnd else (s.elapse dt).routeFrame 59 f (s.func (s.queue q.val).owner).classFirst (s.func (s.queue q.val).owner).classCount with | none => frameClass f [] | some y => y.snd.fst) ∈ s.hst.stopped) ∧
        (s.queue q.val).txClass = [] ∧ (s.queue q.val).txJobs = [] ∧
        ((if (List.map (fun d => d.fst.toNat) descs).sum > 9216 ∨ ∃ d, d ∈ descs ∧
        d.fst.toNat = 0 then 5 else if hostForbidden f (if (s.queue q.val).owner = 0 then (s.elapse dt).routeFrame 59 f 0 s.classEnd else (s.elapse dt).routeFrame 59 f (s.func (s.queue q.val).owner).classFirst (s.func (s.queue q.val).owner).classCount) = true then 3 else if (if (s.queue q.val).owner = 0 then (s.elapse dt).routeFrame 59 f 0 s.classEnd else (s.elapse dt).routeFrame 59 f (s.func (s.queue q.val).owner).classFirst (s.func (s.queue q.val).owner).classCount).isNone = true then 4 else 0) ≠ 0) ∧
        ((if (List.map (fun d => d.fst.toNat) descs).sum > 9216 ∨ ∃ d, d ∈ descs ∧
        d.fst.toNat = 0 then 5 else if hostForbidden f (if (s.queue q.val).owner = 0 then (s.elapse dt).routeFrame 59 f 0 s.classEnd else (s.elapse dt).routeFrame 59 f (s.func (s.queue q.val).owner).classFirst (s.func (s.queue q.val).owner).classCount) = true then 3 else if (if (s.queue q.val).owner = 0 then (s.elapse dt).routeFrame 59 f 0 s.classEnd else (s.elapse dt).routeFrame 59 f (s.func (s.queue q.val).owner).classFirst (s.func (s.queue q.val).owner).classCount).isNone = true then 4 else 0) = 4)) ∧
    (∃ (dt : Nat) (q : Fin 1024) (descs : List (BitVec 16 × BitVec 8)) (f : Frame) (s : State), (s.queue q.val).enabled = true ∧
        s.present (s.queue q.val).owner = true ∧ descs ≠ [] ∧ descs.length ≤ (s.queue q.val).txPosted ∧
        (¬(match if (s.queue q.val).owner = 0 then (s.elapse dt).routeFrame 59 f 0 s.classEnd else (s.elapse dt).routeFrame 59 f (s.func (s.queue q.val).owner).classFirst (s.func (s.queue q.val).owner).classCount with | none => frameClass f [] | some y => y.snd.fst) ∈ s.hst.stopped) ∧
        (s.queue q.val).txClass = [] ∧ (s.queue q.val).txJobs = [] ∧
        ((if (List.map (fun d => d.fst.toNat) descs).sum > 9216 ∨ ∃ d, d ∈ descs ∧
        d.fst.toNat = 0 then 5 else if hostForbidden f (if (s.queue q.val).owner = 0 then (s.elapse dt).routeFrame 59 f 0 s.classEnd else (s.elapse dt).routeFrame 59 f (s.func (s.queue q.val).owner).classFirst (s.func (s.queue q.val).owner).classCount) = true then 3 else if (if (s.queue q.val).owner = 0 then (s.elapse dt).routeFrame 59 f 0 s.classEnd else (s.elapse dt).routeFrame 59 f (s.func (s.queue q.val).owner).classFirst (s.func (s.queue q.val).owner).classCount).isNone = true then 4 else 0) = 0)) ∧
    (∃ (q : Fin 1024) (s : State), (s.queue q.val).enabled = false) ∧
    (∃ (q : Fin 1024) (f : Frame) (bufs : List (BitVec 64)) (s : State), (s.queue q.val).enabled = true ∧
        min (s.queue q.val).rxPosted bufs.length < ((hostBytes f).length + (s.queue q.val).bufSize - 1) / (s.queue q.val).bufSize) ∧
    (∃ (q : Fin 1024) (f : Frame) (bufs : List (BitVec 64)) (s : State), (s.queue q.val).enabled = true ∧
        min (s.queue q.val).rxPosted bufs.length < ((hostBytes f).length + (s.queue q.val).bufSize - 1) / (s.queue q.val).bufSize ∧
        s.once.contains (onceKey 723 0) = false) ∧
    (∃ (q : Fin 1024) (f : Frame) (bufs : List (BitVec 64)) (s : State), (s.queue q.val).enabled = true ∧
        ((hostBytes f).length + (s.queue q.val).bufSize - 1) / (s.queue q.val).bufSize ≤ min (s.queue q.val).rxPosted bufs.length) ∧
    (∃ (n : Fin 2048) (s : State), (s.vec n.val).due = true) ∧
    (∃ (n : Fin 2048) (s : State), (s.vec n.val).due = true ∧ (s.func (s.vec n.val).owner).internal = true) ∧
    (∃ (n : Fin 2048) (s : State), (s.vec n.val).due = true ∧ (s.func (s.vec n.val).owner).internal = false ∧
        s.present (s.vec n.val).owner = true ∧ (s.func (s.vec n.val).owner).msixEnable = true ∧
        (s.vec n.val).masked = false ∧ (s.func (s.vec n.val).owner).msixMask = false) ∧
    (∃ (n : Fin 2048) (s : State), (s.vec n.val).due = true ∧ (s.func (s.vec n.val).owner).internal = false ∧
        s.present (s.vec n.val).owner = true ∧ (s.func (s.vec n.val).owner).msixEnable = true ∧
        (s.vec n.val).masked = true) ∧
    (∃ (q : Fin 1024) (s : State), ((s.queue q.val).enabled = true ∨ (s.queue q.val).txJobs ≠ [])) ∧
    (∃ (q : Fin 1024) (s : State), ((s.queue q.val).enabled = true ∨ (s.queue q.val).txJobs ≠ []) ∧
        (s.queue q.val).owner ≠ 0) :=
  ⟨⟨7, 0, [(64, 1)], f0, s3, by decide +kernel⟩,
   ⟨7, 0, [(64, 1)], f2, s0, by decide +kernel⟩,
   ⟨7, 0, [(64, 1)], f3, s0, by decide +kernel⟩,
   ⟨7, 0, [(64, 1)], f3, s0, by decide +kernel⟩,
   ⟨7, 0, [(64, 1)], f2, s0, by decide +kernel⟩,
   ⟨7, 0, [(64, 1)], f0, s0, by decide +kernel⟩,
   ⟨0, s5, by decide +kernel⟩,
   ⟨0, f0, [], s0, by decide +kernel⟩,
   ⟨0, f0, [], s0, by decide +kernel⟩,
   ⟨0, f0, [4096, 8192], s0, by decide +kernel⟩,
   ⟨0, s0, by decide +kernel⟩,
   ⟨1, s0, by decide +kernel⟩,
   ⟨0, s0, by decide +kernel⟩,
   ⟨2, s0, by decide +kernel⟩,
   ⟨0, s0, by decide +kernel⟩,
   ⟨1, s0, by decide +kernel⟩⟩

end WN2

namespace WN3

def ent (etype : Nat) (mask outs : Nat) (cls fl : Byte) : List Byte := List.replicate 6 0 ++ leBytes etype 2 ++ leBytes 0 2 ++ leBytes 0 2 ++ leBytes mask 4 ++ leBytes outs 4 ++ [cls, fl] ++ leBytes 0 2 ++ List.replicate 8 0

def clsec : Section := sec 2 0 (leBytes 2 4 ++ List.replicate 12 0 ++ ent 0x1234 0xFFFFFFFF (2^24) 3 2 ++ ent 0x1235 0xFFFFFFFF (2^25+2^3) 3 2)

def plan : Section := sec 0xC 0 (bytesWith 128 [(0, 1)])

def kpl : Section := sec 7 0 (bytesWith 16384 ([(0, 0xC0), (1, 0x12), (2, 48)] ++ (List.range 16).flatMap (fun k => [(0x20 + 16 * k + 4, 0), (0x20 + 16 * k + 5, 0x20)])))

def qu (o l : Nat) : Queue := { owner := o, loc := l, owned := true, enabled := true, rxTail := 5, txTail := 9, rxLo := 0x1000, txHi := 2, cfg := 0x66, qcfg := 0x66 }

def base (m : Mode) (gen : Nat := 5) : State :=
  { mk m [clsec, plan, kpl] with
    kpr := { frames := true, synced := true, funcs := [(512 + 16 + 2, { state := 2, obj := [], budget := 500, consec := 3 }), (512 + 16 + 3, { state := 1, placeAt := some 20 }), (512 + 32 + 3, { state := 1, placeAt := some 99999 })], merge := [{ id := 530, keeper := 0, epoch := 0, frame := 4, writes := [], events := [], notOwned := false, written := 0, released := false, late := false }] },
    bcn := { tickNo := 48000 },
    regs := [(0xC00014, 0xFFFFFFFF), (0xC0000C, 1), (0xC00010, 4), (0x10401000C, 0x1000), (0x104010014, 0x8000)],
    hst := { gen := gen, width := 4, vfEnable := true, numVfs := 3, txId := 9,
             fns := [(0, { classCount := 0, cntFirst := 3 }), (1, { classFirst := 0, classCount := 4, mbxFirst := 0, mbxCount := 3, grants := 3, msixEnable := true, eventCount := 5 }), (2, { internal := true, classCount := 2, ranges := [(3, 4)] })],
             queues := [(0, qu 0 0), (1, qu 1 0), (2, { qu 2 0 with enabled := false }), (3, { qu 1 1 with txClass := [3], txJobs := [] }), (4, { qu 1 2 with stopping := true, enabled := false }), (5, { qu 1 3 with txJobs := [{ id := 4, first := 0, count := 1, intr := true, octets := 64, left := 1 }] })],
             vecs := [(0, { owner := 1, owned := true, due := true, masked := false }), (1, { owner := 2, owned := true, due := true, masked := false }), (2, { owner := 1, owned := true, due := true, masked := true }), (3, { masked := true })],
             mboxes := [(0, { seq := 3, ready := true })],
             shares := [(16 * 1 + 0, { cycles := 4000, imem := 8, dmem := 8 })] } }

def hs (s : State) (f : HstUnit → HstUnit) : State := { s with hst := f s.hst }

def rg (s : State) (l : List (Nat × Word)) : State := { s with regs := l }

def s5 : State :=
  hs (base .active) (fun h => { h with queues := [] })

def s0 : State :=
  base .active

def s8 : State :=
  rg (base .active) [(0xC0000C, 0x0302), (0xC00010, 1)]

def s9 : State :=
  hs (base .active) (fun h => { h with window := some { key := 16 + 2, first := 5, count := 6, target := some 4 }, share := some { key := 1 + 512, first := 5, count := 6, dmem := 3, target := some 4 } })

def b0 : (List Byte) :=
  bytesWith 32 [(0x18, 1), (0x14, 3), (0x12, 3)]

theorem hyps_HostCommandsMoveResources :
    (∃ (arg : BitVec 16) (s : State), s.Ready hstCmdReg ∧ s.loaded = true ∧ s.hstArg 0 < 256 ∧ arg.toNat < 1024 ∧
        (s.queue arg.toNat).enabled = false ∧ (s.queue arg.toNat).txJobs = [] ∧
        ((List.filter (fun n => decide (n ≠ arg.toNat)) (s.ownQueues (s.hstArg 0))).length < if s.hstArg 0 = 0 then 1024 else 64)) ∧
    (∃ (arg : BitVec 16) (s : State), s.Ready hstCmdReg ∧ s.loaded = true ∧ s.hstArg 0 < 256 ∧ arg.toNat < 1024 ∧
        (s.queue arg.toNat).enabled = false ∧ (s.queue arg.toNat).txJobs = [] ∧
        ((List.filter (fun n => decide (n ≠ arg.toNat)) (s.ownQueues (s.hstArg 0))).length < if s.hstArg 0 = 0 then 1024 else 64) ∧
        s.hstArg 0 ≠ 0) ∧
    (∃ (arg : BitVec 16) (s : State), s.Ready hstCmdReg ∧ s.loaded = true ∧ s.hstArg 0 < 256 ∧ arg.toNat < 2048 ∧
        (s.vec arg.toNat).masked = true ∧
        ((List.filter (fun e => e.snd.owned && decide (e.snd.owner = s.hstArg 0) && decide (e.fst ≠ arg.toNat)) s.hst.vecs).length < if s.hstArg 0 = 0 then 2048 else 64)) ∧
    (∃ (arg : BitVec 16) (s : State), s.Ready hstCmdReg ∧ s.loaded = true ∧ s.hstArg 0 < 256 ∧ arg.toNat < 2048 ∧
        (s.vec arg.toNat).masked = true ∧
        ((List.filter (fun e => e.snd.owned && decide (e.snd.owner = s.hstArg 0) && decide (e.fst ≠ arg.toNat)) s.hst.vecs).length < if s.hstArg 0 = 0 then 2048 else 64) ∧
        s.hstArg 0 ≠ 0) ∧
    (∃ (dt : Nat) (arg : BitVec 16) (s : State), s.Ready hstCmdReg ∧ s.loaded = true ∧ arg.toNat < 4096 ∧
        Option.isSome ((s.elapse dt).targetTick 12582932 12582936) = true ∧
        s.hstArg 0 % 65536 + s.hstArg 0 / 65536 ≤ 16384 ∧
        (List.map (fun e => e.snd) (setRange (s.func (arg.toNat % 256)).ranges (arg.toNat / 256) (s.hstArg 0 % 65536, s.hstArg 0 / 65536))).sum ≤ 1024) ∧
    (∃ (dt : Nat) (arg : BitVec 16) (s : State) (w : Option Nat), s.Ready hstCmdReg ∧ s.loaded = true ∧
        arg.toNat < 4096 ∧ arg.toNat % 256 ≠ 0 ∧ s.hstArg 1 < 65536 ∧
        s.hstArg 0 + s.otherShares (arg.toNat % 256) (arg.toNat / 256) ≤ s.guestCycles (arg.toNat / 256) ∧
        s.guestsFit (s.guestsOn (arg.toNat % 256) (arg.toNat / 256)) { cycles := s.hstArg 0, imem := s.hstArg 1 % 256, dmem := s.hstArg 1 / 256 % 256 } = true ∧
        (BitVec.toNat (s.rd 12582932) = 4294967295 ∧ w = none ∨ BitVec.toNat (s.rd 12582932) ≠ 4294967295 ∧
        w = (s.elapse dt).targetTick 12582932 12582936 ∧ w ≠ none)) ∧
    (∃ (arg : BitVec 16) (s : State), s.Ready hstCmdReg ∧ s.loaded = true ∧ arg.toNat < 4096 ∧ s.hstArg 0 < 2 ^ 24 ∧
        bindOk (s.hstArg 0 % 256) (s.hstArg 0 / 256) = true ∧ s.mboxOwner arg.toNat = some (s.hstArg 1)) ∧
    (∃ (s : State), Option.isSome (s.hst.window) = true) ∧
    (∃ (w : HstPend) (s : State), s.hst.window = some w ∧ w.key / 16 ≠ 0) ∧
    (∃ (w : HstPend) (s : State), s.hst.share = some w ∧ (w.target ≠ none ∨ w.epoch ≠ BitVec.toNat (s.rd 6291472))) ∧
    (∃ (arg : BitVec 16) (b : List Byte) (s : State), s.Ready hstCmdReg ∧ s.loaded = true ∧ b.length = 32 ∧
        arg.toNat < 8192 ∧ leAt b 24 2 < 256 ∧ (s.func (leAt b 24 2)).classFirst ≤ arg.toNat ∧
        arg.toNat < (s.func (leAt b 24 2)).classFirst + (s.func (leAt b 24 2)).classCount ∧ byteAt b 20 ≤ 5 ∧
        (leAt b 12 4 ||| leAt b 16 4) &&& 2 ^ 32 - 1 - 218038272 = 0) ∧
    (∃ (arg : BitVec 16) (s : State), s.Ready hstCmdReg ∧ s.loaded = true ∧ arg.toNat < 256 ∧ s.hstArg 0 < 8 ∧
        s.hstArg 1 / 65536 ≤ 192 ∧ s.hstArg 1 % 65536 + s.hstArg 1 / 65536 ≤ 2048) ∧
    (∃ (arg : BitVec 16) (s : State), s.Ready hstCmdReg ∧ s.loaded = true ∧ arg.toNat < 256 ∧ s.hstArg 0 < 8 ∧
        s.hstArg 1 / 65536 ≤ 192 ∧ s.hstArg 1 % 65536 + s.hstArg 1 / 65536 ≤ 2048 ∧ arg.toNat ≠ 0) :=
  ⟨⟨0, s5, by unfold State.Ready; decide +kernel⟩,
   ⟨0, s5, by unfold State.Ready; decide +kernel⟩,
   ⟨2, s0, by unfold State.Ready; decide +kernel⟩,
   ⟨2, s0, by unfold State.Ready; decide +kernel⟩,
   ⟨7, 0, s0, by unfold State.Ready; decide +kernel⟩,
   ⟨7, 1, s8, none, by unfold State.Ready; decide +kernel⟩,
   ⟨0, s8, by unfold State.Ready; decide +kernel⟩,
   ⟨s9, by decide +kernel⟩,
   ⟨{ key := 18, first := 5, count := 6, dmem := 0, target := some 4, epoch := 0 }, s9, by decide +kernel⟩,
   ⟨{ key := 513, first := 5, count := 6, dmem := 3, target := some 4, epoch := 0 }, s9, by decide +kernel⟩,
   ⟨0, b0, s0, by unfold State.Ready; decide +kernel⟩,
   ⟨0, s0, by unfold State.Ready; decide +kernel⟩,
   ⟨1, s0, by unfold State.Ready; decide +kernel⟩⟩

end WN3

namespace WN4

def ent (etype : Nat) (mask outs : Nat) (cls fl : Byte) : List Byte := List.replicate 6 0 ++ leBytes etype 2 ++ leBytes 0 2 ++ leBytes 0 2 ++ leBytes mask 4 ++ leBytes outs 4 ++ [cls, fl] ++ leBytes 0 2 ++ List.replicate 8 0

def clsec : Section := sec 2 0 (leBytes 2 4 ++ List.replicate 12 0 ++ ent 0x1234 0xFFFFFFFF (2^24) 3 2 ++ ent 0x1235 0xFFFFFFFF (2^25+2^3) 3 2)

def plan : Section := sec 0xC 0 (bytesWith 128 [(0, 1)])

def kpl : Section := sec 7 0 (bytesWith 16384 ([(0, 0xC0), (1, 0x12), (2, 48)] ++ (List.range 16).flatMap (fun k => [(0x20 + 16 * k + 4, 0), (0x20 + 16 * k + 5, 0x20)])))

def qu (o l : Nat) : Queue := { owner := o, loc := l, owned := true, enabled := true, rxTail := 5, txTail := 9, rxLo := 0x1000, txHi := 2, cfg := 0x66, qcfg := 0x66 }

def base (m : Mode) (gen : Nat := 5) : State :=
  { mk m [clsec, plan, kpl] with
    kpr := { frames := true, synced := true, funcs := [(512 + 16 + 2, { state := 2, obj := [], budget := 500, consec := 3 }), (512 + 16 + 3, { state := 1, placeAt := some 20 }), (512 + 32 + 3, { state := 1, placeAt := some 99999 })], merge := [{ id := 530, keeper := 0, epoch := 0, frame := 4, writes := [], events := [], notOwned := false, written := 0, released := false, late := false }] },
    bcn := { tickNo := 48000 },
    regs := [(0xC00014, 0xFFFFFFFF), (0xC0000C, 1), (0xC00010, 4), (0x10401000C, 0x1000), (0x104010014, 0x8000)],
    hst := { gen := gen, width := 4, vfEnable := true, numVfs := 3, txId := 9,
             fns := [(0, { classCount := 0, cntFirst := 3 }), (1, { classFirst := 0, classCount := 4, mbxFirst := 0, mbxCount := 3, grants := 3, msixEnable := true, eventCount := 5 }), (2, { internal := true, classCount := 2, ranges := [(3, 4)] })],
             queues := [(0, qu 0 0), (1, qu 1 0), (2, { qu 2 0 with enabled := false }), (3, { qu 1 1 with txClass := [3], txJobs := [] }), (4, { qu 1 2 with stopping := true, enabled := false }), (5, { qu 1 3 with txJobs := [{ id := 4, first := 0, count := 1, intr := true, octets := 64, left := 1 }] })],
             vecs := [(0, { owner := 1, owned := true, due := true, masked := false }), (1, { owner := 2, owned := true, due := true, masked := false }), (2, { owner := 1, owned := true, due := true, masked := true }), (3, { masked := true })],
             mboxes := [(0, { seq := 3, ready := true })],
             shares := [(16 * 1 + 0, { cycles := 4000, imem := 8, dmem := 8 })] } }

def code4 : List Byte := [0x7B, 0, 0, 0]

def ob : List Byte := [0x47, 0x4B, 0x50, 0x4F] ++ leBytes 1 2 ++ leBytes 0 2 ++ leBytes 4 4 ++ leBytes 0 4 ++ leBytes 0 4 ++ leBytes 64 4 ++ leBytes 0 4 ++ leBytes 0 4 ++ leBytes 0 4 ++ leBytes 0 4 ++ leBytes (crc32 code4).toNat 4 ++ List.replicate 20 0 ++ code4

def gb : List Byte := [0, 1, 0, 0] ++ leBytes 300 4 ++ leBytes 7 16 ++ leBytes ob.length 4 ++ leBytes 0 4 ++ ob

def s0 : State :=
  base .active

def buf0 : (List Byte) :=
  gb

theorem hyps_FunctionCommandsComplete :
    (∃ (n : Nat) (v : Fin 256) (arg : BitVec 16) (s : State), s.Ready (vfBase v.val + 4) ∧ s.loaded = true ∧
        arg.toNat < 64 ∧ s.localQueue v.val arg.toNat = some n ∧ fld (s.queue n).qcfg 8 2 ≠ 3 ∧
        6 ≤ fld (s.queue n).qcfg 0 4 ∧ fld (s.queue n).qcfg 0 4 ≤ 12 ∧ 6 ≤ fld (s.queue n).qcfg 4 4 ∧
        fld (s.queue n).qcfg 4 4 ≤ 12) ∧
    (∃ (n : Nat) (v : Fin 256) (arg : BitVec 16) (s : State), s.Ready (vfBase v.val + 4) ∧ s.loaded = true ∧
        arg.toNat < 64 ∧ s.localQueue v.val arg.toNat = some n ∧ fld (s.queue n).qcfg 8 2 ≠ 3 ∧
        6 ≤ fld (s.queue n).qcfg 0 4 ∧ fld (s.queue n).qcfg 0 4 ≤ 12 ∧ 6 ≤ fld (s.queue n).qcfg 4 4 ∧
        fld (s.queue n).qcfg 4 4 ≤ 12 ∧ v.val ≠ 0) ∧
    (∃ (v : Fin 256) (arg : BitVec 16) (s : State), s.Ready (vfBase v.val + 4) ∧ s.loaded = true ∧ arg.toNat < 64 ∧
        Option.isSome (s.localQueue v.val arg.toNat) = true) ∧
    (∃ (q : Fin 1024) (s : State), (s.queue q.val).stopping = true ∧ (s.queue q.val).txJobs = []) ∧
    (∃ (dt : Nat) (v : Fin 256) (arg : BitVec 16) (buf : List Byte) (s : State), s.Ready (vfBase v.val + 4) ∧
        s.loaded = true ∧ s.kpr.frames = true ∧ v.val ≠ 0 ∧ arg.toNat < 16 ∧
        guestOk (s.func v.val) (padTo buf (min 131104 (BitVec.toNat (s.rd (vfBase v.val + 20))))) (BitVec.toNat (s.rd (vfBase v.val + 20))) = true ∧
        (s.fn (512 + 16 * v.val + arg.toNat)).state = 0 ∧
        (s.vfShare v.val (byteAt (padTo buf (min 131104 (BitVec.toNat (s.rd (vfBase v.val + 20))))) 0)).cycles ≠ 0 ∧
        (s.setFn (512 + 16 * v.val + arg.toNat) (guestOf (padTo buf (min 131104 (BitVec.toNat (s.rd (vfBase v.val + 20))))) (tickAtOrAfter ((s.elapse dt).now + 2 * secUnit / s.frameRate) s.frameRate))).guestsFit ((s.setFn (512 + 16 * v.val + arg.toNat) (guestOf (padTo buf (min 131104 (BitVec.toNat (s.rd (vfBase v.val + 20))))) (tickAtOrAfter ((s.elapse dt).now + 2 * secUnit / s.frameRate) s.frameRate))).guestsOn v.val (byteAt (padTo buf (min 131104 (BitVec.toNat (s.rd (vfBase v.val + 20))))) 0)) (s.vfShare v.val (byteAt (padTo buf (min 131104 (BitVec.toNat (s.rd (vfBase v.val + 20))))) 0)) = true) ∧
    (∃ (v : Fin 256) (arg : BitVec 16) (s : State), s.Ready (vfBase v.val + 4) ∧ s.loaded = true ∧
        s.kpr.frames = true ∧ v.val ≠ 0 ∧ arg.toNat < 16 ∧ (s.fn (512 + 16 * v.val + arg.toNat)).state ≠ 0) ∧
    (∃ (v : Fin 256) (arg : BitVec 16) (s : State), s.Ready (vfBase v.val + 4) ∧ s.loaded = true ∧
        s.kpr.frames = true ∧ v.val ≠ 0 ∧ arg.toNat < 16 ∧ (s.fn (512 + 16 * v.val + arg.toNat)).state = 2) ∧
    (∃ (v : Fin 256) (arg : BitVec 16) (s : State), s.Ready (vfBase v.val + 4) ∧ s.loaded = true ∧ v.val ≠ 0 ∧
        s.copyArg arg.toNat (BitVec.toNat (s.rd (vfBase v.val + 12)) + 2 ^ 32 * BitVec.toNat (s.rd (vfBase v.val + 16))) (BitVec.toNat (s.rd (vfBase v.val + 20)) / 4096) = true ∧
        (s.func v.val).grants / 2 % 2 = 1 ∧ s.copyState arg.toNat = true) :=
  ⟨⟨0, 0, 0, s0, by unfold State.Ready; decide +kernel⟩,
   ⟨1, 1, 0, s0, by unfold State.Ready; decide +kernel⟩,
   ⟨0, 0, s0, by unfold State.Ready; decide +kernel⟩,
   ⟨4, s0, by decide +kernel⟩,
   ⟨7, 1, 0, buf0, s0, by unfold State.Ready; decide +kernel⟩,
   ⟨1, 2, s0, by unfold State.Ready; decide +kernel⟩,
   ⟨1, 2, s0, by unfold State.Ready; decide +kernel⟩,
   ⟨1, 0, s0, by unfold State.Ready; decide +kernel⟩⟩

end WN4

namespace WO

def fio : Section := sec 0x12 0 (bytesWith 512 ([(0, 3), (1, 0xFF)] ++ (List.range 8).flatMap (fun k => [(0x10 + 32 * k + 6, 40), (0x10 + 32 * k + 8, BitVec.ofNat 8 k), (0x10 + 32 * k + 0xB, 3), (0x10 + 32 * k + 0xD, 1), (0x10 + 32 * k + 0xE, BitVec.ofNat 8 k), (0x10 + 32 * k + 0x10, 10), (0x10 + 32 * k + 0x13, 1)]) ++ (List.range 16).flatMap (fun i => [(0x110 + 8 * i + 1, BitVec.ofNat 8 (i % 2)), (0x110 + 8 * i + 4, BitVec.ofNat 8 i)])))

def cl (c : Coil) : State := { mk .active [fio] with cdv := [(0, c), (1, { state := .pullIn })] }

def hold : Coil := { state := .hold, govern := true, period := 1000, rise := 100, fall := 600, periodSh := 900, riseSh := 3, fallSh := 4 }

def bi (b : BinIn) : State := { mk .active [fio] with bin := [(0, b), (1, b)] }

def s0 : State :=
  cl hold

def s1 : State :=
  cl { hold with armed := true, periodPending := true }

def s2 : State :=
  cl { hold with stale := 1, periodPending := true, conducted := true, ocConsec := 2 }

def s4 : State :=
  cl { hold with fall := 130 }

def s5 : State :=
  cl { hold with driveOn := true }

def s6 : State :=
  cl { hold with driveOn := true, skipping := true }

def s9 : State :=
  cl { hold with dead := .drive }

def s10 : State :=
  cl { hold with dead := .freewheel, ocConsec := 1, driveOn := true }

def s11 : State :=
  cl { hold with dead := .quiet, ocConsec := 2, driveOn := true }

def s12 : State :=
  cl { state := .pullIn, driveOn := true }

def s14 : State :=
  cl { state := .latched, ocConsec := 3 }

def s16 : State :=
  cl { state := .idle, supCand := 1, supRun := 2, sup := 2 }

def s20 : State :=
  bi { pendLevel := some true, pendSec := 5, pendNs := 7, inSecond := 50 }

def s21 : State :=
  bi { pendLevel := some false, pendSec := 5, pendNs := 7, inSecond := 3, chatter := true, known := true, value := true }

theorem hyps_CoilsAndInputsFollowTheirRules :
    (∃ (k : Fin 8) (s : State), (s.coil k.val).armed = true) ∧
    (∃ (k : Fin 8) (s : State), (s.coil k.val).armed = false) ∧
    (∃ (k : Fin 8) (s : State), (s.coil k.val).armed = false ∧ (s.coil k.val).periodPending = true ∧
        (s.coil k.val).stale = 1) ∧
    (∃ (k : Fin 8) (s : State), (s.coil k.val).state = CoilState.pullIn ∧ (s.coil k.val).driveOn = false) ∧
    (∃ (k : Fin 8) (s : State), (s.coil k.val).state = CoilState.hold ∧ (s.coil k.val).govern = true ∧
        coilAlways (s.coil k.val) = false ∧ (s.coil k.val).rise ≠ (s.coil k.val).fall) ∧
    (∃ (k : Fin 8) (s : State), (s.coil k.val).state = CoilState.hold ∧ (s.coil k.val).govern = true ∧
        coilAlways (s.coil k.val) = false ∧ (s.coil k.val).rise ≠ (s.coil k.val).fall ∧
        coilOnTime (s.coil k.val) < s.coilDead k.val + 100) ∧
    (∃ (k : Fin 8) (s : State), (s.coil k.val).state = CoilState.hold ∧ (s.coil k.val).govern = true ∧
        coilAlways (s.coil k.val) = false ∧ (s.coil k.val).rise ≠ (s.coil k.val).fall ∧
        coilOnTime (s.coil k.val) < s.coilDead k.val + 100 ∧
        s.once.contains (onceKey (787 + 4 * k.val) k.val) = false) ∧
    (∃ (k : Fin 8) (s : State), (s.coil k.val).state = CoilState.hold ∧ (s.coil k.val).govern = true ∧
        coilAlways (s.coil k.val) = false ∧ (s.coil k.val).rise ≠ (s.coil k.val).fall ∧
        s.coilDead k.val + 100 ≤ coilOnTime (s.coil k.val)) ∧
    (∃ (k : Fin 8) (s : State), (s.coil k.val).state = CoilState.hold ∧ (s.coil k.val).govern = true ∧
        coilAlways (s.coil k.val) = false ∧ (s.coil k.val).rise ≠ (s.coil k.val).fall ∧
        s.coilDead k.val + 100 ≤ coilOnTime (s.coil k.val) ∧ (s.coil k.val).driveOn = false) ∧
    (∃ (k : Fin 8) (s : State), (s.coil k.val).state = CoilState.hold ∧ (s.coil k.val).govern = true ∧
        coilAlways (s.coil k.val) = false ∧ (s.coil k.val).rise ≠ (s.coil k.val).fall ∧
        s.coilDead k.val + 100 ≤ coilOnTime (s.coil k.val) ∧ (s.coil k.val).driveOn = true) ∧
    (∃ (k : Fin 8) (s : State), (s.coil k.val).state = CoilState.hold ∧ (s.coil k.val).govern = true ∧
        coilAlways (s.coil k.val) = false ∧ (s.coil k.val).rise ≠ (s.coil k.val).fall) ∧
    (∃ (k : Fin 8) (s : State), (s.coil k.val).state = CoilState.hold ∧ (s.coil k.val).govern = true ∧
        coilAlways (s.coil k.val) = false ∧ (s.coil k.val).rise ≠ (s.coil k.val).fall ∧
        (s.coil k.val).skipping = true) ∧
    (∃ (k : Fin 8) (s : State), (s.coil k.val).state = CoilState.hold ∧ (s.coil k.val).govern = true ∧
        coilAlways (s.coil k.val) = false ∧ (s.coil k.val).rise ≠ (s.coil k.val).fall ∧
        (s.coil k.val).skipping = false ∧ (s.coil k.val).driveOn = true) ∧
    (∃ (k : Fin 8) (s : State), (s.coil k.val).dead = DeadWait.drive) ∧
    (∃ (k : Fin 8) (s : State), (s.coil k.val).dead = DeadWait.freewheel) ∧
    (∃ (k : Fin 8) (s : State), (s.coil k.val).dead = DeadWait.quiet) ∧
    (∃ (k : Fin 8) (s : State), (s.coil k.val).state = CoilState.pullIn) ∧
    (∃ (k : Fin 8) (s : State), (s.coil k.val).driveOn = true ∧ (s.coil k.val).blanking = false) ∧
    (∃ (k : Fin 8) (s : State), (s.coil k.val).driveOn = true ∧ (s.coil k.val).blanking = false ∧
        (s.coil k.val).state = CoilState.hold) ∧
    (∃ (k : Fin 8) (s : State) (wf : Bool), (s.coil k.val).driveOn = true ∧ (s.coil k.val).blanking = false ∧
        (wf = false ∨ (s.coil k.val).state ≠ CoilState.hold) ∧ (s.coil k.val).tripped = false) ∧
    (∃ (k : Fin 8) (s : State) (wf : Bool), (s.coil k.val).driveOn = true ∧ (s.coil k.val).blanking = false ∧
        (wf = false ∨ (s.coil k.val).state ≠ CoilState.hold) ∧ (s.coil k.val).tripped = false ∧
        (s.coil k.val).ocConsec + 1 < s.coilLatchN k.val) ∧
    (∃ (k : Fin 8) (s : State) (wf : Bool), (s.coil k.val).driveOn = true ∧ (s.coil k.val).blanking = false ∧
        (wf = false ∨ (s.coil k.val).state ≠ CoilState.hold) ∧ (s.coil k.val).tripped = false ∧
        s.coilLatchN k.val ≤ (s.coil k.val).ocConsec + 1) ∧
    (∃ (k : Fin 8) (s : State), ((s.coil k.val).state = CoilState.idle ∨ (s.coil k.val).state = CoilState.latched)) ∧
    (∃ (k : Fin 8) (s : State), s.coilEnabled k.val = true ∧
        ((s.coil k.val).state = CoilState.idle ∨ (s.coil k.val).state = CoilState.latched) ∧
        (s.coil k.val).supPaused = false ∧ byteAt s.fieldIo (coilOff k.val + 13) ≠ 0) ∧
    (∃ (k : Fin 8) (s : State) (ohm : Nat) (full : Bool), s.coilEnabled k.val = true ∧
        ((s.coil k.val).state = CoilState.idle ∨ (s.coil k.val).state = CoilState.latched) ∧
        (s.coil k.val).supPaused = false ∧ byteAt s.fieldIo (coilOff k.val + 13) ≠ 0 ∧
        (s.coil k.val).supCand = s.supClass k.val ohm full ∧ 2 ≤ (s.coil k.val).supRun) ∧
    (∃ (k : Fin 8) (s : State) (ohm : Nat) (full : Bool), s.coilEnabled k.val = true ∧
        ((s.coil k.val).state = CoilState.idle ∨ (s.coil k.val).state = CoilState.latched) ∧
        (s.coil k.val).supPaused = false ∧ byteAt s.fieldIo (coilOff k.val + 13) ≠ 0 ∧
        (s.coil k.val).supCand = s.supClass k.val ohm full ∧ 2 ≤ (s.coil k.val).supRun ∧
        (s.coil k.val).sup ≠ s.supClass k.val ohm full) ∧
    (∃ (k : Fin 8) (s : State) (ohm : Nat) (full : Bool), s.coilEnabled k.val = true ∧
        ((s.coil k.val).state = CoilState.idle ∨ (s.coil k.val).state = CoilState.latched) ∧
        (s.coil k.val).supPaused = false ∧ byteAt s.fieldIo (coilOff k.val + 13) ≠ 0 ∧
        ((s.coil k.val).supCand ≠ s.supClass k.val ohm full ∨ (s.coil k.val).supRun < 2)) ∧
    (∃ (arg : BitVec 16) (s : State), s.Ready cdvCmdReg ∧ arg.toNat < 8 ∧ s.afterBoot = true ∧
        (s.coil arg.toNat).state = CoilState.latched) ∧
    (∃ (i : Fin 16) (s : State), Option.isSome ((s.input i.val).pendLevel) = true ∧ s.inputEnabled i.val = true) ∧
    (∃ (i : Fin 16) (s : State), Option.isSome ((s.input i.val).pendLevel) = true ∧ s.inputEnabled i.val = true ∧
        s.inputSignal i.val < 16384) ∧
    (∃ (i : Fin 16) (s : State), Option.isSome ((s.input i.val).pendLevel) = true ∧ s.inputEnabled i.val = true ∧
        (s.input i.val).chatter = false) ∧
    (∃ (i : Fin 16) (s : State) (l : Bool), (s.input i.val).raw ≠ l) ∧
    (∃ (i : Fin 16) (s : State), (s.input i.val).raw ≠ ((s.input i.val).value != s.inputInvert i.val) ∧
        (s.input i.val).known = true) ∧
    (∃ (i : Fin 16) (s : State) (l : Bool), (s.input i.val).raw ≠ l ∧
        ((s.input i.val).known = false ∨ l ≠ ((s.input i.val).value != s.inputInvert i.val))) :=
  ⟨⟨0, s1, by decide +kernel⟩,
   ⟨0, s0, by decide +kernel⟩,
   ⟨0, s2, by decide +kernel⟩,
   ⟨1, s0, by decide +kernel⟩,
   ⟨0, s0, by decide +kernel⟩,
   ⟨0, s4, by decide +kernel⟩,
   ⟨0, s4, by decide +kernel⟩,
   ⟨0, s0, by decide +kernel⟩,
   ⟨0, s0, by decide +kernel⟩,
   ⟨0, s5, by decide +kernel⟩,
   ⟨0, s0, by decide +kernel⟩,
   ⟨0, s6, by decide +kernel⟩,
   ⟨0, s5, by decide +kernel⟩,
   ⟨0, s9, by decide +kernel⟩,
   ⟨0, s10, by decide +kernel⟩,
   ⟨0, s11, by decide +kernel⟩,
   ⟨0, s12, by decide +kernel⟩,
   ⟨0, s5, by decide +kernel⟩,
   ⟨0, s5, by decide +kernel⟩,
   ⟨0, s5, false, by decide +kernel⟩,
   ⟨0, s5, false, by decide +kernel⟩,
   ⟨0, s11, false, by decide +kernel⟩,
   ⟨0, s14, by decide +kernel⟩,
   ⟨0, s14, by decide +kernel⟩,
   ⟨0, s16, 10, false, by decide +kernel⟩,
   ⟨0, s16, 10, false, by decide +kernel⟩,
   ⟨0, s14, 5, false, by decide +kernel⟩,
   ⟨0, s14, by unfold State.Ready; decide +kernel⟩,
   ⟨0, s20, by decide +kernel⟩,
   ⟨0, s20, by decide +kernel⟩,
   ⟨0, s20, by decide +kernel⟩,
   ⟨0, s0, true, by decide +kernel⟩,
   ⟨0, s21, by decide +kernel⟩,
   ⟨0, s0, true, by decide +kernel⟩⟩

end WO

namespace WQ

def fio (fl : Byte) : Section := sec 0x12 0 (bytesWith 1024 ([0, 1].flatMap (fun c => [(canOff c, fl), (canOff c + 1, 1), (canOff c + 0x20, 3), (canOff c + 0x21, 4), (canOff c + 0x24, 9), (canOff c + 0x26, 5)])))

def cc (fl : Byte) (x : CanCtl) : State :=
  { mk .active [fio fl] with can := [(0, x)], regs := [(canBase 0 + 0x100, 2), (canBase 0 + 0x180, 1), (canBase 0 + 0x188, 0x1FFFFFF0), (canBase 0 + 0x280, 1)] }

def pc (s : State) (code : Nat) : State := { s with cmds := [(canBase 0, { status := 1, pending := true, runCode := code })] }

def bf : CanBuf := { id := 0x123, dlc := 9, txReq := true, data := List.replicate 64 5 }

def s0 : State :=
  cc 0x01 {}

def s1 : State :=
  cc 0x41 { bufs := [(1, { newData := true, id := 0x125 })], rxErr := 5, alone := true }

def s2 : State :=
  cc 0x01 { bufs := [(1, { id := 0x80000125 })], rxErr := 200, listen := true }

def s3 : State :=
  cc 0x41 { abdRun := true, abdGood := 1, listen := true, abdIndex := 9 }

def s6 : State :=
  cc 0x01 { bufs := [(2, bf)], sending := some 2, txErr := 5 }

def s8 : State :=
  pc (cc 0x01 { bufs := [(2, bf)], sending := some 2, txErr := 5, abort := some 2 }) 2

def s7 : State :=
  cc 0x21 { bufs := [(2, bf)], sending := some 2, txErr := 5 }

def s9 : State :=
  cc 0x01 { bufs := [(2, { bf with id := 0x40000111 })], sending := some 2, ackBuf := 2, ackRun := 15 }

def s10 : State :=
  cc 0x01 { txErr := 250 }

def s14 : State :=
  pc (cc 0x01 { err := .busOff, recovering := true, txErr := 256 }) 1

def s16 : State :=
  pc (cc 0x01 { listenPend := some true }) 4

def s13 : State :=
  cc 0x01 { err := .busOff, txErr := 300 }

def s18 : State :=
  cc 0x01 { bufs := [(2, bf)] }

theorem hyps_CanControllersFollowTheirRules :
    (∃ (c : Fin 2) (id : Word) (s : State), s.img.loaded = true ∧ s.canFlag c.val 0 = true ∧
        (s.canCtl c.val).err ≠ CanErr.busOff ∧ Option.isSome (s.canMatch c.val id) = true) ∧
    (∃ (b : Nat) (c : Fin 2) (id : Word) (s : State), s.img.loaded = true ∧ s.canFlag c.val 0 = true ∧
        (s.canCtl c.val).err ≠ CanErr.busOff ∧ s.canMatch c.val id = some b ∧
        (canBuf (s.canCtl c.val) b).newData = true) ∧
    (∃ (c : Fin 2) (id : Word) (s : State), s.img.loaded = true ∧ s.canFlag c.val 0 = true ∧
        (s.canCtl c.val).err ≠ CanErr.busOff ∧ Option.isSome (s.canMatch c.val id) = true ∧
        (s.canCtl c.val).listen = true) ∧
    (∃ (c : Fin 2) (id : Word) (s : State), s.img.loaded = true ∧ s.canFlag c.val 0 = true ∧
        (s.canCtl c.val).err ≠ CanErr.busOff ∧ Option.isSome (s.canMatch c.val id) = true ∧
        (s.canCtl c.val).listen = false) ∧
    (∃ (c : Fin 2) (id : Word) (s : State), s.img.loaded = true ∧ s.canFlag c.val 0 = true ∧
        (s.canCtl c.val).err ≠ CanErr.busOff ∧ Option.isSome (s.canMatch c.val id) = true ∧
        (s.canCtl c.val).abdRun = true ∧ 1 ≤ (s.canCtl c.val).abdGood) ∧
    (∃ (c : Fin 2) (s : State), Option.isSome ((s.canCtl c.val).sending) = true) ∧
    (∃ (b : Nat) (c : Fin 2) (s : State), (s.canCtl c.val).sending = some b ∧ (s.canCtl c.val).abort = some b) ∧
    (∃ (c : Fin 2) (s : State), Option.isSome ((s.canCtl c.val).sending) = true) ∧
    (∃ (c : Fin 2) (s : State), Option.isSome ((s.canCtl c.val).sending) = true ∧ s.canFlag c.val 5 = true) ∧
    (∃ (b : Nat) (c : Fin 2) (s : State), (s.canCtl c.val).sending = some b ∧ s.canFlag c.val 5 = false ∧
        (s.canCtl c.val).abort = some b) ∧
    (∃ (b : Nat) (c : Fin 2) (s : State), (s.canCtl c.val).sending = some b ∧ s.canFlag c.val 5 = false ∧
        (s.canCtl c.val).abort ≠ some b) ∧
    (∃ (c : Fin 2) (s : State), (s.canCtl c.val).sending = some (s.canCtl c.val).ackBuf ∧
        15 ≤ (s.canCtl c.val).ackRun ∧ (s.canCtl c.val).alone = false) ∧
    (∃ (c : Fin 2) (s : State), (s.canCtl c.val).err ≠ CanErr.busOff) ∧
    (∃ (c : Fin 2) (tx : Bool) (ack : Bool) (heavy : Bool) (s : State), (s.canCtl c.val).err ≠ CanErr.busOff ∧
        255 < (canAddError (s.canCtl c.val) tx ack heavy).txErr) ∧
    (∃ (c : Fin 2) (tx : Bool) (ack : Bool) (heavy : Bool) (s : State), (s.canCtl c.val).err ≠ CanErr.busOff ∧
        (canAddError (s.canCtl c.val) tx ack heavy).txErr ≤ 255 ∧
        (127 < (canAddError (s.canCtl c.val) tx ack heavy).txErr ∨ 127 < (canAddError (s.canCtl c.val) tx ack heavy).rxErr)) ∧
    (∃ (c : Fin 2) (tx : Bool) (ack : Bool) (heavy : Bool) (s : State), (s.canCtl c.val).err ≠ CanErr.busOff ∧
        (canAddError (s.canCtl c.val) tx ack heavy).txErr ≤ 255 ∧
        (127 < (canAddError (s.canCtl c.val) tx ack heavy).txErr ∨ 127 < (canAddError (s.canCtl c.val) tx ack heavy).rxErr) ∧
        (s.canCtl c.val).err = CanErr.errorActive) ∧
    (∃ (c : Fin 2) (tx : Bool) (ack : Bool) (heavy : Bool) (s : State), (s.canCtl c.val).err ≠ CanErr.busOff ∧
        (canAddError (s.canCtl c.val) tx ack heavy).txErr ≤ 127 ∧
        (canAddError (s.canCtl c.val) tx ack heavy).rxErr ≤ 127) ∧
    (∃ (c : Fin 2) (s : State), (s.canCtl c.val).err ≠ CanErr.busOff ∧ (s.canCtl c.val).abdRun = true) ∧
    (∃ (c : Fin 2) (s : State), (s.canCtl c.val).err = CanErr.busOff ∧ (s.canCtl c.val).recovering = true) ∧
    (∃ (c : Fin 2) (s : State), (s.canCtl c.val).err = CanErr.busOff ∧ (s.canCtl c.val).recovering = true ∧
        (s.cmd (canBase c.val)).pending = true ∧ (s.cmd (canBase c.val)).runCode = 1) ∧
    (∃ (c : Fin 2) (s : State), Option.isSome ((s.canCtl c.val).listenPend) = true) ∧
    (∃ (c : Fin 2) (s : State), (s.canCtl c.val).abdRun = true) ∧
    (∃ (c : Fin 2) (s : State) (m : Fin 16), m.val < byteAt s.fieldIo (canOff c.val + 1) ∧
        leAt s.fieldIo (canOff c.val + 32 + 8 * m.val + 6) 2 ≠ 0 ∧
        leAt s.fieldIo (canOff c.val + 32 + 8 * m.val + 4) 2 + byteAt s.fieldIo (canOff c.val + 32 + 8 * m.val + 1) ≤ 16384) ∧
    (∃ (c : Fin 2) (s : State), s.Ready (canBase c.val) ∧ s.img.loaded = true ∧
        (s.canCtl c.val).err = CanErr.busOff ∧ s.canFlag c.val 4 = false) ∧
    (∃ (c : Fin 2) (s : State) (arg : BitVec 16), s.Ready (canBase c.val) ∧ s.img.loaded = true ∧ arg.toNat < 64 ∧
        (canBuf (s.canCtl c.val) arg.toNat).txReq = true) ∧
    (∃ (c : Fin 2) (s : State) (arg : BitVec 16), s.Ready (canBase c.val) ∧ s.img.loaded = true ∧ arg.toNat < 64 ∧
        (canBuf (s.canCtl c.val) arg.toNat).txReq = true ∧ (s.canCtl c.val).sending = some arg.toNat) ∧
    (∃ (c : Fin 2) (s : State) (arg : BitVec 16), s.Ready (canBase c.val) ∧ s.img.loaded = true ∧ arg.toNat < 64 ∧
        (canBuf (s.canCtl c.val) arg.toNat).txReq = true ∧ (s.canCtl c.val).sending ≠ some arg.toNat) ∧
    (∃ (c : Fin 2) (s : State), s.Ready (canBase c.val) ∧ s.img.loaded = true ∧ (s.canCtl c.val).listen = true ∧
        s.canFlag c.val 6 = true) ∧
    (∃ (c : Fin 2) (s : State) (arg : BitVec 16), s.Ready (canBase c.val) ∧ s.img.loaded = true ∧ arg.toNat < 2 ∧
        (s.canCtl c.val).err ≠ CanErr.busOff) :=
  ⟨⟨0, 291, s0, by decide +kernel⟩,
   ⟨1, 0, 291, s1, by decide +kernel⟩,
   ⟨0, 291, s2, by decide +kernel⟩,
   ⟨0, 291, s0, by decide +kernel⟩,
   ⟨0, 291, s3, by decide +kernel⟩,
   ⟨0, s6, by decide +kernel⟩,
   ⟨2, 0, s8, by decide +kernel⟩,
   ⟨0, s6, by decide +kernel⟩,
   ⟨0, s7, by decide +kernel⟩,
   ⟨2, 0, s8, by decide +kernel⟩,
   ⟨2, 0, s6, by decide +kernel⟩,
   ⟨0, s9, by decide +kernel⟩,
   ⟨0, s0, by decide +kernel⟩,
   ⟨0, true, false, false, s10, by decide +kernel⟩,
   ⟨0, false, false, false, s2, by decide +kernel⟩,
   ⟨0, false, false, false, s2, by decide +kernel⟩,
   ⟨0, false, false, false, s0, by decide +kernel⟩,
   ⟨0, s3, by decide +kernel⟩,
   ⟨0, s14, by decide +kernel⟩,
   ⟨0, s14, by decide +kernel⟩,
   ⟨0, s16, by decide +kernel⟩,
   ⟨0, s3, by decide +kernel⟩,
   ⟨0, s0, 0, by decide +kernel⟩,
   ⟨0, s13, by unfold State.Ready; decide +kernel⟩,
   ⟨0, s6, 2, by unfold State.Ready; decide +kernel⟩,
   ⟨0, s6, 2, by unfold State.Ready; decide +kernel⟩,
   ⟨0, s18, 2, by unfold State.Ready; decide +kernel⟩,
   ⟨0, s3, by unfold State.Ready; decide +kernel⟩,
   ⟨0, s0, 0, by unfold State.Ready; decide +kernel⟩⟩

end WQ

end Sys2Proof.Tests
end

section
/-!
SUPPORT. How a command register turns a command away: the register is busy, or a reserved bit of the command is 1
(R37 to R39).
-/

namespace Sys2Proof.Machine

open Sys2Proof

/-! ### The check of a command register -/

/-- A command register is busy: a command of its own runs or, for the global block's two registers, a mode transition
(R39). -/
def State.Blocked (s : State) (r : Nat) : Prop :=
  (s.cmd r).pending = true ∨ ((r = 0x14 ∨ r = 0x30) ∧ s.glb.inTransition = true)

/-- A register takes no command with the reserved bits `rsv`: it is busy, or one of them is 1. -/
def State.TurnsAway (s : State) (r rsv : Nat) : Prop := s.Blocked r ∨ rsv ≠ 0

/-- The passing of time keeps a register busy. -/
theorem State.Blocked.elapse {s : State} {r : Nat} (h : s.Blocked r) (dt : Nat) : (s.elapse dt).Blocked r := by
  unfold State.Blocked
  rw [State.cmd_elapse, State.elapse_glb]
  exact h

theorem State.TurnsAway.elapse {s : State} {r rsv : Nat} (h : s.TurnsAway r rsv) (dt : Nat) :
    (s.elapse dt).TurnsAway r rsv := h.imp_left (·.elapse dt)

/-- BUSY comes before every other check (R39). -/
theorem State.runCmd_blocked {s : State} {r : Nat} (code rsv arg : Nat) (v : Verdict) (act : State → State)
    (h : s.Blocked r) : s.runCmd r code rsv arg v act = s.setCmd r { s.cmd r with code := code, status := 5 } := by
  obtain hrun | ⟨hr, htr⟩ := h
  · exact State.runCmd_busy code rsv arg v act hrun
  · have hg : (decide (r = 0x14) || decide (r = 0x30)) = true := by simpa using hr
    unfold State.runCmd
    simp only [hg, htr, Bool.and_self, Bool.or_true, ↓reduceIte]

/-- A register that turns a command away changes nothing but its own command status. -/
theorem State.runCmd_turnsAway {s : State} {r rsv : Nat} (code arg : Nat) (v : Verdict) (act : State → State)
    (h : s.TurnsAway r rsv) : ∃ c, s.runCmd r code rsv arg v act = s.setCmd r c := by
  by_cases hb : s.Blocked r
  · exact ⟨_, State.runCmd_blocked code rsv arg v act hb⟩
  · have hready : s.Ready r :=
      ⟨Bool.eq_false_iff.mpr fun hp => hb (.inl hp), fun hr => Bool.eq_false_iff.mpr fun ht => hb (.inr ⟨hr, ht⟩)⟩
    exact ⟨_, State.runCmd_rsv code arg v act hready (h.resolve_left hb)⟩

/-! ### What a row of a command register does where it is turned away -/

/-- `t` is what register `r` makes of the command `code` with the reserved bits `rsv`, for some argument, outcome of the
checks and effect of the command. -/
def CmdWritten (r code rsv : Nat) (s t : State) : Prop := ∃ arg v act, t = s.runCmd r code rsv arg v act

/-- No record of a set-aside command is written where the register turns it away (R35). -/
theorem State.glbRun_written {s : State} {code rsv arg : Nat} {argOk stateOk : Bool} {act : State → State}
    (h : s.TurnsAway glbCmdReg rsv) :
    CmdWritten glbCmdReg code rsv s (s.glbRun code rsv arg argOk stateOk act) := by
  have hno : (argOk && decide (rsv = 0) && !(s.cmd glbCmdReg).pending && !s.glb.inTransition) = false := by
    obtain (hrun | ⟨-, htr⟩) | hrsv := h
    · simp only [hrun, Bool.not_true, Bool.and_false, Bool.false_and]
    · simp only [htr, Bool.not_true, Bool.and_false]
    · simp only [hrsv, decide_false, Bool.and_false, Bool.false_and]
  unfold State.glbRun
  split
  · exact ⟨_, _, _, rfl⟩
  · simp only [hno, Bool.false_eq_true, ↓reduceIte]
    exact ⟨_, _, _, rfl⟩

/-- LOAD_CANDIDATE stops no frames where it is turned away (R240). -/
theorem loadCandidateNow_written {s : State} {rsv arg : Nat} {buf : List Byte} (h : s.TurnsAway imgCmdReg rsv) :
    CmdWritten imgCmdReg 1 rsv s (loadCandidateNow rsv arg buf s) := by
  have himg : (loadCandidate rsv arg buf s).img = s.img := by
    unfold loadCandidate
    obtain ⟨c, hc⟩ := State.runCmd_turnsAway 1 arg _ _ h
    exact (congrArg State.img hc).trans rfl
  unfold loadCandidateNow
  dsimp only
  rw [himg, if_neg fun hc => hc.2.2 hc.2.1]
  unfold loadCandidate
  exact ⟨_, _, _, rfl⟩

/-- ABANDON ends no RELOAD where none waits or a reserved bit is 1 (R73). -/
theorem abandon_written {s : State} {rsv arg : Nat} (h : s.img.reload = none ∨ rsv ≠ 0) :
    CmdWritten imgCmdReg 3 rsv s (abandon rsv arg s) := by
  have hwas : (s.img.reload.isSome && !s.img.reloadAtGap && decide (rsv = 0) && decide (arg = 0)) = false := by
    obtain h | h := h <;> simp [h]
  unfold abandon
  dsimp only
  rw [hwas]
  exact ⟨_, _, _, rfl⟩

/-- A settings command meets no RELOAD's target where none waits or a reserved bit is 1 (R73). -/
theorem State.settingsCmd_written {s : State} {code rsv arg : Nat} {argOk : Bool} {p : Nat → SetPend}
    (h : s.img.reload = none ∨ rsv ≠ 0) : CmdWritten imgCmdReg code rsv s (s.settingsCmd code rsv arg argOk p) := by
  unfold State.settingsCmd
  split
  · exact ⟨_, _, _, rfl⟩
  · rw [if_neg (by obtain h | h := h <;> simp [h])]
    exact ⟨_, _, _, rfl⟩

/-- Every row that writes a command register comes to `State.runCmd` of that register where the register turns it away.
Most rows are `runCmd` itself; the others first name what their checks read, look their target up, or see to a cause of
a higher rank (R35), protection frames (R240) or a RELOAD that waits (R73). -/
theorem exec_written {i : Instr} {r code : Nat} {rsv : BitVec 8} {s : State} (hi : commandOf i = some (r, code, rsv))
    (h : s.TurnsAway r rsv.toNat) (hload : r = imgCmdReg → s.img.reload = none ∨ rsv.toNat ≠ 0) :
    ∃ dt t, exec i s = .next t ∧ CmdWritten r code rsv.toNat (s.elapse dt) t := by
  have hload' (dt : Nat) : r = imgCmdReg → (s.elapse dt).img.reload = none ∨ rsv.toNat ≠ 0 := by
    rw [State.elapse_img]
    exact hload
  cases i with
  | enterTest dt | exitTest dt | enterMaintenance dt | exitMaintenance dt | leaveCommission dt | handover dt
  | restart dt => cases hi; exact ⟨dt, _, rfl, State.glbRun_written (h.elapse dt)⟩
  | loadCandidate dt => cases hi; exact ⟨dt, _, rfl, loadCandidateNow_written (h.elapse dt)⟩
  | abandon dt => cases hi; exact ⟨dt, _, rfl, abandon_written (hload' dt rfl)⟩
  | settingsWrite dt | settingsRevert dt => cases hi; exact ⟨dt, _, rfl, State.settingsCmd_written (hload' dt rfl)⟩
  | move dt | funcRestart dt | reload dt | windowSet dt | queueEnable dt | queueDisable dt =>
    cases hi
    refine ⟨dt, _, rfl, ?_⟩
    dsimp only [move, funcRestart, reload, windowSet, queueEnable, queueDisable]
    split <;> exact ⟨_, _, _, rfl⟩
  | blockReset dt | nvmStore dt | asymKeep dt | substForce dt | substRelease dt | subRestart dt | lmpImport dt
  | lmpUpdate dt | readCert dt | storeCert dt | operate dt | provision dt | release dt | copy dt | queueAssign dt
  | vectorAssign dt | shareSet dt | mbxBind dt | classifierSet dt | grantSet dt | attachSet dt | guestLoad dt
  | guestUnload dt | guestRestart dt | galCopy dt =>
    cases hi
    refine ⟨dt, _, rfl, ?_⟩
    dsimp only [blockReset, nvmStore, asymKeep, substForce, substRelease, State.sviPlan, subRestartCmd, lmpImport,
      lmpUpdate, lmpReadCert, lmpStoreCert, lmpOperate, lmpProvision, galRelease, galCopy, queueAssign, vectorAssign,
      shareSet, mbxBind, classifierSet, grantSet, attachSet, guestLoad, guestUnload, guestRestart, State.guestCmd,
      vfGalCopy]
    exact ⟨_, _, _, rfl⟩
  | _ => cases hi <;> exact ⟨_, _, rfl, _, _, _, rfl⟩

/-! ### What stands after a command was turned away -/

/-- Register `r` shows the command `code` with a status, the command that runs in it is as it was, and nothing else
changed. -/
def ShowsOnly (r code status : Nat) (s t : State) : Prop :=
  t.cmd r = { s.cmd r with code := code, status := status } ∧ (∀ q, q ≠ r → t.cmd q = s.cmd q) ∧
    t.log.queue = s.log.queue ∧ Changes [.cmds, .time, .log] s t

/-- The passing of time offers no record to the logbook. -/
@[simp] theorem State.elapse_queue (s : State) (dt : Nat) : (s.elapse dt).log.queue = s.log.queue := by
  unfold State.elapse; dsimp only; split <;> split <;> rfl

theorem State.setCmd_showsOnly (s : State) (dt r code status : Nat) :
    ShowsOnly r code status s
      ((s.elapse dt).setCmd r { (s.elapse dt).cmd r with code := code, status := status }) :=
  have hfr : Fr [.cmds, .time, .log] s (s.elapse dt) := State.elapse_fr (Fr.refl s) (by decide)
  ⟨by rw [State.cmd_setCmd_same, State.cmd_elapse],
   fun q hq => by rw [State.cmd_setCmd_ne _ _ hq, State.cmd_elapse],
   State.elapse_queue s dt,
   (State.setCmd_fr hfr (by decide)).ch⟩

/-- Settles O6: where a command register turns a command away, its row comes to `State.runCmd`, which checks BUSY before
the reserved bits and then changes nothing but the register's own status; a completion shows DONE. -/
theorem commandRegistersCheckInOrder : Obligations.CommandRegistersCheckInOrder := by
  unfold Obligations.CommandRegistersCheckInOrder
  refine ⟨fun i r code rsv s hi => ⟨fun hbusy hload => ?_, fun hready hrsv => ?_⟩, fun r s _ => State.isDone_cmdDone rfl⟩
  · obtain ⟨dt, t, hexec, arg, v, act, rfl⟩ := exec_written hi (.inl hbusy) fun hr => .inl (hload hr)
    refine ⟨_, hexec, ?_⟩
    rw [State.runCmd_blocked code rsv.toNat arg v act (State.Blocked.elapse hbusy dt)]
    exact State.setCmd_showsOnly s dt r code 5
  · have hne : rsv.toNat ≠ 0 := fun h0 => hrsv (BitVec.eq_of_toNat_eq h0)
    obtain ⟨dt, t, hexec, arg, v, act, rfl⟩ := exec_written hi (.inr hne) fun _ => .inr hne
    refine ⟨_, hexec, ?_⟩
    rw [State.runCmd_rsv code arg v act (hready.elapse dt) hne]
    exact State.setCmd_showsOnly s dt r code 4

end Sys2Proof.Machine
end

section
/-!
SUPPORT. Writes that are discarded: a record that enters the logbook's queue (R383), a happening that raises its event
once in a second (R501), and the two kinds of write that come to them (R9, R232).
-/

namespace Sys2Proof.Machine

open Sys2Proof

/-! ### One change after another -/

theorem Changes.trans {l : List Part} {s t u : State} (h : Changes l s t) (k : Changes l t u) : Changes l s u :=
  ⟨fun p hp => by
    have hst := h.same p hp
    have htu := k.same p hp
    cases p <;> exact Eq.trans htu hst⟩

theorem State.elapse_changes (s : State) (dt : Nat) : Changes [.time, .log] s (s.elapse dt) :=
  (State.elapse_fr (Fr.refl s) (List.Subset.refl _)).ch

/-- A source whose status bit lies in another register has none in register `a`. -/
theorem evLoc_ne {src a c : Nat} (h : (evLoc src).map (·.1) = some c) (hac : a ≠ c) (b e : Nat) :
    evLoc src ≠ some (a, b, e) := by
  intro hc
  rw [hc] at h
  exact hac (Option.some.inj h)

/-! ### A record enters the queue -/

/-- A record is among those of its clock once it is entered (R383). -/
theorem mem_insBySource (q : List LogRec) (r : LogRec) : r ∈ insBySource q r := by
  induction q with
  | nil => exact List.mem_singleton_self r
  | cons x rest ih =>
    simp only [insBySource]
    split
    · exact List.mem_cons_self
    · exact List.mem_cons_of_mem x ih

/-- A record that is not TRACE enters a queue that has room (R381, R383). -/
theorem State.mem_queue_logOffer {s : State} {r : LogRec} (hcls : r.cls ≠ 3) (hroom : s.log.queue.length < 64) :
    r ∈ (s.logOffer r).log.queue := by
  unfold State.logOffer
  rw [if_neg fun h => hcls h.1, if_neg (Nat.not_le.mpr hroom)]
  exact List.mem_append_right _ (mem_insBySource _ r)

/-- A record that enters a queue with room changes the logbook alone. -/
theorem State.logOffer_changes {s : State} {r : LogRec} (hroom : s.log.queue.length < 64) :
    Changes [.log] s (s.logOffer r) := by
  unfold State.logOffer
  split
  · exact Changes.refl s
  · rw [if_neg (Nat.not_le.mpr hroom)]
    exact (Fr.upd (Fr.refl s) (c9 := .inl (by decide))).ch

/-- The passing of time leaves the class of every record. -/
@[simp] theorem State.classOf_elapse (s : State) (dt code : Nat) : (s.elapse dt).classOf code = s.classOf code := by
  simp only [State.classOf, State.cfg, State.sect, State.elapse_img]

/-! ### Once in a second -/

theorem contains_insNat (l : List Nat) (x : Nat) : (insNat l x).contains x = true := by
  induction l with
  | nil => simp [insNat]
  | cons y rest ih =>
    simp only [insNat]
    split
    · simp
    · split
      · rename_i h; simp [h]
      · simp only [List.contains_cons, ih, Bool.or_true]

/-- A happening is marked for the rest of its second (R501). -/
theorem State.once_oncePer (s : State) (kind inst : Nat) (f : State → State) (hf : ∀ u, (f u).once = u.once) :
    (s.oncePer kind inst f).once.contains (onceKey kind inst) = true := by
  unfold State.oncePer
  split
  · assumption
  · rw [hf]; exact contains_insNat _ _

/-! ### The two kinds of discarded write -/

/-- Outside DORMANT every access but a virtual function's reaches the module. -/
theorem State.accessOk_of_not_vf {s : State} {q : Requester} (hq : ∀ f, q ≠ .vf f) (hm : s.glb.mode ≠ .dormant) :
    s.accessOk q = true := by
  unfold State.accessOk
  cases q with
  | vf f => exact absurd rfl (hq f)
  | pf0 => simpa using hm
  | core h => simpa using hm

/-- A write to a register without all four byte enables comes to a record with its address (R9). -/
theorem partialWrite_register {q : Requester} {a be : Nat} {s : State} (hq : ∀ f, q ≠ .vf f)
    (hm : s.glb.mode ≠ .dormant) (hbe : be % 16 ≠ 15) (ha : a < 0x1000000) :
    partialWrite q a be s = s.logPut 0x0005 (blockOf a) 0x3FF a (be % 16) 0 := by
  have hwin : ¬ (0x1000000 ≤ a ∧ a < 0x2000000) := by omega
  have hfar : ¬ 0x2000000 ≤ a := by omega
  unfold partialWrite
  rw [if_pos (by simp [State.accessOk_of_not_vf hq hm, hbe])]
  cases q with
  | vf f => exact absurd rfl (hq f)
  | pf0 => simp only [if_neg hwin, if_neg hfar]
  | core h => simp only [if_neg hwin, if_neg hfar]

/-- A write into the plane window counts (R232). -/
theorem windowWrite_counts (q off : Nat) (s : State) :
    (windowWrite q off s).rd 0x500020 = satInc (s.rd 0x500020) := by
  have hcount : (s.count 0x500020).rd 0x500020 = satInc (s.rd 0x500020) := State.rd_wr_same _ _ _
  have hev (u : State) (p0 : Nat) : ((u.setEvent 25).eventRec 25 0x3FF p0).rd 0x500020 = u.rd 0x500020 := by
    refine (State.rd_logPut_ne _ _ _ _ _ _ _ (by decide) (by decide)).trans ?_
    exact State.rd_setEvent_ne u (evLoc_ne rfl (by decide)) (by decide)
  unfold windowWrite State.oncePer
  split
  · exact hcount
  · rw [hev]; exact hcount

/-- The first write into the plane window in a second raises WINDOW_WRITE (R232). -/
theorem windowWrite_raises {q off : Nat} {s : State} (h : s.once.contains (onceKey 25 0) = false) :
    (windowWrite q off s).evSet 25 = true := by
  unfold windowWrite State.oncePer
  rw [State.count_once, h]
  exact State.evSet_eventRec_mono (State.evSet_setEvent _ rfl)

theorem windowWrite_once (q off : Nat) (s : State) :
    (windowWrite q off s).once.contains (onceKey 25 0) = true :=
  State.once_oncePer _ _ _ _ fun u => by rw [State.eventRec_once, State.setEvent_once]

/-- Settles O8: a partial write comes to one record, and a window write to a count and an event once in a second. -/
theorem discardedWritesAreReported : Obligations.DiscardedWritesAreReported := by
  unfold Obligations.DiscardedWritesAreReported
  refine ⟨fun dt q a be s hq hm hbe ha hroom hcls => ⟨_, rfl, ?_⟩, fun dt q off s => ?_⟩
  · have hbe' : be.toNat % 16 ≠ 15 := fun h => hbe (BitVec.eq_of_toNat_eq (by have := be.isLt; simp; omega))
    have hroom' : (s.elapse dt).log.queue.length < 64 := by rwa [State.elapse_queue]
    rw [partialWrite_register hq (by rwa [State.elapse_glb]) hbe' ha]
    refine ⟨⟨(s.elapse dt).mkRec 0x0005 (blockOf a) 0x3FF a (be.toNat % 16) 0, ?_, rfl, rfl, ?_, ?_⟩, ?_⟩
    · exact State.mem_queue_logOffer (by rwa [← State.classOf_elapse s dt] at hcls) hroom'
    · exact Nat.mod_eq_of_lt (by omega)
    · have := be.isLt
      simp only [State.mkRec]
      omega
    · exact (State.elapse_changes s dt).trans ((State.logOffer_changes hroom').mono (by decide))
  · obtain ⟨t, hexec, hfr⟩ := execPlnWindowWrite_fr (l := [.regs, .once, .evt, .time, .log]) (dt := dt) (q := q)
      (off := off) (Fr.refl s) (by decide)
    have ht : windowWrite q.val off.val (s.elapse dt) = t := Host.Outcome.next.inj hexec
    refine ⟨t, hexec, ?_, fun honce => ?_, ?_, hfr.ch⟩
    · rw [← ht, windowWrite_counts, State.rd_congr (State.elapse_regs s dt)]
    · rw [← ht]; exact windowWrite_raises (by rwa [State.elapse_once])
    · rw [← ht]; exact windowWrite_once _ _ _

end Sys2Proof.Machine
end

section
/-!
SUPPORT. Reads with an effect: what each kind of read returns, clears, latches or moves (R11, R86, R108, R384, R418,
R446, R462).
-/

namespace Sys2Proof.Machine

open Sys2Proof

/-! ### Counters that clear on read (R11) -/

/-- A read of a counter that clears on read, by a reader that is not virtual, returns it and leaves its reset value. -/
theorem rcRead_clears {q : Requester} {a : Nat} {s : State} (hq : ∀ f, q ≠ .vf f) (ha : rcMap a = true) :
    rcRead q a s = ({ s with readData := s.regRead q a }).wr a (regReset a) := by
  unfold rcRead
  cases q with
  | vf f => exact absurd rfl (hq f)
  | pf0 => exact if_pos ha
  | core h => exact if_pos ha

/-! ### The beacon's time (R86, R418) -/

/-- A read of a time's NS has returned it and latched the rest of that time for reader `k`; what the other readers
latched stands. -/
def TimeLatched (k : Nat) (s t : State) : Prop :=
  t.readData = BitVec.ofNat 32 (nsOf t.now) ∧
    tget t.bcn.latches k {} = { sec := secOf t.now, frac := fracOf t.now, ts32 := ts32Of t.now } ∧
    (∀ j, j ≠ k → tget t.bcn.latches j {} = tget s.bcn.latches j {}) ∧ Changes [.readData, .bcn, .time, .log] s t

theorem bcnTimeNsRead_latches (q : Requester) (dt : Nat) (s : State) :
    TimeLatched (readerId q) s (bcnTimeNsRead q (s.elapse dt)) :=
  ⟨rfl, tget_tset_same _ _ _ _, fun j hj => by
    rw [← State.elapse_bcn s dt]
    exact tget_tset_ne _ _ _ _ hj,
   (bcnTimeNsRead_fr (State.elapse_fr (Fr.refl s) (by decide)) (by decide)).ch⟩

/-- A present virtual function's accesses reach the module outside DORMANT. -/
theorem State.accessOk_of_present {s : State} {v : Fin 256} (hm : s.glb.mode ≠ .dormant) (hv : v.val ≠ 0)
    (hp : s.present v.val = true) : s.accessOk (.vf v) = true := by
  simp [State.accessOk, hm, hv, hp]

theorem State.present_congr {s t : State} (h : t.hst = s.hst) (v : Nat) : t.present v = s.present v := by
  unfold State.present State.func; rw [h]

/-! ### The log window (R384) -/

/-- The passing of time changes nothing of the logbook but where the records of the present clock begin. -/
theorem State.elapse_log (s : State) (dt : Nat) : ∃ m, (s.elapse dt).log = { s.log with mark := m } := by
  unfold State.elapse
  dsimp only
  split <;> split <;> exact ⟨_, rfl⟩

/-- The passing of time leaves what the log window shows. -/
theorem State.window_elapse (s : State) (dt : Nat) (q : Requester) : (s.elapse dt).window q = s.window q := by
  obtain ⟨m, hlog⟩ := s.elapse_log dt
  have hreader : (s.elapse dt).reader q = s.reader q := by simp only [State.reader, hlog]
  have hring : (s.elapse dt).ringOf q = s.ringOf q := by simp only [State.ringOf, hreader, hlog]
  have hnow : (s.elapse dt).readerNow q = s.readerNow q := by simp only [State.readerNow, hreader, hring]
  have hmay : (s.elapse dt).mayRead q = s.mayRead q := by
    funext r
    simp only [State.mayRead, State.cfg, State.sect, State.elapse_img]
  simp only [State.window, hnow, hring, hmay]

@[simp] theorem State.reader_setReader (s : State) (q : Requester) (r : LogReader) : (s.setReader q r).reader q = r :=
  tget_tset_same _ _ _ _

/-- A read of the window's last word moves the reader's cursor past the last record shown. -/
theorem windowLastRead_cursor {q : Requester} {s : State} {x : LogRec} (h : (s.window q).getLast? = some x) :
    ((windowLastRead q s).reader q).cursor = (x.seq + 1) % 2 ^ 32 := by
  unfold windowLastRead
  simp only [h]
  exact congrArg LogReader.cursor (State.reader_setReader s q _)

/-- A read of the window's last word takes nothing from either ring. -/
theorem windowLastRead_rings (q : Requester) (s : State) :
    (windowLastRead q s).log.dram = s.log.dram ∧ (windowLastRead q s).log.nvm = s.log.nvm := ⟨rfl, rfl⟩

/-! ### Binary inputs (R446) -/

/-- A read of an input's TS32 latches its SEC for the reader, in that input alone. -/
theorem binTs32Read_input (q : Requester) (i : Nat) (s : State) (k : Nat) :
    (binTs32Read q i s).input k =
      if k = i then { s.input i with secLatch := tset (s.input i).secLatch (readerId q) (s.input i).sec 0 }
      else s.input k := State.input_setInput s i k _

/-! ### Mailboxes (R418) -/

theorem State.mboxSeen_congr {s t : State} (h : t.hst = s.hst) (q : Requester) (m : Nat) :
    t.mboxSeen q m = s.mboxSeen q m := by
  unfold State.mboxSeen State.mboxOwner; rw [h]

/-- A read of a mailbox's state returns READY and the sequence number. -/
theorem mbxStateRead_readData {q : Requester} {m : Nat} {s : State} (h : s.mboxSeen q m = true) :
    (mbxStateRead q m s).readData = BitVec.ofNat 32 (b2n (s.mbox m).ready * 2 ^ 31 + (s.mbox m).seq) := by
  simp only [mbxStateRead, h, ↓reduceIte]

/-- A read of a mailbox's state latches the value for its reader, in that mailbox alone. -/
theorem mbxStateRead_mbox {q : Requester} {m : Nat} {s : State} (h : s.mboxSeen q m = true) (k : Nat) :
    (mbxStateRead q m s).mbox k =
      if k = m then { s.mbox m with latches := tset (s.mbox m).latches (readerId q) (s.mbox m).value 0 }
      else s.mbox k := by
  have hhst : (mbxStateRead q m s).hst =
      (s.setMbox m { s.mbox m with latches := tset (s.mbox m).latches (readerId q) (s.mbox m).value 0 }).hst := by
    simp only [mbxStateRead, h, ↓reduceIte]
  rw [State.mbox_congr hhst, State.mbox_setMbox]

/-- Settles O9: each read is one update of the part that it clears, latches or moves. -/
theorem latchingReadsComplete : Obligations.LatchingReadsComplete := by
  unfold Obligations.LatchingReadsComplete
  refine ⟨fun dt q a s hq hm ha hrc => ?_, fun dt q s => ⟨_, rfl, bcnTimeNsRead_latches q dt s⟩,
    fun dt v s hm hv hp => ?_, fun dt s => ?_, fun dt q g s => ?_, fun dt q i s => ?_, fun dt q x s hx => ?_,
    fun dt q m s hm => ?_⟩
  · have hok : (s.elapse dt).accessOk q = true := State.accessOk_of_not_vf hq (by rwa [State.elapse_glb])
    refine ⟨rcRead q a (s.elapse dt), ?_, ?_⟩
    · exact congrArg Host.Outcome.next (if_pos (by simp [hok, ha]))
    rw [rcRead_clears hq hrc]
    refine ⟨rfl, State.rd_wr_same _ _ _, fun b hb => ?_, ?_⟩
    · exact (State.rd_wr_ne _ _ hb).trans (State.rd_congr (State.elapse_regs s dt) b)
    · rw [← rcRead_clears hq hrc]
      exact (rcRead_fr (State.elapse_fr (Fr.refl s) (by decide)) (by decide)).ch
  · have hok : (s.elapse dt).accessOk (.vf v) = true :=
      State.accessOk_of_present (by rwa [State.elapse_glb]) hv (by rwa [State.present_congr (State.elapse_hst s dt)])
    exact ⟨_, congrArg Host.Outcome.next (if_pos hok), bcnTimeNsRead_latches (.vf v) dt s⟩
  · rw [← State.elapse_bcn s dt]
    exact ⟨_, rfl, rfl, rfl, rfl, (bcnRateLoRead_fr (State.elapse_fr (Fr.refl s) (by decide)) (by decide)).ch⟩
  · have hctr : (s.elapse dt).prfCtr g.val = s.prfCtr g.val := State.prfCtr_congr (State.elapse_prf s dt) _
    rw [← hctr, ← State.elapse_prf s dt]
    exact ⟨_, rfl, rfl, tget_tset_same _ _ _ _, rfl,
      (prfLoRead_fr (State.elapse_fr (Fr.refl s) (by decide)) (by decide)).ch⟩
  · have hin (k : Nat) : (s.elapse dt).input k = s.input k := State.input_congr (State.elapse_bin s dt) k
    rw [← hin i.val]
    refine ⟨_, rfl, rfl, ?_, fun k hk => ?_,
      (binTs32Read_fr (State.elapse_fr (Fr.refl s) (by decide)) (by decide)).ch⟩
    · rw [binTs32Read_input, if_pos rfl]
      exact tget_tset_same _ _ _ _
    · rw [binTs32Read_input, if_neg hk, hin]
  · obtain ⟨m, hlog⟩ := s.elapse_log dt
    obtain ⟨hdram, hnvm⟩ := windowLastRead_rings q (s.elapse dt)
    rw [hlog] at hdram hnvm
    exact ⟨_, rfl, windowLastRead_cursor (by rwa [State.window_elapse]), hdram, hnvm,
      (windowLastRead_fr (State.elapse_fr (Fr.refl s) (by decide)) (by decide)).ch⟩
  · have hbox (k : Nat) : (s.elapse dt).mbox k = s.mbox k := State.mbox_congr (State.elapse_hst s dt) k
    have hseen : (s.elapse dt).mboxSeen q m.val = true := by rwa [State.mboxSeen_congr (State.elapse_hst s dt)]
    rw [← hbox m.val]
    refine ⟨_, rfl, mbxStateRead_readData hseen, ?_, fun k hk => ?_,
      (mbxStateRead_fr (State.elapse_fr (Fr.refl s) (by decide)) (by decide)).ch⟩
    · rw [mbxStateRead_mbox hseen, if_pos rfl]
      exact tget_tset_same _ _ _ _
    · rw [mbxStateRead_mbox hseen, if_neg hk, hbox]

end Sys2Proof.Machine
end

section
/-!
SUPPORT. The beacon: what it sends (R89, R90), what it counts (R7), and how it marks seconds and captures (R102, R108,
R503).
-/

namespace Sys2Proof.Machine

open Sys2Proof

/-! ### What the beacon's settings are read from -/

@[simp] theorem State.tp_elapse (s : State) (dt : Nat) : (s.elapse dt).tp = s.tp := by
  simp only [State.tp, State.cfg, State.sect, State.elapse_img]

@[simp] theorem State.domOn_elapse (s : State) (dt d : Nat) : (s.elapse dt).domOn d = s.domOn d := by
  simp only [State.domOn, State.tp_elapse]

@[simp] theorem State.domProfile_elapse (s : State) (dt d : Nat) :
    (s.elapse dt).domProfile d = s.domProfile d := by
  simp only [State.domProfile, State.tp_elapse]

@[simp] theorem State.domMask_elapse (s : State) (dt d off : Nat) :
    (s.elapse dt).domMask d off = s.domMask d off := by
  simp only [State.domMask, State.tp_elapse]

@[simp] theorem State.masterPort_elapse (s : State) (dt d p : Nat) :
    (s.elapse dt).masterPort d p = s.masterPort d p := by
  simp only [State.masterPort, State.domOn_elapse, State.domMask_elapse]

theorem State.afterBoot_congr {s t : State} (h : t.glb = s.glb) : t.afterBoot = s.afterBoot := by
  unfold State.afterBoot; rw [h]

@[simp] theorem State.afterBoot_elapse (s : State) (dt : Nat) : (s.elapse dt).afterBoot = s.afterBoot :=
  State.afterBoot_congr (State.elapse_glb s dt)

/-! ### A happening of the beacon -/

theorem State.pairTrack_same (s : State) {u : Part} (h : u ∉ ([.pair] : List Part)) : u.same s s.pairTrack :=
  (State.pairTrack_fr (Fr.refl s) (List.Subset.refl _)).same h

@[simp] theorem State.pairTrack_out (s : State) : s.pairTrack.out = s.out := s.pairTrack_same (u := .out) (by decide)
@[simp] theorem State.pairTrack_bcn (s : State) : s.pairTrack.bcn = s.bcn := s.pairTrack_same (u := .bcn) (by decide)
@[simp] theorem State.rd_pairTrack (s : State) (a : Nat) : s.pairTrack.rd a = s.rd a :=
  State.rd_congr (s.pairTrack_same (u := .regs) (by decide)) a
@[simp] theorem State.port_pairTrack (s : State) (p : Nat) : s.pairTrack.port p = s.port p :=
  State.port_congr (s.pairTrack_same (u := .ports) (by decide)) p

/-- The beacon runs beside protection frames and no reference has newly diverged (R28, R96). -/
structure State.BeaconRuns (s : State) : Prop where
  boot : s.afterBoot = true
  frames : s.kpr.frames = true
  steady : s.bcn.newlyDiverged = false

theorem State.BeaconRuns.congr {s t : State} (h : s.BeaconRuns) (hglb : t.glb = s.glb) (hkpr : t.kpr = s.kpr)
    (hbcn : t.bcn = s.bcn) : t.BeaconRuns where
  boot := by rw [State.afterBoot_congr hglb]; exact h.boot
  frames := by rw [hkpr]; exact h.frames
  steady := by rw [hbcn]; exact h.steady

theorem State.BeaconRuns.elapse {s : State} (h : s.BeaconRuns) (dt : Nat) : (s.elapse dt).BeaconRuns :=
  h.congr (State.elapse_glb s dt) (State.elapse_kpr s dt) (State.elapse_bcn s dt)

/-- Nothing but the pair's tracking follows a happening that leaves the beacon so (R93, R96). -/
theorem State.bcnRun_tracks {s : State} {f : State → State} (h : s.BeaconRuns) (hf : (f s).BeaconRuns) :
    s.bcnRun f = (f s).pairTrack := by
  have hafter : (f s).bcnAfter = f s := by
    unfold State.bcnAfter State.stepIfIdle
    simp only [hf.frames, hf.steady, Bool.false_eq_true, ↓reduceIte]
  unfold State.bcnRun State.portsRun
  rw [if_pos h.boot, hafter]

/-! ### Messages sent -/

/-- A port sends one PTP message, with the next sequence number of its kind and the time of its sending (log entry
44). -/
def PtpSent (d p kind cls dt : Nat) (s t : State) : Prop :=
  t.out = s.out ++ [.ptp d p kind cls (tget s.bcn.txSeq (8 * p + kind) 0) (s.elapse dt).now] ∧
    Changes [.out, .bcn, .time, .log] s t

theorem State.sendPtp_sent (s : State) (dt d p kind cls : Nat) :
    PtpSent d p kind cls dt s ((s.elapse dt).sendPtp d p kind cls) := by
  refine ⟨?_, (State.sendPtp_fr (State.elapse_fr (Fr.refl s) (by decide)) (by decide)).ch⟩
  rw [← State.elapse_out s dt, ← State.elapse_bcn s dt]
  rfl

/-- A master port sends a Sync with the class of the beacon's state unless IRIG-B is selected (R90). -/
theorem ptpSyncTx_sends {d p c : Nat} {s : State} (hboot : s.afterBoot = true) (hport : s.masterPort d p = true)
    (hcls : s.announceClass = some c) (hsel : s.bcn.selected ≠ 2) : ptpSyncTx d p s = s.sendPtp d p 0 c := by
  unfold ptpSyncTx State.portsRun
  rw [if_pos (by simp [hboot, hport, hcls, hsel]), hcls, Option.getD_some]

/-- A master port sends an Announce with the class of the beacon's state (R90). -/
theorem ptpAnnounceTx_sends {d p c : Nat} {s : State} (hboot : s.afterBoot = true) (hport : s.masterPort d p = true)
    (hcls : s.announceClass = some c) : ptpAnnounceTx d p s = s.sendPtp d p 1 c := by
  unfold ptpAnnounceTx State.portsRun
  simp only [hcls, hboot, hport, Bool.and_self, ↓reduceIte]

/-- A slave port sends the delay request of its profile's mechanism (R89). -/
theorem ptpDelayReqTx_sends {d p : Nat} {s : State} (hboot : s.afterBoot = true) (hon : s.domOn d = true)
    (hslave : inMask (s.domMask d 4) p = true) :
    ptpDelayReqTx d p s = s.sendPtp d p (if peerDelay (s.domProfile d) then 2 else 5) 0 := by
  unfold ptpDelayReqTx State.portsRun
  exact if_pos (by simp [hboot, hon, hslave])

/-! ### Delay messages received (R89) -/

/-- The port has taken one received PTP message from those that wait. -/
def State.rxTaken (s : State) (p : Nat) : State := s.setPort p { s.port p with rxPtp := (s.port p).rxPtp - 1 }

/-- A peer-delay request on a profile of that mechanism is answered. -/
theorem bcnRun_delayRequest {d p : Nat} {delay : Int} {s : State} (h : s.BeaconRuns) (hon : s.domOn d = true)
    (hpeer : peerDelay (s.domProfile d) = true) :
    s.bcnRun (ptpDelayMsg d p 0 delay) = ((s.rxTaken p).sendPtp d p 3 0).pairTrack := by
  have hrun : ((s.rxTaken p).portsRun && (s.rxTaken p).domOn d) = true := Bool.and_eq_true_iff.mpr ⟨h.boot, hon⟩
  have hmsg : ptpDelayMsg d p 0 delay s = (s.rxTaken p).sendPtp d p 3 0 := (if_pos hrun).trans (if_pos hpeer)
  rw [State.bcnRun_tracks h (by rw [hmsg]; exact ⟨h.boot, h.frames, h.steady⟩), hmsg]

/-- A response gives the port its link delay. -/
theorem bcnRun_delayResponse {d p : Nat} {delay : Int} {s : State} (h : s.BeaconRuns) (hon : s.domOn d = true) :
    s.bcnRun (ptpDelayMsg d p 2 delay) =
      ((s.rxTaken p).setPort p { (s.rxTaken p).port p with linkDelay := delay }).pairTrack := by
  have hrun : ((s.rxTaken p).portsRun && (s.rxTaken p).domOn d) = true := Bool.and_eq_true_iff.mpr ⟨h.boot, hon⟩
  have hmsg : ptpDelayMsg d p 2 delay s =
      (s.rxTaken p).setPort p { (s.rxTaken p).port p with linkDelay := delay } := if_pos hrun
  rw [State.bcnRun_tracks h (by rw [hmsg]; exact ⟨h.boot, h.frames, h.steady⟩), hmsg]

/-- An unsupported message counts in counter 41 of its port (R7). -/
theorem bcnRun_unsupported {p : Nat} {s : State} (h : s.BeaconRuns) :
    s.bcnRun (ptpOther p true) = (s.stat p 41 1).pairTrack :=
  State.bcnRun_tracks h (f := ptpOther p true)
    (h.congr (State.stat_glb s p 41 1) (State.stat_kpr s p 41 1) (State.stat_bcn s p 41 1))

/-! ### Statistics counters (R120) -/

theorem evLoc_statHalf : ∀ p < 32, (evLoc (129 + 4 * p)).map (·.1) = some (0x100018 + 0x1000 * p) := by decide

/-- A statistics counter counts; what its half-way mark raises lies in other registers (R121). -/
theorem State.rd_stat (s : State) (p n by_ : Nat) :
    (s.stat p n by_).rd (macBase p + 0x400 + 4 * n) = s.rd (macBase p + 0x400 + 4 * n) + BitVec.ofNat 32 by_ := by
  have hcount : (s.wrapBy (macBase p + 0x400 + 4 * n) by_).rd (macBase p + 0x400 + 4 * n) =
      s.rd (macBase p + 0x400 + 4 * n) + BitVec.ofNat 32 by_ := State.rd_wr_same _ _ _
  unfold State.stat
  change State.rd (if _ then _ else s.wrapBy (macBase p + 0x400 + 4 * n) by_) _ = _
  split
  · dsimp only
    split
    · rename_i hp
      rw [State.rd_setEvent_ne _ (evLoc_ne (evLoc_statHalf p hp) (by unfold macBase; omega)) (by unfold macBase; omega),
        State.rd_wr_ne _ _ (by unfold macBase; omega)]
      exact hcount
    · rw [State.rd_wr_ne _ _ (by unfold macBase; omega), State.rd_wr_ne _ _ (by unfold macBase; omega)]
      exact hcount
  · exact hcount

/-! ### The second boundary (R501, R503) -/

/-- A binary input at the start of a second: its changes are counted anew. -/
def BinIn.newSecond (b : BinIn) : BinIn :=
  { b with inSecond := 0, chatter := b.chatter && !decide (b.inSecond ≤ 5) }

theorem State.inputsSecond_eq (s : State) :
    s.inputsSecond = forN 16 (fun i s => s.setInput i (s.input i).newSecond) s := rfl

theorem forN_succ (n : Nat) (f : Nat → State → State) (s : State) : forN (n + 1) f s = f n (forN n f s) := by
  unfold forN
  rw [List.range_succ, List.foldl_append, List.foldl_cons, List.foldl_nil]

theorem State.inSecond_forN (n : Nat) (s : State) :
    ∀ i < n, ((forN n (fun i s => s.setInput i (s.input i).newSecond) s).input i).inSecond = 0 := by
  induction n with
  | zero => intro i hi; omega
  | succ n ih =>
    intro i hi
    rw [forN_succ, State.input_setInput]
    split
    · rfl
    · exact ih i (by omega)

/-- Station time sets the backup counter while the beacon keeps time (R503). -/
theorem State.setBackup_backup {s : State}
    (h : s.bcn.state = .locked ∨ s.bcn.state = .converging ∨ s.bcn.state = .holdover) :
    s.setBackup.time.backup = s.time.station := by
  unfold State.setBackup
  obtain h | h | h := h <;> simp only [h]

/-- A second boundary outside DORMANT starts the windows anew and sets the backup counter. -/
theorem secondBoundary_marks {s : State} (hm : s.glb.mode ≠ .dormant) :
    (secondBoundary s).once = [] ∧ (∀ i < 16, ((secondBoundary s).input i).inSecond = 0) ∧
      (s.bcn.state = .locked ∨ s.bcn.state = .converging ∨ s.bcn.state = .holdover →
        (secondBoundary s).time.backup = s.time.station) := by
  have heq : secondBoundary s = ({ s with once := [] }).setBackup.inputsSecond := if_neg hm
  have hback : Fr [.time] _ ({ s with once := [] }).setBackup := State.setBackup_fr (Fr.refl _) (by decide)
  have hin : Fr [.bin] _ ({ s with once := [] }).setBackup.inputsSecond := State.inputsSecond_fr (Fr.refl _) (by decide)
  rw [heq]
  refine ⟨?_, State.inSecond_forN 16 _, fun hkeep => ?_⟩
  · exact (hin.same (p := .once) (by decide)).trans (hback.same (p := .once) (by decide))
  · exact (congrArg TimeBase.backup (hin.same (p := .time) (by decide))).trans
      (State.setBackup_backup (s := { s with once := [] }) hkeep)

/-! ### 1PPS and captures (R102, R108) -/

/-- 1PPS rises once station time has been stepped, at least half a second after it last rose (R102). -/
theorem ppsRise_rises {s : State} (hstep : s.time.stepped = true) (hboot : s.afterBoot = true)
    (hlast : s.bcn.ppsLast = none ∨ ∃ u, s.bcn.ppsLast = some u ∧ u + 500 * msUnit ≤ s.time.mono) :
    ppsRise s = ({ s with bcn := { s.bcn with pps := true, ppsLast := some s.time.mono } }).emit (.pps true) := by
  unfold ppsRise
  obtain hnone | ⟨u, hsome, hle⟩ := hlast
  · simp only [hnone, hstep, hboot, Bool.not_false, Bool.and_self, ↓reduceIte]
  · simp only [hsome, hstep, hboot, decide_eq_false (Nat.not_lt.mpr hle), Bool.not_false, Bool.and_self, ↓reduceIte]

/-- An armed capture of its source holds station time and raises its event (R108). -/
theorem tsCaptured_holds {src : Nat} {s : State} (harm : s.bcn.tsArm = true) (hsrc : src = s.bcn.tsCtrl.toNat)
    (h0 : src ≠ 0) :
    tsCaptured src s =
      ({ s with bcn := { s.bcn with
        tsArm := false, tsDone := true, capNs := nsOf s.now, capSec := secOf s.now, capFrac := fracOf s.now } }).setEvent
        78 := by
  unfold tsCaptured
  exact if_pos (by simp [harm, ← hsrc, h0])

/-- Settles O36: each row comes to the one operation of the beacon that it names, and only the pair's tracking follows a
message received while frames run. -/
theorem beaconSendsAndMarksTime : Obligations.BeaconSendsAndMarksTime := by
  unfold Obligations.BeaconSendsAndMarksTime
  refine ⟨fun dt d p delay s hboot hframes hdiv hon => ?_, fun dt p s hboot hframes hdiv => ?_,
    fun dt d p c s hboot hport hcls => ?_, fun dt d p s hboot hon hslave => ?_, fun dt src s => ?_⟩
  · have hruns := State.BeaconRuns.elapse ⟨hboot, hframes, hdiv⟩ dt
    rw [← State.domOn_elapse s dt] at hon
    refine ⟨fun hpeer => ⟨_, congrArg Host.Outcome.next (bcnRun_delayRequest hruns hon ?_), ?_, ?_, ?_⟩,
      _, congrArg Host.Outcome.next (bcnRun_delayResponse hruns hon), ?_, fun q hq => ?_, ?_⟩
    · rwa [State.domProfile_elapse]
    · rw [State.pairTrack_out, ← State.elapse_out s dt, ← State.elapse_bcn s dt]
      rfl
    · rw [State.pairTrack_bcn, ← State.elapse_bcn s dt]
      exact tget_tset_same _ _ _ _
    · exact (State.pairTrack_fr (State.sendPtp_fr (State.setPort_fr (State.elapse_fr (Fr.refl s) (by decide))
        (by decide)) (by decide)) (by decide)).ch
    · rw [State.port_pairTrack, State.port_setPort, if_pos rfl]
    · rw [State.port_pairTrack, State.port_setPort, if_neg hq, State.rxTaken, State.port_setPort, if_neg hq]
      exact State.port_congr (State.elapse_ports s dt) q
    · exact (State.pairTrack_fr (State.setPort_fr (State.setPort_fr (State.elapse_fr (Fr.refl s) (by decide))
        (by decide)) (by decide)) (by decide)).ch
  · have hruns := State.BeaconRuns.elapse ⟨hboot, hframes, hdiv⟩ dt
    refine ⟨⟨_, congrArg Host.Outcome.next (bcnRun_unsupported hruns), ?_, ?_⟩,
      _, congrArg Host.Outcome.next (State.bcnRun_tracks (f := ptpOther p.val false) hruns hruns), ?_⟩
    · rw [State.rd_pairTrack, ← State.rd_congr (State.elapse_regs s dt)]
      exact State.rd_stat (s.elapse dt) p.val 41 1
    · exact (State.pairTrack_fr (State.stat_fr (State.elapse_fr (Fr.refl s) (by decide)) (by decide)) (by decide)).ch
    · exact (State.pairTrack_fr (State.elapse_fr (Fr.refl s) (by decide)) (by decide)).ch
  · rw [← State.afterBoot_elapse s dt] at hboot
    rw [← State.masterPort_elapse s dt] at hport
    refine ⟨fun hsel => ⟨_, congrArg Host.Outcome.next (ptpSyncTx_sends hboot hport hcls ?_), ?_⟩,
      _, congrArg Host.Outcome.next (ptpAnnounceTx_sends hboot hport hcls), ?_⟩
    · rwa [State.elapse_bcn]
    · exact State.sendPtp_sent s dt d.val p.val 0 c
    · exact State.sendPtp_sent s dt d.val p.val 1 c
  · rw [← State.afterBoot_elapse s dt] at hboot
    rw [← State.domOn_elapse s dt] at hon
    rw [← State.domMask_elapse s dt] at hslave
    obtain ⟨hout, hch⟩ := State.sendPtp_sent s dt d.val p.val (if peerDelay (s.domProfile d.val) then 2 else 5) 0
    rw [← State.domProfile_elapse s dt] at hout hch ⊢
    exact ⟨_, congrArg Host.Outcome.next (ptpDelayReqTx_sends hboot hon hslave), ⟨_, rfl, hout⟩, hch⟩
  · rw [← State.elapse_bcn s dt]
    refine ⟨fun hm => ?_, fun hstep hboot hlast => ?_, fun hpps => ?_, fun harm hsrc h0 => ?_⟩
    · rw [← State.elapse_glb s dt] at hm
      obtain ⟨honce, hinputs, hbackup⟩ := secondBoundary_marks hm
      exact ⟨_, rfl, honce, hinputs, hbackup,
        (secondBoundary_fr (State.elapse_fr (Fr.refl s) (by decide)) (by decide)).ch⟩
    · rw [← State.elapse_stepped s dt] at hstep
      rw [← State.afterBoot_elapse s dt] at hboot
      have hrise := ppsRise_rises hstep hboot hlast
      refine ⟨_, rfl, congrArg State.bcn hrise, ?_,
        (ppsRise_fr (State.elapse_fr (Fr.refl s) (by decide)) (by decide)).ch⟩
      rw [← State.elapse_out s dt]
      exact congrArg State.out hrise
    · have hfall : ppsFall (s.elapse dt) = _ := if_pos hpps
      refine ⟨_, rfl, congrArg State.bcn hfall, ?_,
        (ppsFall_fr (State.elapse_fr (Fr.refl s) (by decide)) (by decide)).ch⟩
      rw [← State.elapse_out s dt]
      exact congrArg State.out hfall
    · have hhold := tsCaptured_holds harm hsrc h0
      refine ⟨_, rfl, (congrArg State.bcn hhold).trans (State.setEvent_bcn _ 78), ?_,
        (tsCaptured_fr (State.elapse_fr (Fr.refl s) (by decide)) (by decide)).ch⟩
      rw [hhold]
      exact State.evSet_setEvent _ rfl

end Sys2Proof.Machine
end

section
/-!
SUPPORT. Transitions to BOOT and STANDBY, which leave frame execution, the sample plane, the image and the lamp room
alone, and the ways into BOOT (R26, R32, R44, R45, R54).
-/

namespace Sys2Proof.Machine

open Sys2Proof

/-! ### Transitions in which frames run on -/

/-- The parts that a transition to BOOT or STANDBY may change, where the module does not come from TEST. -/
def calmParts : List Part := [.out, .regs, .cmds, .glb, .log, .evt, .bcn, .cdv, .pub, .pair]

/-- A transition that leaves what frame execution, the sample plane and the image hold. -/
structure CalmMode (old m : Mode) : Prop where
  fromTest : old ≠ .test
  into : m = .boot ∨ m = .standby

theorem CalmMode.ne {old m : Mode} (h : CalmMode old m) :
    m ≠ .test ∧ m ≠ .maintenance ∧ m ≠ .degraded ∧ m ≠ .dormant ∧ m ≠ .active ∧ m ≠ .commission := by
  obtain ⟨-, rfl | rfl⟩ := h <;> decide

/-- In such a transition ACTIVE is left, a STEP that waits is dropped and the pair unit follows. -/
theorem State.modeEffects_calm {old m : Mode} (h : CalmMode old m) (s : State) :
    ∃ t, (t = s ∨ t = s.leaveActive) ∧
      (s.modeEffects old m = t.pairTrack ∨ s.modeEffects old m = t.stepDrop.pairTrack) := by
  obtain ⟨htest, hmaint, hdegr, hdorm, hact, hcomm⟩ := h.ne
  unfold State.modeEffects
  extract_lets s1 s2 s3 s4 s5 s6 s7 s8
  have h2 : s2 = s1 := if_neg h.fromTest
  have h3 : s3 = s2 := if_neg fun hc => h.fromTest hc.1
  have h4 : s4 = s3 := if_neg fun hc => hc.elim h.fromTest htest
  have h6 : s6 = s5 := if_neg fun hc => hc.elim hmaint hdegr
  have h7 : s7 = s6 := if_neg fun hc => hc.elim hdorm fun hd => hdegr hd.1
  have h8 : s8 = s7 := if_neg hact
  rw [if_neg hcomm, h8, h7, h6]
  refine ⟨s1, ?_, ?_⟩
  · unfold s1
    split
    · exact .inr rfl
    · exact .inl rfl
  · unfold s5
    rw [h4, h3, h2]
    split
    · exact .inl rfl
    · exact .inr rfl

theorem State.modeEffects_calm_fr {old m : Mode} (h : CalmMode old m) {z s : State} (hz : Fr calmParts z s) :
    Fr calmParts z (s.modeEffects old m) := by
  obtain ⟨t, ht, heq⟩ := s.modeEffects_calm h
  have htf : Fr calmParts z t := by
    obtain rfl | rfl := ht
    · exact hz
    · exact State.leaveActive_fr hz (by decide)
  obtain heq | heq := heq
  · rw [heq]
    exact State.pairTrack_fr htf (by decide)
  · rw [heq]
    exact State.pairTrack_fr (State.stepDrop_fr htf (by decide)) (by decide)

/-- A mode with its record and event, before what the blocks do (R54, R56, R389). -/
def State.modeShown (s : State) (m : Mode) (cause : Nat) : State :=
  (({ s.glbOvertaken with
      glb := { s.glbOvertaken.glb with
        mode := m, prev := s.glb.mode, lastCause := cause, changes := (s.glbOvertaken.glb.changes + 1) % 65536,
        inTransition := false, since := s.glbOvertaken.time.mono } }).logPut 0x0002 0 0x3FF (modeNum m)
    (modeNum s.glb.mode) cause).raiseGlb 0

theorem State.setMode_shown (s : State) {m : Mode} (cause : Nat) (h : s.glb.mode ≠ m) :
    s.setMode m cause = (s.modeShown m cause).modeEffects s.glb.mode m := by
  unfold State.setMode
  exact if_neg h

theorem State.modeShown_fr {z s : State} (m : Mode) (cause : Nat) (hz : Fr [.regs, .cmds, .glb, .log, .evt] z s) :
    Fr [.regs, .cmds, .glb, .log, .evt] z (s.modeShown m cause) :=
  State.raiseGlb_fr (State.logPut_fr (Fr.upd (State.glbOvertaken_fr hz (by decide)) (c7 := .inl (by decide)))
    (by decide)) (by decide)

theorem Fr.mono {l m : List Part} {s t : State} (h : Fr l s t) (hl : l ⊆ m) : Fr m s t := ⟨h.ch.mono hl, h.keep⟩

theorem State.setMode_calm_fr {s : State} {m : Mode} (cause : Nat) (h : CalmMode s.glb.mode m) :
    Fr calmParts s (s.setMode m cause) := by
  by_cases hm : s.glb.mode = m
  · unfold State.setMode
    rw [if_pos hm]
    exact Fr.refl s
  · rw [State.setMode_shown s cause hm]
    exact State.modeEffects_calm_fr h ((State.modeShown_fr m cause (Fr.refl s)).mono (by decide))

/-! ### BOOT starts (R26, R42, R54) -/

/-- What BOOT starts with: the mode and its cause, stage 1, no transition counted, the causes of the wake, no time set,
and what the flash, the settings NVM and the lamp room keep. -/
structure Booted (bits : Word) (cause : Nat) (s t : State) : Prop where
  entered : Entered .boot cause s t
  stage : t.glb.bootStage = 1
  changes : t.glb.changes = 0
  wake : t.glb.wakeCause = bits ||| putB s.pwr.tamperDormant 4
  unset : t.time.stepped = false
  nvm : t.img.nvm = s.img.nvm
  bank0 : t.img.bank0 = s.img.bank0
  bank1 : t.img.bank1 = s.img.bank1
  minGen : t.img.minGen = s.img.minGen
  lmp : t.lmp = s.lmp.kept

/-- BOOT starts alike from a state with the same global block, image, lamp room and tamper of DORMANT. -/
theorem Booted.congr {bits : Word} {cause : Nat} {s r t : State} (h : Booted bits cause s t) (hglb : s.glb = r.glb)
    (himg : s.img = r.img) (hlmp : s.lmp = r.lmp) (htamper : s.pwr.tamperDormant = r.pwr.tamperDormant) :
    Booted bits cause r t where
  entered := ⟨h.entered.mode, h.entered.prev.trans (congrArg GlbUnit.mode hglb), h.entered.cause⟩
  stage := h.stage
  changes := h.changes
  wake := htamper ▸ h.wake
  unset := h.unset
  nvm := himg ▸ h.nvm
  bank0 := himg ▸ h.bank0
  bank1 := himg ▸ h.bank1
  minGen := himg ▸ h.minGen
  lmp := hlmp ▸ h.lmp

theorem Booted.of_elapse {bits : Word} {cause dt : Nat} {s t : State} (h : Booted bits cause (s.elapse dt) t) :
    Booted bits cause s t :=
  h.congr (State.elapse_glb s dt) (State.elapse_img s dt) (State.elapse_lmp s dt)
    (congrArg PwrUnit.tamperDormant (State.elapse_pwr s dt))

/-- The cause set aside is no part of what BOOT starts with (R35). -/
theorem Booted.setAside {bits : Word} {cause : Nat} {s t : State} (h : Booted bits cause s t) (l : List Nat) :
    Booted bits cause s { t with glb := { t.glb with setAside := l } } :=
  { h with entered := ⟨h.entered.mode, h.entered.prev, h.entered.cause⟩ }

/-- A module reset, and the transition to BOOT after it (R26, R32). -/
theorem State.bootStart_booted (s : State) (bits : Word) (cause : Nat) (hm : s.glb.mode ≠ .boot)
    (ht : s.glb.mode ≠ .test) : Booted bits cause s (s.bootStart bits cause) := by
  have hglb := State.setMode_glb s.moduleReset (m := .boot) cause hm
  have hfr : Fr calmParts s.moduleReset (s.moduleReset.setMode .boot cause) :=
    State.setMode_calm_fr cause ⟨ht, .inl rfl⟩
  have htime : (s.bootStart bits cause).time = s.moduleReset.time := hfr.same (p := .time) (by decide)
  have himg : (s.bootStart bits cause).img = s.moduleReset.img := hfr.same (p := .img) (by decide)
  exact {
    entered := ⟨congrArg GlbUnit.mode hglb, congrArg GlbUnit.prev hglb, congrArg GlbUnit.lastCause hglb⟩
    stage := rfl
    changes := rfl
    wake := rfl
    unset := by rw [htime]; rfl
    nvm := by rw [himg]; rfl
    bank0 := by rw [himg]; rfl
    bank1 := by rw [himg]; rfl
    minGen := by rw [himg]; rfl
    lmp := hfr.same (p := .lmp) (by decide) }

/-- The reset leaves the wake logic of the always-on domain as it is (R26). -/
theorem State.bootStart_wakeLogic (s : State) (bits : Word) (cause : Nat) (ht : s.glb.mode ≠ .test) :
    (s.bootStart bits cause).pwr.preFail = s.pwr.preFail ∧ (s.bootStart bits cause).pwr.waitPre = s.pwr.waitPre := by
  have hpwr : (s.bootStart bits cause).pwr = s.moduleReset.pwr :=
    (State.setMode_calm_fr (s := s.moduleReset) cause ⟨ht, .inl rfl⟩).same (p := .pwr) (by decide)
  rw [hpwr]
  exact ⟨rfl, rfl⟩

/-! ### A cause that no other sets aside (R35) -/

/-- A cause that no higher cause of its clock sets aside acts; a change of the mode is noted for those after it. -/
theorem State.cause_acts {s : State} {rank : Nat} (code : Nat) (act : State → State) (h : s.asideNow rank = none) :
    s.cause rank code act = act s ∨ s.cause rank code act =
      { act s with glb := { (act s).glb with setAside := [s.time.mono, rank, code] } } := by
  unfold State.cause
  rw [h]
  dsimp only
  split
  · exact .inl rfl
  · exact .inr rfl

/-- A command of the global block that passes its checks acts, where no higher cause sets it aside (R35, R41). -/
theorem State.glbRun_acts {s : State} {argOk stateOk : Bool} (code arg : Nat) (act : State → State)
    (hr : s.Ready glbCmdReg) (hfirst : s.asideNow 6 = none) (ha : argOk = true) (hs : stateOk = true) :
    s.glbRun code 0 arg argOk stateOk act =
      act (s.setCmd glbCmdReg { code := code, pending := true, status := 1, runCode := code, runArg := arg }) := by
  unfold State.glbRun
  rw [hfirst]
  exact State.runCmd_run hr rfl ha hs

/-! ### The ways into BOOT -/

/-- The wake logic as a wake leaves it (R45). -/
def State.wakeTaken (s : State) : State :=
  { s with pwr := { s.pwr with waitPre := false, wakeBits := 0, preFail := false, retries := 0 } }

theorem State.wake_eq (s : State) :
    s.wake = s.wakeTaken.bootStart (s.pwr.wakeBits ||| putB s.pwr.preFail 5)
      (if s.pwr.wakeBits.getLsbD 1 then 1 else 2) := rfl

/-- A wake starts BOOT with the causes that were noted, a failed precharge among them (R45, R54). -/
theorem State.wake_booted {s : State} (hm : s.glb.mode = .dormant) :
    Booted (s.pwr.wakeBits ||| putB s.pwr.preFail 5) (if s.pwr.wakeBits.getLsbD 1 then 1 else 2) s s.wake ∧
      s.wake.pwr.preFail = false ∧ s.wake.pwr.waitPre = false := by
  have hboot : s.wakeTaken.glb.mode ≠ .boot := fun h => nomatch hm.symm.trans h
  have htest : s.wakeTaken.glb.mode ≠ .test := fun h => nomatch hm.symm.trans h
  rw [s.wake_eq]
  exact ⟨(s.wakeTaken.bootStart_booted _ _ hboot htest).congr rfl rfl rfl rfl,
    s.wakeTaken.bootStart_wakeLogic _ _ htest⟩

/-- Precharge that completes and a retry that finds it complete wake the module (R44, R45). -/
theorem exec_precharge_wakes {dt : Nat} {s : State} (hm : s.glb.mode = .dormant)
    (h : s.pwr.waitPre = true ∨ (s.pwr.preFail = true ∧ s.pwr.retryStopped = false ∧ s.glb.latchClosed = true ∧
      s.pwr.supply = true)) :
    exec (if s.pwr.waitPre = true then .prechargeComplete dt else .prechargeRetry dt true) s =
      .next (s.elapse dt).wake := by
  rw [← State.elapse_glb s dt] at hm h
  rw [← State.elapse_pwr s dt] at h ⊢
  split
  · next hwait => exact congrArg Host.Outcome.next (if_pos ⟨hm, hwait⟩)
  · next hwait =>
    exact congrArg Host.Outcome.next (if_pos ⟨hm, Bool.eq_false_iff.mpr hwait, h.resolve_left hwait⟩)

/-- RESTART and EXIT_MAINTENANCE start BOOT by command, where no higher cause sets them aside (R32, R504). -/
theorem State.cause_restart_booted {s : State} (hfirst : s.asideNow 6 = none) (hm : s.glb.mode ≠ .boot)
    (ht : s.glb.mode ≠ .test) : Booted 8 9 s (s.cause 6 9 State.restart) := by
  have hboot : Booted 8 9 s s.restart := s.bootStart_booted 8 9 hm ht
  obtain heq | heq := State.cause_acts 9 State.restart hfirst
  · rw [heq]; exact hboot
  · rw [heq]; exact hboot.setAside _

/-- A command of the global block that restarts the module in its state starts BOOT (R41). -/
theorem State.glbRun_restart_booted {s : State} {stateOk : Bool} (dt code : Nat) (hready : s.Ready glbCmdReg)
    (hfirst : s.FirstCause 6 dt) (hs : stateOk = true) (hm : s.glb.mode ≠ .boot) (ht : s.glb.mode ≠ .test) :
    Booted 8 9 s ((s.elapse dt).glbRun code 0 0 true stateOk fun u => u.cause 6 9 State.restart) := by
  rw [State.glbRun_acts code 0 _ (hready.elapse dt) hfirst rfl hs]
  rw [← State.elapse_glb s dt] at hm ht
  have hcmd := State.cause_restart_booted (s := (s.elapse dt).setCmd glbCmdReg
    { code := code, pending := true, status := 1, runCode := code, runArg := 0 }) hfirst hm ht
  exact (hcmd.congr (r := s.elapse dt) rfl rfl rfl rfl).of_elapse

/-- Settles O14: every way into BOOT comes to a module reset and the transition after it, which leaves the image, the
lamp room, the wake logic and the time as the reset left them. -/
theorem waysIntoBoot : Obligations.WaysIntoBoot := by
  unfold Obligations.WaysIntoBoot
  refine ⟨fun dt s hm hgo => ⟨_, exec_precharge_wakes hm hgo, ?_⟩, fun dt s c hready hfirst hleave hc => ?_⟩
  · rw [← State.elapse_glb s dt] at hm
    rw [← State.elapse_pwr s dt]
    obtain ⟨hboot, hfail, hwait⟩ := State.wake_booted hm
    have h := hboot.of_elapse
    exact ⟨h.entered, h.stage, h.changes, hboot.wake, hfail, hwait, h.unset, h.nvm, h.bank0, h.bank1, h.minGen, h.lmp⟩
  · have hboots : Answers c s (Booted 8 9 s) := by
      obtain ⟨rfl, hm⟩ | ⟨rfl, hm, hload⟩ := hc
      · refine ⟨_, rfl, State.glbRun_restart_booted dt 8 hready hfirst ?_ ?_ ?_⟩ <;>
          obtain hm | hm := hm <;> simp [hm, hleave]
      · refine ⟨_, rfl, State.glbRun_restart_booted dt 4 hready hfirst ?_ ?_ ?_⟩ <;> simp [hm, hload, hleave]
    obtain ⟨t, hexec, h⟩ := hboots
    exact ⟨t, hexec, h.entered, h.stage, h.changes, h.wake, h.unset, h.nvm, h.bank0, h.bank1, h.minGen, h.lmp⟩

end Sys2Proof.Machine
end

section
/-!
SUPPORT. What stands after the decisions of a frame are frozen: no transition, fault, exchange or digest of the commit
changes the committed vector or the number of the committed frame, or opens a frame (R27, R230, R284).
-/

namespace Sys2Proof.Machine

open Sys2Proof

/-- The committed decisions and the number of the latest commit stand, no frame opens and no item of an alignment comes
to wait. -/
structure CommitStands (s t : State) : Prop where
  committed : t.pln.committed = s.pln.committed
  lastCommit : t.pair.lastCommit = s.pair.lastCommit
  items : s.pair.items = [] → t.pair.items = []
  closed : s.kpr.open_ = false → t.kpr.open_ = false

namespace CommitStands

theorem refl (s : State) : CommitStands s s := ⟨rfl, rfl, id, id⟩

theorem trans {s t u : State} (h : CommitStands s t) (k : CommitStands t u) : CommitStands s u :=
  ⟨k.committed.trans h.committed, k.lastCommit.trans h.lastCommit, fun hi => k.items (h.items hi),
   fun hc => k.closed (h.closed hc)⟩

theorem after {s t u : State} (k : CommitStands t u) (h : CommitStands s t) : CommitStands s u := h.trans k

theorem ite {s a b : State} {c : Prop} [Decidable c] (ha : CommitStands s a) (hb : CommitStands s b) :
    CommitStands s (if c then a else b) := by split <;> assumption

theorem foldl {α : Type} {f : State → α → State} (hf : ∀ s x, CommitStands s (f s x)) (xs : List α) (s : State) :
    CommitStands s (xs.foldl f s) := by
  induction xs generalizing s with
  | nil => exact refl s
  | cons x xs ih => exact (hf s x).trans (ih _)

/-- The keepers and the decisions of an operation that leaves the pair unit. -/
theorem of_pair {l : List Part} {s t : State} (h : Fr l s t) (hp : .pair ∉ l) (hc : t.pln.committed = s.pln.committed)
    (ho : s.kpr.open_ = false → t.kpr.open_ = false) : CommitStands s t where
  committed := hc
  lastCommit := congrArg PairUnit.lastCommit (h.same (p := .pair) hp)
  items := fun hi => (congrArg PairUnit.items (h.same (p := .pair) hp)).trans hi
  closed := ho

/-- An operation that leaves the sample plane, the keepers and the pair unit. -/
theorem of_fr {l : List Part} {s t : State} (h : Fr l s t)
    (hl : .pln ∉ l ∧ .kpr ∉ l ∧ .pair ∉ l := by decide) : CommitStands s t :=
  of_pair h hl.2.2 (congrArg PlnUnit.committed (h.same (p := .pln) hl.1))
    fun ho => (congrArg KprUnit.open_ (h.same (p := .kpr) hl.2.1)).trans ho

/-- An operation that changes the keepers, but not the sample plane or the pair unit. -/
theorem of_kpr {l : List Part} {s t : State} (h : Fr l s t) (ho : s.kpr.open_ = false → t.kpr.open_ = false)
    (hl : .pln ∉ l ∧ .pair ∉ l := by decide) : CommitStands s t :=
  of_pair h hl.2 (congrArg PlnUnit.committed (h.same (p := .pln) hl.1)) ho

end CommitStands

/-! ### Commands and events -/

theorem State.emit_stands (s : State) (m : OutMsg) : CommitStands s (s.emit m) := ⟨rfl, rfl, id, id⟩

theorem State.cmdDone_stands (s : State) (r : Nat) : CommitStands s (s.cmdDone r) :=
  .of_fr (State.cmdDone_fr (Fr.refl s) (List.Subset.refl _))

theorem State.cmdEndRefused_stands (s : State) (r : Nat) : CommitStands s (s.cmdEndRefused r) :=
  .of_fr (State.cmdEndRefused_fr (Fr.refl s) (List.Subset.refl _))

theorem State.raiseRec_stands (s : State) (src inst : Nat) : CommitStands s (s.raiseRec src inst) :=
  .of_fr (State.raiseRec_fr (Fr.refl s) (List.Subset.refl _))

/-! ### The sample plane -/

theorem State.plnPut_stands (s : State) (a : Nat) (b : List Byte) : CommitStands s (s.plnPut a b) :=
  ⟨rfl, rfl, id, id⟩

theorem State.plnFlags_stands (s : State) (frame : Nat) : CommitStands s (s.plnFlags frame) := ⟨rfl, rfl, id, id⟩

theorem State.setSigQual_stands (s : State) (b q : Nat) : CommitStands s (s.setSigQual b q) := by
  unfold State.setSigQual
  exact .ite ⟨rfl, rfl, id, id⟩ (.refl s)

theorem State.setSig_stands (s : State) (b : Nat) (v : Bool) (q : Nat) : CommitStands s (s.setSig b v q) := by
  unfold State.setSig
  refine .ite ?_ (.refl s)
  have hval : CommitStands s { s with pln := { s.pln with binVal := setBit s.pln.binVal b v } } := ⟨rfl, rfl, id, id⟩
  exact hval.trans (State.setSigQual_stands _ b q)

theorem State.subWrite_stands (s : State) (c : StreamCfg) : CommitStands s (s.subWrite c) :=
  .foldl (fun u _ => u.setSig_stands _ _ _) _ s

theorem State.subMode_stands (s : State) : CommitStands s s.subMode := by
  refine .foldl (fun u c => ?_) _ s
  extract_lets i x v
  have hv : CommitStands u v := .ite (.trans (.of_fr (State.setSub_fr (Fr.refl u) (List.Subset.refl _)))
    (.of_fr (State.raiseRec_fr (Fr.refl _) (List.Subset.refl _)))) (.refl u)
  exact .ite (hv.trans (v.subWrite_stands c)) hv

theorem State.plnStep_stands (s : State) : CommitStands s s.plnStep :=
  .foldl (fun u _ => u.plnPut_stands _ _) _ s

/-! ### Frames that stop, and a step of time -/

/-- A command of the keepers that waits is dropped without a change of the open frame. -/
theorem State.kprDrop_open (s : State) : s.kprDrop.kpr.open_ = s.kpr.open_ := by
  have hmove (es : List (Nat × Nat)) (u : State) :
      (es.foldl (fun s e => s.setFn e.1 { s.fn e.1 with movePending := false }) u).kpr.open_ = u.kpr.open_ := by
    induction es generalizing u with
    | nil => rfl
    | cons e es ih => exact ih _
  unfold State.kprDrop
  split
  · rfl
  · rfl
  · rw [State.cmdEndRefused_kpr]
  · rw [State.cmdEndRefused_kpr]
    exact hmove _ s

theorem State.kprDrop_stands (s : State) : CommitStands s s.kprDrop :=
  .of_kpr (State.kprDrop_fr (Fr.refl s) (List.Subset.refl _)) fun ho => s.kprDrop_open.trans ho

theorem State.framesStop_stands (s : State) : CommitStands s s.framesStop := by
  refine .of_kpr (State.framesStop_fr (Fr.refl s) (List.Subset.refl _)) fun ho => ?_
  unfold State.framesStop
  split
  · exact State.kprDrop_open _
  · exact ho

theorem State.kprStep_stands (s : State) (old n : Nat) : CommitStands s (s.kprStep old n) := by
  unfold State.kprStep
  extract_lets passed u
  have hu : CommitStands s u := .ite s.kprDrop_stands (.refl s)
  exact hu.trans ⟨rfl, rfl, id, id⟩

theorem State.stepBlocks_stands (s : State) (old n : Nat) : CommitStands s (s.stepBlocks old n) := by
  unfold State.stepBlocks
  extract_lets u
  have hu : CommitStands s u := (s.kprStep_stands old n).trans
    (.of_fr (l := [.regs, .cmds, .log, .evt, .img, .pub, .hst, .svi]) (State.sviStep_fr (State.hstStep_fr
      (State.pubStep_fr (State.imgStep_fr (Fr.refl _) (by decide)) (by decide)) (by decide)) (by decide)))
  exact (hu.trans u.plnStep_stands).trans
    (.of_fr (l := [.out, .regs, .cmds, .log, .evt, .svi, .cnd, .hst, .gal]) (State.syncRequest_fr
      (State.streamsPlace_fr (State.galStep_fr (State.chainStep_fr (Fr.refl _) (by decide)) (by decide)) (by decide))
      (by decide)))

theorem State.applyStep_stands (s : State) (r : Nat) : CommitStands s (s.applyStep r) := by
  unfold State.applyStep
  extract_lets old rate delta new n _ u
  have hu : CommitStands s u := ⟨rfl, rfl, id, id⟩
  have hbcn : CommitStands u ((u.stepRec old).stepBeacon r delta n) :=
    .of_fr (l := [.regs, .cmds, .log, .evt, .bcn])
      (State.stepBeacon_fr (State.stepRec_fr (Fr.refl u) (by decide)) (by decide))
  exact (hu.trans hbcn).trans (State.stepBlocks_stands _ _ n)

theorem State.stepsNow_stands (s : State) : CommitStands s s.stepsNow := by
  have hauto (u : State) : CommitStands u (match u.bcn.autoStep with
      | none => u
      | some r => u.applyStep r) := by
    split
    · exact .refl u
    · exact u.applyStep_stands _
  refine (hauto _).after ?_
  split
  · exact .refl s
  · next r _ =>
    have hpend : CommitStands s { s with bcn := { s.bcn with pendStep := none } } := ⟨rfl, rfl, id, id⟩
    exact (hpend.trans (State.applyStep_stands _ r)).trans (State.cmdDone_stands _ _)

theorem State.stepIfIdle_stands (s : State) : CommitStands s s.stepIfIdle := .ite (.refl s) s.stepsNow_stands

/-! ### The pair unit -/

theorem State.pairTrack_stands (s : State) : CommitStands s s.pairTrack := by
  have hhold : CommitStands s s.holdTrack :=
    .ite (.ite (.refl s) ⟨rfl, rfl, id, id⟩) ⟨rfl, rfl, id, id⟩
  have hsolo (u : State) : CommitStands u u.soloTrack :=
    .ite (.ite (.refl u) ⟨rfl, rfl, id, id⟩) ⟨rfl, rfl, id, id⟩
  exact hhold.trans (hsolo _)

theorem State.bregSend_stands (s : State) (typ frame : Nat) (b : List Byte) : CommitStands s (s.bregSend typ frame b) :=
  ⟨rfl, rfl, id, id⟩

theorem State.ctrlAbort_stands (s : State) (target reason : Nat) : CommitStands s (s.ctrlAbort target reason) :=
  ⟨rfl, rfl, id, id⟩

theorem State.exClose_stands (s : State) (done : Bool) : CommitStands s (s.exClose done) := by
  unfold State.exClose
  extract_lets now _ u v _ w
  have hu : CommitStands s u := ⟨rfl, rfl, id, id⟩
  have hv : CommitStands u v := .ite (.ite (u.cmdDone_stands _) (u.cmdEndRefused_stands _)) (.refl u)
  have hw : CommitStands v w := ⟨rfl, rfl, id, id⟩
  exact (hu.trans hv).trans (.ite (hw.trans (.ite (w.cmdDone_stands _) (w.cmdEndRefused_stands _))) (.refl v))

theorem State.exStop_stands (s : State) (done : Bool) : CommitStands s (s.exStop done) :=
  .ite (.refl s) ((s.raiseRec_stands _ _).trans (State.exClose_stands _ done))

theorem State.exFramesStop_stands (s : State) : CommitStands s s.exFramesStop :=
  .trans (.ite (s.ctrlAbort_stands _ _) (.refl s)) (State.exStop_stands _ false)

theorem State.alignFail_stands (s : State) : CommitStands s s.alignFail := by
  unfold State.alignFail
  refine .ite ?_ (.refl s)
  extract_lets _ u c
  have hu : CommitStands s u := (State.raiseRec_stands _ _ _).after ⟨rfl, rfl, fun _ => rfl, id⟩
  exact .ite (hu.trans (u.cmdEndRefused_stands _)) hu

/-! ### Transitions of the mode -/

theorem State.framesStopAll_stands (s : State) : CommitStands s s.framesStopAll := by
  unfold State.framesStopAll
  refine .ite ?_ (.refl s)
  extract_lets u v _
  have hu : CommitStands s u := s.framesStop_stands.trans
    (.of_fr (l := [.regs, .cmds, .log, .evt, .img, .pub, .hst, .svi]) (State.sviDrop_fr (State.hstDrop_fr
      (State.pubDrop_fr (State.imgFramesStop_fr (Fr.refl _) (by decide)) (by decide)) (by decide)) (by decide)))
  have hgal : CommitStands u u.galFramesStop := .of_fr (State.galFramesStop_fr (Fr.refl u) (List.Subset.refl _))
  have hv : CommitStands u v :=
    ((hgal.trans (State.exFramesStop_stands _)).trans (State.alignFail_stands _)).trans (State.stepIfIdle_stands _)
  clear_value v
  exact (hu.trans hv).trans ⟨rfl, rfl, id, id⟩

theorem State.modeEffects_stands (s : State) (old m : Mode) : CommitStands s (s.modeEffects old m) := by
  unfold State.modeEffects
  extract_lets s1 s2 s3 s4 s5 s6 s7 s8
  have h1 : CommitStands s s1 := .ite (.of_fr (State.leaveActive_fr (Fr.refl s) (List.Subset.refl _))) (.refl s)
  have h2 : CommitStands s1 s2 := .ite (.of_fr (State.simEnd_fr (Fr.refl s1) (List.Subset.refl _))) (.refl s1)
  have h3 : CommitStands s2 s3 := .ite (.of_fr (State.mirrorAll_fr (Fr.refl s2) (List.Subset.refl _))) (.refl s2)
  have h4 : CommitStands s3 s4 := .ite s3.subMode_stands (.refl s3)
  have h5 : CommitStands s4 s5 := .ite (.refl s4) (.of_fr (State.stepDrop_fr (Fr.refl s4) (List.Subset.refl _)))
  have h6 : CommitStands s5 s6 := .ite (.of_fr (State.reloadAbandon_fr (Fr.refl s5) (List.Subset.refl _))) (.refl s5)
  have h7 : CommitStands s6 s7 := .ite s6.framesStopAll_stands (.refl s6)
  have h8 : CommitStands s7 s8 := .ite ⟨rfl, rfl, id, id⟩ (.refl s7)
  have h9 : CommitStands s8 (if m = .commission then s8.bcnEval none else s8) :=
    .ite (.of_fr (State.bcnEval_fr (Fr.refl s8) (List.Subset.refl _))) (.refl s8)
  exact ((((((((h1.trans h2).trans h3).trans h4).trans h5).trans h6).trans h7).trans h8).trans h9).trans
    (State.pairTrack_stands _)

theorem State.setMode_stands (s : State) (m : Mode) (cause : Nat) : CommitStands s (s.setMode m cause) := by
  by_cases hm : s.glb.mode = m
  · unfold State.setMode
    rw [if_pos hm]
    exact .refl s
  · rw [State.setMode_shown s cause hm]
    exact .trans (.of_fr (State.modeShown_fr m cause (Fr.refl s))) (State.modeEffects_stands _ _ m)

theorem State.yieldTo_stands (s : State) (cause : Nat) (m : Mode) : CommitStands s (s.yieldTo cause m) :=
  .trans (.trans (.ite (.refl s) (s.bregSend_stands _ _ _)) (State.raiseRec_stands _ _ _))
    (State.setMode_stands _ m cause)

theorem State.cause_stands {act : State → State} (hact : ∀ u, CommitStands u (act u)) (s : State) (rank code : Nat) :
    CommitStands s (s.cause rank code act) := by
  unfold State.cause
  split
  · exact .trans (.of_fr (State.logPut_fr (Fr.refl s) (List.Subset.refl _))) (hact _)
  · exact .ite (hact s) ((hact s).trans ⟨rfl, rfl, id, id⟩)

theorem State.degrade_stands (code blk inst : Nat) (s : State) : CommitStands s (s.degrade code blk inst) := by
  unfold State.degrade
  refine .ite ?_ (.refl s)
  extract_lets u
  have hu : CommitStands s u := ⟨rfl, rfl, id, id⟩
  exact .ite (hu.trans (u.yieldTo_stands _ _)) (hu.trans (u.setMode_stands _ _))

theorem State.fault_stands (s : State) (k : FaultKind) (blk inst : Nat) : CommitStands s (s.fault k blk inst) :=
  .ite (State.cause_stands (State.degrade_stands _ _ _) s _ _) (.refl s)

/-! ### Changes of control and transitions that wait for the commit (R36, R324, R326, R328) -/

theorem State.standCommit_stands (s : State) : CommitStands s s.standCommit := by
  unfold State.standCommit
  split
  · exact .refl s
  · extract_lets _ u v _
    have hu : CommitStands s u := ⟨rfl, rfl, id, id⟩
    have hv : CommitStands u v := State.cause_stands (fun w => w.setMode_stands _ _) u _ _
    refine .ite ((hu.trans hv).trans ?_) hu
    exact (State.raiseRec_stands _ _ _).after ⟨rfl, rfl, id, id⟩

theorem State.glbCommit_stands (s : State) : CommitStands s s.glbCommit := by
  unfold State.glbCommit
  extract_lets w _ t
  have ht : CommitStands s t := ⟨rfl, rfl, id, id⟩
  have hmode (m : Mode) (c : Nat) : CommitStands s (t.setMode m c) := ht.trans (t.setMode_stands m c)
  clear_value w t
  split
  · exact hmode _ _
  · exact (hmode _ _).trans (State.cmdDone_stands _ _)
  · exact (hmode _ _).trans (State.cmdDone_stands _ _)
  · exact (hmode _ _).trans (State.cmdDone_stands _ _)
  · exact .refl s
  · exact .refl s

theorem State.exEnd_stands (s : State) (done : Bool) : CommitStands s (s.exEnd done) :=
  (s.exStop_stands done).trans (.ite (State.yieldTo_stands _ _ _) (.refl _))

theorem State.exCommit_stands (s : State) (frame : Nat) : CommitStands s (s.exCommit frame) := by
  unfold State.exCommit
  extract_lets p c t
  refine .ite ?_ (.refl s)
  have ht : CommitStands s t := .ite (.ite (State.cause_stands (fun u => u.setMode_stands _ _) s _ _) (.refl s))
    (.ite (State.cause_stands (fun u => u.setMode_stands _ _) s _ _) (.refl s))
  exact ht.trans (t.exEnd_stands true)

theorem State.soloCommit_stands (s : State) : CommitStands s s.soloCommit := by
  unfold State.soloCommit
  refine .ite ?_ (.refl s)
  extract_lets _ _ u
  have hu : CommitStands s u := ⟨rfl, rfl, id, id⟩
  exact .ite (hu.trans (State.cause_stands (fun v => v.setMode_stands _ _) u _ _)) hu

theorem State.modeCommit_stands (s : State) (frame : Nat) : CommitStands s (s.modeCommit frame) :=
  ((s.standCommit_stands.trans (State.glbCommit_stands _)).trans (State.exCommit_stands _ frame)).trans
    (State.soloCommit_stands _)

/-! ### The digest of the frame (R317 to R319) -/

theorem State.explain_stands (s : State) (f : Nat) : CommitStands s (s.explain f) := by
  unfold State.explain
  split
  · exact ⟨rfl, rfl, id, id⟩
  · exact .ite ⟨rfl, rfl, id, id⟩ (.refl s)

theorem State.setDiverged_stands (s : State) : CommitStands s s.setDiverged :=
  .ite (.refl s) ((State.raiseRec_stands _ _ _).after ⟨rfl, rfl, id, id⟩)

theorem State.compareDigests_stands (s : State) (a b : Digest) : CommitStands s (s.compareDigests a b) := by
  unfold State.compareDigests
  extract_lets f s1 _ s2 run clear _ s3 s4 _ s5 s6 n _ s7
  have h1 : CommitStands s s1 := .ite (s.explain_stands f) (.refl s)
  have h2 : CommitStands s1 s2 := ⟨rfl, rfl, id, id⟩
  have h3 : CommitStands s2 s3 := ⟨rfl, rfl, id, id⟩
  have h4 : CommitStands s3 s4 := .of_fr (State.raiseOnce_fr (Fr.refl s3) (List.Subset.refl _))
  have h5 : CommitStands s4 s5 := ⟨rfl, rfl, id, id⟩
  have h6 : CommitStands s5 s6 := .of_fr (l := [.regs, .once, .log, .evt])
    (State.oncePer_fr (Fr.refl s5) (fun _ h => State.eventRec_fr h (by decide)) (by decide))
  have h7 : CommitStands s6 s7 := ⟨rfl, rfl, id, id⟩
  refine (h1.trans h2).trans (.ite ⟨rfl, rfl, id, id⟩ ((h3.trans h4).trans (.ite ⟨rfl, rfl, id, id⟩ ?_)))
  exact ((h5.trans h6).trans h7).trans (.ite s7.setDiverged_stands (.refl s7))

theorem State.digestMeet_stands (s : State) (d : Digest) : CommitStands s (s.digestMeet d) := by
  unfold State.digestMeet
  split
  · exact (State.compareDigests_stands _ d _).after ⟨rfl, rfl, id, id⟩
  · exact ⟨rfl, rfl, id, id⟩

theorem State.digestPair_stands (s : State) (d : Digest) : CommitStands s (s.digestPair d) := by
  unfold State.digestPair
  extract_lets s1 s2 waited _ s3
  have h1 : CommitStands s s1 := s.bregSend_stands _ _ _
  have h2 : CommitStands s1 s2 := .ite (s1.explain_stands _) (.refl s1)
  have h3 : CommitStands s2 s3 := .ite ⟨rfl, rfl, id, id⟩ (.refl s2)
  exact ((h1.trans h2).trans h3).trans (s3.digestMeet_stands d)

theorem State.alignRequest_stands (s : State) : CommitStands s s.alignRequest := ⟨rfl, rfl, id, id⟩

theorem State.divergeAct_stands (s old : State) : CommitStands s (s.divergeAct old) := by
  unfold State.divergeAct
  refine .ite ?_ (.refl s)
  split
  · extract_lets _ u
    have hu : CommitStands s u := ⟨rfl, rfl, id, id⟩
    exact hu.trans (.ite (.refl u) u.alignRequest_stands)
  · exact s.fault_stands _ _ _
  · exact .refl s

theorem State.commitDigest_stands (s : State) (frame : Nat) : CommitStands s (s.commitDigest frame) := by
  refine (State.divergeAct_stands _ s).after ?_
  unfold State.digestCommit
  extract_lets d _ u
  have hu : CommitStands s u := ⟨rfl, rfl, id, id⟩
  exact .ite hu (hu.trans (u.digestPair_stands d))

/-! ### The other blocks at the commit -/

theorem State.mirrorSend_stands (s : State) (frame : Nat) : CommitStands s (s.mirrorSend frame) := by
  unfold State.mirrorSend
  extract_lets l t _ u
  have hu : CommitStands s u := ⟨rfl, rfl, id, id⟩
  exact .ite hu (hu.trans (u.bregSend_stands _ _ _))

theorem State.placeCommit_stands (s : State) : CommitStands s s.placeCommit := by
  have hdone (ids : List Nat) (u : State) : CommitStands u (ids.foldl (fun s id => s.vfDone (guestVf id)) u) :=
    .foldl (fun v _ => .of_fr (State.vfDone_fr (Fr.refl v) (List.Subset.refl _))) ids u
  exact (hdone _ _).after ⟨rfl, rfl, id, id⟩

theorem State.commitOthers_stands (s old : State) (frame : Nat) : CommitStands s (s.commitOthers old frame) := by
  unfold State.commitOthers
  extract_lets u v
  have hu : CommitStands s u := .trans (.of_fr (State.giveComplete_fr (Fr.refl s) (List.Subset.refl _)))
    (.of_fr (State.pubCommit_fr (Fr.refl _) (List.Subset.refl _)))
  have hv : CommitStands u v := (u.mirrorSend_stands frame).trans (State.commitDigest_stands _ frame)
  have hbind : CommitStands v (v.mboxCommit old old.releasedEvents).bindCommit :=
    .of_fr (l := [.out, .regs, .cmds, .log, .evt, .hst])
      (State.bindCommit_fr (State.mboxCommit_fr (Fr.refl v) (by decide)) (by decide))
  exact (((hu.trans hv).trans hbind).trans (State.placeCommit_stands _)).trans
    (.of_fr (State.reloadCommit_fr (Fr.refl _) (List.Subset.refl _)))

theorem State.alignCommit_stands (s : State) (frame : Nat) : CommitStands s (s.alignCommit frame) := by
  have hsent (u : State) (l : List Nat) :
      CommitStands u (l.foldl (fun (s : State) f => s.emit (.align 3 f frame (s.fnItem f))) u) :=
    .foldl (fun v _ => v.emit_stands _) l u
  unfold State.alignCommit
  extract_lets p u _ v w _
  have hv : CommitStands s v := .ite ((hsent s s.fnIds).trans ⟨rfl, rfl, id, id⟩) (.refl s)
  have hw : CommitStands v w := ⟨rfl, rfl, id, id⟩
  exact .ite (.ite (hv.trans (hw.trans ⟨rfl, rfl, id, id⟩)) hv) (.refl s)

/-- Without an item that waits none takes effect. -/
theorem State.alignFrameItems_none {s : State} (h : s.pair.items = []) (frame : Nat) : s.alignFrameItems frame = s := by
  unfold State.alignFrameItems
  rw [h]
  rfl

/-- The items of an alignment replace function states and decisions; the frame stays closed and counts as committed. -/
theorem State.alignFrameItems_closed (s : State) (frame : Nat) :
    (s.alignFrameItems frame).pair.lastCommit = s.pair.lastCommit ∧
      (s.alignFrameItems frame).kpr.open_ = s.kpr.open_ := by
  unfold State.alignFrameItems
  generalize s.pair.items = l
  induction l generalizing s with
  | nil => exact ⟨rfl, rfl⟩
  | cons e l ih =>
    rw [List.foldl_cons]
    obtain ⟨hlast, hopen⟩ := ih _
    rw [hlast, hopen]
    split
    · split <;> exact ⟨rfl, rfl⟩
    · exact ⟨rfl, rfl⟩

end Sys2Proof.Machine
end

section
/-!
SUPPORT. The frame: what the keepers do at its tick and at its commit, and that the pair unit's checks at the tick leave
it open (R27, R103, R230, R241, R251, R253, R284).
-/

namespace Sys2Proof.Machine

open Sys2Proof

/-! ### Operations on the keepers alone -/

/-- Of frame execution, nothing but the state of keepers differs. -/
def OnlyKeepers (s t : State) : Prop := t.kpr = { s.kpr with keepers := t.kpr.keepers }

theorem OnlyKeepers.refl (s : State) : OnlyKeepers s s := rfl

theorem OnlyKeepers.of_fr {l : List Part} {s t : State} (h : Fr l s t) (hl : Part.kpr ∉ l := by decide) :
    OnlyKeepers s t := by
  have hk : t.kpr = s.kpr := h.same (p := .kpr) hl
  unfold OnlyKeepers
  rw [hk]

theorem OnlyKeepers.trans {s t u : State} (h : OnlyKeepers s t) (k : OnlyKeepers t u) : OnlyKeepers s u := by
  unfold OnlyKeepers at *
  rw [k, h]

theorem OnlyKeepers.ite {s a b : State} {c : Prop} [Decidable c] (ha : OnlyKeepers s a) (hb : OnlyKeepers s b) :
    OnlyKeepers s (if c then a else b) := by split <;> assumption

theorem OnlyKeepers.foldl {α : Type} {f : State → α → State} (hf : ∀ s x, OnlyKeepers s (f s x)) (xs : List α)
    (s : State) : OnlyKeepers s (xs.foldl f s) := by
  induction xs generalizing s with
  | nil => exact refl s
  | cons x xs ih => exact (hf s x).trans (ih _)

theorem State.setKeeper_onlyKeepers (s : State) (k : Nat) (x : Keeper) : OnlyKeepers s (s.setKeeper k x) := rfl

theorem State.prfKeeper_onlyKeepers (s : State) (k ev n : Nat) : OnlyKeepers s (s.prfKeeper k ev n) :=
  .of_fr (State.prfKeeper_fr (Fr.refl s) (List.Subset.refl _))

theorem State.dispatch_onlyKeepers (s : State) (k id : Nat) : OnlyKeepers s (s.dispatch k id) := by
  have hprf (u : State) : OnlyKeepers u ((u.prfKeeper k 7 1).prfKeeper k 0 64) :=
    (u.prfKeeper_onlyKeepers k 7 1).trans (State.prfKeeper_onlyKeepers _ k 0 64)
  have hguest (u : State) : OnlyKeepers u (if isGuest id then u.prfKeeper k 9 64 else u) :=
    .ite (u.prfKeeper_onlyKeepers k 9 64) (.refl u)
  exact ((s.setKeeper_onlyKeepers k _).trans (hprf _)).trans (hguest _)

theorem State.nextRun_onlyKeepers (s : State) (k : Nat) : OnlyKeepers s (s.nextRun k) := by
  unfold State.nextRun
  dsimp only
  split
  · exact s.setKeeper_onlyKeepers k _
  · exact (s.setKeeper_onlyKeepers k _).trans (State.dispatch_onlyKeepers _ k _)

/-! ### The policies of the functions (R253) -/

/-- Every function keeps its policy. -/
def KeepsPolicies (s t : State) : Prop := ∀ f, (t.fn f).policy = (s.fn f).policy

namespace KeepsPolicies

theorem refl (s : State) : KeepsPolicies s s := fun _ => rfl

theorem trans {s t u : State} (h : KeepsPolicies s t) (k : KeepsPolicies t u) : KeepsPolicies s u :=
  fun f => (k f).trans (h f)

theorem of_onlyKeepers {s t : State} (h : OnlyKeepers s t) : KeepsPolicies s t := fun f => by
  unfold State.fn
  rw [h]

theorem of_fr {l : List Part} {s t : State} (h : Fr l s t) (hl : Part.kpr ∉ l := by decide) : KeepsPolicies s t :=
  of_onlyKeepers (.of_fr h hl)

theorem ite {s a b : State} {c : Prop} [Decidable c] (ha : KeepsPolicies s a) (hb : KeepsPolicies s b) :
    KeepsPolicies s (if c then a else b) := by split <;> assumption

theorem foldl {α : Type} {f : State → α → State} (hf : ∀ s x, KeepsPolicies s (f s x)) (xs : List α) (s : State) :
    KeepsPolicies s (xs.foldl f s) := by
  induction xs generalizing s with
  | nil => exact refl s
  | cons x xs ih => exact (hf s x).trans (ih _)

end KeepsPolicies

theorem State.setFn_keepsPolicies {s : State} {f : Nat} {x : KFunc} (h : x.policy = (s.fn f).policy) :
    KeepsPolicies s (s.setFn f x) := fun j => by
  rw [State.fn_setFn]
  split
  · next hj => rw [hj, h]
  · rfl

/-- An operation that follows an update of one function, and leaves the keepers, keeps the policies where the update
keeps that function's. -/
theorem KeepsPolicies.of_setFn {l : List Part} {s t : State} {f : Nat} {x : KFunc} (h : Fr l (s.setFn f x) t)
    (hx : x.policy = (s.fn f).policy) (hl : Part.kpr ∉ l := by decide) : KeepsPolicies s t :=
  (State.setFn_keepsPolicies hx).trans (.of_fr h hl)

theorem State.runCycles_keepsPolicies (s : State) (k id cycles : Nat) : KeepsPolicies s (s.runCycles k id cycles) := by
  unfold State.runCycles
  extract_lets x u _ v a
  have hu : KeepsPolicies s u := .of_onlyKeepers (s.setKeeper_onlyKeepers k _)
  have hv : KeepsPolicies s v := hu.trans (State.setFn_keepsPolicies rfl)
  exact .ite hv hv

theorem State.overrunCount_keepsPolicies (s : State) (k id : Nat) : KeepsPolicies s (s.overrunCount k id) := by
  unfold State.overrunCount
  extract_lets x n u v w w'
  have hu : KeepsPolicies s u := .of_onlyKeepers (s.prfKeeper_onlyKeepers k 8 1)
  have hx : x.policy = (u.fn id).policy := (hu id).symm
  have hw : KeepsPolicies s w := hu.trans (.of_setFn (State.fnCount_fr (Fr.refl _) (List.Subset.refl _)) hx)
  have hlost (g : KFunc) (hg : g.policy = (w.fn id).policy) :
      KeepsPolicies w (((w.setFn id g).vfEvent v 1).hstRec 4 v) :=
    .of_setFn (l := [.out, .regs, .log, .evt, .hst])
      (State.hstRec_fr (State.vfEvent_fr (Fr.refl _) (by decide)) (by decide)) hg
  have hrest (g : KFunc) (hg : g.policy = (u.fn id).policy) :
      KeepsPolicies u ((((u.setFn id g).count (0x60100C + 0x10 * id)).raiseOnce 448 0).oncePer 0x14 id
        fun s => s.logPut 0x0014 0x09 id id k s.kpr.tick) :=
    .of_setFn (l := [.regs, .once, .log, .evt]) (State.oncePer_fr (State.raiseOnce_fr (State.count_fr (Fr.refl _)
      (by decide)) (by decide)) (fun _ h => State.logPut_fr h (by decide)) (by decide)) hg
  exact .ite (.ite (hw.trans (hlost _ rfl)) hw) (hu.trans (hrest _ hx))

theorem State.runOver_keepsPolicies (s : State) (k id cycles : Nat) : KeepsPolicies s (s.runOver k id cycles) :=
  ((s.runCycles_keepsPolicies k id cycles).trans (State.overrunCount_keepsPolicies _ k id)).trans
    (.of_onlyKeepers (State.nextRun_onlyKeepers _ k))

theorem State.stopRuns_keepsPolicies (s : State) : KeepsPolicies s s.stopRuns := by
  refine .foldl (fun u k => ?_) _ s
  have hset (x : Keeper) : KeepsPolicies u (u.setKeeper k x) := .of_onlyKeepers (u.setKeeper_onlyKeepers k x)
  dsimp only
  split
  · exact hset _
  · exact (hset _).trans (State.runOver_keepsPolicies _ k _ _)

theorem State.missCommit_keepsPolicies (s : State) : KeepsPolicies s s.missCommit :=
  .foldl (fun u _ => u.overrunCount_keepsPolicies _ _) _ _

theorem State.mergeCommit_keepsPolicies (s : State) (m : Merge) : KeepsPolicies s (s.mergeCommit m) :=
  State.setFn_keepsPolicies rfl

theorem State.fnFault_keepsPolicies (s : State) (f : Nat) : KeepsPolicies s (s.fnFault f) :=
  .of_setFn (State.raiseRec_fr (Fr.refl _) (List.Subset.refl _)) rfl

/-! ### The commit freezes the decisions (R230, R253, R284) -/

/-- Without a function under policy SAFE no decision takes its SAFE value. -/
theorem State.safeValues_none {s : State} (h : ∀ f, (s.fn f).policy ≠ 1) : s.safeValues = s := by
  have hnone : s.fnIds.filter (fun f => decide ((s.fn f).state = 3) && decide ((s.fn f).policy = 1)) = [] :=
    List.filter_eq_nil_iff.mpr fun f _ => by simp [h f]
  unfold State.safeValues
  dsimp only
  rw [hnone]
  rfl

theorem State.plnCommit_committed (s : State) (frame : Nat) (late : BitVec 4096) :
    (s.plnCommit frame late).pln.committed = s.pln.work := rfl

/-- At the commit the decisions of the working vector are frozen where no function is under policy SAFE. -/
theorem State.kprCommit_committed {s : State} (h : ∀ f, (s.fn f).policy ≠ 1) :
    s.kprCommit.pln.committed = s.pln.work := by
  unfold State.kprCommit
  extract_lets s1 s2 s3 s4 s5 s6
  have h1 : KeepsPolicies s s1 := s.stopRuns_keepsPolicies.trans (State.missCommit_keepsPolicies _)
  have h2 : KeepsPolicies s1 s2 := .foldl State.mergeCommit_keepsPolicies _ _
  have h3 : KeepsPolicies s2 s3 := .foldl State.fnFault_keepsPolicies _ _
  have k1 : Fr [.out, .regs, .once, .log, .evt, .prf, .hst, .kpr] s s1 :=
    State.missCommit_fr (State.stopRuns_fr (Fr.refl s) (by decide)) (by decide)
  have k2 : Fr [.kpr] s1 s2 := Fr.foldl (Fr.refl s1) fun _ _ hu => State.mergeCommit_fr hu (by decide)
  have k3 : Fr [.regs, .log, .evt, .kpr] s2 s3 :=
    Fr.foldl (Fr.refl s2) fun _ _ hu => State.fnFault_fr hu (by decide)
  have h4 : s4 = s3 := State.safeValues_none fun f => by
    rw [((h1.trans h2).trans h3) f]
    exact h f
  have h5 : s5.pln.committed = s4.pln.work := s4.plnCommit_committed _ _
  have k6 : Fr [.regs, .cmds, .once, .log, .evt, .kpr] s5 s6 :=
    State.kprCommitDone_fr (State.keepersClose_fr (State.swEvents_fr (Fr.refl s5) (by decide)) (by decide)) (by decide)
  clear_value s1 s2 s3 s4 s5 s6
  have p1 : s1.pln = s.pln := k1.same (p := .pln) (by decide)
  have p2 : s2.pln = s1.pln := k2.same (p := .pln) (by decide)
  have p3 : s3.pln = s2.pln := k3.same (p := .pln) (by decide)
  have p6 : s6.pln = s5.pln := k6.same (p := .pln) (by decide)
  rw [p6, h5, h4, p3, p2, p1]

/-- The commit as the keepers and the plane make it, with the frame's number noted. -/
def State.frozen (s : State) (frame : Nat) : State :=
  { s.kprCommit with pair := { s.kprCommit.pair with lastCommit := frame } }

/-- At the commit the frame closes. -/
theorem State.frozen_open (s : State) (frame : Nat) : (s.frozen frame).kpr.open_ = false := rfl

theorem State.frozen_committed {s : State} (frame : Nat) (h : ∀ f, (s.fn f).policy ≠ 1) :
    (s.frozen frame).pln.committed = s.pln.work := by
  unfold State.frozen
  dsimp only
  exact State.kprCommit_committed h

theorem State.frozen_lastCommit (s : State) (frame : Nat) : (s.frozen frame).pair.lastCommit = frame := rfl

theorem State.frozen_items (s : State) (frame : Nat) : (s.frozen frame).pair.items = s.pair.items := by
  have hpair : s.kprCommit.pair = s.pair :=
    (State.kprCommit_fr (Fr.refl s) (List.Subset.refl _)).same (p := .pair) (by decide)
  unfold State.frozen
  dsimp only
  rw [hpair]

/-- An open frame's commit: what follows the frozen decisions leaves them, but for the items of an alignment. -/
theorem commit_frozen {s : State} (hframes : s.kpr.frames = true) (hopen : s.kpr.open_ = true) :
    ∃ t, CommitStands (s.frozen (s.kpr.tick % 2 ^ 32)) t ∧ commit s = t.commitAlign (s.kpr.tick % 2 ^ 32) := by
  refine ⟨(((s.commitFrame (s.kpr.tick % 2 ^ 32)).modeCommit (s.kpr.tick % 2 ^ 32)).plnFlags
    (s.kpr.tick % 2 ^ 32)).commitOthers s (s.kpr.tick % 2 ^ 32), ?_, ?_⟩
  · have hfaults : CommitStands (s.frozen (s.kpr.tick % 2 ^ 32)) (s.commitFrame (s.kpr.tick % 2 ^ 32)) :=
      .foldl (fun u f => u.fault_stands _ _ f) _ _
    exact ((hfaults.trans (State.modeCommit_stands _ _)).trans (State.plnFlags_stands _ _)).trans
      (State.commitOthers_stands _ s _)
  · unfold commit
    exact if_pos (by simp [hframes, hopen])

theorem State.commitAlign_stands {s : State} (frame : Nat) (h : s.pair.items = []) :
    CommitStands s (s.commitAlign frame) := by
  unfold State.commitAlign
  rw [State.alignFrameItems_none h]
  exact (s.alignCommit_stands frame).trans (State.pairTrack_stands _)

/-- The items of an alignment leave the frame closed and its number noted. -/
theorem State.commitAlign_closed {s : State} (frame : Nat) (h : s.kpr.open_ = false) :
    (s.commitAlign frame).kpr.open_ = false ∧ (s.commitAlign frame).pair.lastCommit = s.pair.lastCommit := by
  obtain ⟨hlast, hopen⟩ := s.alignFrameItems_closed frame
  have hstands : CommitStands (s.alignFrameItems frame) (s.commitAlign frame) :=
    (State.alignCommit_stands _ frame).trans (State.pairTrack_stands _)
  exact ⟨hstands.closed (hopen.trans h), hstands.lastCommit.trans hlast⟩

/-- COMMIT closes the open frame, notes its number and freezes the working vector where no function is under policy
SAFE and no item of an alignment waits. -/
theorem commit_commits {s : State} (hframes : s.kpr.frames = true) (hopen : s.kpr.open_ = true) :
    (commit s).kpr.open_ = false ∧ (commit s).pair.lastCommit = s.kpr.tick % 2 ^ 32 ∧
      ((∀ f, (s.fn f).policy ≠ 1) → s.pair.items = [] → (commit s).pln.committed = s.pln.work) := by
  obtain ⟨t, ht, hcommit⟩ := commit_frozen hframes hopen
  rw [hcommit]
  generalize s.kpr.tick % 2 ^ 32 = frame at ht ⊢
  obtain ⟨hclosed, hlast⟩ := t.commitAlign_closed frame (ht.closed (s.frozen_open frame))
  refine ⟨hclosed, (hlast.trans ht.lastCommit).trans (s.frozen_lastCommit frame), fun hpol hitems => ?_⟩
  have hnone : t.pair.items = [] := ht.items ((s.frozen_items frame).trans hitems)
  exact ((State.commitAlign_stands frame hnone).committed.trans ht.committed).trans (State.frozen_committed frame hpol)

/-! ### The tick (R103, R230, R241) -/

/-- The working vector of a frame begins as the committed one. -/
theorem State.tickPlane_work (s : State) (n : Nat) : (s.tickPlane n).pln.work = s.pln.committed := by
  have hhead (u : State) (tick left c : Nat) : CommitStands u (u.headAdvance tick left c) := ⟨rfl, rfl, id, id⟩
  have hheads : CommitStands s (s.headsAdvance n) :=
    .foldl (fun u c => .foldl (fun v i => hhead v _ _ _) _ u) _ s
  have htimeout (u : State) (c : StreamCfg) : CommitStands u (u.subTimeout c) :=
    (CommitStands.trans (.of_fr (State.setSub_fr (Fr.refl u) (List.Subset.refl _))) (State.subWrite_stands _ c)).trans
      (.of_fr (l := [.regs, .log, .evt]) (State.raiseRec_fr (State.subCount_fr (Fr.refl _) (by decide)) (by decide)))
  have hsubs (u : State) : CommitStands u u.subTick := .foldl (fun v c => .ite (htimeout v c) (.refl v)) _ u
  have hsnap (u : State) : u.storeSnap.pln = u.pln :=
    (State.storeSnap_fr (Fr.refl u) (List.Subset.refl _)).same (p := .pln) (by decide)
  exact (congrArg PlnUnit.work (hsnap _)).trans (hheads.trans (hsubs _)).committed

/-- The keepers open the frame of the tick. -/
theorem State.kprTick_opens (s : State) (n : Nat) : (s.kprTick n).kpr.open_ = true ∧ (s.kprTick n).kpr.tick = n := by
  have hrec (u : State) (l : List Nat) : OnlyKeepers u (l.foldl (fun s k => s.raiseRec 451 k) u) :=
    .foldl (fun v k => .of_fr (State.raiseRec_fr (Fr.refl v) (List.Subset.refl _))) l u
  have hruns : OnlyKeepers { s with
      kpr := { s.kpr with tick := n, open_ := true, merge := [], changed := false, replacedNow := [] } }
      (s.kprTick n) := by
    refine .trans (.foldl (fun v k => ?_) _ _) (hrec _ _)
    exact .ite (.refl v) ((v.setKeeper_onlyKeepers k _).trans (State.nextRun_onlyKeepers _ k))
  rw [hruns]
  exact ⟨rfl, rfl⟩

/-- The frame of a tick begins: it is open under the tick's number, with the committed decisions at work (R230,
R241). -/
theorem State.frameBegin_opens (s : State) (n : Nat) :
    (s.frameBegin n).kpr.open_ = true ∧ (s.frameBegin n).kpr.tick = n ∧
      (s.frameBegin n).pln.work = s.pln.committed := by
  have hrest : Fr [.out, .regs, .cmds, .once, .log, .evt, .ports, .rdg, .prf, .hst, .gal, .pub, .pair]
      ((s.tickPlane n).kprTick n) (s.frameBegin n) :=
    State.galTick_fr (State.lanternAge_fr (State.lanternSend_fr (Fr.refl _) (by decide)) (by decide)) (by decide)
  have hpln : ((s.tickPlane n).kprTick n).pln = (s.tickPlane n).pln :=
    (State.kprTick_fr (Fr.refl _) (List.Subset.refl _)).same (p := .pln) (by decide)
  obtain ⟨hopen, htick⟩ := (s.tickPlane n).kprTick_opens n
  have hkpr := hrest.same (p := .kpr) (by decide)
  refine ⟨(congrArg KprUnit.open_ hkpr).trans hopen, (congrArg KprUnit.tick hkpr).trans htick, ?_⟩
  exact ((congrArg PlnUnit.work ((hrest.same (p := .pln) (by decide)).trans hpln))).trans (s.tickPlane_work n)

/-! ### The pair unit at the tick (R326, R330) -/

/-- Frame execution, the sample plane and the number of the latest tick stand. -/
structure TickStands (s t : State) : Prop where
  kpr : t.kpr = s.kpr
  pln : t.pln = s.pln
  tickNo : t.bcn.tickNo = s.bcn.tickNo
  tickLast : t.bcn.tickLast = s.bcn.tickLast

namespace TickStands

theorem refl (s : State) : TickStands s s := ⟨rfl, rfl, rfl, rfl⟩

theorem trans {s t u : State} (h : TickStands s t) (k : TickStands t u) : TickStands s u :=
  ⟨k.kpr.trans h.kpr, k.pln.trans h.pln, k.tickNo.trans h.tickNo, k.tickLast.trans h.tickLast⟩

theorem ite {s a b : State} {c : Prop} [Decidable c] (ha : TickStands s a) (hb : TickStands s b) :
    TickStands s (if c then a else b) := by split <;> assumption

theorem of_fr {l : List Part} {s t : State} (h : Fr l s t)
    (hl : .kpr ∉ l ∧ .pln ∉ l ∧ .bcn ∉ l := by decide) : TickStands s t where
  kpr := h.same (p := .kpr) hl.1
  pln := h.same (p := .pln) hl.2.1
  tickNo := congrArg BcnUnit.tickNo (h.same (p := .bcn) hl.2.2)
  tickLast := congrArg BcnUnit.tickLast (h.same (p := .bcn) hl.2.2)

end TickStands

theorem State.stepDrop_tickStands (s : State) : TickStands s s.stepDrop := by
  have hpend : TickStands s { s with bcn := { s.bcn with pendStep := none } } := ⟨rfl, rfl, rfl, rfl⟩
  exact .ite (hpend.trans (.of_fr (State.cmdEndRefused_fr (Fr.refl _) (List.Subset.refl _)))) (.refl s)

theorem State.pairTrack_tickStands (s : State) : TickStands s s.pairTrack :=
  .of_fr (State.pairTrack_fr (Fr.refl s) (List.Subset.refl _))

/-- Protection frames run on through a transition to STANDBY or BOOT. -/
theorem State.setMode_tickStands {s : State} {m : Mode} (cause : Nat) (h : CalmMode s.glb.mode m) :
    TickStands s (s.setMode m cause) := by
  by_cases hm : s.glb.mode = m
  · unfold State.setMode
    rw [if_pos hm]
    exact .refl s
  rw [State.setMode_shown s cause hm]
  have hshown : TickStands s (s.modeShown m cause) := .of_fr (State.modeShown_fr m cause (Fr.refl s))
  obtain ⟨t, ht, heq⟩ := (s.modeShown m cause).modeEffects_calm h
  have hleave : TickStands s t := by
    obtain rfl | rfl := ht
    · exact hshown
    · exact hshown.trans (.of_fr (State.leaveActive_fr (Fr.refl _) (List.Subset.refl _)))
  obtain heq | heq := heq
  · rw [heq]; exact hleave.trans t.pairTrack_tickStands
  · rw [heq]; exact (hleave.trans t.stepDrop_tickStands).trans (State.pairTrack_tickStands _)

/-- Protection frames run on through a yield to STANDBY (R320). -/
theorem State.yieldTo_tickStands {s : State} (cause : Nat) (h : s.glb.mode = .active) :
    TickStands s (s.yieldTo cause .standby) := by
  unfold State.yieldTo
  extract_lets u
  have hu : Fr [.out, .pair] s u := .ite (Fr.refl s) (State.bregSend_fr (Fr.refl s) (by decide))
  have hr : Fr [.out, .regs, .log, .evt, .pair] s (u.raiseRec 578 0x3FF) :=
    State.raiseRec_fr (hu.mono (by decide)) (by decide)
  have hmode : (u.raiseRec 578 0x3FF).glb.mode = .active :=
    (congrArg GlbUnit.mode (hr.same (p := .glb) (by decide))).trans h
  exact .trans (.of_fr hr) (State.setMode_tickStands cause ⟨by rw [hmode]; decide, .inr rfl⟩)

theorem State.exEnd_tickStands (s : State) : TickStands s (s.exEnd false) := by
  unfold State.exEnd
  extract_lets leave u
  have hu : TickStands s u := .of_fr (State.exStop_fr (Fr.refl s) (List.Subset.refl _))
  split
  · next hyield =>
    simp only [Bool.and_eq_true, decide_eq_true_eq] at hyield
    exact hu.trans (State.yieldTo_tickStands 0x15 hyield.2)
  · exact hu

theorem State.exDeadline_tickStands (s : State) : TickStands s s.exDeadline := by
  have habort (target reason : Nat) : TickStands s ((s.ctrlAbort target reason).exEnd false) :=
    .trans (.of_fr (State.ctrlAbort_fr (Fr.refl s) (List.Subset.refl _))) (State.exEnd_tickStands _)
  exact .ite s.exEnd_tickStands (.ite (habort _ _) (.ite (habort _ _) (.refl s)))

theorem State.pairTick_tickStands (s : State) : TickStands s s.pairTick := by
  have halign : TickStands s s.alignTick := .of_fr (State.alignTick_fr (Fr.refl s) (List.Subset.refl _))
  have hend (u : State) : TickStands u u.alignEnd := .of_fr (State.alignEnd_fr (Fr.refl u) (List.Subset.refl _))
  exact ((halign.trans (State.exDeadline_tickStands _)).trans (hend _)).trans (State.pairTrack_tickStands _)

/-! ### FRAME_TICK, KEEPER_WAKE and COMMIT -/

/-- A tick that comes for the first time while no frame is open takes its number and, while protection frames run, opens
its frame (R103, R241). -/
theorem frameTick_takes {s : State} (hstep : s.time.stepped = true) (hopen : s.kpr.open_ = false)
    (hpass : s.bcn.noTickBefore ≤ s.tickHere) (hdone : s.tickDone s.tickHere = false) :
    (frameTick s).bcn.tickNo = s.tickHere ∧ (frameTick s).bcn.tickLast = some s.tickHere ∧
      (s.kpr.frames = true → (frameTick s).kpr.open_ = true ∧ (frameTick s).kpr.tick = s.tickHere ∧
        (frameTick s).pln.work = s.pln.committed) ∧
      (s.kpr.frames = false → (frameTick s).kpr.open_ = false) := by
  have htick : frameTick s =
      (if s.kpr.frames then
        ({ s with bcn := { s.bcn with tickNo := s.tickHere, tickLast := some s.tickHere } }).frameBegin s.tickHere
       else { s with bcn := { s.bcn with tickNo := s.tickHere, tickLast := some s.tickHere } }).pairTick := by
    unfold frameTick
    exact if_neg (by simp [hstep, hopen, hdone, Nat.not_lt.mpr hpass])
  rw [htick]
  generalize hz : ({ s with bcn := { s.bcn with tickNo := s.tickHere, tickLast := some s.tickHere } } : State) = z
  have hno : z.bcn.tickNo = s.tickHere := by rw [← hz]
  have hlast : z.bcn.tickLast = some s.tickHere := by rw [← hz]
  have hwork : z.pln.committed = s.pln.committed := by rw [← hz]
  have hclosed : z.kpr.open_ = false := by rw [← hz]; exact hopen
  cases hframes : s.kpr.frames with
  | true =>
    have hstands := (z.frameBegin s.tickHere).pairTick_tickStands
    have hbcn := (State.frameBegin_fr (n := s.tickHere) (Fr.refl z) (List.Subset.refl _)).same (p := .bcn) (by decide)
    obtain ⟨hop, htk, hwk⟩ := z.frameBegin_opens s.tickHere
    refine ⟨?_, ?_, fun _ => ⟨?_, ?_, ?_⟩, nofun⟩
    · exact hstands.tickNo.trans ((congrArg BcnUnit.tickNo hbcn).trans hno)
    · exact hstands.tickLast.trans ((congrArg BcnUnit.tickLast hbcn).trans hlast)
    · exact (congrArg KprUnit.open_ hstands.kpr).trans hop
    · exact (congrArg KprUnit.tick hstands.kpr).trans htk
    · exact (congrArg PlnUnit.work hstands.pln).trans (hwk.trans hwork)
  | false =>
    have hstands := z.pairTick_tickStands
    exact ⟨hstands.tickNo.trans hno, hstands.tickLast.trans hlast, nofun,
      fun _ => (congrArg KprUnit.open_ hstands.kpr).trans hclosed⟩

theorem State.frameRate_elapse (s : State) (dt : Nat) : (s.elapse dt).frameRate = s.frameRate := by
  have hcfg (typ inst : Nat) : (s.elapse dt).cfg typ inst = s.cfg typ inst := by
    simp only [State.cfg, State.sect, State.elapse_img]
  simp only [State.frameRate, hcfg]

theorem State.dueRuns_congr {s t : State} (h : t.kpr = s.kpr) (k frame : Nat) :
    t.dueRuns k frame = s.dueRuns k frame := by
  have hfn : t.fn = s.fn := funext (State.fn_congr h)
  have hdue : t.fnDue frame = s.fnDue frame := funext fun id => by simp only [State.fnDue, hfn]
  simp only [State.dueRuns, State.placedOn, State.fnIds, hfn, hdue, h]

/-- A keeper with a run that is due at the next tick leaves clock gating (R27). -/
theorem keeperWake_wakes {k : Nat} {s : State} (hcond : (s.keeper k).cond = 0) (hframes : s.kpr.frames = true)
    (hdue : s.dueRuns k (tickAtOrAfter s.now s.frameRate % 2 ^ 32) ≠ []) :
    keeperWake k s = s.setKeeper k { s.keeper k with awake := true } := by
  have hruns : (s.dueRuns k (tickAtOrAfter s.now s.frameRate % 2 ^ 32)).isEmpty = false :=
    Bool.eq_false_iff.mpr fun h => hdue (List.isEmpty_iff.mp h)
  exact if_pos ⟨hcond, hframes, hruns⟩

/-- Settles O24: the tick begins the frame and the pair unit's checks leave it so, a keeper wakes by one update, and
what follows the frozen decisions of a commit leaves them. -/
theorem framesOpenAndCommit : Obligations.FramesOpenAndCommit := by
  unfold Obligations.FramesOpenAndCommit
  refine ⟨fun dt s hstep hopen hpass hdone => ?_, fun dt k s hcond hframes hdue => ?_, fun dt s hframes hopen => ?_⟩
  · rw [← State.elapse_stepped s dt] at hstep
    have hdone' : (s.elapse dt).tickDone (s.elapse dt).tickHere = false := by
      rw [State.tickDone, State.elapse_bcn]
      exact hdone
    rw [← State.elapse_bcn s dt] at hpass
    rw [← State.elapse_kpr s dt] at hopen ⊢
    rw [← State.elapse_pln s dt]
    exact ⟨_, rfl, frameTick_takes hstep hopen hpass hdone'⟩
  · have hkeeper (j : Nat) : (s.elapse dt).keeper j = s.keeper j := State.keeper_congr (State.elapse_kpr s dt) j
    rw [← State.dueRuns_congr (State.elapse_kpr s dt), ← State.frameRate_elapse s dt] at hdue
    rw [← hkeeper] at hcond
    rw [← State.elapse_kpr s dt] at hframes
    refine ⟨_, congrArg Host.Outcome.next (keeperWake_wakes hcond hframes hdue), ?_, fun j hj => ?_, ?_⟩
    · rw [State.keeper_setKeeper, if_pos rfl, hkeeper]
    · rw [State.keeper_setKeeper, if_neg hj, hkeeper]
    · exact (State.setKeeper_fr (State.elapse_fr (Fr.refl s) (by decide)) (by decide)).ch
  · have hfn (f : Nat) : (s.elapse dt).fn f = s.fn f := State.fn_congr (State.elapse_kpr s dt) f
    simp only [← hfn]
    rw [← State.elapse_kpr s dt] at hframes hopen ⊢
    rw [← State.elapse_pair s dt, ← State.elapse_pln s dt]
    exact ⟨_, rfl, commit_commits hframes hopen⟩

end Sys2Proof.Machine
end

section
/-!
SUPPORT. The egress side of the ridge: what the fate of a host frame writes (R403, R404), what leaves a queue and is
sent (R117, R133, R143), what enters a queue (R136, R145), and how a fault leads to DEGRADED (R34, R138).
-/

namespace Sys2Proof.Machine

open Sys2Proof

/-! ### The fate of a host frame (R403, R404) -/

/-- Every message sent stays sent, and no register below the function counters changed (R419). -/
structure HostSide (s t : State) : Prop where
  out : s.out ⊆ t.out
  rd : ∀ a < 0xC02000, t.rd a = s.rd a

namespace HostSide

theorem of_eq {s t : State} (hout : t.out = s.out) (hregs : t.regs = s.regs) : HostSide s t :=
  ⟨hout ▸ List.Subset.refl _, fun a _ => State.rd_congr hregs a⟩

theorem refl (s : State) : HostSide s s := .of_eq rfl rfl

theorem trans {s t u : State} (h : HostSide s t) (k : HostSide t u) : HostSide s u :=
  ⟨List.Subset.trans h.out k.out, fun a ha => (k.rd a ha).trans (h.rd a ha)⟩

theorem ite {s a b : State} {c : Prop} [Decidable c] (ha : HostSide s a) (hb : HostSide s b) :
    HostSide s (if c then a else b) := by split <;> assumption

theorem emit (s : State) (m : OutMsg) : HostSide s (s.emit m) :=
  ⟨List.subset_append_left _ _, fun _ _ => rfl⟩

theorem foldl {α : Type} {f : State → α → State} (hf : ∀ s x, HostSide s (f s x)) (xs : List α) (s : State) :
    HostSide s (xs.foldl f s) := by
  induction xs generalizing s with
  | nil => exact .refl s
  | cons x xs ih => exact (hf s x).trans (ih _)

end HostSide

theorem State.countBy_hostSide (s : State) {a : Nat} (n : Nat) (ha : 0xC02000 ≤ a) : HostSide s (s.countBy a n) :=
  ⟨List.Subset.refl _, fun _ hb => State.rd_wr_ne _ _ (by omega)⟩

theorem State.fnCount_hostSide (s : State) (v c n : Nat) : HostSide s (s.fnCount v c n) :=
  (s.countBy_hostSide n (by omega)).trans
    (.ite (.refl _) (State.countBy_hostSide _ n (by unfold vfBase; omega)))

theorem State.fireVec_hostSide (s : State) (n : Nat) : HostSide s (s.fireVec n) :=
  .ite (.emit s _) (.ite (.refl s) (.ite (.of_eq rfl rfl) (.emit s _)))

theorem State.completionInt_hostSide (s : State) (n itr : Nat) : HostSide s (s.completionInt n itr) :=
  .ite (.of_eq rfl rfl) (.trans (t := s.setVec n _) (.of_eq rfl rfl) (State.fireVec_hostSide _ n))

theorem State.queueInt_hostSide (s : State) (n : Nat) (tx : Bool) : HostSide s (s.queueInt n tx) := by
  unfold State.queueInt
  extract_lets q
  split
  · exact .refl s
  · exact s.completionInt_hostSide _ _

theorem State.writeBack_hostSide (s : State) (n : Nat) (q : Queue) (j : TxJob) (rest : List TxJob) :
    HostSide s (s.writeBack n q j rest) := by
  unfold State.writeBack
  extract_lets addr t done last _ freed counted moved
  have hdone : HostSide s done := .foldl (fun u _ => .emit u _) _ s
  have hlast : HostSide done last := .emit done _
  have hfreed : HostSide last freed := .ite (.of_eq rfl rfl) (.refl last)
  have hcounted : HostSide freed counted :=
    .ite ((freed.fnCount_hostSide _ _ _).trans (State.fnCount_hostSide _ _ _ _)) (.refl freed)
  have hmoved : HostSide counted moved := .of_eq rfl rfl
  exact ((((hdone.trans hlast).trans hfreed).trans hcounted).trans hmoved).trans
    (.ite (moved.queueInt_hostSide n true) (.refl moved))

theorem State.drain_hostSide (s : State) (n fuel : Nat) : HostSide s (s.drain n fuel) := by
  induction fuel generalizing s with
  | zero => exact .refl s
  | succ fuel ih =>
    unfold State.drain
    dsimp only
    split
    · exact .refl s
    · exact .ite (.refl s) ((s.writeBack_hostSide n _ _ _).trans (ih _))

theorem State.onJob_hostSide (s : State) (n id : Nat) (f : TxJob → TxJob) : HostSide s (s.onJob n id f) :=
  (s.fnCount_hostSide _ 6 _).trans (.trans (t := State.setQueue _ n _) (.of_eq rfl rfl) (State.drain_hostSide _ n _))

theorem State.copySent_hostSide (s : State) (h : Nat × Nat) (port : Nat) (time : Option Nat) (held lost : Bool) :
    HostSide s (s.copySent h port time held lost) := s.onJob_hostSide _ _ _

theorem State.copyGone_hostSide (s : State) (h : Option (Nat × Nat)) : HostSide s (s.copyGone h) := by
  cases h with
  | none => exact .refl s
  | some h => exact s.onJob_hostSide h.1 h.2 _

/-! ### What leaves the ridge's unit as it is -/

theorem State.prfRidge_rdg (s : State) (ev e n : Nat) (smp : Option SampleInfo) :
    (s.prfRidge ev e n smp).rdg = s.rdg :=
  (State.prfRidge_fr (Fr.refl s) (List.Subset.refl _)).same (p := .rdg) (by decide)

theorem State.pfcCheck_rdg (s : State) (p c : Nat) : (s.pfcCheck p c).rdg = s.rdg :=
  (State.pfcCheck_fr (Fr.refl s) (List.Subset.refl _)).same (p := .rdg) (by decide)

theorem State.hostPressure_rdg (s : State) (c : Nat) : (s.hostPressure c).rdg = s.rdg :=
  (State.hostPressure_fr (Fr.refl s) (List.Subset.refl _)).same (p := .rdg) (by decide)

theorem State.copyGone_rdg (s : State) (h : Option (Nat × Nat)) : (s.copyGone h).rdg = s.rdg :=
  (State.copyGone_fr (Fr.refl s) (List.Subset.refl _)).same (p := .rdg) (by decide)

theorem State.deliverTo_rdg (s : State) (q : QFrame) : (s.deliverTo q).rdg = s.rdg :=
  (State.deliverTo_fr (Fr.refl s) (List.Subset.refl _)).same (p := .rdg) (by decide)

/-! ### The next frame of an egress (R143) -/

theorem firsts_out {l : List QFrame} {x c : Nat} {seen : List Nat} {q : QFrame} (h : q ∈ firsts l x c seen) :
    q.out = x := by
  induction l generalizing seen with
  | nil => cases h
  | cons y l ih =>
    unfold firsts at h
    split at h
    · next hy =>
      obtain rfl | h := List.mem_cons.mp h
      · exact hy.1
      · exact ih h
    · exact ih h

/-- The frame that an egress takes next is one for that egress. -/
theorem State.nextFrame_out {s : State} {x pick : Nat} {q : QFrame} (h : s.nextFrame x pick = some q) : q.out = x := by
  unfold State.nextFrame at h
  split at h
  · cases h
  · exact firsts_out (List.mem_of_getElem? h)

/-- What an internal endpoint takes next depends on the queues alone. -/
theorem State.nextFrame_internal {s t : State} (hrdg : t.rdg = s.rdg) {x : Nat} (hx : 32 < x) (pick : Nat) :
    t.nextFrame x pick = s.nextFrame x pick := by
  have hready (u : State) (c : Nat) : u.classReady x c = true := if_neg (Nat.not_le.mpr hx)
  simp only [State.nextFrame, hready, hrdg]

/-! ### A frame leaves its queue (R125, R143, R405) -/

/-- Beside the queues only the shaper's credit changes. -/
theorem State.dequeue_rdg (s : State) (q : QFrame) : ∃ c a, (s.dequeue q).rdg =
    { s.rdg with queues := s.rdg.queues.erase q, credits := c, creditAt := a } := by
  unfold State.dequeue
  extract_lets _ u v
  have hv : v.rdg = u.rdg := by
    unfold v
    split
    · exact State.hostPressure_rdg u _
    · exact State.pfcCheck_rdg u _ _
  have hcredit (x : Int) : ∃ c a, (v.setCredit q.out q.cls x).rdg = { v.rdg with credits := c, creditAt := a } :=
    ⟨_, _, rfl⟩
  rw [hv] at hcredit
  split
  · exact hcredit _
  · exact ⟨_, _, hv⟩

/-! ### Frames sent (R117, R133, R143, R150) -/

/-- A transparent clock holds or uses a residence time; it moves no frame. -/
theorem State.tcFrame_queues (s : State) (q : QFrame) : (s.tcFrame q).1.rdg.queues = s.rdg.queues := by
  have hstat (n : Nat) : (s.stat q.out n 1).rdg.queues = s.rdg.queues := congrArg RdgUnit.queues (s.stat_rdg q.out n 1)
  unfold State.tcFrame
  split
  · rfl
  · extract_lets f k
    clear_value f k
    split
    · split
      · split <;> rfl
      · exact hstat 60
    · split
      · split <;> rfl
      · rfl

theorem State.txStamp_out (s : State) (q : QFrame) : s.out ⊆ (s.txStamp q).out := by
  unfold State.txStamp
  split
  · exact List.Subset.refl _
  · next h _ =>
    split
    · split
      · extract_lets _ u
        exact (State.copySent_hostSide u h q.out _ true false).out
      · have hout : ((s.stat q.out 46 1).macEvent q.out 2).out = s.out :=
          (State.macEvent_fr (State.stat_fr (Fr.refl s) (List.Subset.refl _)) (List.Subset.refl _)).same (p := .out)
            (by decide)
        exact hout ▸ (State.copySent_hostSide _ _ _ _ _ _).out
    · exact (s.copySent_hostSide _ _ _ _ _).out

/-- A frame that leaves a port is among the messages sent, and the queues stay. -/
theorem State.sendOut_sends (s : State) (q : QFrame) :
    (s.sendOut q).rdg.queues = s.rdg.queues ∧ ∃ f, .frame q.out f false ∈ (s.sendOut q).out := by
  unfold State.sendOut
  split
  next s1 f1 h1 =>
  split
  next s2 f2 h2 =>
  extract_lets n s3 _ s4 lat smp s5 s6
  have hq1 : s1.rdg.queues = s.rdg.queues := by rw [← State.tcFrame_queues s q, h1]
  have hq2 : s2.rdg = s1.rdg := by
    have := (State.fillSums_fr (q := q) (f := f1) (Fr.refl s1) (List.Subset.refl _)).same (p := .rdg) (by decide)
    rwa [h2] at this
  have hq6 : s6.rdg = s2.rdg := by
    have hfr : Fr [.out, .regs, .once, .evt, .ports, .prf] s2 s5 :=
      State.prfRidge_fr (State.setPort_fr (State.statFrame_fr (Fr.refl s2) (by decide)) (by decide)) (by decide)
    have h5 : s5.rdg = s2.rdg := hfr.same (p := .rdg) (by decide)
    unfold s6
    split
    · exact (State.prfRidge_rdg _ _ _ _ _).trans h5
    · exact h5
  have hst : ((s6.emit (.frame q.out f2 false)).txStamp q).rdg = s6.rdg :=
    (State.txStamp_fr (State.emit_fr (Fr.refl s6) (by decide)) (List.Subset.refl _)).same (p := .rdg) (by decide)
  refine ⟨?_, f2, ?_⟩
  · rw [hst, hq6, hq2, hq1]
  · exact State.txStamp_out _ q (List.mem_append_right _ (List.mem_singleton_self _))

theorem State.deliverTo_delivers (s : State) (q : QFrame) : .deliver (q.out - 33) q.frame ∈ (s.deliverTo q).out := by
  unfold State.deliverTo
  extract_lets lat e u v
  have hv : .deliver e q.frame ∈ v.out := List.mem_append_right _ (List.mem_singleton_self _)
  split
  · exact hv
  · exact (v.copySent_hostSide _ _ _ _ _).out hv

/-- An internal endpoint takes its next frame. -/
theorem egressTransmit_internal {x pick : Nat} {busy : Bool} {q : QFrame} {s : State} (hx : 32 < x)
    (hnext : s.nextFrame x pick = some q) :
    (egressTransmit x pick busy s).rdg.queues = s.rdg.queues.erase q ∧
      .deliver (x - 33) q.frame ∈ (egressTransmit x pick busy s).out := by
  have heq : egressTransmit x pick busy s = (s.dequeue q).deliverTo q := by
    unfold egressTransmit
    rw [if_pos hx, hnext]
  obtain ⟨c, a, hrdg⟩ := s.dequeue_rdg q
  rw [heq]
  refine ⟨?_, ?_⟩
  · rw [State.deliverTo_rdg, hrdg]
  · rw [← State.nextFrame_out hnext]
    exact State.deliverTo_delivers _ q

/-- An idle port that attempts no frame again sends its next frame, unless the link went down since it was queued. -/
theorem egressTransmit_port {x pick : Nat} {busy : Bool} {q : QFrame} {s : State} (hx : x ≤ 32)
    (hnext : s.nextFrame x pick = some q) (hidle : s.egressIdle x = true)
    (hfresh : s.rdg.t1s.find? (fun q => decide (q.out = x)) = none) (hepoch : q.epoch = tget s.rdg.epochs x 0) :
    (egressTransmit x pick busy s).rdg.queues = s.rdg.queues.erase q ∧
      ∃ f, .frame x f false ∈ (egressTransmit x pick busy s).out := by
  obtain ⟨c, a, hrdg⟩ := s.dequeue_rdg q
  obtain ⟨u, hu, heq⟩ : ∃ u : State, u.rdg = (s.dequeue q).rdg ∧ egressTransmit x pick busy s = u.sendOut q := by
    unfold egressTransmit
    rw [if_neg (Nat.not_lt.mpr hx), if_pos hidle, hfresh, hnext]
    dsimp only
    have hbusy (c : Prop) [Decidable c] : (if c then (s.dequeue q).stat x 51 1 else s.dequeue q).rdg =
        (s.dequeue q).rdg := by
      split
      · exact State.stat_rdg _ _ _ _
      · rfl
    exact ⟨_, hbusy _, if_pos (by rw [hbusy, hrdg]; exact hepoch)⟩
  obtain ⟨hqueues, f, hsent⟩ := u.sendOut_sends q
  rw [heq]
  refine ⟨?_, f, ?_⟩
  · rw [hqueues, hu, hrdg]
  · rwa [← State.nextFrame_out hnext]

/-! ### A missing cell (R137) -/

/-- A port's statistics, and what their half-way marks raise, lie in the registers of the ports (R120, R121). -/
theorem State.rd_stat_ne (s : State) {p : Nat} (n by_ : Nat) {a : Nat} (hp : p < 32) (hn : n < 64)
    (ha : 0x200000 ≤ a) : (s.stat p n by_).rd a = s.rd a := by
  have hcount (b : Nat) (hb : b < 0x200000) (u : State) (v : Word) : (u.wr b v).rd a = u.rd a :=
    State.rd_wr_ne _ _ (by omega)
  unfold State.stat
  extract_lets b o u v h w e
  have hu : u.rd a = s.rd a := hcount b (by omega) s _
  have hw : w.rd a = u.rd a := hcount h (by omega) u _
  split
  · rw [State.rd_setEvent_ne _ (evLoc_ne (evLoc_statHalf p hp) (by omega)) (by omega), hw, hu]
  · exact hu

/-- What the occupancy of an ingress port causes lies in the registers of the port (R126). -/
theorem State.rd_pfcCheck (s : State) (p c : Nat) {a : Nat} (ha : 0x200000 ≤ a) : (s.pfcCheck p c).rd a = s.rd a := by
  have hsend (u : State) (hp : p < 32) (k : Nat) : (u.sendPfc p c k).rd a = u.rd a :=
    u.rd_stat_ne 47 1 hp (by decide) ha
  unfold State.pfcCheck
  split
  · next hon =>
    have hp : p < 32 := by
      simp only [State.pfcOn, Bool.and_eq_true, decide_eq_true_eq] at hon
      omega
    extract_lets lim o x
    split
    · split
      · exact hsend _ hp 0
      · rfl
    · split
      · exact hsend _ hp _
      · rfl
  · rfl

/-- The ridge's counters of an attachment lie between its event status and the blocks after it. -/
theorem epCnt_bounds {x c : Nat} (hx : x < 65) (hc : c < 8) : 0x201000 ≤ epCnt x c ∧ epCnt x c < 0x201400 := by
  have he : endpointOf x < 32 := by
    unfold endpointOf
    split
    · omega
    · split <;> omega
  unfold epCnt
  omega

/-- The ridge without a frame that has left its queue. -/
def State.unqueued (s : State) (q : QFrame) : State :=
  { s with rdg := { s.rdg with queues := s.rdg.queues.erase q } }

/-- A missing cell takes the first frame of its flow off the queue; one of an earlier link epoch does not count. -/
theorem reseqTimeout_eq {out x cls : Nat} {q : QFrame} {s : State}
    (hq : s.rdg.queues.find? (fun q => decide (q.out = out) && decide (q.ingress = x) && decide (q.cls = cls)) =
      some q) :
    reseqTimeout out x cls s = if q.epoch = tget s.rdg.epochs out 0 then
      ((((s.unqueued q).copyGone q.host).epCount out 5).setEvent 258).pfcCheck x cls
    else ((s.unqueued q).copyGone q.host).pfcCheck x cls := by
  have hepochs : s.rdg.epochs = ((s.unqueued q).copyGone q.host).rdg.epochs :=
    (congrArg RdgUnit.epochs ((s.unqueued q).copyGone_rdg q.host)).symm
  rw [hepochs]
  unfold reseqTimeout
  extract_lets hit
  rw [hq]
  rfl

/-- A discarded frame has left its queue; one of the present link epoch counts and raises its event. -/
theorem reseqTimeout_discards {out x cls : Nat} {q : QFrame} {s : State} (hout : out < 65)
    (hq : s.rdg.queues.find? (fun q => decide (q.out = out) && decide (q.ingress = x) && decide (q.cls = cls)) =
      some q) :
    (reseqTimeout out x cls s).rdg.queues = s.rdg.queues.erase q ∧
      (q.epoch = tget s.rdg.epochs out 0 →
        (reseqTimeout out x cls s).rd (epCnt out 5) = s.rd (epCnt out 5) + 1 ∧
        (reseqTimeout out x cls s).evSet 258 = true) := by
  obtain ⟨hlo, hhi⟩ := epCnt_bounds (c := 5) hout (by decide)
  rw [reseqTimeout_eq hq]
  have hgone : ((s.unqueued q).copyGone q.host).rdg.queues = s.rdg.queues.erase q :=
    congrArg RdgUnit.queues ((s.unqueued q).copyGone_rdg q.host)
  have hrd : ((s.unqueued q).copyGone q.host).rd (epCnt out 5) = s.rd (epCnt out 5) :=
    ((s.unqueued q).copyGone_hostSide q.host).rd _ (by omega)
  generalize (s.unqueued q).copyGone q.host = v at hgone hrd
  split
  · have hevent : ((v.epCount out 5).setEvent 258).rdg = v.rdg :=
      (State.setEvent_fr (l := [.regs, .evt]) (State.epCount_fr (Fr.refl v) (by decide)) (by decide)).same (p := .rdg)
        (by decide)
    refine ⟨?_, fun _ => ⟨?_, ?_⟩⟩
    · rw [State.pfcCheck_rdg, hevent, hgone]
    · rw [State.rd_pfcCheck _ _ _ (by omega),
        State.rd_setEvent_ne _ (evLoc_ne (c := 0x200018) rfl (by omega)) (by omega), ← hrd]
      exact State.rd_wr_same _ _ _
    · change BitVec.getLsbD (State.rd _ 0x200018) 2 = true
      rw [State.rd_pfcCheck _ _ _ (by decide)]
      exact State.evSet_setEvent (src := 258) _ rfl
  · next hepoch => exact ⟨by rw [State.pfcCheck_rdg, hgone], fun h => absurd h hepoch⟩

/-! ### A frame enters a queue (R136, R137) -/

/-- Admission depends on the queues alone. -/
theorem State.admits_congr {s t : State} (h : t.rdg.queues = s.rdg.queues) (out cls cells : Nat) :
    t.admits out cls cells = s.admits out cls cells := by
  have hwhere : t.cellsWhere = s.cellsWhere := funext fun f => by unfold State.cellsWhere; rw [h]
  have hfree : t.freeShared = s.freeShared := by
    unfold State.freeShared State.sharedOf
    rw [hwhere]
  unfold State.admits
  rw [hfree, hwhere]

/-- The cells of a frame move their flow's sequence number alone. -/
theorem State.spray_rdg (s : State) (x out cls cells : Nat) :
    ∃ f, (s.spray x out cls cells).rdg = { s.rdg with flows := f } := by
  unfold State.spray
  extract_lets k q _ u even e smp v
  refine ⟨tset s.rdg.flows k ((q + cells) % 4096) 0, ?_⟩
  have hv : v.rdg = u.rdg := State.prfRidge_rdg _ _ _ _ _
  split
  · rw [State.prfRidge_rdg, State.prfRidge_rdg, hv]
  · split <;> rw [State.prfRidge_rdg, hv]

/-- An admitted frame joins the queues with the present link epoch, and a refused one does not. -/
theorem State.enqueue_rdg (s : State) (q : QFrame) :
    (s.enqueue q).rdg.seqs = s.rdg.seqs ∧ (s.enqueue q).rdg.queues =
      if s.admits q.out q.cls q.cells then s.rdg.queues ++ [{ q with epoch := tget s.rdg.epochs q.out 0 }]
      else s.rdg.queues := by
  unfold State.enqueue
  split
  · extract_lets empty u v _ w
    have hu : ∃ c a, u.rdg = { s.rdg with credits := c, creditAt := a } := by
      unfold u
      split <;> exact ⟨_, _, rfl⟩
    obtain ⟨c, a, hu⟩ := hu
    obtain ⟨f, hv⟩ := u.spray_rdg q.ingress q.out q.cls q.cells
    have hw : w.rdg = { v.rdg with queues := v.rdg.queues ++ [{ q with epoch := tget v.rdg.epochs q.out 0 }] } := rfl
    rw [State.pfcCheck_rdg, hw, show v.rdg = _ from hv, hu]
    exact ⟨rfl, rfl⟩
  · have hcount : Fr [.regs, .log, .evt] s (s.epCount q.out 4) := State.epCount_fr (Fr.refl s) (by decide)
    have hrec := State.eventRec_fr (inst := endpointOf q.ingress) (p0 := endpointOf q.ingress)
      (State.setEvent_fr (src := 257) hcount (by decide)) (src := 257) (by decide)
    have hdrop := (Fr.ite (c := q.cls ≥ 6) hrec hcount).same (p := .rdg) (by decide)
    exact ⟨congrArg RdgUnit.seqs hdrop, congrArg RdgUnit.queues hdrop⟩

/-! ### The supervision frame (R145, R149) -/

theorem length_padTo (b : List Byte) (n : Nat) : (padTo b n).length = n := by
  unfold padTo
  rw [List.length_append, List.length_take, List.length_replicate]
  omega

/-- A supervision frame takes one cell. -/
theorem State.cellsOf_supervision (s : State) (g p q : Nat) : cellsOf (s.supervision g p q).octets = 1 := by
  simp [State.supervision, Frame.octets, length_padTo, cellsOf]

/-- The supervision frame of group `g` with sequence number `n` on the member `p`, in class 5 (log entry 51). -/
def State.superviseOn (s : State) (g n p : Nat) : State :=
  if (s.port p).holdDown then s.epCount p 3 else s.enqueue (mkQ 64 p 5 (s.supervision g p n) s.time.mono)

/-- On a member neither a sequence number nor a queued frame changes. -/
theorem State.superviseOn_keeps (s : State) (g n p : Nat) :
    (s.superviseOn g n p).rdg.seqs = s.rdg.seqs ∧ s.rdg.queues ⊆ (s.superviseOn g n p).rdg.queues := by
  unfold State.superviseOn
  split
  · exact ⟨rfl, List.Subset.refl _⟩
  · obtain ⟨hseqs, hqueues⟩ := s.enqueue_rdg (mkQ 64 p 5 (s.supervision g p n) s.time.mono)
    refine ⟨hseqs, ?_⟩
    rw [hqueues]
    split
    · exact List.subset_append_left _ _
    · exact List.Subset.refl _

/-- A member that is not in hold-down and has room queues its supervision frame. -/
theorem State.superviseOn_queues {s : State} {p : Nat} (g n : Nat) (hheld : (s.port p).holdDown = false)
    (hroom : s.admits p 5 1 = true) :
    ∃ q ∈ (s.superviseOn g n p).rdg.queues, q.out = p ∧ q.frame.red = some (s.redTag g p n) := by
  unfold State.superviseOn
  rw [hheld, if_neg Bool.false_ne_true, (s.enqueue_rdg _).2, if_pos]
  · exact ⟨_, List.mem_append_right _ (List.mem_singleton_self _), rfl, rfl⟩
  · exact (congrArg (s.admits p 5) (s.cellsOf_supervision g p n)).trans hroom

/-- A group sends on its two members in turn, with its next sequence number. -/
theorem supervisionTx_eq {g : Nat} {s : State} (hboot : s.afterBoot = true) (hg : g < s.groupCount)
    (hkind : (s.groupPorts g).1 ≠ 0) :
    supervisionTx g s =
      ((s.nextSeq g).1.superviseOn g (tget s.rdg.seqs g 0) (s.groupPorts g).2.1).superviseOn g
        (tget s.rdg.seqs g 0) (s.groupPorts g).2.2 := by
  unfold supervisionTx
  rw [if_pos (by simp [hboot, hg, hkind])]
  rfl

theorem supervisionTx_sends {g : Nat} {s : State} (hboot : s.afterBoot = true) (hg : g < s.groupCount)
    (hkind : (s.groupPorts g).1 ≠ 0) :
    tget (supervisionTx g s).rdg.seqs g 0 = (tget s.rdg.seqs g 0 + 1) % 65536 ∧
      ((s.port (s.groupPorts g).2.1).holdDown = false → s.admits (s.groupPorts g).2.1 5 1 = true →
        ∃ q ∈ (supervisionTx g s).rdg.queues, q.out = (s.groupPorts g).2.1 ∧
          q.frame.red = some (s.redTag g (s.groupPorts g).2.1 (tget s.rdg.seqs g 0))) := by
  rw [supervisionTx_eq hboot hg hkind]
  obtain ⟨hseqsA, -⟩ := (s.nextSeq g).1.superviseOn_keeps g (tget s.rdg.seqs g 0) (s.groupPorts g).2.1
  obtain ⟨hseqsB, hsubB⟩ := State.superviseOn_keeps ((s.nextSeq g).1.superviseOn g (tget s.rdg.seqs g 0)
    (s.groupPorts g).2.1) g (tget s.rdg.seqs g 0) (s.groupPorts g).2.2
  refine ⟨?_, fun hheld hroom => ?_⟩
  · rw [hseqsB, hseqsA]
    exact tget_tset_same _ _ _ _
  · obtain ⟨q, hq, hout, htag⟩ := State.superviseOn_queues (s := (s.nextSeq g).1) g (tget s.rdg.seqs g 0) hheld
      ((State.admits_congr rfl _ _ _).trans hroom)
    exact ⟨q, hsubB hq, hout, htag⟩

/-! ### A fault leads to DEGRADED (R32, R34, R35, R320) -/

theorem Entered.congr {m : Mode} {cause : Nat} {s t u v : State} (h : Entered m cause s t)
    (hs : s.glb.mode = u.glb.mode) (ht : v.glb = t.glb) : Entered m cause u v where
  mode := by rw [ht]; exact h.mode
  prev := by rw [ht, ← hs]; exact h.prev
  cause := by rw [ht]; exact h.cause

theorem State.setMode_entered {s : State} {m : Mode} (cause : Nat) (h : s.glb.mode ≠ m) :
    Entered m cause s (s.setMode m cause) := by
  constructor <;> rw [State.setMode_glb s cause h]

theorem State.yieldTo_entered {s : State} {m : Mode} (cause : Nat) (h : s.glb.mode ≠ m) :
    Entered m cause s (s.yieldTo cause m) := by
  unfold State.yieldTo
  extract_lets u
  have hglb : (u.raiseRec 578 0x3FF).glb = s.glb :=
    (State.raiseRec_fr (l := [.out, .regs, .log, .evt, .pair])
      (Fr.ite (Fr.refl s) (State.bregSend_fr (Fr.refl s) (by decide))) (by decide)).same (p := .glb) (by decide)
  exact (State.setMode_entered cause (by rw [hglb]; exact h)).congr (congrArg GlbUnit.mode hglb) rfl

/-- From every mode that a fault acts on, an ACTIVE one by a yield, the module enters DEGRADED. -/
theorem State.degrade_entered {s : State} (code blk inst : Nat) (h : s.faultMode = true) :
    Entered .degraded code s (s.degrade code blk inst) := by
  have hne : s.glb.mode ≠ .degraded := by
    intro hm
    unfold State.faultMode at h
    rw [hm] at h
    cases h
  unfold State.degrade
  rw [if_pos h]
  extract_lets u
  split
  · exact (State.yieldTo_entered (s := u) code hne).congr rfl rfl
  · exact (State.setMode_entered (s := u) code hne).congr rfl rfl

/-- A cause acts with the record of its being set aside, or with the mark that it acted (R35). -/
theorem State.cause_entered {s : State} {m : Mode} {c : Nat} {act : State → State} (rank code : Nat)
    (h : ∀ u : State, u.glb = s.glb → Entered m c u (act u)) : Entered m c s (s.cause rank code act) := by
  unfold State.cause
  split
  · exact (h _ (State.logPut_glb _ _ _ _ _ _ _)).congr (congrArg GlbUnit.mode (State.logPut_glb _ _ _ _ _ _ _)) rfl
  · extract_lets t
    obtain ⟨hmode, hprev, hcause⟩ := h s rfl
    split <;> exact ⟨hmode, hprev, hcause⟩

theorem State.faultMode_congr {s t : State} (h : t.glb = s.glb) : t.faultMode = s.faultMode := by
  unfold State.faultMode; rw [h]

theorem State.fault_entered {s : State} {k : FaultKind} (blk inst : Nat) (hacts : s.faultActs k = true)
    (hmode : s.faultMode = true) : Entered .degraded (faultCode k) s (s.fault k blk inst) := by
  unfold State.fault
  rw [if_pos (by rw [hacts, hmode]; rfl)]
  exact State.cause_entered _ _ fun u hu =>
    State.degrade_entered _ _ _ ((State.faultMode_congr hu).trans hmode)

/-! ### Planes (R138) -/

theorem State.fault_rdg (s : State) (k : FaultKind) (blk inst : Nat) : (s.fault k blk inst).rdg = s.rdg :=
  (State.fault_fr (Fr.refl s) (List.Subset.refl _)).same (p := .rdg) (by decide)

/-- The ridge's flags once plane `k` has left service. -/
def PlaneLost (k : Nat) (s t : State) : Prop :=
  (k = 0 → t.rdg.fault0 = true ∧ t.rdg.plane0 = false ∧ t.rdg.plane1 = !s.rdg.fault1) ∧
    (k = 1 → t.rdg.fault1 = true ∧ t.rdg.plane1 = false ∧ t.rdg.plane0 = !s.rdg.fault0)

theorem State.planeOut_lost (s : State) (k : Nat) : PlaneLost k s (s.planeOut k) := by
  unfold State.planeOut
  extract_lets r lost
  have hrdg : (({ s with rdg := lost }.setEvent 256).eventRec 256 k k).rdg = lost :=
    (State.eventRec_fr (l := [.regs, .log, .evt]) (State.setEvent_fr (Fr.refl { s with rdg := lost }) (by decide))
      (by decide)).same (p := .rdg) (by decide)
  unfold PlaneLost
  rw [hrdg]
  refine ⟨?_, ?_⟩ <;> rintro rfl <;> exact ⟨rfl, rfl, rfl⟩

/-- A plane that was in service leaves it; without the other one the module is at fault. -/
theorem planeFault_out {k : Nat} {ecc : Bool} {s : State}
    (hin : (if k = 0 then s.rdg.fault0 else s.rdg.fault1) = false) :
    planeFault k ecc s = if (if k = 0 then s.rdg.fault1 else s.rdg.fault0) = true then
      (s.planeOut k).fault (if ecc then .ecc else .selfCheck) 0x05 k else s.planeOut k := by
  unfold planeFault
  extract_lets out last
  exact if_neg (by rw [show out = false from hin]; exact Bool.false_ne_true)

theorem planeFault_lost {k : Nat} {ecc : Bool} {s : State}
    (hin : (if k = 0 then s.rdg.fault0 else s.rdg.fault1) = false) : PlaneLost k s (planeFault k ecc s) := by
  have hlost := s.planeOut_lost k
  rw [planeFault_out hin]
  by_cases hlast : (if k = 0 then s.rdg.fault1 else s.rdg.fault0) = true
  · rw [if_pos hlast]
    unfold PlaneLost
    rw [State.fault_rdg]
    exact hlost
  · rwa [if_neg hlast]

/-- The last plane's fault leads to DEGRADED with the cause of what found it. -/
theorem planeFault_last {k : Nat} {ecc : Bool} {s : State}
    (hin : (if k = 0 then s.rdg.fault0 else s.rdg.fault1) = false)
    (hlast : (if k = 0 then s.rdg.fault1 else s.rdg.fault0) = true) (hmode : s.faultMode = true) :
    Entered .degraded (if ecc then 0x0E else 0x19) s (planeFault k ecc s) := by
  have hglb : (s.planeOut k).glb = s.glb :=
    (State.planeOut_fr (Fr.refl s) (List.Subset.refl _)).same (p := .glb) (by decide)
  have hmode' : (s.planeOut k).faultMode = true := (State.faultMode_congr hglb).trans hmode
  rw [planeFault_out hin, if_pos hlast]
  cases ecc with
  | true => exact (State.fault_entered (k := .ecc) 0x05 k rfl hmode').congr (congrArg GlbUnit.mode hglb) rfl
  | false => exact (State.fault_entered (k := .selfCheck) 0x05 k rfl hmode').congr (congrArg GlbUnit.mode hglb) rfl

/-! ### The passing of time -/

theorem State.cfg_elapse (s : State) (dt typ inst : Nat) : (s.elapse dt).cfg typ inst = s.cfg typ inst := by
  simp only [State.cfg, State.sect, State.elapse_img]

theorem State.groupCount_elapse (s : State) (dt : Nat) : (s.elapse dt).groupCount = s.groupCount := by
  simp only [State.groupCount, State.cfg_elapse]

theorem State.groupPorts_elapse (s : State) (dt g : Nat) : (s.elapse dt).groupPorts g = s.groupPorts g := by
  simp only [State.groupPorts, State.cfg_elapse]

theorem State.redTag_elapse (s : State) (dt g p q : Nat) : (s.elapse dt).redTag g p q = s.redTag g p q := by
  unfold State.redTag State.isHsr
  rw [State.groupPorts_elapse]

/-- Settles O33: an egress takes its next frame off the queue before it is sent, a missing cell discards the first
frame of its flow, a supervision frame is queued on each member in turn, and a plane that fails leaves service before
the module may be at fault. -/
theorem ridgeSendsAndLosesPlanes : Obligations.RidgeSendsAndLosesPlanes := by
  unfold Obligations.RidgeSendsAndLosesPlanes
  refine ⟨fun dt pick x busy q s hnext => ⟨fun hx => ?_, fun hx hnext' hidle hfresh hepoch => ?_⟩,
    fun dt out ingress cls q s hq => ?_, fun dt g s hboot hg hkind => ?_, fun dt k ecc s hin => ?_⟩
  · rw [← State.nextFrame_internal (State.elapse_rdg s dt) hx] at hnext
    rw [← State.elapse_rdg s dt]
    exact ⟨_, rfl, egressTransmit_internal hx hnext⟩
  · rw [← State.elapse_rdg s dt] at hfresh hepoch ⊢
    exact ⟨_, rfl, egressTransmit_port hx hnext' hidle hfresh hepoch⟩
  · rw [← State.elapse_rdg s dt] at hq ⊢
    rw [← State.rd_congr (State.elapse_regs s dt)]
    exact ⟨_, rfl, reseqTimeout_discards out.isLt hq⟩
  · rw [← State.afterBoot_elapse s dt] at hboot
    rw [← State.groupCount_elapse s dt] at hg
    rw [← State.groupPorts_elapse s dt] at hkind ⊢
    rw [← State.elapse_rdg s dt, ← State.port_congr (State.elapse_ports s dt),
      ← State.admits_congr (congrArg RdgUnit.queues (State.elapse_rdg s dt)), ← State.redTag_elapse s dt]
    exact ⟨_, rfl, supervisionTx_sends hboot hg hkind⟩
  · rw [← State.elapse_rdg s dt] at hin ⊢
    obtain ⟨hlost0, hlost1⟩ := planeFault_lost (ecc := ecc) hin
    refine ⟨_, rfl, hlost0, hlost1, fun hother => ⟨?_, ?_⟩, fun hlast hmode => ?_⟩
    · rw [planeFault_out hin, if_neg (by rw [hother]; exact Bool.false_ne_true)]
      exact State.evSet_eventRec_mono (State.evSet_setEvent _ rfl)
    · rw [planeFault_out hin, if_neg (by rw [hother]; exact Bool.false_ne_true)]
      exact (State.planeOut_fr (State.elapse_fr (Fr.refl s) (by decide)) (by decide)).ch
    · rw [← State.faultMode_congr (State.elapse_glb s dt)] at hmode
      exact (planeFault_last hin hlast hmode).congr (congrArg GlbUnit.mode (State.elapse_glb s dt)) rfl

end Sys2Proof.Machine
end

section
/-!
SUPPORT. The intake of sampled values: what its counters read (R162, R186), what the judgement of a stream and its
substitution leave of it (R179, R181 to R184), how a sample passes to the chain (R176, R177), and what starts and ends
a forced substitution (R187).
-/

namespace Sys2Proof.Machine

open Sys2Proof

/-! ### Counters of the intake (R162, R186) -/

theorem leAt_lt (b : List Byte) (off n : Nat) : leAt b off n < 256 ^ n := by
  induction n generalizing off with
  | zero => exact Nat.one_pos
  | succ n ih =>
    have hbyte : byteAt b off < 256 := BitVec.isLt _
    have htail := ih (off + 1)
    rw [leAt, Nat.pow_succ]
    omega

theorem StreamCfg.index_lt (c : StreamCfg) : c.index < 65536 := leAt_lt _ _ 2

/-- A counter of a stream counts; the copies that functions hold lie elsewhere (R186, R418). -/
theorem State.rd_svCount (s : State) {i c : Nat} (n : Nat) (h : 0x320000 + 0x40 * i + 4 * c < 0x104000000) :
    (s.svCount i c n).rd (0x320000 + 0x40 * i + 4 * c) = satAdd (s.rd (0x320000 + 0x40 * i + 4 * c)) n := by
  unfold State.svCount
  refine List.foldlRecOn (motive := fun t : State =>
    t.rd (0x320000 + 0x40 * i + 4 * c) = satAdd (s.rd (0x320000 + 0x40 * i + 4 * c)) n) _ _
    (State.rd_wr_same _ _ _) fun t ht e _ => ?_
  split
  · exact (State.rd_wr_ne _ _ (by omega)).trans ht
  · exact ht

/-- An event raised at most once in a second changes no register but those of its own raising (R501). -/
theorem State.rd_raiseOnce_ne (s : State) {src a c : Nat} (inst : Nat) (h : (evLoc src).map (·.1) = some c)
    (hac : a ≠ c) (ha : a < 0x12000 ∨ 0x12020 ≤ a) : (s.raiseOnce src inst).rd a = s.rd a := by
  unfold State.raiseOnce State.oncePer
  split
  · rfl
  · exact State.rd_setEvent_ne _ (evLoc_ne h hac) ha

/-! ### What leaves the intake as it is -/

@[simp] theorem State.svCount_svi (s : State) (i c n : Nat) : (s.svCount i c n).svi = s.svi :=
  (State.svCount_fr (Fr.refl s) (List.Subset.refl _)).same (p := .svi) (by decide)

@[simp] theorem State.prfIntake_svi (s : State) (ev n : Nat) : (s.prfIntake ev n).svi = s.svi :=
  (State.prfIntake_fr (Fr.refl s) (List.Subset.refl _)).same (p := .svi) (by decide)

@[simp] theorem State.margin_svi (s : State) (i ns : Nat) : (s.margin i ns).svi = s.svi :=
  (State.margin_fr (Fr.refl s) (List.Subset.refl _)).same (p := .svi) (by decide)

@[simp] theorem State.sviNote_svi (s : State) (i : Nat) : (s.sviNote i).svi = s.svi :=
  (State.sviNote_fr (Fr.refl s) (List.Subset.refl _)).same (p := .svi) (by decide)

@[simp] theorem State.copyOuts_svi (s : State) (c src : StreamCfg) (t extra : Nat) :
    (s.copyOuts c src t extra).svi = s.svi :=
  (State.copyOuts_fr (Fr.refl s) (List.Subset.refl _)).same (p := .svi) (by decide)

@[simp] theorem State.streamRestart_svi (s : State) (c : StreamCfg) (t : Nat) : (s.streamRestart c t).svi = s.svi :=
  (State.streamRestart_fr (Fr.refl s) (List.Subset.refl _)).same (p := .svi) (by decide)

@[simp] theorem State.chainInput_svi (s : State) (c : StreamCfg) (n t : Nat) (data : List (Nat × Nat)) :
    (s.chainInput c n t data).svi = s.svi :=
  (State.chainInput_fr (Fr.refl s) (List.Subset.refl _)).same (p := .svi) (by decide)

/-! ### What judging a stream and substituting for it leave (R179, R181 to R184) -/

/-- A stream without its substitution. -/
def Stream.bare (x : Stream) : Stream := { x with subst := none }

/-- A stream without its substitution, its state and what that state is judged by. -/
def Stream.unjudged (x : Stream) : Stream := { x.bare with state := 0, goodRun := 0, okTime := 0 }

/-- The command that waits is the same in two states, and so is every stream as `view` shows it. -/
structure IntakeAgrees (view : Stream → Stream) (s t : State) : Prop where
  pend : t.svi.pend = s.svi.pend
  stream : ∀ j, view (t.stream j) = view (s.stream j)

namespace IntakeAgrees

variable {view : Stream → Stream} {s t u : State}

theorem of_svi (h : t.svi = s.svi) : IntakeAgrees view s t :=
  ⟨congrArg SviUnit.pend h, fun j => congrArg view (State.stream_congr h j)⟩

theorem refl (s : State) : IntakeAgrees view s s := .of_svi rfl

theorem trans (h : IntakeAgrees view s t) (k : IntakeAgrees view t u) : IntakeAgrees view s u :=
  ⟨k.pend.trans h.pend, fun j => (k.stream j).trans (h.stream j)⟩

theorem ite {a b : State} {c : Prop} [Decidable c] (ha : IntakeAgrees view s a) (hb : IntakeAgrees view s b) :
    IntakeAgrees view s (if c then a else b) := by split <;> assumption

theorem setStream {i : Nat} {x : Stream} (h : view x = view (s.stream i)) : IntakeAgrees view s (s.setStream i x) :=
  ⟨rfl, fun j => by
    rw [State.stream_setStream]
    split
    · rename_i hj
      rw [hj, h]
    · rfl⟩

/-- What leaves the intake as an update of one stream made it. -/
theorem of_setStream {i : Nat} {x : Stream} (hsvi : t.svi = (s.setStream i x).svi) (h : view x = view (s.stream i)) :
    IntakeAgrees view s t := (setStream h).trans (of_svi hsvi)

theorem unjudged (h : IntakeAgrees Stream.bare s t) : IntakeAgrees Stream.unjudged s t :=
  ⟨h.pend, fun j => congrArg (fun x : Stream => { x with state := 0, goodRun := 0, okTime := 0 }) (h.stream j)⟩

theorem state (h : IntakeAgrees Stream.bare s t) (j : Nat) : (t.stream j).state = (s.stream j).state :=
  (congrArg Stream.state (h.stream j) :)

end IntakeAgrees

theorem State.substStart_agrees (s : State) (c : StreamCfg) (t : Nat) :
    IntakeAgrees Stream.bare s (s.substStart c t) := by
  unfold State.substStart
  split
  · exact .refl s
  · split
    · exact .refl s
    · exact .of_setStream ((State.sviNote_svi _ _).trans ((State.raiseRec_svi _ _ _).trans
        ((State.svCount_svi _ _ _ _).trans (State.copyOuts_svi _ _ _ _ _)))) rfl

/-- A substitution that starts takes the partner's samples from its instant on (R182). -/
theorem State.substStart_subst {s : State} {c pc : StreamCfg} {p : Nat} (t : Nat) (hp : c.partner = some p)
    (hpc : s.streamCfg p = some pc) :
    ((s.substStart c t).stream c.index).subst = some { start := t, stop := none } := by
  unfold State.substStart
  simp only [hp, hpc]
  rw [State.stream_congr (State.sviNote_svi _ _), State.stream_congr (State.raiseRec_svi _ _ _),
    State.stream_congr (State.svCount_svi _ _ _ _), State.stream_congr (State.copyOuts_svi _ _ _ _ _),
    State.stream_setStream, if_pos rfl]

theorem State.substTry_agrees (s : State) (c : StreamCfg) (t : Nat) : IntakeAgrees Stream.bare s (s.substTry c t) := by
  unfold State.substTry
  split
  · exact .refl s
  · exact .ite (s.substStart_agrees c t) (.refl s)

theorem State.substEnd_agrees (s : State) (c : StreamCfg) : IntakeAgrees Stream.bare s (s.substEnd c) := by
  unfold State.substEnd
  extract_lets i x
  split
  · exact .refl s
  · split
    · extract_lets s1 s2
      have h2 : s2.svi = s1.svi :=
        (forN_fr (l := [.pln]) (Fr.refl s1) fun k u hu =>
          Fr.foldl hu fun v o hv => State.plnGrid_fr hv (List.Subset.refl _)).same (p := .svi) (by decide)
      exact .of_setStream ((State.sviNote_svi _ _).trans ((State.raiseRec_svi _ _ _).trans h2)) rfl
    · exact .refl s

theorem State.partnerTry_agrees (s : State) (c : StreamCfg) (was : Bool) (t : Nat) :
    IntakeAgrees Stream.bare s (s.partnerTry c was t) := by
  unfold State.partnerTry
  split
  · exact .refl s
  · split
    · exact .refl s
    · exact .ite (s.substTry_agrees _ t) (.refl s)

theorem State.turnsBad_agrees (s : State) (c : StreamCfg) (t : Nat) (due : Option Nat) :
    IntakeAgrees Stream.bare s (s.turnsBad c t due) := by
  unfold State.turnsBad
  split
  · exact .refl s
  · split
    · exact .refl s
    · extract_lets y s1 both
      have h1 : IntakeAgrees Stream.bare s s1 :=
        .ite (.ite (.of_setStream (State.copyOuts_svi _ _ _ _ _) rfl) (.of_svi (by simp))) (.refl s)
      exact .ite h1 (h1.trans (s1.substTry_agrees c t))

theorem State.setStreamState_agrees (s : State) (i st : Nat) :
    IntakeAgrees Stream.unjudged s (s.setStreamState i st) := by
  unfold State.setStreamState
  exact .ite (.refl s) (.of_setStream (State.sviNote_svi _ _) rfl)

/-- A stream that enters a state is in it. -/
theorem State.state_setStreamState (s : State) (i st : Nat) : ((s.setStreamState i st).stream i).state = st := by
  unfold State.setStreamState
  split
  · assumption
  · rw [State.stream_congr (State.sviNote_svi _ _), State.stream_setStream, if_pos rfl]

/-- Judging an on-time sample changes the stream's state and what it is judged by, and no placement (R179). -/
theorem State.onTimeState_agrees (s : State) (c : StreamCfg) (t : Nat) (good : Bool) :
    IntakeAgrees Stream.unjudged s (s.onTimeState c t good) := by
  unfold State.onTimeState
  extract_lets i x
  have hset {g o : Nat} : IntakeAgrees Stream.unjudged s (s.setStream i { x with goodRun := g, okTime := o }) :=
    .setStream rfl
  have hstate {u : State} (st : Nat) (hu : IntakeAgrees Stream.unjudged s u) :
      IntakeAgrees Stream.unjudged s (u.setStreamState i st) := hu.trans (u.setStreamState_agrees i st)
  split
  · exact .ite (hstate 3 hset) (hstate 4 hset)
  · exact .ite (.refl s) (hstate 4 (hset.trans (State.turnsBad_agrees _ c t none).unjudged))
  · exact .ite (.ite (hstate 3 hset) hset) (hset.trans (State.substTry_agrees _ c t).unjudged)
  · exact (hstate 4 hset).trans (.of_svi (State.logPut_svi _ _ _ _ _ _ _))
  · exact .refl s

/-! ### A sample passes to the chain (R176, R177) -/

/-- No slot of an alignment waits to cut over (R330). -/
theorem State.alignStream_none {s : State} (h : s.pair.items = []) (c : StreamCfg) (t : Nat) :
    s.alignStream c t = s := by
  unfold State.alignStream
  rw [h]
  rfl

/-- A stream whose sample at the place `pos` and the instant `t` the chain has taken. -/
def Stream.passed (x : Stream) (pos t : Nat) (onTime : Bool) : Stream :=
  { x with
    resync := false, gap := if onTime then false else x.gap, next := pos + 1, lastTime := t, placed := true,
    count := (x.count + 1) % 2 ^ 32 }

/-- While no alignment runs, the chain takes a sample and its stream moves on by it (R177, R330). -/
theorem State.passTo_passes {s : State} (h : s.pair.items = []) (c : StreamCfg) (pos t : Nat) (data : List (Nat × Nat))
    (onTime : Bool) :
    (s.passTo c pos t data onTime).stream c.index = (s.stream c.index).passed pos t onTime ∧
      (s.passTo c pos t data onTime).pair = s.pair := by
  unfold State.passTo
  extract_lets i x s1 y s2 s3 z s4 inv
  have h1svi : s1.svi = s.svi := by
    unfold s1
    split
    · exact State.streamRestart_svi _ _ _
    · rfl
  have h1pair : s1.pair = s.pair := by
    unfold s1
    split
    · exact (State.streamRestart_fr (Fr.refl s) (List.Subset.refl _)).same (p := .pair) (by decide)
    · rfl
  have h3pair : s3.pair = s.pair :=
    ((State.chainInput_fr (Fr.refl s2) (List.Subset.refl _)).same (p := .pair) (by decide)).trans h1pair
  have h4 : s4 = s3.setStream i { s3.stream i with count := (x.count + 1) % 2 ^ 32 } :=
    State.alignStream_none (s := s3.setStream i _) ((congrArg PairUnit.items h3pair).trans h) c t
  have h4stream : s4.stream i = x.passed pos t onTime := by
    have h3 : s3.stream i = s2.stream i := State.stream_congr (State.chainInput_svi _ _ _ _ _) i
    have h2 : s2.stream i = { s1.stream i with
        resync := false, gap := if onTime then false else x.gap, next := pos + 1, lastTime := t, placed := true } := by
      rw [State.stream_setStream, if_pos rfl]
    rw [h4, State.stream_setStream, if_pos rfl, h3, h2, State.stream_congr h1svi]
    rfl
  suffices hlast : ∀ u, Fr [.regs] s4 u → u.stream i = x.passed pos t onTime ∧ u.pair = s.pair by
    have hinv : Fr [.regs] s4 inv :=
      .ite (State.svCount_fr (Fr.refl s4) (List.Subset.refl _)) (Fr.refl s4)
    exact hlast _ (.ite (State.svCount_fr hinv (List.Subset.refl _)) hinv)
  intro u hu
  refine ⟨(State.stream_congr (hu.same (p := .svi) (by decide)) i).trans h4stream, ?_⟩
  exact (hu.same (p := .pair) (by decide)).trans ((congrArg State.pair h4).trans h3pair)

/-- A stream that holds the values of an on-time sample. -/
def Stream.valued (x : Stream) (vals : List Nat) : Stream := { x with vals := vals, missRun := 0 }

/-- An on-time sample passes: its values are held from now on, and no place is missing (R176). -/
theorem State.passOnTime_passes {s : State} (h : s.pair.items = []) (c : StreamCfg) (w : Wait) :
    ((s.passOnTime c w).stream c.index).unjudged =
        (((s.stream c.index).passed w.pos w.time true).valued (w.data.map (·.1))).unjudged ∧
      (s.passOnTime c w).pair = s.pair := by
  obtain ⟨hpass, hpair⟩ := State.passTo_passes h c w.pos w.time w.data true
  unfold State.passOnTime
  extract_lets i was s1 y s2 s3
  have h2 : s2.stream i = ((s.stream i).passed w.pos w.time true).valued (w.data.map (·.1)) := by
    rw [State.stream_setStream, if_pos rfl]
    exact congrArg (Stream.valued · _) hpass
  have h3 : IntakeAgrees Stream.unjudged s2 s3 := State.onTimeState_agrees _ _ _ _
  have h4 : IntakeAgrees Stream.unjudged s2 ((s3.substEnd c).partnerTry c was w.time) :=
    (h3.trans (s3.substEnd_agrees c).unjudged).trans (State.partnerTry_agrees _ _ _ _).unjudged
  refine ⟨(h4.stream i).trans (congrArg Stream.unjudged h2), ?_⟩
  have hfr : Fr [.out, .regs, .once, .log, .evt, .prf, .pln, .svi] s2 ((s3.substEnd c).partnerTry c was w.time) :=
    State.partnerTry_fr (State.substEnd_fr (State.onTimeState_fr (Fr.refl s2) (List.Subset.refl _)) (by decide))
      (List.Subset.refl _)
  exact (hfr.same (p := .pair) (by decide)).trans hpair

/-- A stream before and after its next sample passed as missing: it moved on by one place, and the held values stand
(R177). -/
structure Stream.Missed (x y : Stream) : Prop where
  next : y.next = x.next + 1
  missRun : y.missRun = x.missRun + 1
  vals : y.vals = x.vals
  waits : y.waits = x.waits
  count : y.count = (x.count + 1) % 2 ^ 32

/-- Judging a stream leaves that it missed a sample. -/
theorem Stream.Missed.judged {x y z : Stream} (h : x.Missed y) (hz : z.unjudged = y.unjudged) : x.Missed z where
  next := (congrArg Stream.next hz :).trans h.next
  missRun := (congrArg Stream.missRun hz :).trans h.missRun
  vals := (congrArg Stream.vals hz :).trans h.vals
  waits := (congrArg Stream.waits hz :).trans h.waits
  count := (congrArg Stream.count hz :).trans h.count

/-- The last part of `State.passMissing`: a stream is judged by its sample at the instant `t`, which missed the deadline
`due` (R179, R181). -/
def State.judgeMissing (s : State) (c : StreamCfg) (t due rate : Nat) : State :=
  have x := s.stream c.index
  have span := decide (due ≥ x.missFirst + 20 * msUnit * rate)
  have tried :=
    if x.state = 3 then s.turnsBad c t (some due) else if x.state = 2 ∨ x.state = 4 then s.substTry c t else s
  have judged := if x.state = 2 ∨ x.state = 3 then tried.setStreamState c.index 4 else tried
  if span && !decide (x.state = 5) then ((judged.setStreamState c.index 5).raiseRec 323 c.index).substTry c t
  else judged

/-- A missing sample passes to the chain, and then its stream is judged (R177, R179). -/
theorem State.passMissing_eq {s : State} (h : s.pair.items = []) (c : StreamCfg) :
    ∃ (u : State) (t due rate : Nat), s.passMissing c = u.judgeMissing c t due rate ∧
      (s.stream c.index).Missed (u.stream c.index) ∧ (u.stream c.index).state = (s.stream c.index).state ∧
      u.pair = s.pair := by
  unfold State.passMissing
  extract_lets i x pos t rate due run long mark data s1 v s2 s3 s4 s5
  obtain ⟨hpass, hpair⟩ := State.passTo_passes (s := s2) h c pos t data false
  have h2 : s2.stream i = { x with
      missRun := run, missFirst := if x.missRun = 0 then due else x.missFirst, goodRun := 0,
      gap := x.gap || long, missed := addMissed x.missed pos } :=
    (State.stream_congr (s := s1) rfl i).trans ((State.stream_setStream _ _ _ _).trans (if_pos rfl))
  have hfr : Fr [.regs] s3 s5 :=
    have h4 : Fr [.regs] s3 s4 := State.svCount_fr (Fr.refl s3) (List.Subset.refl _)
    .ite (State.svCount_fr h4 (List.Subset.refl _)) h4
  have h5 : s5.stream i = (s2.stream i).passed pos t false :=
    (State.stream_congr (hfr.same (p := .svi) (by decide)) i).trans hpass
  rw [h2] at h5
  exact ⟨s5, t, due, rate, rfl,
    ⟨(congrArg Stream.next h5 :), (congrArg Stream.missRun h5 :), (congrArg Stream.vals h5 :),
      (congrArg Stream.waits h5 :), (congrArg Stream.count h5 :)⟩,
    (congrArg Stream.state h5 :), (hfr.same (p := .pair) (by decide)).trans hpair⟩

theorem State.judgeMissing_fr {l : List Part} {z s : State} (hz : Fr l z s)
    (hl : [.out, .regs, .once, .log, .evt, .prf, .pln, .svi] ⊆ l) (c : StreamCfg) (t due rate : Nat) :
    Fr l z (s.judgeMissing c t due rate) := by
  unfold State.judgeMissing
  extract_lets x span tried judged
  have htried : Fr l z tried := .ite (State.turnsBad_fr hz hl) (.ite (State.substTry_fr hz hl) hz)
  have hjudged : Fr l z judged :=
    .ite (State.setStreamState_fr htried (List.Subset.trans (by decide) hl)) htried
  exact .ite (State.substTry_fr (State.raiseRec_fr (State.setStreamState_fr hjudged (List.Subset.trans (by decide) hl))
    (List.Subset.trans (by decide) hl)) hl) hjudged

/-- A stream that missed a sample is IMPAIRED or LOST, and judging it changes no placement (R179). -/
theorem State.judgeMissing_judges {s : State} {c : StreamCfg} (t due rate : Nat)
    (hlow : 2 ≤ (s.stream c.index).state) (hhigh : (s.stream c.index).state ≤ 5) :
    IntakeAgrees Stream.unjudged s (s.judgeMissing c t due rate) ∧
      (((s.judgeMissing c t due rate).stream c.index).state = 4 ∨
        ((s.judgeMissing c t due rate).stream c.index).state = 5) := by
  unfold State.judgeMissing
  extract_lets x span tried judged
  have htried : IntakeAgrees Stream.bare s tried :=
    .ite (s.turnsBad_agrees c t _) (.ite (s.substTry_agrees c t) (.refl s))
  have hjudged : IntakeAgrees Stream.unjudged s judged :=
    htried.unjudged.trans (.ite (tried.setStreamState_agrees c.index 4) (.refl tried))
  have hstate : (judged.stream c.index).state = 4 ∨ (judged.stream c.index).state = 5 := by
    by_cases hst : x.state = 2 ∨ x.state = 3
    · have heq : judged = tried.setStreamState c.index 4 := if_pos hst
      rw [heq]
      exact .inl (tried.state_setStreamState c.index 4)
    · have heq : judged = tried := if_neg hst
      rw [heq, htried.state]
      change ¬ ((s.stream c.index).state = 2 ∨ (s.stream c.index).state = 3) at hst
      omega
  split
  · have htry := ((judged.setStreamState c.index 5).raiseRec 323 c.index).substTry_agrees c t
    have hlost := (judged.setStreamState_agrees c.index 5).trans (.of_svi (State.raiseRec_svi _ 323 c.index))
    refine ⟨(hjudged.trans hlost).trans htry.unjudged, .inr ?_⟩
    rw [htry.state, State.stream_congr (State.raiseRec_svi _ _ _)]
    exact judged.state_setStreamState c.index 5
  · exact ⟨hjudged, hstate⟩

/-- A stream's next sample passes as missing, and leaves the stream IMPAIRED or LOST (R177, R179). -/
theorem State.passMissing_misses {s : State} {c : StreamCfg} (h : s.pair.items = [])
    (hlow : 2 ≤ (s.stream c.index).state) (hhigh : (s.stream c.index).state ≤ 5) :
    (s.stream c.index).Missed ((s.passMissing c).stream c.index) ∧
      (((s.passMissing c).stream c.index).state = 4 ∨ ((s.passMissing c).stream c.index).state = 5) ∧
      (s.passMissing c).pair = s.pair := by
  obtain ⟨u, t, due, rate, heq, hmissed, hstate, hpair⟩ := State.passMissing_eq h c
  rw [← hstate] at hlow hhigh
  obtain ⟨hagrees, hleft⟩ := State.judgeMissing_judges t due rate hlow hhigh
  have hfr := State.judgeMissing_fr (Fr.refl u) (List.Subset.refl _) c t due rate
  rw [heq]
  exact ⟨hmissed.judged (hagrees.stream c.index), hleft, (hfr.same (p := .pair) (by decide)).trans hpair⟩

/-! ### A deadline passes (R177, R179) -/

theorem State.streamCfg_index {s : State} {i : Nat} {c : StreamCfg} (h : s.streamCfg i = some c) : c.index = i :=
  of_decide_eq_true (List.find?_some (p := fun c : StreamCfg => decide (c.index = i)) h)

theorem State.drainWaits_none {s : State} {c : StreamCfg} (h : (s.stream c.index).waits = []) (fuel : Nat) :
    s.drainWaits c fuel = s := by
  cases fuel with
  | zero => rfl
  | succ fuel =>
    unfold State.drainWaits
    simp only [h]

/-- At its deadline the next sample of a stream on which none waits passes as missing, and nothing follows it. -/
theorem sampleDeadline_eq {s : State} {i : Nat} {c : StreamCfg} (hc : s.streamCfg i = some c)
    (hitems : s.pair.items = []) (hlow : 2 ≤ (s.stream i).state) (hhigh : (s.stream i).state ≤ 5)
    (hwaits : (s.stream i).waits = [])
    (hdue : deadline c s.frameRate (streamTime c (s.stream i) (s.stream i).next) ≤ s.now * s.frameRate) :
    sampleDeadline i s = s.passMissing c := by
  obtain rfl := State.streamCfg_index hc
  have hmiss := (State.passMissing_misses hitems hlow hhigh).1
  unfold sampleDeadline
  simp only [hc, if_neg (Nat.not_lt.mpr hlow), if_pos hdue]
  exact State.drainWaits_none (hmiss.waits.trans hwaits) _

/-- A part that may change but is the same need not be listed. -/
theorem Changes.drop {p : Part} {l : List Part} {s t : State} (h : Changes (p :: l) s t) (hp : p.same s t) :
    Changes l s t :=
  ⟨fun q hq => by
    by_cases hqp : q = p
    · rw [hqp]
      exact hp
    · exact h.same q (List.not_mem_cons_of_ne_of_not_mem hqp hq)⟩

/-! ### A frame is received (R162 to R164, R170) -/

theorem svFrameRx_malformed {f : SvFrame} {s : State} (hload : s.img.loaded = true)
    (hmal : f.wellFormed = false ∨ f.asdus.length = 0 ∨ 8 < f.asdus.length) :
    svFrameRx f s = s.count 0x300014 := by
  unfold svFrameRx
  rw [if_neg (by simp [hload]), if_pos hmal]

section

variable {f : SvFrame} {s : State} (hload : s.img.loaded = true)
  (hform : ¬ (f.wellFormed = false ∨ f.asdus.length = 0 ∨ 8 < f.asdus.length))
include hload hform

theorem svFrameRx_unsupported (hopt : f.unsupported = true) : svFrameRx f s = s.count 0x300018 := by
  unfold svFrameRx
  rw [if_neg (by simp [hload]), if_neg hform, if_pos hopt]

theorem svFrameRx_unmatched (hopt : f.unsupported = false) (hmatch : s.sviMatch f = none) :
    svFrameRx f s =
      ({ s with svi := { s.svi with lastNoMatch := f.appid } }.count 0x300010).raiseOnce 327 0 := by
  unfold svFrameRx
  rw [if_neg (by simp [hload]), if_neg hform, if_neg (by simp [hopt]), hmatch]

/-- A simulated frame without acceptance counts, and so does one that is not while the stream takes simulated ones
(R164). -/
theorem svFrameRx_simulated {c : StreamCfg} (hopt : f.unsupported = false) (hmatch : s.sviMatch f = some c)
    (hsim : (f.sim = true ∧ (s.glb.mode ≠ .test ∨ c.acceptSim = false)) ∨
      (f.sim = false ∧ (s.stream c.index).sim = true)) : svFrameRx f s = s.svCount c.index 12 1 := by
  unfold svFrameRx
  rw [if_neg (by simp [hload]), if_neg hform, if_neg (by simp [hopt]), hmatch]
  refine if_pos ?_
  obtain ⟨hf, hmode | hacc⟩ | ⟨hf, hx⟩ := hsim
  · simp [hf, hmode]
  · simp [hf, hacc]
  · simp [hf, hx]

/-- A frame that is not simulated, on a stream that takes no simulated ones and asks for no tag, is not verified. -/
theorem svFrameRx_untagged {c : StreamCfg} (hopt : f.unsupported = false) (hmatch : s.sviMatch f = some c)
    (hsim : f.sim = false) (hxsim : (s.stream c.index).sim = false) (htag : c.fieldAt 0x20 1 = 0) :
    svFrameRx f s = s.sviAccept c f (s.now - f.ago) := by
  unfold svFrameRx
  rw [if_neg (by simp [hload]), if_neg hform, if_neg (by simp [hopt]), hmatch]
  refine (if_neg (by simp [hsim, hxsim])).trans ?_
  unfold State.sviVerify
  exact if_pos htag

end

/-- An ASDU that is globally synchronised, and neither early, late nor repeated, is taken at its SmpCnt's place (R162,
R170). -/
theorem State.asdu_takes {s : State} {c : StreamCfg} {f : SvFrame} {a : SvAsdu} {pos ts : Nat} (k : Nat)
    (hcyc : a.smpCnt < c.cycleCount) (hsync : globalSync c a.smpSynch = true)
    (harr : (s.stream c.index).arrival = false) (hpos : syncPos c a.smpCnt ts = pos)
    (hok : s.asduBad c pos ts = none) :
    s.asdu c f a k ts = (s.asduTake c f a pos (streamTime c (s.stream c.index) pos) ts, true) := by
  have hplace : s.place c a f.asdus.length k ts = (s, some pos) := by
    unfold State.place
    simp only [hsync, harr, hpos, ↓reduceIte, Bool.false_eq_true]
  unfold State.asdu
  rw [if_neg (Nat.not_le.mpr hcyc), hplace]
  simp only [hok]

/-- A frame of one such ASDU is counted as accepted (R162, R186). -/
theorem State.sviAccept_takes {s : State} {c : StreamCfg} {f : SvFrame} {a : SvAsdu} {ts : Nat} {u : State}
    (hone : f.asdus = [a]) (hrev : a.confRev = c.fieldAt 0x18 4) (hshape : shapeOk c f = true)
    (hstate : 2 ≤ (s.stream c.index).state) (htake : s.asdu c f a 0 ts = (u, true)) :
    s.sviAccept c f ts = ((u.svCount c.index 0 1).prfIntake 0 1).prfIntake 1 1 := by
  have hasdus : s.asdus c f ts f.asdus 0 0 = (u, 1) := by
    rw [hone, State.asdus, htake]
    rfl
  unfold State.sviAccept
  rw [if_neg (by simp [hone, hrev]), if_neg (by simp [hshape]), if_neg (Nat.not_lt.mpr hstate), hasdus]
  rfl

/-- A stream that keeps the synchronisation, the SmpCnt and the place of an accepted ASDU. -/
def Stream.heard (x : Stream) (a : SvAsdu) (pos : Nat) : Stream :=
  { x with smpSynch := a.smpSynch % 256, smpCnt := a.smpCnt, lastPos := pos }

/-- An accepted ASDU that is the next one of its stream passes at once (R176). -/
theorem State.asduTake_passes {s : State} {c : StreamCfg} {f : SvFrame} {a : SvAsdu} {pos : Nat} (t ts : Nat)
    (hitems : s.pair.items = []) (hsim : f.sim = false) (harr : (s.stream c.index).arrival = false)
    (hwaits : (s.stream c.index).waits = []) (hnext : pos = (s.stream c.index).next) :
    ((s.asduTake c f a pos t ts).stream c.index).unjudged =
        ((((s.stream c.index).heard a pos).passed pos t true).valued
          ((asduData c a false (decide (s.glb.mode = .test))).map (·.1))).unjudged ∧
      (s.asduTake c f a pos t ts).pair = s.pair := by
  unfold State.asduTake
  extract_lets i s1 rate s2 y s3 w x4 s4 x5
  have h1 : s1 = s := if_neg (by simp [hsim])
  have h2 : Fr [.regs] s s2 := by
    unfold s2
    rw [h1]
    exact State.margin_fr (Fr.refl s) (List.Subset.refl _)
  have h3 : s3.stream i = (s.stream i).heard a pos := by
    rw [State.stream_setStream, if_pos rfl]
    exact congrArg (Stream.heard · a pos) (State.stream_congr (h2.same (p := .svi) (by decide)) i)
  have h4 : s4 = s3 := if_neg (by rw [show x4.arrival = false from (congrArg Stream.arrival h3).trans harr]; simp)
  have hw : w.data = asduData c a false (decide (s.glb.mode = .test)) := by
    rw [← hsim, ← h2.same (p := .glb) (by decide)]
    rfl
  have hpair : s4.pair = s.pair := (congrArg State.pair h4).trans (h2.same (p := .pair) (by decide))
  have h4stream : s4.stream i = (s.stream i).heard a pos := (congrArg (State.stream · i) h4).trans h3
  obtain ⟨hpass, hkeep⟩ := State.passOnTime_passes ((congrArg PairUnit.items hpair).trans hitems) c w
  rw [h4stream, hw] at hpass
  have hnone : ((s4.passOnTime c w).stream c.index).waits = [] := (congrArg Stream.waits hpass :).trans hwaits
  rw [if_pos (hnext.trans (congrArg Stream.next h4stream).symm), State.drainWaits_none hnone]
  exact ⟨hpass, hkeep.trans hpair⟩

/-- A frame whose one ASDU is the next sample of its stream: its values pass, and no alignment is touched. -/
theorem State.sviAccept_passes {s : State} {c : StreamCfg} {f : SvFrame} {a : SvAsdu} {pos ts : Nat}
    (hitems : s.pair.items = []) (hsim : f.sim = false) (hone : f.asdus = [a]) (hrev : a.confRev = c.fieldAt 0x18 4)
    (hshape : shapeOk c f = true) (hstate : 2 ≤ (s.stream c.index).state) (hcyc : a.smpCnt < c.cycleCount)
    (hsync : globalSync c a.smpSynch = true) (harr : (s.stream c.index).arrival = false)
    (hwaits : (s.stream c.index).waits = []) (hpos : syncPos c a.smpCnt ts = pos)
    (hnext : pos = (s.stream c.index).next) (hok : s.asduBad c pos ts = none) :
    ((s.sviAccept c f ts).stream c.index).unjudged =
        ((((s.stream c.index).heard a pos).passed pos (rateInstant pos c.rate) true).valued
          ((asduData c a false (decide (s.glb.mode = .test))).map (·.1))).unjudged ∧
      Changes [.out, .regs, .once, .log, .evt, .prf, .pln, .svi, .cnd] s (s.sviAccept c f ts) := by
  have htime : streamTime c (s.stream c.index) pos = rateInstant pos c.rate := if_neg (by simp [harr])
  have htake := State.asdu_takes (f := f) 0 hcyc hsync harr hpos hok
  rw [htime] at htake
  obtain ⟨hstream, hpair⟩ := State.asduTake_passes (rateInstant pos c.rate) ts hitems hsim harr hwaits hnext (a := a)
  rw [State.sviAccept_takes hone hrev hshape hstate htake]
  generalize hu : s.asduTake c f a pos (rateInstant pos c.rate) ts = u at hstream hpair ⊢
  have htaken : Fr [.pair, .out, .regs, .once, .log, .evt, .prf, .pln, .svi, .cnd] s u := by
    rw [← hu]
    exact State.asduTake_fr (Fr.refl s) (by decide)
  have hfr : Fr [.out, .regs, .once, .evt, .prf] u (((u.svCount c.index 0 1).prfIntake 0 1).prfIntake 1 1) :=
    State.prfIntake_fr (State.prfIntake_fr (State.svCount_fr (Fr.refl u) (by decide)) (List.Subset.refl _))
      (List.Subset.refl _)
  refine ⟨?_, (htaken.ch.trans (hfr.ch.mono (by decide))).drop ?_⟩
  · rw [State.stream_congr (hfr.same (p := .svi) (by decide)), hstream]
  · exact (hfr.same (p := .pair) (by decide)).trans hpair

/-! ### Forced substitution (R184, R187) -/

/-- A command of the intake waits for its target tick. -/
def State.sviPlanned (s : State) (code arg n : Nat) : State :=
  { s.setCmd sviCmdReg { code := code, pending := true, status := 1, runCode := code, runArg := arg } with
    svi := { s.svi with pend := some { force := decide (code = 1), stream := arg, target := n } } }

theorem State.sviPlan_plans {s : State} {code arg n : Nat} (hready : s.Ready sviCmdReg)
    (htick : s.targetTick 0x300020 0x300024 = some n) (harg : arg < 2048) {c : StreamCfg}
    (hc : s.streamCfg arg = some c) : s.sviPlan code 0 arg true = s.sviPlanned code arg n := by
  unfold State.sviPlan
  rw [htick]
  exact State.runCmd_run hready rfl (by simp [harg, hc]) rfl

theorem State.sviPlanned_runs (s : State) (code arg n : Nat) : (s.sviPlanned code arg n).Runs sviCmdReg code arg := by
  have hcmd : (s.sviPlanned code arg n).cmd sviCmdReg =
      { code := code, pending := true, status := 1, runCode := code, runArg := arg } := State.cmd_setCmd_same _ _ _
  unfold State.Runs
  simp only [hcmd, and_self]

theorem State.sviPlanned_fr {l : List Part} {z s : State} (hz : Fr l z s) (hl : [.cmds, .svi] ⊆ l) (code arg n : Nat) :
    Fr l z (s.sviPlanned code arg n) :=
  (State.setCmd_fr hz (List.Subset.trans (by decide) hl)).upd (c20 := .inl (hl (by decide)))

/-- SUBST_FORCE is accepted for a stream whose partner is healthy (R187). -/
theorem substForce_plans {s : State} {arg n p : Nat} {c : StreamCfg} (hready : s.Ready sviCmdReg)
    (htick : s.targetTick 0x300020 0x300024 = some n) (harg : arg < 2048) (hc : s.streamCfg arg = some c)
    (hframes : s.inFrames = true) (hon : c.substOn = true) (hp : c.partner = some p) (hhealthy : s.healthy p = true) :
    substForce 0 arg s = s.sviPlanned 1 arg n := by
  unfold substForce
  simp only [hc, hframes, hon, hp, hhealthy, Bool.and_self]
  exact State.sviPlan_plans hready htick harg hc

/-- SUBST_RELEASE is accepted for a stream that is FORCED (R187). -/
theorem substRelease_plans {s : State} {arg n : Nat} {c : StreamCfg} (hready : s.Ready sviCmdReg)
    (htick : s.targetTick 0x300020 0x300024 = some n) (harg : arg < 2048) (hc : s.streamCfg arg = some c)
    (hframes : s.inFrames = true) (hforced : (s.stream arg).forced = true) :
    substRelease 0 arg s = s.sviPlanned 2 arg n := by
  unfold substRelease
  rw [hframes, hforced]
  exact State.sviPlan_plans hready htick harg hc

/-- No command of the intake waits any more, and a stream is FORCED or not. -/
def State.setForced (s : State) (i : Nat) (on : Bool) : State :=
  { s with svi := { s.svi with pend := none } }.setStream i { s.stream i with forced := on }

theorem State.stream_setForced (s : State) (i : Nat) (on : Bool) :
    (s.setForced i on).stream i = { s.stream i with forced := on } :=
  (State.stream_setStream _ _ _ _).trans (if_pos rfl)

/-- The command that applies at a target tick is DONE, none waits any more, and its stream is FORCED or not. -/
theorem IntakeAgrees.setForced_done {s t : State} {i : Nat} {on : Bool}
    (h : IntakeAgrees Stream.bare (s.setForced i on) t) :
    (t.cmdDone sviCmdReg).svi.pend = none ∧ ((t.cmdDone sviCmdReg).stream i).forced = on ∧
      ((t.cmdDone sviCmdReg).cmd sviCmdReg).status = 2 ∧ ((t.cmdDone sviCmdReg).cmd sviCmdReg).pending = false := by
  have hforced : (t.stream i).forced = ((s.setForced i on).stream i).forced := (congrArg Stream.forced (h.stream i) :)
  rw [State.stream_setForced] at hforced
  rw [State.cmdDone_svi, State.stream_congr (State.cmdDone_svi t sviCmdReg), State.cmd_cmdDone]
  exact ⟨h.pend, hforced, rfl, rfl⟩

/-- At its target tick a forced substitution has begun, whatever the stream's state (R184). -/
theorem substForceApply_begins {s : State} {p : SviPend} (hpend : s.svi.pend = some p) (hforce : p.force = true) :
    ∃ t, substForceApply s = t.cmdDone sviCmdReg ∧
      IntakeAgrees Stream.bare (s.setForced p.stream true) t ∧
      ∀ c q qc, s.streamCfg p.stream = some c → c.partner = some q → s.streamCfg q = some qc →
        (s.stream p.stream).substituting = false →
        (t.stream p.stream).subst = some { start := tickTime p.target s.frameRate, stop := none } := by
  unfold substForceApply
  split
  · rename_i hnone
    cases hpend.symm.trans hnone
  · rename_i q hsome
    obtain rfl : p = q := Option.some.inj (hpend.symm.trans hsome)
    rw [if_pos hforce]
    extract_lets v s1 y s2 s3
    have h2 : s2 = s.setForced p.stream true := rfl
    refine ⟨s3, rfl, ?_, fun c q qc hc hq hqc hsub => ?_⟩
    · rw [← h2]
      unfold s3
      split
      · exact .refl s2
      · exact .ite (.refl s2) (s2.substStart_agrees _ _)
    · have hsub' : ¬ (s2.stream p.stream).substituting = true := by
        rw [h2, State.stream_setForced]
        exact Bool.eq_false_iff.mp hsub
      have h3 : s3 = s2.substStart c (tickTime p.target s.frameRate) := by
        unfold s3
        rw [show s2.streamCfg p.stream = some c from hc]
        exact if_neg hsub'
      have hbegin := State.substStart_subst (s := s2) (tickTime p.target s.frameRate) hq hqc
      rw [State.streamCfg_index hc] at hbegin
      rw [h3]
      exact hbegin

/-- At its target tick FORCED is cleared, and nothing else of a stream but its substitution changes (R183, R187). -/
theorem substReleaseApply_ends {s : State} {p : SviPend} (hpend : s.svi.pend = some p) (hforce : p.force = false) :
    ∃ t, substReleaseApply s = t.cmdDone sviCmdReg ∧ IntakeAgrees Stream.bare (s.setForced p.stream false) t := by
  unfold substReleaseApply
  simp only [hpend, hforce, Bool.false_eq_true, ↓reduceIte]
  refine ⟨_, rfl, ?_⟩
  split
  · exact .refl _
  · exact State.substEnd_agrees _ _

/-! ### The passing of time -/

@[simp] theorem State.stream_elapse (s : State) (dt i : Nat) : (s.elapse dt).stream i = s.stream i :=
  State.stream_congr (State.elapse_svi s dt) i

@[simp] theorem State.streamCfgs_elapse (s : State) (dt : Nat) : (s.elapse dt).streamCfgs = s.streamCfgs := by
  simp only [State.streamCfgs, State.elapse_img]

@[simp] theorem State.streamCfg_elapse (s : State) (dt i : Nat) : (s.elapse dt).streamCfg i = s.streamCfg i := by
  simp only [State.streamCfg, State.streamCfgs_elapse]

@[simp] theorem State.sviMatch_elapse (s : State) (dt : Nat) (f : SvFrame) :
    (s.elapse dt).sviMatch f = s.sviMatch f := by
  simp only [State.sviMatch, State.streamCfgs_elapse]

@[simp] theorem State.asduBad_elapse (s : State) (dt : Nat) (c : StreamCfg) (pos ts : Nat) :
    (s.elapse dt).asduBad c pos ts = s.asduBad c pos ts := by
  simp only [State.asduBad, State.stream_elapse, State.frameRate_elapse]

@[simp] theorem State.healthy_elapse (s : State) (dt i : Nat) : (s.elapse dt).healthy i = s.healthy i := by
  have hslot : (s.elapse dt).slot = s.slot := funext (State.slot_congr (State.elapse_cnd s dt))
  simp only [State.healthy, State.streamCfg_elapse, State.stream_elapse, State.streamSettled, hslot]

@[simp] theorem State.inFrames_elapse (s : State) (dt : Nat) : (s.elapse dt).inFrames = s.inFrames := by
  simp only [State.inFrames, State.elapse_glb]

/-- Settles O39: a frame that is not taken comes to one counter, the next sample of a stream and one that misses its
deadline pass to the chain and are then judged, and a forced substitution changes its own stream's. -/
theorem intakePassesSamples : Obligations.IntakePassesSamples := by
  unfold Obligations.IntakePassesSamples
  refine ⟨fun dt f s hload => ⟨fun hmal => ?_, fun hwf hne hle => ?_⟩,
    fun dt i c s hc hlow hhigh hwaits hitems hdue => ?_, fun dt n arg c s hready htick harg hc hframes => ?_,
    fun dt p s hpend => ?_⟩
  · rw [← State.elapse_img s dt] at hload
    rw [← State.rd_congr (State.elapse_regs s dt)]
    refine ⟨_, congrArg Host.Outcome.next (svFrameRx_malformed hload hmal), State.rd_wr_same _ _ _, ?_⟩
    exact (State.count_fr (State.elapse_fr (Fr.refl s) (by decide)) (by decide)).ch
  · have hform : ¬ (f.wellFormed = false ∨ f.asdus.length = 0 ∨ 8 < f.asdus.length) := by
      simp [hwf, hne, hle]
    rw [← State.elapse_img s dt] at hload
    rw [← State.sviMatch_elapse s dt]
    refine ⟨fun hopt => ?_, fun hopt hmatch => ?_, fun c hopt hmatch hsim => ?_, ?_⟩
    · rw [← State.rd_congr (State.elapse_regs s dt)]
      refine ⟨_, congrArg Host.Outcome.next (svFrameRx_unsupported hload hform hopt), State.rd_wr_same _ _ _, ?_⟩
      exact (State.count_fr (State.elapse_fr (Fr.refl s) (by decide)) (by decide)).ch
    · rw [← State.rd_congr (State.elapse_regs s dt), ← State.elapse_svi s dt]
      refine ⟨_, congrArg Host.Outcome.next (svFrameRx_unmatched hload hform hopt hmatch), ?_, ?_, ?_⟩
      · exact (State.rd_raiseOnce_ne _ 0 rfl (by decide) (by decide)).trans (State.rd_wr_same _ _ _)
      · rw [State.raiseOnce_svi, State.count_svi]
      · exact (State.raiseOnce_fr (State.count_fr (Fr.upd (State.elapse_fr (Fr.refl s) (by decide))
          (c20 := .inl (by decide))) (by decide)) (by decide)).ch
    · rw [← State.elapse_glb s dt, ← State.stream_elapse s dt] at hsim
      rw [← State.rd_congr (State.elapse_regs s dt)]
      have hindex := c.index_lt
      refine ⟨_, congrArg Host.Outcome.next (svFrameRx_simulated hload hform hopt hmatch hsim),
        State.rd_svCount (c := 12) _ 1 (by omega), ?_⟩
      exact (State.svCount_fr (State.elapse_fr (Fr.refl s) (by decide)) (by decide)).ch
    · intro c a pos hopt hmatch hsim hxsim htag hone hrev hshape hstate hcyc hsync harr hwaits hitems hpos hnext hok
      rw [← State.stream_elapse s dt] at hxsim hstate harr hwaits hnext ⊢
      rw [← State.elapse_pair s dt] at hitems
      rw [← State.asduBad_elapse s dt] at hok
      rw [← State.elapse_glb s dt]
      obtain ⟨hpass, hch⟩ := State.sviAccept_passes hitems hsim hone hrev hshape hstate hcyc hsync harr hwaits hpos
        hnext hok
      exact ⟨_, congrArg Host.Outcome.next (svFrameRx_untagged hload hform hopt hmatch hsim hxsim htag),
        (congrArg Stream.next hpass :), (congrArg Stream.lastTime hpass :), (congrArg Stream.vals hpass :),
        (congrArg Stream.missRun hpass :), (congrArg Stream.count hpass :), (congrArg Stream.smpCnt hpass :),
        ((s.elapse_changes dt).mono (by decide)).trans (hch.mono (by decide))⟩
  · rw [← State.stream_elapse s dt] at hlow hhigh hwaits hdue ⊢
    rw [← State.elapse_pair s dt] at hitems
    rw [← State.streamCfg_elapse s dt] at hc
    rw [← State.frameRate_elapse s dt] at hdue
    have heq := sampleDeadline_eq hc hitems hlow hhigh hwaits hdue
    rw [← State.streamCfg_index hc] at hlow hhigh ⊢
    obtain ⟨hmiss, hleft, hpair⟩ := State.passMissing_misses hitems hlow hhigh
    have hfr : Fr [.pair, .cnd, .evt, .log, .once, .out, .pln, .prf, .regs, .svi, .time] s
        ((s.elapse dt).passMissing c) :=
      State.passMissing_fr (State.elapse_fr (Fr.refl s) (by decide)) (by decide)
    exact ⟨_, congrArg Host.Outcome.next heq, hmiss.next, hmiss.missRun, hmiss.vals, hmiss.count, hleft,
      hfr.ch.drop (hpair.trans (State.elapse_pair s dt))⟩
  · rw [← State.streamCfg_elapse s dt] at hc
    rw [← State.inFrames_elapse s dt] at hframes
    rw [← State.elapse_svi s dt]
    replace hready := hready.elapse dt
    refine ⟨fun p hon hp hhealthy => ?_, fun hforced => ?_⟩
    · rw [← State.healthy_elapse s dt] at hhealthy
      refine ⟨_, congrArg Host.Outcome.next (substForce_plans hready htick harg hc hframes hon hp hhealthy),
        State.sviPlanned_runs _ _ _ _, rfl, ?_⟩
      exact (State.sviPlanned_fr (State.elapse_fr (Fr.refl s) (by decide)) (by decide) _ _ _).ch
    · rw [← State.stream_elapse s dt] at hforced
      refine ⟨_, congrArg Host.Outcome.next (substRelease_plans hready htick harg hc hframes hforced),
        State.sviPlanned_runs _ _ _ _, rfl, ?_⟩
      exact (State.sviPlanned_fr (State.elapse_fr (Fr.refl s) (by decide)) (by decide) _ _ _).ch
  · rw [← State.elapse_svi s dt] at hpend
    simp only [← State.streamCfg_elapse s dt, ← State.stream_elapse s dt, ← State.frameRate_elapse s dt]
    refine ⟨fun hforce => ?_, fun hforce => ?_⟩
    · obtain ⟨u, heq, hagrees, hbegins⟩ := substForceApply_begins hpend hforce
      obtain ⟨hnone, hforced, hstatus, hfree⟩ := hagrees.setForced_done
      have hfr := substForceApply_fr (State.elapse_fr (l := [.cmds, .evt, .log, .once, .out, .pln, .prf, .regs, .svi,
        .time]) (Fr.refl s) (dt := dt) (by decide)) (by decide)
      rw [heq] at hfr
      refine ⟨_, congrArg Host.Outcome.next heq, hnone, hforced, ?_, hstatus, hfree, hfr.ch⟩
      rw [State.stream_congr (State.cmdDone_svi _ _)]
      exact hbegins
    · obtain ⟨u, heq, hagrees⟩ := substReleaseApply_ends hpend hforce
      obtain ⟨hnone, hforced, hstatus, hfree⟩ := hagrees.setForced_done
      have hfr := substReleaseApply_fr (State.elapse_fr (l := [.cmds, .evt, .log, .pln, .regs, .svi, .time])
        (Fr.refl s) (dt := dt) (by decide)) (by decide)
      rw [heq] at hfr
      exact ⟨_, congrArg Host.Outcome.next heq, hnone, hforced, hstatus, hfree, hfr.ch⟩

end Sys2Proof.Machine
end

section
/-!
SUPPORT. Errors of the chain and of the sample plane (R216, R234): what a fault and an error in a ring entry leave, and
what a saturating counter reads.
-/

namespace Sys2Proof.Machine

open Sys2Proof

/-! ### Faults that do not act (R320) -/

/-- In the other modes a fault of a block leads nowhere (R32). -/
theorem State.fault_none {s : State} (k : FaultKind) (blk inst : Nat) (hmode : s.faultMode = false) :
    s.fault k blk inst = s := by
  unfold State.fault
  rw [hmode, Bool.and_false]
  exact if_neg Bool.false_ne_true

theorem chainFault_entered {s : State} (ecc : Bool) (hmode : s.faultMode = true) :
    Entered .degraded (if ecc then 0x0E else 0x19) s (chainFault ecc s) := by
  have hglb := State.raiseRec_glb s 389 0x3FF
  have hmode' : (s.raiseRec 389 0x3FF).faultMode = true := (State.faultMode_congr hglb).trans hmode
  cases ecc with
  | true => exact (State.fault_entered (k := .ecc) 0x07 0xFF rfl hmode').congr (congrArg GlbUnit.mode hglb) rfl
  | false => exact (State.fault_entered (k := .selfCheck) 0x07 0xFF rfl hmode').congr (congrArg GlbUnit.mode hglb) rfl

theorem chainFault_raised {s : State} (ecc : Bool) (hmode : s.faultMode = false) :
    chainFault ecc s = s.raiseRec 389 0x3FF :=
  State.fault_none _ _ _ ((State.faultMode_congr (State.raiseRec_glb s 389 0x3FF)).trans hmode)

/-! ### An error in a ring entry (R234) -/

theorem State.rd_raiseRec_ne (s : State) {src a c : Nat} (inst : Nat) (h : (evLoc src).map (·.1) = some c)
    (hac : a ≠ c) (ha : a < 0x12000 ∨ 0x12020 ≤ a) (hlog : a < 0xB00028 ∨ 0xB00038 < a) :
    (s.raiseRec src inst).rd a = s.rd a :=
  (State.rd_logPut_ne _ _ _ _ _ _ _ hlog ha).trans (State.rd_setEvent_ne _ (evLoc_ne h hac) ha)

theorem State.ringEcc_notes (s : State) (a : Nat) :
    (s.ringEcc a).pln = { s.pln with eccAddr := a, poison := insNat s.pln.poison a } ∧
      (s.ringEcc a).rd 0x500018 = satInc (s.rd 0x500018) ∧ (s.ringEcc a).evSet 24 = true := by
  unfold State.ringEcc
  extract_lets u
  refine ⟨?_, ?_, State.evSet_raiseRec _ _ rfl⟩
  · rw [State.raiseRec_pln, State.count_pln]
  · rw [State.rd_raiseRec_ne _ _ rfl (by decide) (by decide) (by decide)]
    exact State.rd_wr_same _ _ _

/-! ### Scrubs (R234, R236) -/

/-- A register that a command was started in runs it. -/
theorem State.setCmd_runs (s : State) (r code arg : Nat) :
    (s.setCmd r { code := code, pending := true, status := 1, runCode := code, runArg := arg }).Runs r code arg := by
  unfold State.Runs
  simp only [State.cmd_setCmd_same, and_self]

theorem scrub_runs {s : State} (hready : s.Ready plnCmdReg) (hboot : s.afterBoot = true) :
    scrub 0 0 s = { s.setCmd plnCmdReg { code := 1, pending := true, status := 1, runCode := 1, runArg := 0 } with
      pln := { s.pln with scrub := true } } :=
  State.runCmd_run hready rfl rfl hboot

theorem scrubDone_ends {s : State} (h : s.pln.scrub = true) :
    scrubDone s = ({ s with pln := { s.pln with scrub := false } }).cmdDone plnCmdReg := if_pos h

/-- A saturating counter stops at its largest value. -/
theorem satAdd_toNat (x : Word) (n : Nat) : (satAdd x n).toNat = min (x.toNat + n) 0xFFFFFFFF := by
  unfold satAdd
  split
  · simp only [BitVec.toNat_ofNat]
    omega
  · rw [BitVec.toNat_ofNat]
    omega

/-- Settles O42: a fault of the chain and one outside the rings act where the mode lets a fault act, an error in a ring
entry is noted by `State.ringEcc`, and the background scrub writes one saturating counter. -/
theorem planeErrorsAndScrubs : Obligations.PlaneErrorsAndScrubs := by
  unfold Obligations.PlaneErrorsAndScrubs
  have helapse {l : List Part} (hl : [.time, .log] ⊆ l) (dt : Nat) (s : State) : Fr l s (s.elapse dt) :=
    State.elapse_fr (Fr.refl s) hl
  refine ⟨fun dt ecc s => ?_, fun dt a s => ⟨fun hring => ?_, fun hring => ?_, fun hring => ?_⟩,
    fun dt s => ⟨fun hready hboot => ?_, fun hscrub => ?_⟩, fun dt n s => ?_⟩
  · rw [← State.faultMode_congr (State.elapse_glb s dt)]
    refine ⟨fun hmode => ⟨_, rfl, ?_⟩, fun hmode => ?_⟩
    · exact (chainFault_entered ecc hmode).congr (congrArg GlbUnit.mode (State.elapse_glb s dt)) rfl
    · exact ⟨_, congrArg Host.Outcome.next (chainFault_raised ecc hmode), State.evSet_raiseRec _ _ rfl,
        (State.raiseRec_fr (helapse (by decide) dt s) (by decide)).ch⟩
  · rw [← State.elapse_pln s dt, ← State.rd_congr (State.elapse_regs s dt)]
    obtain ⟨hpln, hcount, hev⟩ := (s.elapse dt).ringEcc_notes a
    exact ⟨_, congrArg Host.Outcome.next (if_pos hring), hpln, hcount, hev,
      (State.ringEcc_fr (helapse (by decide) dt s) (by decide)).ch⟩
  · rw [← State.faultMode_congr (State.elapse_glb s dt)]
    intro hmode
    refine ⟨_, congrArg Host.Outcome.next (if_neg (not_not_intro hring)), ?_⟩
    exact (State.fault_entered (k := .ecc) 0x08 0xFF rfl hmode).congr
      (congrArg GlbUnit.mode (State.elapse_glb s dt)) rfl
  · rw [← State.faultMode_congr (State.elapse_glb s dt)]
    intro hmode
    refine ⟨_, congrArg Host.Outcome.next (if_neg (not_not_intro hring)), ?_⟩
    rw [State.fault_none _ _ _ hmode]
    exact s.elapse_changes dt
  · rw [← State.afterBoot_elapse s dt] at hboot
    rw [← State.elapse_pln s dt]
    refine ⟨_, congrArg Host.Outcome.next (scrub_runs (hready.elapse dt) hboot), ?_, rfl, ?_⟩
    · exact State.setCmd_runs (s.elapse dt) plnCmdReg 1 0
    · exact (Fr.upd (State.setCmd_fr (helapse (by decide) dt s) (by decide)) (c19 := .inl (by decide))).ch
  · rw [← State.elapse_pln s dt] at hscrub ⊢
    rw [← State.cmd_elapse s dt]
    refine ⟨_, congrArg Host.Outcome.next (scrubDone_ends hscrub), State.cmdDone_pln _ _, State.isDone_cmdDone rfl,
      State.evSet_cmdDone _ rfl rfl, ?_⟩
    exact (State.cmdDone_fr (Fr.upd (helapse (by decide) dt s) (c19 := .inl (by decide))) (by decide)).ch
  · rw [← State.rd_congr (State.elapse_regs s dt)]
    refine ⟨_, rfl, ?_, fun b hb => ?_, (State.countBy_fr (helapse (by decide) dt s) (by decide)).ch⟩
    · exact (congrArg BitVec.toNat (State.rd_wr_same _ _ _)).trans (satAdd_toNat _ _)
    · exact (State.rd_wr_ne _ _ hb).trans (State.rd_congr (State.elapse_regs s dt) b)

end Sys2Proof.Machine
end

section
/-!
SUPPORT. The outputs of the chain: what the passing of time leaves of a slot's and a group's inputs, how a lattice
reaches a slot's next instant (R202), what a grid sample adds to its slot (R199), and which source a group takes its
frequency from (R204, R205).
-/

namespace Sys2Proof.Machine

open Sys2Proof

/-! ### The passing of time -/

@[simp] theorem State.slotCfg_elapse (s : State) (dt k : Nat) : (s.elapse dt).slotCfg k = s.slotCfg k := by
  simp only [State.slotCfg, State.streamCfgs_elapse]

@[simp] theorem State.slot_elapse (s : State) (dt k : Nat) : (s.elapse dt).slot k = s.slot k :=
  State.slot_congr (State.elapse_cnd s dt) k

@[simp] theorem State.group_elapse (s : State) (dt g : Nat) : (s.elapse dt).group g = s.group g :=
  State.group_congr (State.elapse_cnd s dt) g

@[simp] theorem State.latPts_elapse (s : State) (dt t : Nat) : (s.elapse dt).latPts t = s.latPts t := by
  simp only [State.latPts, State.elapse_cnd]

@[simp] theorem State.gridInstant_elapse (s : State) (dt g v n : Nat) :
    (s.elapse dt).gridInstant g v n = s.gridInstant g v n := by
  simp only [State.gridInstant, State.latPts_elapse]

@[simp] theorem State.fgField_elapse (s : State) (dt g o n : Nat) : (s.elapse dt).fgField g o n = s.fgField g o n := by
  simp only [State.fgField, State.cfg_elapse]

@[simp] theorem State.nominal_elapse (s : State) (dt g : Nat) : (s.elapse dt).nominal g = s.nominal g :=
  State.fgField_elapse s dt g 0 1

@[simp] theorem State.nominalF_elapse (s : State) (dt g : Nat) : (s.elapse dt).nominalF g = s.nominalF g := by
  simp only [State.nominalF, State.nominal_elapse]

@[simp] theorem State.groupOn_elapse (s : State) (dt g : Nat) : (s.elapse dt).groupOn g = s.groupOn g := by
  simp only [State.groupOn, State.fgField_elapse]

@[simp] theorem State.sourceCount_elapse (s : State) (dt g : Nat) : (s.elapse dt).sourceCount g = s.sourceCount g :=
  State.fgField_elapse s dt g 2 1

@[simp] theorem State.srcSlots_elapse (s : State) (dt g k : Nat) : (s.elapse dt).srcSlots g k = s.srcSlots g k := by
  simp only [State.srcSlots, State.fgField_elapse]

@[simp] theorem State.groupDelay_elapse (s : State) (dt g : Nat) : (s.elapse dt).groupDelay g = s.groupDelay g := by
  simp only [State.groupDelay, State.groupSlots, State.sourceCount_elapse, State.srcSlots_elapse, State.slotCfg_elapse]

@[simp] theorem State.stepFreq_elapse (s : State) (dt g tau : Nat) (old : Bool) :
    (s.elapse dt).stepFreq g tau old = s.stepFreq g tau old := by
  simp only [State.stepFreq, State.sourceCount_elapse, State.groupDelay_elapse, State.elapse_cnd, State.nominalF_elapse,
    State.nominal_elapse, State.group_elapse]

@[simp] theorem State.estWindow_elapse (s : State) (dt g m c : Nat) :
    (s.elapse dt).estWindow g m c = s.estWindow g m c := by
  unfold State.estWindow State.estInstant
  rw [State.slotCfg_elapse, State.slot_elapse, State.nominal_elapse, State.elapse_cnd, State.frameRate_elapse]

@[simp] theorem State.estSource_elapse (s : State) (dt g m k : Nat) (x : EstSrc) :
    (s.elapse dt).estSource g m k x = s.estSource g m k x := by
  simp only [State.estSource, State.srcSlots_elapse, State.estWindow_elapse, State.fgField_elapse, State.nominal_elapse]

/-! ### A lattice reaches an instant (R202) -/

/-- The newest instant of a lattice is the one that it took last. -/
theorem State.latPts_latPush (s : State) (t : Nat) (p : LatPt) :
    (s.latPush t p).latPts t = (p :: s.latPts t).take 1024 :=
  congrArg Lattice.pts (tget_tset_same s.cnd.lats t { pts := (p :: s.latPts t).take 1024 } {})

theorem State.head?_latPush (s : State) (t : Nat) (p : LatPt) : ((s.latPush t p).latPts t).head? = some p := by
  rw [State.latPts_latPush]; rfl

/-- A lattice that has reached an instant emits none. -/
theorem State.latTo_reached {s : State} {g v n : Nat} {p : LatPt}
    (hp : (s.latPts (gridTable g v)).head? = some p) (hn : n ≤ p.n) (fuel : Nat) : s.latTo g v n fuel = s := by
  cases fuel with
  | zero => rfl
  | succ fuel =>
    obtain ⟨l, hl⟩ := List.head?_eq_some_iff.mp hp
    simp only [State.latTo, hl, ge_iff_le, hn, ↓reduceIte]

/-- A lattice one instant short emits that instant, with the frequency of the step from its newest one. -/
theorem State.latTo_step {s : State} {g v n f due : Nat} {q : LatPt}
    (hq : (s.latPts (gridTable g v)).head? = some q) (hn : q.n + 1 = n)
    (hf : s.stepFreq g q.tau false = some (f, due)) (fuel : Nat) :
    s.latTo g v n (fuel + 1) = s.latPush (gridTable g v)
      { n := q.n + 1, k := q.k + 1, tau := q.tau + latticeStep (cycleSize v) f, due := due } := by
  obtain ⟨l, hl⟩ := List.head?_eq_some_iff.mp hq
  have hshort : ¬ n ≤ q.n := by omega
  simp only [State.latTo, hl, ge_iff_le, hshort, ↓reduceIte, hf]
  exact State.latTo_reached (State.head?_latPush _ _ _) (Nat.le_of_eq hn.symm) fuel

/-- The newest instant of a lattice is the one of its grid index. -/
theorem State.gridInstant_newest {s : State} {g v : Nat} {p : LatPt} (hv : v < 0x10)
    (hp : (s.latPts (gridTable g v)).head? = some p) : s.gridInstant g v p.n = some p := by
  obtain ⟨l, hl⟩ := List.head?_eq_some_iff.mp hp
  unfold State.gridInstant
  rw [if_pos hv, hl]
  exact List.find?_cons_of_pos (decide_eq_true rfl)

/-! ### A grid sample is computed (R199) -/

/-- The instant `p` of a slot's next grid sample is known: the grid has it, or the slot's lattice emits it with its next
step (R201, R202). -/
def State.NextInstant (s : State) (c : StreamCfg) (i n : Nat) (p : LatPt) : Prop :=
  (0x10 ≤ c.grid i ∧ s.gridInstant c.group (c.grid i) n = some p) ∨
    (c.grid i < 0x10 ∧ (s.latPts (gridTable c.group (c.grid i))).head? = some p ∧ p.n = n) ∨
    (c.grid i < 0x10 ∧ ∃ q f due, (s.latPts (gridTable c.group (c.grid i))).head? = some q ∧ q.n + 1 = n ∧
      s.stepFreq c.group q.tau false = some (f, due) ∧
      p = { n := q.n + 1, k := q.k + 1, tau := q.tau + latticeStep (cycleSize (c.grid i)) f, due := due })

theorem State.nextInstant_elapse (s : State) (dt : Nat) (c : StreamCfg) (i n : Nat) (p : LatPt) :
    (s.elapse dt).NextInstant c i n p ↔ s.NextInstant c i n p := by
  simp only [State.NextInstant, State.gridInstant_elapse, State.latPts_elapse, State.stepFreq_elapse]

/-- A running slot whose next instant is known takes its grid sample there; its lattice may have moved on by then, and
no slot has. -/
theorem State.gridCompute_samples {s : State} {k i : Nat} {c : StreamCfg} {p : LatPt} (hc : s.slotCfg k = some (c, i))
    (hrun : (s.slot k).run = true) (hp : s.NextInstant c i (s.slot k).next p) :
    ∃ u : State, u.slot = s.slot ∧ s.gridCompute k = u.gridSample k c i p := by
  have heq (u : State) (hu : (if c.grid i < 0x10 then s.latTo c.group (c.grid i) (s.slot k).next 1024 else s) = u)
      (hinst : u.gridInstant c.group (c.grid i) (s.slot k).next = some p) :
      s.gridCompute k = u.gridSample k c i p := by
    unfold State.gridCompute
    simp only [hc, hrun, ↓reduceIte, hu, hinst]
  obtain ⟨hv, hinst⟩ | ⟨hv, hhead, hn⟩ | ⟨hv, q, f, due, hhead, hn, hf, rfl⟩ := hp
  · exact ⟨s, rfl, heq s (if_neg (Nat.not_lt.mpr hv)) hinst⟩
  · rw [← hn] at heq
    exact ⟨s, rfl, heq s ((if_pos hv).trans (State.latTo_reached hhead (Nat.le_refl _) _))
      (State.gridInstant_newest hv hhead)⟩
  · rw [← hn] at heq
    exact ⟨s.latPush _ _, rfl, heq _ ((if_pos hv).trans (State.latTo_step hhead rfl hf 1023))
      (State.gridInstant_newest hv (State.head?_latPush _ _ _))⟩

/-- A slot's output at the instant `p`, resampled to the value `v` with `tl` as its last input's instant (R199). -/
def GridOut.IsSample (o : GridOut) (r : Resp) (x : Slot) (p : LatPt) (v tl : Nat) : Prop :=
  o.n = p.n ∧ o.tau = p.tau ∧ o.value = v ∧ o.mark = gridMark r x tl

/-- A slot that has one output more, at the grid index `n`. -/
def Slot.sampled (x : Slot) (n : Nat) (o : GridOut) : Slot :=
  { x with next := n + 1, outs := (o :: x.outs).take 256 }

/-- A grid sample joins its slot's outputs before it goes to the plane and is counted (R199). -/
theorem State.gridSample_eq {s : State} {k i v tl : Nat} {c : StreamCfg} {p : LatPt}
    (h : resample (resp (c.response i)) (s.slot k) p.tau = some (v, tl)) :
    ∃ (o : GridOut) (a : Nat) (b : List Byte), o.IsSample (resp (c.response i)) (s.slot k) p v tl ∧
      s.gridSample k c i p =
        ((((s.setSlot k ((s.slot k).sampled p.n o)).plnPut a b).putGrid k o).prfChain 2 1).prfChain 3 1 := by
  unfold State.gridSample
  simp only [h]
  refine ⟨_, _, _, ?_, rfl⟩
  exact ⟨rfl, rfl, rfl, rfl⟩

/-- Of the chain a grid sample changes its own slot alone, with the marks of its settling inputs (R209). -/
theorem State.gridSample_cnd {s : State} {k i v tl : Nat} {c : StreamCfg} {p : LatPt}
    (h : resample (resp (c.response i)) (s.slot k) p.tau = some (v, tl)) :
    ∃ o : GridOut, o.IsSample (resp (c.response i)) (s.slot k) p v tl ∧
      (s.gridSample k c i p).cnd = (s.setSlot k ((s.slot k).sampled p.n o)).cnd := by
  obtain ⟨o, a, b, ho, heq⟩ := State.gridSample_eq h
  have hfr : Fr [.out, .regs, .once, .evt, .prf, .pln] (s.setSlot k ((s.slot k).sampled p.n o))
      (s.gridSample k c i p) := by
    rw [heq]
    exact State.prfChain_fr (State.prfChain_fr (State.putGrid_fr (State.plnPut_fr (Fr.refl _) (by decide))
      (by decide)) (by decide)) (by decide)
  exact ⟨o, ho, hfr.same (p := .cnd) (by decide)⟩

/-- What a settled slot means for substitutions leaves the chain as it is (R181, R183). -/
theorem gridSampleCompute_cnd {s : State} {k i : Nat} {c : StreamCfg} (hc : s.slotCfg k = some (c, i)) :
    (gridSampleCompute k s).cnd = (s.gridCompute k).cnd := by
  unfold gridSampleCompute
  simp only [hc]
  exact (State.partnerTry_fr (State.substEnd_fr (Fr.refl (s.gridCompute k)) (by decide))
    (List.Subset.refl _)).same (p := .cnd) (by decide)

/-- A slot's next grid sample, once its instant and its inputs exist. -/
theorem gridSampleCompute_adds {s : State} {k i v tl : Nat} {c : StreamCfg} {p : LatPt}
    (hc : s.slotCfg k = some (c, i)) (hrun : (s.slot k).run = true) (hp : s.NextInstant c i (s.slot k).next p)
    (hv : resample (resp (c.response i)) (s.slot k) p.tau = some (v, tl)) :
    ∃ o : GridOut, o.IsSample (resp (c.response i)) (s.slot k) p v tl ∧
      ∀ j, (gridSampleCompute k s).slot j = if j = k then (s.slot k).sampled p.n o else s.slot j := by
  obtain ⟨u, hslot, heq⟩ := State.gridCompute_samples hc hrun hp
  rw [← hslot] at hv ⊢
  obtain ⟨o, ho, hcnd⟩ := State.gridSample_cnd hv
  refine ⟨o, ho, fun j => ?_⟩
  rw [State.slot_congr ((gridSampleCompute_cnd hc).trans ((congrArg State.cnd heq).trans hcnd)), State.slot_setSlot]

/-! ### A group's frequency (R204, R205) -/

/-- A group keeps the estimators of both its sources, whichever it takes. -/
theorem groupTake_sources (f : Nat) (x : Group) (a b : EstStep) (n now : Nat) :
    (groupTake f x a b n now).src0 = a.est ∧ (groupTake f x a b n now).src1 = b.est := by
  unfold groupTake
  extract_lets y use
  split
  · exact ⟨rfl, rfl⟩
  · split
    · exact ⟨rfl, rfl⟩
    · split <;> exact ⟨rfl, rfl⟩

/-- A group whose frequency is that of its source `k`, at an update of it (R205). -/
def Group.Follows (y : Group) (e : EstStep) (k : Nat) : Prop :=
  y.freq = (dScaleRound (e.est.f.getD 0) 24).toNat ∧ y.valid = true ∧ y.source = k

theorem groupTake_first {f n : Nat} {x : Group} {a : EstStep} (b : EstStep) (now : Nat) (hn : 1 ≤ n)
    (ha : 12 ≤ a.est.run) : (groupTake f x a b n now).Follows a 1 := by
  unfold groupTake
  rw [if_pos ⟨hn, ha⟩]
  exact ⟨rfl, rfl, rfl⟩

theorem groupTake_second {f n : Nat} {x : Group} {a b : EstStep} (now : Nat) (ha : a.est.run < 12) (hn : 2 ≤ n)
    (hb : 12 ≤ b.est.run) : (groupTake f x a b n now).Follows b 2 := by
  unfold groupTake
  rw [if_neg fun h => Nat.not_lt.mpr h.2 ha, if_pos ⟨hn, hb⟩]
  exact ⟨rfl, rfl, rfl⟩

/-- Without a source that has run long enough a group holds its last frequency, or stays nominal where it had none
(R205). -/
theorem groupTake_none {f n : Nat} {x : Group} {a b : EstStep} (now : Nat) (ha : a.est.run < 12)
    (hb : n < 2 ∨ b.est.run < 12) :
    (groupTake f x a b n now).valid = false ∧ (groupTake f x a b n now).source = 0 ∧
      (groupTake f x a b n now).freq = (if x.was then x.freq else f) ∧ (groupTake f x a b n now).held = x.was := by
  unfold groupTake
  rw [if_neg fun h => Nat.not_lt.mpr h.2 ha, if_neg (by omega)]
  cases x.was <;> exact ⟨rfl, rfl, rfl, rfl⟩

/-- A group with its next estimate, which counts and joins its history (R204). -/
def Group.estimated (x y : Group) (due : Nat) : Group :=
  { y with m := x.m + 1, hist := ({ m := x.m, freq := y.freq, due := due } :: x.hist).take 1024 }

theorem State.groupEvents_cnd (s : State) (g : Nat) (old new : Group) : (s.groupEvents g old new).cnd = s.cnd :=
  (State.groupEvents_fr (Fr.refl s) (List.Subset.refl _)).same (p := .cnd) (by decide)

/-- The next estimate of a group once the inputs of its sources are in; a second source that it does not have stays
idle. -/
theorem freqEstimate_group {s : State} {g da db : Nat} {a b : EstStep} (hs0 : s.cnd.s0.isSome = true)
    (hon : s.groupOn g = true) (hn : 1 ≤ s.sourceCount g)
    (ha : s.estSource g (s.group g).m 0 (s.group g).src0 = some (a, da))
    (hb : if 2 ≤ s.sourceCount g then s.estSource g (s.group g).m 1 (s.group g).src1 = some (b, db)
      else b = { est := {}, slew := false, clamp := false } ∧ db = 0) (j : Nat) :
    (freqEstimate g s).group j = if j = g then (s.group g).estimated
      (groupTake (s.nominalF g) (s.group g) a b (s.sourceCount g) s.now) (max da db) else s.group j := by
  have hb' : (if s.sourceCount g ≥ 2 then s.estSource g (s.group g).m 1 (s.group g).src1
      else some ({ est := {}, slew := false, clamp := false }, 0)) = some (b, db) := by
    split at hb
    · next h2 => exact (if_pos h2).trans hb
    · next h2 =>
      obtain ⟨rfl, rfl⟩ := hb
      exact if_neg h2
  unfold freqEstimate
  simp only [hs0, hon, and_self, ↓reduceIte, ge_iff_le, hn, ha, hb', Nat.ne_of_gt hn]
  rw [State.group_congr (State.groupEvents_cnd _ _ _ _), State.group_setGroup]
  rfl

/-- Settles O40: a slot's next instant is on its grid or one step ahead of it, and `groupTake` chooses among a group's
sources. -/
theorem chainComputesSamplesAndFrequency : Obligations.ChainComputesSamplesAndFrequency := by
  unfold Obligations.ChainComputesSamplesAndFrequency
  refine ⟨fun dt i v tl k c p s hc hrun hp hv => ?_, fun dt da db g a b s hs0 hon hn ha hb => ?_⟩
  · replace hp := (s.nextInstant_elapse dt c i _ p).mpr hp
    rw [← State.slotCfg_elapse s dt] at hc
    simp only [← State.slot_elapse s dt] at hrun hp hv ⊢
    obtain ⟨o, ho, hslot⟩ := gridSampleCompute_adds hc hrun hp hv
    have hself := (hslot k.val).trans (if_pos rfl)
    exact ⟨_, rfl, congrArg Slot.next hself, ⟨o, congrArg Slot.outs hself, ho⟩,
      fun j hj => (hslot j).trans (if_neg hj),
      (gridSampleCompute_fr (State.elapse_fr (Fr.refl s) (by decide)) (by decide)).ch⟩
  · rw [← State.elapse_cnd s dt] at hs0
    simp only [← State.groupOn_elapse s dt, ← State.sourceCount_elapse s dt, ← State.estSource_elapse s dt,
      ← State.group_elapse s dt, ← State.nominalF_elapse s dt] at hon hn ha hb ⊢
    have hgroup := freqEstimate_group hs0 hon hn ha hb
    have hself := (hgroup g.val).trans (if_pos rfl)
    obtain ⟨hsrc0, hsrc1⟩ := groupTake_sources ((s.elapse dt).nominalF g.val) ((s.elapse dt).group g.val) a b
      ((s.elapse dt).sourceCount g.val) (s.elapse dt).now
    refine ⟨_, rfl, ?_⟩
    dsimp only
    rw [hself]
    exact ⟨rfl, hsrc0, hsrc1, rfl, fun hrun => groupTake_first b _ hn hrun,
      fun hrun h2 hrun2 => groupTake_second _ hrun h2 hrun2, fun hrun hnone => groupTake_none _ hrun hnone,
      fun j hj => (hgroup j).trans (if_neg hj),
      (freqEstimate_fr (State.elapse_fr (Fr.refl s) (by decide)) (by decide)).ch⟩

end Sys2Proof.Machine
end

section
/-!
SUPPORT. Every step: what each command's own lemma says, said once of `exec` and of `step`, and with it the sample
plane's memory in every step (R220).
-/

namespace Sys2Proof.Machine

open Sys2Proof

/-- Every part of the state: what commands in general may change. -/
def everyPart : List Part :=
  [.pending, .out, .readData, .regs, .cmds, .once, .time, .glb, .pwr, .log, .evt, .img, .bcn, .ports, .rdg, .cdv, .bin,
    .can, .prf, .pln, .svi, .cnd, .lmp, .hst, .kpr, .gal, .pub, .pair]

theorem subset_everyPart (l : List Part) : l ⊆ everyPart := fun p _ => by cases p <;> decide

/-- Every command answers a next state, and keeps what every operation keeps: one row of the table, one lemma of
Sys2Proof/Laws/Exec.lean. -/
theorem exec_fr (i : Instr) (s : State) : ∃ t, exec i s = .next t ∧ Fr everyPart s t :=
  match i with
  | .registerWrite .. => execRegisterWrite_fr (.refl s) (subset_everyPart _)
  | .partialWrite .. => execPartialWrite_fr (.refl s) (subset_everyPart _)
  | .rcCounterRead .. => execRcCounterRead_fr (.refl s) (subset_everyPart _)
  | .bcnTimeNsRead .. => execBcnTimeNsRead_fr (.refl s) (subset_everyPart _)
  | .bcnRateLoRead .. => execBcnRateLoRead_fr (.refl s) (subset_everyPart _)
  | .vfTimeNsRead .. => execVfTimeNsRead_fr (.refl s) (subset_everyPart _)
  | .prfValueLoRead .. => execPrfValueLoRead_fr (.refl s) (subset_everyPart _)
  | .binInTs32Read .. => execBinInTs32Read_fr (.refl s) (subset_everyPart _)
  | .logWindowLastRead .. => execLogWindowLastRead_fr (.refl s) (subset_everyPart _)
  | .plnWindowWrite .. => execPlnWindowWrite_fr (.refl s) (subset_everyPart _)
  | .mbxStateRead .. => execMbxStateRead_fr (.refl s) (subset_everyPart _)
  | .mbxStateWrite .. => execMbxStateWrite_fr (.refl s) (subset_everyPart _)
  | .cdvFallShWrite .. => execCdvFallShWrite_fr (.refl s) (subset_everyPart _)
  | .cdvPeriodShWrite .. => execCdvPeriodShWrite_fr (.refl s) (subset_everyPart _)
  | .bcnTsArmWrite .. => execBcnTsArmWrite_fr (.refl s) (subset_everyPart _)
  | .canTxReqWrite .. => execCanTxReqWrite_fr (.refl s) (subset_everyPart _)
  | .txTailWrite .. => execTxTailWrite_fr (.refl s) (subset_everyPart _)
  | .rxTailWrite .. => execRxTailWrite_fr (.refl s) (subset_everyPart _)
  | .latchClosed .. => execLatchClosed_fr (.refl s) (subset_everyPart _)
  | .supplyOn .. => execSupplyOn_fr (.refl s) (subset_everyPart _)
  | .prechargeComplete .. => execPrechargeComplete_fr (.refl s) (subset_everyPart _)
  | .prechargeFail .. => execPrechargeFail_fr (.refl s) (subset_everyPart _)
  | .prechargeRetry .. => execPrechargeRetry_fr (.refl s) (subset_everyPart _)
  | .bootStageComplete .. => execBootStageComplete_fr (.refl s) (subset_everyPart _)
  | .imageLoaded .. => execImageLoaded_fr (.refl s) (subset_everyPart _)
  | .commissionComplete .. => execCommissionComplete_fr (.refl s) (subset_everyPart _)
  | .commissionTimeout .. => execCommissionTimeout_fr (.refl s) (subset_everyPart _)
  | .enterTest .. => execEnterTest_fr (.refl s) (subset_everyPart _)
  | .exitTest .. => execExitTest_fr (.refl s) (subset_everyPart _)
  | .enterMaintenance .. => execEnterMaintenance_fr (.refl s) (subset_everyPart _)
  | .exitMaintenance .. => execExitMaintenance_fr (.refl s) (subset_everyPart _)
  | .leaveCommission .. => execLeaveCommission_fr (.refl s) (subset_everyPart _)
  | .handover .. => execHandover_fr (.refl s) (subset_everyPart _)
  | .leaveService .. => execLeaveService_fr (.refl s) (subset_everyPart _)
  | .restart .. => execRestart_fr (.refl s) (subset_everyPart _)
  | .latchOpened .. => execLatchOpened_fr (.refl s) (subset_everyPart _)
  | .removalQuiesced .. => execRemovalQuiesced_fr (.refl s) (subset_everyPart _)
  | .safeToRemove .. => execSafeToRemove_fr (.refl s) (subset_everyPart _)
  | .removalDormant .. => execRemovalDormant_fr (.refl s) (subset_everyPart _)
  | .blockReset .. => execBlockReset_fr (.refl s) (subset_everyPart _)
  | .blockResetDone .. => execBlockResetDone_fr (.refl s) (subset_everyPart _)
  | .pcieReset .. => execPcieReset_fr (.refl s) (subset_everyPart _)
  | .supplyLoss .. => execSupplyLoss_fr (.refl s) (subset_everyPart _)
  | .powerFailWarn .. => execPowerFailWarn_fr (.refl s) (subset_everyPart _)
  | .holdupExpiry .. => execHoldupExpiry_fr (.refl s) (subset_everyPart _)
  | .supplyRestored .. => execSupplyRestored_fr (.refl s) (subset_everyPart _)
  | .tamper .. => execTamper_fr (.refl s) (subset_everyPart _)
  | .thermalReading .. => execThermalReading_fr (.refl s) (subset_everyPart _)
  | .loadCandidate .. => execLoadCandidate_fr (.refl s) (subset_everyPart _)
  | .loadDone .. => execLoadDone_fr (.refl s) (subset_everyPart _)
  | .reload .. => execReload_fr (.refl s) (subset_everyPart _)
  | .reloadApply .. => execReloadApply_fr (.refl s) (subset_everyPart _)
  | .abandon .. => execAbandon_fr (.refl s) (subset_everyPart _)
  | .invalidateBank .. => execInvalidateBank_fr (.refl s) (subset_everyPart _)
  | .setMinGen .. => execSetMinGen_fr (.refl s) (subset_everyPart _)
  | .nvmStore .. => execNvmStore_fr (.refl s) (subset_everyPart _)
  | .nvmStoreDone .. => execNvmStoreDone_fr (.refl s) (subset_everyPart _)
  | .settingsWrite .. => execSettingsWrite_fr (.refl s) (subset_everyPart _)
  | .settingsRevert .. => execSettingsRevert_fr (.refl s) (subset_everyPart _)
  | .settingsRead .. => execSettingsRead_fr (.refl s) (subset_everyPart _)
  | .settingsApply .. => execSettingsApply_fr (.refl s) (subset_everyPart _)
  | .frameTick .. => execFrameTick_fr (.refl s) (subset_everyPart _)
  | .keeperWake .. => execKeeperWake_fr (.refl s) (subset_everyPart _)
  | .commit .. => execCommit_fr (.refl s) (subset_everyPart _)
  | .kgv .. => execKgv_fr (.refl s) (subset_everyPart _)
  | .kgm .. => execKgm_fr (.refl s) (subset_everyPart _)
  | .kiv .. => execKiv_fr (.refl s) (subset_everyPart _)
  | .kim .. => execKim_fr (.refl s) (subset_everyPart _)
  | .kphr .. => execKphr_fr (.refl s) (subset_everyPart _)
  | .kphi .. => execKphi_fr (.refl s) (subset_everyPart _)
  | .kphm .. => execKphm_fr (.refl s) (subset_everyPart _)
  | .kgt .. => execKgt_fr (.refl s) (subset_everyPart _)
  | .kbin .. => execKbin_fr (.refl s) (subset_everyPart _)
  | .kbinw .. => execKbinw_fr (.refl s) (subset_everyPart _)
  | .kbinq .. => execKbinq_fr (.refl s) (subset_everyPart _)
  | .kdec .. => execKdec_fr (.refl s) (subset_everyPart _)
  | .kdset .. => execKdset_fr (.refl s) (subset_everyPart _)
  | .kdclr .. => execKdclr_fr (.refl s) (subset_everyPart _)
  | .kdput .. => execKdput_fr (.refl s) (subset_everyPart _)
  | .kslw .. => execKslw_fr (.refl s) (subset_everyPart _)
  | .kssw .. => execKssw_fr (.refl s) (subset_everyPart _)
  | .kslf .. => execKslf_fr (.refl s) (subset_everyPart _)
  | .kssf .. => execKssf_fr (.refl s) (subset_everyPart _)
  | .kevt .. => execKevt_fr (.refl s) (subset_everyPart _)
  | .kyield .. => execKyield_fr (.refl s) (subset_everyPart _)
  | .kbudg .. => execKbudg_fr (.refl s) (subset_everyPart _)
  | .kftime .. => execKftime_fr (.refl s) (subset_everyPart _)
  | .keeperCsrRead .. => execKeeperCsrRead_fr (.refl s) (subset_everyPart _)
  | .keeperBaseInstruction .. => execKeeperBaseInstruction_fr (.refl s) (subset_everyPart _)
  | .budgetExpiry .. => execBudgetExpiry_fr (.refl s) (subset_everyPart _)
  | .resultMergeRelease .. => execResultMergeRelease_fr (.refl s) (subset_everyPart _)
  | .lockstepMiscompare .. => execLockstepMiscompare_fr (.refl s) (subset_everyPart _)
  | .keeperSramEcc .. => execKeeperSramEcc_fr (.refl s) (subset_everyPart _)
  | .keeperReplaceApply .. => execKeeperReplaceApply_fr (.refl s) (subset_everyPart _)
  | .move .. => execMove_fr (.refl s) (subset_everyPart _)
  | .moveApply .. => execMoveApply_fr (.refl s) (subset_everyPart _)
  | .funcRestart .. => execFuncRestart_fr (.refl s) (subset_everyPart _)
  | .funcRestartApply .. => execFuncRestartApply_fr (.refl s) (subset_everyPart _)
  | .keeperReturn .. => execKeeperReturn_fr (.refl s) (subset_everyPart _)
  | .keeperSelftestDone .. => execKeeperSelftestDone_fr (.refl s) (subset_everyPart _)
  | .macFrameRx .. => execMacFrameRx_fr (.refl s) (subset_everyPart _)
  | .egressTransmit .. => execEgressTransmit_fr (.refl s) (subset_everyPart _)
  | .pfcFrameRx .. => execPfcFrameRx_fr (.refl s) (subset_everyPart _)
  | .pfcPauseExpiry .. => execPfcPauseExpiry_fr (.refl s) (subset_everyPart _)
  | .pfcXoffRepeat .. => execPfcXoffRepeat_fr (.refl s) (subset_everyPart _)
  | .pfcWatchdog .. => execPfcWatchdog_fr (.refl s) (subset_everyPart _)
  | .pfcWatchdogReleaseEnd .. => execPfcWatchdogReleaseEnd_fr (.refl s) (subset_everyPart _)
  | .linkDown .. => execLinkDown_fr (.refl s) (subset_everyPart _)
  | .linkUp .. => execLinkUp_fr (.refl s) (subset_everyPart _)
  | .holdDownExpiry .. => execHoldDownExpiry_fr (.refl s) (subset_everyPart _)
  | .transceiverChange .. => execTransceiverChange_fr (.refl s) (subset_everyPart _)
  | .pcsFaultChange .. => execPcsFaultChange_fr (.refl s) (subset_everyPart _)
  | .utilSample1s .. => execUtilSample1s_fr (.refl s) (subset_everyPart _)
  | .utilSample10ms .. => execUtilSample10ms_fr (.refl s) (subset_everyPart _)
  | .speedChangeTimeout .. => execSpeedChangeTimeout_fr (.refl s) (subset_everyPart _)
  | .t1sCollision .. => execT1sCollision_fr (.refl s) (subset_everyPart _)
  | .t1sBackoffExpiry .. => execT1sBackoffExpiry_fr (.refl s) (subset_everyPart _)
  | .adminDown .. => execAdminDown_fr (.refl s) (subset_everyPart _)
  | .adminUp .. => execAdminUp_fr (.refl s) (subset_everyPart _)
  | .speedPin .. => execSpeedPin_fr (.refl s) (subset_everyPart _)
  | .reseqTimeout .. => execReseqTimeout_fr (.refl s) (subset_everyPart _)
  | .planeFault .. => execPlaneFault_fr (.refl s) (subset_everyPart _)
  | .ntEntryExpiry .. => execNtEntryExpiry_fr (.refl s) (subset_everyPart _)
  | .supervisionTx .. => execSupervisionTx_fr (.refl s) (subset_everyPart _)
  | .ntFlush .. => execNtFlush_fr (.refl s) (subset_everyPart _)
  | .planeSelect .. => execPlaneSelect_fr (.refl s) (subset_everyPart _)
  | .holddownEnd .. => execHolddownEnd_fr (.refl s) (subset_everyPart _)
  | .ptpSyncRx .. => execPtpSyncRx_fr (.refl s) (subset_everyPart _)
  | .ptpAnnounceRx .. => execPtpAnnounceRx_fr (.refl s) (subset_everyPart _)
  | .ptpDelayMsgRx .. => execPtpDelayMsgRx_fr (.refl s) (subset_everyPart _)
  | .ptpOtherMsgRx .. => execPtpOtherMsgRx_fr (.refl s) (subset_everyPart _)
  | .announceReceiptTimeout .. => execAnnounceReceiptTimeout_fr (.refl s) (subset_everyPart _)
  | .syncMissed .. => execSyncMissed_fr (.refl s) (subset_everyPart _)
  | .ptpSyncTx .. => execPtpSyncTx_fr (.refl s) (subset_everyPart _)
  | .ptpAnnounceTx .. => execPtpAnnounceTx_fr (.refl s) (subset_everyPart _)
  | .ptpPdelayReqTx .. => execPtpPdelayReqTx_fr (.refl s) (subset_everyPart _)
  | .timeLost .. => execTimeLost_fr (.refl s) (subset_everyPart _)
  | .revertHoldExpiry .. => execRevertHoldExpiry_fr (.refl s) (subset_everyPart _)
  | .irigFrameRx .. => execIrigFrameRx_fr (.refl s) (subset_everyPart _)
  | .irigError .. => execIrigError_fr (.refl s) (subset_everyPart _)
  | .step .. => execStep_fr (.refl s) (subset_everyPart _)
  | .stepApply .. => execStepApply_fr (.refl s) (subset_everyPart _)
  | .selectDomain .. => execSelectDomain_fr (.refl s) (subset_everyPart _)
  | .asymMeasure .. => execAsymMeasure_fr (.refl s) (subset_everyPart _)
  | .asymDone .. => execAsymDone_fr (.refl s) (subset_everyPart _)
  | .asymApply .. => execAsymApply_fr (.refl s) (subset_everyPart _)
  | .asymKeep .. => execAsymKeep_fr (.refl s) (subset_everyPart _)
  | .secondBoundary .. => execSecondBoundary_fr (.refl s) (subset_everyPart _)
  | .ppsRise .. => execPpsRise_fr (.refl s) (subset_everyPart _)
  | .ppsFall .. => execPpsFall_fr (.refl s) (subset_everyPart _)
  | .tsCaptured .. => execTsCaptured_fr (.refl s) (subset_everyPart _)
  | .svFrameRx .. => execSvFrameRx_fr (.refl s) (subset_everyPart _)
  | .sampleDeadline .. => execSampleDeadline_fr (.refl s) (subset_everyPart _)
  | .substForce .. => execSubstForce_fr (.refl s) (subset_everyPart _)
  | .substForceApply .. => execSubstForceApply_fr (.refl s) (subset_everyPart _)
  | .substRelease .. => execSubstRelease_fr (.refl s) (subset_everyPart _)
  | .substReleaseApply .. => execSubstReleaseApply_fr (.refl s) (subset_everyPart _)
  | .gridSampleCompute .. => execGridSampleCompute_fr (.refl s) (subset_everyPart _)
  | .freqEstimate .. => execFreqEstimate_fr (.refl s) (subset_everyPart _)
  | .chainSync .. => execChainSync_fr (.refl s) (subset_everyPart _)
  | .syncDone .. => execSyncDone_fr (.refl s) (subset_everyPart _)
  | .syncLineRise .. => execSyncLineRise_fr (.refl s) (subset_everyPart _)
  | .syncLineFall .. => execSyncLineFall_fr (.refl s) (subset_everyPart _)
  | .chainFault .. => execChainFault_fr (.refl s) (subset_everyPart _)
  | .eccUncorr .. => execEccUncorr_fr (.refl s) (subset_everyPart _)
  | .scrub .. => execScrub_fr (.refl s) (subset_everyPart _)
  | .scrubDone .. => execScrubDone_fr (.refl s) (subset_everyPart _)
  | .pubRepeatDue .. => execPubRepeatDue_fr (.refl s) (subset_everyPart _)
  | .lanternTimer .. => execLanternTimer_fr (.refl s) (subset_everyPart _)
  | .peerLanternRx .. => execPeerLanternRx_fr (.refl s) (subset_everyPart _)
  | .peerLanternLost .. => execPeerLanternLost_fr (.refl s) (subset_everyPart _)
  | .gooseRx .. => execGooseRx_fr (.refl s) (subset_everyPart _)
  | .subTimeout .. => execSubTimeout_fr (.refl s) (subset_everyPart _)
  | .subRestart .. => execSubRestart_fr (.refl s) (subset_everyPart _)
  | .subRestartApply .. => execSubRestartApply_fr (.refl s) (subset_everyPart _)
  | .fogTx .. => execFogTx_fr (.refl s) (subset_everyPart _)
  | .fogRx .. => execFogRx_fr (.refl s) (subset_everyPart _)
  | .fogSlotMiss .. => execFogSlotMiss_fr (.refl s) (subset_everyPart _)
  | .bregLaneChange .. => execBregLaneChange_fr (.refl s) (subset_everyPart _)
  | .partnerAbsentTimeout .. => execPartnerAbsentTimeout_fr (.refl s) (subset_everyPart _)
  | .yieldRx .. => execYieldRx_fr (.refl s) (subset_everyPart _)
  | .takeover .. => execTakeover_fr (.refl s) (subset_everyPart _)
  | .digestRx .. => execDigestRx_fr (.refl s) (subset_everyPart _)
  | .pubMirrorRx .. => execPubMirrorRx_fr (.refl s) (subset_everyPart _)
  | .ctrlReqRx .. => execCtrlReqRx_fr (.refl s) (subset_everyPart _)
  | .ctrlGrantRx .. => execCtrlGrantRx_fr (.refl s) (subset_everyPart _)
  | .ctrlConfirmRx .. => execCtrlConfirmRx_fr (.refl s) (subset_everyPart _)
  | .ctrlAbortRx .. => execCtrlAbortRx_fr (.refl s) (subset_everyPart _)
  | .ctrlDeadline .. => execCtrlDeadline_fr (.refl s) (subset_everyPart _)
  | .handbackHoldExpiry .. => execHandbackHoldExpiry_fr (.refl s) (subset_everyPart _)
  | .pairStartInitiate .. => execPairStartInitiate_fr (.refl s) (subset_everyPart _)
  | .soloWaitExpiry .. => execSoloWaitExpiry_fr (.refl s) (subset_everyPart _)
  | .alignInitiate .. => execAlignInitiate_fr (.refl s) (subset_everyPart _)
  | .alignReqRx .. => execAlignReqRx_fr (.refl s) (subset_everyPart _)
  | .alignPlanRx .. => execAlignPlanRx_fr (.refl s) (subset_everyPart _)
  | .alignDataRx .. => execAlignDataRx_fr (.refl s) (subset_everyPart _)
  | .alignFrameReached .. => execAlignFrameReached_fr (.refl s) (subset_everyPart _)
  | .bulkRx .. => execBulkRx_fr (.refl s) (subset_everyPart _)
  | .align .. => execAlign_fr (.refl s) (subset_everyPart _)
  | .handbackNow .. => execHandbackNow_fr (.refl s) (subset_everyPart _)
  | .hbInhibit .. => execHbInhibit_fr (.refl s) (subset_everyPart _)
  | .divergeClear .. => execDivergeClear_fr (.refl s) (subset_everyPart _)
  | .generate .. => execGenerate_fr (.refl s) (subset_everyPart _)
  | .lmpImport .. => execImport_fr (.refl s) (subset_everyPart _)
  | .lmpUpdate .. => execLmpUpdate_fr (.refl s) (subset_everyPart _)
  | .lmpClear .. => execLmpClear_fr (.refl s) (subset_everyPart _)
  | .keyReplaceDone .. => execKeyReplaceDone_fr (.refl s) (subset_everyPart _)
  | .attest .. => execAttest_fr (.refl s) (subset_everyPart _)
  | .readPublic .. => execReadPublic_fr (.refl s) (subset_everyPart _)
  | .readCert .. => execReadCert_fr (.refl s) (subset_everyPart _)
  | .storeCert .. => execStoreCert_fr (.refl s) (subset_everyPart _)
  | .operate .. => execOperate_fr (.refl s) (subset_everyPart _)
  | .lmpOperationDone .. => execLmpOperationDone_fr (.refl s) (subset_everyPart _)
  | .provision .. => execProvision_fr (.refl s) (subset_everyPart _)
  | .deploy .. => execDeploy_fr (.refl s) (subset_everyPart _)
  | .slotIntegrityPass .. => execSlotIntegrityPass_fr (.refl s) (subset_everyPart _)
  | .factoryManufacture .. => execFactoryManufacture_fr (.refl s) (subset_everyPart _)
  | .arm .. => execArm_fr (.refl s) (subset_everyPart _)
  | .disarm .. => execDisarm_fr (.refl s) (subset_everyPart _)
  | .trigger .. => execTrigger_fr (.refl s) (subset_everyPart _)
  | .triggerApply .. => execTriggerApply_fr (.refl s) (subset_everyPart _)
  | .release .. => execRelease_fr (.refl s) (subset_everyPart _)
  | .copy .. => execCopy_fr (.refl s) (subset_everyPart _)
  | .copyDone .. => execCopyDone_fr (.refl s) (subset_everyPart _)
  | .preTriggerFilled .. => execPreTriggerFilled_fr (.refl s) (subset_everyPart _)
  | .captureEnd .. => execCaptureEnd_fr (.refl s) (subset_everyPart _)
  | .holdoffExpiry .. => execHoldoffExpiry_fr (.refl s) (subset_everyPart _)
  | .archiveDone .. => execArchiveDone_fr (.refl s) (subset_everyPart _)
  | .logRecordAccept .. => execLogRecordAccept_fr (.refl s) (subset_everyPart _)
  | .criticalNvmWrite .. => execCriticalNvmWrite_fr (.refl s) (subset_everyPart _)
  | .logFreeze .. => execLogFreeze_fr (.refl s) (subset_everyPart _)
  | .logUnfreeze .. => execLogUnfreeze_fr (.refl s) (subset_everyPart _)
  | .freezeTimeout .. => execFreezeTimeout_fr (.refl s) (subset_everyPart _)
  | .holdDrainDone .. => execHoldDrainDone_fr (.refl s) (subset_everyPart _)
  | .clearArm .. => execClearArm_fr (.refl s) (subset_everyPart _)
  | .clearConfirm .. => execClearConfirm_fr (.refl s) (subset_everyPart _)
  | .clearArmExpiry .. => execClearArmExpiry_fr (.refl s) (subset_everyPart _)
  | .pcieLinkDown .. => execPcieLinkDown_fr (.refl s) (subset_everyPart _)
  | .pcieLinkUp .. => execPcieLinkUp_fr (.refl s) (subset_everyPart _)
  | .vfEnableChange .. => execVfEnableChange_fr (.refl s) (subset_everyPart _)
  | .pcieFlr .. => execPcieFlr_fr (.refl s) (subset_everyPart _)
  | .flrDone .. => execFlrDone_fr (.refl s) (subset_everyPart _)
  | .hostTxFrame .. => execHostTxFrame_fr (.refl s) (subset_everyPart _)
  | .hostRxFrame .. => execHostRxFrame_fr (.refl s) (subset_everyPart _)
  | .itrExpiry .. => execItrExpiry_fr (.refl s) (subset_everyPart _)
  | .dmaFault .. => execDmaFault_fr (.refl s) (subset_everyPart _)
  | .queueAssign .. => execQueueAssign_fr (.refl s) (subset_everyPart _)
  | .vectorAssign .. => execVectorAssign_fr (.refl s) (subset_everyPart _)
  | .windowSet .. => execWindowSet_fr (.refl s) (subset_everyPart _)
  | .windowSetApply .. => execWindowSetApply_fr (.refl s) (subset_everyPart _)
  | .shareSet .. => execShareSet_fr (.refl s) (subset_everyPart _)
  | .shareSetApply .. => execShareSetApply_fr (.refl s) (subset_everyPart _)
  | .mbxBind .. => execMbxBind_fr (.refl s) (subset_everyPart _)
  | .classifierSet .. => execClassifierSet_fr (.refl s) (subset_everyPart _)
  | .grantSet .. => execGrantSet_fr (.refl s) (subset_everyPart _)
  | .attachSet .. => execAttachSet_fr (.refl s) (subset_everyPart _)
  | .vfReset .. => execVfReset_fr (.refl s) (subset_everyPart _)
  | .queueEnable .. => execQueueEnable_fr (.refl s) (subset_everyPart _)
  | .queueDisable .. => execQueueDisable_fr (.refl s) (subset_everyPart _)
  | .queueIdle .. => execQueueIdle_fr (.refl s) (subset_everyPart _)
  | .guestLoad .. => execGuestLoad_fr (.refl s) (subset_everyPart _)
  | .guestPlace .. => execGuestPlace_fr (.refl s) (subset_everyPart _)
  | .guestUnload .. => execGuestUnload_fr (.refl s) (subset_everyPart _)
  | .guestRestart .. => execGuestRestart_fr (.refl s) (subset_everyPart _)
  | .galCopy .. => execGalCopy_fr (.refl s) (subset_everyPart _)
  | .carrierPeriodBoundary .. => execCarrierPeriodBoundary_fr (.refl s) (subset_everyPart _)
  | .riseCompare .. => execRiseCompare_fr (.refl s) (subset_everyPart _)
  | .fallCompare .. => execFallCompare_fr (.refl s) (subset_everyPart _)
  | .deadTimeExpiry .. => execDeadTimeExpiry_fr (.refl s) (subset_everyPart _)
  | .blankExpiry .. => execBlankExpiry_fr (.refl s) (subset_everyPart _)
  | .pullinExpiry .. => execPullinExpiry_fr (.refl s) (subset_everyPart _)
  | .ocTrip .. => execOcTrip_fr (.refl s) (subset_everyPart _)
  | .supMeasure .. => execSupMeasure_fr (.refl s) (subset_everyPart _)
  | .supResume .. => execSupResume_fr (.refl s) (subset_everyPart _)
  | .ocClear .. => execOcClear_fr (.refl s) (subset_everyPart _)
  | .inputChangeAccepted .. => execInputChangeAccepted_fr (.refl s) (subset_everyPart _)
  | .canFrameRx .. => execCanFrameRx_fr (.refl s) (subset_everyPart _)
  | .canTxComplete .. => execCanTxComplete_fr (.refl s) (subset_everyPart _)
  | .canBusError .. => execCanBusError_fr (.refl s) (subset_everyPart _)
  | .busOffRecovered .. => execBusOffRecovered_fr (.refl s) (subset_everyPart _)
  | .canMapTimeout .. => execCanMapTimeout_fr (.refl s) (subset_everyPart _)
  | .abdCandidateTimeout .. => execAbdCandidateTimeout_fr (.refl s) (subset_everyPart _)
  | .recover .. => execRecover_fr (.refl s) (subset_everyPart _)
  | .abortTx .. => execAbortTx_fr (.refl s) (subset_everyPart _)
  | .abdStart .. => execAbdStart_fr (.refl s) (subset_everyPart _)
  | .listen .. => execListen_fr (.refl s) (subset_everyPart _)
  | .listenApply .. => execListenApply_fr (.refl s) (subset_everyPart _)
  | .snapshot .. => execSnapshot_fr (.refl s) (subset_everyPart _)
  | .snapshotDone .. => execSnapshotDone_fr (.refl s) (subset_everyPart _)
  | .prfFreeze .. => execPrfFreeze_fr (.refl s) (subset_everyPart _)
  | .prfUnfreeze .. => execPrfUnfreeze_fr (.refl s) (subset_everyPart _)
  | .prfClear .. => execPrfClear_fr (.refl s) (subset_everyPart _)
  | .msiMessageSend .. => execMsiMessageSend_fr (.refl s) (subset_everyPart _)
  | .msixUnmask .. => execMsixUnmask_fr (.refl s) (subset_everyPart _)
  | .resend .. => execResend_fr (.refl s) (subset_everyPart _)
  | .inputLevelChange .. => execInputLevelChange_fr (.refl s) (subset_everyPart _)
  | .backgroundScrub .. => execBackgroundScrub_fr (.refl s) (subset_everyPart _)

/-- With the front command off the queue, a step keeps what every operation keeps. On an empty queue it idles, which is
the model's choice (log entry 2). -/
theorem step_keep {s t : State} (h : step s = .next t) : Keep { s with pending := s.pending.tail } t := by
  unfold step at h
  split at h
  next hp =>
    cases h
    exact { Keep.refl s with pending := by rw [hp]; rfl }
  next c rest hp =>
    obtain ⟨u, hu, hfr⟩ := exec_fr c { s with pending := rest }
    rw [hu] at h
    cases h
    rw [hp]
    exact hfr.keep

/-- Settles O4: a command writes the memory by `State.plnPut`, which keeps the canonical form by `memPut_wf`, and a
reset of the module empties it. That a byte not listed reads as its default, and none is listed with it, is the model's
choice (log entry 6). -/
theorem stepKeepsPlaneMemoryCanonical : Obligations.StepKeepsPlaneMemoryCanonical := by
  unfold Obligations.StepKeepsPlaneMemoryCanonical
  exact fun s t hmem hstep => (step_keep hstep).mem hmem

end Sys2Proof.Machine
end
